-- ==== Sys2Proof/Word.lean ====
section
/-! DEFINITION. The word types of the block: what the manual treats as bits. Plainest arithmetic only. -/

namespace Sys2Proof

/-- A register word (R11). -/
abbrev W32 := BitVec 32

/-- A record word (R201 and the chapters' record formats). -/
abbrev W64 := BitVec 64

/-- A byte. -/
abbrev W8 := BitVec 8

/-- A BAR0 byte offset: BAR0 is 32 MiB (R457). -/
abbrev BarAddr := BitVec 25

end Sys2Proof
end

