-- ==== Sys2Proof/Syntax.lean ====
section
/-! DEFINITION. The commands of the block, one constructor of Instr per row of spec/opcode_table.json, and the types of their operands.
An operand carries what comes from outside the block: what the host, the link partner or the test port writes, what a pin, a sensor or a
converter shows, and which unit an occurrence concerns. -/

namespace Sys2Proof

/-- A die number (R2). -/
abbrev Die := Fin 4
/-- A DSP core number (R285). -/
abbrev Core := Fin 4
/-- A region number within its die (R29). -/
abbrev Region := Fin 128
/-- A rail, by its bit in PWR.RAIL_STATUS (R527). -/
abbrev Rail := Fin 7
/-- A temperature sensor (R538). -/
abbrev Sensor := Fin 72
/-- A DMA ring: 0-7 readout, 8 and 9 host-to-device (R461). -/
abbrev Ring := Fin 10
/-- A readout ring (R464). -/
abbrev ReadRing := Fin 8
/-- A host-to-device ring: 0 is ring 8, 1 is ring 9 (R468). -/
abbrev H2dRing := Fin 2
/-- A lane: 0-7 transmit, 8 and 9 receive (R424). -/
abbrev Lane := Fin 10
/-- A place in the model's one register space: BAR0 offsets below 0x200_0000, BAR2 offsets from 0x200_0000 (R457, R479; log 4). -/
abbrev RegAddr := BitVec 26

/-- A pixel by its die-local address (R23, R34). -/
structure Pix where
  die : Die
  row : Fin 256
  col : Fin 512
  deriving DecidableEq, Repr

/-- The routes to the registers (R30, R31). -/
inductive Route where
  | pcie | slow | dsp (core : Core)
  deriving DecidableEq, Repr

/-- The register pages of R479. -/
inductive Page where
  | hlt | pci | tim0 | evc | thm | pwrDom | pwrMon | nvs | evb | trg | sec | his | cdr | sta0 | sta1 | dsp (core : Core) | lnk | zvl
  | die (d : Die) | pix (d : Die) | conv (d : Die) | reg (d : Die) (n : Region) | sea0 | sea1 | tim1 | coef
  deriving DecidableEq, Repr

/-- The staged table images (R213, R229, R346, R396, R547). -/
inductive StagedTable where
  | format | condition | sequence | equalisation | curve
  deriving DecidableEq, Repr

/-- The paced operations of R549. -/
inductive PacedKind where
  | injection | scrub | bist | storeWrite
  deriving DecidableEq, Repr

/-- What reading a protected word or page finds (R262, R565, R566). -/
inductive ReadFinding where
  | ok | corrected | uncorrectable
  deriving DecidableEq, Repr

/-- A word of the history memory that is not read as it was written (R262): its line and its index there, the line whose word the memory
returns, and the bits that have changed of the 64 of the word, its eight SECDED bits and its CRC-8, from the lowest bit. -/
structure LineFinding where
  line : BitVec 32
  index : Fin 8
  source : BitVec 32
  flips : BitVec 80
  deriving DecidableEq, Repr

/-- The SECDED memories of the concentrator that R566 scrubs, with the record or word concerned where R567 repairs it, and the buffers of the
two coders (R380): of the lossless coder's contexts, by the number of the block among those that wait to be emitted, the open one after them. -/
inductive ScrubPlace where
  | corrRecord (cluster : BitVec 15) | coefWord (index : BitVec 13) | coder (ctx : Fin 16) (block : Nat) | fixedRatio | other
  deriving DecidableEq, Repr

/-- One word the scrub found in error. -/
structure ScrubFinding where
  place : ScrubPlace
  uncorrectable : Bool
  deriving DecidableEq, Repr

/-- The settings a host configuration write leaves in force (R455, R460, R482, R483). -/
structure PcieConfig where
  busMaster : Bool
  d3hot : Bool
  msixEnable : Bool
  functionMask : Bool
  interruptDisable : Bool
  maxPayload : Nat
  maxReadRequest : Nat
  deriving DecidableEq, Repr

/-- A register of marks with a level bit (R125, R215). -/
inductive Watermark where
  | region (die : Die) (n : Region) | channels (die : Die) | outputQueue
  deriving DecidableEq, Repr

/-- A handshake channel of the die with a watchdog (R141); of a region's FIFO, the entry in the stage before the stalled channel, counted from the
output. -/
inductive WatchdogPlace where
  | converter (pix : Pix) | pixel (pix : Pix) | fifo (die : Die) (n : Region) (entry : Fin 16) | band (die : Die) (b : Fin 8) | channel (die : Die) (c : Fin 4)
  deriving DecidableEq, Repr

/-- Why a receive lane loses lock (R411). -/
inductive RxLoss where
  | signal | fec | align | rate | pll
  deriving DecidableEq, Repr

/-- Why a transmit lane loses lock (R412). -/
inductive TxLoss where
  | pll | driver | remote
  deriving DecidableEq, Repr

/-! ### The DSP's operand forms (R294, R299, R310, R311) -/

/-- The registers of a DSP core (R294). -/
inductive DspReg where
  | d (n : Fin 8) | p (n : Fin 8) | i (n : Fin 8) | b (n : Fin 8) | acT (n : Fin 4) | acM (n : Fin 4) | acB (n : Fin 4)
  | sr | lc | lb | le | spc | ssr | lr
  deriving DecidableEq, Repr

/-- The addressing modes of R299. -/
inductive DspMode where
  | ptr | postI | offI | preI | offDisp | postDisp | preDisp | abs
  deriving DecidableEq, Repr

/-- A parallel move slot (R310): idle, a load into Dd, or a store from Dd, through pointer Pp stepped by Ip. -/
inductive DspSlot where
  | none | load (d : Fin 8) (p : Fin 8) | store (d : Fin 8) (p : Fin 8)
  deriving DecidableEq, Repr

/-- The ALU source s (R311): a D register or an accumulator. -/
inductive DspSrc where
  | d (n : Fin 8) | ac (n : Fin 4)
  deriving DecidableEq, Repr

/-- The branch conditions (R311). -/
inductive DspCond where
  | t | eq | ne | lt | ge | gt | le | vs | vc | xs | xc | os | ss
  deriving DecidableEq, Repr



/-- The commands of the block. -/
inductive Instr where
  /-- REGISTER_WRITE (R9): A write to a register that has no row of its own, written field by field under its access codes, with RWS fields refused while the sealed domain is not UNSEALED. -/
  | registerWrite (route : Route) (addr : RegAddr) (data : W32)
  /-- RWA_WRITE (R494): A write to an RWA register takes effect only with the authenticated mark; otherwise it is refused, audited and alarmed with AUTH_REJECT. -/
  | rwaWrite (route : Route) (mark : Option (Fin 4)) (addr : RegAddr) (data : W32)
  /-- LATCHED_PAIR_READ (R458): A read of a _LO register, or of a register that samples others, latches its partner registers for later reads. -/
  | latchedPairRead (route : Route) (addr : RegAddr)
  /-- PAGE_ENABLE_CLEAR (R473): Clearing PAGE_CTRL.ENABLE makes a block take no new work and drain the work it holds, going DRAINING or IDLE. -/
  | pageEnableClear (page : Page)
  /-- PAGE_ENABLE_SET (R473): Setting PAGE_CTRL.ENABLE lets a block take new work and ends a drain without discarding anything. -/
  | pageEnableSet (page : Page)
  /-- PAGE_DRAIN_DONE (R473): A draining block finishes its held work, and its page goes from DRAINING to IDLE. -/
  | pageDrainDone (page : Page)
  /-- PAGE_ABORT (R474): Setting PAGE_CTRL.ABORT discards the block's held work and counts what was discarded. -/
  | pageAbort (page : Page)
  /-- PAGE_ABORT_DONE (R474): An abort completes, ABORT reads 0, and the ENABLE and SOFT_RESET writes held during the abort take effect. -/
  | pageAbortDone (page : Page)
  /-- PAGE_SOFT_RESET (R475): Writing PAGE_CTRL.SOFT_RESET clears the block's counters, EV_STICKY and FAULT, and whatever else the block's chapter adds. -/
  | pageSoftReset (page : Page)
  /-- EV_SET_WRITE (R476): A write of 1 to EV_SET bit b sets EV_STICKY bit b as if the event had been raised, with every delivery that follows. -/
  | evSetWrite (page : Page) (bits : W32)
  /-- DISCRIMINATOR_LEADING_EDGE (R25): An armed, unmasked pixel sees a rising discriminator edge, latches the coarse time, disarms and requests its cluster converter. -/
  | discriminatorLeadingEdge (pix : Pix) (contest : Bool) (edge : Bool) (start : BitVec 80)
  /-- DISCRIMINATOR_TRAILING_EDGE (R98): The discriminator falls, the pixel latches C2, the converter stop is captured and the hit becomes ready for the region. -/
  | discriminatorTrailingEdge (pix : Pix) (edge : Bool) (stop : BitVec 80)
  /-- TOT_SATURATION (R56): A discriminator that stays high for 8,191 ToT units ends the hit as saturated, and the pixel treats that moment as its trailing edge. -/
  | totSaturation (pix : Pix)
  /-- CONVERTER_FREE (R27): A cluster converter becomes free at most 8 ns after the granted pixel's stop. -/
  | converterFree (die : Die) (cluster : Fin 8192)
  /-- PIXEL_REARM (R25): A pixel re-arms at the later of 25 ns after its trailing edge and the acceptance of its hit by the region. -/
  | pixelRearm (pix : Pix)
  /-- REGION_ACCEPT_HIT (R120): The region's input arbitration accepts a waiting hit into FIFO stage 0 once there is room. -/
  | regionAcceptHit (die : Die) (region : Region)
  /-- FLOW_CONTROL_PIN_UPDATE (R126): BUSY_N or WARN_N asserts or deasserts as its selected sources change, with a minimum assertion of 50 ns. -/
  | flowControlPinUpdate
  /-- WATERMARK_WRITE (R125): A write to REG.WM, DIE.CH_WM or EVB.OQ_WM is limited, stored, and the level bit is evaluated again. -/
  | watermarkWrite (mark : Watermark) (data : W32)
  /-- TEST_HIT_OFFER (R146): A TEST_HIT2 write while TEST is 1 offers a test hit at the region input. -/
  | testHitOffer (die : Die) (region : Region) (data : W32)
  /-- BAND_GRANT (R128): The band arbiter grants a requesting region, and one hit or LOSS item passes to the die-to-die channel. -/
  | bandGrant (die : Die) (band : Fin 8)
  /-- CHANNEL_MERGE (R129): The die-to-die channel merger takes one whole item from one of its two bands into the periphery queue. -/
  | channelMerge (die : Die) (chan : Fin 4) (first : Bool)
  /-- D2D_WORD_RECEIVE (R135): The receiver accepts a word of a die-to-die channel, checks SECDED and framing, and passes on whole items. -/
  | d2dWordReceive (die : Die) (chan : Fin 4) (arrived : Option (BitVec 42)) (finding : ReadFinding)
  /-- HANDSHAKE_WATCHDOG_RESET (R141): A data-path handshake that has been stuck for 10 µs is reset, and the one item in flight is discarded and counted. -/
  | handshakeWatchdogReset (place : WatchdogPlace)
  /-- CONCENTRATOR_WATCHDOG_RESET (R216): A stuck internal concentrator channel is reset, discards at most one record, and sets FAULT after 8 successive resets. -/
  | concentratorWatchdogReset (chan : Fin 8) (receiver : Fin 16)
  /-- REGION_FLUSH (R137): An ABORT of a REG page discards the region FIFO and the waiting hits, and raises FLUSH_DONE. -/
  | regionFlush (die : Die) (region : Region)
  /-- CHANNEL_FLUSH (R138): DIE.CH_CTRL.FLUSH[c] discards the complete items of a channel queue and waits for an item that is being written. -/
  | channelFlush (die : Die) (chans : BitVec 4)
  /-- CHANNEL_FLUSH_DONE (R138): The flushed queue becomes empty, FLUSH_BUSY clears and FLUSH_DONE is raised, or FLUSH_TRUNCATED when the merger stalled. -/
  | channelFlushDone (die : Die) (chan : Fin 4) (truncated : Bool)
  /-- CHANNEL_RESTART (R148): DIE.CH_CTRL.RESTART resets a DOWN channel, sets it up and returns its own bands to it. -/
  | channelRestart (die : Die) (chans : BitVec 4)
  /-- CHANNEL_RESTART_CHECK (R148): One millisecond after a restart, a channel that had an item to send and delivered none goes DOWN again. -/
  | channelRestartCheck (die : Die) (chan : Fin 4)
  /-- BAND_ENABLE_WRITE (R142): The host writes DIE.BAND_CTRL.EN and restores or disables band arbiters. -/
  | bandEnableWrite (die : Die) (data : W32)
  /-- TREF_FREQ_MEASURE (R82): Once per millisecond the island measures TREF against REFCLK, and a value outside 148–172 MHz makes TREF lost. -/
  | trefFreqMeasure (khz : BitVec 18)
  /-- TREF_EDGE_RESUME (R82): The first TREF edge after power-up or after a loss makes TREF present again. -/
  | trefEdgeResume
  /-- TREF_GAP (R82): No TREF edge for 64 control-clock cycles makes TREF lost. -/
  | trefGap
  /-- LOCK_ACQUIRED (R84): LOCK sets once TREF is present and two PLLs are locked and in phase, and LOCK_RESTORED and SYNC_STALE follow. -/
  | lockAcquired (plls : BitVec 3)
  /-- PLL_LOSS_OF_LOCK (R83): A PLL loses lock, is excluded from the vote and restarted, and ISLAND_FAULT is raised when fewer than two stay locked. -/
  | pllLossOfLock (pll : Fin 3)
  /-- VOTE_ERROR (R83): A coarse-tick counter that disagrees with the majority is reloaded, and VOTE_ERRORS increments. -/
  | voteError (pll : Fin 3)
  /-- PLL_RESTART (R116): TIM.CTRL.PLL_RESTART restarts all three PLLs and clears LOCK. -/
  | pllRestart
  /-- DLL_LOCK_ACHIEVED (R94): A die's delay-locked loop locks, and DLL_LOCK sets for that die. -/
  | dllLockAchieved (die : Die)
  /-- DLL_UNLOCK (R94): A die's delay-locked loop loses lock, and its hits become coarse-only. -/
  | dllUnlock (die : Die)
  /-- SYNC_EDGE (R89): SYNC_IN sampled at 1 after 0 while LOCK is 1 is accepted under MODE, and the epoch increments. -/
  | syncEdge
  /-- SYNC_LOAD_TICK (R90): At the load tick, 32 CT after sampling, the counter is loaded or checked under the loading rule. -/
  | syncLoadTick (phase : BitVec 16)
  /-- FRAME_START (R193): A new frame begins: its context is allocated and the format, mode and die mask are sampled. -/
  | frameStart (phase : BitVec 16)
  /-- CORR_DATA_WRITE (R102): A write of a correction record word changes the word or commits the record, refused while the domain is sealed. -/
  | corrDataWrite (route : Route) (data : W32)
  /-- TCU_CONVERT_HIT (R104): The time correction unit converts a received hit into toa_abs, ToT and flags. -/
  | tcuConvertHit (receiver : Fin 16)
  /-- EVB_ACCEPT_HIT (R187): A converted hit enters the sort buffer, or goes into a LATE record when it is late. -/
  | evbAcceptHit (full : Bool)
  /-- HIT_RELEASE (R188): The release front passes a hit, and it goes in key order to the trigger engine and the history ring manager. -/
  | hitRelease (full : Bool)
  /-- FRAME_HEADER_QUEUE (R192): The front reaches a frame start and the frame header is queued, stalling when the frame context is missing. -/
  | frameHeaderQueue
  /-- ALIGNMENT_RECORD_QUEUE (R192): The front reaches a frame end, open LATE records are closed, and the alignment record is queued. -/
  | alignmentRecordQueue
  /-- LATE_RECORD_TIMEOUT (R211): An open LATE record is closed 1 µs after its first hit. -/
  | lateRecordTimeout
  /-- FRAME_CONTEXT_RETRY (R198): A refused FRAME context allocation is retried every 64 CT. -/
  | frameContextRetry
  /-- CONTEXT_RELEASE (R196): Every routed path has released a QUEUED context's last word, and the context becomes FREE. -/
  | contextRelease (index : BitVec 10)
  /-- QUOTA_WRITE (R199): A write to EVB.QUOTA takes effect at once and releases nothing. -/
  | quotaWrite (cls : Fin 8) (data : W32)
  /-- CTX_DATA_READ (R200): A read of EVB.CTX_DATA0 samples the addressed context's descriptor. -/
  | ctxDataRead
  /-- TABLE_STAGING_WRITE (R220): A write to a table image staging register stores a word and advances the address. -/
  | tableStagingWrite (table : StagedTable) (high : Bool) (data : W32)
  /-- FMT_COMMIT (R214): EVB.FMT_CTRL.COMMIT checks the staged format image and schedules it for the next frame start, or rejects it. -/
  | fmtCommit
  /-- COND_COMMIT (R231): TRG.COND_CTRL.COMMIT checks the staged condition table and applies it at the next frame start, or rejects it. -/
  | condCommit
  /-- CONDITION_EVALUATION (R233): At a coarse tick, every enabled condition is tested for a match, with re-arm, prescale and outputs, forming the candidate set. -/
  | conditionEvaluation
  /-- SW_TRIG_WRITE (R226): A write to TRG.SW_TRIG presents software primitives at the next tick. -/
  | swTrigWrite (data : W32)
  /-- TRIG_IN_EDGE (R227): A qualified rising edge on TRIG_IN0 or TRIG_IN1 is presented as a primitive; the pin keeps its new level for `hold` CT. -/
  | trigInEdge (line : Fin 2) (rising : Bool) (hold : Nat)
  /-- TRIGGER_DECISION (R235): At the decision tick a candidate trigger is tested and accepted or ignored, and TRIG_OUT and the ADC lines assert. -/
  | triggerDecision
  /-- REARM_EXPIRE (R237): A condition leaves re-arm when the coarse time reaches its re-arm end. -/
  | rearmExpire (cond : Fin 64)
  /-- TRIG_OUT_PULSE_END (R247): The TRIG_OUT pulse ends WIDTH CT after its last extension. -/
  | trigOutPulseEnd
  /-- TRIGGER_WINDOW_CLOSE (R241): The release front passes W1, and the trigger record is completed and queued. -/
  | triggerWindowClose
  /-- CAPTURE_DONE (R242): The ring reports every hit of a capture window written, and the capture set completes. -/
  | captureDone
  /-- MASK_TEST_INTERVAL (R244): An occupancy test interval is evaluated when the release front passes its end. -/
  | maskTestInterval (test : Fin 8)
  /-- MASK_RELEASE (R246): TRG.MASK_CTRL.RELEASE clears the violations and lets the ring resume at the next frame start. -/
  | maskRelease
  /-- FE_CTRL_WRITE (R46): A write to PIX.FE_CTRL changes POLARITY only while FE_INHIBIT is 1, and stores it in the non-volatile store. -/
  | feCtrlWrite (route : Route) (die : Die) (data : W32)
  /-- VTH_WRITE (R51): A write to PIX.VTH changes the die threshold, which settles within 10 µs. -/
  | vthWrite (die : Die) (data : W32)
  /-- GAIN_LG_WRITE (R52): A write to PIX.GAIN_LG sets or cancels a region's pending gain change. -/
  | gainLgWrite (die : Die) (word : Fin 4) (data : W32)
  /-- GAIN_APPLY (R54): A pending gain range is applied after 100 ns of quiet on the pixel OR, and the transition interval begins. -/
  | gainApply (die : Die) (region : Region)
  /-- GAIN_TRANSITION_END (R54): The 20 ns transition interval after a gain change ends. -/
  | gainTransitionEnd (die : Die) (region : Region)
  /-- TBL_DATA_WRITE (R59): A write to PIX.TBL_DATA changes four pixel entries, with TRIM sealed, and advances the address. -/
  | tblDataWrite (route : Route) (die : Die) (data : W32)
  /-- TBL_DATA_READ (R80): A read of PIX.TBL_DATA returns four entries and advances the address. -/
  | tblDataRead (die : Die)
  /-- STAT_DATA_READ (R80): A read of PIX.STAT_DATA returns sixteen pixel statuses and advances the address. -/
  | statDataRead (die : Die)
  /-- TRIM_APPLY (R59): An unmasked pixel applies its new trim once it is armed and its discriminator output is low. -/
  | trimApply (pix : Pix)
  /-- TBL_FILL_GO (R81): PIX.TBL_FILL.GO starts a fill of a region or the die. -/
  | tblFillGo (route : Route) (die : Die) (data : W32)
  /-- TBL_FILL_DONE (R81): A fill completes, BUSY clears, and a refused sealed fill is reported once. -/
  | tblFillDone (die : Die)
  /-- INJ_START (R65): PIX.INJ_CTRL.START starts an injection sequence, or is ignored with CFG_REFUSED. -/
  | injStart (die : Die)
  /-- INJ_STOP (R65): PIX.INJ_CTRL.STOP ends the sequence after the pulse in progress and leaves the owed count in INJ_LEFT. -/
  | injStop (die : Die)
  /-- INJ_PULSE (R63): An injection pulse falls due and charge is injected into the pixels with INJ_EN. -/
  | injPulse (die : Die)
  /-- INJ_SENSE_SAMPLE (R178): A priority monitor conversion samples the sense line 200 ns after the first pulse and checks it for INJ_SENSE_FAULT. -/
  | injSenseSample (die : Die) (codeA : BitVec 16) (codeB : BitVec 16)
  /-- CHECK_SLOT_START (R68): A region's check slot starts, and its eligible pixels are checked while the others are skipped. -/
  | checkSlotStart (die : Die)
  /-- CHECK_PIXEL_RECONNECT (R68): A checked pixel's 4 µs blind interval ends, and its discriminator is reconnected. -/
  | checkPixelReconnect (pix : Pix)
  /-- CHECK_SLOT_END (R70): At the end of its slot the region writes its new statuses and may auto-mask pixels. -/
  | checkSlotEnd (die : Die) (found : List (Pix × Option Nat))
  /-- CLEAR_STATUS (R61): PIX.CHECK_CTRL.CLEAR_STATUS sets every status of the die to UNTESTED. -/
  | clearStatus (die : Die)
  /-- ADC_SAMPLE (R157): A waveform ADC sample word arrives at the concentrator, is tagged with TIME, and goes to streams and tests. -/
  | adcSample (die : Die) (adc : Fin 8) (raw : BitVec 12) (parity : Bool)
  /-- WADC_SEQ_START (R159): WADC_CTRL.START runs the regular sequence once in MODE 1. -/
  | wadcSeqStart (die : Die) (adc : Fin 8)
  /-- WADC_ENTRY_END (R159): A sequence entry's dwell count expires and the ADC moves to the next entry, or raises SEQ_DONE. -/
  | wadcEntryEnd (die : Die) (adc : Fin 8)
  /-- WADC_INJ_REQUEST (R161): WADC_INJ.REQ requests an injected conversion, or it is refused when one is already pending or running. -/
  | wadcInjRequest (die : Die) (adc : Fin 8) (data : W32)
  /-- WADC_TRIGGER_START (R162): At the first TREF edge 16 CT after an ADC start line, the selected ADCs start their injected conversions. -/
  | wadcTriggerStart (line : Fin 4)
  /-- WADC_CAL_SELF (R167): WADC_CAL.CMD = 1 starts self calibration of all four gain codes. -/
  | wadcCalSelf (die : Die) (adc : Fin 8) (data : W32)
  /-- WADC_CAL_SYS_ZERO (R168): WADC_CAL.CMD = 2 measures M0 for the system calibration. -/
  | wadcCalSysZero (die : Die) (adc : Fin 8) (data : W32)
  /-- WADC_CAL_SYS_FULL (R168): WADC_CAL.CMD = 3 measures M1 and computes SOFF and SGAIN. -/
  | wadcCalSysFull (die : Die) (adc : Fin 8) (data : W32)
  /-- WADC_CAL_DONE (R169): A calibration step ends, and passing coefficients are committed when the domain is unsealed. -/
  | wadcCalDone (die : Die) (adc : Fin 8)
  /-- MON_CTRL_WRITE (R175): A write to PWR.MON_CTRL changes the mode or reference of the monitor ADCs and can start a lead time. -/
  | monCtrlWrite (data : W32)
  /-- MON_LEAD_TIME_END (R175): A monitor ADC lead time elapses, and READY sets. -/
  | monLeadTimeEnd
  /-- MON_SCAN_START (R177): PWR.MON_CTRL.START starts a monitor scan, or counts an overrun when a scan is running. -/
  | monScanStart
  /-- MON_SCAN_TIMER (R177): The scan timer expires every MON_PERIOD µs and starts a scan. -/
  | monScanTimer
  /-- MON_CONVERSION_DONE (R174): A monitor conversion ends, the result is corrected and stored, and the limits are checked. -/
  | monConversionDone (codesA : List Nat) (codesB : List Nat)
  /-- MON_CAL_SELF (R180): PWR.MON_CAL.CMD = 1 calibrates the monitor ADCs from inputs 7 and 21. -/
  | monCalSelf (data : W32)
  /-- MON_CAL_SYS_ZERO (R180): PWR.MON_CAL.CMD = 2 measures the zero of one monitor input. -/
  | monCalSysZero (data : W32)
  /-- MON_CAL_SYS_FULL (R180): PWR.MON_CAL.CMD = 3 measures the full scale of one monitor input and computes its coefficients. -/
  | monCalSysFull (data : W32)
  /-- COEF_DATA_WRITE (R184): A write of a converter coefficient word changes it, or is refused while the domain is sealed, and advances INDEX. -/
  | coefDataWrite (route : Route) (data : W32)
  /-- HIS_TRAIN (R259): HIS.CTRL.TRAIN starts DDR5 training. -/
  | hisTrain
  /-- HIS_TRAINING_DONE (R259): Training ends, and STATE becomes RUN with TRAIN_DONE, or FAILED with TRAIN_FAIL. -/
  | hisTrainingDone (failedStep : Fin 8)
  /-- DQS_DRIFT_CHECK (R260): Every 100 ms the DQS oscillators are read, and write DQ timing is retrained when it has drifted. -/
  | dqsDriftCheck (drifted : Bool) (retrained : Bool)
  /-- DDR_REFRESH (R261): A same-bank refresh falls due at its interval. -/
  | ddrRefresh
  /-- REFRESH_RATE_POLL (R261): Every 32 ms the device temperature indication is polled, and the refresh interval and HOT are set. -/
  | refreshRatePoll (hot : Bool)
  /-- SCRUB_BURST (R263): The scrubber reads and corrects a burst of lines in free slots. -/
  | scrubBurst (lines : Nat) (findings : List LineFinding)
  /-- READBACK_REQUEST (R278): HIS.RB_CTRL.GO submits a host readback request and allocates a READBACK context. -/
  | readbackRequest
  /-- CAPTURE_READ (R278): HIS.CAP_CTRL.READ requests the readback of a capture set. -/
  | captureRead (number : BitVec 24)
  /-- CAPTURE_RELEASE (R275): HIS.CAP_CTRL.RELEASE releases a capture set's pins and context. -/
  | captureRelease (number : BitVec 24)
  /-- READBACK_START (R277): The next accepted readback starts once the previous one has ended, and pins its segments. -/
  | readbackStart (findings : List LineFinding)
  /-- READBACK_DONE (R279): A readback has sent its segments, completes with its STATUS and raises RB_DONE. -/
  | readbackDone
  /-- NOP (R311): The DSP instruction NOP does nothing. -/
  | dspNop (core : Core)
  /-- MOV (R311): The DSP instruction MOV copies one register to another. -/
  | dspMov (core : Core) (dst : DspReg) (src : DspReg)
  /-- LPUSH (R308): The DSP instruction LPUSH pushes the loop state and increments LD. -/
  | dspLpush (core : Core)
  /-- LPOP (R308): The DSP instruction LPOP pops the loop state and decrements LD. -/
  | dspLpop (core : Core)
  /-- TRIG (R322): The DSP instruction TRIG raises a DSP trigger line with a time taken from an accumulator. -/
  | dspTrig (core : Core) (line : Fin 16) (ac : Fin 4)
  /-- EI (R311): The DSP instruction EI enables interrupts. -/
  | dspEi (core : Core)
  /-- DI (R311): The DSP instruction DI disables interrupts. -/
  | dspDi (core : Core)
  /-- CLRS (R311): The DSP instruction CLRS clears the selected sticky flags. -/
  | dspClrs (core : Core) (sat : Bool) (ov : Bool)
  /-- WAIT (R316): The DSP instruction WAIT stops the core until an enabled interrupt source becomes pending. -/
  | dspWait (core : Core)
  /-- TRAP (R312): The DSP instruction TRAP takes the trap exception. -/
  | dspTrap (core : Core) (n : Fin 16)
  /-- HALT (R311): The DSP instruction HALT halts the core with cause HALT_INSTR. -/
  | dspHalt (core : Core)
  /-- MUL (R311): The DSP instruction MUL writes the product of two D registers to an accumulator. -/
  | dspMul (core : Core) (sat : Bool) (ac : Fin 4) (dx : Fin 8) (dy : Fin 8) (slot1 : DspSlot) (slot2 : DspSlot)
  /-- MAC (R298): The DSP instruction MAC adds a product to an accumulator. -/
  | dspMac (core : Core) (sat : Bool) (ac : Fin 4) (dx : Fin 8) (dy : Fin 8) (slot1 : DspSlot) (slot2 : DspSlot)
  /-- MACN (R311): The DSP instruction MACN subtracts a product from an accumulator. -/
  | dspMacn (core : Core) (sat : Bool) (ac : Fin 4) (dx : Fin 8) (dy : Fin 8) (slot1 : DspSlot) (slot2 : DspSlot)
  /-- MACRN (R311): The DSP instruction MACRN accumulates a product and rounds. -/
  | dspMacrn (core : Core) (sat : Bool) (ac : Fin 4) (dx : Fin 8) (dy : Fin 8) (slot1 : DspSlot) (slot2 : DspSlot)
  /-- MULX (R311): The DSP instruction MULX multiplies a signed operand by an unsigned one. -/
  | dspMulx (core : Core) (sat : Bool) (ac : Fin 4) (dx : Fin 8) (dy : Fin 8) (slot1 : DspSlot) (slot2 : DspSlot)
  /-- MACX (R311): The DSP instruction MACX accumulates a signed by unsigned product. -/
  | dspMacx (core : Core) (sat : Bool) (ac : Fin 4) (dx : Fin 8) (dy : Fin 8) (slot1 : DspSlot) (slot2 : DspSlot)
  /-- ADD (R311): The DSP instruction ADD adds a source to an accumulator. -/
  | dspAdd (core : Core) (sat : Bool) (ac : Fin 4) (src : DspSrc) (slot : DspSlot)
  /-- SUB (R311): The DSP instruction SUB subtracts a source from an accumulator. -/
  | dspSub (core : Core) (sat : Bool) (ac : Fin 4) (src : DspSrc) (slot : DspSlot)
  /-- NEG (R311): The DSP instruction NEG negates a source into an accumulator. -/
  | dspNeg (core : Core) (sat : Bool) (ac : Fin 4) (src : DspSrc) (slot : DspSlot)
  /-- ABS (R311): The DSP instruction ABS writes the absolute value of a source into an accumulator. -/
  | dspAbs (core : Core) (sat : Bool) (ac : Fin 4) (src : DspSrc) (slot : DspSlot)
  /-- CLR (R311): The DSP instruction CLR clears an accumulator. -/
  | dspClr (core : Core) (sat : Bool) (ac : Fin 4) (slot : DspSlot)
  /-- MOVA (R311): The DSP instruction MOVA moves a source into an accumulator. -/
  | dspMova (core : Core) (sat : Bool) (ac : Fin 4) (src : DspSrc) (slot : DspSlot)
  /-- CMP (R311): The DSP instruction CMP sets the flags of A − s. -/
  | dspCmp (core : Core) (sat : Bool) (ac : Fin 4) (src : DspSrc) (slot : DspSlot)
  /-- RND (R311): The DSP instruction RND rounds an accumulator. -/
  | dspRnd (core : Core) (sat : Bool) (ac : Fin 4) (slot : DspSlot)
  /-- AND (R311): The DSP instruction AND is a bitwise AND into an accumulator. -/
  | dspAnd (core : Core) (sat : Bool) (ac : Fin 4) (src : DspSrc) (slot : DspSlot)
  /-- OR (R311): The DSP instruction OR is a bitwise OR into an accumulator. -/
  | dspOr (core : Core) (sat : Bool) (ac : Fin 4) (src : DspSrc) (slot : DspSlot)
  /-- XOR (R311): The DSP instruction XOR is a bitwise XOR into an accumulator. -/
  | dspXor (core : Core) (sat : Bool) (ac : Fin 4) (src : DspSrc) (slot : DspSlot)
  /-- ASL (R311): The DSP instruction ASL shifts an accumulator left. -/
  | dspAsl (core : Core) (sat : Bool) (ac : Fin 4) (count : BitVec 6) (slot : DspSlot)
  /-- ASR (R311): The DSP instruction ASR shifts an accumulator right arithmetically. -/
  | dspAsr (core : Core) (sat : Bool) (ac : Fin 4) (count : BitVec 6) (slot : DspSlot)
  /-- LSR (R311): The DSP instruction LSR shifts an accumulator right logically. -/
  | dspLsr (core : Core) (sat : Bool) (ac : Fin 4) (count : BitVec 6) (slot : DspSlot)
  /-- MAX (R311): The DSP instruction MAX keeps the larger of an accumulator and a source. -/
  | dspMax (core : Core) (sat : Bool) (ac : Fin 4) (src : DspSrc) (slot : DspSlot)
  /-- MIN (R311): The DSP instruction MIN keeps the smaller of an accumulator and a source. -/
  | dspMin (core : Core) (sat : Bool) (ac : Fin 4) (src : DspSrc) (slot : DspSlot)
  /-- ADDH (R311): The DSP instruction ADDH adds Dn × 2^24 to an accumulator. -/
  | dspAddh (core : Core) (sat : Bool) (ac : Fin 4) (dn : Fin 8) (slot : DspSlot)
  /-- SUBH (R311): The DSP instruction SUBH subtracts Dn × 2^24 from an accumulator. -/
  | dspSubh (core : Core) (sat : Bool) (ac : Fin 4) (dn : Fin 8) (slot : DspSlot)
  /-- MOVH (R311): The DSP instruction MOVH moves Dn × 2^24 into an accumulator. -/
  | dspMovh (core : Core) (sat : Bool) (ac : Fin 4) (dn : Fin 8) (slot : DspSlot)
  /-- EXTR (R311): The DSP instruction EXTR extracts a shifted accumulator into a D register. -/
  | dspExtr (core : Core) (sat : Bool) (dst : Fin 8) (ac : Fin 4) (count : BitVec 6) (slot : DspSlot)
  /-- EXP (R311): The DSP instruction EXP writes an accumulator's exponent into a D register. -/
  | dspExp (core : Core) (dst : Fin 8) (ac : Fin 4) (slot : DspSlot)
  /-- SATA (R311): The DSP instruction SATA clamps an accumulator to 48 bits. -/
  | dspSata (core : Core) (sat : Bool) (ac : Fin 4) (slot : DspSlot)
  /-- LOAD (R299): The DSP load instruction reads a data word into a register under its addressing mode. -/
  | dspLoad (core : Core) (dst : DspReg) (ptr : Fin 8) (mode : DspMode) (disp : BitVec 16)
  /-- STORE (R299): The DSP store instruction writes a register to a data address under its addressing mode. -/
  | dspStore (core : Core) (src : DspReg) (ptr : Fin 8) (mode : DspMode) (disp : BitVec 16)
  /-- LDI (R311): The DSP instruction LDI loads an immediate value into a register. -/
  | dspLdi (core : Core) (dst : DspReg) (value : BitVec 24)
  /-- BRA (R311): The DSP instruction BRA branches when its condition holds, after one delay slot. -/
  | dspBra (core : Core) (cc : DspCond) (target : BitVec 14)
  /-- CALL (R311): The DSP instruction CALL sets LR and branches, after one delay slot. -/
  | dspCall (core : Core) (target : BitVec 14)
  /-- JMP (R311): The DSP instruction JMP branches to the address in a pointer register. -/
  | dspJmp (core : Core) (ptr : Fin 8)
  /-- RTS (R311): The DSP instruction RTS branches to LR. -/
  | dspRts (core : Core)
  /-- RTI (R315): The DSP instruction RTI returns from a handler and restores SR from SSR, apart from LD. -/
  | dspRti (core : Core)
  /-- LOOP_IMMEDIATE (R305): The DSP instruction LOOP #count sets up a hardware loop. -/
  | dspLoopImmediate (core : Core) (count : BitVec 16) (length : BitVec 9)
  /-- LOOP_REGISTER (R305): The DSP instruction LOOP Dn sets up a hardware loop with a count taken from a D register. -/
  | dspLoopRegister (core : Core) (count : Fin 8) (length : BitVec 9)
  /-- ILLEGAL_INSTRUCTION (R312): An illegal instruction word takes the illegal-instruction exception, or a DOUBLE fault when already in an exception. -/
  | illegalInstruction (core : Core)
  /-- INTERRUPT_ENTRY (R313): A pending, enabled interrupt is accepted and the core enters its vector. -/
  | interruptEntry (core : Core)
  /-- DSP_TIMER_EXPIRE (R329): The core timer counts down to zero and sets IPEND.TIMER. -/
  | dspTimerExpire (core : Core)
  /-- FAB_READ (R327): A core store of 1 to FAB_CMD starts a register-fabric read and stalls the core. -/
  | fabRead (core : Core)
  /-- FAB_WRITE (R327): A core store of 2 to FAB_CMD starts a register-fabric write and stalls the core. -/
  | fabWrite (core : Core)
  /-- FAB_ACCESS_DONE (R328): A fabric access completes, is refused, or fails after 10 µs, and FAB_STATUS is set. -/
  | fabAccessDone (core : Core) (timedOut : Bool)
  /-- RES_PUSH (R326): A core store to RES_PUSH queues an entry in the result FIFO, or raises RES_OVERRUN when it is full. -/
  | resPush (core : Core) (data : BitVec 24)
  /-- MBX_POP (R326): A core load of MBX_POP pops a mailbox entry. -/
  | mbxPop (core : Core)
  /-- RES_DATA_READ (R478): A host read of DSP.RES_DATA pops one result entry, or returns VALID = 0 when the FIFO is empty. -/
  | resDataRead (core : Core)
  /-- MBX_WRITE (R326): A host write to DSP.MBX_DATA queues a mailbox entry, or raises MBX_OVERRUN when it is full. -/
  | mbxWrite (core : Core) (data : BitVec 24)
  /-- WAVEFORM_REQUEST (R324): A core write to WR_GO requests a waveform record, or sets OVERRUN when the queue is full. -/
  | waveformRequest (core : Core)
  /-- WAVEFORM_RECORD_DONE (R325): A waveform request completes with its outcome once its samples are copied or fail. -/
  | waveformRecordDone (core : Core)
  /-- DSP_RUN (R331): DSP.CTRL.RUN = 1 starts execution at DSP.PC. -/
  | dspRun (core : Core)
  /-- DSP_HALT_REQUEST (R331): DSP.CTRL.RUN = 0 halts the core at the next instruction boundary with cause HOST. -/
  | dspHaltRequest (core : Core)
  /-- DSP_STEP (R331): DSP.CTRL.STEP executes one instruction of a halted core. -/
  | dspStep (core : Core)
  /-- DSP_RESET_PC (R331): DSP.CTRL.RESET_PC clears the registers and the loop stack of a halted core and sets the PC to 0. -/
  | dspResetPc (core : Core)
  /-- DSP_BREAKPOINT (R331): With BRK_EN set, the core halts before the instruction at DSP.BRK. -/
  | dspBreakpoint (core : Core)
  /-- DSP_PMEM_WRITE (R292): A host write to PMEM is carried out only while the core is HALTED. -/
  | dspPmemWrite (core : Core) (index : BitVec 14) (data : W32)
  /-- DSP_REG_DATA_WRITE (R331): A write to DSP.PC or DSP.REG_DATA is taken only while the core is halted and not claimed. -/
  | dspRegDataWrite (core : Core) (pc : Bool) (data : W32)
  /-- DSP_MEM_SCRUB (R293): The background scrubber reads the core memories once per second and corrects single-bit errors. -/
  | dspMemScrub (core : Core) (corrected : List (BitVec 20)) (uncorrectable : List (BitVec 20))
  /-- DSP_DRAIN_TIMEOUT (R330): A draining core halts with cause DRAIN after 65,536 cycles. -/
  | dspDrainTimeout (core : Core)
  /-- STA_RUN_START (R336): STA.CTRL.START clears the cells and starts a statistics run. -/
  | staRunStart
  /-- STA_RUN_STOP (R336): STA.CTRL.STOP completes the run at once. -/
  | staRunStop
  /-- STA_RUN_DONE (R336): Every bound cell reaches N, and the run becomes DONE. -/
  | staRunDone
  /-- STA_PUSH_VALUE (R335): A write to STA.PUSH_VALUE pushes a value into a cell. -/
  | staPushValue (data : W32)
  /-- SVC_START (R348): STA.SVC_CTRL.START starts or pends a service sequence. -/
  | svcStart (data : W32)
  /-- SVC_DRIFT_CHECK (R348): Once per second die temperatures are compared with CAL_TEMP, and drift sequences start. -/
  | svcDriftCheck
  /-- SVC_PERIODIC_START (R348): A periodic sequence starts every HOLD seconds. -/
  | svcPeriodicStart (seq : Fin 16)
  /-- SEQ_COMMIT (R346): STA.SEQ_CTRL.COMMIT checks and applies the staged service sequence table. -/
  | seqCommit
  /-- SEQ_END (R349): The service step END completes the sequence OK or WARN. -/
  | seqEnd
  /-- SEQ_WRITE (R349): The service step WRITE writes a register by the DSP route. -/
  | seqWrite
  /-- SEQ_WAIT (R349): The service step WAIT starts a wait of US µs. -/
  | seqWait
  /-- SEQ_WAIT_EXPIRE (R349): The wait of a WAIT step expires, and the sequence goes on. -/
  | seqWaitExpire
  /-- SEQ_POLL (R349): The service step POLL reads a bit every 1 µs until it matches or LIMIT passes. -/
  | seqPoll
  /-- SEQ_RUN (R349): The service step RUN claims resources and runs a built-in service on its dies. -/
  | seqRun
  /-- SEQ_DSP (R349): The service step DSP claims a core, starts it, and waits for a halt or LIMIT. -/
  | seqDsp
  /-- SEQ_BRANCH (R349): The service step BRANCH goes to TARGET always, or on WARN. -/
  | seqBranch
  /-- SEQ_FAIL (R349): The service step FAIL ends the sequence with USER and a code. -/
  | seqFail
  /-- SVC_CLAIM_GRANTED (R339): All the claims of a service step are granted, and the step begins. -/
  | svcClaimGranted
  /-- SVC_CLAIM_TIMEOUT (R339): The claims are not granted within 100 ms, and the step ends with CONFLICT. -/
  | svcClaimTimeout
  /-- DLCAL_DONE (R351): The delay-line calibration of a die finishes and commits or reseals its records. -/
  | dlcalDone
  /-- THEQ_DONE (R352): Threshold equalisation finishes its binary search and writes its counts. -/
  | theqDone
  /-- BSCAN_DONE (R353): The bump scan finishes its repetitions and sets the pixel statuses. -/
  | bscanDone
  /-- STREAM_EN_WRITE (R360): A write to CDR.STREAMc_CTRL.EN switches coding at the next frame header of that stream. -/
  | streamEnWrite (ctx : Fin 16) (data : W32)
  /-- BLOCK_WAIT_EXPIRE (R366): A block whose first word has waited MAX_WAIT × 128 CT is closed. -/
  | blockWaitExpire (ctx : Fin 16)
  /-- CODER_CONTEXT_RESET (R364): CDR.CTX_CMD.RESET puts a context in its reset state at its next block boundary. -/
  | coderContextReset (ctxs : BitVec 16)
  /-- CODER_CTX_DATA_WRITE (R373): A write to CDR.CTX_DATA restores a context word, or is refused with CTX_REFUSED. -/
  | coderCtxDataWrite (data : W32)
  /-- CODER_CTX_DATA_READ (R372): A read of context word 0 samples all four words of the predictor state. -/
  | coderCtxDataRead
  /-- LOOPBACK_PUSH (R374): A write to CDR.LB_IN_HI pushes a word to the loopback context, or sets OVERRUN. -/
  | loopbackPush (data : W32)
  /-- LOOPBACK_POP (R374): A read of CDR.LB_POP pops a coded word into LB_WORD. -/
  | loopbackPop
  /-- LOOPBACK_FLUSH (R366): CDR.LB_CTRL.FLUSH closes the open loopback block. -/
  | loopbackFlush
  /-- LANE_ENABLE (R404): Setting LANE_CTRL.EN lets an OFF lane enter DETECT. -/
  | laneEnable (lane : Lane)
  /-- LANE_DISABLE (R404): Clearing LANE_CTRL.EN sends a lane to OFF, removing it from its bundle first. -/
  | laneDisable (lane : Lane)
  /-- LANE_RETRAIN (R404): LANE_CTRL.RETRAIN sends a lane that is not OFF to DETECT. -/
  | laneRetrain (lane : Lane)
  /-- TRAINING_CONTROL_WORD (R402): A training control word is received and moves the lane states and the partner reports. -/
  | trainingControlWord (lane : Fin 2) (word : BitVec 128)
  /-- PRBS_WINDOW_END (R405): A PRBS13Q check window ends, and READY sets when it held 100 errors or fewer. -/
  | prbsWindowEnd (lane : Fin 2) (errors : Nat)
  /-- LANE_ACTIVE (R407): After the final training frames codeword 0 begins, the lane becomes ACTIVE and raises LANE_UP. -/
  | laneActive (lane : Lane)
  /-- OPEN_LOOP_TRAINING_END (R409): An open-loop transmit lane ends its 100 µs of training frames. -/
  | openLoopTrainingEnd (lane : Fin 8)
  /-- TRAINING_ATTEMPT_TIMEOUT (R408): A training attempt not ACTIVE within 10 ms fails and the lane enters BACKOFF. -/
  | trainingAttemptTimeout (lane : Lane)
  /-- BACKOFF_END (R408): The back-off time ends, and the lane enters DETECT. -/
  | backoffEnd (lane : Lane)
  /-- LANE_STABLE (R408): A lane ACTIVE for 1 s without a break resets its back-off to 10 ms. -/
  | laneStable (lane : Lane)
  /-- LANE_PERMANENT (R410): A lane DOWN for 1 hour while its bundle is alive sets PERMANENT. -/
  | lanePermanent (lane : Lane)
  /-- CODEWORD_RECEIVE (R388): A receive lane decodes an FEC codeword, corrects or marks its blocks, and rate-matches FILL blocks. -/
  | codewordReceive (lane : Fin 2) (word : BitVec 5440) (slip : Int)
  /-- RX_LOSS_OF_LOCK (R411): An ACTIVE receive lane loses lock on signal, FEC, ALIGN, rate or PLL. -/
  | rxLossOfLock (lane : Fin 2) (cause : RxLoss)
  /-- TX_LOSS_OF_LOCK (R412): An ACTIVE transmit lane loses lock on a local fault or on a REMOTE report. -/
  | txLossOfLock (lane : Fin 8) (cause : TxLoss)
  /-- RESTRIPE_DONE (R417): The last resent word is serialised, and RESTRIPING clears. -/
  | restripeDone
  /-- EQ_COMMIT (R398): LNK.EQ_CTRL.COMMIT checks and applies the equalisation table and retrains the lanes that changed. -/
  | eqCommit
  /-- EQ_SAVE (R400): LNK.EQ_CTRL.SAVE stores the table in force by a journaled write. -/
  | eqSave
  /-- ACK_TIMEOUT (R415): No acknowledgement advances for ACK_TIMEOUT µs, and the lane path resends. -/
  | ackTimeout
  /-- RETAIN_EXPIRE (R416): With ACK_EN = 0, a record word is released RETAIN.US after it was serialised. -/
  | retainExpire
  /-- DATA_FRAME_SEND (R438): The lane path forms a data frame from waiting units and sends it on the bundle. -/
  | dataFrameSend (stream : Fin 2)
  /-- ALIGN_RECEIVE (R433): A valid ALIGN block sets the lane position and may change the lane set. -/
  | alignReceive (lane : Fin 2)
  /-- DATA_BLOCK_RECEIVE (R437): A DATA block is taken into the data frame in progress. -/
  | dataBlockReceive
  /-- DFRAME_RECEIVE (R437): A DFRAME message opens a data frame, accepted in SEQ order or discarded. -/
  | dframeReceive
  /-- ACK_RECEIVE (R415): A received ACK releases acknowledged record words from retention. -/
  | ackReceive
  /-- ACK_REPEAT (R439): The last ACK is repeated every 10 µs while frames arrive. -/
  | ackRepeat
  /-- LSTATUS_RECEIVE (R442): A received LSTATUS updates the partner reports of the transmit lanes. -/
  | lstatusReceive
  /-- LSTATUS_PERIODIC (R442): An LSTATUS is sent every 10 µs. -/
  | lstatusPeriodic
  /-- RD_COMMAND (R443): An RD message makes up to four register reads and is answered with RESP. -/
  | rdCommand
  /-- WR_COMMAND (R443): A WR message makes up to four register writes and is answered with RESP. -/
  | wrCommand
  /-- AUTH_WR (R448): An AUTH_WR message is checked, commits its counter and carries out one authenticated write. -/
  | authWr
  /-- AUTH_LOCKOUT_END (R448): A 10 s authentication lockout ends. -/
  | authLockoutEnd
  /-- TRIG_MESSAGE (R449): A TRIG message is presented as a link trigger code with its carried time. -/
  | trigMessage
  /-- TSYNC_MESSAGE (R450): A TSYNC message is accepted as a SYNC edge, or ignored. -/
  | tsyncMessage
  /-- TSYNC_LOAD_TICK (R450): At the TSYNC load tick the counter is loaded or checked. -/
  | tsyncLoadTick (phase : BitVec 16)
  /-- RING_TAIL_WRITE (R462): A write to a ring's TAIL posts descriptors, or is refused with TAIL_ERR. -/
  | ringTailWrite (ring : Ring) (tail : W32)
  /-- DESCRIPTOR_FETCH (R462): A descriptor fetch completes, or fails and stops the ring with ERROR. -/
  | descriptorFetch (ring : Ring) (desc : Option (W64 × W64))
  /-- READOUT_DESCRIPTOR_COMPLETE (R465): A readout descriptor completes FULL, SWITCH, DRAIN, ABORTED or BAD_DESC and writes its completion. -/
  | readoutDescriptorComplete (ring : ReadRing)
  /-- READOUT_TIMEOUT (R465): TIMEOUT µs after its first word a readout descriptor completes partly filled. -/
  | readoutTimeout (ring : ReadRing)
  /-- H2D_DESCRIPTOR_COMPLETE (R469): A host-to-device descriptor's writes are carried out and it completes. -/
  | h2dDescriptorComplete (ring : H2dRing) (words : List W32) (failAt : Option Nat)
  /-- RING_ENABLE (R462): Setting RING_CTRL.EN starts descriptor fetching. -/
  | ringEnable (ring : Ring)
  /-- RING_DISABLE (R471): Clearing RING_CTRL.EN stops fetching and completes the descriptor in progress. -/
  | ringDisable (ring : Ring)
  /-- RING_ABORT (R471): RING_CTRL.ABORT completes every fetched descriptor with ABORTED. -/
  | ringAbort (ring : Ring)
  /-- RING_RESET (R461): RING_CTRL.RESET sets TAIL, HEAD and FETCH to 0 on an idle disabled ring. -/
  | ringReset (ring : Ring)
  /-- ENDPOINT_RESET (R459): PERST_N, a Function Level Reset or a link-down reset resets the endpoint alone. -/
  | endpointReset
  /-- PCIE_LINK_DOWN (R488): The PCI Express link leaves L0 and L1, and LINK_DOWN is raised. -/
  | pcieLinkDown
  /-- PCIE_LINK_CHANGE (R488): The link speed or width changes, and LINK_CHANGE is raised. -/
  | pcieLinkChange (speed : BitVec 4) (width : BitVec 5)
  /-- BAR_PARTIAL_WRITE (R458): A write without all byte enables is ignored and counted. -/
  | barPartialWrite (addr : RegAddr) (data : W32) (enables : BitVec 4)
  /-- VEC_EOI (R482): A write to EVC.VEC_EOI clears a vector's in-service bit and resends it when it is still asserted. -/
  | vecEoi (vector : BitVec 6)
  /-- MSIX_UNMASK (R482): A masked vector whose pending bit is set is sent on unmasking. -/
  | msixUnmask (vector : BitVec 6)
  /-- EVENT_LOG_READ (R478): A read of EVC.LOG_DATA pops one log entry, or returns VALID = 0. -/
  | eventLogRead
  /-- SRC_TEST_WRITE (R487): A write to EVC.SRC_TEST sets every EV_RAW bit of a source through EV_SET. -/
  | srcTestWrite (word : Fin 8) (bits : W32)
  /-- SEAL_COMMAND (R495): SEA.CMD.CODE = 1 requests a seal, which is refused or starts SEALING. -/
  | sealCommand (route : Route)
  /-- SEAL_COMPLETE (R496): The seal MAC, counter and image are written, the state becomes SEALED and a seal record is emitted. -/
  | sealComplete
  /-- SEAL_SAVE (R502): SEA.CMD.CODE = 2 stores the present contents with the flag unsealed. -/
  | sealSave
  /-- UNSEAL (R500): An authenticated write to SEA.UNSEAL with the counter starts an unseal. -/
  | unseal (route : Route) (slot : Fin 4) (data : W32)
  /-- UNSEAL_COMPLETE (R500): The image flag is rewritten, the state becomes UNSEALED and an ACTION = 2 record is emitted. -/
  | unsealComplete
  /-- TRIM_REFRESH (R490): Every TRIM_REFRESH seconds the trims and pixel configuration are rewritten from the master copies. -/
  | trimRefresh (trimUpsets : List Pix) (cfgUpsets : Nat)
  /-- KEY_PROGRAM (R505): SEC.KEY_PROG.GO requests programming of an OTP key slot. -/
  | keyProgram
  /-- KEY_PROGRAM_DONE (R505): Key programming is verified and raises KEY_EVENT. -/
  | keyProgramDone (ok : Bool)
  /-- KEY_REVOKE (R507): An authenticated write to SEC.KEY_REVOKE blows the REVOKED fuses. -/
  | keyRevoke (route : Route) (slot : Fin 4) (data : W32)
  /-- AUTH_WRITE_SUBMIT (R508): SEC.AW_CTRL.GO submits the AUTH_WR block image on the register route. -/
  | authWriteSubmit (route : Route)
  /-- DEBUG_UNLOCK (R520): An authenticated write of 1 to SEC.DEBUG_UNLOCK runs the erasure. -/
  | debugUnlock (route : Route) (slot : Fin 4) (data : W32)
  /-- ERASURE_DONE (R516): The key erasure completes, ERASED and DEBUG_OPEN set and the domain is unsealed. -/
  | erasureDone
  /-- AUDIT_ENTRY_CLOSE (R512): An open audit entry closes 1 ms after its first occurrence. -/
  | auditEntryClose
  /-- AUDIT_WRITE (R512): A queued audit entry is written to the store, at most one per 10 ms. -/
  | auditWrite
  /-- TEST_PORT_AUTH_CMD (R519): At Update-DR of AUTH_CMD the block is submitted as an authenticated write. -/
  | testPortAuthCmd (block : BitVec 256)
  /-- TEST_PORT_LOCKED_INSTRUCTION (R518): Selecting a locked debug instruction acts as BYPASS and raises TEST_PORT. -/
  | testPortLockedInstruction
  /-- RAIL_GOOD (R527): A rail has been in its window for 100 µs and counts as good. -/
  | railGood (rail : Rail)
  /-- RAIL_FAULT (R529): A rail goes bad, and every domain that needs it switches off at once. -/
  | railFault (rail : Rail)
  /-- RAIL_OK (R529): A rail good again for 10 ms raises RAIL_OK and switches requested domains on. -/
  | railOk (rail : Rail)
  /-- POWER_ON_RESET_END (R528): Power-on reset ends 2 ms after VDD_BC and VDD_IO are good, and start-up begins. -/
  | powerOnResetEnd
  /-- STARTUP_STEP_DONE (R558): A start-up step completes, or the condition it waits for arrives, and the next step starts. -/
  | startupStepDone (dose : List Nat)
  /-- START_STALL (R559): Step 6 has waited 1 s for LOCK, and START_STALL is raised once. -/
  | startStall
  /-- LEVEL_REQUEST_WRITE (R561): A write of HLT.CTRL.LEVEL_REQ switches down to S0 or resumes start-up. -/
  | levelRequestWrite (data : W32)
  /-- DEVICE_SOFT_RESET (R556): Writing 0x5A5A_0F0F to HLT.DEVICE_RESET switches off all but the always-on domain and restarts from step 2. -/
  | deviceSoftReset (data : W32)
  /-- RESET_PIN (R556): RESET_N held low for 1 µs gives a PIN reset. -/
  | resetPin
  /-- DOMAIN_REQUEST_WRITE (R531): A write to PWR.DOM_REQ queues domain switches, which may be refused. -/
  | domainRequestWrite (high : Bool) (data : W32)
  /-- DOMAIN_SWITCH_ON_DONE (R532): A domain reaches its supply level, its pages reset and DOM_ON is raised. -/
  | domainSwitchOnDone
  /-- DOMAIN_SWITCH_TIMEOUT (R532): A domain that has not reached supply level in time is switched off with SWITCH_FAULT. -/
  | domainSwitchTimeout
  /-- DOMAIN_SWITCH_OFF (R533): Once the domain's pages are IDLE the domain switches off and raises DOM_OFF. -/
  | domainSwitchOff
  /-- DOMAIN_DRAIN_TIMEOUT (R533): After DRAIN_TIMEOUT the pages still draining are aborted. -/
  | domainDrainTimeout
  /-- SENSOR_READING (R539): A temperature sensor gives a reading, which is checked for failure and for the shutdown trip. -/
  | sensorReading (sensor : Sensor) (raw : BitVec 16)
  /-- SENSOR_NO_READING (R541): A sensor with no reading for 200 µs fails. -/
  | sensorNoReading (sensor : Sensor)
  /-- SENSOR_AUTO_CLEAR (R542): A failed sensor that has passed its tests for 10 s is cleared. -/
  | sensorAutoClear (sensor : Sensor)
  /-- SENSOR_CLEAR_WRITE (R542): A write to THM.SENS_CLEAR clears a failed sensor whose reading is in range. -/
  | sensorClearWrite (word : Fin 3) (bits : W32)
  /-- DIODE_MEASURE (R540): Once per second the junction diode is measured and compared with the sensors. -/
  | diodeMeasure (lowUv : Nat) (highUv : Nat)
  /-- THROTTLE_UPDATE (R544): Every 1 ms the throttle duty is updated from the hottest temperature and the curve. -/
  | throttleUpdate
  /-- PAUSE_END (R549): A thermal pause ends, and the next paced operation may proceed. -/
  | pauseEnd (kind : PacedKind)
  /-- CURVE_COMMIT (R547): THM.CURVE_CTRL.COMMIT checks and applies the throttle curve table. -/
  | curveCommit
  /-- CURVE_SAVE (R547): THM.CURVE_CTRL.SAVE stores the throttle curve table by a journaled write. -/
  | curveSave
  /-- QUENCH_LIMIT_WRITE (R551): A write to THM.QUENCH stores limited QUENCH_C and RESTART_C. -/
  | quenchLimitWrite (data : W32)
  /-- QUENCH_RESTART (R552): One second below RESTART_C restarts the device from S0. -/
  | quenchRestart
  /-- JOURNAL_COMMIT (R563): A journaled write reaches its commit word, and its owner is told. -/
  | journalCommit
  /-- JOURNAL_WRITE_DONE (R563): A journaled write copies into its home page, or fails after a retry. -/
  | journalWriteDone (ok : Bool)
  /-- NVS_PATROL_READ (R565): Every page is read once per 24 h, and errors are corrected or the page is made bad. -/
  | nvsPatrolRead (page : BitVec 11) (finding : ReadFinding)
  /-- MASK_SAVE (R562): HLT.MASK_SAVE.GO stores every pixel's MASK into the mask image. -/
  | maskSave
  /-- FAILED_CLUSTERS_UPDATE (R570): Once per second FAILED_CLUSTERS is recomputed and the replacement criteria are evaluated. -/
  | failedClustersUpdate
  /-- REPLACE_CAUSE_CLEAR (R572): A W1C write to HLT.REPLACE.CAUSE clears bits whose criterion no longer holds. -/
  | replaceCauseClear (bits : W32)
  /-- REPLACE_EVENT_REPEAT (R572): An EVENT message for source 249 is queued every 60 s while REQ is 1. -/
  | replaceEventRepeat
  /-- DOSE_READ (R568): Once per hour the dose monitors are read and converted. -/
  | doseRead (doses : List Nat)
  /-- UPSET_HOUR (R567): Each hour UPS_HOUR is computed and compared with UPSET_LIMIT. -/
  | upsetHour
  /-- HEALTH_LOG_WRITE (R569): A queued health-log entry is written to the store. -/
  | healthLogWrite
  /-- REFCLK_LOSS (R598): REFCLK stops, and the lanes lose lock with cause PLL, the DDR5 PLL loses lock so that HIS goes FAILED, and the TREF frequency test is suspended. -/
  | refclkLoss
  /-- CODEWORD_TRANSMIT (R427): At each codeword and block boundary of the shared transmit codeword clock, an ACTIVE transmit lane places FILL, ALIGN or the next bundle block or message in its slot. -/
  | codewordTransmit
  /-- DMA_WRITE_REQUEST (R467): The DMA path issues a write request of up to Max Payload Size for a readout ring that has data and a fetched descriptor, and releases the written words from the output queue. -/
  | dmaWriteRequest (ring : ReadRing)
  /-- PCIE_LINK_UP (R460): The PCI Express link trains into L0, LINK_UP sets, and readout rings can take data again. -/
  | pcieLinkUp (speed : BitVec 4) (width : BitVec 5)
  /-- CONFIG_SPACE_WRITE (R483): A host configuration write changes Bus Master Enable, the D-state, MSI-X enable or Interrupt Disable, which decides whether rings take data and whether INTA or MSI-X is used. -/
  | configSpaceWrite (cfg : PcieConfig)
  /-- AER_ERROR (R488): The endpoint detects a correctable or uncorrectable PCI Express error, counts it and raises AER_CORR or AER_UNCORR. -/
  | aerError (correctable : Bool)
  /-- HEALTH_LOG_ENTRY_CLOSE (R569): An open health-log entry closes 1 ms after its first occurrence and joins the write queue, or is lost when the queue is full. -/
  | healthLogEntryClose
  /-- SRAM_SCRUB (R566): Once per second the concentrator SECDED memories are scrubbed, correctable words are rewritten, and uncorrectable words in correction records or coefficients are repaired as R567 states. -/
  | sramScrub (findings : List ScrubFinding)
  /-- TMR_VOTE_CORRECTION (R566): A triplicated configuration or state register found to disagree is rewritten from the majority in that control-clock cycle, and HLT.UPS_TMR increments. -/
  | tmrVoteCorrection (page : Page)
  deriving DecidableEq, Repr

end Sys2Proof
end

