-- ==== Sys2Proof/Config.lean ====
section
/-! DEFINITION. What an implementation fixes and what the manual leaves open. The free values are opaque: nothing evaluates them and no
proof knows a value of them. Each is applied to the counter `free` of the device, which every use advances. -/

namespace Sys2Proof

/-- The two parts (R1, R2). -/
inductive Part where
  | ezn8640 | ezn8620
  deriving DecidableEq, Repr

/-- Harcel dies of the part (R2). -/
def Part.dies : Part → Nat
  | .ezn8640 => 4
  | .ezn8620 => 2

/-- Transmit lanes of the part (R2, R45). -/
def Part.txLanes : Part → Nat
  | .ezn8640 => 8
  | .ezn8620 => 4

/-- Coarse ticks of one second at TREF = 160.000 MHz (R14): the model's measure of times given in µs, ms and s (log 5). -/
def Config.secondCt : Nat := 1280000000
/-- Coarse ticks of one millisecond (R14; log 5). -/
def Config.msCt : Nat := 1280000
/-- Coarse ticks of one microsecond (R14; log 5). -/
def Config.usCt : Nat := 1280

/-- Which of the pixels of a contest the converter's arbiter grants: true, the later one (R96: not defined). -/
opaque Config.grantLater : Nat → Bool
/-- A host access of a core's memory has to take a bank after 16 cycles (R292), by the number of the draw. -/
opaque Config.hostWaits : Nat → Bool
/-- How far the counter of a PLL that lost its lock stands from the majority (R83: it is out of the vote). -/
opaque Config.pllSkew : Nat → BitVec 58
/-- What an ACTIVE transmit lane sends while it waits to join its bundle, where neither a FILL nor an ALIGN stands (R427, R432 state nothing). -/
opaque Config.waitingBlock : Nat → BitVec 257
/-- What a latch of the coarse-time bus yields while the bus changes: true, the newer of the two neighbouring counts (R87). -/
opaque Config.newerCount : Nat → Bool
/-- What a calibration shows for a coefficient `num / den` that is undefined or lies outside its 16 bits (R167-R169 state no value). -/
opaque Config.coefOutside : Int → Int → BitVec 16
/-- The statistics engine is no faster than its bound, so that its queue is full (R337). -/
opaque Config.engineBehind : Nat → Bool
/-- A word of a new record that R110 does not compute: its histogram is empty, or its last populated code is below 15 (log 13). -/
opaque Config.recordWord : Nat → Nat → BitVec 16
/-- The completion code of a RUN step that names a service the manual leaves undefined (R349). -/
opaque Config.undefinedService : Nat → Nat
/-- The duration of a burst of the DDR5 scrubber in coarse ticks, which its pause is computed from (R263, R549 state none). -/
opaque Config.burstTime : Nat → Nat
/-- The value used for a sensor, in 1/8 °C, while no sensor of the package works (R541 states none). -/
opaque Config.noSensorTemp : Nat → Int
/-- The sensor that THM.LAST_QUENCH names after a trip by the junction diode (R545, R550 state none). -/
opaque Config.diodeTripSensor : Nat → BitVec 7

end Sys2Proof
end

