-- ==== Sys2Proof/Machine/StateAdc.lean ====
section
/-! DEFINITION. The state of the waveform ADCs and the monitor ADCs (spec/05) beside their registers. -/

namespace Sys2Proof.Machine

/-- An injected conversion of a waveform ADC (R161, R162): channel, gain, samples left after settling, begun, by a start line. -/
structure WadcInj where
  chan : Nat
  gain : Nat
  left : Nat
  started : Bool := false
  triggered : Bool := false
  deriving DecidableEq, Repr

/-- A calibration of a waveform ADC (R167, R168): command (1 SELF, 2 SYS_ZERO, 3 SYS_FULL), gain code, channel, N, peak mode; begun; the
step (SELF: 2 g + reference), settling samples left, samples taken, their sum, the sums of the steps done; a raw code 0 or 4,095 seen; the
open pulse windows (samples left, largest y), pulses taken, the failure that ended it. -/
structure WadcCal where
  cmd : Nat
  gain : Nat
  chan : Nat
  n : Nat
  peak : Bool
  started : Bool := false
  step : Nat := 0
  settle : Nat := 4
  taken : Nat := 0
  sum : Int := 0
  sums : List Int := []
  railed : Bool := false
  windows : List (Nat × Int) := []
  pulses : Nat := 0
  fail : Nat := 0
  deriving DecidableEq, Repr

/-- A waveform ADC (R155-R166): running, stopped by a loss of TREF; the regular entry with its channel, gain and remaining dwell, a
once-sequence that has ended; channel, gain and filter code of the last sample, samples still marked with their REASON, the filter history
to be filled at the next valid sample, the last y values (newest first); injected conversion, calibration, a calibration whose outcome is
due, the sum of a SYS_ZERO with its channel, gain and N, regions of the die whose range has changed and the end of a calibration, to mark. -/
structure WadcSt where
  running : Bool := false
  lost : Bool := false
  entry : Nat := 0
  rchan : Nat := 0
  rgain : Nat := 0
  dwell : Nat := 0
  ended : Bool := false
  chan : Nat := 0
  gain : Nat := 0
  filt : Nat := 0
  invalid : Nat := 0
  reason : Nat := 0
  refill : Bool := false
  history : List Int := []
  inj : Option WadcInj := none
  cal : Option WadcCal := none
  calDone : Option WadcCal := none
  zero : Option (Nat × Nat × Int × Nat) := none
  rangeMark : List Nat := []
  calMark : Bool := false
  deriving DecidableEq, Repr

/-- A calibration of the monitor ADCs in progress (R180): command (1 SELF, 2 SYS_ZERO, 3 SYS_FULL), the ADCs, the input of a system step and its declared
code, and, once SELF has its zero, the sums by ADC. -/
structure MonCal where
  cmd : Nat
  adcs : List Nat
  input : Nat
  expect : Nat
  zeros : Option (List (Nat × Int)) := none
  deriving DecidableEq, Repr

/-- The monitor ADCs (R173-R181): the entry of the scan in progress, a start that waits for its end, scans begun, the clock until which a
lead time runs, powered down in DOZE, dies whose sequence has no sense sample yet, dies whose sense sample is due, the sums of a SYS_ZERO
by ADC and input (32 m + i), when the scan timer last expired, the calibration in progress. -/
structure MonSt where
  scan : Option Nat := none
  again : Bool := false
  count : Nat := 0
  leadUntil : Nat := 640000
  asleep : Bool := false
  senseWait : List Nat := []
  sense : List Nat := []
  zero : List (Nat × Int) := []
  timerAt : Nat := 0
  cal : Option MonCal := none
  deriving DecidableEq, Repr

end Sys2Proof.Machine
end

