-- ==== Sys2Proof/Machine/StateBuilder.lean ====
section
/-! DEFINITION. The state of the event builder (spec/06): hits, frames, contexts, records and the output queue. -/

namespace Sys2Proof.Machine

/-- A converted hit (R104, R203): absolute time in FU, pixel, time over threshold, flags. -/
structure Hit where
  toa : Nat
  die : Nat
  row : Nat
  col : Nat
  tot : BitVec 13
  flags : BitVec 6
  deriving DecidableEq, Repr

/-- The kinds of record (R201, R202). -/
inductive RecKind where
  | hit | packed | late | header | align | trigger | waveform | status | seal
  deriving DecidableEq, Repr

/-- A record, with the context it belongs to and whether it is that context's last (R196), and the format entry of the frame in whose stream it has its
place (R193, R214); a record that waits for its frame's header has none yet (R190). -/
structure Rec where
  kind : RecKind
  words : List W64
  ctx : Option Nat := none
  last : Bool := false
  fmt : Option W64 := none
  deriving DecidableEq, Repr

/-- A record in the output queue with the paths that still have to release it (R196, R215). -/
structure OqEntry where
  serial : Nat
  record : Rec
  lanes : Bool
  rings : List Nat
  deriving DecidableEq, Repr

/-- A frame from its start tick to its alignment record (R193, R194, R205); `waiting`: its context was refused and is still missing. -/
structure FrameSt where
  num : BitVec 40
  start : BitVec 58
  entry : Nat
  fmt : W64
  mode : Nat
  dieMask : BitVec 4
  timeBase : Bool
  sealCounter : W32
  isSealed : Bool
  epoch : BitVec 16
  phase : BitVec 16
  ringPos : Option W32
  ctx : Option Nat
  timingInvalid : Bool := false
  syncStale : Bool := false
  feInhibit : Bool := false
  sealChanged : Bool := false
  svcWindow : Bool := false
  drained : Bool := false
  aborted : Bool := false
  loadEnd : Bool := false
  ended : Option (BitVec 16 × BitVec 18) := none
  header : Bool := false
  waiting : Bool := false
  hits : Nat := 0
  deriving DecidableEq, Repr

/-- The states of a context (R196). -/
inductive CtxState where
  | free | opened | closing | queued
  deriving DecidableEq, Repr

/-- An event context (R195, R196, R200). -/
structure Ctx where
  state : CtxState := .free
  cls : Nat := 0
  id : BitVec 24 := 0
  records : Nat := 0
  deriving DecidableEq, Repr

/-- An open LATE record (R211): frame, late hits, when its first hit came, and those of its hits that the ring has taken (R266, R271). -/
structure LateSt where
  frame : BitVec 40
  hits : List W64
  since : Nat
  ring : List Hit := []
  deriving DecidableEq, Repr

/-- An open packed-hits record (R212), with the format entry of its frame. -/
structure PackedSt where
  fmt : W64
  keep : BitVec 7
  hits : List Hit
  deriving DecidableEq, Repr

/-- The event builder (R185-R220). `frames` holds every frame begun and not yet ended in the stream, oldest first; `lastNum` is the number
of the frame begun last; `inq` holds the records that wait at the input of the output queue `oq`. -/
structure EvbSt where
  sort : List Hit := []
  sortFull : Bool := false
  front : Int := 0
  lastNum : Option (BitVec 40) := none
  frames : List FrameSt := []
  lateRaised : Bool := false
  late : Option LateSt := none
  packed : Option PackedSt := none
  inq : List Rec := []
  streamOn : Bool := false
  oq : List OqEntry := []
  serial : Nat := 0
  laneTodo : List Nat := []
  ctxs : List (Nat × Ctx) := []
  lateCount : Nat := 0
  lost : Nat := 0
  triggers : Nat := 0
  fmt : List (Nat × W64) := []
  fmtNext : Option (List (Nat × W64)) := none
  wdRuns : List (Nat × Nat) := []
  deriving DecidableEq, Repr

end Sys2Proof.Machine
end

