-- ==== Sys2Proof/Machine/StateCoder.lean ====
section
/-! DEFINITION. The state of the lossless coder's stream contexts and the loopback FIFOs (spec/11). -/

namespace Sys2Proof.Machine

/-- The predictor of a stream context (R363, R364): PREV_TOA, PREV_FLAGS, A_TOA, A_TOT. -/
structure Predictor where
  prevToa : Nat := 0
  prevFlags : Nat := 0
  aToa : Nat := 256
  aTot : Nat := 1024
  deriving DecidableEq, Repr

/-- A closed block, or a record of a stream with coding off, on its way out (R360, R367, R380): its words still to leave, each with the records that
are done once it has left; the input words, held until the block has been emitted; its RESET; whether it is a block; whether its header has left. -/
structure Emission where
  words : List (W64 × List Nat)
  input : List W64 := []
  reset : Bool := false
  coded : Bool := true
  begun : Bool := false
  deriving DecidableEq, Repr

/-- A stream context (R359-R373): predictor, next block carries RESET = 1, SEQ, the input words of the open block, the clock of its first,
whether it carries RESET, the serial numbers of its records; what waits to be emitted, in order; coding in force, reset at the next block boundary,
words of a record still to come in loopback (R374), the open block closes when that record is complete (R366); an uncorrectable error lies in the
open block (R380). -/
structure CoderCtx where
  pred : Predictor := {}
  resetPending : Bool := true
  seq : BitVec 16 := 0
  block : List W64 := []
  since : Nat := 0
  blockReset : Bool := false
  serials : List Nat := []
  queue : List Emission := []
  coding : Bool := false
  askReset : Bool := false
  remain : Nat := 0
  closeDue : Bool := false
  damaged : Bool := false
  deriving DecidableEq, Repr

/-- The coders (R359-R383): contexts, the loopback FIFOs, the CTX_DATA sample. -/
structure CdrSt where
  ctxs : List (Nat × CoderCtx) := []
  lbIn : List (Nat × W64) := []
  lbOut : List W64 := []
  sample : List W32 := []
  deriving DecidableEq, Repr

end Sys2Proof.Machine
end

