-- ==== Sys2Proof/Machine/StateDsp.lean ====
section
/-! DEFINITION. The state of a DSP core (spec/09): register files, memories, loop stack, streams, FIFOs and output ports. -/

namespace Sys2Proof.Machine

/-- The execution states of DSP.STATUS.STATE (R333). -/
inductive CoreRun where
  | halted | running | waiting | draining | fault
  deriving DecidableEq, Repr

/-- A register file: the registers by the codes of R294, an accumulator under 0x20 + n; unlisted registers are 0 (R295). -/
abbrev RegFile := List (Nat × BitVec 56)

/-- The control transfer whose delay slot comes next (R304): its own address, where it goes (none: not taken), and for RTI the SSR that SR is restored
from after the slot. -/
structure DelaySlot where
  branchPc : BitVec 14
  target : Option (BitVec 14)
  restore : Option (BitVec 12)
  deriving DecidableEq, Repr

/-- One level of the loop state (R305). -/
structure LoopLevel where
  lc : BitVec 16
  lb : BitVec 14
  le : BitVec 14
  deriving DecidableEq, Repr

/-- A sample stream of a core (R319-R321): write pointer, TIME of the last sample, the full coarse count of the sample in each slot, samples since the last mark and in all. -/
structure StreamSt where
  wptr : BitVec 11 := 0
  time : BitVec 32 := 0
  counts : List (Nat × BitVec 58) := []
  seen : Bool := false
  sinceMark : Nat := 0
  total : Nat := 0
  deriving DecidableEq, Repr

/-- A queued waveform request (R324): stream, ADC named at the request, first sample by the stream's running count, samples wanted,
the WAVEFORM context once one is allocated. -/
structure WaveReq where
  stream : Nat
  adc : Nat
  first : Nat
  n : Nat
  ctx : Option Nat
  deriving DecidableEq, Repr

/-- A trigger of a DSP program waiting for the trigger engine (R322, R323): line, core, time in FU. -/
structure DspTrigger where
  line : Nat
  core : Nat
  time : Nat
  deriving DecidableEq, Repr

/-- One DSP core. `rf` is the register file after the last instruction, `rf1` without the late writes of the last instruction, `rf2`
without those of the last two: what an operand, a store and an address generation see (R301); `loopOld` the level and SR that a store or MOV sees
just after LPUSH or LPOP. -/
structure DspCore where
  rf : RegFile := []
  rf1 : RegFile := []
  rf2 : RegFile := []
  ld : Nat := 0
  exc : Bool := false
  loops : List LoopLevel := []
  loopOld : Option (LoopLevel × BitVec 12) := none
  pc : BitVec 14 := 0
  run : CoreRun := .halted
  cause : BitVec 4 := 0
  slot : Option DelaySlot := none
  claimed : Bool := false
  pmem : List (Nat × BitVec 32) := []
  dmem : List (Nat × BitVec 24) := []
  smem : List (Nat × BitVec 32) := []
  bad : List (BitVec 20) := []
  res : List (BitVec 7 × BitVec 24) := []
  mbx : List (BitVec 24) := []
  streams : List (Nat × StreamSt) := []
  waves : List WaveReq := []
  fab : Option Bool := none
  fabSince : Nat := 0
  waitSince : Nat := 0
  stopAsked : Bool := false
  tmrStart : Nat := 0
  drainAt : Option Nat := none
  deriving DecidableEq, Repr

end Sys2Proof.Machine
end

