-- ==== Sys2Proof/Machine/StateHistory.lean ====
section
/-! DEFINITION. The state of the DDR5 history memory (spec/08) beside its registers: the segments of the ring, drops, pins, readbacks. -/

namespace Sys2Proof.Machine

/-- A segment of the ring (R265-R267): segment number, sequence number, times of its first and last hit, counts, header and trailer flags,
and the words of its blocks with their padding to lines, newest first. -/
structure Segment where
  index : Nat
  seq : Nat
  first : Option Nat := none
  last : Option Nat := none
  hits : Nat := 0
  late : Nat := 0
  dropBefore : Bool := false
  resumed : Bool := false
  early : Bool := false
  closed : Bool := false
  bytes : Nat := 0
  words : List W64 := []
  deriving DecidableEq, Repr

/-- A retained or growing capture set (R274, R275, R278): trigger number, CAPTURE context, decision tick in FU, interval, pinned segments by
sequence number, write phase over; the segment being written could not be pinned for it (R274); a time-base load fell into its write phase; the memory
failed in its write phase (R281). -/
structure CaptureSet where
  num : BitVec 24
  ctx : Nat
  decided : Nat
  start : Nat
  stop : Nat
  segs : List Nat
  done : Bool := false
  full : Bool := false
  moved : Bool := false
  lost : Bool := false
  deriving DecidableEq, Repr

/-- A readback accepted (R277-R279): KIND, number, interval, READBACK context, pinned segments by sequence number, STATUS so far, route
(true: the lanes) and ring; one that is complete already, ABORTED or LOST, and has only its header line still to send. -/
structure Readback where
  kind : Nat
  number : Nat
  start : Nat
  stop : Nat
  ctx : Option Nat
  segs : List Nat
  status : Nat
  lanes : Bool
  ring : Nat
  ended : Bool := false
  deriving DecidableEq, Repr

/-- An item of the ring's word stream (R266): a hit with its time, a LATE record with the times of its late hits, or a frame header; the frame it belongs
to. -/
structure RingItem where
  words : List W64
  hit : Option Nat := none
  late : List Nat := []
  frame : BitVec 40
  deriving DecidableEq, Repr

/-- The history ring manager (R258, R265-R282): the geometry in force, the segments that stand in the ring, oldest first, the last one being written unless closed; next
sequence number; writing goes on; the next segment header's RESUMED and DROP_BEFORE; the last released hit was dropped; a hit was written
since the last drop; time of the first hit written after the last drop or resume; the ring is frozen; writing resumes at the next frame
start; staged items; times of the hits in the coder's open block; capture sets; readbacks that wait, the one that runs, and its words not yet sent; fast refresh; the scrubber's next
line; the clocks of recent uncorrectable errors; the number of the last host request. -/
structure HisSt where
  geom : W32 := 0
  segs : List Segment := []
  nextSeq : Nat := 0
  writing : Bool := false
  resume : Bool := false
  dropPending : Bool := false
  written : Bool := false
  clean : Option Nat := none
  frozen : Bool := false
  resumeNext : Bool := false
  captures : List CaptureSet := []
  readbacks : List Readback := []
  running : Option Readback := none
  sending : List W64 := []
  refreshFast : Bool := false
  scrubLine : Nat := 0
  ueTimes : List Nat := []
  number : Nat := 0
  staging : List RingItem := []
  inBlock : List Nat := []
  deriving DecidableEq, Repr

end Sys2Proof.Machine
end

