-- ==== Sys2Proof/Machine/StateHost.lean ====
section
/-! DEFINITION. The state of the PCI Express endpoint, its rings and the event controller (spec/14), and what the block sends out. -/

namespace Sys2Proof.Machine

/-- A fetched descriptor not yet complete (R462, R464, R468): its count, words 0 and 1, bytes written (readout), the clock of its first
word, whether it holds readback data and that readback is over, CODED, FRAME and CONT so far. -/
structure Desc where
  index : W32
  word0 : W64
  word1 : W64
  used : Nat := 0
  since : Nat := 0
  readback : Bool := false
  ended : Bool := false
  coded : Bool := false
  frame : Option Nat := none
  cont : Bool := false
  deriving DecidableEq, Repr

/-- A DMA ring beside its registers (R461-R471): serial numbers of the queued records it has not taken; fetched descriptors, oldest first;
the last word written lies inside a unit; bytes moved beyond whole KiB. -/
structure RingSt where
  todo : List Nat := []
  descs : List Desc := []
  inside : Bool := false
  bytes : Nat := 0
  deriving DecidableEq, Repr

/-- An entry of the MSI-X table (R457): address, data, mask. -/
structure MsixEntry where
  addr : W64 := 0
  data : W32 := 0
  mask : Bool := true
  deriving DecidableEq, Repr

/-- The endpoint (R455-R460): configuration settings, link, rings, MSI-X table and pending bits; bytes discarded beyond
whole KiB (R460). -/
structure PciSt where
  cfg : PcieConfig := ⟨false, false, false, false, false, 128, 512⟩
  up : Bool := false
  rings : List (Nat × RingSt) := []
  msix : List (Nat × MsixEntry) := []
  pba : BitVec 64 := 0
  discardBytes : Nat := 0
  deriving DecidableEq, Repr

/-- The event controller (R480-R487): sources asserted after the last command, in-service bits, the event log, the pins it drives. -/
structure EvcSt where
  asserted : BitVec 256 := 0
  insvc : BitVec 64 := 0
  log : List (BitVec 8 × BitVec 16) := []
  irqLow : Bool := false
  inta : Bool := false
  deriving DecidableEq, Repr

/-- An EVENT message waiting to be sent (R451). -/
structure EventMsg where
  source : Nat
  code : Nat
  detail : W32
  frame : BitVec 40
  toa : BitVec 24
  deriving DecidableEq, Repr

/-- What the block sends, oldest first. -/
inductive OutEvent where
  /-- A memory write to the host (R463, R467): the address of the first byte, and the bytes in the order of their addresses (R12). -/
  | hostWrite (addr : Nat) (bytes : List Nat)
  /-- An MSI-X message (R482). -/
  | msix (vector : Nat) (addr : W64) (data : W32)
  /-- A read request for a descriptor or a buffer (R462, R469). -/
  | hostRead (addr : Nat) (bytes : Nat)
  /-- A 257-bit block placed on a transmit lane (R425, R427). -/
  | laneBlock (lane : Nat) (block : BitVec 257)
  /-- The control word of a training frame on a transmit lane (R401, R402). -/
  | trainingFrame (lane : Nat) (word : BitVec 128)
  /-- A command to the DDR5 devices (R260, R261). -/
  | ddr (command : Nat) (arg : Nat)
  /-- An injection pulse of a die (R59, R62, R63): the code, the polarity its step follows (electrons), the coarse time of the step and of the
  opposite return step, and the pixels with INJ_EN, which take the charge. -/
  | inject (die : Nat) (code : Nat) (electrons : Bool) (ct : Nat) (back : Nat) (pixels : List Nat)
  /-- A result left in the test port's data register (R519). -/
  | testPort (status : Nat)
  deriving DecidableEq, Repr

end Sys2Proof.Machine
end

