-- ==== Sys2Proof/Machine/StateLink.lean ====
section
/-! DEFINITION. The state of the lanes and the lane path (spec/12), and of the Zynvitra Link message layer (spec/13). -/

namespace Sys2Proof.Machine

/-- A lane (R384-R413) beside its registers. Training: clocks of the attempt's start and of the last entry into TRAIN, failed attempts in a row, end of
the back-off; what the partner reports of a transmit lane (R403); control words of a receive lane in a row (valid ones while it hunts, bad ones in TRAIN), the
last SEQ, the partner's PRECODE, READY and the clock since when the PRBS window runs (R405), final frames are due and precoding is fixed (R406, R407); symbols of
a transmit lane's present training frame, frames begun, final ones among them. ACTIVE: since when, clocks of the losses of the last 24 h (R413),
down since when with its bundle alive (R410), a removal under way and whether it then stays OFF (R419); the table entry in use (R395); blocks
of the lane since codeword 0 (R427); for a receive lane codewords so far, the uncorrectable ones
among the last (R411), missing ALIGNs in succession, the elastic buffer's level (R392). -/
structure LaneSt where
  since : Nat := 0
  trainSince : Nat := 0
  windowSince : Nat := 0
  symbols : Nat := 0
  frameCount : BitVec 16 := 0
  finals : Nat := 0
  fails : Nat := 0
  retryAt : Nat := 0
  locked : Bool := false
  ready : Bool := false
  precodeReq : Bool := false
  good : Nat := 0
  bad : Nat := 0
  seq : BitVec 16 := 0
  precode : Bool := false
  final : Bool := false
  activeSince : Nat := 0
  losses : List Nat := []
  downSince : Option Nat := none
  leaving : Option Bool := none
  entry : W64 := 0
  blocks : Nat := 0
  codewords : Nat := 0
  uncorrectable : List Nat := []
  missing : Nat := 0
  level : Nat := 16
  deriving DecidableEq, Repr

/-- Words of whole units that wait for a data frame (R438): the serials of the records done with them, in order. -/
structure Chunk where
  words : List W64
  serials : List Nat
  deriving DecidableEq, Repr

/-- A data frame sent and not yet released (R415, R416): SEQ, the records it finishes, its readback words from unit `first` on, and when its last
block was serialised. -/
structure SentFrame where
  seq : W32
  serials : List Nat := []
  first : Nat := 0
  words : List W64 := []
  sentAt : Option Nat := none
  deriving DecidableEq, Repr

/-- The lane path (R414-R421, R427-R441). The equalisation table in force and whether its store is asked for; lanes still to retrain (R398);
striping: the shared block clock, BSN, SET_BSN, SET_EPOCH, the set that the next codeword boundary brings in, whether its second ALIGN is owed,
bundle blocks made and not yet placed, with their lanes and BSNs; data frames: chunks of stream 0, next SEQ, unit numbers by record, next unit of each
stream, readback words that wait (stream 1), blocks of the frame in progress and its SEQ, frames retained, RESEND owed; a resend under way (records
and readback units not yet serialised again), bytes serialised again; the clock at which an acknowledgement last advanced; the page drains since. -/
structure LnkSt where
  lanes : List (Nat × LaneSt) := []
  eq : List (Nat × W64) := []
  retrain : List Nat := []
  slot : Nat := 0
  bsn : BitVec 48 := 0
  setBsn : BitVec 48 := 0
  epoch : BitVec 16 := 0
  setNext : Option (BitVec 8) := none
  pair : Bool := false
  made : List (Nat × BitVec 48 × BitVec 257) := []
  chunks : List Chunk := []
  seq : W32 := 0
  units : List (Nat × Nat) := []
  unit0 : Nat := 0
  unit1 : Nat := 0
  words1 : List W64 := []
  sending : List (BitVec 257) := []
  sendingSeq : Option W32 := none
  frames : List SentFrame := []
  resendOwed : Bool := false
  resend0 : List Nat := []
  resend1 : Nat := 0
  resentBytes : Nat := 0
  advanced : Nat := 0
  drainSince : Option Nat := none
  deriving DecidableEq, Repr

/-- A block that waits in a receive lane's deskew buffer (R433): an ALIGN, or a bundle block (none: errored, R428). -/
inductive RxBlock where
  | align (w : BitVec 257)
  | bundle (w : Option (BitVec 257))
  deriving DecidableEq, Repr

/-- The data frame being received (R437): SEQ, DATA blocks, STREAM, RESEND, first unit, words, the words so far, whether its SEQ is the one expected. -/
structure RxFrame where
  seq : W32
  nblk : Nat
  stream : Nat
  resend : Bool
  first : Nat
  words : Nat
  got : List W64 := []
  take : Bool
  deriving DecidableEq, Repr

/-- A command of the link that waits or runs (R444, R448): the block that carries it, by its bits 255:0. -/
structure LinkCmd where
  block : BitVec 256
  deriving DecidableEq, Repr

/-- The message layer (R425-R454): deskew buffers and positions of the receive lanes, the set in force with SET_BSN and SET_EPOCH and the set before it, the next BSN to pass on,
blocks de-striped and not yet consumed; the frame being received, the SEQ expected, the SEQ accepted last, an ACK owed, an LSTATUS owed and
the one sent last; the next unit of stream 2; commands queued, whether an AUTH_WR waits for its counter, responses queued (message bodies with MSG on
top); the clocks of the last repeats of ACK and LSTATUS. -/
structure ZvlSt where
  buffers : List (Nat × List RxBlock) := []
  position : List (Nat × BitVec 48) := []
  set : BitVec 2 := 0
  setBsn : BitVec 48 := 0
  oldSet : BitVec 2 := 0
  oldBsn : BitVec 48 := 0
  epoch : Option (BitVec 16) := none
  next : BitVec 48 := 0
  queue : List (Option (BitVec 257)) := []
  frame : Option RxFrame := none
  expect : Option W32 := none
  accepted : Option W32 := none
  ackDue : Bool := false
  statusDue : Bool := false
  unit2 : Nat := 0
  cmds : List LinkCmd := []
  authWait : Bool := false
  resps : List (BitVec 228) := []
  ackAt : Nat := 0
  statusAt : Nat := 0
  deriving DecidableEq, Repr

end Sys2Proof.Machine
end

