-- ==== Sys2Proof/Machine/StatePixel.lean ====
section
/-! DEFINITION. The state of the hit path up to the event builder: pixels and cluster converters (spec/02, spec/03), regions, bands, die-to-die
channels and receivers (spec/04), and the dies' injection sequences, background checks and table fills (spec/02). -/

namespace Sys2Proof.Machine

/-- A hit as the die carries it: the 75 bits of R133. -/
structure RawHit where
  row : BitVec 8
  col : BitVec 9
  tb : Bool
  c1 : BitVec 24
  c2 : BitVec 11
  s : BitVec 7
  p : BitVec 7
  granted : Bool
  contested : Bool
  sat : Bool
  rangeHi : Bool
  rangeChanged : Bool
  wdFreed : Bool
  deriving DecidableEq, Repr

/-- An item of a die-to-die channel (R132). -/
inductive Item where
  | hit (h : RawHit)
  | loss (level : Nat) (region : Nat)
  deriving DecidableEq, Repr

/-- What a pixel does: armed, over threshold with a hit in progress, its completed hit waiting for the region, or accepted and not yet
re-armed (R25). -/
inductive PixRun where
  | armed | firing | waiting | resting
  deriving DecidableEq, Repr

/-- The reset entry of the pixel configuration table (R58). -/
def resetEntry : BitVec 8 := 0xB0#8

/-- A raw hit of zeros. -/
def RawHit.blank : RawHit := ⟨0, 0, false, 0, 0, 0, 0, false, false, false, false, false, false⟩

/-- A pixel (R25, R58, R59): table entry as written, trim applied, status, discriminator output, what it does, its hit, the clock of its
trailing edge, watchdog resets in succession (R141), held by the background check (R68). -/
structure PixelSt where
  entry : BitVec 8 := resetEntry
  trim : BitVec 5 := 0x10#5
  status : BitVec 2 := 0
  high : Bool := false
  run : PixRun := .armed
  hit : RawHit := RawHit.blank
  trailClock : Nat := 0
  stuck : Nat := 0
  checking : Bool := false
  deriving DecidableEq, Repr

/-- A cluster converter (R95-R97): the pixel that holds it, the pixels of a contest, the clock and the latched count of the first edge, the start
and stop registers of 80 taps, whether the stop has come. -/
structure ConvSt where
  holder : Option Nat := none
  firstClock : Nat := 0
  firstCount : BitVec 24 := 0
  start : BitVec 80 := 0
  stop : BitVec 80 := 0
  stopped : Bool := false
  deriving DecidableEq, Repr

/-- A region (R119-R121, R134, R141, R142, R52-R54): FIFO with the output first, LOSS items owed by level, a waiting test hit, FIFO
watchdog resets in succession, the clock since when the pixel OR is low, a gain transition in progress, the clock of the last one's end, the nodes
of the input arbiter whose priority is on their second side (R120). -/
structure RegionSt where
  fifo : List RawHit := []
  owed : List Nat := []
  test : Option RawHit := none
  wd : Nat := 0
  quietSince : Nat := 0
  transition : Bool := false
  settledAt : Nat := 0
  arb : BitVec 2048 := 0
  deriving DecidableEq, Repr

/-- A band bus (R128, R134, R141): the item granted and not yet merged, LOSS items of the bus owed (the region of each), the region column served last, watchdog
resets in succession, disabled by the device. -/
structure BandSt where
  out : Option Item := none
  owed : List Nat := []
  last : Nat := 15
  wd : Nat := 0
  failed : Bool := false
  deriving DecidableEq, Repr

/-- A die-to-die channel's periphery queue of 42-bit words (FIRST, LAST, payload; R130, R138): the band served last, watchdog resets in
succession; a restart under test, whether it has had an item to send and whether it has delivered one (R148); the words of the merger's item that it
has still to write, and whether a flush discards that item (R138). -/
structure ChanSt where
  queue : List (BitVec 42) := []
  last : Nat := 0
  wd : Nat := 0
  restart : Option Nat := none
  offered : Bool := false
  delivered : Bool := false
  merging : List (BitVec 42) := []
  dropping : Bool := false
  deriving DecidableEq, Repr

/-- A receiver (R131, R135): words of the item in progress, whether it skips to the next FIRST, whole items in its queue. -/
structure RxSt where
  prog : List (BitVec 42) := []
  skipping : Bool := false
  queue : List Item := []
  deriving DecidableEq, Repr

/-- An injection sequence (R63-R65): pulses owed, pulses given, the clock of the next synchronous pulse, mode; the tick of the die's last synchronous
pulse (R335); the code and the period that a service uses in place of the registers' (R351). -/
structure InjSt where
  left : Nat := 0
  given : Nat := 0
  next : Nat := 0
  async : Bool := false
  pulse : Option Nat := none
  service : Option (Nat × Nat) := none
  deriving DecidableEq, Repr

/-- A background check (R67-R71): a slot in progress, the clock its time counts from, the pixels it checks; the pixels to be held again when
it goes on, and the clock since when it pauses; its region was in a gain transition when its slot came. -/
structure CheckSt where
  inSlot : Bool := false
  since : Nat := 0
  checked : List Nat := []
  blind : List Nat := []
  pausedAt : Option Nat := none
  delayed : Bool := false
  deriving DecidableEq, Repr

/-- A table fill in progress (R81): value, bit mask, region or the whole die, the write that started it and its route. -/
structure FillSt where
  value : BitVec 8
  mask : BitVec 8
  region : Option Nat
  word : W32
  route : Nat
  deriving DecidableEq, Repr

/-- The hit path: every unit by its number in the package; the hit converted and still in the
correction unit, with the raw hit it came from (R104, R114); BUSY_N and WARN_N asserted, and the clocks since when (R126). -/
structure ArrSt where
  pixels : List (Nat × PixelSt) := []
  convs : List (Nat × ConvSt) := []
  regions : List (Nat × RegionSt) := []
  bands : List (Nat × BandSt) := []
  chans : List (Nat × ChanSt) := []
  rxs : List (Nat × RxSt) := []
  tcuOut : List Hit := []
  tcuRaw : Option RawHit := none
  inj : List (Nat × InjSt) := []
  check : List (Nat × CheckSt) := []
  fills : List (Nat × FillSt) := []
  busy : Bool := true
  warn : Bool := true
  busySince : Nat := 0
  warnSince : Nat := 0
  deriving DecidableEq, Repr

end Sys2Proof.Machine
end

