-- ==== Sys2Proof/Machine/StatePower.lean ====
section
/-! DEFINITION. The state of the always-on side: power domains and rails (spec/16), sensors and throttling (spec/16), the non-volatile
store and its journal, start-up and health (spec/17). Registers themselves are in the register map; here is what the registers do not hold. -/

namespace Sys2Proof.Machine

/-- A switch of a power domain in progress and the clock of its start (R532, R533). -/
structure Switch where
  dom : Nat
  on : Bool
  since : Nat
  deriving DecidableEq, Repr

/-- Power domains (R526-R537): power-on reset in force, rails good by R527, switches queued (domain, on), the switch in progress, the
domains off because of a rail fault or a failed switch-on (R570). -/
structure PwrSt where
  por : Bool := true
  queue : List (Nat × Bool) := []
  sw : Option Switch := none
  faultOff : List Nat := []
  deriving DecidableEq, Repr

/-- A temperature sensor (R539-R543): its own last temperature in 1/8 °C, whether it failed, the clock since when a failed one passes its
tests, consecutive readings at QUENCH_C or more. -/
structure SensorSt where
  raw : BitVec 16 := 0
  valid : Bool := false
  own : Int := 0
  failed : Bool := false
  goodSince : Option Nat := none
  hot : Nat := 0
  deriving DecidableEq, Repr

/-- A throttle curve (R547): points (temperature in 1/8 °C, duty), PERIOD µs, HYST, PAUSE_MAX ms, WARN in 1/8 °C. -/
structure Curve where
  points : List (Int × Nat)
  period : Nat
  hyst : Nat
  pauseMax : Nat
  warn : Int
  deriving DecidableEq, Repr

/-- Thermal management (R538-R555): sensors; the diode's last temperature; the curve in force (none: the built-in one) with its image words, and
the committed one that waits for the next update; T of the last update; pauses under way with the clocks of their start and end, and paused ticks beyond whole ms;
the device is down after a trip, and since when every working sensor is below RESTART_C; diode readings at QUENCH_C or more in a row. -/
structure ThmSt where
  sensors : List (Nat × SensorSt) := []
  diode : Int := 0
  curve : Option Curve := none
  curveWords : List (Nat × W64) := []
  next : Option (Curve × List (Nat × W64)) := none
  lastT : Int := 0
  pauses : List (PacedKind × Nat × Nat) := []
  pauseTicks : Nat := 0
  shutdown : Bool := false
  coolSince : Option Nat := none
  diodeHot : Nat := 0
  deriving DecidableEq, Repr

/-- Who asked for a journaled write, and is told how it went (R563). -/
inductive StoreOwner where
  | config (reg : Nat) | counter (reg : Nat) | eqSave | curveSave | maskImage (page : Nat) | sealImage (page : Nat)
  | sealLog | audit | healthLog | sealCounter | authCounter (slot : Nat) | patrol
  deriving DecidableEq, Repr

/-- A journaled write: the page, the data words it changes (the rest stay), its owner, the image write it belongs to (R603). -/
structure StoreWrite where
  page : Nat
  words : List (Nat × Nat)
  owner : StoreOwner
  image : Nat := 0
  deriving DecidableEq, Repr

/-- A page of the store: data words by index, generation, physical writes, image write, and whether its CRC holds (R562, R564). -/
structure StorePage where
  words : List (Nat × Nat) := []
  gen : Nat := 0
  writes : Nat := 0
  image : Nat := 0
  used : Bool := false
  bad : Bool := false
  warned : Bool := false
  deriving DecidableEq, Repr

/-- A shadow slot that an interruption left (R564): the write it names and whether its commit word was written. -/
structure ShadowSlot where
  write : StoreWrite
  committed : Bool
  deriving DecidableEq, Repr

/-- The store (R562-R565): pages, shadow slots, slot rotation, the write in progress and whether it is committed, the queue, the writes
that always-on owners request again after a restart (R604). -/
structure NvsSt where
  pages : List (Nat × StorePage) := []
  slots : List (Nat × ShadowSlot) := []
  rotation : Nat := 0
  prog : Option StoreWrite := none
  committed : Bool := false
  queue : List StoreWrite := []
  again : List StoreWrite := []
  deriving DecidableEq, Repr

/-- An entry of the audit trail or the health log while it is still in the device: merge key, words 0-3 without SEQ, CRC and COUNT, and
the occurrences merged into it (R511, R512, R569). -/
structure LogEntry where
  kind : Nat
  merge : Nat
  word0 : W64
  word1 : W64
  word2 : W64
  word3 : W64
  count : Nat
  deriving DecidableEq, Repr

/-- The merging, queueing and loss state of a log (R512): open entry, queue of at most 16, entries lost since the last LOST entry, an
entry handed to the store, the clock of the last entry handed to it. -/
structure LogQ where
  entry : Option LogEntry := none
  queue : List LogEntry := []
  lost : Nat := 0
  writing : Bool := false
  last : Option Nat := none
  deriving DecidableEq, Repr

/-- Start-up and health (R556-R576): start-up step (0: none) and the clock of its start, the domains that the step has still to switch on and
whether the first of them has been asked for; the step-down to S0 for LEVEL_REQ = 0 (R561); the stall already raised; the clock since when a
timed criterion holds (R571); the log; mask save pages left (R562); upsets of this hour (R567); the dose multiple reached (R568); the clock of the
last reset (R569). -/
structure HltSt where
  step : Nat := 1
  stepSince : Nat := 0
  todo : List Nat := []
  asked : Bool := false
  stopping : Bool := false
  stallRaised : Bool := false
  clustersSince : Option Nat := none
  coreSince : Option Nat := none
  log : LogQ := {}
  maskLeft : List Nat := []
  hourUpsets : Nat := 0
  doseStep : Nat := 0
  resetClock : Nat := 0
  deriving DecidableEq, Repr

end Sys2Proof.Machine
end

