-- ==== Sys2Proof/Machine/StateSeal.lean ====
section
/-! DEFINITION. The state of the sealed measurement domain and of security (spec/15), with the one-time programmable store. -/

namespace Sys2Proof.Machine

/-- What a stored sealed image holds (R489, R501): flag, counter of its last seal, contents, and the key its MAC was taken with. -/
structure SealImage where
  isSealed : Bool
  counter : W32
  fineEn : Bool
  injDelay : List W32
  trimStep : List Nat
  injcal : List W32
  coefs : List (Nat × BitVec 16)
  trims : List (Nat × BitVec 5)
  key : Option (BitVec 256)
  deriving DecidableEq, Repr

/-- The commands of the sealed domain that take store writes (R495, R500, R502, R504). -/
inductive SealKind where
  | seal | save | unseal | reseal | erase
  deriving DecidableEq, Repr

/-- How far such a command has got (R496, R500). -/
inductive SealPhase where
  | counter | image (next : Nat) | flag | slog | done
  deriving DecidableEq, Repr

/-- A command of the sealed domain in progress: time of the action, counter it writes, MAC, key slot and route of the unseal, the number of
its image write, phase. -/
structure SealWork where
  kind : SealKind
  phase : SealPhase
  frame : BitVec 40
  ct : BitVec 18
  counter : W32
  mac : BitVec 256 := 0
  keySlot : Nat := 0
  route : Nat := 3
  gen : Nat := 0
  deriving DecidableEq, Repr

/-- The sealed domain beside its registers (R489-R504): master trims, TRIM_STEP of each die, coefficient words, correction records (66 words
a cluster, R100), the command in progress, the service window, the stored images by the number of their image write, whether the domain
was sealed when it last lost power (R492), bits 39:32 of the time of the last seal or unseal. -/
structure SeaSt where
  master : List (Nat × BitVec 5) := []
  trimStep : List (Nat × Nat) := []
  coefs : List (Nat × BitVec 16) := []
  corr : List (Nat × BitVec 16) := []
  work : Option SealWork := none
  window : Bool := false
  images : List (Nat × SealImage) := []
  wasSealed : Bool := false
  actHi : W32 := 0
  deriving DecidableEq, Repr

/-- A key slot of the OTP store (R505-R507): key, programmed, revoked, usage (bit 0 SEAL, 1 CMD, 2 DEBUG). -/
structure KeySlot where
  key : BitVec 256 := 0
  programmed : Bool := false
  revoked : Bool := false
  usage : BitVec 3 := 0
  deriving DecidableEq, Repr

/-- The one-time programmable store: device number (R454), keys, erasure fuse, sensor calibration counts at 25 °C and 105 °C (R539),
dose calibration in kGy per count (R568). -/
structure Otp where
  devId : W64 := 0
  keys : List (Nat × KeySlot) := []
  erased : Bool := false
  sensorCal : List (Nat × (Nat × Nat)) := []
  doseCal : List (Nat × Nat) := []
  deriving DecidableEq, Repr

/-- The routes of an authenticated write (R508); a service's WRITE step uses the registers with the DSP route's rights (R340). -/
inductive AuthRoute where
  | link | register (route : Route) | testPort
  deriving DecidableEq, Repr

/-- An authenticated write past its checks, waiting for its counter commit (R448). -/
structure AuthWork where
  route : AuthRoute
  slot : Nat
  ctr : W32
  addr : BarAddr
  data : W32
  tag : BitVec 16
  deriving DecidableEq, Repr

/-- Security (R505-R520). -/
structure SecSt where
  otp : Otp := {}
  auth : List AuthWork := []
  failures : List Nat := []
  lockout : Option Nat := none
  audit : LogQ := {}
  keyProg : Option (Nat × BitVec 3 × BitVec 256) := none
  erasing : Bool := false
  lockedEntered : Bool := false
  alarms : List (Fin 5) := []
  portStatus : BitVec 4 := 0
  portBusy : Bool := false
  deriving DecidableEq, Repr

end Sys2Proof.Machine
end

