-- ==== Sys2Proof/Machine/StateSta.lean ====
section
/-! DEFINITION. The state of the statistics engine and of the service sequencer (spec/10). -/

namespace Sys2Proof.Machine

/-- A moment cell (R336): count, sum, sum of squares, minimum and maximum. -/
structure Cell where
  n : Nat := 0
  s1 : Int := 0
  s2 : Nat := 0
  min : Int := 0
  max : Int := 0
  deriving DecidableEq, Repr

/-- The built-in services (R349). -/
inductive Service where
  | delayLine | threshold | bumpScan
  deriving DecidableEq, Repr

/-- Where a service's measurement stands (R351-R353): a delay-line calibration in its histogram run or in an offset run, threshold equalisation in a
group of columns at one of its five measurements, a bump scan. -/
inductive ServiceStage where
  | codes
  | offsets (half : Nat)
  | trims (group : Nat) (round : Nat)
  | scan
  deriving DecidableEq, Repr

/-- A die in a bump scan (R353): repetitions begun, one is in progress, the clock of its start, the pixels it checks, the added capacitances found so
far in 1/16 fF (none: no response). -/
structure ScanSt where
  reps : Nat := 0
  busy : Bool := false
  since : Nat := 0
  checked : List Nat := []
  found : List (Nat × Option Nat) := []
  deriving DecidableEq, Repr

/-- A RUN step whose claims are granted: the service, its dies and those that a delay-line calibration has still to do (the first one is being done),
COMMIT, parameters, where its measurement stands, some unit failed so far, it will reseal (R344), a condition was lost while it reseals (R349), the
entries before it of the pixels whose INJ_EN or trim it changed, regions in the low-gain range at its start or changed since; the clusters of the
present die that fail and the means of its first offset run; pixels found noisy and TRIM_HIGH; the dies of its scan; its SERVICE context. -/
structure ServiceRun where
  svc : Service
  dies : List Nat
  todo : List Nat := []
  commit : Bool
  params : BitVec 48
  stage : ServiceStage := .scan
  warn : Bool := false
  reseals : Bool := false
  cond : Bool := false
  saved : List (Nat × BitVec 8) := []
  lowGain : List Nat := []
  failed : List Nat := []
  means : List Int := []
  noisy : List Nat := []
  high : List Nat := []
  scans : List (Nat × ScanSt) := []
  ctx : Nat
  deriving DecidableEq, Repr

/-- Where the running sequence stands at its step: about to take it, in a WAIT until a clock, in a POLL since a clock, waiting for claims since a
clock, in a service, in a DSP step on a core since a clock, or waiting for a reseal to complete (R344). -/
inductive SeqPhase where
  | ready
  | wait (stop : Nat)
  | poll (since : Nat)
  | claim (since : Nat)
  | service (r : ServiceRun)
  | dsp (core : Nat) (since : Nat)
  | reseal (r : ServiceRun)
  deriving DecidableEq, Repr

/-- The running sequence (R348, R349): its number, the dies of its start cause, some RUN step gave WARN, the last one did, the table it began
with, where it stands. -/
structure SeqRun where
  seq : Nat
  cause : BitVec 4
  warned : Bool := false
  lastWarn : Bool := false
  table : List (Nat × W64)
  phase : SeqPhase := .ready
  deriving DecidableEq, Repr

/-- The STA block: cells that have taken values, histogram bins, the most values that can wait in the engine's queue and the clock of that bound
(R337); the sequence table in force (against its reset contents),
the running sequence, the causes of the pending ones, the clock of each sequence's last start, the clock of the entry into S1, the periods each periodic sequence has had. -/
structure StaSt where
  cells : List (Nat × Cell) := []
  bins : List (Nat × BitVec 16) := []
  backlog : Nat := 0
  backlogAt : Nat := 0
  table : List (Nat × W64) := []
  run : Option SeqRun := none
  causes : List (Nat × BitVec 4) := []
  started : List (Nat × Nat) := []
  s1Since : Option Nat := none
  periods : List (Nat × Nat) := []
  stopping : Bool := false
  deriving DecidableEq, Repr

end Sys2Proof.Machine
end

