-- ==== Sys2Proof/Machine/StateTime.lean ====
section
/-! DEFINITION. The state of the timing island beside its registers (spec/03). -/

namespace Sys2Proof.Machine

/-- A SYNC edge on its way to its load tick (R89, R90): MODE, SYNC_FRAME and SYNC_PHASE as sampled, and the load tick. -/
structure SyncEdge where
  mode : Nat
  frame : BitVec 40
  phase : BitVec 18
  loadAt : BitVec 58
  deriving DecidableEq, Repr

/-- The timing island: full coarse count (R88), LOCK ever set since the island powered up (R86), DSP clock started (R286), the SYNC edges in
flight, from the pin and from TSYNC messages (R89, R450), the clock since when FE_INHIBIT is 1 (R90), REFCLK present (R598), TREF lost by its frequency (R82); the PLLs that the island is restarting, and how far the counter of each PLL
stands from the majority (R83). -/
structure TimSt where
  count : BitVec 58 := 0
  hadLock : Bool := false
  dspClock : Bool := false
  sync : List SyncEdge := []
  tsync : List SyncEdge := []
  inhibitSince : Option Nat := some 0
  refclk : Bool := true
  freqLost : Bool := false
  restarting : BitVec 3 := 0
  skew : List (Nat × BitVec 58) := []
  deriving DecidableEq, Repr

end Sys2Proof.Machine
end

