-- ==== Sys2Proof/Machine/StateTrigger.lean ====
section
/-! DEFINITION. The state of the trigger and acquisition engine (spec/07) beside its registers. -/

namespace Sys2Proof.Machine

/-- A primitive that waits for the next evaluated tick (R226, R228): kind as in the condition table (2 EXT, 3 DSP, 4 LINK, 5 SOFT),
input, line, code or bit, and the time in FU it carries (none: the tick itself). -/
structure Primitive where
  kind : Nat
  sel : Nat
  time : Option Nat
  deriving DecidableEq, Repr

/-- What an evaluated tick hands to its decision (R233, R234, R238): the sampling or evaluation tick, the candidate set, its time in FU,
PRE, POST and CAPTURE of the primary condition, whether TRIG_OUT is driven, the ADC lines pulsed. -/
structure Candidate where
  tick : Nat
  conds : BitVec 64
  primary : Nat
  time : Nat
  pre : Nat
  post : Nat
  capture : Bool
  trigOut : Bool
  lines : BitVec 4
  deriving DecidableEq, Repr

/-- An accepted trigger with its window open (R237-R243): number, TRIGGER context, CAPTURE context of a capture set, time in FU, decision
tick, flags, the time in FU at which a capture set stopped early and the clock of the tick in which it did (R246), and what time-base loads since have
added to the time scale. -/
structure Trigger where
  num : BitVec 24
  ctx : Nat
  capture : Option Nat
  retro : Bool
  primary : Nat
  conds : BitVec 64
  time : Nat
  pre : Nat
  post : Nat
  decided : Nat
  overflow : Bool := false
  maskStop : Bool := false
  stop : Option Int := none
  stoppedAt : Option Nat := none
  shift : Int := 0
  deriving DecidableEq, Repr

/-- The trigger engine: condition table in force, the committed one that waits; prescale counters, ends of re-arm by the device's
clock, multiplicities at the last evaluated tick; primitives and decisions that wait; open triggers; regions whose fast-OR is high and the
count at which others fell (R224, R225); arm time (R236) and whether the next frame arms; the end of the TRIG_OUT pulse and the ADC start
lines pulsed and not yet served; the levels of the TRIG_IN pins, the clock until which a pin keeps its level and the one from which a rising edge of it
is seen (R227); mask tests: hits of each interval, the end of the next interval to be evaluated. -/
structure TrgSt where
  cond : List (Nat × W64) := []
  condNext : Option (List (Nat × W64)) := none
  prescale : List (Nat × Nat) := []
  rearm : List (Nat × Nat) := []
  mult : List (Nat × Nat) := []
  prims : List Primitive := []
  decisions : List Candidate := []
  opens : List Trigger := []
  forHigh : List Nat := []
  forFall : List (Nat × Nat) := []
  armAt : BitVec 58 := 0
  armNext : Bool := false
  outUntil : Option Nat := none
  lines : List (Fin 4 × Nat) := []
  pins : BitVec 2 := 0
  pinHold : List (Nat × Nat) := []
  pinSeen : List (Nat × Nat) := []
  maskHits : List (Nat × Nat) := []
  maskDone : List (Nat × Nat) := []
  deriving DecidableEq, Repr

end Sys2Proof.Machine
end

