-- ==== Sys2Proof/Machine/State.lean ====
section
/-! DEFINITION. The whole state: the device and the queue of commands that wait. -/

namespace Sys2Proof.Machine

/-- The device: its registers (every register of the spec that holds a value, in one sparse list over its reset values), the event bits of
every page, and the state of each block that is no register. `part`, `clock` (coarse ticks of nominal length since power-up), `free` (free
values drawn), `out` (what the block has sent) `rdata` (what the last register read returned) and `wrRefused` (whether the last register write was a refused one) are the model's own fields; `staging`
holds the staging copies of the five table images, 2,048 words apart (R213, R229, R346, R396, R547). -/
structure Device where
  part : Part := .ezn8640
  clock : Nat := 0
  free : Nat := 0
  regs : List (Nat × W32) := []
  evSticky : List (Nat × W32) := []
  evEnable : List (Nat × W32) := []
  out : List OutEvent := []
  rdata : W32 := 0
  wrRefused : Bool := false
  pwr : PwrSt := {}
  thm : ThmSt := {}
  hlt : HltSt := {}
  nvs : NvsSt := {}
  tim : TimSt := {}
  evb : EvbSt := {}
  cores : List (Nat × DspCore) := []
  pci : PciSt := {}
  evc : EvcSt := {}
  sea : SeaSt := {}
  sec : SecSt := {}
  arr : ArrSt := {}
  wadcs : List (Nat × WadcSt) := []
  mon : MonSt := {}
  cdr : CdrSt := {}
  trg : TrgSt := {}
  his : HisSt := {}
  sta : StaSt := {}
  lnk : LnkSt := {}
  zvl : ZvlSt := {}
  staging : List (Nat × W64) := []
  dspTrig : List DspTrigger := []
  eventQ : List EventMsg := []
  eventLost : Bool := false
  deriving DecidableEq, Repr

/-- The state of the model: the device, and the commands that wait, first in, first out. -/
structure State where
  dev : Device := {}
  pending : List Instr := []
  deriving DecidableEq, Repr

/-- The machine right after power is applied: power-on reset in force, every register at its reset value, nothing stored. -/
def State.reset : State := {}

/-- Why a command stops the model with a fault. Nothing of this block faults: every rule of the spec that names an error names its effect. -/
inductive Fault where
  /-- Raised by no command; the type is closed and the block has no such outcome. -/
  | none
  deriving DecidableEq, Repr

/-- Why a command is refused. -/
inductive Refusal where
  /-- The command has no meaning yet. Safe: the model stops where the device goes on. -/
  | notModelled (mnemonic : String)
  deriving DecidableEq, Repr

end Sys2Proof.Machine
end

