-- ==== Sys2Proof/Machine/Coding.lean ====
section
/-! DEFINITION. Bit strings, checks and codes: CRC-32 and CRC-16 (R213, R362), kept fields (R208, R212), the lossless coder (R362-R367) and
the fixed-ratio coder (R375-R379). -/

namespace Sys2Proof.Machine

/-! ### Bit strings -/

/-- A bit string: its length and its bits as a number, the first bit the most significant. -/
structure Bits where
  len : Nat := 0
  val : Nat := 0
  deriving DecidableEq, Repr

/-- The low `n` bits of `v` are appended, most significant first (R363). -/
def Bits.put (b : Bits) (v n : Nat) : Bits := { len := b.len + n, val := b.val * 2 ^ n + v % 2 ^ n }

/-- The string as 64-bit words from bit 63 of the first, the last padded with 0. -/
def Bits.words (b : Bits) : List W64 :=
  let n := (b.len + 63) / 64
  let v := b.val * 2 ^ (64 * n - b.len)
  (List.range n).map fun i => BitVec.ofNat 64 (v / 2 ^ (64 * (n - 1 - i)))

/-- The bytes of a word in little-endian order (R12). -/
def bytesLE (w : W64) : List Nat := (List.range 8).map fun i => w.toNat / 256 ^ i % 256

/-! ### Checks -/

/-- One bit of a reflected CRC-32 (IEEE 802.3). -/
def crc32Bit (c : Nat) : Nat := if c % 2 = 1 then Nat.xor (c / 2) 0xEDB88320 else c / 2

/-- CRC-32 over bytes: reflected, initial value and final XOR 0xFFFF_FFFF (R213). -/
def crc32 (bytes : List Nat) : Nat :=
  Nat.xor (bytes.foldl (fun c b => (List.range 8).foldl (fun c _ => crc32Bit c) (Nat.xor c b)) 0xFFFFFFFF) 0xFFFFFFFF

/-- CRC-16 over bytes: polynomial 0x1021, initial value 0xFFFF, no reflection, no final XOR (R362). -/
def crc16 (bytes : List Nat) : Nat :=
  bytes.foldl (fun c b => (List.range 8).foldl (fun c _ =>
    if c / 0x8000 % 2 = 1 then Nat.xor (c * 2 % 0x10000) 0x1021 else c * 2 % 0x10000) (Nat.xor c (b * 256))) 0xFFFF

/-- The header of a table image passes (R213, R229): MAGIC, VERSION 1, COUNT, and the CRC-32 over the words that follow. -/
def imageOk (magic count : Nat) (header : W64) (body : List W64) : Bool :=
  header.toNat / 2 ^ 48 = magic && header.toNat / 2 ^ 40 % 256 = 1 && header.toNat / 2 ^ 32 % 256 = count
    && header.toNat % 2 ^ 32 = crc32 (body.flatMap bytesLE)

/-! ### The history memory's ECC (R262) -/

/-- The places of the data bits in a Hamming code of 71 bits: all but the powers of two. -/
def dataPlaces : List Nat := (List.range 72).filter fun p => 2 < p && p != 4 && p != 8 && p != 16 && p != 32 && p != 64

/-- The parity of a number's bits below 2^n. -/
def parityOf (n v : Nat) : Nat := ((List.range n).map fun i => v / 2 ^ i % 2).sum % 2

/-- The eight SECDED bits of a word: the seven of the Hamming code, and the parity of those and the data in bit 7. -/
def secded (w : W64) : BitVec 8 :=
  let h := (dataPlaces.zipIdx.filter fun p => w.getLsbD p.2).foldl (fun c p => Nat.xor c p.1) 0
  BitVec.ofNat 8 (h + 128 * ((parityOf 64 w.toNat + parityOf 7 h) % 2))

/-- CRC-8 over the line number and the word's index in the line, most significant bit first: polynomial 0x07, initial value 0. -/
def lineCrc (line : W32) (index : Fin 8) : BitVec 8 :=
  let bytes := [line.toNat / 2 ^ 24, line.toNat / 2 ^ 16 % 256, line.toNat / 2 ^ 8 % 256, line.toNat % 256, index.val]
  BitVec.ofNat 8 (bytes.foldl (fun c b => (List.range 8).foldl (fun c _ => if 128 ≤ c then Nat.xor (c * 2 % 256) 7 else c * 2) (Nat.xor c b)) 0)

/-- A word of a line with its 16 ECC bits: the word, its SECDED bits, its CRC-8, from the lowest bit. -/
def withEcc (line : W32) (index : Fin 8) (w : W64) : BitVec 80 := lineCrc line index ++ secded w ++ w

/-- What the controller finds in a word. -/
inductive WordError where
  | corrected | uncorrectable | wrongAddress
  deriving DecidableEq, Repr

/-- What a read of a word answers: its data, and the error found. -/
structure WordCheck where
  data : W64
  error : Option WordError
  deriving DecidableEq, Repr

/-- The word's line is uncorrectable. -/
def WordCheck.isBad (c : WordCheck) : Bool := c.error == some .uncorrectable || c.error == some .wrongAddress

/-- The check of a word read from a line (R262). -/
def checkWord (line : W32) (index : Fin 8) (r : BitVec 80) : WordCheck :=
  let data : W64 := r.extractLsb' 0 64
  let check : BitVec 8 := r.extractLsb' 64 8
  let place := ((secded data ^^^ check).toNat) % 128
  if (parityOf 72 (r.toNat % 2 ^ 72)) = 1 then
    match dataPlaces.zipIdx.find? fun p => p.1 = place with
    | some p => { data := data ^^^ BitVec.ofNat 64 (2 ^ p.2), error := some .corrected }
    | none => { data := data, error := some (if place < 72 then .corrected else .uncorrectable) }
  else if place ≠ 0 then { data := data, error := some .uncorrectable }
  else { data := data, error := if lineCrc line index = r.extractLsb' 72 8 then none else some .wrongAddress }

/-! ### Kept fields -/

/-- The kept ones of a list of (width, value) fields, the first selected by the highest bit of `keep`. -/
def keptFields (keep : Nat) (fields : List (Nat × Nat)) : List (Nat × Nat) :=
  (fields.zipIdx.filter fun p => Nat.testBit keep (fields.length - 1 - p.2)).map (·.1)

/-- The sum of the kept widths. -/
def keptWidth (keep : Nat) (fields : List (Nat × Nat)) : Nat := ((keptFields keep fields).map (·.1)).sum

/-- The kept fields appended in order. -/
def Bits.putKept (b : Bits) (keep : Nat) (fields : List (Nat × Nat)) : Bits :=
  (keptFields keep fields).foldl (fun b f => b.put f.2 f.1) b

/-- The hit word of R203, of the type given: 0 hit, 1 late hit. -/
def hitWord (type : Nat) (h : Hit) : W64 :=
  BitVec.ofNat 2 type ++ BitVec.ofNat 2 h.die ++ BitVec.ofNat 8 h.row ++ BitVec.ofNat 9 h.col ++ BitVec.ofNat 24 h.toa ++ h.tot ++ h.flags

/-- The fields of a hit in R203 order: TYPE, DIE, ROW, COL, TOA, TOT, FLAGS (R212). -/
def hitFields (h : Hit) : List (Nat × Nat) :=
  [(2, 0), (2, h.die), (8, h.row), (9, h.col), (24, h.toa % 2 ^ 24), (13, h.tot.toNat), (6, h.flags.toNat)]

/-- The fields of a sample word in R156 order, bits 17..16 left out: VALID, REASON, OVR, INJ, RANGE_HI, GAIN, CHAN, VALUE (R207, R208). -/
def sampleFields (w : W32) : List (Nat × Nat) :=
  let n := w.toNat
  [(1, n / 2 ^ 31), (3, n / 2 ^ 28), (1, n / 2 ^ 27), (1, n / 2 ^ 26), (1, n / 2 ^ 25), (2, n / 2 ^ 23), (5, n / 2 ^ 18), (16, n)]

/-- The bits a sample takes in a waveform record (R207). -/
def sampleWidth (wkeep : Nat) : Nat := if wkeep = 0xFF then 32 else keptWidth wkeep (sampleFields 0)

/-- The samples of an uncoded waveform record (R208). -/
def samplePayload (wkeep : Nat) (samples : List W32) : List W64 :=
  (samples.foldl (fun (b : Bits) w => if wkeep = 0xFF then b.put w.toNat 32 else b.putKept wkeep (sampleFields w)) {}).words

/-! ### The lossless coder -/

/-- The number of significant bits of `x`. -/
def bitLen (x : Nat) : Nat := if x = 0 then 0 else x.log2 + 1

/-- The Rice code of R363: the bits appended and the adapted parameter. -/
def rice (b : Bits) (x a kmax width : Nat) : Bits × Nat :=
  let k := min kmax (bitLen (a / 16) - 1)
  let q := x / 2 ^ k
  let b := if q < 16 then ((b.put (2 ^ q - 1) q).put 0 1).put x k else (b.put 0xFFFF 16).put x width
  (b, a + x - a / 16)

/-- The coder's working state in a record: predictor, words still to come of a multi-word record, bits so far. -/
structure Coding where
  pred : Predictor
  remain : Nat := 0
  bits : Bits := {}
  deriving DecidableEq, Repr

/-- One input word coded (R363). -/
def codeWord (c : Coding) (w : W64) : Coding :=
  let n := w.toNat
  if c.remain = 0 && n / 2 ^ 62 = 0 then
    let toa := n / 2 ^ 19 % 2 ^ 24
    let tot := n / 2 ^ 6 % 2 ^ 13
    let flags := n % 64
    let b := (c.bits.put 0 1).put (n / 2 ^ 43) 19
    let (b, aToa) := rice b ((toa + 2 ^ 24 - c.pred.prevToa) % 2 ^ 24) c.pred.aToa 23 24
    let (b, aTot) := rice b tot c.pred.aTot 12 13
    let b := if flags = c.pred.prevFlags then b.put 0 1 else (b.put 1 1).put flags 6
    { c with pred := ⟨toa, flags, aToa, aTot⟩, bits := b }
  else
    let b := (c.bits.put 1 1).put n 64
    if c.remain > 0 then { c with bits := b, remain := c.remain - 1 }
    else if n / 2 ^ 62 = 3 then
      let pred := if n / 2 ^ 56 % 64 = 1 then { c.pred with prevToa := 0 } else c.pred
      { pred := pred, bits := b, remain := n / 2 ^ 48 % 256 }
    else { c with bits := b }

/-- A block closed (R362, R367): its words, whether it is RAW, and the predictor after it. -/
def codeBlock (ctx : Nat) (pred : Predictor) (reset : Bool) (seq : BitVec 16) (words : List W64) : List W64 × Bool × Predictor :=
  let c := words.foldl codeWord { pred := if reset then {} else pred }
  let payload := c.bits.words
  let raw := !decide (payload.length < words.length)
  let head : W64 := (2#2 : BitVec 2) ++ BitVec.ofNat 2 raw.toNat ++ BitVec.ofBool reset ++ BitVec.ofNat 4 ctx
    ++ BitVec.ofNat 8 (words.length - 1) ++ BitVec.ofNat 15 (if raw then 64 * words.length else c.bits.len) ++ seq
    ++ BitVec.ofNat 16 (crc16 (words.flatMap bytesLE))
  (head :: (if raw then words else payload), raw, c.pred)

/-- The same words as a RAW block with RESET = 1 (R380), and the predictor after it. -/
def rawBlock (ctx : Nat) (seq : BitVec 16) (words : List W64) : List W64 × Predictor :=
  let head : W64 := (2#2 : BitVec 2) ++ (1#2 : BitVec 2) ++ (1#1 : BitVec 1) ++ BitVec.ofNat 4 ctx
    ++ BitVec.ofNat 8 (words.length - 1) ++ BitVec.ofNat 15 (64 * words.length) ++ seq ++ BitVec.ofNat 16 (crc16 (words.flatMap bytesLE))
  (head :: words, (words.foldl codeWord { pred := {} }).pred)

/-! ### The fixed-ratio coder -/

/-- The residual width of a block of `n` samples at `b` bits each (R376). -/
def residualWidth (b n : Nat) : Nat := min 17 (((b - 1) * n - 5) / n)

/-- The block of R378 at one SHIFT: residuals in order and the predictor after them, none where a residual does not fit. -/
def tryShift (q r : Nat) : Int → List (Bool × Int) → Option (List Int × Int)
  | p, [] => some ([], p)
  | p, (mark, v) :: rest =>
    if mark then (tryShift q r p rest).map fun o => (0 :: o.1, o.2)
    else
      let res : Int := (v - p + (2 ^ q / 2 : Int)) / 2 ^ q
      if res < -(2 ^ (r - 1) : Int) ∨ (2 ^ (r - 1) : Int) - 1 < res then none
      else
        let p := max (-32768) (min 32767 (p + res * 2 ^ q))
        (tryShift q r p rest).map fun o => (res :: o.1, o.2)

/-- The least SHIFT up to 16 that fits, with its residuals and the predictor (R378). -/
def findShift (r : Nat) (p : Int) (xs : List (Bool × Int)) : Nat × List Int × Int :=
  ((List.range 17).findSome? fun q => (tryShift q r p xs).map fun o => (q, o)).getD (16, xs.map fun _ => 0, p)

/-- VALUE and MARK of a sample word (R377). -/
def markValue (w : W32) : Bool × Int := (!w.getLsbD 31 || w.getLsbD 27, (w.extractLsb' 0 16).toInt)

/-- One block of a coded record appended (R376, R377): bits, predictor, whether SHIFT > 0. -/
def frBlock (b : Nat) (bits : Bits) (p : Int) (samples : List W32) : Bits × Int × Bool :=
  let n := samples.length
  let r := residualWidth b n
  let xs := samples.map markValue
  let (q, res, p') := findShift r p xs
  let start := bits.len
  let bits := xs.foldl (fun bits x => bits.put x.1.toNat 1) (bits.put q 5)
  let bits := res.foldl (fun bits x => bits.put (x % (2 ^ r : Int)).toNat r) bits
  (bits.put 0 (start + n * b - bits.len), p', q > 0)

/-- The blocks of a coded record (R376): bits so far, predictor, lossy blocks so far. `fuel` bounds the number of blocks. -/
def frBlocks (b : Nat) : Nat → Bits → Int → Nat → List W32 → Bits × Nat
  | 0, bits, _, lossy, _ => (bits, lossy)
  | _ + 1, bits, _, lossy, [] => (bits, lossy)
  | fuel + 1, bits, p, lossy, samples =>
    let (bits, p, l) := frBlock b bits p (samples.take 32)
    frBlocks b fuel bits p (lossy + l.toNat) (samples.drop 32)

/-- The payload of a coded record and its number of lossy blocks (R375-R379). -/
def frPayload (b : Nat) (samples : List W32) : List W64 × Nat :=
  let (bits, lossy) := frBlocks b 16 {} 0 0 samples
  (bits.words, lossy)

end Sys2Proof.Machine
end

