-- ==== Sys2Proof/Machine/RegMap.lean ====
section
/-! DEFINITION. The register map: the address of every register of the spec, the place of each of its fields, its access code and its
reset word. Written from the register tables of spec/ (R79, R116, R117, R146, R148, R149, R152, R172, R182, R183, R219, R224, R253-R255,
R284, R329, R333, R357, R358, R383, R423, R424, R454, R461, R472, R487, R488, R522, R523, R525, R537, R555, R574, R576) and the BAR0 map R479.
BAR2 ring control blocks stand at 0x0200_0000 + 0x1000 r in the model's one register space, and the core-local I/O registers of core c at
0x0300_0000 + 0x10_0000 c + 4 x word address: places outside BAR0, so that the three never meet (log 4). -/

namespace Sys2Proof.Machine

/-- A field of a register: the register's address in the one register space, the field's lowest bit and its width. -/
structure Fld where
  addr : Nat
  lsb : Nat
  width : Nat
  deriving DecidableEq, Repr

/-- The access codes of R9, with RWA of R494. -/
inductive Acc where
  | rw | ro | wo | w1c | w1s | rws | rwa
  deriving DecidableEq, Repr

/-- One field of a register's description: lowest bit, width, access code. -/
structure FieldD where
  lsb : Nat
  width : Nat
  acc : Acc
  deriving DecidableEq, Repr

/-- One register of a page, or a row of `count` registers `stride` bytes apart: offset in the page, fields. -/
structure RegD where
  off : Nat
  count : Nat
  stride : Nat
  fields : List FieldD
  deriving DecidableEq, Repr

/-! ### The health page -/

/-- Address of the page (R479). -/
def Reg.HLT.base : Nat := 0x0

/-- HLT SUMMARY (spec/17_bring_up_health.md R574). -/
def Reg.HLT.SUMMARY : Nat := 0x20
def Reg.HLT.SUMMARY_LEVEL : Fld := ⟨Reg.HLT.SUMMARY, 0, 2⟩
def Reg.HLT.SUMMARY_REPLACE_REQ : Fld := ⟨Reg.HLT.SUMMARY, 8, 1⟩

/-- HLT CTRL (spec/17_bring_up_health.md R574). -/
def Reg.HLT.CTRL : Nat := 0x40
def Reg.HLT.CTRL_LEVEL_REQ : Fld := ⟨Reg.HLT.CTRL, 0, 2⟩

/-- HLT SERVICE_LEVEL (spec/17_bring_up_health.md R574). -/
def Reg.HLT.SERVICE_LEVEL : Nat := 0x44
def Reg.HLT.SERVICE_LEVEL_LEVEL : Fld := ⟨Reg.HLT.SERVICE_LEVEL, 0, 2⟩
def Reg.HLT.SERVICE_LEVEL_MISSING : Fld := ⟨Reg.HLT.SERVICE_LEVEL, 8, 6⟩
def Reg.HLT.SERVICE_LEVEL_STARTING : Fld := ⟨Reg.HLT.SERVICE_LEVEL, 16, 1⟩
def Reg.HLT.SERVICE_LEVEL_STEP : Fld := ⟨Reg.HLT.SERVICE_LEVEL, 17, 4⟩

/-- HLT RESET_CAUSE (spec/17_bring_up_health.md R574). -/
def Reg.HLT.RESET_CAUSE : Nat := 0x48
def Reg.HLT.RESET_CAUSE_CAUSE : Fld := ⟨Reg.HLT.RESET_CAUSE, 0, 3⟩

/-- HLT DEVICE_RESET (spec/17_bring_up_health.md R574). -/
def Reg.HLT.DEVICE_RESET : Nat := 0x4C
def Reg.HLT.DEVICE_RESET_KEY : Fld := ⟨Reg.HLT.DEVICE_RESET, 0, 32⟩

/-- HLT REPLACE (spec/17_bring_up_health.md R574). -/
def Reg.HLT.REPLACE : Nat := 0x50
def Reg.HLT.REPLACE_CAUSE : Fld := ⟨Reg.HLT.REPLACE, 0, 6⟩
def Reg.HLT.REPLACE_NOW : Fld := ⟨Reg.HLT.REPLACE, 8, 6⟩
def Reg.HLT.REPLACE_REQ : Fld := ⟨Reg.HLT.REPLACE, 16, 1⟩

/-- HLT FAILED_CLUSTERS (spec/17_bring_up_health.md R574). -/
def Reg.HLT.FAILED_CLUSTERS : Nat := 0x54
def Reg.HLT.FAILED_CLUSTERS_COUNT : Fld := ⟨Reg.HLT.FAILED_CLUSTERS, 0, 16⟩
def Reg.HLT.FAILED_CLUSTERS_LIMIT : Fld := ⟨Reg.HLT.FAILED_CLUSTERS, 16, 16⟩

/-- HLT POWER_COUNT (spec/17_bring_up_health.md R574). -/
def Reg.HLT.POWER_COUNT : Nat := 0x58
def Reg.HLT.POWER_COUNT_COUNT : Fld := ⟨Reg.HLT.POWER_COUNT, 0, 32⟩

/-- HLT UPTIME (spec/17_bring_up_health.md R574). -/
def Reg.HLT.UPTIME : Nat := 0x5C
def Reg.HLT.UPTIME_SECONDS : Fld := ⟨Reg.HLT.UPTIME, 0, 32⟩

/-- HLT DOSE (spec/17_bring_up_health.md R574). -/
def Reg.HLT.DOSE (i : Nat) : Nat := 0x60 + 0x4 * i
def Reg.HLT.DOSE_KGY (i : Nat) : Fld := ⟨(Reg.HLT.DOSE i), 0, 14⟩
def Reg.HLT.DOSE_VALID (i : Nat) : Fld := ⟨(Reg.HLT.DOSE i), 16, 1⟩

/-- HLT MASK_SAVE (spec/17_bring_up_health.md R574). -/
def Reg.HLT.MASK_SAVE : Nat := 0x78
def Reg.HLT.MASK_SAVE_GO : Fld := ⟨Reg.HLT.MASK_SAVE, 0, 1⟩
def Reg.HLT.MASK_SAVE_BUSY : Fld := ⟨Reg.HLT.MASK_SAVE, 1, 1⟩

/-- HLT UPS_TMR (spec/17_bring_up_health.md R574). -/
def Reg.HLT.UPS_TMR : Nat := 0x80
def Reg.HLT.UPS_TMR_COUNT : Fld := ⟨Reg.HLT.UPS_TMR, 0, 32⟩

/-- HLT UPS_MEM_CE (spec/17_bring_up_health.md R574). -/
def Reg.HLT.UPS_MEM_CE : Nat := 0x84
def Reg.HLT.UPS_MEM_CE_COUNT : Fld := ⟨Reg.HLT.UPS_MEM_CE, 0, 32⟩

/-- HLT UPS_UE (spec/17_bring_up_health.md R574). -/
def Reg.HLT.UPS_UE : Nat := 0x88
def Reg.HLT.UPS_UE_COUNT : Fld := ⟨Reg.HLT.UPS_UE, 0, 32⟩

/-- HLT UPS_WD (spec/17_bring_up_health.md R574). -/
def Reg.HLT.UPS_WD : Nat := 0x8C
def Reg.HLT.UPS_WD_COUNT : Fld := ⟨Reg.HLT.UPS_WD, 0, 32⟩

/-- HLT UPS_PIXCFG (spec/17_bring_up_health.md R574). -/
def Reg.HLT.UPS_PIXCFG : Nat := 0x90
def Reg.HLT.UPS_PIXCFG_COUNT : Fld := ⟨Reg.HLT.UPS_PIXCFG, 0, 32⟩

/-- HLT UPS_HOUR (spec/17_bring_up_health.md R574). -/
def Reg.HLT.UPS_HOUR : Nat := 0x94
def Reg.HLT.UPS_HOUR_COUNT : Fld := ⟨Reg.HLT.UPS_HOUR, 0, 32⟩

/-- HLT UPSET_LIMIT (spec/17_bring_up_health.md R574). -/
def Reg.HLT.UPSET_LIMIT : Nat := 0x98
def Reg.HLT.UPSET_LIMIT_COUNT : Fld := ⟨Reg.HLT.UPSET_LIMIT, 0, 32⟩

/-- HLT LOG_ADDR (spec/17_bring_up_health.md R574). -/
def Reg.HLT.LOG_ADDR : Nat := 0xA0
def Reg.HLT.LOG_ADDR_SEQ : Fld := ⟨Reg.HLT.LOG_ADDR, 0, 24⟩
def Reg.HLT.LOG_ADDR_WORD : Fld := ⟨Reg.HLT.LOG_ADDR, 24, 3⟩
def Reg.HLT.LOG_ADDR_AUTOINC : Fld := ⟨Reg.HLT.LOG_ADDR, 30, 1⟩

/-- HLT LOG_DATA (spec/17_bring_up_health.md R574). -/
def Reg.HLT.LOG_DATA : Nat := 0xA4
def Reg.HLT.LOG_DATA_DATA : Fld := ⟨Reg.HLT.LOG_DATA, 0, 32⟩

/-- HLT LOG_HEAD (spec/17_bring_up_health.md R574). -/
def Reg.HLT.LOG_HEAD : Nat := 0xA8
def Reg.HLT.LOG_HEAD_SEQ : Fld := ⟨Reg.HLT.LOG_HEAD, 0, 24⟩

/-- HLT CNT_LOG_LOST (spec/17_bring_up_health.md R574). -/
def Reg.HLT.CNT_LOG_LOST : Nat := 0xAC
def Reg.HLT.CNT_LOG_LOST_COUNT : Fld := ⟨Reg.HLT.CNT_LOG_LOST, 0, 32⟩

/-! ### The PCI Express page -/

/-- Address of the page (R479). -/
def Reg.PCI.base : Nat := 0x1000

/-- PCI SUMMARY (spec/14_host_interface.md R488). -/
def Reg.PCI.SUMMARY : Nat := 0x1020
def Reg.PCI.SUMMARY_ACTIVE : Fld := ⟨Reg.PCI.SUMMARY, 0, 10⟩
def Reg.PCI.SUMMARY_LINK_UP : Fld := ⟨Reg.PCI.SUMMARY, 16, 1⟩

/-- PCI CTRL (spec/14_host_interface.md R488). -/
def Reg.PCI.CTRL : Nat := 0x1040
def Reg.PCI.CTRL_HOLD : Fld := ⟨Reg.PCI.CTRL, 0, 1⟩

/-- PCI LINK_STATUS (spec/14_host_interface.md R488). -/
def Reg.PCI.LINK_STATUS : Nat := 0x1044
def Reg.PCI.LINK_STATUS_SPEED : Fld := ⟨Reg.PCI.LINK_STATUS, 0, 4⟩
def Reg.PCI.LINK_STATUS_WIDTH : Fld := ⟨Reg.PCI.LINK_STATUS, 4, 5⟩
def Reg.PCI.LINK_STATUS_D3HOT : Fld := ⟨Reg.PCI.LINK_STATUS, 16, 1⟩
def Reg.PCI.LINK_STATUS_BME : Fld := ⟨Reg.PCI.LINK_STATUS, 17, 1⟩

/-- PCI CNT_DISCARD (spec/14_host_interface.md R488). -/
def Reg.PCI.CNT_DISCARD : Nat := 0x1048
def Reg.PCI.CNT_DISCARD_KIB : Fld := ⟨Reg.PCI.CNT_DISCARD, 0, 32⟩

/-- PCI CNT_CORR (spec/14_host_interface.md R488). -/
def Reg.PCI.CNT_CORR : Nat := 0x104C
def Reg.PCI.CNT_CORR_COUNT : Fld := ⟨Reg.PCI.CNT_CORR, 0, 32⟩

/-- PCI CNT_UNCORR (spec/14_host_interface.md R488). -/
def Reg.PCI.CNT_UNCORR : Nat := 0x1050
def Reg.PCI.CNT_UNCORR_COUNT : Fld := ⟨Reg.PCI.CNT_UNCORR, 0, 32⟩

/-- PCI CNT_LINK_DOWN (spec/14_host_interface.md R488). -/
def Reg.PCI.CNT_LINK_DOWN : Nat := 0x1054
def Reg.PCI.CNT_LINK_DOWN_COUNT : Fld := ⟨Reg.PCI.CNT_LINK_DOWN, 0, 32⟩

/-- PCI CNT_BE_IGNORED (spec/14_host_interface.md R488). -/
def Reg.PCI.CNT_BE_IGNORED : Nat := 0x1058
def Reg.PCI.CNT_BE_IGNORED_COUNT : Fld := ⟨Reg.PCI.CNT_BE_IGNORED, 0, 32⟩

/-- PCI CNT_FETCH_ERR (spec/14_host_interface.md R488). -/
def Reg.PCI.CNT_FETCH_ERR : Nat := 0x105C
def Reg.PCI.CNT_FETCH_ERR_COUNT : Fld := ⟨Reg.PCI.CNT_FETCH_ERR, 0, 32⟩

/-- PCI CNT_READ_ERR (spec/14_host_interface.md R488). -/
def Reg.PCI.CNT_READ_ERR : Nat := 0x1060
def Reg.PCI.CNT_READ_ERR_COUNT : Fld := ⟨Reg.PCI.CNT_READ_ERR, 0, 32⟩

/-! ### The timing island page -/

/-- Address of the page (R479). -/
def Reg.TIM0.base : Nat := 0x2000

/-- TIM0 CTRL (spec/03_time_measurement.md R116). -/
def Reg.TIM0.CTRL : Nat := 0x2040
def Reg.TIM0.CTRL_FE_INHIBIT : Fld := ⟨Reg.TIM0.CTRL, 0, 1⟩
def Reg.TIM0.CTRL_FINE_EN : Fld := ⟨Reg.TIM0.CTRL, 1, 1⟩
def Reg.TIM0.CTRL_PLL_RESTART : Fld := ⟨Reg.TIM0.CTRL, 4, 1⟩

/-- TIM0 STATUS (spec/03_time_measurement.md R116). -/
def Reg.TIM0.STATUS : Nat := 0x2044
def Reg.TIM0.STATUS_LOCK : Fld := ⟨Reg.TIM0.STATUS, 0, 1⟩
def Reg.TIM0.STATUS_PLL_LOCK : Fld := ⟨Reg.TIM0.STATUS, 1, 3⟩
def Reg.TIM0.STATUS_TREF_PRESENT : Fld := ⟨Reg.TIM0.STATUS, 4, 1⟩
def Reg.TIM0.STATUS_SYNC_STALE : Fld := ⟨Reg.TIM0.STATUS, 5, 1⟩
def Reg.TIM0.STATUS_TIME_BASE : Fld := ⟨Reg.TIM0.STATUS, 6, 1⟩
def Reg.TIM0.STATUS_DLL_LOCK : Fld := ⟨Reg.TIM0.STATUS, 8, 4⟩

/-- TIM0 TREF_FREQ (spec/03_time_measurement.md R116). -/
def Reg.TIM0.TREF_FREQ : Nat := 0x2048
def Reg.TIM0.TREF_FREQ_KHZ : Fld := ⟨Reg.TIM0.TREF_FREQ, 0, 18⟩

/-- TIM0 SYNC_CTRL (spec/03_time_measurement.md R116). -/
def Reg.TIM0.SYNC_CTRL : Nat := 0x2050
def Reg.TIM0.SYNC_CTRL_MODE : Fld := ⟨Reg.TIM0.SYNC_CTRL, 0, 2⟩

/-- TIM0 SYNC_PHASE (spec/03_time_measurement.md R116). -/
def Reg.TIM0.SYNC_PHASE : Nat := 0x2054
def Reg.TIM0.SYNC_PHASE_CT : Fld := ⟨Reg.TIM0.SYNC_PHASE, 0, 18⟩

/-- TIM0 SYNC_FRAME_LO (spec/03_time_measurement.md R116). -/
def Reg.TIM0.SYNC_FRAME_LO : Nat := 0x2058
def Reg.TIM0.SYNC_FRAME_LO_FRAME : Fld := ⟨Reg.TIM0.SYNC_FRAME_LO, 0, 32⟩

/-- TIM0 SYNC_FRAME_HI (spec/03_time_measurement.md R116). -/
def Reg.TIM0.SYNC_FRAME_HI : Nat := 0x205C
def Reg.TIM0.SYNC_FRAME_HI_FRAME : Fld := ⟨Reg.TIM0.SYNC_FRAME_HI, 0, 8⟩

/-- TIM0 FRAME_LO (spec/03_time_measurement.md R116). -/
def Reg.TIM0.FRAME_LO : Nat := 0x2060
def Reg.TIM0.FRAME_LO_FRAME : Fld := ⟨Reg.TIM0.FRAME_LO, 0, 32⟩

/-- TIM0 FRAME_HI (spec/03_time_measurement.md R116). -/
def Reg.TIM0.FRAME_HI : Nat := 0x2064
def Reg.TIM0.FRAME_HI_FRAME : Fld := ⟨Reg.TIM0.FRAME_HI, 0, 8⟩

/-- TIM0 CT_NOW (spec/03_time_measurement.md R116). -/
def Reg.TIM0.CT_NOW : Nat := 0x2068
def Reg.TIM0.CT_NOW_CT : Fld := ⟨Reg.TIM0.CT_NOW, 0, 18⟩

/-- TIM0 EPOCH (spec/03_time_measurement.md R116). -/
def Reg.TIM0.EPOCH : Nat := 0x206C
def Reg.TIM0.EPOCH_COUNT : Fld := ⟨Reg.TIM0.EPOCH, 0, 16⟩

/-- TIM0 SYNC_LAST (spec/03_time_measurement.md R116). -/
def Reg.TIM0.SYNC_LAST : Nat := 0x2070
def Reg.TIM0.SYNC_LAST_CT : Fld := ⟨Reg.TIM0.SYNC_LAST, 0, 18⟩

/-- TIM0 INJ_DELAY (spec/03_time_measurement.md R116). -/
def Reg.TIM0.INJ_DELAY (i : Nat) : Nat := 0x2080 + 0x4 * i
def Reg.TIM0.INJ_DELAY_DELAY (i : Nat) : Fld := ⟨(Reg.TIM0.INJ_DELAY i), 0, 16⟩

/-- TIM0 VOTE_ERRORS (spec/03_time_measurement.md R116). -/
def Reg.TIM0.VOTE_ERRORS : Nat := 0x20A0
def Reg.TIM0.VOTE_ERRORS_COUNT : Fld := ⟨Reg.TIM0.VOTE_ERRORS, 0, 32⟩

/-- TIM0 CNT_INVERTED (spec/03_time_measurement.md R116). -/
def Reg.TIM0.CNT_INVERTED : Nat := 0x20A4
def Reg.TIM0.CNT_INVERTED_COUNT : Fld := ⟨Reg.TIM0.CNT_INVERTED, 0, 32⟩

/-- TIM0 CNT_SHORT (spec/03_time_measurement.md R116). -/
def Reg.TIM0.CNT_SHORT : Nat := 0x20A8
def Reg.TIM0.CNT_SHORT_COUNT : Fld := ⟨Reg.TIM0.CNT_SHORT, 0, 32⟩

/-- TIM0 CNT_PILEUP (spec/03_time_measurement.md R116). -/
def Reg.TIM0.CNT_PILEUP : Nat := 0x20AC
def Reg.TIM0.CNT_PILEUP_COUNT : Fld := ⟨Reg.TIM0.CNT_PILEUP, 0, 32⟩

/-- TIM0 CNT_OVERFLOW (spec/03_time_measurement.md R116). -/
def Reg.TIM0.CNT_OVERFLOW : Nat := 0x20B0
def Reg.TIM0.CNT_OVERFLOW_COUNT : Fld := ⟨Reg.TIM0.CNT_OVERFLOW, 0, 32⟩

/-- TIM0 CNT_NOTABLE (spec/03_time_measurement.md R116). -/
def Reg.TIM0.CNT_NOTABLE : Nat := 0x20B4
def Reg.TIM0.CNT_NOTABLE_COUNT : Fld := ⟨Reg.TIM0.CNT_NOTABLE, 0, 32⟩

/-- TIM0 OLDBASE_DISCARD (spec/03_time_measurement.md R116). -/
def Reg.TIM0.OLDBASE_DISCARD : Nat := 0x20B8
def Reg.TIM0.OLDBASE_DISCARD_COUNT : Fld := ⟨Reg.TIM0.OLDBASE_DISCARD, 0, 32⟩

/-! ### The event controller page -/

/-- Address of the page (R479). -/
def Reg.EVC.base : Nat := 0x3000

/-- EVC SRC_RAW (spec/14_host_interface.md R487). -/
def Reg.EVC.SRC_RAW (i : Nat) : Nat := 0x3040 + 0x4 * i
def Reg.EVC.SRC_RAW_RAW (i : Nat) : Fld := ⟨(Reg.EVC.SRC_RAW i), 0, 32⟩

/-- EVC SRC_PEND (spec/14_host_interface.md R487). -/
def Reg.EVC.SRC_PEND (i : Nat) : Nat := 0x3060 + 0x4 * i
def Reg.EVC.SRC_PEND_PEND (i : Nat) : Fld := ⟨(Reg.EVC.SRC_PEND i), 0, 32⟩

/-- EVC SRC_TEST (spec/14_host_interface.md R487). -/
def Reg.EVC.SRC_TEST (i : Nat) : Nat := 0x3080 + 0x4 * i
def Reg.EVC.SRC_TEST_TEST (i : Nat) : Fld := ⟨(Reg.EVC.SRC_TEST i), 0, 32⟩

/-- EVC VEC_ASSERT0 (spec/14_host_interface.md R487). -/
def Reg.EVC.VEC_ASSERT0 : Nat := 0x30A0
def Reg.EVC.VEC_ASSERT0_ASSERT : Fld := ⟨Reg.EVC.VEC_ASSERT0, 0, 32⟩

/-- EVC VEC_ASSERT1 (spec/14_host_interface.md R487). -/
def Reg.EVC.VEC_ASSERT1 : Nat := 0x30A4
def Reg.EVC.VEC_ASSERT1_ASSERT : Fld := ⟨Reg.EVC.VEC_ASSERT1, 0, 32⟩

/-- EVC VEC_INSVC0 (spec/14_host_interface.md R487). -/
def Reg.EVC.VEC_INSVC0 : Nat := 0x30A8
def Reg.EVC.VEC_INSVC0_INSVC : Fld := ⟨Reg.EVC.VEC_INSVC0, 0, 32⟩

/-- EVC VEC_INSVC1 (spec/14_host_interface.md R487). -/
def Reg.EVC.VEC_INSVC1 : Nat := 0x30AC
def Reg.EVC.VEC_INSVC1_INSVC : Fld := ⟨Reg.EVC.VEC_INSVC1, 0, 32⟩

/-- EVC VEC_EOI (spec/14_host_interface.md R487). -/
def Reg.EVC.VEC_EOI : Nat := 0x30B0
def Reg.EVC.VEC_EOI_VECTOR : Fld := ⟨Reg.EVC.VEC_EOI, 0, 6⟩

/-- EVC IRQ_STATUS (spec/14_host_interface.md R487). -/
def Reg.EVC.IRQ_STATUS : Nat := 0x30B4
def Reg.EVC.IRQ_STATUS_ASSERTED : Fld := ⟨Reg.EVC.IRQ_STATUS, 0, 1⟩

/-- EVC LOG_DATA (spec/14_host_interface.md R487). -/
def Reg.EVC.LOG_DATA : Nat := 0x30C0
def Reg.EVC.LOG_DATA_VALID : Fld := ⟨Reg.EVC.LOG_DATA, 31, 1⟩
def Reg.EVC.LOG_DATA_FRAME : Fld := ⟨Reg.EVC.LOG_DATA, 8, 16⟩
def Reg.EVC.LOG_DATA_SOURCE : Fld := ⟨Reg.EVC.LOG_DATA, 0, 8⟩

/-- EVC LOG_STATUS (spec/14_host_interface.md R487). -/
def Reg.EVC.LOG_STATUS : Nat := 0x30C4
def Reg.EVC.LOG_STATUS_LEVEL : Fld := ⟨Reg.EVC.LOG_STATUS, 0, 9⟩
def Reg.EVC.LOG_STATUS_OVERRUN : Fld := ⟨Reg.EVC.LOG_STATUS, 16, 1⟩

/-- EVC CNT_LOG_ABORT (spec/14_host_interface.md R487). -/
def Reg.EVC.CNT_LOG_ABORT : Nat := 0x30C8
def Reg.EVC.CNT_LOG_ABORT_COUNT : Fld := ⟨Reg.EVC.CNT_LOG_ABORT, 0, 32⟩

/-- EVC REG_PEND (spec/14_host_interface.md R487). -/
def Reg.EVC.REG_PEND (i : Nat) : Nat := 0x3300 + 0x4 * i
def Reg.EVC.REG_PEND_PEND (i : Nat) : Fld := ⟨(Reg.EVC.REG_PEND i), 0, 32⟩

/-- EVC ROUTE (spec/14_host_interface.md R487). -/
def Reg.EVC.ROUTE (i : Nat) : Nat := 0x3800 + 0x4 * i
def Reg.EVC.ROUTE_VECTOR (i : Nat) : Fld := ⟨(Reg.EVC.ROUTE i), 0, 6⟩
def Reg.EVC.ROUTE_MSIX_EN (i : Nat) : Fld := ⟨(Reg.EVC.ROUTE i), 8, 1⟩
def Reg.EVC.ROUTE_IRQ_EN (i : Nat) : Fld := ⟨(Reg.EVC.ROUTE i), 9, 1⟩
def Reg.EVC.ROUTE_LOG_EN (i : Nat) : Fld := ⟨(Reg.EVC.ROUTE i), 10, 1⟩

/-! ### The thermal page -/

/-- Address of the page (R479). -/
def Reg.THM.base : Nat := 0x4000

/-- THM SUMMARY (spec/16_thermal_power.md R555). -/
def Reg.THM.SUMMARY : Nat := 0x4020
def Reg.THM.SUMMARY_HOTTEST : Fld := ⟨Reg.THM.SUMMARY, 0, 12⟩
def Reg.THM.SUMMARY_SENSOR : Fld := ⟨Reg.THM.SUMMARY, 16, 7⟩
def Reg.THM.SUMMARY_THROTTLING : Fld := ⟨Reg.THM.SUMMARY, 24, 1⟩
def Reg.THM.SUMMARY_PAUSING : Fld := ⟨Reg.THM.SUMMARY, 25, 1⟩

/-- THM QUENCH (spec/16_thermal_power.md R555). -/
def Reg.THM.QUENCH : Nat := 0x4040
def Reg.THM.QUENCH_QUENCH_C : Fld := ⟨Reg.THM.QUENCH, 0, 8⟩
def Reg.THM.QUENCH_RESTART_C : Fld := ⟨Reg.THM.QUENCH, 8, 8⟩

/-- THM STATUS (spec/16_thermal_power.md R555). -/
def Reg.THM.STATUS : Nat := 0x4044
def Reg.THM.STATUS_DUTY : Fld := ⟨Reg.THM.STATUS, 0, 16⟩
def Reg.THM.STATUS_HOLD : Fld := ⟨Reg.THM.STATUS, 16, 1⟩
def Reg.THM.STATUS_BUILTIN : Fld := ⟨Reg.THM.STATUS, 17, 1⟩
def Reg.THM.STATUS_BLIND : Fld := ⟨Reg.THM.STATUS, 18, 4⟩

/-- THM DIODE (spec/16_thermal_power.md R555). -/
def Reg.THM.DIODE : Nat := 0x4048
def Reg.THM.DIODE_TEMP : Fld := ⟨Reg.THM.DIODE, 0, 12⟩
def Reg.THM.DIODE_VALID : Fld := ⟨Reg.THM.DIODE, 16, 1⟩

/-- THM LAST_QUENCH (spec/16_thermal_power.md R555). -/
def Reg.THM.LAST_QUENCH : Nat := 0x404C
def Reg.THM.LAST_QUENCH_SENSOR : Fld := ⟨Reg.THM.LAST_QUENCH, 0, 7⟩
def Reg.THM.LAST_QUENCH_FRAME : Fld := ⟨Reg.THM.LAST_QUENCH, 8, 24⟩

/-- THM SENS_CLEAR (spec/16_thermal_power.md R555). -/
def Reg.THM.SENS_CLEAR (i : Nat) : Nat := 0x4050 + 0x4 * i
def Reg.THM.SENS_CLEAR_CLEAR (i : Nat) : Fld := ⟨(Reg.THM.SENS_CLEAR i), 0, 32⟩

/-- THM SENS_DISABLE (spec/16_thermal_power.md R555). -/
def Reg.THM.SENS_DISABLE (i : Nat) : Nat := 0x4060 + 0x4 * i
def Reg.THM.SENS_DISABLE_DISABLE (i : Nat) : Fld := ⟨(Reg.THM.SENS_DISABLE i), 0, 32⟩

/-- THM CURVE_ADDR (spec/16_thermal_power.md R555). -/
def Reg.THM.CURVE_ADDR : Nat := 0x4070
def Reg.THM.CURVE_ADDR_WORD : Fld := ⟨Reg.THM.CURVE_ADDR, 0, 4⟩
def Reg.THM.CURVE_ADDR_AUTOINC : Fld := ⟨Reg.THM.CURVE_ADDR, 30, 1⟩

/-- THM CURVE_DATA_LO (spec/16_thermal_power.md R555). -/
def Reg.THM.CURVE_DATA_LO : Nat := 0x4074
def Reg.THM.CURVE_DATA_LO_DATA : Fld := ⟨Reg.THM.CURVE_DATA_LO, 0, 32⟩

/-- THM CURVE_DATA_HI (spec/16_thermal_power.md R555). -/
def Reg.THM.CURVE_DATA_HI : Nat := 0x4078
def Reg.THM.CURVE_DATA_HI_DATA : Fld := ⟨Reg.THM.CURVE_DATA_HI, 0, 32⟩

/-- THM CURVE_CTRL (spec/16_thermal_power.md R555). -/
def Reg.THM.CURVE_CTRL : Nat := 0x407C
def Reg.THM.CURVE_CTRL_COMMIT : Fld := ⟨Reg.THM.CURVE_CTRL, 0, 1⟩
def Reg.THM.CURVE_CTRL_SAVE : Fld := ⟨Reg.THM.CURVE_CTRL, 1, 1⟩
def Reg.THM.CURVE_CTRL_REJECTED : Fld := ⟨Reg.THM.CURVE_CTRL, 8, 1⟩
def Reg.THM.CURVE_CTRL_SAVE_BUSY : Fld := ⟨Reg.THM.CURVE_CTRL, 10, 1⟩

/-- THM CNT_QUENCH (spec/16_thermal_power.md R555). -/
def Reg.THM.CNT_QUENCH : Nat := 0x4080
def Reg.THM.CNT_QUENCH_COUNT : Fld := ⟨Reg.THM.CNT_QUENCH, 0, 32⟩

/-- THM CNT_SENSOR_FAIL (spec/16_thermal_power.md R555). -/
def Reg.THM.CNT_SENSOR_FAIL : Nat := 0x4084
def Reg.THM.CNT_SENSOR_FAIL_COUNT : Fld := ⟨Reg.THM.CNT_SENSOR_FAIL, 0, 32⟩

/-- THM CNT_PAUSE_MS (spec/16_thermal_power.md R555). -/
def Reg.THM.CNT_PAUSE_MS : Nat := 0x4088
def Reg.THM.CNT_PAUSE_MS_COUNT : Fld := ⟨Reg.THM.CNT_PAUSE_MS, 0, 32⟩

/-- THM TEMP (spec/16_thermal_power.md R555). -/
def Reg.THM.TEMP (i : Nat) : Nat := 0x4100 + 0x4 * i
def Reg.THM.TEMP_TEMP (i : Nat) : Fld := ⟨(Reg.THM.TEMP i), 0, 12⟩
def Reg.THM.TEMP_VALID (i : Nat) : Fld := ⟨(Reg.THM.TEMP i), 12, 1⟩
def Reg.THM.TEMP_FAILED (i : Nat) : Fld := ⟨(Reg.THM.TEMP i), 13, 1⟩
def Reg.THM.TEMP_DISABLED (i : Nat) : Fld := ⟨(Reg.THM.TEMP i), 14, 1⟩
def Reg.THM.TEMP_REPLACED (i : Nat) : Fld := ⟨(Reg.THM.TEMP i), 15, 1⟩
def Reg.THM.TEMP_RAW (i : Nat) : Fld := ⟨(Reg.THM.TEMP i), 16, 16⟩

/-- THM OFFSET (spec/16_thermal_power.md R555). -/
def Reg.THM.OFFSET (i : Nat) : Nat := 0x4300 + 0x4 * i
def Reg.THM.OFFSET_OFFSET (i : Nat) : Fld := ⟨(Reg.THM.OFFSET i), 0, 8⟩

/-! ### The power domain page -/

/-- Address of the page (R479). -/
def Reg.PWRD.base : Nat := 0x5000

/-- PWRD SUMMARY (spec/16_thermal_power.md R537). -/
def Reg.PWRD.SUMMARY : Nat := 0x5020
def Reg.PWRD.SUMMARY_SWITCHING : Fld := ⟨Reg.PWRD.SUMMARY, 0, 1⟩
def Reg.PWRD.SUMMARY_DOMAIN : Fld := ⟨Reg.PWRD.SUMMARY, 8, 6⟩

/-- PWRD DOM_REQ0 (spec/16_thermal_power.md R537). -/
def Reg.PWRD.DOM_REQ0 : Nat := 0x5040
def Reg.PWRD.DOM_REQ0_REQ : Fld := ⟨Reg.PWRD.DOM_REQ0, 0, 32⟩

/-- PWRD DOM_REQ1 (spec/16_thermal_power.md R537). -/
def Reg.PWRD.DOM_REQ1 : Nat := 0x5044
def Reg.PWRD.DOM_REQ1_REQ : Fld := ⟨Reg.PWRD.DOM_REQ1, 0, 28⟩

/-- PWRD DOM_ON0 (spec/16_thermal_power.md R537). -/
def Reg.PWRD.DOM_ON0 : Nat := 0x5048
def Reg.PWRD.DOM_ON0_ON : Fld := ⟨Reg.PWRD.DOM_ON0, 0, 32⟩

/-- PWRD DOM_ON1 (spec/16_thermal_power.md R537). -/
def Reg.PWRD.DOM_ON1 : Nat := 0x504C
def Reg.PWRD.DOM_ON1_ON : Fld := ⟨Reg.PWRD.DOM_ON1, 0, 28⟩

/-- PWRD DRAIN_TIMEOUT (spec/16_thermal_power.md R537). -/
def Reg.PWRD.DRAIN_TIMEOUT : Nat := 0x5050
def Reg.PWRD.DRAIN_TIMEOUT_MS : Fld := ⟨Reg.PWRD.DRAIN_TIMEOUT, 0, 16⟩

/-- PWRD REFUSE (spec/16_thermal_power.md R537). -/
def Reg.PWRD.REFUSE : Nat := 0x5054
def Reg.PWRD.REFUSE_DOMAIN : Fld := ⟨Reg.PWRD.REFUSE, 0, 6⟩
def Reg.PWRD.REFUSE_REASON : Fld := ⟨Reg.PWRD.REFUSE, 8, 4⟩

/-- PWRD RAIL_STATUS (spec/16_thermal_power.md R537). -/
def Reg.PWRD.RAIL_STATUS : Nat := 0x5058
def Reg.PWRD.RAIL_STATUS_GOOD : Fld := ⟨Reg.PWRD.RAIL_STATUS, 0, 7⟩

/-- PWRD CNT_SWITCH (spec/16_thermal_power.md R537). -/
def Reg.PWRD.CNT_SWITCH : Nat := 0x5060
def Reg.PWRD.CNT_SWITCH_COUNT : Fld := ⟨Reg.PWRD.CNT_SWITCH, 0, 32⟩

/-- PWRD CNT_DRAIN_ABORT (spec/16_thermal_power.md R537). -/
def Reg.PWRD.CNT_DRAIN_ABORT : Nat := 0x5064
def Reg.PWRD.CNT_DRAIN_ABORT_COUNT : Fld := ⟨Reg.PWRD.CNT_DRAIN_ABORT, 0, 32⟩

/-- PWRD CNT_RAIL_FAULT (spec/16_thermal_power.md R537). -/
def Reg.PWRD.CNT_RAIL_FAULT : Nat := 0x5068
def Reg.PWRD.CNT_RAIL_FAULT_COUNT : Fld := ⟨Reg.PWRD.CNT_RAIL_FAULT, 0, 32⟩

/-- PWRD CNT_REFUSED (spec/16_thermal_power.md R537). -/
def Reg.PWRD.CNT_REFUSED : Nat := 0x506C
def Reg.PWRD.CNT_REFUSED_COUNT : Fld := ⟨Reg.PWRD.CNT_REFUSED, 0, 32⟩

/-- PWRD CNT_SWITCH_ABORT (spec/16_thermal_power.md R537). -/
def Reg.PWRD.CNT_SWITCH_ABORT : Nat := 0x5070
def Reg.PWRD.CNT_SWITCH_ABORT_COUNT : Fld := ⟨Reg.PWRD.CNT_SWITCH_ABORT, 0, 32⟩

/-! ### The monitor converter page -/

/-- Address of the page (R479). -/
def Reg.MON.base : Nat := 0x6000

/-- MON MON_CTRL (spec/05_waveform_adcs.md R182). -/
def Reg.MON.MON_CTRL : Nat := 0x6040
def Reg.MON.MON_CTRL_PAIRED : Fld := ⟨Reg.MON.MON_CTRL, 0, 1⟩
def Reg.MON.MON_CTRL_REF_EXT : Fld := ⟨Reg.MON.MON_CTRL, 1, 1⟩
def Reg.MON.MON_CTRL_DOZE : Fld := ⟨Reg.MON.MON_CTRL, 2, 1⟩
def Reg.MON.MON_CTRL_TIMER_EN : Fld := ⟨Reg.MON.MON_CTRL, 3, 1⟩
def Reg.MON.MON_CTRL_START : Fld := ⟨Reg.MON.MON_CTRL, 4, 1⟩
def Reg.MON.MON_CTRL_LINE : Fld := ⟨Reg.MON.MON_CTRL, 8, 2⟩
def Reg.MON.MON_CTRL_LINE_EN : Fld := ⟨Reg.MON.MON_CTRL, 10, 1⟩
def Reg.MON.MON_CTRL_LAST_A : Fld := ⟨Reg.MON.MON_CTRL, 16, 4⟩
def Reg.MON.MON_CTRL_LAST_B : Fld := ⟨Reg.MON.MON_CTRL, 20, 4⟩

/-- MON MON_PERIOD (spec/05_waveform_adcs.md R182). -/
def Reg.MON.MON_PERIOD : Nat := 0x6044
def Reg.MON.MON_PERIOD_US : Fld := ⟨Reg.MON.MON_PERIOD, 0, 20⟩

/-- MON MON_PAIR_TOL (spec/05_waveform_adcs.md R182). -/
def Reg.MON.MON_PAIR_TOL : Nat := 0x6048
def Reg.MON.MON_PAIR_TOL_CODES : Fld := ⟨Reg.MON.MON_PAIR_TOL, 0, 16⟩

/-- MON MON_STATUS (spec/05_waveform_adcs.md R182). -/
def Reg.MON.MON_STATUS : Nat := 0x604C
def Reg.MON.MON_STATUS_BUSY : Fld := ⟨Reg.MON.MON_STATUS, 0, 1⟩
def Reg.MON.MON_STATUS_READY : Fld := ⟨Reg.MON.MON_STATUS, 1, 1⟩
def Reg.MON.MON_STATUS_ENTRY : Fld := ⟨Reg.MON.MON_STATUS, 16, 4⟩

/-- MON MON_CNT_OVERRUN (spec/05_waveform_adcs.md R182). -/
def Reg.MON.MON_CNT_OVERRUN : Nat := 0x6050
def Reg.MON.MON_CNT_OVERRUN_COUNT : Fld := ⟨Reg.MON.MON_CNT_OVERRUN, 0, 32⟩

/-- MON MON_SCAN_A (spec/05_waveform_adcs.md R182). -/
def Reg.MON.MON_SCAN_A (i : Nat) : Nat := 0x6080 + 0x4 * i
def Reg.MON.MON_SCAN_A_INPUT (i : Nat) : Fld := ⟨(Reg.MON.MON_SCAN_A i), 0, 5⟩
def Reg.MON.MON_SCAN_A_AVG (i : Nat) : Fld := ⟨(Reg.MON.MON_SCAN_A i), 8, 2⟩

/-- MON MON_SCAN_B (spec/05_waveform_adcs.md R182). -/
def Reg.MON.MON_SCAN_B (i : Nat) : Nat := 0x60C0 + 0x4 * i
def Reg.MON.MON_SCAN_B_INPUT (i : Nat) : Fld := ⟨(Reg.MON.MON_SCAN_B i), 0, 5⟩
def Reg.MON.MON_SCAN_B_AVG (i : Nat) : Fld := ⟨(Reg.MON.MON_SCAN_B i), 8, 2⟩

/-- MON MON_RESULT (spec/05_waveform_adcs.md R182). -/
def Reg.MON.MON_RESULT (i : Nat) : Nat := 0x6100 + 0x4 * i
def Reg.MON.MON_RESULT_CODE (i : Nat) : Fld := ⟨(Reg.MON.MON_RESULT i), 0, 16⟩
def Reg.MON.MON_RESULT_VALID (i : Nat) : Fld := ⟨(Reg.MON.MON_RESULT i), 16, 1⟩
def Reg.MON.MON_RESULT_MISMATCH (i : Nat) : Fld := ⟨(Reg.MON.MON_RESULT i), 17, 1⟩
def Reg.MON.MON_RESULT_LOW (i : Nat) : Fld := ⟨(Reg.MON.MON_RESULT i), 18, 1⟩
def Reg.MON.MON_RESULT_HIGH (i : Nat) : Fld := ⟨(Reg.MON.MON_RESULT i), 19, 1⟩
def Reg.MON.MON_RESULT_SCAN (i : Nat) : Fld := ⟨(Reg.MON.MON_RESULT i), 24, 8⟩

/-- MON MON_LIM (spec/05_waveform_adcs.md R182). -/
def Reg.MON.MON_LIM (i : Nat) : Nat := 0x6180 + 0x4 * i
def Reg.MON.MON_LIM_LOW (i : Nat) : Fld := ⟨(Reg.MON.MON_LIM i), 0, 16⟩
def Reg.MON.MON_LIM_HIGH (i : Nat) : Fld := ⟨(Reg.MON.MON_LIM i), 16, 16⟩

/-- MON MON_CAL (spec/05_waveform_adcs.md R182). -/
def Reg.MON.MON_CAL : Nat := 0x6200
def Reg.MON.MON_CAL_CMD : Fld := ⟨Reg.MON.MON_CAL, 0, 3⟩
def Reg.MON.MON_CAL_ADC : Fld := ⟨Reg.MON.MON_CAL, 4, 1⟩
def Reg.MON.MON_CAL_INPUT : Fld := ⟨Reg.MON.MON_CAL, 8, 5⟩
def Reg.MON.MON_CAL_EXPECT : Fld := ⟨Reg.MON.MON_CAL, 16, 16⟩

/-- MON MON_CAL_COEF (spec/05_waveform_adcs.md R182). -/
def Reg.MON.MON_CAL_COEF : Nat := 0x6204
def Reg.MON.MON_CAL_COEF_OFFSET : Fld := ⟨Reg.MON.MON_CAL_COEF, 0, 16⟩
def Reg.MON.MON_CAL_COEF_GAIN : Fld := ⟨Reg.MON.MON_CAL_COEF, 16, 16⟩

/-- MON MON_CAL_STATUS (spec/05_waveform_adcs.md R182). -/
def Reg.MON.MON_CAL_STATUS : Nat := 0x6208
def Reg.MON.MON_CAL_STATUS_COMMITTED : Fld := ⟨Reg.MON.MON_CAL_STATUS, 1, 1⟩
def Reg.MON.MON_CAL_STATUS_FAILED : Fld := ⟨Reg.MON.MON_CAL_STATUS, 2, 1⟩
def Reg.MON.MON_CAL_STATUS_FAIL_CODE : Fld := ⟨Reg.MON.MON_CAL_STATUS, 4, 3⟩

/-! ### The non-volatile store page -/

/-- Address of the page (R479). -/
def Reg.NVS.base : Nat := 0x7000

/-- NVS SUMMARY (spec/17_bring_up_health.md R576). -/
def Reg.NVS.SUMMARY : Nat := 0x7020
def Reg.NVS.SUMMARY_QUEUED : Fld := ⟨Reg.NVS.SUMMARY, 0, 5⟩
def Reg.NVS.SUMMARY_BUSY : Fld := ⟨Reg.NVS.SUMMARY, 8, 1⟩

/-- NVS RECOVERY (spec/17_bring_up_health.md R576). -/
def Reg.NVS.RECOVERY : Nat := 0x7040
def Reg.NVS.RECOVERY_TORN : Fld := ⟨Reg.NVS.RECOVERY, 0, 5⟩
def Reg.NVS.RECOVERY_REPLAYED : Fld := ⟨Reg.NVS.RECOVERY, 8, 5⟩
def Reg.NVS.RECOVERY_LAST_PAGE : Fld := ⟨Reg.NVS.RECOVERY, 16, 11⟩

/-- NVS WEAR_PAGE (spec/17_bring_up_health.md R576). -/
def Reg.NVS.WEAR_PAGE : Nat := 0x7044
def Reg.NVS.WEAR_PAGE_PAGE : Fld := ⟨Reg.NVS.WEAR_PAGE, 0, 11⟩

/-- NVS WEAR_LO (spec/17_bring_up_health.md R576). -/
def Reg.NVS.WEAR_LO : Nat := 0x7048
def Reg.NVS.WEAR_LO_COUNT : Fld := ⟨Reg.NVS.WEAR_LO, 0, 32⟩

/-- NVS WEAR_HI (spec/17_bring_up_health.md R576). -/
def Reg.NVS.WEAR_HI : Nat := 0x704C
def Reg.NVS.WEAR_HI_COUNT : Fld := ⟨Reg.NVS.WEAR_HI, 0, 8⟩

/-- NVS CNT_WRITES (spec/17_bring_up_health.md R576). -/
def Reg.NVS.CNT_WRITES : Nat := 0x7100
def Reg.NVS.CNT_WRITES_COUNT : Fld := ⟨Reg.NVS.CNT_WRITES, 0, 32⟩

/-- NVS CNT_WRITE_FAIL (spec/17_bring_up_health.md R576). -/
def Reg.NVS.CNT_WRITE_FAIL : Nat := 0x7104
def Reg.NVS.CNT_WRITE_FAIL_COUNT : Fld := ⟨Reg.NVS.CNT_WRITE_FAIL, 0, 32⟩

/-- NVS CNT_CE (spec/17_bring_up_health.md R576). -/
def Reg.NVS.CNT_CE : Nat := 0x7108
def Reg.NVS.CNT_CE_COUNT : Fld := ⟨Reg.NVS.CNT_CE, 0, 32⟩

/-- NVS CNT_UE (spec/17_bring_up_health.md R576). -/
def Reg.NVS.CNT_UE : Nat := 0x710C
def Reg.NVS.CNT_UE_COUNT : Fld := ⟨Reg.NVS.CNT_UE, 0, 32⟩

/-- NVS CNT_ABORT (spec/17_bring_up_health.md R576). -/
def Reg.NVS.CNT_ABORT : Nat := 0x7110
def Reg.NVS.CNT_ABORT_COUNT : Fld := ⟨Reg.NVS.CNT_ABORT, 0, 32⟩

/-! ### The event builder page -/

/-- Address of the page (R479). -/
def Reg.EVB.base : Nat := 0x8000

/-- EVB SUMMARY (spec/06_event_building.md R219). -/
def Reg.EVB.SUMMARY : Nat := 0x8020
def Reg.EVB.SUMMARY_CTX_USED : Fld := ⟨Reg.EVB.SUMMARY, 0, 11⟩
def Reg.EVB.SUMMARY_OQ_LEVEL : Fld := ⟨Reg.EVB.SUMMARY, 16, 1⟩
def Reg.EVB.SUMMARY_STALLED : Fld := ⟨Reg.EVB.SUMMARY, 17, 1⟩

/-- EVB CTRL (spec/06_event_building.md R219). -/
def Reg.EVB.CTRL : Nat := 0x8040
def Reg.EVB.CTRL_STATUS_EN : Fld := ⟨Reg.EVB.CTRL, 0, 1⟩

/-- EVB OUT_FORMAT (spec/06_event_building.md R219). -/
def Reg.EVB.OUT_FORMAT : Nat := 0x8044
def Reg.EVB.OUT_FORMAT_ENTRY : Fld := ⟨Reg.EVB.OUT_FORMAT, 0, 4⟩
def Reg.EVB.OUT_FORMAT_ACTIVE : Fld := ⟨Reg.EVB.OUT_FORMAT, 8, 4⟩

/-- EVB LATE_CTRL (spec/06_event_building.md R219). -/
def Reg.EVB.LATE_CTRL : Nat := 0x8048
def Reg.EVB.LATE_CTRL_MAX_HITS : Fld := ⟨Reg.EVB.LATE_CTRL, 0, 6⟩

/-- EVB SORT_STATUS (spec/06_event_building.md R219). -/
def Reg.EVB.SORT_STATUS : Nat := 0x8050
def Reg.EVB.SORT_STATUS_OCC : Fld := ⟨Reg.EVB.SORT_STATUS, 0, 17⟩
def Reg.EVB.SORT_STATUS_STALLED : Fld := ⟨Reg.EVB.SORT_STATUS, 24, 1⟩

/-- EVB FRONT_LO (spec/06_event_building.md R219). -/
def Reg.EVB.FRONT_LO : Nat := 0x8054
def Reg.EVB.FRONT_LO_FU : Fld := ⟨Reg.EVB.FRONT_LO, 0, 32⟩

/-- EVB FRONT_HI (spec/06_event_building.md R219). -/
def Reg.EVB.FRONT_HI : Nat := 0x8058
def Reg.EVB.FRONT_HI_FU : Fld := ⟨Reg.EVB.FRONT_HI, 0, 32⟩

/-- EVB OQ_WM (spec/06_event_building.md R219). -/
def Reg.EVB.OQ_WM : Nat := 0x8060
def Reg.EVB.OQ_WM_HIGH : Fld := ⟨Reg.EVB.OQ_WM, 0, 14⟩
def Reg.EVB.OQ_WM_LOW : Fld := ⟨Reg.EVB.OQ_WM, 16, 14⟩

/-- EVB OQ_STATUS (spec/06_event_building.md R219). -/
def Reg.EVB.OQ_STATUS : Nat := 0x8064
def Reg.EVB.OQ_STATUS_OCC : Fld := ⟨Reg.EVB.OQ_STATUS, 0, 14⟩
def Reg.EVB.OQ_STATUS_LEVEL : Fld := ⟨Reg.EVB.OQ_STATUS, 16, 1⟩
def Reg.EVB.OQ_STATUS_LANE_HELD : Fld := ⟨Reg.EVB.OQ_STATUS, 17, 1⟩
def Reg.EVB.OQ_STATUS_DMA_HELD : Fld := ⟨Reg.EVB.OQ_STATUS, 18, 1⟩

/-- EVB QUOTA (spec/06_event_building.md R219). -/
def Reg.EVB.QUOTA (i : Nat) : Nat := 0x8080 + 0x4 * i
def Reg.EVB.QUOTA_QUOTA (i : Nat) : Fld := ⟨(Reg.EVB.QUOTA i), 0, 11⟩

/-- EVB CTX_USED (spec/06_event_building.md R219). -/
def Reg.EVB.CTX_USED (i : Nat) : Nat := 0x80A0 + 0x4 * i
def Reg.EVB.CTX_USED_COUNT (i : Nat) : Fld := ⟨(Reg.EVB.CTX_USED i), 0, 11⟩

/-- EVB CTX_FREE (spec/06_event_building.md R219). -/
def Reg.EVB.CTX_FREE : Nat := 0x80C0
def Reg.EVB.CTX_FREE_COUNT : Fld := ⟨Reg.EVB.CTX_FREE, 0, 11⟩

/-- EVB CTX_ADDR (spec/06_event_building.md R219). -/
def Reg.EVB.CTX_ADDR : Nat := 0x80C4
def Reg.EVB.CTX_ADDR_INDEX : Fld := ⟨Reg.EVB.CTX_ADDR, 0, 10⟩

/-- EVB CTX_DATA0 (spec/06_event_building.md R219). -/
def Reg.EVB.CTX_DATA0 : Nat := 0x80C8
def Reg.EVB.CTX_DATA0_WORD : Fld := ⟨Reg.EVB.CTX_DATA0, 0, 32⟩

/-- EVB CTX_DATA1 (spec/06_event_building.md R219). -/
def Reg.EVB.CTX_DATA1 : Nat := 0x80CC
def Reg.EVB.CTX_DATA1_WORD : Fld := ⟨Reg.EVB.CTX_DATA1, 0, 32⟩

/-- EVB STATUS_SRC (spec/06_event_building.md R219). -/
def Reg.EVB.STATUS_SRC (i : Nat) : Nat := 0x8100 + 0x4 * i
def Reg.EVB.STATUS_SRC_MASK (i : Nat) : Fld := ⟨(Reg.EVB.STATUS_SRC i), 0, 32⟩

/-- EVB FMT_ADDR (spec/06_event_building.md R219). -/
def Reg.EVB.FMT_ADDR : Nat := 0x8140
def Reg.EVB.FMT_ADDR_WORD : Fld := ⟨Reg.EVB.FMT_ADDR, 0, 5⟩
def Reg.EVB.FMT_ADDR_AUTOINC : Fld := ⟨Reg.EVB.FMT_ADDR, 30, 1⟩

/-- EVB FMT_DATA_LO (spec/06_event_building.md R219). -/
def Reg.EVB.FMT_DATA_LO : Nat := 0x8144
def Reg.EVB.FMT_DATA_LO_DATA : Fld := ⟨Reg.EVB.FMT_DATA_LO, 0, 32⟩

/-- EVB FMT_DATA_HI (spec/06_event_building.md R219). -/
def Reg.EVB.FMT_DATA_HI : Nat := 0x8148
def Reg.EVB.FMT_DATA_HI_DATA : Fld := ⟨Reg.EVB.FMT_DATA_HI, 0, 32⟩

/-- EVB FMT_CTRL (spec/06_event_building.md R219). -/
def Reg.EVB.FMT_CTRL : Nat := 0x814C
def Reg.EVB.FMT_CTRL_COMMIT : Fld := ⟨Reg.EVB.FMT_CTRL, 0, 1⟩
def Reg.EVB.FMT_CTRL_REJECTED : Fld := ⟨Reg.EVB.FMT_CTRL, 8, 1⟩

/-- EVB CNT_HITS_IN (spec/06_event_building.md R219). -/
def Reg.EVB.CNT_HITS_IN : Nat := 0x8180
def Reg.EVB.CNT_HITS_IN_COUNT : Fld := ⟨Reg.EVB.CNT_HITS_IN, 0, 32⟩

/-- EVB CNT_HITS_OUT (spec/06_event_building.md R219). -/
def Reg.EVB.CNT_HITS_OUT : Nat := 0x8184
def Reg.EVB.CNT_HITS_OUT_COUNT : Fld := ⟨Reg.EVB.CNT_HITS_OUT, 0, 32⟩

/-- EVB CNT_LATE (spec/06_event_building.md R219). -/
def Reg.EVB.CNT_LATE : Nat := 0x8188
def Reg.EVB.CNT_LATE_COUNT : Fld := ⟨Reg.EVB.CNT_LATE, 0, 32⟩

/-- EVB CNT_SORT_FULL (spec/06_event_building.md R219). -/
def Reg.EVB.CNT_SORT_FULL : Nat := 0x818C
def Reg.EVB.CNT_SORT_FULL_COUNT : Fld := ⟨Reg.EVB.CNT_SORT_FULL, 0, 32⟩

/-- EVB CNT_POOL_REJECT (spec/06_event_building.md R219). -/
def Reg.EVB.CNT_POOL_REJECT : Nat := 0x8190
def Reg.EVB.CNT_POOL_REJECT_COUNT : Fld := ⟨Reg.EVB.CNT_POOL_REJECT, 0, 32⟩

/-- EVB CNT_UNROUTED (spec/06_event_building.md R219). -/
def Reg.EVB.CNT_UNROUTED : Nat := 0x8194
def Reg.EVB.CNT_UNROUTED_COUNT : Fld := ⟨Reg.EVB.CNT_UNROUTED, 0, 32⟩

/-- EVB CNT_ABORT (spec/06_event_building.md R219). -/
def Reg.EVB.CNT_ABORT : Nat := 0x8198
def Reg.EVB.CNT_ABORT_COUNT : Fld := ⟨Reg.EVB.CNT_ABORT, 0, 32⟩

/-- EVB CNT_QUOTA_REJECT (spec/06_event_building.md R219). -/
def Reg.EVB.CNT_QUOTA_REJECT (i : Nat) : Nat := 0x81A0 + 0x4 * i
def Reg.EVB.CNT_QUOTA_REJECT_COUNT (i : Nat) : Fld := ⟨(Reg.EVB.CNT_QUOTA_REJECT i), 0, 32⟩

/-- EVB CNT_WD (spec/06_event_building.md R219). -/
def Reg.EVB.CNT_WD (i : Nat) : Nat := 0x81C0 + 0x4 * i
def Reg.EVB.CNT_WD_COUNT (i : Nat) : Fld := ⟨(Reg.EVB.CNT_WD i), 0, 32⟩

/-- EVB FC_BUSY_SRC (spec/04_region_readout.md R149). -/
def Reg.EVB.FC_BUSY_SRC : Nat := 0x8800
def Reg.EVB.FC_BUSY_SRC_REGION : Fld := ⟨Reg.EVB.FC_BUSY_SRC, 0, 4⟩
def Reg.EVB.FC_BUSY_SRC_CHANNEL : Fld := ⟨Reg.EVB.FC_BUSY_SRC, 4, 4⟩
def Reg.EVB.FC_BUSY_SRC_OUTQ : Fld := ⟨Reg.EVB.FC_BUSY_SRC, 8, 1⟩
def Reg.EVB.FC_BUSY_SRC_THERMAL : Fld := ⟨Reg.EVB.FC_BUSY_SRC, 9, 1⟩
def Reg.EVB.FC_BUSY_SRC_FORCE : Fld := ⟨Reg.EVB.FC_BUSY_SRC, 10, 1⟩

/-- EVB FC_WARN_SRC (spec/04_region_readout.md R149). -/
def Reg.EVB.FC_WARN_SRC : Nat := 0x8804
def Reg.EVB.FC_WARN_SRC_REGION : Fld := ⟨Reg.EVB.FC_WARN_SRC, 0, 4⟩
def Reg.EVB.FC_WARN_SRC_CHANNEL : Fld := ⟨Reg.EVB.FC_WARN_SRC, 4, 4⟩
def Reg.EVB.FC_WARN_SRC_OUTQ : Fld := ⟨Reg.EVB.FC_WARN_SRC, 8, 1⟩
def Reg.EVB.FC_WARN_SRC_THERMAL : Fld := ⟨Reg.EVB.FC_WARN_SRC, 9, 1⟩
def Reg.EVB.FC_WARN_SRC_FORCE : Fld := ⟨Reg.EVB.FC_WARN_SRC, 10, 1⟩

/-- EVB FC_STATUS (spec/04_region_readout.md R149). -/
def Reg.EVB.FC_STATUS : Nat := 0x8808
def Reg.EVB.FC_STATUS_BUSY : Fld := ⟨Reg.EVB.FC_STATUS, 0, 1⟩
def Reg.EVB.FC_STATUS_WARN : Fld := ⟨Reg.EVB.FC_STATUS, 1, 1⟩
def Reg.EVB.FC_STATUS_ACTIVE : Fld := ⟨Reg.EVB.FC_STATUS, 16, 11⟩

/-- EVB RX_SEC (spec/04_region_readout.md R149). -/
def Reg.EVB.RX_SEC (i : Nat) : Nat := 0x8840 + 0x4 * i
def Reg.EVB.RX_SEC_COUNT (i : Nat) : Fld := ⟨(Reg.EVB.RX_SEC i), 0, 32⟩

/-- EVB RX_DISCARD (spec/04_region_readout.md R149). -/
def Reg.EVB.RX_DISCARD (i : Nat) : Nat := 0x8880 + 0x4 * i
def Reg.EVB.RX_DISCARD_COUNT (i : Nat) : Fld := ⟨(Reg.EVB.RX_DISCARD i), 0, 32⟩

/-- EVB RX_LOSS (spec/04_region_readout.md R149). -/
def Reg.EVB.RX_LOSS (i : Nat) : Nat := 0x88C0 + 0x4 * i
def Reg.EVB.RX_LOSS_COUNT (i : Nat) : Fld := ⟨(Reg.EVB.RX_LOSS i), 0, 32⟩

/-! ### The trigger engine page -/

/-- Address of the page (R479). -/
def Reg.TRG.base : Nat := 0xA000

/-- TRG SUMMARY (spec/07_trigger_acquisition.md R253). -/
def Reg.TRG.SUMMARY : Nat := 0xA020
def Reg.TRG.SUMMARY_MODE : Fld := ⟨Reg.TRG.SUMMARY, 0, 2⟩
def Reg.TRG.SUMMARY_FROZEN : Fld := ⟨Reg.TRG.SUMMARY, 2, 1⟩
def Reg.TRG.SUMMARY_CAPTURING : Fld := ⟨Reg.TRG.SUMMARY, 8, 8⟩

/-- TRG CTRL (spec/07_trigger_acquisition.md R253). -/
def Reg.TRG.CTRL : Nat := 0xA040
def Reg.TRG.CTRL_MODE : Fld := ⟨Reg.TRG.CTRL, 0, 2⟩

/-- TRG COND_BASE (spec/07_trigger_acquisition.md R253). -/
def Reg.TRG.COND_BASE : Nat := 0xA044
def Reg.TRG.COND_BASE_WORD : Fld := ⟨Reg.TRG.COND_BASE, 0, 8⟩
def Reg.TRG.COND_BASE_AUTOINC : Fld := ⟨Reg.TRG.COND_BASE, 30, 1⟩

/-- TRG COND_DATA_LO (spec/07_trigger_acquisition.md R253). -/
def Reg.TRG.COND_DATA_LO : Nat := 0xA048
def Reg.TRG.COND_DATA_LO_DATA : Fld := ⟨Reg.TRG.COND_DATA_LO, 0, 32⟩

/-- TRG COND_DATA_HI (spec/07_trigger_acquisition.md R253). -/
def Reg.TRG.COND_DATA_HI : Nat := 0xA04C
def Reg.TRG.COND_DATA_HI_DATA : Fld := ⟨Reg.TRG.COND_DATA_HI, 0, 32⟩

/-- TRG COND_CTRL (spec/07_trigger_acquisition.md R253). -/
def Reg.TRG.COND_CTRL : Nat := 0xA050
def Reg.TRG.COND_CTRL_COMMIT : Fld := ⟨Reg.TRG.COND_CTRL, 0, 1⟩
def Reg.TRG.COND_CTRL_REJECTED : Fld := ⟨Reg.TRG.COND_CTRL, 8, 1⟩

/-- TRG SW_TRIG (spec/07_trigger_acquisition.md R253). -/
def Reg.TRG.SW_TRIG : Nat := 0xA054
def Reg.TRG.SW_TRIG_BITS : Fld := ⟨Reg.TRG.SW_TRIG, 0, 16⟩

/-- TRG TRIG_OUT_CTRL (spec/07_trigger_acquisition.md R253). -/
def Reg.TRG.TRIG_OUT_CTRL : Nat := 0xA058
def Reg.TRG.TRIG_OUT_CTRL_WIDTH : Fld := ⟨Reg.TRG.TRIG_OUT_CTRL, 0, 8⟩
def Reg.TRG.TRIG_OUT_CTRL_INVERT : Fld := ⟨Reg.TRG.TRIG_OUT_CTRL, 8, 1⟩
def Reg.TRG.TRIG_OUT_CTRL_FORCE : Fld := ⟨Reg.TRG.TRIG_OUT_CTRL, 9, 1⟩

/-- TRG TIMER (spec/07_trigger_acquisition.md R253). -/
def Reg.TRG.TIMER (i : Nat) : Nat := 0xA060 + 0x4 * i
def Reg.TRG.TIMER_PERIOD (i : Nat) : Fld := ⟨(Reg.TRG.TIMER i), 0, 32⟩

/-- TRG TRIG_NUM (spec/07_trigger_acquisition.md R253). -/
def Reg.TRG.TRIG_NUM : Nat := 0xA080
def Reg.TRG.TRIG_NUM_NEXT : Fld := ⟨Reg.TRG.TRIG_NUM, 0, 24⟩

/-- TRG ARM_FRAME_LO (spec/07_trigger_acquisition.md R253). -/
def Reg.TRG.ARM_FRAME_LO : Nat := 0xA084
def Reg.TRG.ARM_FRAME_LO_FRAME : Fld := ⟨Reg.TRG.ARM_FRAME_LO, 0, 32⟩

/-- TRG ARM_FRAME_HI (spec/07_trigger_acquisition.md R253). -/
def Reg.TRG.ARM_FRAME_HI : Nat := 0xA088
def Reg.TRG.ARM_FRAME_HI_FRAME : Fld := ⟨Reg.TRG.ARM_FRAME_HI, 0, 8⟩

/-- TRG MASK_STATUS (spec/07_trigger_acquisition.md R253). -/
def Reg.TRG.MASK_STATUS : Nat := 0xA090
def Reg.TRG.MASK_STATUS_VIOLATED : Fld := ⟨Reg.TRG.MASK_STATUS, 0, 8⟩
def Reg.TRG.MASK_STATUS_FIRST : Fld := ⟨Reg.TRG.MASK_STATUS, 8, 3⟩

/-- TRG MASK_CTRL (spec/07_trigger_acquisition.md R253). -/
def Reg.TRG.MASK_CTRL : Nat := 0xA094
def Reg.TRG.MASK_CTRL_RELEASE : Fld := ⟨Reg.TRG.MASK_CTRL, 0, 1⟩

/-- TRG VIOL_CT_LO (spec/07_trigger_acquisition.md R253). -/
def Reg.TRG.VIOL_CT_LO : Nat := 0xA098
def Reg.TRG.VIOL_CT_LO_CT : Fld := ⟨Reg.TRG.VIOL_CT_LO, 0, 32⟩

/-- TRG VIOL_CT_HI (spec/07_trigger_acquisition.md R253). -/
def Reg.TRG.VIOL_CT_HI : Nat := 0xA09C
def Reg.TRG.VIOL_CT_HI_CT : Fld := ⟨Reg.TRG.VIOL_CT_HI, 0, 26⟩

/-- TRG EXT_STATUS (spec/07_trigger_acquisition.md R253). -/
def Reg.TRG.EXT_STATUS : Nat := 0xA0A0
def Reg.TRG.EXT_STATUS_LEVEL : Fld := ⟨Reg.TRG.EXT_STATUS, 0, 2⟩

/-- TRG CNT_TRIGGERS (spec/07_trigger_acquisition.md R253). -/
def Reg.TRG.CNT_TRIGGERS : Nat := 0xA180
def Reg.TRG.CNT_TRIGGERS_COUNT : Fld := ⟨Reg.TRG.CNT_TRIGGERS, 0, 32⟩

/-- TRG CNT_IGNORED_PRE (spec/07_trigger_acquisition.md R253). -/
def Reg.TRG.CNT_IGNORED_PRE : Nat := 0xA184
def Reg.TRG.CNT_IGNORED_PRE_COUNT : Fld := ⟨Reg.TRG.CNT_IGNORED_PRE, 0, 32⟩

/-- TRG CNT_IGNORED_REARM (spec/07_trigger_acquisition.md R253). -/
def Reg.TRG.CNT_IGNORED_REARM : Nat := 0xA188
def Reg.TRG.CNT_IGNORED_REARM_COUNT : Fld := ⟨Reg.TRG.CNT_IGNORED_REARM, 0, 32⟩

/-- TRG CNT_IGNORED_FROZEN (spec/07_trigger_acquisition.md R253). -/
def Reg.TRG.CNT_IGNORED_FROZEN : Nat := 0xA18C
def Reg.TRG.CNT_IGNORED_FROZEN_COUNT : Fld := ⟨Reg.TRG.CNT_IGNORED_FROZEN, 0, 32⟩

/-- TRG CNT_CTX_REFUSED (spec/07_trigger_acquisition.md R253). -/
def Reg.TRG.CNT_CTX_REFUSED : Nat := 0xA190
def Reg.TRG.CNT_CTX_REFUSED_COUNT : Fld := ⟨Reg.TRG.CNT_CTX_REFUSED, 0, 32⟩

/-- TRG CNT_CAP_REFUSED (spec/07_trigger_acquisition.md R253). -/
def Reg.TRG.CNT_CAP_REFUSED : Nat := 0xA194
def Reg.TRG.CNT_CAP_REFUSED_COUNT : Fld := ⟨Reg.TRG.CNT_CAP_REFUSED, 0, 32⟩

/-- TRG CNT_RETRO (spec/07_trigger_acquisition.md R253). -/
def Reg.TRG.CNT_RETRO : Nat := 0xA198
def Reg.TRG.CNT_RETRO_COUNT : Fld := ⟨Reg.TRG.CNT_RETRO, 0, 32⟩

/-- TRG CNT_OVF_BW (spec/07_trigger_acquisition.md R253). -/
def Reg.TRG.CNT_OVF_BW : Nat := 0xA19C
def Reg.TRG.CNT_OVF_BW_COUNT : Fld := ⟨Reg.TRG.CNT_OVF_BW, 0, 32⟩

/-- TRG CNT_OVF_SPACE (spec/07_trigger_acquisition.md R253). -/
def Reg.TRG.CNT_OVF_SPACE : Nat := 0xA1A0
def Reg.TRG.CNT_OVF_SPACE_COUNT : Fld := ⟨Reg.TRG.CNT_OVF_SPACE, 0, 32⟩

/-- TRG CNT_MASK_STOP (spec/07_trigger_acquisition.md R253). -/
def Reg.TRG.CNT_MASK_STOP : Nat := 0xA1A4
def Reg.TRG.CNT_MASK_STOP_COUNT : Fld := ⟨Reg.TRG.CNT_MASK_STOP, 0, 32⟩

/-- TRG CNT_CLAMPED (spec/07_trigger_acquisition.md R253). -/
def Reg.TRG.CNT_CLAMPED : Nat := 0xA1A8
def Reg.TRG.CNT_CLAMPED_COUNT : Fld := ⟨Reg.TRG.CNT_CLAMPED, 0, 32⟩

/-- TRG CNT_ABORT (spec/07_trigger_acquisition.md R253). -/
def Reg.TRG.CNT_ABORT : Nat := 0xA1AC
def Reg.TRG.CNT_ABORT_COUNT : Fld := ⟨Reg.TRG.CNT_ABORT, 0, 32⟩

/-- TRG CNT_CAPTURES (spec/07_trigger_acquisition.md R253). -/
def Reg.TRG.CNT_CAPTURES : Nat := 0xA1B0
def Reg.TRG.CNT_CAPTURES_COUNT : Fld := ⟨Reg.TRG.CNT_CAPTURES, 0, 32⟩

/-- TRG MT_CTRL (spec/07_trigger_acquisition.md R254). -/
def Reg.TRG.MT_CTRL (i : Nat) : Nat := 0xA300 + 0x10 * i
def Reg.TRG.MT_CTRL_EN (i : Nat) : Fld := ⟨(Reg.TRG.MT_CTRL i), 0, 1⟩
def Reg.TRG.MT_CTRL_KIND (i : Nat) : Fld := ⟨(Reg.TRG.MT_CTRL i), 1, 1⟩
def Reg.TRG.MT_CTRL_GROUP (i : Nat) : Fld := ⟨(Reg.TRG.MT_CTRL i), 4, 4⟩
def Reg.TRG.MT_CTRL_ADC (i : Nat) : Fld := ⟨(Reg.TRG.MT_CTRL i), 8, 5⟩
def Reg.TRG.MT_CTRL_CHAN (i : Nat) : Fld := ⟨(Reg.TRG.MT_CTRL i), 16, 5⟩
def Reg.TRG.MT_CTRL_IVL (i : Nat) : Fld := ⟨(Reg.TRG.MT_CTRL i), 24, 5⟩

/-- TRG MT_LOW (spec/07_trigger_acquisition.md R254). -/
def Reg.TRG.MT_LOW (i : Nat) : Nat := 0xA304 + 0x10 * i
def Reg.TRG.MT_LOW_LOW (i : Nat) : Fld := ⟨(Reg.TRG.MT_LOW i), 0, 32⟩

/-- TRG MT_HIGH (spec/07_trigger_acquisition.md R254). -/
def Reg.TRG.MT_HIGH (i : Nat) : Nat := 0xA308 + 0x10 * i
def Reg.TRG.MT_HIGH_HIGH (i : Nat) : Fld := ⟨(Reg.TRG.MT_HIGH i), 0, 32⟩

/-- TRG MT_CONSEC (spec/07_trigger_acquisition.md R254). -/
def Reg.TRG.MT_CONSEC (i : Nat) : Nat := 0xA30C + 0x10 * i
def Reg.TRG.MT_CONSEC_CONSEC (i : Nat) : Fld := ⟨(Reg.TRG.MT_CONSEC i), 0, 16⟩
def Reg.TRG.MT_CONSEC_RUN (i : Nat) : Fld := ⟨(Reg.TRG.MT_CONSEC i), 16, 16⟩

/-- TRG GROUP (spec/07_trigger_acquisition.md R255). -/
def Reg.TRG.GROUP (i : Nat) : Nat := 0xA400 + 0x4 * i
def Reg.TRG.GROUP_BITS (i : Nat) : Fld := ⟨(Reg.TRG.GROUP i), 0, 32⟩

/-- TRG CNT_MATCH (spec/07_trigger_acquisition.md R255). -/
def Reg.TRG.CNT_MATCH (i : Nat) : Nat := 0xA800 + 0x8 * i
def Reg.TRG.CNT_MATCH_COUNT (i : Nat) : Fld := ⟨(Reg.TRG.CNT_MATCH i), 0, 32⟩

/-- TRG CNT_ACCEPT (spec/07_trigger_acquisition.md R255). -/
def Reg.TRG.CNT_ACCEPT (i : Nat) : Nat := 0xA804 + 0x8 * i
def Reg.TRG.CNT_ACCEPT_COUNT (i : Nat) : Fld := ⟨(Reg.TRG.CNT_ACCEPT i), 0, 32⟩

/-! ### The security page -/

/-- Address of the page (R479). -/
def Reg.SEC.base : Nat := 0xB000

/-- SEC SUMMARY (spec/15_sealed_domain_security.md R525). -/
def Reg.SEC.SUMMARY : Nat := 0xB020
def Reg.SEC.SUMMARY_LOCKED : Fld := ⟨Reg.SEC.SUMMARY, 0, 1⟩
def Reg.SEC.SUMMARY_ERASED : Fld := ⟨Reg.SEC.SUMMARY, 1, 1⟩
def Reg.SEC.SUMMARY_DEBUG_OPEN : Fld := ⟨Reg.SEC.SUMMARY, 2, 1⟩

/-- SEC KEY_STATUS (spec/15_sealed_domain_security.md R525). -/
def Reg.SEC.KEY_STATUS (i : Nat) : Nat := 0xB040 + 0x4 * i
def Reg.SEC.KEY_STATUS_PROGRAMMED (i : Nat) : Fld := ⟨(Reg.SEC.KEY_STATUS i), 0, 1⟩
def Reg.SEC.KEY_STATUS_REVOKED (i : Nat) : Fld := ⟨(Reg.SEC.KEY_STATUS i), 1, 1⟩
def Reg.SEC.KEY_STATUS_USAGE (i : Nat) : Fld := ⟨(Reg.SEC.KEY_STATUS i), 2, 3⟩

/-- SEC KEY_PROG (spec/15_sealed_domain_security.md R525). -/
def Reg.SEC.KEY_PROG : Nat := 0xB050
def Reg.SEC.KEY_PROG_SLOT : Fld := ⟨Reg.SEC.KEY_PROG, 0, 2⟩
def Reg.SEC.KEY_PROG_USAGE : Fld := ⟨Reg.SEC.KEY_PROG, 4, 3⟩
def Reg.SEC.KEY_PROG_FAIL : Fld := ⟨Reg.SEC.KEY_PROG, 30, 1⟩
def Reg.SEC.KEY_PROG_GO : Fld := ⟨Reg.SEC.KEY_PROG, 31, 1⟩

/-- SEC KEY_REVOKE (spec/15_sealed_domain_security.md R525). -/
def Reg.SEC.KEY_REVOKE : Nat := 0xB054
def Reg.SEC.KEY_REVOKE_SLOTS : Fld := ⟨Reg.SEC.KEY_REVOKE, 0, 4⟩

/-- SEC ALARM_POLICY (spec/15_sealed_domain_security.md R525). -/
def Reg.SEC.ALARM_POLICY : Nat := 0xB058
def Reg.SEC.ALARM_POLICY_POLICY : Fld := ⟨Reg.SEC.ALARM_POLICY, 0, 10⟩

/-- SEC DEBUG_UNLOCK (spec/15_sealed_domain_security.md R525). -/
def Reg.SEC.DEBUG_UNLOCK : Nat := 0xB05C
def Reg.SEC.DEBUG_UNLOCK_DATA : Fld := ⟨Reg.SEC.DEBUG_UNLOCK, 0, 32⟩

/-- SEC KEY_DATA (spec/15_sealed_domain_security.md R525). -/
def Reg.SEC.KEY_DATA (i : Nat) : Nat := 0xB060 + 0x4 * i
def Reg.SEC.KEY_DATA_KEY (i : Nat) : Fld := ⟨(Reg.SEC.KEY_DATA i), 0, 32⟩

/-- SEC AW_BLOCK (spec/15_sealed_domain_security.md R525). -/
def Reg.SEC.AW_BLOCK (i : Nat) : Nat := 0xB0A0 + 0x4 * i
def Reg.SEC.AW_BLOCK_BLOCK (i : Nat) : Fld := ⟨(Reg.SEC.AW_BLOCK i), 0, 32⟩

/-- SEC AW_CTRL (spec/15_sealed_domain_security.md R525). -/
def Reg.SEC.AW_CTRL : Nat := 0xB0C0
def Reg.SEC.AW_CTRL_GO : Fld := ⟨Reg.SEC.AW_CTRL, 0, 1⟩
def Reg.SEC.AW_CTRL_BUSY : Fld := ⟨Reg.SEC.AW_CTRL, 1, 1⟩
def Reg.SEC.AW_CTRL_STATUS : Fld := ⟨Reg.SEC.AW_CTRL, 4, 4⟩

/-- SEC AUDIT_ADDR (spec/15_sealed_domain_security.md R525). -/
def Reg.SEC.AUDIT_ADDR : Nat := 0xB100
def Reg.SEC.AUDIT_ADDR_SEQ : Fld := ⟨Reg.SEC.AUDIT_ADDR, 0, 24⟩
def Reg.SEC.AUDIT_ADDR_WORD : Fld := ⟨Reg.SEC.AUDIT_ADDR, 24, 3⟩
def Reg.SEC.AUDIT_ADDR_AUTOINC : Fld := ⟨Reg.SEC.AUDIT_ADDR, 30, 1⟩

/-- SEC AUDIT_DATA (spec/15_sealed_domain_security.md R525). -/
def Reg.SEC.AUDIT_DATA : Nat := 0xB104
def Reg.SEC.AUDIT_DATA_DATA : Fld := ⟨Reg.SEC.AUDIT_DATA, 0, 32⟩

/-- SEC AUDIT_HEAD (spec/15_sealed_domain_security.md R525). -/
def Reg.SEC.AUDIT_HEAD : Nat := 0xB108
def Reg.SEC.AUDIT_HEAD_SEQ : Fld := ⟨Reg.SEC.AUDIT_HEAD, 0, 24⟩

/-- SEC AUDIT_QUEUE (spec/15_sealed_domain_security.md R525). -/
def Reg.SEC.AUDIT_QUEUE : Nat := 0xB10C
def Reg.SEC.AUDIT_QUEUE_LEVEL : Fld := ⟨Reg.SEC.AUDIT_QUEUE, 0, 5⟩

/-- SEC CNT_AUTH_OK (spec/15_sealed_domain_security.md R525). -/
def Reg.SEC.CNT_AUTH_OK : Nat := 0xB180
def Reg.SEC.CNT_AUTH_OK_COUNT : Fld := ⟨Reg.SEC.CNT_AUTH_OK, 0, 32⟩

/-- SEC CNT_AUTH_FAIL (spec/15_sealed_domain_security.md R525). -/
def Reg.SEC.CNT_AUTH_FAIL : Nat := 0xB184
def Reg.SEC.CNT_AUTH_FAIL_COUNT : Fld := ⟨Reg.SEC.CNT_AUTH_FAIL, 0, 32⟩

/-- SEC CNT_AUDIT_ENTRIES (spec/15_sealed_domain_security.md R525). -/
def Reg.SEC.CNT_AUDIT_ENTRIES : Nat := 0xB188
def Reg.SEC.CNT_AUDIT_ENTRIES_COUNT : Fld := ⟨Reg.SEC.CNT_AUDIT_ENTRIES, 0, 32⟩

/-- SEC CNT_AUDIT_LOST (spec/15_sealed_domain_security.md R525). -/
def Reg.SEC.CNT_AUDIT_LOST : Nat := 0xB18C
def Reg.SEC.CNT_AUDIT_LOST_COUNT : Fld := ⟨Reg.SEC.CNT_AUDIT_LOST, 0, 32⟩

/-- SEC CNT_ALARMS (spec/15_sealed_domain_security.md R525). -/
def Reg.SEC.CNT_ALARMS : Nat := 0xB190
def Reg.SEC.CNT_ALARMS_COUNT : Fld := ⟨Reg.SEC.CNT_ALARMS, 0, 32⟩

/-! ### The history ring page -/

/-- Address of the page (R479). -/
def Reg.HIS.base : Nat := 0xC000

/-- HIS SUMMARY (spec/08_history_memory.md R284). -/
def Reg.HIS.SUMMARY : Nat := 0xC020
def Reg.HIS.SUMMARY_STATE : Fld := ⟨Reg.HIS.SUMMARY, 0, 3⟩
def Reg.HIS.SUMMARY_DROPPING : Fld := ⟨Reg.HIS.SUMMARY, 16, 1⟩

/-- HIS GEOM (spec/08_history_memory.md R284). -/
def Reg.HIS.GEOM : Nat := 0xC040
def Reg.HIS.GEOM_WIDTH : Fld := ⟨Reg.HIS.GEOM, 0, 1⟩
def Reg.HIS.GEOM_DENSITY : Fld := ⟨Reg.HIS.GEOM, 1, 2⟩
def Reg.HIS.GEOM_RANKS : Fld := ⟨Reg.HIS.GEOM, 4, 1⟩
def Reg.HIS.GEOM_SPEED : Fld := ⟨Reg.HIS.GEOM, 8, 3⟩

/-- HIS CTRL (spec/08_history_memory.md R284). -/
def Reg.HIS.CTRL : Nat := 0xC044
def Reg.HIS.CTRL_TRAIN : Fld := ⟨Reg.HIS.CTRL, 0, 1⟩
def Reg.HIS.CTRL_SCRUB_EN : Fld := ⟨Reg.HIS.CTRL, 1, 1⟩
def Reg.HIS.CTRL_AUTO_RELEASE : Fld := ⟨Reg.HIS.CTRL, 2, 1⟩
def Reg.HIS.CTRL_SCRUB_HOURS : Fld := ⟨Reg.HIS.CTRL, 8, 8⟩

/-- HIS STATUS (spec/08_history_memory.md R284). -/
def Reg.HIS.STATUS : Nat := 0xC048
def Reg.HIS.STATUS_STATE : Fld := ⟨Reg.HIS.STATUS, 0, 3⟩
def Reg.HIS.STATUS_FROZEN : Fld := ⟨Reg.HIS.STATUS, 3, 1⟩
def Reg.HIS.STATUS_HOT : Fld := ⟨Reg.HIS.STATUS, 4, 1⟩
def Reg.HIS.STATUS_TRAIN_FAIL : Fld := ⟨Reg.HIS.STATUS, 8, 3⟩

/-- HIS OLDEST_LO (spec/08_history_memory.md R284). -/
def Reg.HIS.OLDEST_LO : Nat := 0xC050
def Reg.HIS.OLDEST_LO_FU : Fld := ⟨Reg.HIS.OLDEST_LO, 0, 32⟩

/-- HIS OLDEST_HI (spec/08_history_memory.md R284). -/
def Reg.HIS.OLDEST_HI : Nat := 0xC054
def Reg.HIS.OLDEST_HI_FU : Fld := ⟨Reg.HIS.OLDEST_HI, 0, 32⟩

/-- HIS CLEAN_LO (spec/08_history_memory.md R284). -/
def Reg.HIS.CLEAN_LO : Nat := 0xC058
def Reg.HIS.CLEAN_LO_FU : Fld := ⟨Reg.HIS.CLEAN_LO, 0, 32⟩

/-- HIS CLEAN_HI (spec/08_history_memory.md R284). -/
def Reg.HIS.CLEAN_HI : Nat := 0xC05C
def Reg.HIS.CLEAN_HI_FU : Fld := ⟨Reg.HIS.CLEAN_HI, 0, 32⟩

/-- HIS WRITE_LINE (spec/08_history_memory.md R284). -/
def Reg.HIS.WRITE_LINE : Nat := 0xC060
def Reg.HIS.WRITE_LINE_LINE : Fld := ⟨Reg.HIS.WRITE_LINE, 0, 32⟩

/-- HIS SEQ_LO (spec/08_history_memory.md R284). -/
def Reg.HIS.SEQ_LO : Nat := 0xC064
def Reg.HIS.SEQ_LO_SEQ : Fld := ⟨Reg.HIS.SEQ_LO, 0, 32⟩

/-- HIS SEQ_HI (spec/08_history_memory.md R284). -/
def Reg.HIS.SEQ_HI : Nat := 0xC068
def Reg.HIS.SEQ_HI_SEQ : Fld := ⟨Reg.HIS.SEQ_HI, 0, 32⟩

/-- HIS PIN_LIMIT (spec/08_history_memory.md R284). -/
def Reg.HIS.PIN_LIMIT : Nat := 0xC070
def Reg.HIS.PIN_LIMIT_SEGMENTS : Fld := ⟨Reg.HIS.PIN_LIMIT, 0, 17⟩

/-- HIS PINNED (spec/08_history_memory.md R284). -/
def Reg.HIS.PINNED : Nat := 0xC074
def Reg.HIS.PINNED_SEGMENTS : Fld := ⟨Reg.HIS.PINNED, 0, 17⟩

/-- HIS RB_SHARE (spec/08_history_memory.md R284). -/
def Reg.HIS.RB_SHARE : Nat := 0xC078
def Reg.HIS.RB_SHARE_MIN : Fld := ⟨Reg.HIS.RB_SHARE, 0, 4⟩

/-- HIS RB_START_LO (spec/08_history_memory.md R284). -/
def Reg.HIS.RB_START_LO : Nat := 0xC080
def Reg.HIS.RB_START_LO_FU : Fld := ⟨Reg.HIS.RB_START_LO, 0, 32⟩

/-- HIS RB_START_HI (spec/08_history_memory.md R284). -/
def Reg.HIS.RB_START_HI : Nat := 0xC084
def Reg.HIS.RB_START_HI_FU : Fld := ⟨Reg.HIS.RB_START_HI, 0, 32⟩

/-- HIS RB_END_LO (spec/08_history_memory.md R284). -/
def Reg.HIS.RB_END_LO : Nat := 0xC088
def Reg.HIS.RB_END_LO_FU : Fld := ⟨Reg.HIS.RB_END_LO, 0, 32⟩

/-- HIS RB_END_HI (spec/08_history_memory.md R284). -/
def Reg.HIS.RB_END_HI : Nat := 0xC08C
def Reg.HIS.RB_END_HI_FU : Fld := ⟨Reg.HIS.RB_END_HI, 0, 32⟩

/-- HIS RB_CTRL (spec/08_history_memory.md R284). -/
def Reg.HIS.RB_CTRL : Nat := 0xC090
def Reg.HIS.RB_CTRL_ROUTE : Fld := ⟨Reg.HIS.RB_CTRL, 0, 3⟩
def Reg.HIS.RB_CTRL_LANES : Fld := ⟨Reg.HIS.RB_CTRL, 3, 1⟩
def Reg.HIS.RB_CTRL_GO : Fld := ⟨Reg.HIS.RB_CTRL, 31, 1⟩

/-- HIS RB_STATUS (spec/08_history_memory.md R284). -/
def Reg.HIS.RB_STATUS : Nat := 0xC094
def Reg.HIS.RB_STATUS_BUSY : Fld := ⟨Reg.HIS.RB_STATUS, 0, 1⟩
def Reg.HIS.RB_STATUS_LAST : Fld := ⟨Reg.HIS.RB_STATUS, 8, 8⟩
def Reg.HIS.RB_STATUS_NUMBER : Fld := ⟨Reg.HIS.RB_STATUS, 16, 16⟩

/-- HIS CAP_CTRL (spec/08_history_memory.md R284). -/
def Reg.HIS.CAP_CTRL : Nat := 0xC0A0
def Reg.HIS.CAP_CTRL_TRIGGER : Fld := ⟨Reg.HIS.CAP_CTRL, 0, 24⟩
def Reg.HIS.CAP_CTRL_READ : Fld := ⟨Reg.HIS.CAP_CTRL, 30, 1⟩
def Reg.HIS.CAP_CTRL_RELEASE : Fld := ⟨Reg.HIS.CAP_CTRL, 31, 1⟩

/-- HIS UE_LINE (spec/08_history_memory.md R284). -/
def Reg.HIS.UE_LINE : Nat := 0xC0A4
def Reg.HIS.UE_LINE_LINE : Fld := ⟨Reg.HIS.UE_LINE, 0, 32⟩

/-- HIS CNT_DROP (spec/08_history_memory.md R284). -/
def Reg.HIS.CNT_DROP : Nat := 0xC100
def Reg.HIS.CNT_DROP_COUNT : Fld := ⟨Reg.HIS.CNT_DROP, 0, 32⟩

/-- HIS CNT_DROP_EVENTS (spec/08_history_memory.md R284). -/
def Reg.HIS.CNT_DROP_EVENTS : Nat := 0xC104
def Reg.HIS.CNT_DROP_EVENTS_COUNT : Fld := ⟨Reg.HIS.CNT_DROP_EVENTS, 0, 32⟩

/-- HIS CNT_CE (spec/08_history_memory.md R284). -/
def Reg.HIS.CNT_CE : Nat := 0xC108
def Reg.HIS.CNT_CE_COUNT : Fld := ⟨Reg.HIS.CNT_CE, 0, 32⟩

/-- HIS CNT_UE (spec/08_history_memory.md R284). -/
def Reg.HIS.CNT_UE : Nat := 0xC10C
def Reg.HIS.CNT_UE_COUNT : Fld := ⟨Reg.HIS.CNT_UE, 0, 32⟩

/-- HIS CNT_ADDR_ERR (spec/08_history_memory.md R284). -/
def Reg.HIS.CNT_ADDR_ERR : Nat := 0xC110
def Reg.HIS.CNT_ADDR_ERR_COUNT : Fld := ⟨Reg.HIS.CNT_ADDR_ERR, 0, 32⟩

/-- HIS CNT_RETRAIN (spec/08_history_memory.md R284). -/
def Reg.HIS.CNT_RETRAIN : Nat := 0xC114
def Reg.HIS.CNT_RETRAIN_COUNT : Fld := ⟨Reg.HIS.CNT_RETRAIN, 0, 32⟩

/-- HIS CNT_RB_DONE (spec/08_history_memory.md R284). -/
def Reg.HIS.CNT_RB_DONE : Nat := 0xC118
def Reg.HIS.CNT_RB_DONE_COUNT : Fld := ⟨Reg.HIS.CNT_RB_DONE, 0, 32⟩

/-- HIS CNT_RB_ABORT (spec/08_history_memory.md R284). -/
def Reg.HIS.CNT_RB_ABORT : Nat := 0xC11C
def Reg.HIS.CNT_RB_ABORT_COUNT : Fld := ⟨Reg.HIS.CNT_RB_ABORT, 0, 32⟩

/-- HIS CNT_SCRUB_PASSES (spec/08_history_memory.md R284). -/
def Reg.HIS.CNT_SCRUB_PASSES : Nat := 0xC120
def Reg.HIS.CNT_SCRUB_PASSES_COUNT : Fld := ⟨Reg.HIS.CNT_SCRUB_PASSES, 0, 32⟩

/-! ### The coder page -/

/-- Address of the page (R479). -/
def Reg.CDR.base : Nat := 0xD000

/-- CDR SUMMARY (spec/11_compression.md R383). -/
def Reg.CDR.SUMMARY : Nat := 0xD020
def Reg.CDR.SUMMARY_OPEN : Fld := ⟨Reg.CDR.SUMMARY, 0, 16⟩
def Reg.CDR.SUMMARY_STARVED : Fld := ⟨Reg.CDR.SUMMARY, 16, 16⟩

/-- CDR CTX_ADDR (spec/11_compression.md R383). -/
def Reg.CDR.CTX_ADDR : Nat := 0xD040
def Reg.CDR.CTX_ADDR_CTX : Fld := ⟨Reg.CDR.CTX_ADDR, 0, 4⟩
def Reg.CDR.CTX_ADDR_WORD : Fld := ⟨Reg.CDR.CTX_ADDR, 8, 2⟩
def Reg.CDR.CTX_ADDR_AUTOINC : Fld := ⟨Reg.CDR.CTX_ADDR, 30, 1⟩

/-- CDR CTX_DATA (spec/11_compression.md R383). -/
def Reg.CDR.CTX_DATA : Nat := 0xD044
def Reg.CDR.CTX_DATA_DATA : Fld := ⟨Reg.CDR.CTX_DATA, 0, 32⟩

/-- CDR CTX_CMD (spec/11_compression.md R383). -/
def Reg.CDR.CTX_CMD : Nat := 0xD048
def Reg.CDR.CTX_CMD_RESET : Fld := ⟨Reg.CDR.CTX_CMD, 0, 16⟩

/-- CDR LB_CTRL (spec/11_compression.md R383). -/
def Reg.CDR.LB_CTRL : Nat := 0xD050
def Reg.CDR.LB_CTRL_CTX : Fld := ⟨Reg.CDR.LB_CTRL, 0, 4⟩
def Reg.CDR.LB_CTRL_FLUSH : Fld := ⟨Reg.CDR.LB_CTRL, 8, 1⟩

/-- CDR LB_IN_LO (spec/11_compression.md R383). -/
def Reg.CDR.LB_IN_LO : Nat := 0xD054
def Reg.CDR.LB_IN_LO_DATA : Fld := ⟨Reg.CDR.LB_IN_LO, 0, 32⟩

/-- CDR LB_IN_HI (spec/11_compression.md R383). -/
def Reg.CDR.LB_IN_HI : Nat := 0xD058
def Reg.CDR.LB_IN_HI_DATA : Fld := ⟨Reg.CDR.LB_IN_HI, 0, 32⟩

/-- CDR LB_POP (spec/11_compression.md R383). -/
def Reg.CDR.LB_POP : Nat := 0xD05C
def Reg.CDR.LB_POP_LEVEL : Fld := ⟨Reg.CDR.LB_POP, 0, 7⟩
def Reg.CDR.LB_POP_VALID : Fld := ⟨Reg.CDR.LB_POP, 31, 1⟩

/-- CDR LB_WORD_LO (spec/11_compression.md R383). -/
def Reg.CDR.LB_WORD_LO : Nat := 0xD060
def Reg.CDR.LB_WORD_LO_DATA : Fld := ⟨Reg.CDR.LB_WORD_LO, 0, 32⟩

/-- CDR LB_WORD_HI (spec/11_compression.md R383). -/
def Reg.CDR.LB_WORD_HI : Nat := 0xD064
def Reg.CDR.LB_WORD_HI_DATA : Fld := ⟨Reg.CDR.LB_WORD_HI, 0, 32⟩

/-- CDR LB_STATUS (spec/11_compression.md R383). -/
def Reg.CDR.LB_STATUS : Nat := 0xD068
def Reg.CDR.LB_STATUS_IN_LEVEL : Fld := ⟨Reg.CDR.LB_STATUS, 0, 7⟩
def Reg.CDR.LB_STATUS_OUT_LEVEL : Fld := ⟨Reg.CDR.LB_STATUS, 8, 7⟩
def Reg.CDR.LB_STATUS_OVERRUN : Fld := ⟨Reg.CDR.LB_STATUS, 16, 1⟩

/-- CDR STREAM_CTRL (spec/11_compression.md R383). -/
def Reg.CDR.STREAM_CTRL (i : Nat) : Nat := 0xD100 + 0x10 * i
def Reg.CDR.STREAM_CTRL_EN (i : Nat) : Fld := ⟨(Reg.CDR.STREAM_CTRL i), 0, 1⟩
def Reg.CDR.STREAM_CTRL_FRAME_RESET (i : Nat) : Fld := ⟨(Reg.CDR.STREAM_CTRL i), 1, 1⟩
def Reg.CDR.STREAM_CTRL_BLOCK_WORDS (i : Nat) : Fld := ⟨(Reg.CDR.STREAM_CTRL i), 8, 9⟩
def Reg.CDR.STREAM_CTRL_MAX_WAIT (i : Nat) : Fld := ⟨(Reg.CDR.STREAM_CTRL i), 24, 8⟩

/-- CDR STREAM_STATUS (spec/11_compression.md R383). -/
def Reg.CDR.STREAM_STATUS (i : Nat) : Nat := 0xD104 + 0x10 * i
def Reg.CDR.STREAM_STATUS_OPEN (i : Nat) : Fld := ⟨(Reg.CDR.STREAM_STATUS i), 0, 1⟩
def Reg.CDR.STREAM_STATUS_EMITTING (i : Nat) : Fld := ⟨(Reg.CDR.STREAM_STATUS i), 1, 1⟩
def Reg.CDR.STREAM_STATUS_STARVED (i : Nat) : Fld := ⟨(Reg.CDR.STREAM_STATUS i), 2, 1⟩
def Reg.CDR.STREAM_STATUS_EN_PENDING (i : Nat) : Fld := ⟨(Reg.CDR.STREAM_STATUS i), 3, 1⟩
def Reg.CDR.STREAM_STATUS_SEQ (i : Nat) : Fld := ⟨(Reg.CDR.STREAM_STATUS i), 16, 16⟩

/-- CDR CNT_IN (spec/11_compression.md R383). -/
def Reg.CDR.CNT_IN (i : Nat) : Nat := 0xD108 + 0x10 * i
def Reg.CDR.CNT_IN_COUNT (i : Nat) : Fld := ⟨(Reg.CDR.CNT_IN i), 0, 32⟩

/-- CDR CNT_OUT (spec/11_compression.md R383). -/
def Reg.CDR.CNT_OUT (i : Nat) : Nat := 0xD10C + 0x10 * i
def Reg.CDR.CNT_OUT_COUNT (i : Nat) : Fld := ⟨(Reg.CDR.CNT_OUT i), 0, 32⟩

/-- CDR CNT_BLOCKS (spec/11_compression.md R383). -/
def Reg.CDR.CNT_BLOCKS : Nat := 0xD300
def Reg.CDR.CNT_BLOCKS_COUNT : Fld := ⟨Reg.CDR.CNT_BLOCKS, 0, 32⟩

/-- CDR CNT_RAW (spec/11_compression.md R383). -/
def Reg.CDR.CNT_RAW : Nat := 0xD304
def Reg.CDR.CNT_RAW_COUNT : Fld := ⟨Reg.CDR.CNT_RAW, 0, 32⟩

/-- CDR CNT_STARVED (spec/11_compression.md R383). -/
def Reg.CDR.CNT_STARVED : Nat := 0xD308
def Reg.CDR.CNT_STARVED_COUNT : Fld := ⟨Reg.CDR.CNT_STARVED, 0, 32⟩

/-- CDR CNT_CE (spec/11_compression.md R383). -/
def Reg.CDR.CNT_CE : Nat := 0xD30C
def Reg.CDR.CNT_CE_COUNT : Fld := ⟨Reg.CDR.CNT_CE, 0, 32⟩

/-- CDR CNT_UE (spec/11_compression.md R383). -/
def Reg.CDR.CNT_UE : Nat := 0xD310
def Reg.CDR.CNT_UE_COUNT : Fld := ⟨Reg.CDR.CNT_UE, 0, 32⟩

/-- CDR CNT_FR_RECORDS (spec/11_compression.md R383). -/
def Reg.CDR.CNT_FR_RECORDS : Nat := 0xD314
def Reg.CDR.CNT_FR_RECORDS_COUNT : Fld := ⟨Reg.CDR.CNT_FR_RECORDS, 0, 32⟩

/-- CDR CNT_FR_LOSSY (spec/11_compression.md R383). -/
def Reg.CDR.CNT_FR_LOSSY : Nat := 0xD318
def Reg.CDR.CNT_FR_LOSSY_COUNT : Fld := ⟨Reg.CDR.CNT_FR_LOSSY, 0, 32⟩

/-- CDR CNT_FR_BYPASS (spec/11_compression.md R383). -/
def Reg.CDR.CNT_FR_BYPASS : Nat := 0xD31C
def Reg.CDR.CNT_FR_BYPASS_COUNT : Fld := ⟨Reg.CDR.CNT_FR_BYPASS, 0, 32⟩

/-- CDR CNT_ABORT (spec/11_compression.md R383). -/
def Reg.CDR.CNT_ABORT : Nat := 0xD320
def Reg.CDR.CNT_ABORT_COUNT : Fld := ⟨Reg.CDR.CNT_ABORT, 0, 32⟩

/-! ### The statistics engine page -/

/-- Address of the page (R479). -/
def Reg.STA0.base : Nat := 0xE000

/-- STA0 CFG (spec/10_statistics_services.md R357). -/
def Reg.STA0.CFG : Nat := 0xE040
def Reg.STA0.CFG_SOURCE : Fld := ⟨Reg.STA0.CFG, 0, 3⟩
def Reg.STA0.CFG_KEY : Fld := ⟨Reg.STA0.CFG, 4, 2⟩
def Reg.STA0.CFG_HIST : Fld := ⟨Reg.STA0.CFG, 8, 1⟩

/-- STA0 BASE (spec/10_statistics_services.md R357). -/
def Reg.STA0.BASE : Nat := 0xE044
def Reg.STA0.BASE_INDEX : Fld := ⟨Reg.STA0.BASE, 0, 19⟩

/-- STA0 STRIDE (spec/10_statistics_services.md R357). -/
def Reg.STA0.STRIDE : Nat := 0xE048
def Reg.STA0.STRIDE_STRIDE : Fld := ⟨Reg.STA0.STRIDE, 0, 17⟩

/-- STA0 N (spec/10_statistics_services.md R357). -/
def Reg.STA0.N : Nat := 0xE04C
def Reg.STA0.N_N : Fld := ⟨Reg.STA0.N, 0, 16⟩

/-- STA0 REF (spec/10_statistics_services.md R357). -/
def Reg.STA0.REF : Nat := 0xE050
def Reg.STA0.REF_WIN : Fld := ⟨Reg.STA0.REF, 0, 16⟩

/-- STA0 FILTER (spec/10_statistics_services.md R357). -/
def Reg.STA0.FILTER : Nat := 0xE054
def Reg.STA0.FILTER_REJECT : Fld := ⟨Reg.STA0.FILTER, 0, 6⟩
def Reg.STA0.FILTER_GRANTED_ONLY : Fld := ⟨Reg.STA0.FILTER, 8, 1⟩

/-- STA0 CTRL (spec/10_statistics_services.md R357). -/
def Reg.STA0.CTRL : Nat := 0xE058
def Reg.STA0.CTRL_START : Fld := ⟨Reg.STA0.CTRL, 0, 1⟩
def Reg.STA0.CTRL_STOP : Fld := ⟨Reg.STA0.CTRL, 1, 1⟩

/-- STA0 STATUS (spec/10_statistics_services.md R357). -/
def Reg.STA0.STATUS : Nat := 0xE05C
def Reg.STA0.STATUS_STATE : Fld := ⟨Reg.STA0.STATUS, 0, 2⟩
def Reg.STA0.STATUS_OVR : Fld := ⟨Reg.STA0.STATUS, 2, 1⟩
def Reg.STA0.STATUS_AT_N : Fld := ⟨Reg.STA0.STATUS, 16, 13⟩

/-- STA0 CELL_ADDR (spec/10_statistics_services.md R357). -/
def Reg.STA0.CELL_ADDR : Nat := 0xE060
def Reg.STA0.CELL_ADDR_CELL : Fld := ⟨Reg.STA0.CELL_ADDR, 0, 12⟩
def Reg.STA0.CELL_ADDR_AUTOINC : Fld := ⟨Reg.STA0.CELL_ADDR, 30, 1⟩

/-- STA0 CELL_DATA0 (spec/10_statistics_services.md R357). -/
def Reg.STA0.CELL_DATA0 : Nat := 0xE064
def Reg.STA0.CELL_DATA0_COUNT : Fld := ⟨Reg.STA0.CELL_DATA0, 0, 17⟩

/-- STA0 CELL_DATA1 (spec/10_statistics_services.md R357). -/
def Reg.STA0.CELL_DATA1 : Nat := 0xE068
def Reg.STA0.CELL_DATA1_MEAN : Fld := ⟨Reg.STA0.CELL_DATA1, 0, 32⟩

/-- STA0 CELL_DATA2 (spec/10_statistics_services.md R357). -/
def Reg.STA0.CELL_DATA2 : Nat := 0xE06C
def Reg.STA0.CELL_DATA2_SD : Fld := ⟨Reg.STA0.CELL_DATA2, 0, 32⟩

/-- STA0 CELL_DATA3 (spec/10_statistics_services.md R357). -/
def Reg.STA0.CELL_DATA3 : Nat := 0xE070
def Reg.STA0.CELL_DATA3_MIN : Fld := ⟨Reg.STA0.CELL_DATA3, 0, 24⟩

/-- STA0 CELL_DATA4 (spec/10_statistics_services.md R357). -/
def Reg.STA0.CELL_DATA4 : Nat := 0xE074
def Reg.STA0.CELL_DATA4_MAX : Fld := ⟨Reg.STA0.CELL_DATA4, 0, 24⟩

/-- STA0 PUSH_CELL (spec/10_statistics_services.md R357). -/
def Reg.STA0.PUSH_CELL : Nat := 0xE078
def Reg.STA0.PUSH_CELL_CELL : Fld := ⟨Reg.STA0.PUSH_CELL, 0, 12⟩

/-- STA0 PUSH_VALUE (spec/10_statistics_services.md R357). -/
def Reg.STA0.PUSH_VALUE : Nat := 0xE07C
def Reg.STA0.PUSH_VALUE_VALUE : Fld := ⟨Reg.STA0.PUSH_VALUE, 0, 24⟩

/-- STA0 HIST_ADDR (spec/10_statistics_services.md R357). -/
def Reg.STA0.HIST_ADDR : Nat := 0xE080
def Reg.STA0.HIST_ADDR_BIN : Fld := ⟨Reg.STA0.HIST_ADDR, 0, 20⟩
def Reg.STA0.HIST_ADDR_AUTOINC : Fld := ⟨Reg.STA0.HIST_ADDR, 30, 1⟩

/-- STA0 HIST_DATA (spec/10_statistics_services.md R357). -/
def Reg.STA0.HIST_DATA : Nat := 0xE084
def Reg.STA0.HIST_DATA_COUNT : Fld := ⟨Reg.STA0.HIST_DATA, 0, 16⟩

/-- STA0 CNT_ACCEPTED (spec/10_statistics_services.md R357). -/
def Reg.STA0.CNT_ACCEPTED : Nat := 0xE100
def Reg.STA0.CNT_ACCEPTED_COUNT : Fld := ⟨Reg.STA0.CNT_ACCEPTED, 0, 32⟩

/-- STA0 CNT_IGNORED (spec/10_statistics_services.md R357). -/
def Reg.STA0.CNT_IGNORED : Nat := 0xE104
def Reg.STA0.CNT_IGNORED_COUNT : Fld := ⟨Reg.STA0.CNT_IGNORED, 0, 32⟩

/-- STA0 CNT_OVERRUN (spec/10_statistics_services.md R357). -/
def Reg.STA0.CNT_OVERRUN : Nat := 0xE108
def Reg.STA0.CNT_OVERRUN_COUNT : Fld := ⟨Reg.STA0.CNT_OVERRUN, 0, 32⟩

/-! ### The service page -/

/-- Address of the page (R479). -/
def Reg.STA1.base : Nat := 0xF000

/-- STA1 SVC_CTRL (spec/10_statistics_services.md R358). -/
def Reg.STA1.SVC_CTRL : Nat := 0xF040
def Reg.STA1.SVC_CTRL_SEQ : Fld := ⟨Reg.STA1.SVC_CTRL, 0, 4⟩
def Reg.STA1.SVC_CTRL_START : Fld := ⟨Reg.STA1.SVC_CTRL, 8, 1⟩

/-- STA1 SVC_STATUS (spec/10_statistics_services.md R358). -/
def Reg.STA1.SVC_STATUS : Nat := 0xF044
def Reg.STA1.SVC_STATUS_STATE : Fld := ⟨Reg.STA1.SVC_STATUS, 0, 2⟩
def Reg.STA1.SVC_STATUS_SEQ : Fld := ⟨Reg.STA1.SVC_STATUS, 4, 4⟩
def Reg.STA1.SVC_STATUS_CODE : Fld := ⟨Reg.STA1.SVC_STATUS, 8, 4⟩
def Reg.STA1.SVC_STATUS_SEAL_HOLD : Fld := ⟨Reg.STA1.SVC_STATUS, 12, 1⟩
def Reg.STA1.SVC_STATUS_STEP : Fld := ⟨Reg.STA1.SVC_STATUS, 16, 10⟩

/-- STA1 SVC_PENDING (spec/10_statistics_services.md R358). -/
def Reg.STA1.SVC_PENDING : Nat := 0xF048
def Reg.STA1.SVC_PENDING_SEQ : Fld := ⟨Reg.STA1.SVC_PENDING, 0, 16⟩

/-- STA1 SVC_USER (spec/10_statistics_services.md R358). -/
def Reg.STA1.SVC_USER : Nat := 0xF04C
def Reg.STA1.SVC_USER_USER_CODE : Fld := ⟨Reg.STA1.SVC_USER, 0, 8⟩

/-- STA1 SEQ_BASE (spec/10_statistics_services.md R358). -/
def Reg.STA1.SEQ_BASE : Nat := 0xF050
def Reg.STA1.SEQ_BASE_WORD : Fld := ⟨Reg.STA1.SEQ_BASE, 0, 11⟩
def Reg.STA1.SEQ_BASE_AUTOINC : Fld := ⟨Reg.STA1.SEQ_BASE, 30, 1⟩

/-- STA1 SEQ_DATA_LO (spec/10_statistics_services.md R358). -/
def Reg.STA1.SEQ_DATA_LO : Nat := 0xF054
def Reg.STA1.SEQ_DATA_LO_DATA : Fld := ⟨Reg.STA1.SEQ_DATA_LO, 0, 32⟩

/-- STA1 SEQ_DATA_HI (spec/10_statistics_services.md R358). -/
def Reg.STA1.SEQ_DATA_HI : Nat := 0xF058
def Reg.STA1.SEQ_DATA_HI_DATA : Fld := ⟨Reg.STA1.SEQ_DATA_HI, 0, 32⟩

/-- STA1 SEQ_CTRL (spec/10_statistics_services.md R358). -/
def Reg.STA1.SEQ_CTRL : Nat := 0xF05C
def Reg.STA1.SEQ_CTRL_COMMIT : Fld := ⟨Reg.STA1.SEQ_CTRL, 0, 1⟩
def Reg.STA1.SEQ_CTRL_REJECTED : Fld := ⟨Reg.STA1.SEQ_CTRL, 8, 1⟩

/-- STA1 CAL_TEMP (spec/10_statistics_services.md R358). -/
def Reg.STA1.CAL_TEMP (i : Nat) : Nat := 0xF060 + 0x4 * i
def Reg.STA1.CAL_TEMP_TEMP (i : Nat) : Fld := ⟨(Reg.STA1.CAL_TEMP i), 0, 8⟩
def Reg.STA1.CAL_TEMP_VALID (i : Nat) : Fld := ⟨(Reg.STA1.CAL_TEMP i), 8, 1⟩

/-- STA1 DIE_RESULT (spec/10_statistics_services.md R358). -/
def Reg.STA1.DIE_RESULT (i : Nat) : Nat := 0xF070 + 0x4 * i
def Reg.STA1.DIE_RESULT_FAILED (i : Nat) : Fld := ⟨(Reg.STA1.DIE_RESULT i), 0, 14⟩
def Reg.STA1.DIE_RESULT_MAXDEV (i : Nat) : Fld := ⟨(Reg.STA1.DIE_RESULT i), 16, 16⟩

/-- STA1 THEQ_TRIMMED (spec/10_statistics_services.md R358). -/
def Reg.STA1.THEQ_TRIMMED (i : Nat) : Nat := 0xF080 + 0x10 * i
def Reg.STA1.THEQ_TRIMMED_COUNT (i : Nat) : Fld := ⟨(Reg.STA1.THEQ_TRIMMED i), 0, 18⟩

/-- STA1 THEQ_RANGE (spec/10_statistics_services.md R358). -/
def Reg.STA1.THEQ_RANGE (i : Nat) : Nat := 0xF084 + 0x10 * i
def Reg.STA1.THEQ_RANGE_COUNT (i : Nat) : Fld := ⟨(Reg.STA1.THEQ_RANGE i), 0, 18⟩

/-- STA1 THEQ_NOISY (spec/10_statistics_services.md R358). -/
def Reg.STA1.THEQ_NOISY (i : Nat) : Nat := 0xF088 + 0x10 * i
def Reg.STA1.THEQ_NOISY_COUNT (i : Nat) : Fld := ⟨(Reg.STA1.THEQ_NOISY i), 0, 18⟩

/-- STA1 THEQ_SKIPPED (spec/10_statistics_services.md R358). -/
def Reg.STA1.THEQ_SKIPPED (i : Nat) : Nat := 0xF08C + 0x10 * i
def Reg.STA1.THEQ_SKIPPED_COUNT (i : Nat) : Fld := ⟨(Reg.STA1.THEQ_SKIPPED i), 0, 18⟩

/-! ### The DSP core pages -/

/-- Address of the page (R479). -/
def Reg.DSP.base (c : Nat) : Nat := (0x10000 + 0x1000 * c)

/-- DSP SUMMARY (spec/09_dsp_cores.md R333). -/
def Reg.DSP.SUMMARY (c : Nat) : Nat := Reg.DSP.base c + 0x20
def Reg.DSP.SUMMARY_STATE (c : Nat) : Fld := ⟨(Reg.DSP.SUMMARY c), 0, 3⟩

/-- DSP CTRL (spec/09_dsp_cores.md R333). -/
def Reg.DSP.CTRL (c : Nat) : Nat := Reg.DSP.base c + 0x40
def Reg.DSP.CTRL_RUN (c : Nat) : Fld := ⟨(Reg.DSP.CTRL c), 0, 1⟩
def Reg.DSP.CTRL_STEP (c : Nat) : Fld := ⟨(Reg.DSP.CTRL c), 1, 1⟩
def Reg.DSP.CTRL_RESET_PC (c : Nat) : Fld := ⟨(Reg.DSP.CTRL c), 2, 1⟩
def Reg.DSP.CTRL_BRK_EN (c : Nat) : Fld := ⟨(Reg.DSP.CTRL c), 3, 1⟩
def Reg.DSP.CTRL_CLAIMED (c : Nat) : Fld := ⟨(Reg.DSP.CTRL c), 8, 1⟩

/-- DSP STATUS (spec/09_dsp_cores.md R333). -/
def Reg.DSP.STATUS (c : Nat) : Nat := Reg.DSP.base c + 0x44
def Reg.DSP.STATUS_STATE (c : Nat) : Fld := ⟨(Reg.DSP.STATUS c), 0, 3⟩
def Reg.DSP.STATUS_CAUSE (c : Nat) : Fld := ⟨(Reg.DSP.STATUS c), 8, 4⟩

/-- DSP PC (spec/09_dsp_cores.md R333). -/
def Reg.DSP.PC (c : Nat) : Nat := Reg.DSP.base c + 0x48
def Reg.DSP.PC_PC (c : Nat) : Fld := ⟨(Reg.DSP.PC c), 0, 14⟩

/-- DSP BRK (spec/09_dsp_cores.md R333). -/
def Reg.DSP.BRK (c : Nat) : Nat := Reg.DSP.base c + 0x4C
def Reg.DSP.BRK_ADDR (c : Nat) : Fld := ⟨(Reg.DSP.BRK c), 0, 14⟩

/-- DSP REG_ADDR (spec/09_dsp_cores.md R333). -/
def Reg.DSP.REG_ADDR (c : Nat) : Nat := Reg.DSP.base c + 0x50
def Reg.DSP.REG_ADDR_CODE (c : Nat) : Fld := ⟨(Reg.DSP.REG_ADDR c), 0, 6⟩

/-- DSP REG_DATA (spec/09_dsp_cores.md R333). -/
def Reg.DSP.REG_DATA (c : Nat) : Nat := Reg.DSP.base c + 0x54
def Reg.DSP.REG_DATA_DATA (c : Nat) : Fld := ⟨(Reg.DSP.REG_DATA c), 0, 24⟩

/-- DSP SR (spec/09_dsp_cores.md R333). -/
def Reg.DSP.SR (c : Nat) : Nat := Reg.DSP.base c + 0x58
def Reg.DSP.SR_SR (c : Nat) : Fld := ⟨(Reg.DSP.SR c), 0, 12⟩

/-- DSP SPC (spec/09_dsp_cores.md R333). -/
def Reg.DSP.SPC (c : Nat) : Nat := Reg.DSP.base c + 0x5C
def Reg.DSP.SPC_SPC (c : Nat) : Fld := ⟨(Reg.DSP.SPC c), 0, 14⟩

/-- DSP SRC (spec/09_dsp_cores.md R333). -/
def Reg.DSP.SRC (c i : Nat) : Nat := Reg.DSP.base c + 0x60 + 0x4 * i
def Reg.DSP.SRC_ADC (c i : Nat) : Fld := ⟨(Reg.DSP.SRC c i), 0, 5⟩
def Reg.DSP.SRC_EN (c i : Nat) : Fld := ⟨(Reg.DSP.SRC c i), 8, 1⟩

/-- DSP RES_DATA (spec/09_dsp_cores.md R333). -/
def Reg.DSP.RES_DATA (c : Nat) : Nat := Reg.DSP.base c + 0x80
def Reg.DSP.RES_DATA_VALID (c : Nat) : Fld := ⟨(Reg.DSP.RES_DATA c), 31, 1⟩
def Reg.DSP.RES_DATA_TAG (c : Nat) : Fld := ⟨(Reg.DSP.RES_DATA c), 24, 7⟩
def Reg.DSP.RES_DATA_DATA (c : Nat) : Fld := ⟨(Reg.DSP.RES_DATA c), 0, 24⟩

/-- DSP RES_LEVEL (spec/09_dsp_cores.md R333). -/
def Reg.DSP.RES_LEVEL (c : Nat) : Nat := Reg.DSP.base c + 0x84
def Reg.DSP.RES_LEVEL_COUNT (c : Nat) : Fld := ⟨(Reg.DSP.RES_LEVEL c), 0, 9⟩

/-- DSP MBX_DATA (spec/09_dsp_cores.md R333). -/
def Reg.DSP.MBX_DATA (c : Nat) : Nat := Reg.DSP.base c + 0x88
def Reg.DSP.MBX_DATA_DATA (c : Nat) : Fld := ⟨(Reg.DSP.MBX_DATA c), 0, 24⟩

/-- DSP MBX_LEVEL (spec/09_dsp_cores.md R333). -/
def Reg.DSP.MBX_LEVEL (c : Nat) : Nat := Reg.DSP.base c + 0x8C
def Reg.DSP.MBX_LEVEL_COUNT (c : Nat) : Fld := ⟨(Reg.DSP.MBX_LEVEL c), 0, 9⟩

/-- DSP TRIG_MASK (spec/09_dsp_cores.md R333). -/
def Reg.DSP.TRIG_MASK (c : Nat) : Nat := Reg.DSP.base c + 0x90
def Reg.DSP.TRIG_MASK_LINES (c : Nat) : Fld := ⟨(Reg.DSP.TRIG_MASK c), 0, 16⟩

/-- DSP CNT_RUN (spec/09_dsp_cores.md R333). -/
def Reg.DSP.CNT_RUN (c : Nat) : Nat := Reg.DSP.base c + 0x100
def Reg.DSP.CNT_RUN_COUNT (c : Nat) : Fld := ⟨(Reg.DSP.CNT_RUN c), 0, 32⟩

/-- DSP CNT_WAIT (spec/09_dsp_cores.md R333). -/
def Reg.DSP.CNT_WAIT (c : Nat) : Nat := Reg.DSP.base c + 0x104
def Reg.DSP.CNT_WAIT_COUNT (c : Nat) : Fld := ⟨(Reg.DSP.CNT_WAIT c), 0, 32⟩

/-- DSP CNT_BANK_STALL (spec/09_dsp_cores.md R333). -/
def Reg.DSP.CNT_BANK_STALL (c : Nat) : Nat := Reg.DSP.base c + 0x108
def Reg.DSP.CNT_BANK_STALL_COUNT (c : Nat) : Fld := ⟨(Reg.DSP.CNT_BANK_STALL c), 0, 32⟩

/-- DSP CNT_HOST_STALL (spec/09_dsp_cores.md R333). -/
def Reg.DSP.CNT_HOST_STALL (c : Nat) : Nat := Reg.DSP.base c + 0x10C
def Reg.DSP.CNT_HOST_STALL_COUNT (c : Nat) : Fld := ⟨(Reg.DSP.CNT_HOST_STALL c), 0, 32⟩

/-- DSP CNT_FAB_STALL (spec/09_dsp_cores.md R333). -/
def Reg.DSP.CNT_FAB_STALL (c : Nat) : Nat := Reg.DSP.base c + 0x110
def Reg.DSP.CNT_FAB_STALL_COUNT (c : Nat) : Fld := ⟨(Reg.DSP.CNT_FAB_STALL c), 0, 32⟩

/-- DSP CNT_TRIG (spec/09_dsp_cores.md R333). -/
def Reg.DSP.CNT_TRIG (c : Nat) : Nat := Reg.DSP.base c + 0x114
def Reg.DSP.CNT_TRIG_COUNT (c : Nat) : Fld := ⟨(Reg.DSP.CNT_TRIG c), 0, 32⟩

/-- DSP CNT_TRIG_LOST (spec/09_dsp_cores.md R333). -/
def Reg.DSP.CNT_TRIG_LOST (c : Nat) : Nat := Reg.DSP.base c + 0x118
def Reg.DSP.CNT_TRIG_LOST_COUNT (c : Nat) : Fld := ⟨(Reg.DSP.CNT_TRIG_LOST c), 0, 32⟩

/-- DSP CNT_WREC (spec/09_dsp_cores.md R333). -/
def Reg.DSP.CNT_WREC (c : Nat) : Nat := Reg.DSP.base c + 0x11C
def Reg.DSP.CNT_WREC_COUNT (c : Nat) : Fld := ⟨(Reg.DSP.CNT_WREC c), 0, 32⟩

/-- DSP CNT_WREC_FAIL (spec/09_dsp_cores.md R333). -/
def Reg.DSP.CNT_WREC_FAIL (c : Nat) : Nat := Reg.DSP.base c + 0x120
def Reg.DSP.CNT_WREC_FAIL_COUNT (c : Nat) : Fld := ⟨(Reg.DSP.CNT_WREC_FAIL c), 0, 32⟩

/-- DSP CNT_MEM_CE (spec/09_dsp_cores.md R333). -/
def Reg.DSP.CNT_MEM_CE (c : Nat) : Nat := Reg.DSP.base c + 0x124
def Reg.DSP.CNT_MEM_CE_COUNT (c : Nat) : Fld := ⟨(Reg.DSP.CNT_MEM_CE c), 0, 32⟩

/-- DSP CNT_ABORT (spec/09_dsp_cores.md R333). -/
def Reg.DSP.CNT_ABORT (c : Nat) : Nat := Reg.DSP.base c + 0x128
def Reg.DSP.CNT_ABORT_COUNT (c : Nat) : Fld := ⟨(Reg.DSP.CNT_ABORT c), 0, 32⟩

/-! ### The lane page -/

/-- Address of the page (R479). -/
def Reg.LNK.base : Nat := 0x18000

/-- LNK SUMMARY (spec/12_serial_lanes.md R423). -/
def Reg.LNK.SUMMARY : Nat := 0x18020
def Reg.LNK.SUMMARY_ACTIVE : Fld := ⟨Reg.LNK.SUMMARY, 0, 10⟩
def Reg.LNK.SUMMARY_TX_BUNDLE_UP : Fld := ⟨Reg.LNK.SUMMARY, 16, 1⟩
def Reg.LNK.SUMMARY_RX_BUNDLE_UP : Fld := ⟨Reg.LNK.SUMMARY, 17, 1⟩
def Reg.LNK.SUMMARY_EQ_LOADED : Fld := ⟨Reg.LNK.SUMMARY, 18, 1⟩

/-- LNK CTRL (spec/12_serial_lanes.md R423). -/
def Reg.LNK.CTRL : Nat := 0x18040
def Reg.LNK.CTRL_ACK_EN : Fld := ⟨Reg.LNK.CTRL, 0, 1⟩

/-- LNK RETAIN (spec/12_serial_lanes.md R423). -/
def Reg.LNK.RETAIN : Nat := 0x18044
def Reg.LNK.RETAIN_KIB : Fld := ⟨Reg.LNK.RETAIN, 0, 13⟩
def Reg.LNK.RETAIN_US : Fld := ⟨Reg.LNK.RETAIN, 16, 16⟩

/-- LNK ACK_TIMEOUT (spec/12_serial_lanes.md R423). -/
def Reg.LNK.ACK_TIMEOUT : Nat := 0x18048
def Reg.LNK.ACK_TIMEOUT_US : Fld := ⟨Reg.LNK.ACK_TIMEOUT, 0, 16⟩

/-- LNK BUNDLE_STATUS (spec/12_serial_lanes.md R423). -/
def Reg.LNK.BUNDLE_STATUS : Nat := 0x1804C
def Reg.LNK.BUNDLE_STATUS_TX_SET : Fld := ⟨Reg.LNK.BUNDLE_STATUS, 0, 8⟩
def Reg.LNK.BUNDLE_STATUS_RX_SET : Fld := ⟨Reg.LNK.BUNDLE_STATUS, 8, 2⟩
def Reg.LNK.BUNDLE_STATUS_RESTRIPING : Fld := ⟨Reg.LNK.BUNDLE_STATUS, 16, 1⟩

/-- LNK UNACKED (spec/12_serial_lanes.md R423). -/
def Reg.LNK.UNACKED : Nat := 0x18050
def Reg.LNK.UNACKED_KIB : Fld := ⟨Reg.LNK.UNACKED, 0, 13⟩

/-- LNK EQ_ADDR (spec/12_serial_lanes.md R423). -/
def Reg.LNK.EQ_ADDR : Nat := 0x18060
def Reg.LNK.EQ_ADDR_WORD : Fld := ⟨Reg.LNK.EQ_ADDR, 0, 5⟩
def Reg.LNK.EQ_ADDR_AUTOINC : Fld := ⟨Reg.LNK.EQ_ADDR, 30, 1⟩

/-- LNK EQ_DATA_LO (spec/12_serial_lanes.md R423). -/
def Reg.LNK.EQ_DATA_LO : Nat := 0x18064
def Reg.LNK.EQ_DATA_LO_DATA : Fld := ⟨Reg.LNK.EQ_DATA_LO, 0, 32⟩

/-- LNK EQ_DATA_HI (spec/12_serial_lanes.md R423). -/
def Reg.LNK.EQ_DATA_HI : Nat := 0x18068
def Reg.LNK.EQ_DATA_HI_DATA : Fld := ⟨Reg.LNK.EQ_DATA_HI, 0, 32⟩

/-- LNK EQ_CTRL (spec/12_serial_lanes.md R423). -/
def Reg.LNK.EQ_CTRL : Nat := 0x1806C
def Reg.LNK.EQ_CTRL_COMMIT : Fld := ⟨Reg.LNK.EQ_CTRL, 0, 1⟩
def Reg.LNK.EQ_CTRL_SAVE : Fld := ⟨Reg.LNK.EQ_CTRL, 1, 1⟩
def Reg.LNK.EQ_CTRL_REJECTED : Fld := ⟨Reg.LNK.EQ_CTRL, 8, 1⟩
def Reg.LNK.EQ_CTRL_SAVE_BUSY : Fld := ⟨Reg.LNK.EQ_CTRL, 10, 1⟩

/-- LNK CNT_RESTRIPE (spec/12_serial_lanes.md R423). -/
def Reg.LNK.CNT_RESTRIPE : Nat := 0x18100
def Reg.LNK.CNT_RESTRIPE_COUNT : Fld := ⟨Reg.LNK.CNT_RESTRIPE, 0, 32⟩

/-- LNK CNT_ACK_TIMEOUT (spec/12_serial_lanes.md R423). -/
def Reg.LNK.CNT_ACK_TIMEOUT : Nat := 0x18104
def Reg.LNK.CNT_ACK_TIMEOUT_COUNT : Fld := ⟨Reg.LNK.CNT_ACK_TIMEOUT, 0, 32⟩

/-- LNK CNT_BUNDLE_DOWN (spec/12_serial_lanes.md R423). -/
def Reg.LNK.CNT_BUNDLE_DOWN : Nat := 0x18108
def Reg.LNK.CNT_BUNDLE_DOWN_COUNT : Fld := ⟨Reg.LNK.CNT_BUNDLE_DOWN, 0, 32⟩

/-- LNK CNT_RESENT (spec/12_serial_lanes.md R423). -/
def Reg.LNK.CNT_RESENT : Nat := 0x1810C
def Reg.LNK.CNT_RESENT_KIB : Fld := ⟨Reg.LNK.CNT_RESENT, 0, 32⟩

/-- LNK CNT_ABORT (spec/12_serial_lanes.md R423). -/
def Reg.LNK.CNT_ABORT : Nat := 0x18110
def Reg.LNK.CNT_ABORT_COUNT : Fld := ⟨Reg.LNK.CNT_ABORT, 0, 32⟩

/-- LNK LANE_CTRL (spec/12_serial_lanes.md R424). -/
def Reg.LNK.LANE_CTRL (i : Nat) : Nat := 0x18200 + 0x40 * i
def Reg.LNK.LANE_CTRL_EN (i : Nat) : Fld := ⟨(Reg.LNK.LANE_CTRL i), 0, 1⟩
def Reg.LNK.LANE_CTRL_RATE (i : Nat) : Fld := ⟨(Reg.LNK.LANE_CTRL i), 1, 2⟩
def Reg.LNK.LANE_CTRL_PRECODE (i : Nat) : Fld := ⟨(Reg.LNK.LANE_CTRL i), 3, 1⟩
def Reg.LNK.LANE_CTRL_OPEN_LOOP (i : Nat) : Fld := ⟨(Reg.LNK.LANE_CTRL i), 4, 1⟩
def Reg.LNK.LANE_CTRL_ENTRY (i : Nat) : Fld := ⟨(Reg.LNK.LANE_CTRL i), 8, 4⟩
def Reg.LNK.LANE_CTRL_RETRAIN (i : Nat) : Fld := ⟨(Reg.LNK.LANE_CTRL i), 16, 1⟩

/-- LNK LANE_STATUS (spec/12_serial_lanes.md R424). -/
def Reg.LNK.LANE_STATUS (i : Nat) : Nat := 0x18204 + 0x40 * i
def Reg.LNK.LANE_STATUS_STATE (i : Nat) : Fld := ⟨(Reg.LNK.LANE_STATUS i), 0, 3⟩
def Reg.LNK.LANE_STATUS_DOWN (i : Nat) : Fld := ⟨(Reg.LNK.LANE_STATUS i), 3, 1⟩
def Reg.LNK.LANE_STATUS_PRECODED (i : Nat) : Fld := ⟨(Reg.LNK.LANE_STATUS i), 4, 1⟩
def Reg.LNK.LANE_STATUS_RATE_ACT (i : Nat) : Fld := ⟨(Reg.LNK.LANE_STATUS i), 5, 2⟩
def Reg.LNK.LANE_STATUS_BUILTIN (i : Nat) : Fld := ⟨(Reg.LNK.LANE_STATUS i), 7, 1⟩
def Reg.LNK.LANE_STATUS_PERMANENT (i : Nat) : Fld := ⟨(Reg.LNK.LANE_STATUS i), 8, 1⟩
def Reg.LNK.LANE_STATUS_REPEATED (i : Nat) : Fld := ⟨(Reg.LNK.LANE_STATUS i), 9, 1⟩
def Reg.LNK.LANE_STATUS_CAUSE (i : Nat) : Fld := ⟨(Reg.LNK.LANE_STATUS i), 12, 3⟩
def Reg.LNK.LANE_STATUS_PARTNER (i : Nat) : Fld := ⟨(Reg.LNK.LANE_STATUS i), 16, 4⟩
def Reg.LNK.LANE_STATUS_NEXT_MS (i : Nat) : Fld := ⟨(Reg.LNK.LANE_STATUS i), 22, 10⟩

/-- LNK CNT_LOSS (spec/12_serial_lanes.md R424). -/
def Reg.LNK.CNT_LOSS (i : Nat) : Nat := 0x18208 + 0x40 * i
def Reg.LNK.CNT_LOSS_COUNT (i : Nat) : Fld := ⟨(Reg.LNK.CNT_LOSS i), 0, 32⟩

/-- LNK CNT_ATTEMPT_FAIL (spec/12_serial_lanes.md R424). -/
def Reg.LNK.CNT_ATTEMPT_FAIL (i : Nat) : Nat := 0x1820C + 0x40 * i
def Reg.LNK.CNT_ATTEMPT_FAIL_COUNT (i : Nat) : Fld := ⟨(Reg.LNK.CNT_ATTEMPT_FAIL i), 0, 32⟩

/-- LNK CNT_CW (spec/12_serial_lanes.md R424). -/
def Reg.LNK.CNT_CW (i : Nat) : Nat := 0x18210 + 0x40 * i
def Reg.LNK.CNT_CW_COUNT (i : Nat) : Fld := ⟨(Reg.LNK.CNT_CW i), 0, 32⟩

/-- LNK CNT_CORR_SYM (spec/12_serial_lanes.md R424). -/
def Reg.LNK.CNT_CORR_SYM (i : Nat) : Nat := 0x18214 + 0x40 * i
def Reg.LNK.CNT_CORR_SYM_COUNT (i : Nat) : Fld := ⟨(Reg.LNK.CNT_CORR_SYM i), 0, 32⟩

/-- LNK CNT_UE_CW (spec/12_serial_lanes.md R424). -/
def Reg.LNK.CNT_UE_CW (i : Nat) : Nat := 0x18218 + 0x40 * i
def Reg.LNK.CNT_UE_CW_COUNT (i : Nat) : Fld := ⟨(Reg.LNK.CNT_UE_CW i), 0, 32⟩

/-- LNK CNT_FILL_DEL (spec/12_serial_lanes.md R424). -/
def Reg.LNK.CNT_FILL_DEL (i : Nat) : Nat := 0x1821C + 0x40 * i
def Reg.LNK.CNT_FILL_DEL_COUNT (i : Nat) : Fld := ⟨(Reg.LNK.CNT_FILL_DEL i), 0, 32⟩

/-- LNK CNT_FILL_INS (spec/12_serial_lanes.md R424). -/
def Reg.LNK.CNT_FILL_INS (i : Nat) : Nat := 0x18220 + 0x40 * i
def Reg.LNK.CNT_FILL_INS_COUNT (i : Nat) : Fld := ⟨(Reg.LNK.CNT_FILL_INS i), 0, 32⟩

/-- LNK CNT_FILL_SENT (spec/12_serial_lanes.md R424). -/
def Reg.LNK.CNT_FILL_SENT (i : Nat) : Nat := 0x18224 + 0x40 * i
def Reg.LNK.CNT_FILL_SENT_COUNT (i : Nat) : Fld := ⟨(Reg.LNK.CNT_FILL_SENT i), 0, 32⟩

/-- LNK LANE_SER (spec/12_serial_lanes.md R424). -/
def Reg.LNK.LANE_SER (i : Nat) : Nat := 0x18228 + 0x40 * i
def Reg.LNK.LANE_SER_ERRORS (i : Nat) : Fld := ⟨(Reg.LNK.LANE_SER i), 0, 21⟩

/-! ### The link protocol page -/

/-- Address of the page (R479). -/
def Reg.ZVL.base : Nat := 0x19000

/-- ZVL SUMMARY (spec/13_zynvitra_link.md R454). -/
def Reg.ZVL.SUMMARY : Nat := 0x19020
def Reg.ZVL.SUMMARY_CMD_QUEUED : Fld := ⟨Reg.ZVL.SUMMARY, 0, 5⟩
def Reg.ZVL.SUMMARY_LOCKOUT : Fld := ⟨Reg.ZVL.SUMMARY, 16, 1⟩

/-- ZVL CTRL (spec/13_zynvitra_link.md R454). -/
def Reg.ZVL.CTRL : Nat := 0x19040
def Reg.ZVL.CTRL_CMD_EN : Fld := ⟨Reg.ZVL.CTRL, 0, 1⟩
def Reg.ZVL.CTRL_AUTH_EN : Fld := ⟨Reg.ZVL.CTRL, 1, 1⟩
def Reg.ZVL.CTRL_TRIG_EN : Fld := ⟨Reg.ZVL.CTRL, 2, 1⟩
def Reg.ZVL.CTRL_TSYNC_EN : Fld := ⟨Reg.ZVL.CTRL, 3, 1⟩
def Reg.ZVL.CTRL_BULK_EN : Fld := ⟨Reg.ZVL.CTRL, 4, 1⟩

/-- ZVL FRAME_MAX (spec/13_zynvitra_link.md R454). -/
def Reg.ZVL.FRAME_MAX : Nat := 0x19044
def Reg.ZVL.FRAME_MAX_NBLK : Fld := ⟨Reg.ZVL.FRAME_MAX, 0, 11⟩

/-- ZVL TSYNC_DELAY (spec/13_zynvitra_link.md R454). -/
def Reg.ZVL.TSYNC_DELAY : Nat := 0x19048
def Reg.ZVL.TSYNC_DELAY_CT : Fld := ⟨Reg.ZVL.TSYNC_DELAY, 0, 16⟩

/-- ZVL TSYNC_TOL (spec/13_zynvitra_link.md R454). -/
def Reg.ZVL.TSYNC_TOL : Nat := 0x1904C
def Reg.ZVL.TSYNC_TOL_CT : Fld := ⟨Reg.ZVL.TSYNC_TOL, 0, 8⟩

/-- ZVL DEV_ID_LO (spec/13_zynvitra_link.md R454). -/
def Reg.ZVL.DEV_ID_LO : Nat := 0x19050
def Reg.ZVL.DEV_ID_LO_ID : Fld := ⟨Reg.ZVL.DEV_ID_LO, 0, 32⟩

/-- ZVL DEV_ID_HI (spec/13_zynvitra_link.md R454). -/
def Reg.ZVL.DEV_ID_HI : Nat := 0x19054
def Reg.ZVL.DEV_ID_HI_ID : Fld := ⟨Reg.ZVL.DEV_ID_HI, 0, 32⟩

/-- ZVL AUTH_CTR (spec/13_zynvitra_link.md R454). -/
def Reg.ZVL.AUTH_CTR (i : Nat) : Nat := 0x19060 + 0x4 * i
def Reg.ZVL.AUTH_CTR_CTR (i : Nat) : Fld := ⟨(Reg.ZVL.AUTH_CTR i), 0, 32⟩

/-- ZVL EV_ROUTE (spec/13_zynvitra_link.md R454). -/
def Reg.ZVL.EV_ROUTE (i : Nat) : Nat := 0x19080 + 0x4 * i
def Reg.ZVL.EV_ROUTE_MASK (i : Nat) : Fld := ⟨(Reg.ZVL.EV_ROUTE i), 0, 32⟩

/-- ZVL CNT_DFRAME_TX (spec/13_zynvitra_link.md R454). -/
def Reg.ZVL.CNT_DFRAME_TX : Nat := 0x19100
def Reg.ZVL.CNT_DFRAME_TX_COUNT : Fld := ⟨Reg.ZVL.CNT_DFRAME_TX, 0, 32⟩

/-- ZVL CNT_DFRAME_RX (spec/13_zynvitra_link.md R454). -/
def Reg.ZVL.CNT_DFRAME_RX : Nat := 0x19104
def Reg.ZVL.CNT_DFRAME_RX_COUNT : Fld := ⟨Reg.ZVL.CNT_DFRAME_RX, 0, 32⟩

/-- ZVL CNT_DFRAME_DISCARD (spec/13_zynvitra_link.md R454). -/
def Reg.ZVL.CNT_DFRAME_DISCARD : Nat := 0x19108
def Reg.ZVL.CNT_DFRAME_DISCARD_COUNT : Fld := ⟨Reg.ZVL.CNT_DFRAME_DISCARD, 0, 32⟩

/-- ZVL CNT_UNIT_DUP (spec/13_zynvitra_link.md R454). -/
def Reg.ZVL.CNT_UNIT_DUP : Nat := 0x1910C
def Reg.ZVL.CNT_UNIT_DUP_COUNT : Fld := ⟨Reg.ZVL.CNT_UNIT_DUP, 0, 32⟩

/-- ZVL CNT_ERR_BLOCK (spec/13_zynvitra_link.md R454). -/
def Reg.ZVL.CNT_ERR_BLOCK : Nat := 0x19110
def Reg.ZVL.CNT_ERR_BLOCK_COUNT : Fld := ⟨Reg.ZVL.CNT_ERR_BLOCK, 0, 32⟩

/-- ZVL CNT_BAD_MSG (spec/13_zynvitra_link.md R454). -/
def Reg.ZVL.CNT_BAD_MSG : Nat := 0x19114
def Reg.ZVL.CNT_BAD_MSG_COUNT : Fld := ⟨Reg.ZVL.CNT_BAD_MSG, 0, 32⟩

/-- ZVL CNT_CMD (spec/13_zynvitra_link.md R454). -/
def Reg.ZVL.CNT_CMD : Nat := 0x19118
def Reg.ZVL.CNT_CMD_COUNT : Fld := ⟨Reg.ZVL.CNT_CMD, 0, 32⟩

/-- ZVL CNT_CMD_NOK (spec/13_zynvitra_link.md R454). -/
def Reg.ZVL.CNT_CMD_NOK : Nat := 0x1911C
def Reg.ZVL.CNT_CMD_NOK_COUNT : Fld := ⟨Reg.ZVL.CNT_CMD_NOK, 0, 32⟩

/-- ZVL CNT_CMD_BUSY (spec/13_zynvitra_link.md R454). -/
def Reg.ZVL.CNT_CMD_BUSY : Nat := 0x19120
def Reg.ZVL.CNT_CMD_BUSY_COUNT : Fld := ⟨Reg.ZVL.CNT_CMD_BUSY, 0, 32⟩

/-- ZVL CNT_CMD_ABORT (spec/13_zynvitra_link.md R454). -/
def Reg.ZVL.CNT_CMD_ABORT : Nat := 0x19124
def Reg.ZVL.CNT_CMD_ABORT_COUNT : Fld := ⟨Reg.ZVL.CNT_CMD_ABORT, 0, 32⟩

/-- ZVL CNT_BULK_WR (spec/13_zynvitra_link.md R454). -/
def Reg.ZVL.CNT_BULK_WR : Nat := 0x19128
def Reg.ZVL.CNT_BULK_WR_COUNT : Fld := ⟨Reg.ZVL.CNT_BULK_WR, 0, 32⟩

/-- ZVL CNT_BULK_SKIP (spec/13_zynvitra_link.md R454). -/
def Reg.ZVL.CNT_BULK_SKIP : Nat := 0x1912C
def Reg.ZVL.CNT_BULK_SKIP_COUNT : Fld := ⟨Reg.ZVL.CNT_BULK_SKIP, 0, 32⟩

/-- ZVL CNT_AUTH_FAIL (spec/13_zynvitra_link.md R454). -/
def Reg.ZVL.CNT_AUTH_FAIL : Nat := 0x19130
def Reg.ZVL.CNT_AUTH_FAIL_COUNT : Fld := ⟨Reg.ZVL.CNT_AUTH_FAIL, 0, 32⟩

/-- ZVL CNT_REPLAY (spec/13_zynvitra_link.md R454). -/
def Reg.ZVL.CNT_REPLAY : Nat := 0x19134
def Reg.ZVL.CNT_REPLAY_COUNT : Fld := ⟨Reg.ZVL.CNT_REPLAY, 0, 32⟩

/-- ZVL CNT_TRIG_RX (spec/13_zynvitra_link.md R454). -/
def Reg.ZVL.CNT_TRIG_RX : Nat := 0x19138
def Reg.ZVL.CNT_TRIG_RX_COUNT : Fld := ⟨Reg.ZVL.CNT_TRIG_RX, 0, 32⟩

/-- ZVL CNT_TSYNC (spec/13_zynvitra_link.md R454). -/
def Reg.ZVL.CNT_TSYNC : Nat := 0x1913C
def Reg.ZVL.CNT_TSYNC_COUNT : Fld := ⟨Reg.ZVL.CNT_TSYNC, 0, 32⟩

/-- ZVL CNT_TSYNC_IGNORED (spec/13_zynvitra_link.md R454). -/
def Reg.ZVL.CNT_TSYNC_IGNORED : Nat := 0x19140
def Reg.ZVL.CNT_TSYNC_IGNORED_COUNT : Fld := ⟨Reg.ZVL.CNT_TSYNC_IGNORED, 0, 32⟩

/-- ZVL CNT_EV_TX (spec/13_zynvitra_link.md R454). -/
def Reg.ZVL.CNT_EV_TX : Nat := 0x19144
def Reg.ZVL.CNT_EV_TX_COUNT : Fld := ⟨Reg.ZVL.CNT_EV_TX, 0, 32⟩

/-- ZVL CNT_EV_LOST (spec/13_zynvitra_link.md R454). -/
def Reg.ZVL.CNT_EV_LOST : Nat := 0x19148
def Reg.ZVL.CNT_EV_LOST_COUNT : Fld := ⟨Reg.ZVL.CNT_EV_LOST, 0, 32⟩

/-! ### The die periphery pages -/

/-- Address of the page (R479). -/
def Reg.DIE.base (d : Nat) : Nat := (0x400000 + 0x400000 * d)

/-- DIE BAND_CTRL (spec/04_region_readout.md R148). -/
def Reg.DIE.BAND_CTRL (d : Nat) : Nat := Reg.DIE.base d + 0x40
def Reg.DIE.BAND_CTRL_EN (d : Nat) : Fld := ⟨(Reg.DIE.BAND_CTRL d), 0, 8⟩

/-- DIE CH_STATUS (spec/04_region_readout.md R148). -/
def Reg.DIE.CH_STATUS (d : Nat) : Nat := Reg.DIE.base d + 0x44
def Reg.DIE.CH_STATUS_UP (d : Nat) : Fld := ⟨(Reg.DIE.CH_STATUS d), 0, 4⟩
def Reg.DIE.CH_STATUS_REROUTED (d : Nat) : Fld := ⟨(Reg.DIE.CH_STATUS d), 4, 4⟩
def Reg.DIE.CH_STATUS_LEVEL (d : Nat) : Fld := ⟨(Reg.DIE.CH_STATUS d), 8, 4⟩
def Reg.DIE.CH_STATUS_FLUSH_BUSY (d : Nat) : Fld := ⟨(Reg.DIE.CH_STATUS d), 16, 4⟩

/-- DIE CH_CTRL (spec/04_region_readout.md R148). -/
def Reg.DIE.CH_CTRL (d : Nat) : Nat := Reg.DIE.base d + 0x48
def Reg.DIE.CH_CTRL_FLUSH (d : Nat) : Fld := ⟨(Reg.DIE.CH_CTRL d), 0, 4⟩
def Reg.DIE.CH_CTRL_RESTART (d : Nat) : Fld := ⟨(Reg.DIE.CH_CTRL d), 4, 4⟩

/-- DIE CH_WM (spec/04_region_readout.md R148). -/
def Reg.DIE.CH_WM (d : Nat) : Nat := Reg.DIE.base d + 0x4C
def Reg.DIE.CH_WM_HIGH (d : Nat) : Fld := ⟨(Reg.DIE.CH_WM d), 0, 6⟩
def Reg.DIE.CH_WM_LOW (d : Nat) : Fld := ⟨(Reg.DIE.CH_WM d), 8, 6⟩

/-- DIE REGION_LEVEL (spec/04_region_readout.md R148). -/
def Reg.DIE.REGION_LEVEL (d i : Nat) : Nat := Reg.DIE.base d + 0x50 + 0x4 * i
def Reg.DIE.REGION_LEVEL_COUNT (d i : Nat) : Fld := ⟨(Reg.DIE.REGION_LEVEL d i), 0, 32⟩

/-- DIE CNT_BAND_WD (spec/04_region_readout.md R148). -/
def Reg.DIE.CNT_BAND_WD (d i : Nat) : Nat := Reg.DIE.base d + 0x60 + 0x4 * i
def Reg.DIE.CNT_BAND_WD_COUNT (d i : Nat) : Fld := ⟨(Reg.DIE.CNT_BAND_WD d i), 0, 32⟩

/-- DIE CNT_CH_ITEMS (spec/04_region_readout.md R148). -/
def Reg.DIE.CNT_CH_ITEMS (d i : Nat) : Nat := Reg.DIE.base d + 0x80 + 0x4 * i
def Reg.DIE.CNT_CH_ITEMS_COUNT (d i : Nat) : Fld := ⟨(Reg.DIE.CNT_CH_ITEMS d i), 0, 32⟩

/-- DIE CNT_FLUSH_DISCARD (spec/04_region_readout.md R148). -/
def Reg.DIE.CNT_FLUSH_DISCARD (d i : Nat) : Nat := Reg.DIE.base d + 0x90 + 0x4 * i
def Reg.DIE.CNT_FLUSH_DISCARD_COUNT (d i : Nat) : Fld := ⟨(Reg.DIE.CNT_FLUSH_DISCARD d i), 0, 32⟩

/-- DIE CNT_FLUSH_TRUNC (spec/04_region_readout.md R148). -/
def Reg.DIE.CNT_FLUSH_TRUNC (d i : Nat) : Nat := Reg.DIE.base d + 0xA0 + 0x4 * i
def Reg.DIE.CNT_FLUSH_TRUNC_COUNT (d i : Nat) : Fld := ⟨(Reg.DIE.CNT_FLUSH_TRUNC d i), 0, 32⟩

/-- DIE REGION_ISOLATED (spec/04_region_readout.md R148). -/
def Reg.DIE.REGION_ISOLATED (d i : Nat) : Nat := Reg.DIE.base d + 0xC0 + 0x4 * i
def Reg.DIE.REGION_ISOLATED_COUNT (d i : Nat) : Fld := ⟨(Reg.DIE.REGION_ISOLATED d i), 0, 32⟩

/-! ### The pixel pages -/

/-- Address of the page (R479). -/
def Reg.PIX.base (d : Nat) : Nat := (0x401000 + 0x400000 * d)

/-- PIX FE_CTRL (spec/02_pixel_front_end.md R79). -/
def Reg.PIX.FE_CTRL (d : Nat) : Nat := Reg.PIX.base d + 0x40
def Reg.PIX.FE_CTRL_POLARITY (d : Nat) : Fld := ⟨(Reg.PIX.FE_CTRL d), 0, 1⟩
def Reg.PIX.FE_CTRL_LEAK_EN (d : Nat) : Fld := ⟨(Reg.PIX.FE_CTRL d), 1, 1⟩
def Reg.PIX.FE_CTRL_TRIM_STEP (d : Nat) : Fld := ⟨(Reg.PIX.FE_CTRL d), 4, 2⟩

/-- PIX VTH (spec/02_pixel_front_end.md R79). -/
def Reg.PIX.VTH (d : Nat) : Nat := Reg.PIX.base d + 0x44
def Reg.PIX.VTH_CODE (d : Nat) : Fld := ⟨(Reg.PIX.VTH d), 0, 10⟩

/-- PIX GAIN_LG (spec/02_pixel_front_end.md R79). -/
def Reg.PIX.GAIN_LG (d i : Nat) : Nat := Reg.PIX.base d + 0x50 + 0x4 * i
def Reg.PIX.GAIN_LG_LG (d i : Nat) : Fld := ⟨(Reg.PIX.GAIN_LG d i), 0, 32⟩

/-- PIX GAIN_ACT (spec/02_pixel_front_end.md R79). -/
def Reg.PIX.GAIN_ACT (d i : Nat) : Nat := Reg.PIX.base d + 0x60 + 0x4 * i
def Reg.PIX.GAIN_ACT_LG (d i : Nat) : Fld := ⟨(Reg.PIX.GAIN_ACT d i), 0, 32⟩

/-- PIX GAIN_PEND (spec/02_pixel_front_end.md R79). -/
def Reg.PIX.GAIN_PEND (d i : Nat) : Nat := Reg.PIX.base d + 0x70 + 0x4 * i
def Reg.PIX.GAIN_PEND_LG (d i : Nat) : Fld := ⟨(Reg.PIX.GAIN_PEND d i), 0, 32⟩

/-- PIX TBL_ADDR (spec/02_pixel_front_end.md R79). -/
def Reg.PIX.TBL_ADDR (d : Nat) : Nat := Reg.PIX.base d + 0x80
def Reg.PIX.TBL_ADDR_COL (d : Nat) : Fld := ⟨(Reg.PIX.TBL_ADDR d), 0, 9⟩
def Reg.PIX.TBL_ADDR_ROW (d : Nat) : Fld := ⟨(Reg.PIX.TBL_ADDR d), 16, 8⟩
def Reg.PIX.TBL_ADDR_AUTOINC (d : Nat) : Fld := ⟨(Reg.PIX.TBL_ADDR d), 30, 1⟩

/-- PIX TBL_DATA (spec/02_pixel_front_end.md R79). -/
def Reg.PIX.TBL_DATA (d : Nat) : Nat := Reg.PIX.base d + 0x84
def Reg.PIX.TBL_DATA_ENTRIES (d : Nat) : Fld := ⟨(Reg.PIX.TBL_DATA d), 0, 32⟩

/-- PIX STAT_DATA (spec/02_pixel_front_end.md R79). -/
def Reg.PIX.STAT_DATA (d : Nat) : Nat := Reg.PIX.base d + 0x88
def Reg.PIX.STAT_DATA_STATUSES (d : Nat) : Fld := ⟨(Reg.PIX.STAT_DATA d), 0, 32⟩

/-- PIX TBL_FILL (spec/02_pixel_front_end.md R79). -/
def Reg.PIX.TBL_FILL (d : Nat) : Nat := Reg.PIX.base d + 0x8C
def Reg.PIX.TBL_FILL_VALUE (d : Nat) : Fld := ⟨(Reg.PIX.TBL_FILL d), 0, 8⟩
def Reg.PIX.TBL_FILL_BITMASK (d : Nat) : Fld := ⟨(Reg.PIX.TBL_FILL d), 8, 8⟩
def Reg.PIX.TBL_FILL_REGION (d : Nat) : Fld := ⟨(Reg.PIX.TBL_FILL d), 16, 7⟩
def Reg.PIX.TBL_FILL_ALL (d : Nat) : Fld := ⟨(Reg.PIX.TBL_FILL d), 24, 1⟩
def Reg.PIX.TBL_FILL_BUSY (d : Nat) : Fld := ⟨(Reg.PIX.TBL_FILL d), 30, 1⟩
def Reg.PIX.TBL_FILL_GO (d : Nat) : Fld := ⟨(Reg.PIX.TBL_FILL d), 31, 1⟩

/-- PIX INJ_DAC (spec/02_pixel_front_end.md R79). -/
def Reg.PIX.INJ_DAC (d : Nat) : Nat := Reg.PIX.base d + 0xA0
def Reg.PIX.INJ_DAC_CODE (d : Nat) : Fld := ⟨(Reg.PIX.INJ_DAC d), 0, 12⟩

/-- PIX INJ_CTRL (spec/02_pixel_front_end.md R79). -/
def Reg.PIX.INJ_CTRL (d : Nat) : Nat := Reg.PIX.base d + 0xA4
def Reg.PIX.INJ_CTRL_START (d : Nat) : Fld := ⟨(Reg.PIX.INJ_CTRL d), 0, 1⟩
def Reg.PIX.INJ_CTRL_STOP (d : Nat) : Fld := ⟨(Reg.PIX.INJ_CTRL d), 1, 1⟩
def Reg.PIX.INJ_CTRL_ASYNC (d : Nat) : Fld := ⟨(Reg.PIX.INJ_CTRL d), 2, 1⟩
def Reg.PIX.INJ_CTRL_BUSY (d : Nat) : Fld := ⟨(Reg.PIX.INJ_CTRL d), 8, 1⟩

/-- PIX INJ_COUNT (spec/02_pixel_front_end.md R79). -/
def Reg.PIX.INJ_COUNT (d : Nat) : Nat := Reg.PIX.base d + 0xA8
def Reg.PIX.INJ_COUNT_COUNT (d : Nat) : Fld := ⟨(Reg.PIX.INJ_COUNT d), 0, 16⟩

/-- PIX INJ_PERIOD (spec/02_pixel_front_end.md R79). -/
def Reg.PIX.INJ_PERIOD (d : Nat) : Nat := Reg.PIX.base d + 0xAC
def Reg.PIX.INJ_PERIOD_CT (d : Nat) : Fld := ⟨(Reg.PIX.INJ_PERIOD d), 0, 24⟩

/-- PIX INJ_OFFSET (spec/02_pixel_front_end.md R79). -/
def Reg.PIX.INJ_OFFSET (d : Nat) : Nat := Reg.PIX.base d + 0xB0
def Reg.PIX.INJ_OFFSET_CT (d : Nat) : Fld := ⟨(Reg.PIX.INJ_OFFSET d), 0, 18⟩

/-- PIX INJ_LEFT (spec/02_pixel_front_end.md R79). -/
def Reg.PIX.INJ_LEFT (d : Nat) : Nat := Reg.PIX.base d + 0xB4
def Reg.PIX.INJ_LEFT_COUNT (d : Nat) : Fld := ⟨(Reg.PIX.INJ_LEFT d), 0, 16⟩

/-- PIX INJ_SENSE (spec/02_pixel_front_end.md R79). -/
def Reg.PIX.INJ_SENSE (d : Nat) : Nat := Reg.PIX.base d + 0xB8
def Reg.PIX.INJ_SENSE_CODE (d : Nat) : Fld := ⟨(Reg.PIX.INJ_SENSE d), 0, 16⟩

/-- PIX CHECK_CTRL (spec/02_pixel_front_end.md R79). -/
def Reg.PIX.CHECK_CTRL (d : Nat) : Nat := Reg.PIX.base d + 0xC0
def Reg.PIX.CHECK_CTRL_RUN (d : Nat) : Fld := ⟨(Reg.PIX.CHECK_CTRL d), 0, 1⟩
def Reg.PIX.CHECK_CTRL_AUTO_MASK (d : Nat) : Fld := ⟨(Reg.PIX.CHECK_CTRL d), 1, 1⟩
def Reg.PIX.CHECK_CTRL_CYCLE (d : Nat) : Fld := ⟨(Reg.PIX.CHECK_CTRL d), 4, 3⟩
def Reg.PIX.CHECK_CTRL_CLEAR_STATUS (d : Nat) : Fld := ⟨(Reg.PIX.CHECK_CTRL d), 31, 1⟩

/-- PIX CHECK_LIM (spec/02_pixel_front_end.md R79). -/
def Reg.PIX.CHECK_LIM (d : Nat) : Nat := Reg.PIX.base d + 0xC4
def Reg.PIX.CHECK_LIM_OPEN_MAX (d : Nat) : Fld := ⟨(Reg.PIX.CHECK_LIM d), 0, 8⟩
def Reg.PIX.CHECK_LIM_SHORT_MIN (d : Nat) : Fld := ⟨(Reg.PIX.CHECK_LIM d), 16, 8⟩

/-- PIX CHECK_POS (spec/02_pixel_front_end.md R79). -/
def Reg.PIX.CHECK_POS (d : Nat) : Nat := Reg.PIX.base d + 0xC8
def Reg.PIX.CHECK_POS_REGION (d : Nat) : Fld := ⟨(Reg.PIX.CHECK_POS d), 0, 7⟩
def Reg.PIX.CHECK_POS_CYCLES (d : Nat) : Fld := ⟨(Reg.PIX.CHECK_POS d), 8, 24⟩

/-- PIX CHECK_SKIPPED (spec/02_pixel_front_end.md R79). -/
def Reg.PIX.CHECK_SKIPPED (d : Nat) : Nat := Reg.PIX.base d + 0xCC
def Reg.PIX.CHECK_SKIPPED_COUNT (d : Nat) : Fld := ⟨(Reg.PIX.CHECK_SKIPPED d), 0, 32⟩

/-- PIX LAST_CHANGE (spec/02_pixel_front_end.md R79). -/
def Reg.PIX.LAST_CHANGE (d : Nat) : Nat := Reg.PIX.base d + 0xD0
def Reg.PIX.LAST_CHANGE_COL (d : Nat) : Fld := ⟨(Reg.PIX.LAST_CHANGE d), 0, 9⟩
def Reg.PIX.LAST_CHANGE_ROW (d : Nat) : Fld := ⟨(Reg.PIX.LAST_CHANGE d), 16, 8⟩
def Reg.PIX.LAST_CHANGE_STATUS (d : Nat) : Fld := ⟨(Reg.PIX.LAST_CHANGE d), 24, 2⟩

/-- PIX COUNT_UNTESTED (spec/02_pixel_front_end.md R79). -/
def Reg.PIX.COUNT_UNTESTED (d : Nat) : Nat := Reg.PIX.base d + 0xD4
def Reg.PIX.COUNT_UNTESTED_COUNT (d : Nat) : Fld := ⟨(Reg.PIX.COUNT_UNTESTED d), 0, 18⟩

/-- PIX COUNT_CONNECTED (spec/02_pixel_front_end.md R79). -/
def Reg.PIX.COUNT_CONNECTED (d : Nat) : Nat := Reg.PIX.base d + 0xD8
def Reg.PIX.COUNT_CONNECTED_COUNT (d : Nat) : Fld := ⟨(Reg.PIX.COUNT_CONNECTED d), 0, 18⟩

/-- PIX COUNT_OPEN (spec/02_pixel_front_end.md R79). -/
def Reg.PIX.COUNT_OPEN (d : Nat) : Nat := Reg.PIX.base d + 0xDC
def Reg.PIX.COUNT_OPEN_COUNT (d : Nat) : Fld := ⟨(Reg.PIX.COUNT_OPEN d), 0, 18⟩

/-- PIX COUNT_SHORTED (spec/02_pixel_front_end.md R79). -/
def Reg.PIX.COUNT_SHORTED (d : Nat) : Nat := Reg.PIX.base d + 0xE0
def Reg.PIX.COUNT_SHORTED_COUNT (d : Nat) : Fld := ⟨(Reg.PIX.COUNT_SHORTED d), 0, 18⟩

/-! ### The waveform converter pages -/

/-- Address of the page (R479). -/
def Reg.WADC.base (d : Nat) : Nat := (0x402000 + 0x400000 * d)

/-- WADC WADC_ENABLE (spec/05_waveform_adcs.md R172). -/
def Reg.WADC.WADC_ENABLE (d : Nat) : Nat := Reg.WADC.base d + 0x40
def Reg.WADC.WADC_ENABLE_EN (d : Nat) : Fld := ⟨(Reg.WADC.WADC_ENABLE d), 0, 8⟩

/-- WADC WADC_TRIG (spec/05_waveform_adcs.md R172). -/
def Reg.WADC.WADC_TRIG (d : Nat) : Nat := Reg.WADC.base d + 0x44
def Reg.WADC.WADC_TRIG_MASK (d : Nat) : Fld := ⟨(Reg.WADC.WADC_TRIG d), 0, 8⟩
def Reg.WADC.WADC_TRIG_LINE (d : Nat) : Fld := ⟨(Reg.WADC.WADC_TRIG d), 8, 2⟩

/-- WADC WADC_PEAK (spec/05_waveform_adcs.md R172). -/
def Reg.WADC.WADC_PEAK (d : Nat) : Nat := Reg.WADC.base d + 0x48
def Reg.WADC.WADC_PEAK_WINDOW (d : Nat) : Fld := ⟨(Reg.WADC.WADC_PEAK d), 0, 8⟩

/-- WADC WADC_CTRL (spec/05_waveform_adcs.md R172). -/
def Reg.WADC.WADC_CTRL (d i : Nat) : Nat := Reg.WADC.base d + 0x100 + 0x20 * i
def Reg.WADC.WADC_CTRL_MODE (d i : Nat) : Fld := ⟨(Reg.WADC.WADC_CTRL d i), 0, 2⟩
def Reg.WADC.WADC_CTRL_LAST (d i : Nat) : Fld := ⟨(Reg.WADC.WADC_CTRL d i), 4, 4⟩
def Reg.WADC.WADC_CTRL_FILT (d i : Nat) : Fld := ⟨(Reg.WADC.WADC_CTRL d i), 8, 3⟩
def Reg.WADC.WADC_CTRL_START (d i : Nat) : Fld := ⟨(Reg.WADC.WADC_CTRL d i), 16, 1⟩

/-- WADC WADC_STATUS (spec/05_waveform_adcs.md R172). -/
def Reg.WADC.WADC_STATUS (d i : Nat) : Nat := Reg.WADC.base d + 0x104 + 0x20 * i
def Reg.WADC.WADC_STATUS_STATE (d i : Nat) : Fld := ⟨(Reg.WADC.WADC_STATUS d i), 0, 3⟩
def Reg.WADC.WADC_STATUS_ENTRY (d i : Nat) : Fld := ⟨(Reg.WADC.WADC_STATUS d i), 4, 4⟩
def Reg.WADC.WADC_STATUS_INJ_PENDING (d i : Nat) : Fld := ⟨(Reg.WADC.WADC_STATUS d i), 8, 1⟩
def Reg.WADC.WADC_STATUS_CAL_PENDING (d i : Nat) : Fld := ⟨(Reg.WADC.WADC_STATUS d i), 9, 1⟩
def Reg.WADC.WADC_STATUS_INVALID_LEFT (d i : Nat) : Fld := ⟨(Reg.WADC.WADC_STATUS d i), 16, 8⟩

/-- WADC WADC_INJ (spec/05_waveform_adcs.md R172). -/
def Reg.WADC.WADC_INJ (d i : Nat) : Nat := Reg.WADC.base d + 0x108 + 0x20 * i
def Reg.WADC.WADC_INJ_CHAN (d i : Nat) : Fld := ⟨(Reg.WADC.WADC_INJ d i), 0, 5⟩
def Reg.WADC.WADC_INJ_GAIN (d i : Nat) : Fld := ⟨(Reg.WADC.WADC_INJ d i), 8, 2⟩
def Reg.WADC.WADC_INJ_COUNT (d i : Nat) : Fld := ⟨(Reg.WADC.WADC_INJ d i), 16, 8⟩
def Reg.WADC.WADC_INJ_REQ (d i : Nat) : Fld := ⟨(Reg.WADC.WADC_INJ d i), 31, 1⟩

/-- WADC WADC_CAL (spec/05_waveform_adcs.md R172). -/
def Reg.WADC.WADC_CAL (d i : Nat) : Nat := Reg.WADC.base d + 0x10C + 0x20 * i
def Reg.WADC.WADC_CAL_CMD (d i : Nat) : Fld := ⟨(Reg.WADC.WADC_CAL d i), 0, 3⟩
def Reg.WADC.WADC_CAL_GAIN (d i : Nat) : Fld := ⟨(Reg.WADC.WADC_CAL d i), 8, 2⟩
def Reg.WADC.WADC_CAL_CHAN (d i : Nat) : Fld := ⟨(Reg.WADC.WADC_CAL d i), 16, 5⟩
def Reg.WADC.WADC_CAL_NLOG (d i : Nat) : Fld := ⟨(Reg.WADC.WADC_CAL d i), 24, 4⟩
def Reg.WADC.WADC_CAL_PEAK (d i : Nat) : Fld := ⟨(Reg.WADC.WADC_CAL d i), 28, 1⟩

/-- WADC WADC_SYS_EXPECT (spec/05_waveform_adcs.md R172). -/
def Reg.WADC.WADC_SYS_EXPECT (d i : Nat) : Nat := Reg.WADC.base d + 0x110 + 0x20 * i
def Reg.WADC.WADC_SYS_EXPECT_VALUE (d i : Nat) : Fld := ⟨(Reg.WADC.WADC_SYS_EXPECT d i), 0, 16⟩

/-- WADC WADC_CAL_RESULT (spec/05_waveform_adcs.md R172). -/
def Reg.WADC.WADC_CAL_RESULT (d i : Nat) : Nat := Reg.WADC.base d + 0x114 + 0x20 * i
def Reg.WADC.WADC_CAL_RESULT_M0 (d i : Nat) : Fld := ⟨(Reg.WADC.WADC_CAL_RESULT d i), 0, 16⟩
def Reg.WADC.WADC_CAL_RESULT_M1 (d i : Nat) : Fld := ⟨(Reg.WADC.WADC_CAL_RESULT d i), 16, 16⟩

/-- WADC WADC_CAL_COEF (spec/05_waveform_adcs.md R172). -/
def Reg.WADC.WADC_CAL_COEF (d i : Nat) : Nat := Reg.WADC.base d + 0x118 + 0x20 * i
def Reg.WADC.WADC_CAL_COEF_OFFSET (d i : Nat) : Fld := ⟨(Reg.WADC.WADC_CAL_COEF d i), 0, 16⟩
def Reg.WADC.WADC_CAL_COEF_GAIN (d i : Nat) : Fld := ⟨(Reg.WADC.WADC_CAL_COEF d i), 16, 16⟩

/-- WADC WADC_CAL_STATUS (spec/05_waveform_adcs.md R172). -/
def Reg.WADC.WADC_CAL_STATUS (d i : Nat) : Nat := Reg.WADC.base d + 0x11C + 0x20 * i
def Reg.WADC.WADC_CAL_STATUS_COMMITTED (d i : Nat) : Fld := ⟨(Reg.WADC.WADC_CAL_STATUS d i), 1, 1⟩
def Reg.WADC.WADC_CAL_STATUS_FAILED (d i : Nat) : Fld := ⟨(Reg.WADC.WADC_CAL_STATUS d i), 2, 1⟩
def Reg.WADC.WADC_CAL_STATUS_FAIL_CODE (d i : Nat) : Fld := ⟨(Reg.WADC.WADC_CAL_STATUS d i), 4, 3⟩

/-- WADC WADC_CNT_INJ_REFUSED (spec/05_waveform_adcs.md R172). -/
def Reg.WADC.WADC_CNT_INJ_REFUSED (d : Nat) : Nat := Reg.WADC.base d + 0x300
def Reg.WADC.WADC_CNT_INJ_REFUSED_COUNT (d : Nat) : Fld := ⟨(Reg.WADC.WADC_CNT_INJ_REFUSED d), 0, 32⟩

/-- WADC WADC_CNT_CAL_REFUSED (spec/05_waveform_adcs.md R172). -/
def Reg.WADC.WADC_CNT_CAL_REFUSED (d : Nat) : Nat := Reg.WADC.base d + 0x304
def Reg.WADC.WADC_CNT_CAL_REFUSED_COUNT (d : Nat) : Fld := ⟨(Reg.WADC.WADC_CNT_CAL_REFUSED d), 0, 32⟩

/-- WADC WADC_CNT_OVR (spec/05_waveform_adcs.md R172). -/
def Reg.WADC.WADC_CNT_OVR (d : Nat) : Nat := Reg.WADC.base d + 0x308
def Reg.WADC.WADC_CNT_OVR_COUNT (d : Nat) : Fld := ⟨(Reg.WADC.WADC_CNT_OVR d), 0, 32⟩

/-- WADC WADC_CNT_LINK (spec/05_waveform_adcs.md R172). -/
def Reg.WADC.WADC_CNT_LINK (d : Nat) : Nat := Reg.WADC.base d + 0x30C
def Reg.WADC.WADC_CNT_LINK_COUNT (d : Nat) : Fld := ⟨(Reg.WADC.WADC_CNT_LINK d), 0, 32⟩

/-- WADC WADC_CNT_ABORT (spec/05_waveform_adcs.md R172). -/
def Reg.WADC.WADC_CNT_ABORT (d : Nat) : Nat := Reg.WADC.base d + 0x310
def Reg.WADC.WADC_CNT_ABORT_COUNT (d : Nat) : Fld := ⟨(Reg.WADC.WADC_CNT_ABORT d), 0, 32⟩

/-- WADC WADC_SEQ (spec/05_waveform_adcs.md R172). -/
def Reg.WADC.WADC_SEQ (d i : Nat) : Nat := Reg.WADC.base d + 0x400 + 0x4 * i
def Reg.WADC.WADC_SEQ_CHAN (d i : Nat) : Fld := ⟨(Reg.WADC.WADC_SEQ d i), 0, 5⟩
def Reg.WADC.WADC_SEQ_GAIN (d i : Nat) : Fld := ⟨(Reg.WADC.WADC_SEQ d i), 8, 2⟩
def Reg.WADC.WADC_SEQ_DWELL (d i : Nat) : Fld := ⟨(Reg.WADC.WADC_SEQ d i), 16, 16⟩

/-! ### The region pages -/

/-- Address of the page (R479). -/
def Reg.REG.base (d n : Nat) : Nat := (0x500000 + 0x400000 * d + 0x1000 * n)

/-- REG SUMMARY (spec/04_region_readout.md R146). -/
def Reg.REG.SUMMARY (d n : Nat) : Nat := Reg.REG.base d n + 0x20
def Reg.REG.SUMMARY_DIE (d n : Nat) : Fld := ⟨(Reg.REG.SUMMARY d n), 0, 2⟩
def Reg.REG.SUMMARY_REGION (d n : Nat) : Fld := ⟨(Reg.REG.SUMMARY d n), 8, 7⟩
def Reg.REG.SUMMARY_BAND (d n : Nat) : Fld := ⟨(Reg.REG.SUMMARY d n), 16, 3⟩

/-- REG SKIM (spec/04_region_readout.md R146). -/
def Reg.REG.SKIM (d n : Nat) : Nat := Reg.REG.base d n + 0x40
def Reg.REG.SKIM_MIN_CT (d n : Nat) : Fld := ⟨(Reg.REG.SKIM d n), 0, 4⟩

/-- REG WM (spec/04_region_readout.md R146). -/
def Reg.REG.WM (d n : Nat) : Nat := Reg.REG.base d n + 0x44
def Reg.REG.WM_HIGH (d n : Nat) : Fld := ⟨(Reg.REG.WM d n), 0, 5⟩
def Reg.REG.WM_LOW (d n : Nat) : Fld := ⟨(Reg.REG.WM d n), 8, 5⟩

/-- REG FIFO_STATUS (spec/04_region_readout.md R146). -/
def Reg.REG.FIFO_STATUS (d n : Nat) : Nat := Reg.REG.base d n + 0x48
def Reg.REG.FIFO_STATUS_OCC (d n : Nat) : Fld := ⟨(Reg.REG.FIFO_STATUS d n), 0, 5⟩
def Reg.REG.FIFO_STATUS_LEVEL (d n : Nat) : Fld := ⟨(Reg.REG.FIFO_STATUS d n), 8, 1⟩
def Reg.REG.FIFO_STATUS_WAITING (d n : Nat) : Fld := ⟨(Reg.REG.FIFO_STATUS d n), 9, 1⟩
def Reg.REG.FIFO_STATUS_ISOLATED (d n : Nat) : Fld := ⟨(Reg.REG.FIFO_STATUS d n), 10, 1⟩
def Reg.REG.FIFO_STATUS_TEST_PENDING (d n : Nat) : Fld := ⟨(Reg.REG.FIFO_STATUS d n), 11, 1⟩

/-- REG TEST_HIT0 (spec/04_region_readout.md R146). -/
def Reg.REG.TEST_HIT0 (d n : Nat) : Nat := Reg.REG.base d n + 0x4C
def Reg.REG.TEST_HIT0_ITEM (d n : Nat) : Fld := ⟨(Reg.REG.TEST_HIT0 d n), 0, 32⟩

/-- REG TEST_HIT1 (spec/04_region_readout.md R146). -/
def Reg.REG.TEST_HIT1 (d n : Nat) : Nat := Reg.REG.base d n + 0x50
def Reg.REG.TEST_HIT1_ITEM (d n : Nat) : Fld := ⟨(Reg.REG.TEST_HIT1 d n), 0, 32⟩

/-- REG TEST_HIT2 (spec/04_region_readout.md R146). -/
def Reg.REG.TEST_HIT2 (d n : Nat) : Nat := Reg.REG.base d n + 0x54
def Reg.REG.TEST_HIT2_ITEM (d n : Nat) : Fld := ⟨(Reg.REG.TEST_HIT2 d n), 0, 11⟩

/-- REG LAST_STUCK (spec/04_region_readout.md R146). -/
def Reg.REG.LAST_STUCK (d n : Nat) : Nat := Reg.REG.base d n + 0x58
def Reg.REG.LAST_STUCK_COL (d n : Nat) : Fld := ⟨(Reg.REG.LAST_STUCK d n), 0, 5⟩
def Reg.REG.LAST_STUCK_ROW (d n : Nat) : Fld := ⟨(Reg.REG.LAST_STUCK d n), 8, 5⟩

/-- REG CNT_HITS (spec/04_region_readout.md R146). -/
def Reg.REG.CNT_HITS (d n : Nat) : Nat := Reg.REG.base d n + 0x60
def Reg.REG.CNT_HITS_COUNT (d n : Nat) : Fld := ⟨(Reg.REG.CNT_HITS d n), 0, 32⟩

/-- REG CNT_SKIM_CUT (spec/04_region_readout.md R146). -/
def Reg.REG.CNT_SKIM_CUT (d n : Nat) : Nat := Reg.REG.base d n + 0x64
def Reg.REG.CNT_SKIM_CUT_COUNT (d n : Nat) : Fld := ⟨(Reg.REG.CNT_SKIM_CUT d n), 0, 32⟩

/-- REG CNT_WD (spec/04_region_readout.md R146). -/
def Reg.REG.CNT_WD (d n : Nat) : Nat := Reg.REG.base d n + 0x68
def Reg.REG.CNT_WD_COUNT (d n : Nat) : Fld := ⟨(Reg.REG.CNT_WD d n), 0, 32⟩

/-- REG CNT_FLUSH (spec/04_region_readout.md R146). -/
def Reg.REG.CNT_FLUSH (d n : Nat) : Nat := Reg.REG.base d n + 0x6C
def Reg.REG.CNT_FLUSH_COUNT (d n : Nat) : Fld := ⟨(Reg.REG.CNT_FLUSH d n), 0, 32⟩

/-- REG CNT_FULL (spec/04_region_readout.md R146). -/
def Reg.REG.CNT_FULL (d n : Nat) : Nat := Reg.REG.base d n + 0x70
def Reg.REG.CNT_FULL_COUNT (d n : Nat) : Fld := ⟨(Reg.REG.CNT_FULL d n), 0, 32⟩

/-- REG FOR_CTRL (spec/07_trigger_acquisition.md R224). -/
def Reg.REG.FOR_CTRL (d n : Nat) : Nat := Reg.REG.base d n + 0x100
def Reg.REG.FOR_CTRL_EN (d n : Nat) : Fld := ⟨(Reg.REG.FOR_CTRL d n), 0, 1⟩
def Reg.REG.FOR_CTRL_STRETCH (d n : Nat) : Fld := ⟨(Reg.REG.FOR_CTRL d n), 4, 4⟩
def Reg.REG.FOR_CTRL_FORCE (d n : Nat) : Fld := ⟨(Reg.REG.FOR_CTRL d n), 8, 1⟩

/-- REG FOR_STATUS (spec/07_trigger_acquisition.md R224). -/
def Reg.REG.FOR_STATUS (d n : Nat) : Nat := Reg.REG.base d n + 0x104
def Reg.REG.FOR_STATUS_LEVEL (d n : Nat) : Fld := ⟨(Reg.REG.FOR_STATUS d n), 0, 1⟩

/-- REG FOR_CNT (spec/07_trigger_acquisition.md R224). -/
def Reg.REG.FOR_CNT (d n : Nat) : Nat := Reg.REG.base d n + 0x108
def Reg.REG.FOR_CNT_COUNT (d n : Nat) : Fld := ⟨(Reg.REG.FOR_CNT d n), 0, 32⟩

/-- REG ASUM (spec/05_waveform_adcs.md R152). -/
def Reg.REG.ASUM (d n : Nat) : Nat := Reg.REG.base d n + 0x180
def Reg.REG.ASUM_EN (d n : Nat) : Fld := ⟨(Reg.REG.ASUM d n), 0, 1⟩
def Reg.REG.ASUM_BANDSUM (d n : Nat) : Fld := ⟨(Reg.REG.ASUM d n), 1, 1⟩
def Reg.REG.ASUM_SHAPE (d n : Nat) : Fld := ⟨(Reg.REG.ASUM d n), 4, 2⟩
def Reg.REG.ASUM_BASE_TRIM (d n : Nat) : Fld := ⟨(Reg.REG.ASUM d n), 8, 6⟩

/-! ### The sealed domain page -/

/-- Address of the page (R479). -/
def Reg.SEA0.base : Nat := 0x1800000

/-- SEA0 SUMMARY (spec/15_sealed_domain_security.md R522). -/
def Reg.SEA0.SUMMARY : Nat := 0x1800020
def Reg.SEA0.SUMMARY_STATE : Fld := ⟨Reg.SEA0.SUMMARY, 0, 2⟩

/-- SEA0 CMD (spec/15_sealed_domain_security.md R522). -/
def Reg.SEA0.CMD : Nat := 0x1800040
def Reg.SEA0.CMD_CODE : Fld := ⟨Reg.SEA0.CMD, 0, 4⟩

/-- SEA0 STATUS (spec/15_sealed_domain_security.md R522). -/
def Reg.SEA0.STATUS : Nat := 0x1800044
def Reg.SEA0.STATUS_STATE : Fld := ⟨Reg.SEA0.STATUS, 0, 2⟩
def Reg.SEA0.STATUS_SVC_WINDOW : Fld := ⟨Reg.SEA0.STATUS, 2, 1⟩
def Reg.SEA0.STATUS_STORE_BUSY : Fld := ⟨Reg.SEA0.STATUS, 3, 1⟩
def Reg.SEA0.STATUS_REFUSE_REASON : Fld := ⟨Reg.SEA0.STATUS, 4, 4⟩
def Reg.SEA0.STATUS_IMAGE : Fld := ⟨Reg.SEA0.STATUS, 8, 3⟩

/-- SEA0 UNSEAL (spec/15_sealed_domain_security.md R522). -/
def Reg.SEA0.UNSEAL : Nat := 0x1800048
def Reg.SEA0.UNSEAL_COUNTER : Fld := ⟨Reg.SEA0.UNSEAL, 0, 32⟩

/-- SEA0 COUNTER (spec/15_sealed_domain_security.md R522). -/
def Reg.SEA0.COUNTER : Nat := 0x180004C
def Reg.SEA0.COUNTER_COUNT : Fld := ⟨Reg.SEA0.COUNTER, 0, 32⟩

/-- SEA0 POLICY (spec/15_sealed_domain_security.md R522). -/
def Reg.SEA0.POLICY : Nat := 0x1800050
def Reg.SEA0.POLICY_SEAL_KEY : Fld := ⟨Reg.SEA0.POLICY, 0, 2⟩
def Reg.SEA0.POLICY_SVC_RESEAL : Fld := ⟨Reg.SEA0.POLICY, 4, 1⟩

/-- SEA0 ACT_FRAME_LO (spec/15_sealed_domain_security.md R522). -/
def Reg.SEA0.ACT_FRAME_LO : Nat := 0x1800054
def Reg.SEA0.ACT_FRAME_LO_FRAME : Fld := ⟨Reg.SEA0.ACT_FRAME_LO, 0, 32⟩

/-- SEA0 ACT_FRAME_HI (spec/15_sealed_domain_security.md R522). -/
def Reg.SEA0.ACT_FRAME_HI : Nat := 0x1800058
def Reg.SEA0.ACT_FRAME_HI_FRAME : Fld := ⟨Reg.SEA0.ACT_FRAME_HI, 0, 8⟩

/-- SEA0 MAC (spec/15_sealed_domain_security.md R522). -/
def Reg.SEA0.MAC (i : Nat) : Nat := 0x1800060 + 0x4 * i
def Reg.SEA0.MAC_MAC (i : Nat) : Fld := ⟨(Reg.SEA0.MAC i), 0, 32⟩

/-- SEA0 SLOG_ADDR (spec/15_sealed_domain_security.md R522). -/
def Reg.SEA0.SLOG_ADDR : Nat := 0x1800080
def Reg.SEA0.SLOG_ADDR_ENTRY : Fld := ⟨Reg.SEA0.SLOG_ADDR, 0, 6⟩
def Reg.SEA0.SLOG_ADDR_WORD : Fld := ⟨Reg.SEA0.SLOG_ADDR, 8, 3⟩

/-- SEA0 SLOG_DATA_LO (spec/15_sealed_domain_security.md R522). -/
def Reg.SEA0.SLOG_DATA_LO : Nat := 0x1800084
def Reg.SEA0.SLOG_DATA_LO_DATA : Fld := ⟨Reg.SEA0.SLOG_DATA_LO, 0, 32⟩

/-- SEA0 SLOG_DATA_HI (spec/15_sealed_domain_security.md R522). -/
def Reg.SEA0.SLOG_DATA_HI : Nat := 0x1800088
def Reg.SEA0.SLOG_DATA_HI_DATA : Fld := ⟨Reg.SEA0.SLOG_DATA_HI, 0, 32⟩

/-- SEA0 CNT_SEALS (spec/15_sealed_domain_security.md R522). -/
def Reg.SEA0.CNT_SEALS : Nat := 0x1800100
def Reg.SEA0.CNT_SEALS_COUNT : Fld := ⟨Reg.SEA0.CNT_SEALS, 0, 32⟩

/-- SEA0 CNT_REFUSED_WRITE (spec/15_sealed_domain_security.md R522). -/
def Reg.SEA0.CNT_REFUSED_WRITE : Nat := 0x1800104
def Reg.SEA0.CNT_REFUSED_WRITE_COUNT : Fld := ⟨Reg.SEA0.CNT_REFUSED_WRITE, 0, 32⟩

/-- SEA0 CNT_ABORT (spec/15_sealed_domain_security.md R522). -/
def Reg.SEA0.CNT_ABORT : Nat := 0x1800108
def Reg.SEA0.CNT_ABORT_COUNT : Fld := ⟨Reg.SEA0.CNT_ABORT, 0, 32⟩

/-! ### The sealed domain, instance 1 page -/

/-- Address of the page (R479). -/
def Reg.SEA1.base : Nat := 0x1801000

/-- SEA1 INJCAL (spec/15_sealed_domain_security.md R523). -/
def Reg.SEA1.INJCAL (i : Nat) : Nat := 0x1801040 + 0x4 * i
def Reg.SEA1.INJCAL_ZERO (i : Nat) : Fld := ⟨(Reg.SEA1.INJCAL i), 0, 16⟩
def Reg.SEA1.INJCAL_SLOPE (i : Nat) : Fld := ⟨(Reg.SEA1.INJCAL i), 16, 16⟩

/-- SEA1 TRIM_REFRESH (spec/15_sealed_domain_security.md R523). -/
def Reg.SEA1.TRIM_REFRESH : Nat := 0x1801050
def Reg.SEA1.TRIM_REFRESH_SECONDS : Fld := ⟨Reg.SEA1.TRIM_REFRESH, 0, 8⟩

/-- SEA1 CNT_TRIM_FIX (spec/15_sealed_domain_security.md R523). -/
def Reg.SEA1.CNT_TRIM_FIX : Nat := 0x1801054
def Reg.SEA1.CNT_TRIM_FIX_COUNT : Fld := ⟨Reg.SEA1.CNT_TRIM_FIX, 0, 32⟩

/-! ### The correction record page -/

/-- Address of the page (R479). -/
def Reg.TIM1.base : Nat := 0x1802000

/-- TIM1 CORR_ADDR (spec/03_time_measurement.md R117). -/
def Reg.TIM1.CORR_ADDR : Nat := 0x1802040
def Reg.TIM1.CORR_ADDR_CLUSTER : Fld := ⟨Reg.TIM1.CORR_ADDR, 0, 15⟩
def Reg.TIM1.CORR_ADDR_WORD : Fld := ⟨Reg.TIM1.CORR_ADDR, 16, 7⟩
def Reg.TIM1.CORR_ADDR_AUTOINC : Fld := ⟨Reg.TIM1.CORR_ADDR, 30, 1⟩

/-- TIM1 CORR_DATA (spec/03_time_measurement.md R117). -/
def Reg.TIM1.CORR_DATA : Nat := 0x1802044
def Reg.TIM1.CORR_DATA_DATA : Fld := ⟨Reg.TIM1.CORR_DATA, 0, 16⟩

/-- TIM1 CORR_VALID_COUNT (spec/03_time_measurement.md R117). -/
def Reg.TIM1.CORR_VALID_COUNT : Nat := 0x1802048
def Reg.TIM1.CORR_VALID_COUNT_COUNT : Fld := ⟨Reg.TIM1.CORR_VALID_COUNT, 0, 16⟩

/-! ### The converter coefficient page -/

/-- Address of the page (R479). -/
def Reg.COEF.base : Nat := 0x1803000

/-- COEF COEF_ADDR (spec/05_waveform_adcs.md R183). -/
def Reg.COEF.COEF_ADDR : Nat := 0x1803040
def Reg.COEF.COEF_ADDR_INDEX : Fld := ⟨Reg.COEF.COEF_ADDR, 0, 13⟩
def Reg.COEF.COEF_ADDR_AUTOINC : Fld := ⟨Reg.COEF.COEF_ADDR, 30, 1⟩

/-- COEF COEF_DATA (spec/05_waveform_adcs.md R183). -/
def Reg.COEF.COEF_DATA : Nat := 0x1803044
def Reg.COEF.COEF_DATA_DATA : Fld := ⟨Reg.COEF.COEF_DATA, 0, 16⟩

/-! ### The ring control block pages -/

/-- Address of the page (R479, R461, R457). -/
def Reg.RING.base (r : Nat) : Nat := (0x2000000 + 0x1000 * r)

/-- RING RING_BASE_LO (spec/14_host_interface.md R461). -/
def Reg.RING.RING_BASE_LO (r : Nat) : Nat := Reg.RING.base r + 0x0
def Reg.RING.RING_BASE_LO_ADDR (r : Nat) : Fld := ⟨(Reg.RING.RING_BASE_LO r), 0, 32⟩

/-- RING RING_BASE_HI (spec/14_host_interface.md R461). -/
def Reg.RING.RING_BASE_HI (r : Nat) : Nat := Reg.RING.base r + 0x4
def Reg.RING.RING_BASE_HI_ADDR (r : Nat) : Fld := ⟨(Reg.RING.RING_BASE_HI r), 0, 32⟩

/-- RING RING_SIZE (spec/14_host_interface.md R461). -/
def Reg.RING.RING_SIZE (r : Nat) : Nat := Reg.RING.base r + 0x8
def Reg.RING.RING_SIZE_LOG2 (r : Nat) : Fld := ⟨(Reg.RING.RING_SIZE r), 0, 5⟩

/-- RING RING_CTRL (spec/14_host_interface.md R461). -/
def Reg.RING.RING_CTRL (r : Nat) : Nat := Reg.RING.base r + 0xC
def Reg.RING.RING_CTRL_EN (r : Nat) : Fld := ⟨(Reg.RING.RING_CTRL r), 0, 1⟩
def Reg.RING.RING_CTRL_ABORT (r : Nat) : Fld := ⟨(Reg.RING.RING_CTRL r), 1, 1⟩
def Reg.RING.RING_CTRL_RESET (r : Nat) : Fld := ⟨(Reg.RING.RING_CTRL r), 2, 1⟩
def Reg.RING.RING_CTRL_WB_EN (r : Nat) : Fld := ⟨(Reg.RING.RING_CTRL r), 3, 1⟩

/-- RING WB_ADDR_LO (spec/14_host_interface.md R461). -/
def Reg.RING.WB_ADDR_LO (r : Nat) : Nat := Reg.RING.base r + 0x10
def Reg.RING.WB_ADDR_LO_ADDR (r : Nat) : Fld := ⟨(Reg.RING.WB_ADDR_LO r), 0, 32⟩

/-- RING WB_ADDR_HI (spec/14_host_interface.md R461). -/
def Reg.RING.WB_ADDR_HI (r : Nat) : Nat := Reg.RING.base r + 0x14
def Reg.RING.WB_ADDR_HI_ADDR (r : Nat) : Fld := ⟨(Reg.RING.WB_ADDR_HI r), 0, 32⟩

/-- RING TIMEOUT (spec/14_host_interface.md R461). -/
def Reg.RING.TIMEOUT (r : Nat) : Nat := Reg.RING.base r + 0x18
def Reg.RING.TIMEOUT_US (r : Nat) : Fld := ⟨(Reg.RING.TIMEOUT r), 0, 16⟩

/-- RING TAIL (spec/14_host_interface.md R461). -/
def Reg.RING.TAIL (r : Nat) : Nat := Reg.RING.base r + 0x20
def Reg.RING.TAIL_COUNT (r : Nat) : Fld := ⟨(Reg.RING.TAIL r), 0, 32⟩

/-- RING HEAD (spec/14_host_interface.md R461). -/
def Reg.RING.HEAD (r : Nat) : Nat := Reg.RING.base r + 0x24
def Reg.RING.HEAD_COUNT (r : Nat) : Fld := ⟨(Reg.RING.HEAD r), 0, 32⟩

/-- RING FETCH (spec/14_host_interface.md R461). -/
def Reg.RING.FETCH (r : Nat) : Nat := Reg.RING.base r + 0x28
def Reg.RING.FETCH_COUNT (r : Nat) : Fld := ⟨(Reg.RING.FETCH r), 0, 32⟩

/-- RING RING_STATUS (spec/14_host_interface.md R461). -/
def Reg.RING.RING_STATUS (r : Nat) : Nat := Reg.RING.base r + 0x2C
def Reg.RING.RING_STATUS_ACTIVE (r : Nat) : Fld := ⟨(Reg.RING.RING_STATUS r), 0, 1⟩
def Reg.RING.RING_STATUS_STARVED (r : Nat) : Fld := ⟨(Reg.RING.RING_STATUS r), 1, 1⟩
def Reg.RING.RING_STATUS_ERROR (r : Nat) : Fld := ⟨(Reg.RING.RING_STATUS r), 2, 1⟩
def Reg.RING.RING_STATUS_LAST (r : Nat) : Fld := ⟨(Reg.RING.RING_STATUS r), 4, 4⟩
def Reg.RING.RING_STATUS_TAIL_ERR (r : Nat) : Fld := ⟨(Reg.RING.RING_STATUS r), 8, 1⟩

/-- RING CNT_DESC (spec/14_host_interface.md R461). -/
def Reg.RING.CNT_DESC (r : Nat) : Nat := Reg.RING.base r + 0x30
def Reg.RING.CNT_DESC_COUNT (r : Nat) : Fld := ⟨(Reg.RING.CNT_DESC r), 0, 32⟩

/-- RING CNT_KIB (spec/14_host_interface.md R461). -/
def Reg.RING.CNT_KIB (r : Nat) : Nat := Reg.RING.base r + 0x34
def Reg.RING.CNT_KIB_COUNT (r : Nat) : Fld := ⟨(Reg.RING.CNT_KIB r), 0, 32⟩

/-! ### The DSP core-local I/O pages -/

/-- Address of the page (R479, R329). -/
def Reg.DSPIO.base (c : Nat) : Nat := (0x3000000 + 0x100000 * c)

/-- DSPIO IMASK (spec/09_dsp_cores.md R329). -/
def Reg.DSPIO.IMASK (c : Nat) : Nat := Reg.DSPIO.base c + 0x0
def Reg.DSPIO.IMASK_MASK (c : Nat) : Fld := ⟨(Reg.DSPIO.IMASK c), 4, 4⟩

/-- DSPIO IPEND (spec/09_dsp_cores.md R329). -/
def Reg.DSPIO.IPEND (c : Nat) : Nat := Reg.DSPIO.base c + 0x4
def Reg.DSPIO.IPEND_STREAM (c : Nat) : Fld := ⟨(Reg.DSPIO.IPEND c), 4, 1⟩
def Reg.DSPIO.IPEND_TIMER (c : Nat) : Fld := ⟨(Reg.DSPIO.IPEND c), 5, 1⟩
def Reg.DSPIO.IPEND_MBX (c : Nat) : Fld := ⟨(Reg.DSPIO.IPEND c), 6, 1⟩
def Reg.DSPIO.IPEND_FABRIC (c : Nat) : Fld := ⟨(Reg.DSPIO.IPEND c), 7, 1⟩

/-- DSPIO STPEND (spec/09_dsp_cores.md R329). -/
def Reg.DSPIO.STPEND (c : Nat) : Nat := Reg.DSPIO.base c + 0x8
def Reg.DSPIO.STPEND_PEND (c : Nat) : Fld := ⟨(Reg.DSPIO.STPEND c), 0, 8⟩

/-- DSPIO STMASK (spec/09_dsp_cores.md R329). -/
def Reg.DSPIO.STMASK (c : Nat) : Nat := Reg.DSPIO.base c + 0xC
def Reg.DSPIO.STMASK_MASK (c : Nat) : Fld := ⟨(Reg.DSPIO.STMASK c), 0, 8⟩

/-- DSPIO TRAPNO (spec/09_dsp_cores.md R329). -/
def Reg.DSPIO.TRAPNO (c : Nat) : Nat := Reg.DSPIO.base c + 0x10
def Reg.DSPIO.TRAPNO_N (c : Nat) : Fld := ⟨(Reg.DSPIO.TRAPNO c), 0, 4⟩

/-- DSPIO TMR_PERIOD (spec/09_dsp_cores.md R329). -/
def Reg.DSPIO.TMR_PERIOD (c : Nat) : Nat := Reg.DSPIO.base c + 0x14
def Reg.DSPIO.TMR_PERIOD_CYCLES (c : Nat) : Fld := ⟨(Reg.DSPIO.TMR_PERIOD c), 0, 24⟩

/-- DSPIO TMR_COUNT (spec/09_dsp_cores.md R329). -/
def Reg.DSPIO.TMR_COUNT (c : Nat) : Nat := Reg.DSPIO.base c + 0x18
def Reg.DSPIO.TMR_COUNT_CYCLES (c : Nat) : Fld := ⟨(Reg.DSPIO.TMR_COUNT c), 0, 24⟩

/-- DSPIO RES_PUSH (spec/09_dsp_cores.md R329). -/
def Reg.DSPIO.RES_PUSH (c : Nat) : Nat := Reg.DSPIO.base c + 0x20
def Reg.DSPIO.RES_PUSH_DATA (c : Nat) : Fld := ⟨(Reg.DSPIO.RES_PUSH c), 0, 24⟩

/-- DSPIO RES_TAG (spec/09_dsp_cores.md R329). -/
def Reg.DSPIO.RES_TAG (c : Nat) : Nat := Reg.DSPIO.base c + 0x24
def Reg.DSPIO.RES_TAG_TAG (c : Nat) : Fld := ⟨(Reg.DSPIO.RES_TAG c), 0, 7⟩

/-- DSPIO MBX_POP (spec/09_dsp_cores.md R329). -/
def Reg.DSPIO.MBX_POP (c : Nat) : Nat := Reg.DSPIO.base c + 0x28
def Reg.DSPIO.MBX_POP_DATA (c : Nat) : Fld := ⟨(Reg.DSPIO.MBX_POP c), 0, 24⟩

/-- DSPIO MBX_LEVEL (spec/09_dsp_cores.md R329). -/
def Reg.DSPIO.MBX_LEVEL (c : Nat) : Nat := Reg.DSPIO.base c + 0x2C
def Reg.DSPIO.MBX_LEVEL_COUNT (c : Nat) : Fld := ⟨(Reg.DSPIO.MBX_LEVEL c), 0, 9⟩

/-- DSPIO RES_LEVEL (spec/09_dsp_cores.md R329). -/
def Reg.DSPIO.RES_LEVEL (c : Nat) : Nat := Reg.DSPIO.base c + 0x30
def Reg.DSPIO.RES_LEVEL_COUNT (c : Nat) : Fld := ⟨(Reg.DSPIO.RES_LEVEL c), 0, 9⟩

/-- DSPIO FAB_ADDR_LO (spec/09_dsp_cores.md R329). -/
def Reg.DSPIO.FAB_ADDR_LO (c : Nat) : Nat := Reg.DSPIO.base c + 0x40
def Reg.DSPIO.FAB_ADDR_LO_ADDR (c : Nat) : Fld := ⟨(Reg.DSPIO.FAB_ADDR_LO c), 0, 16⟩

/-- DSPIO FAB_ADDR_HI (spec/09_dsp_cores.md R329). -/
def Reg.DSPIO.FAB_ADDR_HI (c : Nat) : Nat := Reg.DSPIO.base c + 0x44
def Reg.DSPIO.FAB_ADDR_HI_ADDR (c : Nat) : Fld := ⟨(Reg.DSPIO.FAB_ADDR_HI c), 0, 9⟩

/-- DSPIO FAB_WDATA_LO (spec/09_dsp_cores.md R329). -/
def Reg.DSPIO.FAB_WDATA_LO (c : Nat) : Nat := Reg.DSPIO.base c + 0x48
def Reg.DSPIO.FAB_WDATA_LO_DATA (c : Nat) : Fld := ⟨(Reg.DSPIO.FAB_WDATA_LO c), 0, 16⟩

/-- DSPIO FAB_WDATA_HI (spec/09_dsp_cores.md R329). -/
def Reg.DSPIO.FAB_WDATA_HI (c : Nat) : Nat := Reg.DSPIO.base c + 0x4C
def Reg.DSPIO.FAB_WDATA_HI_DATA (c : Nat) : Fld := ⟨(Reg.DSPIO.FAB_WDATA_HI c), 0, 16⟩

/-- DSPIO FAB_CMD (spec/09_dsp_cores.md R329). -/
def Reg.DSPIO.FAB_CMD (c : Nat) : Nat := Reg.DSPIO.base c + 0x50
def Reg.DSPIO.FAB_CMD_CMD (c : Nat) : Fld := ⟨(Reg.DSPIO.FAB_CMD c), 0, 2⟩

/-- DSPIO FAB_RDATA_LO (spec/09_dsp_cores.md R329). -/
def Reg.DSPIO.FAB_RDATA_LO (c : Nat) : Nat := Reg.DSPIO.base c + 0x54
def Reg.DSPIO.FAB_RDATA_LO_DATA (c : Nat) : Fld := ⟨(Reg.DSPIO.FAB_RDATA_LO c), 0, 16⟩

/-- DSPIO FAB_RDATA_HI (spec/09_dsp_cores.md R329). -/
def Reg.DSPIO.FAB_RDATA_HI (c : Nat) : Nat := Reg.DSPIO.base c + 0x58
def Reg.DSPIO.FAB_RDATA_HI_DATA (c : Nat) : Fld := ⟨(Reg.DSPIO.FAB_RDATA_HI c), 0, 16⟩

/-- DSPIO FAB_STATUS (spec/09_dsp_cores.md R329). -/
def Reg.DSPIO.FAB_STATUS (c : Nat) : Nat := Reg.DSPIO.base c + 0x5C
def Reg.DSPIO.FAB_STATUS_ERROR (c : Nat) : Fld := ⟨(Reg.DSPIO.FAB_STATUS c), 0, 1⟩
def Reg.DSPIO.FAB_STATUS_REFUSED (c : Nat) : Fld := ⟨(Reg.DSPIO.FAB_STATUS c), 1, 1⟩

/-- DSPIO WR_STREAM (spec/09_dsp_cores.md R329). -/
def Reg.DSPIO.WR_STREAM (c : Nat) : Nat := Reg.DSPIO.base c + 0x80
def Reg.DSPIO.WR_STREAM_STREAM (c : Nat) : Fld := ⟨(Reg.DSPIO.WR_STREAM c), 0, 3⟩

/-- DSPIO WR_INDEX (spec/09_dsp_cores.md R329). -/
def Reg.DSPIO.WR_INDEX (c : Nat) : Nat := Reg.DSPIO.base c + 0x84
def Reg.DSPIO.WR_INDEX_SLOT (c : Nat) : Fld := ⟨(Reg.DSPIO.WR_INDEX c), 0, 11⟩

/-- DSPIO WR_N (spec/09_dsp_cores.md R329). -/
def Reg.DSPIO.WR_N (c : Nat) : Nat := Reg.DSPIO.base c + 0x88
def Reg.DSPIO.WR_N_N (c : Nat) : Fld := ⟨(Reg.DSPIO.WR_N c), 0, 9⟩

/-- DSPIO WR_GO (spec/09_dsp_cores.md R329). -/
def Reg.DSPIO.WR_GO (c : Nat) : Nat := Reg.DSPIO.base c + 0x8C
def Reg.DSPIO.WR_GO_DATA (c : Nat) : Fld := ⟨(Reg.DSPIO.WR_GO c), 0, 24⟩

/-- DSPIO WR_STATUS (spec/09_dsp_cores.md R329). -/
def Reg.DSPIO.WR_STATUS (c : Nat) : Nat := Reg.DSPIO.base c + 0x90
def Reg.DSPIO.WR_STATUS_QUEUED (c : Nat) : Fld := ⟨(Reg.DSPIO.WR_STATUS c), 0, 3⟩
def Reg.DSPIO.WR_STATUS_LAST (c : Nat) : Fld := ⟨(Reg.DSPIO.WR_STATUS c), 4, 3⟩
def Reg.DSPIO.WR_STATUS_OVERRUN (c : Nat) : Fld := ⟨(Reg.DSPIO.WR_STATUS c), 8, 1⟩

/-- DSPIO CORE_ID (spec/09_dsp_cores.md R329). -/
def Reg.DSPIO.CORE_ID (c : Nat) : Nat := Reg.DSPIO.base c + 0xC0
def Reg.DSPIO.CORE_ID_ID (c : Nat) : Fld := ⟨(Reg.DSPIO.CORE_ID c), 0, 2⟩

/-- DSPIO NOW0 (spec/09_dsp_cores.md R329). -/
def Reg.DSPIO.NOW0 (c : Nat) : Nat := Reg.DSPIO.base c + 0xC4
def Reg.DSPIO.NOW0_CT (c : Nat) : Fld := ⟨(Reg.DSPIO.NOW0 c), 0, 24⟩

/-- DSPIO NOW1 (spec/09_dsp_cores.md R329). -/
def Reg.DSPIO.NOW1 (c : Nat) : Nat := Reg.DSPIO.base c + 0xC8
def Reg.DSPIO.NOW1_CT (c : Nat) : Fld := ⟨(Reg.DSPIO.NOW1 c), 0, 24⟩

/-- DSPIO NOW2 (spec/09_dsp_cores.md R329). -/
def Reg.DSPIO.NOW2 (c : Nat) : Nat := Reg.DSPIO.base c + 0xCC
def Reg.DSPIO.NOW2_CT (c : Nat) : Fld := ⟨(Reg.DSPIO.NOW2 c), 0, 10⟩

/-- DSPIO ST_WPTR (spec/09_dsp_cores.md R329). -/
def Reg.DSPIO.ST_WPTR (c i : Nat) : Nat := Reg.DSPIO.base c + 0x100 + 0x20 * i
def Reg.DSPIO.ST_WPTR_SLOT (c i : Nat) : Fld := ⟨(Reg.DSPIO.ST_WPTR c i), 0, 11⟩

/-- DSPIO ST_TIME_LO (spec/09_dsp_cores.md R329). -/
def Reg.DSPIO.ST_TIME_LO (c i : Nat) : Nat := Reg.DSPIO.base c + 0x104 + 0x20 * i
def Reg.DSPIO.ST_TIME_LO_TIME (c i : Nat) : Fld := ⟨(Reg.DSPIO.ST_TIME_LO c i), 0, 16⟩

/-- DSPIO ST_TIME_HI (spec/09_dsp_cores.md R329). -/
def Reg.DSPIO.ST_TIME_HI (c i : Nat) : Nat := Reg.DSPIO.base c + 0x108 + 0x20 * i
def Reg.DSPIO.ST_TIME_HI_TIME (c i : Nat) : Fld := ⟨(Reg.DSPIO.ST_TIME_HI c i), 0, 16⟩

/-- DSPIO ST_STATUS (spec/09_dsp_cores.md R329). -/
def Reg.DSPIO.ST_STATUS (c i : Nat) : Nat := Reg.DSPIO.base c + 0x10C + 0x20 * i
def Reg.DSPIO.ST_STATUS_RUNNING (c i : Nat) : Fld := ⟨(Reg.DSPIO.ST_STATUS c i), 0, 1⟩
def Reg.DSPIO.ST_STATUS_GAP (c i : Nat) : Fld := ⟨(Reg.DSPIO.ST_STATUS c i), 1, 1⟩

/-- DSPIO ST_MARK (spec/09_dsp_cores.md R329). -/
def Reg.DSPIO.ST_MARK (c i : Nat) : Nat := Reg.DSPIO.base c + 0x110 + 0x20 * i
def Reg.DSPIO.ST_MARK_COUNT (c i : Nat) : Fld := ⟨(Reg.DSPIO.ST_MARK c i), 0, 12⟩

/-- DSPIO ST_ADDR (spec/09_dsp_cores.md R329). -/
def Reg.DSPIO.ST_ADDR (c i : Nat) : Nat := Reg.DSPIO.base c + 0x114 + 0x20 * i
def Reg.DSPIO.ST_ADDR_ADDR (c i : Nat) : Fld := ⟨(Reg.DSPIO.ST_ADDR c i), 0, 16⟩

/-! ### The descriptions, page by page -/

def Reg.HLT.table0 : List RegD := [
  ⟨0x20, 1, 0x4, [⟨0, 2, .ro⟩, ⟨8, 1, .ro⟩]⟩,
  ⟨0x40, 1, 0x4, [⟨0, 2, .rw⟩]⟩,
  ⟨0x44, 1, 0x4, [⟨0, 2, .ro⟩, ⟨8, 6, .ro⟩, ⟨16, 1, .ro⟩, ⟨17, 4, .ro⟩]⟩,
  ⟨0x48, 1, 0x4, [⟨0, 3, .ro⟩]⟩,
  ⟨0x4C, 1, 0x4, [⟨0, 32, .wo⟩]⟩,
  ⟨0x50, 1, 0x4, [⟨0, 6, .w1c⟩, ⟨8, 6, .ro⟩, ⟨16, 1, .ro⟩]⟩,
  ⟨0x54, 1, 0x4, [⟨0, 16, .ro⟩, ⟨16, 16, .ro⟩]⟩,
  ⟨0x58, 1, 0x4, [⟨0, 32, .ro⟩]⟩,
  ⟨0x5C, 1, 0x4, [⟨0, 32, .ro⟩]⟩,
  ⟨0x60, 5, 0x4, [⟨0, 14, .ro⟩, ⟨16, 1, .ro⟩]⟩,
  ⟨0x78, 1, 0x4, [⟨0, 1, .w1s⟩, ⟨1, 1, .ro⟩]⟩,
  ⟨0x80, 1, 0x4, [⟨0, 32, .ro⟩]⟩,
  ⟨0x84, 1, 0x4, [⟨0, 32, .ro⟩]⟩,
  ⟨0x88, 1, 0x4, [⟨0, 32, .ro⟩]⟩,
  ⟨0x8C, 1, 0x4, [⟨0, 32, .ro⟩]⟩,
  ⟨0x90, 1, 0x4, [⟨0, 32, .ro⟩]⟩,
  ⟨0x94, 1, 0x4, [⟨0, 32, .ro⟩]⟩,
  ⟨0x98, 1, 0x4, [⟨0, 32, .rw⟩]⟩,
  ⟨0xA0, 1, 0x4, [⟨0, 24, .rw⟩, ⟨24, 3, .rw⟩, ⟨30, 1, .rw⟩]⟩,
  ⟨0xA4, 1, 0x4, [⟨0, 32, .ro⟩]⟩,
  ⟨0xA8, 1, 0x4, [⟨0, 24, .ro⟩]⟩,
  ⟨0xAC, 1, 0x4, [⟨0, 32, .ro⟩]⟩]

/-- Every register of the page but the header. -/
def Reg.HLT.table : List RegD := Reg.HLT.table0

/-- The registers of the page whose reset word is not 0: offset, count, stride, word. -/
def Reg.HLT.resets : List (Nat × Nat × Nat × Nat) := [(0x44, 1, 0x4, 0x3F00), (0x48, 1, 0x4, 0x1), (0x98, 1, 0x4, 0x186A0), (0xA0, 1, 0x4, 0x40000000)]

def Reg.PCI.table0 : List RegD := [
  ⟨0x20, 1, 0x4, [⟨0, 10, .ro⟩, ⟨16, 1, .ro⟩]⟩,
  ⟨0x40, 1, 0x4, [⟨0, 1, .rw⟩]⟩,
  ⟨0x44, 1, 0x4, [⟨0, 4, .ro⟩, ⟨4, 5, .ro⟩, ⟨16, 1, .ro⟩, ⟨17, 1, .ro⟩]⟩,
  ⟨0x48, 1, 0x4, [⟨0, 32, .ro⟩]⟩,
  ⟨0x4C, 1, 0x4, [⟨0, 32, .ro⟩]⟩,
  ⟨0x50, 1, 0x4, [⟨0, 32, .ro⟩]⟩,
  ⟨0x54, 1, 0x4, [⟨0, 32, .ro⟩]⟩,
  ⟨0x58, 1, 0x4, [⟨0, 32, .ro⟩]⟩,
  ⟨0x5C, 1, 0x4, [⟨0, 32, .ro⟩]⟩,
  ⟨0x60, 1, 0x4, [⟨0, 32, .ro⟩]⟩]

/-- Every register of the page but the header. -/
def Reg.PCI.table : List RegD := Reg.PCI.table0

/-- The registers of the page whose reset word is not 0: offset, count, stride, word. -/
def Reg.PCI.resets : List (Nat × Nat × Nat × Nat) := [(0x40, 1, 0x4, 0x1)]

def Reg.TIM0.table0 : List RegD := [
  ⟨0x40, 1, 0x4, [⟨0, 1, .rw⟩, ⟨1, 1, .rws⟩, ⟨4, 1, .w1s⟩]⟩,
  ⟨0x44, 1, 0x4, [⟨0, 1, .ro⟩, ⟨1, 3, .ro⟩, ⟨4, 1, .ro⟩, ⟨5, 1, .ro⟩, ⟨6, 1, .ro⟩, ⟨8, 4, .ro⟩]⟩,
  ⟨0x48, 1, 0x4, [⟨0, 18, .ro⟩]⟩,
  ⟨0x50, 1, 0x4, [⟨0, 2, .rw⟩]⟩,
  ⟨0x54, 1, 0x4, [⟨0, 18, .rw⟩]⟩,
  ⟨0x58, 1, 0x4, [⟨0, 32, .rw⟩]⟩,
  ⟨0x5C, 1, 0x4, [⟨0, 8, .rw⟩]⟩,
  ⟨0x60, 1, 0x4, [⟨0, 32, .ro⟩]⟩,
  ⟨0x64, 1, 0x4, [⟨0, 8, .ro⟩]⟩,
  ⟨0x68, 1, 0x4, [⟨0, 18, .ro⟩]⟩,
  ⟨0x6C, 1, 0x4, [⟨0, 16, .ro⟩]⟩,
  ⟨0x70, 1, 0x4, [⟨0, 18, .ro⟩]⟩,
  ⟨0x80, 4, 0x4, [⟨0, 16, .rws⟩]⟩,
  ⟨0xA0, 1, 0x4, [⟨0, 32, .ro⟩]⟩,
  ⟨0xA4, 1, 0x4, [⟨0, 32, .ro⟩]⟩,
  ⟨0xA8, 1, 0x4, [⟨0, 32, .ro⟩]⟩,
  ⟨0xAC, 1, 0x4, [⟨0, 32, .ro⟩]⟩,
  ⟨0xB0, 1, 0x4, [⟨0, 32, .ro⟩]⟩,
  ⟨0xB4, 1, 0x4, [⟨0, 32, .ro⟩]⟩,
  ⟨0xB8, 1, 0x4, [⟨0, 32, .ro⟩]⟩]

/-- Every register of the page but the header. -/
def Reg.TIM0.table : List RegD := Reg.TIM0.table0

/-- The registers of the page whose reset word is not 0: offset, count, stride, word. -/
def Reg.TIM0.resets : List (Nat × Nat × Nat × Nat) := [(0x40, 1, 0x4, 0x3), (0x44, 1, 0x4, 0x20)]

def Reg.EVC.table0 : List RegD := [
  ⟨0x40, 8, 0x4, [⟨0, 32, .ro⟩]⟩,
  ⟨0x60, 8, 0x4, [⟨0, 32, .ro⟩]⟩,
  ⟨0x80, 8, 0x4, [⟨0, 32, .wo⟩]⟩,
  ⟨0xA0, 1, 0x4, [⟨0, 32, .ro⟩]⟩,
  ⟨0xA4, 1, 0x4, [⟨0, 32, .ro⟩]⟩,
  ⟨0xA8, 1, 0x4, [⟨0, 32, .ro⟩]⟩,
  ⟨0xAC, 1, 0x4, [⟨0, 32, .ro⟩]⟩,
  ⟨0xB0, 1, 0x4, [⟨0, 6, .wo⟩]⟩,
  ⟨0xB4, 1, 0x4, [⟨0, 1, .ro⟩]⟩,
  ⟨0xC0, 1, 0x4, [⟨31, 1, .ro⟩, ⟨8, 16, .ro⟩, ⟨0, 8, .ro⟩]⟩,
  ⟨0xC4, 1, 0x4, [⟨0, 9, .ro⟩, ⟨16, 1, .w1c⟩]⟩,
  ⟨0xC8, 1, 0x4, [⟨0, 32, .ro⟩]⟩,
  ⟨0x300, 16, 0x4, [⟨0, 32, .ro⟩]⟩,
  ⟨0x800, 256, 0x4, [⟨0, 6, .rw⟩, ⟨8, 1, .rw⟩, ⟨9, 1, .rw⟩, ⟨10, 1, .rw⟩]⟩]

/-- Every register of the page but the header. -/
def Reg.EVC.table : List RegD := Reg.EVC.table0

/-- The registers of the page whose reset word is not 0: offset, count, stride, word. -/
def Reg.EVC.resets : List (Nat × Nat × Nat × Nat) := []

def Reg.THM.table0 : List RegD := [
  ⟨0x20, 1, 0x4, [⟨0, 12, .ro⟩, ⟨16, 7, .ro⟩, ⟨24, 1, .ro⟩, ⟨25, 1, .ro⟩]⟩,
  ⟨0x40, 1, 0x4, [⟨0, 8, .rw⟩, ⟨8, 8, .rw⟩]⟩,
  ⟨0x44, 1, 0x4, [⟨0, 16, .ro⟩, ⟨16, 1, .ro⟩, ⟨17, 1, .ro⟩, ⟨18, 4, .ro⟩]⟩,
  ⟨0x48, 1, 0x4, [⟨0, 12, .ro⟩, ⟨16, 1, .ro⟩]⟩,
  ⟨0x4C, 1, 0x4, [⟨0, 7, .ro⟩, ⟨8, 24, .ro⟩]⟩,
  ⟨0x50, 3, 0x4, [⟨0, 32, .w1s⟩]⟩,
  ⟨0x60, 3, 0x4, [⟨0, 32, .rw⟩]⟩,
  ⟨0x70, 1, 0x4, [⟨0, 4, .rw⟩, ⟨30, 1, .rw⟩]⟩,
  ⟨0x74, 1, 0x4, [⟨0, 32, .rw⟩]⟩,
  ⟨0x78, 1, 0x4, [⟨0, 32, .rw⟩]⟩,
  ⟨0x7C, 1, 0x4, [⟨0, 1, .w1s⟩, ⟨1, 1, .w1s⟩, ⟨8, 1, .ro⟩, ⟨10, 1, .ro⟩]⟩,
  ⟨0x80, 1, 0x4, [⟨0, 32, .ro⟩]⟩,
  ⟨0x84, 1, 0x4, [⟨0, 32, .ro⟩]⟩,
  ⟨0x88, 1, 0x4, [⟨0, 32, .ro⟩]⟩,
  ⟨0x100, 72, 0x4, [⟨0, 12, .ro⟩, ⟨12, 1, .ro⟩, ⟨13, 1, .ro⟩, ⟨14, 1, .ro⟩, ⟨15, 1, .ro⟩, ⟨16, 16, .ro⟩]⟩,
  ⟨0x300, 72, 0x4, [⟨0, 8, .rw⟩]⟩]

/-- Every register of the page but the header. -/
def Reg.THM.table : List RegD := Reg.THM.table0

/-- The registers of the page whose reset word is not 0: offset, count, stride, word. -/
def Reg.THM.resets : List (Nat × Nat × Nat × Nat) := [(0x44, 1, 0x4, 0x20000), (0x70, 1, 0x4, 0x40000000)]

def Reg.PWRD.table0 : List RegD := [
  ⟨0x20, 1, 0x4, [⟨0, 1, .ro⟩, ⟨8, 6, .ro⟩]⟩,
  ⟨0x40, 1, 0x4, [⟨0, 32, .rw⟩]⟩,
  ⟨0x44, 1, 0x4, [⟨0, 28, .rw⟩]⟩,
  ⟨0x48, 1, 0x4, [⟨0, 32, .ro⟩]⟩,
  ⟨0x4C, 1, 0x4, [⟨0, 28, .ro⟩]⟩,
  ⟨0x50, 1, 0x4, [⟨0, 16, .rw⟩]⟩,
  ⟨0x54, 1, 0x4, [⟨0, 6, .ro⟩, ⟨8, 4, .ro⟩]⟩,
  ⟨0x58, 1, 0x4, [⟨0, 7, .ro⟩]⟩,
  ⟨0x60, 1, 0x4, [⟨0, 32, .ro⟩]⟩,
  ⟨0x64, 1, 0x4, [⟨0, 32, .ro⟩]⟩,
  ⟨0x68, 1, 0x4, [⟨0, 32, .ro⟩]⟩,
  ⟨0x6C, 1, 0x4, [⟨0, 32, .ro⟩]⟩,
  ⟨0x70, 1, 0x4, [⟨0, 32, .ro⟩]⟩]

/-- Every register of the page but the header. -/
def Reg.PWRD.table : List RegD := Reg.PWRD.table0

/-- The registers of the page whose reset word is not 0: offset, count, stride, word. -/
def Reg.PWRD.resets : List (Nat × Nat × Nat × Nat) := [(0x40, 1, 0x4, 0x9), (0x48, 1, 0x4, 0x9), (0x50, 1, 0x4, 0xA)]

def Reg.MON.table0 : List RegD := [
  ⟨0x40, 1, 0x4, [⟨0, 1, .rw⟩, ⟨1, 1, .rw⟩, ⟨2, 1, .rw⟩, ⟨3, 1, .rw⟩, ⟨4, 1, .w1s⟩, ⟨8, 2, .rw⟩, ⟨10, 1, .rw⟩, ⟨16, 4, .rw⟩, ⟨20, 4, .rw⟩]⟩,
  ⟨0x44, 1, 0x4, [⟨0, 20, .rw⟩]⟩,
  ⟨0x48, 1, 0x4, [⟨0, 16, .rw⟩]⟩,
  ⟨0x4C, 1, 0x4, [⟨0, 1, .ro⟩, ⟨1, 1, .ro⟩, ⟨16, 4, .ro⟩]⟩,
  ⟨0x50, 1, 0x4, [⟨0, 32, .ro⟩]⟩,
  ⟨0x80, 16, 0x4, [⟨0, 5, .rw⟩, ⟨8, 2, .rw⟩]⟩,
  ⟨0xC0, 16, 0x4, [⟨0, 5, .rw⟩, ⟨8, 2, .rw⟩]⟩,
  ⟨0x100, 32, 0x4, [⟨0, 16, .ro⟩, ⟨16, 1, .ro⟩, ⟨17, 1, .ro⟩, ⟨18, 1, .ro⟩, ⟨19, 1, .ro⟩, ⟨24, 8, .ro⟩]⟩,
  ⟨0x180, 32, 0x4, [⟨0, 16, .rw⟩, ⟨16, 16, .rw⟩]⟩,
  ⟨0x200, 1, 0x4, [⟨0, 3, .wo⟩, ⟨4, 1, .rw⟩, ⟨8, 5, .rw⟩, ⟨16, 16, .rw⟩]⟩,
  ⟨0x204, 1, 0x4, [⟨0, 16, .ro⟩, ⟨16, 16, .ro⟩]⟩,
  ⟨0x208, 1, 0x4, [⟨1, 1, .ro⟩, ⟨2, 1, .ro⟩, ⟨4, 3, .ro⟩]⟩]

/-- Every register of the page but the header. -/
def Reg.MON.table : List RegD := Reg.MON.table0

/-- The registers of the page whose reset word is not 0: offset, count, stride, word. -/
def Reg.MON.resets : List (Nat × Nat × Nat × Nat) := [(0x40, 1, 0x4, 0x9), (0x44, 1, 0x4, 0x3E8), (0x48, 1, 0x4, 0x40), (0x180, 32, 0x4, 0xFFFF0000)]

def Reg.NVS.table0 : List RegD := [
  ⟨0x20, 1, 0x4, [⟨0, 5, .ro⟩, ⟨8, 1, .ro⟩]⟩,
  ⟨0x40, 1, 0x4, [⟨0, 5, .ro⟩, ⟨8, 5, .ro⟩, ⟨16, 11, .ro⟩]⟩,
  ⟨0x44, 1, 0x4, [⟨0, 11, .ro⟩]⟩,
  ⟨0x48, 1, 0x4, [⟨0, 32, .ro⟩]⟩,
  ⟨0x4C, 1, 0x4, [⟨0, 8, .ro⟩]⟩,
  ⟨0x100, 1, 0x4, [⟨0, 32, .ro⟩]⟩,
  ⟨0x104, 1, 0x4, [⟨0, 32, .ro⟩]⟩,
  ⟨0x108, 1, 0x4, [⟨0, 32, .ro⟩]⟩,
  ⟨0x10C, 1, 0x4, [⟨0, 32, .ro⟩]⟩,
  ⟨0x110, 1, 0x4, [⟨0, 32, .ro⟩]⟩]

/-- Every register of the page but the header. -/
def Reg.NVS.table : List RegD := Reg.NVS.table0

/-- The registers of the page whose reset word is not 0: offset, count, stride, word. -/
def Reg.NVS.resets : List (Nat × Nat × Nat × Nat) := []

def Reg.EVB.table0 : List RegD := [
  ⟨0x20, 1, 0x4, [⟨0, 11, .ro⟩, ⟨16, 1, .ro⟩, ⟨17, 1, .ro⟩]⟩,
  ⟨0x40, 1, 0x4, [⟨0, 1, .rw⟩]⟩,
  ⟨0x44, 1, 0x4, [⟨0, 4, .rw⟩, ⟨8, 4, .ro⟩]⟩,
  ⟨0x48, 1, 0x4, [⟨0, 6, .rw⟩]⟩,
  ⟨0x50, 1, 0x4, [⟨0, 17, .ro⟩, ⟨24, 1, .ro⟩]⟩,
  ⟨0x54, 1, 0x4, [⟨0, 32, .ro⟩]⟩,
  ⟨0x58, 1, 0x4, [⟨0, 32, .ro⟩]⟩,
  ⟨0x60, 1, 0x4, [⟨0, 14, .rw⟩, ⟨16, 14, .rw⟩]⟩,
  ⟨0x64, 1, 0x4, [⟨0, 14, .ro⟩, ⟨16, 1, .ro⟩, ⟨17, 1, .ro⟩, ⟨18, 1, .ro⟩]⟩,
  ⟨0x80, 8, 0x4, [⟨0, 11, .rw⟩]⟩,
  ⟨0xA0, 8, 0x4, [⟨0, 11, .ro⟩]⟩,
  ⟨0xC0, 1, 0x4, [⟨0, 11, .ro⟩]⟩,
  ⟨0xC4, 1, 0x4, [⟨0, 10, .rw⟩]⟩,
  ⟨0xC8, 1, 0x4, [⟨0, 32, .ro⟩]⟩,
  ⟨0xCC, 1, 0x4, [⟨0, 32, .ro⟩]⟩,
  ⟨0x100, 8, 0x4, [⟨0, 32, .rw⟩]⟩,
  ⟨0x140, 1, 0x4, [⟨0, 5, .rw⟩, ⟨30, 1, .rw⟩]⟩,
  ⟨0x144, 1, 0x4, [⟨0, 32, .rw⟩]⟩,
  ⟨0x148, 1, 0x4, [⟨0, 32, .rw⟩]⟩,
  ⟨0x14C, 1, 0x4, [⟨0, 1, .w1s⟩, ⟨8, 1, .ro⟩]⟩,
  ⟨0x180, 1, 0x4, [⟨0, 32, .ro⟩]⟩,
  ⟨0x184, 1, 0x4, [⟨0, 32, .ro⟩]⟩,
  ⟨0x188, 1, 0x4, [⟨0, 32, .ro⟩]⟩,
  ⟨0x18C, 1, 0x4, [⟨0, 32, .ro⟩]⟩,
  ⟨0x190, 1, 0x4, [⟨0, 32, .ro⟩]⟩]

def Reg.EVB.table1 : List RegD := [
  ⟨0x194, 1, 0x4, [⟨0, 32, .ro⟩]⟩,
  ⟨0x198, 1, 0x4, [⟨0, 32, .ro⟩]⟩,
  ⟨0x1A0, 8, 0x4, [⟨0, 32, .ro⟩]⟩,
  ⟨0x1C0, 8, 0x4, [⟨0, 32, .ro⟩]⟩,
  ⟨0x800, 1, 0x4, [⟨0, 4, .rw⟩, ⟨4, 4, .rw⟩, ⟨8, 1, .rw⟩, ⟨9, 1, .rw⟩, ⟨10, 1, .rw⟩]⟩,
  ⟨0x804, 1, 0x4, [⟨0, 4, .rw⟩, ⟨4, 4, .rw⟩, ⟨8, 1, .rw⟩, ⟨9, 1, .rw⟩, ⟨10, 1, .rw⟩]⟩,
  ⟨0x808, 1, 0x4, [⟨0, 1, .ro⟩, ⟨1, 1, .ro⟩, ⟨16, 11, .ro⟩]⟩,
  ⟨0x840, 16, 0x4, [⟨0, 32, .ro⟩]⟩,
  ⟨0x880, 16, 0x4, [⟨0, 32, .ro⟩]⟩,
  ⟨0x8C0, 4, 0x4, [⟨0, 32, .ro⟩]⟩]

/-- Every register of the page but the header. -/
def Reg.EVB.table : List RegD := Reg.EVB.table0 ++ Reg.EVB.table1

/-- The registers of the page whose reset word is not 0: offset, count, stride, word. -/
def Reg.EVB.resets : List (Nat × Nat × Nat × Nat) := [(0x48, 1, 0x4, 0x10), (0x60, 1, 0x4, 0x8001800), (0x80, 1, 0x4, 0x10), (0x84, 1, 0x4, 0x200), (0x88, 1, 0x4, 0x40), (0x8C, 1, 0x4, 0x100), (0x90, 1, 0x4, 0x40), (0x94, 1, 0x4, 0x40), (0xC0, 1, 0x4, 0x400), (0x140, 1, 0x4, 0x40000000), (0x800, 1, 0x4, 0x3FF), (0x808, 1, 0x4, 0x3)]

def Reg.TRG.table0 : List RegD := [
  ⟨0x20, 1, 0x4, [⟨0, 2, .ro⟩, ⟨2, 1, .ro⟩, ⟨8, 8, .ro⟩]⟩,
  ⟨0x40, 1, 0x4, [⟨0, 2, .rw⟩]⟩,
  ⟨0x44, 1, 0x4, [⟨0, 8, .rw⟩, ⟨30, 1, .rw⟩]⟩,
  ⟨0x48, 1, 0x4, [⟨0, 32, .rw⟩]⟩,
  ⟨0x4C, 1, 0x4, [⟨0, 32, .rw⟩]⟩,
  ⟨0x50, 1, 0x4, [⟨0, 1, .w1s⟩, ⟨8, 1, .ro⟩]⟩,
  ⟨0x54, 1, 0x4, [⟨0, 16, .wo⟩]⟩,
  ⟨0x58, 1, 0x4, [⟨0, 8, .rw⟩, ⟨8, 1, .rw⟩, ⟨9, 1, .rw⟩]⟩,
  ⟨0x60, 4, 0x4, [⟨0, 32, .rw⟩]⟩,
  ⟨0x80, 1, 0x4, [⟨0, 24, .ro⟩]⟩,
  ⟨0x84, 1, 0x4, [⟨0, 32, .ro⟩]⟩,
  ⟨0x88, 1, 0x4, [⟨0, 8, .ro⟩]⟩,
  ⟨0x90, 1, 0x4, [⟨0, 8, .ro⟩, ⟨8, 3, .ro⟩]⟩,
  ⟨0x94, 1, 0x4, [⟨0, 1, .w1s⟩]⟩,
  ⟨0x98, 1, 0x4, [⟨0, 32, .ro⟩]⟩,
  ⟨0x9C, 1, 0x4, [⟨0, 26, .ro⟩]⟩,
  ⟨0xA0, 1, 0x4, [⟨0, 2, .ro⟩]⟩,
  ⟨0x180, 1, 0x4, [⟨0, 32, .ro⟩]⟩,
  ⟨0x184, 1, 0x4, [⟨0, 32, .ro⟩]⟩,
  ⟨0x188, 1, 0x4, [⟨0, 32, .ro⟩]⟩,
  ⟨0x18C, 1, 0x4, [⟨0, 32, .ro⟩]⟩,
  ⟨0x190, 1, 0x4, [⟨0, 32, .ro⟩]⟩,
  ⟨0x194, 1, 0x4, [⟨0, 32, .ro⟩]⟩,
  ⟨0x198, 1, 0x4, [⟨0, 32, .ro⟩]⟩,
  ⟨0x19C, 1, 0x4, [⟨0, 32, .ro⟩]⟩]

def Reg.TRG.table1 : List RegD := [
  ⟨0x1A0, 1, 0x4, [⟨0, 32, .ro⟩]⟩,
  ⟨0x1A4, 1, 0x4, [⟨0, 32, .ro⟩]⟩,
  ⟨0x1A8, 1, 0x4, [⟨0, 32, .ro⟩]⟩,
  ⟨0x1AC, 1, 0x4, [⟨0, 32, .ro⟩]⟩,
  ⟨0x1B0, 1, 0x4, [⟨0, 32, .ro⟩]⟩,
  ⟨0x300, 8, 0x10, [⟨0, 1, .rw⟩, ⟨1, 1, .rw⟩, ⟨4, 4, .rw⟩, ⟨8, 5, .rw⟩, ⟨16, 5, .rw⟩, ⟨24, 5, .rw⟩]⟩,
  ⟨0x304, 8, 0x10, [⟨0, 32, .rw⟩]⟩,
  ⟨0x308, 8, 0x10, [⟨0, 32, .rw⟩]⟩,
  ⟨0x30C, 8, 0x10, [⟨0, 16, .rw⟩, ⟨16, 16, .ro⟩]⟩,
  ⟨0x400, 256, 0x4, [⟨0, 32, .rw⟩]⟩,
  ⟨0x800, 64, 0x8, [⟨0, 32, .ro⟩]⟩,
  ⟨0x804, 64, 0x8, [⟨0, 32, .ro⟩]⟩]

/-- Every register of the page but the header. -/
def Reg.TRG.table : List RegD := Reg.TRG.table0 ++ Reg.TRG.table1

/-- The registers of the page whose reset word is not 0: offset, count, stride, word. -/
def Reg.TRG.resets : List (Nat × Nat × Nat × Nat) := [(0x44, 1, 0x4, 0x40000000), (0x58, 1, 0x4, 0x8), (0x300, 8, 0x10, 0xA000000), (0x308, 8, 0x10, 0xFFFFFFFF), (0x30C, 8, 0x10, 0x1)]

def Reg.SEC.table0 : List RegD := [
  ⟨0x20, 1, 0x4, [⟨0, 1, .ro⟩, ⟨1, 1, .ro⟩, ⟨2, 1, .ro⟩]⟩,
  ⟨0x40, 4, 0x4, [⟨0, 1, .ro⟩, ⟨1, 1, .ro⟩, ⟨2, 3, .ro⟩]⟩,
  ⟨0x50, 1, 0x4, [⟨0, 2, .rw⟩, ⟨4, 3, .rw⟩, ⟨30, 1, .ro⟩, ⟨31, 1, .w1s⟩]⟩,
  ⟨0x54, 1, 0x4, [⟨0, 4, .rwa⟩]⟩,
  ⟨0x58, 1, 0x4, [⟨0, 10, .rwa⟩]⟩,
  ⟨0x5C, 1, 0x4, [⟨0, 32, .rwa⟩]⟩,
  ⟨0x60, 8, 0x4, [⟨0, 32, .wo⟩]⟩,
  ⟨0xA0, 8, 0x4, [⟨0, 32, .wo⟩]⟩,
  ⟨0xC0, 1, 0x4, [⟨0, 1, .w1s⟩, ⟨1, 1, .ro⟩, ⟨4, 4, .ro⟩]⟩,
  ⟨0x100, 1, 0x4, [⟨0, 24, .rw⟩, ⟨24, 3, .rw⟩, ⟨30, 1, .rw⟩]⟩,
  ⟨0x104, 1, 0x4, [⟨0, 32, .ro⟩]⟩,
  ⟨0x108, 1, 0x4, [⟨0, 24, .ro⟩]⟩,
  ⟨0x10C, 1, 0x4, [⟨0, 5, .ro⟩]⟩,
  ⟨0x180, 1, 0x4, [⟨0, 32, .ro⟩]⟩,
  ⟨0x184, 1, 0x4, [⟨0, 32, .ro⟩]⟩,
  ⟨0x188, 1, 0x4, [⟨0, 32, .ro⟩]⟩,
  ⟨0x18C, 1, 0x4, [⟨0, 32, .ro⟩]⟩,
  ⟨0x190, 1, 0x4, [⟨0, 32, .ro⟩]⟩]

/-- Every register of the page but the header. -/
def Reg.SEC.table : List RegD := Reg.SEC.table0

/-- The registers of the page whose reset word is not 0: offset, count, stride, word. -/
def Reg.SEC.resets : List (Nat × Nat × Nat × Nat) := [(0x100, 1, 0x4, 0x40000000)]

def Reg.HIS.table0 : List RegD := [
  ⟨0x20, 1, 0x4, [⟨0, 3, .ro⟩, ⟨16, 1, .ro⟩]⟩,
  ⟨0x40, 1, 0x4, [⟨0, 1, .rw⟩, ⟨1, 2, .rw⟩, ⟨4, 1, .rw⟩, ⟨8, 3, .rw⟩]⟩,
  ⟨0x44, 1, 0x4, [⟨0, 1, .w1s⟩, ⟨1, 1, .rw⟩, ⟨2, 1, .rw⟩, ⟨8, 8, .rw⟩]⟩,
  ⟨0x48, 1, 0x4, [⟨0, 3, .ro⟩, ⟨3, 1, .ro⟩, ⟨4, 1, .ro⟩, ⟨8, 3, .ro⟩]⟩,
  ⟨0x50, 1, 0x4, [⟨0, 32, .ro⟩]⟩,
  ⟨0x54, 1, 0x4, [⟨0, 32, .ro⟩]⟩,
  ⟨0x58, 1, 0x4, [⟨0, 32, .ro⟩]⟩,
  ⟨0x5C, 1, 0x4, [⟨0, 32, .ro⟩]⟩,
  ⟨0x60, 1, 0x4, [⟨0, 32, .ro⟩]⟩,
  ⟨0x64, 1, 0x4, [⟨0, 32, .ro⟩]⟩,
  ⟨0x68, 1, 0x4, [⟨0, 32, .ro⟩]⟩,
  ⟨0x70, 1, 0x4, [⟨0, 17, .rw⟩]⟩,
  ⟨0x74, 1, 0x4, [⟨0, 17, .ro⟩]⟩,
  ⟨0x78, 1, 0x4, [⟨0, 4, .rw⟩]⟩,
  ⟨0x80, 1, 0x4, [⟨0, 32, .rw⟩]⟩,
  ⟨0x84, 1, 0x4, [⟨0, 32, .rw⟩]⟩,
  ⟨0x88, 1, 0x4, [⟨0, 32, .rw⟩]⟩,
  ⟨0x8C, 1, 0x4, [⟨0, 32, .rw⟩]⟩,
  ⟨0x90, 1, 0x4, [⟨0, 3, .rw⟩, ⟨3, 1, .rw⟩, ⟨31, 1, .w1s⟩]⟩,
  ⟨0x94, 1, 0x4, [⟨0, 1, .ro⟩, ⟨8, 8, .ro⟩, ⟨16, 16, .ro⟩]⟩,
  ⟨0xA0, 1, 0x4, [⟨0, 24, .rw⟩, ⟨30, 1, .w1s⟩, ⟨31, 1, .w1s⟩]⟩,
  ⟨0xA4, 1, 0x4, [⟨0, 32, .ro⟩]⟩,
  ⟨0x100, 1, 0x4, [⟨0, 32, .ro⟩]⟩,
  ⟨0x104, 1, 0x4, [⟨0, 32, .ro⟩]⟩,
  ⟨0x108, 1, 0x4, [⟨0, 32, .ro⟩]⟩]

def Reg.HIS.table1 : List RegD := [
  ⟨0x10C, 1, 0x4, [⟨0, 32, .ro⟩]⟩,
  ⟨0x110, 1, 0x4, [⟨0, 32, .ro⟩]⟩,
  ⟨0x114, 1, 0x4, [⟨0, 32, .ro⟩]⟩,
  ⟨0x118, 1, 0x4, [⟨0, 32, .ro⟩]⟩,
  ⟨0x11C, 1, 0x4, [⟨0, 32, .ro⟩]⟩,
  ⟨0x120, 1, 0x4, [⟨0, 32, .ro⟩]⟩]

/-- Every register of the page but the header. -/
def Reg.HIS.table : List RegD := Reg.HIS.table0 ++ Reg.HIS.table1

/-- The registers of the page whose reset word is not 0: offset, count, stride, word. -/
def Reg.HIS.resets : List (Nat × Nat × Nat × Nat) := [(0x44, 1, 0x4, 0x1806)]

def Reg.CDR.table0 : List RegD := [
  ⟨0x20, 1, 0x4, [⟨0, 16, .ro⟩, ⟨16, 16, .ro⟩]⟩,
  ⟨0x40, 1, 0x4, [⟨0, 4, .rw⟩, ⟨8, 2, .rw⟩, ⟨30, 1, .rw⟩]⟩,
  ⟨0x44, 1, 0x4, [⟨0, 32, .rw⟩]⟩,
  ⟨0x48, 1, 0x4, [⟨0, 16, .w1s⟩]⟩,
  ⟨0x50, 1, 0x4, [⟨0, 4, .rw⟩, ⟨8, 1, .w1s⟩]⟩,
  ⟨0x54, 1, 0x4, [⟨0, 32, .wo⟩]⟩,
  ⟨0x58, 1, 0x4, [⟨0, 32, .wo⟩]⟩,
  ⟨0x5C, 1, 0x4, [⟨0, 7, .ro⟩, ⟨31, 1, .ro⟩]⟩,
  ⟨0x60, 1, 0x4, [⟨0, 32, .ro⟩]⟩,
  ⟨0x64, 1, 0x4, [⟨0, 32, .ro⟩]⟩,
  ⟨0x68, 1, 0x4, [⟨0, 7, .ro⟩, ⟨8, 7, .ro⟩, ⟨16, 1, .w1c⟩]⟩,
  ⟨0x100, 16, 0x10, [⟨0, 1, .rw⟩, ⟨1, 1, .rw⟩, ⟨8, 9, .rw⟩, ⟨24, 8, .rw⟩]⟩,
  ⟨0x104, 16, 0x10, [⟨0, 1, .ro⟩, ⟨1, 1, .ro⟩, ⟨2, 1, .ro⟩, ⟨3, 1, .ro⟩, ⟨16, 16, .ro⟩]⟩,
  ⟨0x108, 16, 0x10, [⟨0, 32, .ro⟩]⟩,
  ⟨0x10C, 16, 0x10, [⟨0, 32, .ro⟩]⟩,
  ⟨0x300, 1, 0x4, [⟨0, 32, .ro⟩]⟩,
  ⟨0x304, 1, 0x4, [⟨0, 32, .ro⟩]⟩,
  ⟨0x308, 1, 0x4, [⟨0, 32, .ro⟩]⟩,
  ⟨0x30C, 1, 0x4, [⟨0, 32, .ro⟩]⟩,
  ⟨0x310, 1, 0x4, [⟨0, 32, .ro⟩]⟩,
  ⟨0x314, 1, 0x4, [⟨0, 32, .ro⟩]⟩,
  ⟨0x318, 1, 0x4, [⟨0, 32, .ro⟩]⟩,
  ⟨0x31C, 1, 0x4, [⟨0, 32, .ro⟩]⟩,
  ⟨0x320, 1, 0x4, [⟨0, 32, .ro⟩]⟩]

/-- Every register of the page but the header. -/
def Reg.CDR.table : List RegD := Reg.CDR.table0

/-- The registers of the page whose reset word is not 0: offset, count, stride, word. -/
def Reg.CDR.resets : List (Nat × Nat × Nat × Nat) := [(0x40, 1, 0x4, 0x40000000), (0x50, 1, 0x4, 0xA), (0x100, 1, 0x10, 0xA010003), (0x110, 9, 0x10, 0xA010002), (0x1A0, 6, 0x10, 0xA010003)]

def Reg.STA0.table0 : List RegD := [
  ⟨0x40, 1, 0x4, [⟨0, 3, .rw⟩, ⟨4, 2, .rw⟩, ⟨8, 1, .rw⟩]⟩,
  ⟨0x44, 1, 0x4, [⟨0, 19, .rw⟩]⟩,
  ⟨0x48, 1, 0x4, [⟨0, 17, .rw⟩]⟩,
  ⟨0x4C, 1, 0x4, [⟨0, 16, .rw⟩]⟩,
  ⟨0x50, 1, 0x4, [⟨0, 16, .rw⟩]⟩,
  ⟨0x54, 1, 0x4, [⟨0, 6, .rw⟩, ⟨8, 1, .rw⟩]⟩,
  ⟨0x58, 1, 0x4, [⟨0, 1, .w1s⟩, ⟨1, 1, .w1s⟩]⟩,
  ⟨0x5C, 1, 0x4, [⟨0, 2, .ro⟩, ⟨2, 1, .ro⟩, ⟨16, 13, .ro⟩]⟩,
  ⟨0x60, 1, 0x4, [⟨0, 12, .rw⟩, ⟨30, 1, .rw⟩]⟩,
  ⟨0x64, 1, 0x4, [⟨0, 17, .ro⟩]⟩,
  ⟨0x68, 1, 0x4, [⟨0, 32, .ro⟩]⟩,
  ⟨0x6C, 1, 0x4, [⟨0, 32, .ro⟩]⟩,
  ⟨0x70, 1, 0x4, [⟨0, 24, .ro⟩]⟩,
  ⟨0x74, 1, 0x4, [⟨0, 24, .ro⟩]⟩,
  ⟨0x78, 1, 0x4, [⟨0, 12, .rw⟩]⟩,
  ⟨0x7C, 1, 0x4, [⟨0, 24, .wo⟩]⟩,
  ⟨0x80, 1, 0x4, [⟨0, 20, .rw⟩, ⟨30, 1, .rw⟩]⟩,
  ⟨0x84, 1, 0x4, [⟨0, 16, .rw⟩]⟩,
  ⟨0x100, 1, 0x4, [⟨0, 32, .ro⟩]⟩,
  ⟨0x104, 1, 0x4, [⟨0, 32, .ro⟩]⟩,
  ⟨0x108, 1, 0x4, [⟨0, 32, .ro⟩]⟩]

/-- Every register of the page but the header. -/
def Reg.STA0.table : List RegD := Reg.STA0.table0

/-- The registers of the page whose reset word is not 0: offset, count, stride, word. -/
def Reg.STA0.resets : List (Nat × Nat × Nat × Nat) := [(0x48, 1, 0x4, 0x1), (0x50, 1, 0x4, 0x100), (0x54, 1, 0x4, 0x13F), (0x60, 1, 0x4, 0x40000000), (0x70, 1, 0x4, 0x7FFFFF), (0x74, 1, 0x4, 0x800000), (0x80, 1, 0x4, 0x40000000)]

def Reg.STA1.table0 : List RegD := [
  ⟨0x40, 1, 0x4, [⟨0, 4, .rw⟩, ⟨8, 1, .w1s⟩]⟩,
  ⟨0x44, 1, 0x4, [⟨0, 2, .ro⟩, ⟨4, 4, .ro⟩, ⟨8, 4, .ro⟩, ⟨12, 1, .ro⟩, ⟨16, 10, .ro⟩]⟩,
  ⟨0x48, 1, 0x4, [⟨0, 16, .ro⟩]⟩,
  ⟨0x4C, 1, 0x4, [⟨0, 8, .ro⟩]⟩,
  ⟨0x50, 1, 0x4, [⟨0, 11, .rw⟩, ⟨30, 1, .rw⟩]⟩,
  ⟨0x54, 1, 0x4, [⟨0, 32, .rw⟩]⟩,
  ⟨0x58, 1, 0x4, [⟨0, 32, .rw⟩]⟩,
  ⟨0x5C, 1, 0x4, [⟨0, 1, .w1s⟩, ⟨8, 1, .ro⟩]⟩,
  ⟨0x60, 4, 0x4, [⟨0, 8, .ro⟩, ⟨8, 1, .ro⟩]⟩,
  ⟨0x70, 4, 0x4, [⟨0, 14, .ro⟩, ⟨16, 16, .ro⟩]⟩,
  ⟨0x80, 4, 0x10, [⟨0, 18, .ro⟩]⟩,
  ⟨0x84, 4, 0x10, [⟨0, 18, .ro⟩]⟩,
  ⟨0x88, 4, 0x10, [⟨0, 18, .ro⟩]⟩,
  ⟨0x8C, 4, 0x10, [⟨0, 18, .ro⟩]⟩]

/-- Every register of the page but the header. -/
def Reg.STA1.table : List RegD := Reg.STA1.table0

/-- The registers of the page whose reset word is not 0: offset, count, stride, word. -/
def Reg.STA1.resets : List (Nat × Nat × Nat × Nat) := [(0x50, 1, 0x4, 0x40000000)]

def Reg.DSP.table0 : List RegD := [
  ⟨0x20, 1, 0x4, [⟨0, 3, .ro⟩]⟩,
  ⟨0x40, 1, 0x4, [⟨0, 1, .rw⟩, ⟨1, 1, .w1s⟩, ⟨2, 1, .w1s⟩, ⟨3, 1, .rw⟩, ⟨8, 1, .ro⟩]⟩,
  ⟨0x44, 1, 0x4, [⟨0, 3, .ro⟩, ⟨8, 4, .ro⟩]⟩,
  ⟨0x48, 1, 0x4, [⟨0, 14, .rw⟩]⟩,
  ⟨0x4C, 1, 0x4, [⟨0, 14, .rw⟩]⟩,
  ⟨0x50, 1, 0x4, [⟨0, 6, .rw⟩]⟩,
  ⟨0x54, 1, 0x4, [⟨0, 24, .rw⟩]⟩,
  ⟨0x58, 1, 0x4, [⟨0, 12, .ro⟩]⟩,
  ⟨0x5C, 1, 0x4, [⟨0, 14, .ro⟩]⟩,
  ⟨0x60, 8, 0x4, [⟨0, 5, .rw⟩, ⟨8, 1, .rw⟩]⟩,
  ⟨0x80, 1, 0x4, [⟨31, 1, .ro⟩, ⟨24, 7, .ro⟩, ⟨0, 24, .ro⟩]⟩,
  ⟨0x84, 1, 0x4, [⟨0, 9, .ro⟩]⟩,
  ⟨0x88, 1, 0x4, [⟨0, 24, .wo⟩]⟩,
  ⟨0x8C, 1, 0x4, [⟨0, 9, .ro⟩]⟩,
  ⟨0x90, 1, 0x4, [⟨0, 16, .rw⟩]⟩,
  ⟨0x100, 1, 0x4, [⟨0, 32, .ro⟩]⟩,
  ⟨0x104, 1, 0x4, [⟨0, 32, .ro⟩]⟩,
  ⟨0x108, 1, 0x4, [⟨0, 32, .ro⟩]⟩,
  ⟨0x10C, 1, 0x4, [⟨0, 32, .ro⟩]⟩,
  ⟨0x110, 1, 0x4, [⟨0, 32, .ro⟩]⟩,
  ⟨0x114, 1, 0x4, [⟨0, 32, .ro⟩]⟩,
  ⟨0x118, 1, 0x4, [⟨0, 32, .ro⟩]⟩,
  ⟨0x11C, 1, 0x4, [⟨0, 32, .ro⟩]⟩,
  ⟨0x120, 1, 0x4, [⟨0, 32, .ro⟩]⟩,
  ⟨0x124, 1, 0x4, [⟨0, 32, .ro⟩]⟩]

def Reg.DSP.table1 : List RegD := [
  ⟨0x128, 1, 0x4, [⟨0, 32, .ro⟩]⟩]

/-- Every register of the page but the header. -/
def Reg.DSP.table : List RegD := Reg.DSP.table0 ++ Reg.DSP.table1

/-- The registers of the page whose reset word is not 0: offset, count, stride, word. -/
def Reg.DSP.resets : List (Nat × Nat × Nat × Nat) := [(0x90, 1, 0x4, 0xFFFF)]

def Reg.LNK.table0 : List RegD := [
  ⟨0x20, 1, 0x4, [⟨0, 10, .ro⟩, ⟨16, 1, .ro⟩, ⟨17, 1, .ro⟩, ⟨18, 1, .ro⟩]⟩,
  ⟨0x40, 1, 0x4, [⟨0, 1, .rw⟩]⟩,
  ⟨0x44, 1, 0x4, [⟨0, 13, .rw⟩, ⟨16, 16, .rw⟩]⟩,
  ⟨0x48, 1, 0x4, [⟨0, 16, .rw⟩]⟩,
  ⟨0x4C, 1, 0x4, [⟨0, 8, .ro⟩, ⟨8, 2, .ro⟩, ⟨16, 1, .ro⟩]⟩,
  ⟨0x50, 1, 0x4, [⟨0, 13, .ro⟩]⟩,
  ⟨0x60, 1, 0x4, [⟨0, 5, .rw⟩, ⟨30, 1, .rw⟩]⟩,
  ⟨0x64, 1, 0x4, [⟨0, 32, .rw⟩]⟩,
  ⟨0x68, 1, 0x4, [⟨0, 32, .rw⟩]⟩,
  ⟨0x6C, 1, 0x4, [⟨0, 1, .w1s⟩, ⟨1, 1, .w1s⟩, ⟨8, 1, .ro⟩, ⟨10, 1, .ro⟩]⟩,
  ⟨0x100, 1, 0x4, [⟨0, 32, .ro⟩]⟩,
  ⟨0x104, 1, 0x4, [⟨0, 32, .ro⟩]⟩,
  ⟨0x108, 1, 0x4, [⟨0, 32, .ro⟩]⟩,
  ⟨0x10C, 1, 0x4, [⟨0, 32, .ro⟩]⟩,
  ⟨0x110, 1, 0x4, [⟨0, 32, .ro⟩]⟩,
  ⟨0x200, 10, 0x40, [⟨0, 1, .rw⟩, ⟨1, 2, .rw⟩, ⟨3, 1, .rw⟩, ⟨4, 1, .rw⟩, ⟨8, 4, .rw⟩, ⟨16, 1, .w1s⟩]⟩,
  ⟨0x204, 10, 0x40, [⟨0, 3, .ro⟩, ⟨3, 1, .ro⟩, ⟨4, 1, .ro⟩, ⟨5, 2, .ro⟩, ⟨7, 1, .ro⟩, ⟨8, 1, .ro⟩, ⟨9, 1, .w1c⟩, ⟨12, 3, .ro⟩, ⟨16, 4, .ro⟩, ⟨22, 10, .ro⟩]⟩,
  ⟨0x208, 10, 0x40, [⟨0, 32, .ro⟩]⟩,
  ⟨0x20C, 10, 0x40, [⟨0, 32, .ro⟩]⟩,
  ⟨0x210, 10, 0x40, [⟨0, 32, .ro⟩]⟩,
  ⟨0x214, 10, 0x40, [⟨0, 32, .ro⟩]⟩,
  ⟨0x218, 10, 0x40, [⟨0, 32, .ro⟩]⟩,
  ⟨0x21C, 10, 0x40, [⟨0, 32, .ro⟩]⟩,
  ⟨0x220, 10, 0x40, [⟨0, 32, .ro⟩]⟩,
  ⟨0x224, 10, 0x40, [⟨0, 32, .ro⟩]⟩]

def Reg.LNK.table1 : List RegD := [
  ⟨0x228, 10, 0x40, [⟨0, 21, .ro⟩]⟩]

/-- Every register of the page but the header. -/
def Reg.LNK.table : List RegD := Reg.LNK.table0 ++ Reg.LNK.table1

/-- The registers of the page whose reset word is not 0: offset, count, stride, word. -/
def Reg.LNK.resets : List (Nat × Nat × Nat × Nat) := [(0x40, 1, 0x4, 0x1), (0x44, 1, 0x4, 0x12C1000), (0x48, 1, 0x4, 0x64), (0x60, 1, 0x4, 0x40000000), (0x200, 10, 0x40, 0x1), (0x204, 10, 0x40, 0x80)]

def Reg.ZVL.table0 : List RegD := [
  ⟨0x20, 1, 0x4, [⟨0, 5, .ro⟩, ⟨16, 1, .ro⟩]⟩,
  ⟨0x40, 1, 0x4, [⟨0, 1, .rw⟩, ⟨1, 1, .rw⟩, ⟨2, 1, .rw⟩, ⟨3, 1, .rw⟩, ⟨4, 1, .rw⟩]⟩,
  ⟨0x44, 1, 0x4, [⟨0, 11, .rw⟩]⟩,
  ⟨0x48, 1, 0x4, [⟨0, 16, .rw⟩]⟩,
  ⟨0x4C, 1, 0x4, [⟨0, 8, .rw⟩]⟩,
  ⟨0x50, 1, 0x4, [⟨0, 32, .ro⟩]⟩,
  ⟨0x54, 1, 0x4, [⟨0, 32, .ro⟩]⟩,
  ⟨0x60, 4, 0x4, [⟨0, 32, .ro⟩]⟩,
  ⟨0x80, 8, 0x4, [⟨0, 32, .rw⟩]⟩,
  ⟨0x100, 1, 0x4, [⟨0, 32, .ro⟩]⟩,
  ⟨0x104, 1, 0x4, [⟨0, 32, .ro⟩]⟩,
  ⟨0x108, 1, 0x4, [⟨0, 32, .ro⟩]⟩,
  ⟨0x10C, 1, 0x4, [⟨0, 32, .ro⟩]⟩,
  ⟨0x110, 1, 0x4, [⟨0, 32, .ro⟩]⟩,
  ⟨0x114, 1, 0x4, [⟨0, 32, .ro⟩]⟩,
  ⟨0x118, 1, 0x4, [⟨0, 32, .ro⟩]⟩,
  ⟨0x11C, 1, 0x4, [⟨0, 32, .ro⟩]⟩,
  ⟨0x120, 1, 0x4, [⟨0, 32, .ro⟩]⟩,
  ⟨0x124, 1, 0x4, [⟨0, 32, .ro⟩]⟩,
  ⟨0x128, 1, 0x4, [⟨0, 32, .ro⟩]⟩,
  ⟨0x12C, 1, 0x4, [⟨0, 32, .ro⟩]⟩,
  ⟨0x130, 1, 0x4, [⟨0, 32, .ro⟩]⟩,
  ⟨0x134, 1, 0x4, [⟨0, 32, .ro⟩]⟩,
  ⟨0x138, 1, 0x4, [⟨0, 32, .ro⟩]⟩,
  ⟨0x13C, 1, 0x4, [⟨0, 32, .ro⟩]⟩]

def Reg.ZVL.table1 : List RegD := [
  ⟨0x140, 1, 0x4, [⟨0, 32, .ro⟩]⟩,
  ⟨0x144, 1, 0x4, [⟨0, 32, .ro⟩]⟩,
  ⟨0x148, 1, 0x4, [⟨0, 32, .ro⟩]⟩]

/-- Every register of the page but the header. -/
def Reg.ZVL.table : List RegD := Reg.ZVL.table0 ++ Reg.ZVL.table1

/-- The registers of the page whose reset word is not 0: offset, count, stride, word. -/
def Reg.ZVL.resets : List (Nat × Nat × Nat × Nat) := [(0x40, 1, 0x4, 0x17), (0x44, 1, 0x4, 0x100), (0x48, 1, 0x4, 0x500), (0x4C, 1, 0x4, 0x40)]

def Reg.DIE.table0 : List RegD := [
  ⟨0x40, 1, 0x4, [⟨0, 8, .rw⟩]⟩,
  ⟨0x44, 1, 0x4, [⟨0, 4, .ro⟩, ⟨4, 4, .ro⟩, ⟨8, 4, .ro⟩, ⟨16, 4, .ro⟩]⟩,
  ⟨0x48, 1, 0x4, [⟨0, 4, .w1s⟩, ⟨4, 4, .w1s⟩]⟩,
  ⟨0x4C, 1, 0x4, [⟨0, 6, .rw⟩, ⟨8, 6, .rw⟩]⟩,
  ⟨0x50, 4, 0x4, [⟨0, 32, .ro⟩]⟩,
  ⟨0x60, 8, 0x4, [⟨0, 32, .ro⟩]⟩,
  ⟨0x80, 4, 0x4, [⟨0, 32, .ro⟩]⟩,
  ⟨0x90, 4, 0x4, [⟨0, 32, .ro⟩]⟩,
  ⟨0xA0, 4, 0x4, [⟨0, 32, .ro⟩]⟩,
  ⟨0xC0, 4, 0x4, [⟨0, 32, .ro⟩]⟩]

/-- Every register of the page but the header. -/
def Reg.DIE.table : List RegD := Reg.DIE.table0

/-- The registers of the page whose reset word is not 0: offset, count, stride, word. -/
def Reg.DIE.resets : List (Nat × Nat × Nat × Nat) := [(0x40, 1, 0x4, 0xFF), (0x44, 1, 0x4, 0xF), (0x4C, 1, 0x4, 0x818)]

def Reg.PIX.table0 : List RegD := [
  ⟨0x40, 1, 0x4, [⟨0, 1, .rw⟩, ⟨1, 1, .rw⟩, ⟨4, 2, .rws⟩]⟩,
  ⟨0x44, 1, 0x4, [⟨0, 10, .rw⟩]⟩,
  ⟨0x50, 4, 0x4, [⟨0, 32, .rw⟩]⟩,
  ⟨0x60, 4, 0x4, [⟨0, 32, .ro⟩]⟩,
  ⟨0x70, 4, 0x4, [⟨0, 32, .ro⟩]⟩,
  ⟨0x80, 1, 0x4, [⟨0, 9, .rw⟩, ⟨16, 8, .rw⟩, ⟨30, 1, .rw⟩]⟩,
  ⟨0x84, 1, 0x4, [⟨0, 32, .rw⟩]⟩,
  ⟨0x88, 1, 0x4, [⟨0, 32, .ro⟩]⟩,
  ⟨0x8C, 1, 0x4, [⟨0, 8, .rw⟩, ⟨8, 8, .rw⟩, ⟨16, 7, .rw⟩, ⟨24, 1, .rw⟩, ⟨30, 1, .ro⟩, ⟨31, 1, .w1s⟩]⟩,
  ⟨0xA0, 1, 0x4, [⟨0, 12, .rw⟩]⟩,
  ⟨0xA4, 1, 0x4, [⟨0, 1, .w1s⟩, ⟨1, 1, .w1s⟩, ⟨2, 1, .rw⟩, ⟨8, 1, .ro⟩]⟩,
  ⟨0xA8, 1, 0x4, [⟨0, 16, .rw⟩]⟩,
  ⟨0xAC, 1, 0x4, [⟨0, 24, .rw⟩]⟩,
  ⟨0xB0, 1, 0x4, [⟨0, 18, .rw⟩]⟩,
  ⟨0xB4, 1, 0x4, [⟨0, 16, .ro⟩]⟩,
  ⟨0xB8, 1, 0x4, [⟨0, 16, .ro⟩]⟩,
  ⟨0xC0, 1, 0x4, [⟨0, 1, .rw⟩, ⟨1, 1, .rw⟩, ⟨4, 3, .rw⟩, ⟨31, 1, .w1s⟩]⟩,
  ⟨0xC4, 1, 0x4, [⟨0, 8, .rw⟩, ⟨16, 8, .rw⟩]⟩,
  ⟨0xC8, 1, 0x4, [⟨0, 7, .ro⟩, ⟨8, 24, .ro⟩]⟩,
  ⟨0xCC, 1, 0x4, [⟨0, 32, .ro⟩]⟩,
  ⟨0xD0, 1, 0x4, [⟨0, 9, .ro⟩, ⟨16, 8, .ro⟩, ⟨24, 2, .ro⟩]⟩,
  ⟨0xD4, 1, 0x4, [⟨0, 18, .ro⟩]⟩,
  ⟨0xD8, 1, 0x4, [⟨0, 18, .ro⟩]⟩,
  ⟨0xDC, 1, 0x4, [⟨0, 18, .ro⟩]⟩,
  ⟨0xE0, 1, 0x4, [⟨0, 18, .ro⟩]⟩]

/-- Every register of the page but the header. -/
def Reg.PIX.table : List RegD := Reg.PIX.table0

/-- The registers of the page whose reset word is not 0: offset, count, stride, word. -/
def Reg.PIX.resets : List (Nat × Nat × Nat × Nat) := [(0x40, 1, 0x4, 0x12), (0x44, 1, 0x4, 0x3FF), (0x80, 1, 0x4, 0x40000000), (0xA8, 1, 0x4, 0x1), (0xAC, 1, 0x4, 0x3200), (0xC0, 1, 0x4, 0x21), (0xC4, 1, 0x4, 0x960004), (0xD4, 1, 0x4, 0x20000)]

def Reg.WADC.table0 : List RegD := [
  ⟨0x40, 1, 0x4, [⟨0, 8, .rw⟩]⟩,
  ⟨0x44, 1, 0x4, [⟨0, 8, .rw⟩, ⟨8, 2, .rw⟩]⟩,
  ⟨0x48, 1, 0x4, [⟨0, 8, .rw⟩]⟩,
  ⟨0x100, 8, 0x20, [⟨0, 2, .rw⟩, ⟨4, 4, .rw⟩, ⟨8, 3, .rw⟩, ⟨16, 1, .w1s⟩]⟩,
  ⟨0x104, 8, 0x20, [⟨0, 3, .ro⟩, ⟨4, 4, .ro⟩, ⟨8, 1, .ro⟩, ⟨9, 1, .ro⟩, ⟨16, 8, .ro⟩]⟩,
  ⟨0x108, 8, 0x20, [⟨0, 5, .rw⟩, ⟨8, 2, .rw⟩, ⟨16, 8, .rw⟩, ⟨31, 1, .w1s⟩]⟩,
  ⟨0x10C, 8, 0x20, [⟨0, 3, .wo⟩, ⟨8, 2, .rw⟩, ⟨16, 5, .rw⟩, ⟨24, 4, .rw⟩, ⟨28, 1, .rw⟩]⟩,
  ⟨0x110, 8, 0x20, [⟨0, 16, .rw⟩]⟩,
  ⟨0x114, 8, 0x20, [⟨0, 16, .ro⟩, ⟨16, 16, .ro⟩]⟩,
  ⟨0x118, 8, 0x20, [⟨0, 16, .ro⟩, ⟨16, 16, .ro⟩]⟩,
  ⟨0x11C, 8, 0x20, [⟨1, 1, .ro⟩, ⟨2, 1, .ro⟩, ⟨4, 3, .ro⟩]⟩,
  ⟨0x300, 1, 0x4, [⟨0, 32, .ro⟩]⟩,
  ⟨0x304, 1, 0x4, [⟨0, 32, .ro⟩]⟩,
  ⟨0x308, 1, 0x4, [⟨0, 32, .ro⟩]⟩,
  ⟨0x30C, 1, 0x4, [⟨0, 32, .ro⟩]⟩,
  ⟨0x310, 1, 0x4, [⟨0, 32, .ro⟩]⟩,
  ⟨0x400, 128, 0x4, [⟨0, 5, .rw⟩, ⟨8, 2, .rw⟩, ⟨16, 16, .rw⟩]⟩]

/-- Every register of the page but the header. -/
def Reg.WADC.table : List RegD := Reg.WADC.table0

/-- The registers of the page whose reset word is not 0: offset, count, stride, word. -/
def Reg.WADC.resets : List (Nat × Nat × Nat × Nat) := [(0x48, 1, 0x4, 0x10), (0x108, 8, 0x20, 0x10000), (0x10C, 8, 0x20, 0xA000000)]

def Reg.REG.table0 : List RegD := [
  ⟨0x20, 1, 0x4, [⟨0, 2, .ro⟩, ⟨8, 7, .ro⟩, ⟨16, 3, .ro⟩]⟩,
  ⟨0x40, 1, 0x4, [⟨0, 4, .rw⟩]⟩,
  ⟨0x44, 1, 0x4, [⟨0, 5, .rw⟩, ⟨8, 5, .rw⟩]⟩,
  ⟨0x48, 1, 0x4, [⟨0, 5, .ro⟩, ⟨8, 1, .ro⟩, ⟨9, 1, .ro⟩, ⟨10, 1, .ro⟩, ⟨11, 1, .ro⟩]⟩,
  ⟨0x4C, 1, 0x4, [⟨0, 32, .wo⟩]⟩,
  ⟨0x50, 1, 0x4, [⟨0, 32, .wo⟩]⟩,
  ⟨0x54, 1, 0x4, [⟨0, 11, .wo⟩]⟩,
  ⟨0x58, 1, 0x4, [⟨0, 5, .ro⟩, ⟨8, 5, .ro⟩]⟩,
  ⟨0x60, 1, 0x4, [⟨0, 32, .ro⟩]⟩,
  ⟨0x64, 1, 0x4, [⟨0, 32, .ro⟩]⟩,
  ⟨0x68, 1, 0x4, [⟨0, 32, .ro⟩]⟩,
  ⟨0x6C, 1, 0x4, [⟨0, 32, .ro⟩]⟩,
  ⟨0x70, 1, 0x4, [⟨0, 32, .ro⟩]⟩,
  ⟨0x100, 1, 0x4, [⟨0, 1, .rw⟩, ⟨4, 4, .rw⟩, ⟨8, 1, .rw⟩]⟩,
  ⟨0x104, 1, 0x4, [⟨0, 1, .ro⟩]⟩,
  ⟨0x108, 1, 0x4, [⟨0, 32, .ro⟩]⟩,
  ⟨0x180, 1, 0x4, [⟨0, 1, .rw⟩, ⟨1, 1, .rw⟩, ⟨4, 2, .rw⟩, ⟨8, 6, .rw⟩]⟩]

/-- Every register of the page but the header. -/
def Reg.REG.table : List RegD := Reg.REG.table0

/-- The registers of the page whose reset word is not 0: offset, count, stride, word. -/
def Reg.REG.resets : List (Nat × Nat × Nat × Nat) := [(0x44, 1, 0x4, 0x40C), (0x100, 1, 0x4, 0x1), (0x180, 1, 0x4, 0x2010)]

def Reg.SEA0.table0 : List RegD := [
  ⟨0x20, 1, 0x4, [⟨0, 2, .ro⟩]⟩,
  ⟨0x40, 1, 0x4, [⟨0, 4, .wo⟩]⟩,
  ⟨0x44, 1, 0x4, [⟨0, 2, .ro⟩, ⟨2, 1, .ro⟩, ⟨3, 1, .ro⟩, ⟨4, 4, .ro⟩, ⟨8, 3, .ro⟩]⟩,
  ⟨0x48, 1, 0x4, [⟨0, 32, .rwa⟩]⟩,
  ⟨0x4C, 1, 0x4, [⟨0, 32, .ro⟩]⟩,
  ⟨0x50, 1, 0x4, [⟨0, 2, .rwa⟩, ⟨4, 1, .rwa⟩]⟩,
  ⟨0x54, 1, 0x4, [⟨0, 32, .ro⟩]⟩,
  ⟨0x58, 1, 0x4, [⟨0, 8, .ro⟩]⟩,
  ⟨0x60, 8, 0x4, [⟨0, 32, .ro⟩]⟩,
  ⟨0x80, 1, 0x4, [⟨0, 6, .rw⟩, ⟨8, 3, .rw⟩]⟩,
  ⟨0x84, 1, 0x4, [⟨0, 32, .ro⟩]⟩,
  ⟨0x88, 1, 0x4, [⟨0, 32, .ro⟩]⟩,
  ⟨0x100, 1, 0x4, [⟨0, 32, .ro⟩]⟩,
  ⟨0x104, 1, 0x4, [⟨0, 32, .ro⟩]⟩,
  ⟨0x108, 1, 0x4, [⟨0, 32, .ro⟩]⟩]

/-- Every register of the page but the header. -/
def Reg.SEA0.table : List RegD := Reg.SEA0.table0

/-- The registers of the page whose reset word is not 0: offset, count, stride, word. -/
def Reg.SEA0.resets : List (Nat × Nat × Nat × Nat) := []

def Reg.SEA1.table0 : List RegD := [
  ⟨0x40, 4, 0x4, [⟨0, 16, .rws⟩, ⟨16, 16, .rws⟩]⟩,
  ⟨0x50, 1, 0x4, [⟨0, 8, .rw⟩]⟩,
  ⟨0x54, 1, 0x4, [⟨0, 32, .ro⟩]⟩]

/-- Every register of the page but the header. -/
def Reg.SEA1.table : List RegD := Reg.SEA1.table0

/-- The registers of the page whose reset word is not 0: offset, count, stride, word. -/
def Reg.SEA1.resets : List (Nat × Nat × Nat × Nat) := [(0x40, 4, 0x4, 0x68DC0000), (0x50, 1, 0x4, 0x3C)]

def Reg.TIM1.table0 : List RegD := [
  ⟨0x40, 1, 0x4, [⟨0, 15, .rw⟩, ⟨16, 7, .rw⟩, ⟨30, 1, .rw⟩]⟩,
  ⟨0x44, 1, 0x4, [⟨0, 16, .rws⟩]⟩,
  ⟨0x48, 1, 0x4, [⟨0, 16, .ro⟩]⟩]

/-- Every register of the page but the header. -/
def Reg.TIM1.table : List RegD := Reg.TIM1.table0

/-- The registers of the page whose reset word is not 0: offset, count, stride, word. -/
def Reg.TIM1.resets : List (Nat × Nat × Nat × Nat) := [(0x40, 1, 0x4, 0x40000000)]

def Reg.COEF.table0 : List RegD := [
  ⟨0x40, 1, 0x4, [⟨0, 13, .rw⟩, ⟨30, 1, .rw⟩]⟩,
  ⟨0x44, 1, 0x4, [⟨0, 16, .rws⟩]⟩]

/-- Every register of the page but the header. -/
def Reg.COEF.table : List RegD := Reg.COEF.table0

/-- The registers of the page whose reset word is not 0: offset, count, stride, word. -/
def Reg.COEF.resets : List (Nat × Nat × Nat × Nat) := [(0x40, 1, 0x4, 0x40000000)]

def Reg.RING.table0 : List RegD := [
  ⟨0x0, 1, 0x4, [⟨0, 32, .rw⟩]⟩,
  ⟨0x4, 1, 0x4, [⟨0, 32, .rw⟩]⟩,
  ⟨0x8, 1, 0x4, [⟨0, 5, .rw⟩]⟩,
  ⟨0xC, 1, 0x4, [⟨0, 1, .rw⟩, ⟨1, 1, .w1s⟩, ⟨2, 1, .w1s⟩, ⟨3, 1, .rw⟩]⟩,
  ⟨0x10, 1, 0x4, [⟨0, 32, .rw⟩]⟩,
  ⟨0x14, 1, 0x4, [⟨0, 32, .rw⟩]⟩,
  ⟨0x18, 1, 0x4, [⟨0, 16, .rw⟩]⟩,
  ⟨0x20, 1, 0x4, [⟨0, 32, .rw⟩]⟩,
  ⟨0x24, 1, 0x4, [⟨0, 32, .ro⟩]⟩,
  ⟨0x28, 1, 0x4, [⟨0, 32, .ro⟩]⟩,
  ⟨0x2C, 1, 0x4, [⟨0, 1, .ro⟩, ⟨1, 1, .ro⟩, ⟨2, 1, .ro⟩, ⟨4, 4, .ro⟩, ⟨8, 1, .w1c⟩]⟩,
  ⟨0x30, 1, 0x4, [⟨0, 32, .ro⟩]⟩,
  ⟨0x34, 1, 0x4, [⟨0, 32, .ro⟩]⟩]

/-- Every register of the page but the header. -/
def Reg.RING.table : List RegD := Reg.RING.table0

/-- The registers of the page whose reset word is not 0: offset, count, stride, word. -/
def Reg.RING.resets : List (Nat × Nat × Nat × Nat) := [(0x8, 1, 0x4, 0x8), (0x18, 1, 0x4, 0x64)]

def Reg.DSPIO.table0 : List RegD := [
  ⟨0x0, 1, 0x10, [⟨4, 4, .rw⟩]⟩,
  ⟨0x4, 1, 0x10, [⟨4, 1, .ro⟩, ⟨5, 1, .w1c⟩, ⟨6, 1, .ro⟩, ⟨7, 1, .w1c⟩]⟩,
  ⟨0x8, 1, 0x10, [⟨0, 8, .w1c⟩]⟩,
  ⟨0xC, 1, 0x10, [⟨0, 8, .rw⟩]⟩,
  ⟨0x10, 1, 0x10, [⟨0, 4, .ro⟩]⟩,
  ⟨0x14, 1, 0x10, [⟨0, 24, .rw⟩]⟩,
  ⟨0x18, 1, 0x10, [⟨0, 24, .ro⟩]⟩,
  ⟨0x20, 1, 0x10, [⟨0, 24, .wo⟩]⟩,
  ⟨0x24, 1, 0x10, [⟨0, 7, .rw⟩]⟩,
  ⟨0x28, 1, 0x10, [⟨0, 24, .ro⟩]⟩,
  ⟨0x2C, 1, 0x10, [⟨0, 9, .ro⟩]⟩,
  ⟨0x30, 1, 0x10, [⟨0, 9, .ro⟩]⟩,
  ⟨0x40, 1, 0x10, [⟨0, 16, .rw⟩]⟩,
  ⟨0x44, 1, 0x10, [⟨0, 9, .rw⟩]⟩,
  ⟨0x48, 1, 0x10, [⟨0, 16, .rw⟩]⟩,
  ⟨0x4C, 1, 0x10, [⟨0, 16, .rw⟩]⟩,
  ⟨0x50, 1, 0x10, [⟨0, 2, .wo⟩]⟩,
  ⟨0x54, 1, 0x10, [⟨0, 16, .ro⟩]⟩,
  ⟨0x58, 1, 0x10, [⟨0, 16, .ro⟩]⟩,
  ⟨0x5C, 1, 0x10, [⟨0, 1, .ro⟩, ⟨1, 1, .ro⟩]⟩,
  ⟨0x80, 1, 0x10, [⟨0, 3, .rw⟩]⟩,
  ⟨0x84, 1, 0x10, [⟨0, 11, .rw⟩]⟩,
  ⟨0x88, 1, 0x10, [⟨0, 9, .rw⟩]⟩,
  ⟨0x8C, 1, 0x10, [⟨0, 24, .wo⟩]⟩,
  ⟨0x90, 1, 0x10, [⟨0, 3, .ro⟩, ⟨4, 3, .ro⟩, ⟨8, 1, .w1c⟩]⟩]

def Reg.DSPIO.table1 : List RegD := [
  ⟨0xC0, 1, 0x10, [⟨0, 2, .ro⟩]⟩,
  ⟨0xC4, 1, 0x4, [⟨0, 24, .ro⟩]⟩,
  ⟨0xC8, 1, 0x4, [⟨0, 24, .ro⟩]⟩,
  ⟨0xCC, 1, 0x4, [⟨0, 10, .ro⟩]⟩,
  ⟨0x100, 8, 0x20, [⟨0, 11, .ro⟩]⟩,
  ⟨0x104, 8, 0x20, [⟨0, 16, .ro⟩]⟩,
  ⟨0x108, 8, 0x20, [⟨0, 16, .ro⟩]⟩,
  ⟨0x10C, 8, 0x20, [⟨0, 1, .ro⟩, ⟨1, 1, .w1c⟩]⟩,
  ⟨0x110, 8, 0x20, [⟨0, 12, .rw⟩]⟩,
  ⟨0x114, 8, 0x20, [⟨0, 16, .ro⟩]⟩]

/-- Every register of the page but the header. -/
def Reg.DSPIO.table : List RegD := Reg.DSPIO.table0 ++ Reg.DSPIO.table1

/-- The registers of the page whose reset word is not 0: offset, count, stride, word. -/
def Reg.DSPIO.resets : List (Nat × Nat × Nat × Nat) := [(0x88, 1, 0x10, 0x1), (0x114, 1, 0x4, 0x4000), (0x134, 1, 0x4, 0x4800), (0x154, 1, 0x4, 0x5000), (0x174, 1, 0x4, 0x5800), (0x194, 1, 0x4, 0x6000), (0x1B4, 1, 0x4, 0x6800), (0x1D4, 1, 0x4, 0x7000), (0x1F4, 1, 0x4, 0x7800)]

/-- The header of every page (R472). -/
def Reg.headerTable : List RegD := [
  ⟨0x0, 1, 4, [⟨0, 32, .ro⟩]⟩, ⟨0x4, 1, 4, [⟨0, 1, .rw⟩, ⟨1, 1, .w1s⟩, ⟨2, 1, .w1s⟩, ⟨3, 1, .rw⟩]⟩, ⟨0x8, 1, 4, [⟨0, 5, .ro⟩]⟩,
  ⟨0x10, 1, 4, [⟨0, 32, .ro⟩]⟩, ⟨0x14, 1, 4, [⟨0, 32, .w1c⟩]⟩, ⟨0x18, 1, 4, [⟨0, 32, .rw⟩]⟩, ⟨0x1C, 1, 4, [⟨0, 32, .wo⟩]⟩]

end Sys2Proof.Machine
end

