-- ==== Sys2Proof/Machine/SMap.lean ====
section
/-! DEFINITION. Sparse tables in one canonical form: a list of (key, value) pairs, keys strictly rising, no entry equal to what an
unlisted key reads as. Registers, RAMs and per-unit state are all held this way, so equal contents are equal data. -/

namespace Sys2Proof.Machine

/-- What key `k` holds: the listed value, or what the default says an unlisted key reads as. -/
def SMap.get {α : Type} (dflt : Nat → α) : List (Nat × α) → Nat → α
  | [], k => dflt k
  | (a, v) :: m, k => if a = k then v else SMap.get dflt m k

/-- The table without key `k`. -/
def SMap.erase {α : Type} : List (Nat × α) → Nat → List (Nat × α)
  | [], _ => []
  | (a, v) :: m, k => if a = k then SMap.erase m k else (a, v) :: SMap.erase m k

/-- The table with `(k, v)` put before the first larger key. -/
def SMap.insert {α : Type} (k : Nat) (v : α) : List (Nat × α) → List (Nat × α)
  | [] => [(k, v)]
  | (a, w) :: m => if k < a then (k, v) :: (a, w) :: m else (a, w) :: SMap.insert k v m

/-- Key `k` now holds `v`; a value equal to the default is not listed. -/
def SMap.set {α : Type} [DecidableEq α] (dflt : Nat → α) (m : List (Nat × α)) (k : Nat) (v : α) : List (Nat × α) :=
  if v = dflt k then SMap.erase m k else SMap.insert k v (SMap.erase m k)

/-- Key `k` now holds `f` of what it held. -/
def SMap.upd {α : Type} [DecidableEq α] (dflt : Nat → α) (m : List (Nat × α)) (k : Nat) (f : α → α) : List (Nat × α) :=
  SMap.set dflt m k (f (SMap.get dflt m k))

/-- The table with every key of `[lo, hi)` back at its default. -/
def SMap.clear {α : Type} (m : List (Nat × α)) (lo hi : Nat) : List (Nat × α) :=
  m.filter fun p => p.1 < lo || hi ≤ p.1

/-- The keys of `[lo, lo + n)` take the `n` values of `vs` in order. -/
def SMap.setAll {α : Type} [DecidableEq α] (dflt : Nat → α) (m : List (Nat × α)) (lo : Nat) : List α → List (Nat × α)
  | [] => m
  | v :: vs => SMap.setAll dflt (SMap.set dflt m lo v) (lo + 1) vs

/-- The values of keys `lo, lo + 1, …`, `n` of them. -/
def SMap.slice {α : Type} (dflt : Nat → α) (m : List (Nat × α)) (lo : Nat) : Nat → List α
  | 0 => []
  | n + 1 => SMap.get dflt m lo :: SMap.slice dflt m (lo + 1) n

/-- Every key of the table lies above `lo`, keys rise, and no value is the default: the canonical form after key `lo`. -/
def SMap.wfFrom {α : Type} [DecidableEq α] (dflt : Nat → α) : Option Nat → List (Nat × α) → Bool
  | _, [] => true
  | lo, (a, v) :: m => (match lo with | none => true | some l => decide (l < a)) && !decide (v = dflt a) && SMap.wfFrom dflt (some a) m

/-- The canonical form: keys strictly rise and no entry equals what an unlisted key reads as. -/
def SMap.wf {α : Type} [DecidableEq α] (dflt : Nat → α) (m : List (Nat × α)) : Bool := SMap.wfFrom dflt none m

end Sys2Proof.Machine
end

