-- ==== Sys2Proof/Machine/Pages.lean ====
section
/-! DEFINITION. The register pages: where each lies (R479), its power domain (R530), its registers, the reset word of every register, and
which event source each of its event bits belongs to (R481). -/

namespace Sys2Proof.Machine

/-- The BAR0 address of a page (R479). -/
def pageBase : Page → Nat
  | .hlt => 0x0
  | .pci => 0x1000
  | .tim0 => 0x2000
  | .evc => 0x3000
  | .thm => 0x4000
  | .pwrDom => 0x5000
  | .pwrMon => 0x6000
  | .nvs => 0x7000
  | .evb => 0x8000
  | .trg => 0xA000
  | .sec => 0xB000
  | .his => 0xC000
  | .cdr => 0xD000
  | .sta0 => 0xE000
  | .sta1 => 0xF000
  | .dsp c => 0x10000 + 0x1000 * c.val
  | .lnk => 0x18000
  | .zvl => 0x19000
  | .die d => 0x400000 + 0x400000 * d.val
  | .pix d => 0x401000 + 0x400000 * d.val
  | .conv d => 0x402000 + 0x400000 * d.val
  | .reg d n => 0x500000 + 0x400000 * d.val + 0x1000 * n.val
  | .sea0 => 0x1800000
  | .sea1 => 0x1801000
  | .tim1 => 0x1802000
  | .coef => 0x1803000

/-- The power domain a page lies in (R530 and the chapters; LNK: log 6). -/
def pageDomain : Page → Nat
  | .hlt | .evc | .thm | .pwrDom | .pwrMon | .lnk => 0
  | .pci => 11
  | .tim0 => 1
  | .nvs | .sec => 3
  | .evb => 4
  | .trg => 5
  | .his => 9
  | .cdr => 8
  | .sta0 | .sta1 => 7
  | .dsp _ => 6
  | .zvl => 14
  | .die d => 25 + 11 * d.val
  | .pix d => 25 + 11 * d.val
  | .conv d => 26 + 11 * d.val
  | .reg d n => 16 + 11 * d.val + n.val / 16
  | .sea0 | .sea1 | .tim1 | .coef => 2

/-- The die a page belongs to, if it belongs to one. -/
def pageDie : Page → Option Die
  | .die d | .pix d | .conv d => some d
  | .reg d _ => some d
  | _ => none

/-- PAGE_ID.TYPE of a page (R479). -/
def pageType : Page → Nat
  | .hlt => 0x60
  | .pci => 0x50
  | .tim0 | .tim1 => 0x01
  | .evc => 0x51
  | .thm => 0x30
  | .pwrDom => 0x32
  | .pwrMon => 0x31
  | .nvs => 0x61
  | .evb => 0x20
  | .trg => 0x21
  | .sec => 0x70
  | .his => 0x22
  | .cdr => 0x25
  | .sta0 | .sta1 => 0x24
  | .dsp _ => 0x23
  | .lnk => 0x40
  | .zvl => 0x41
  | .die _ => 0x10
  | .pix _ => 0x11
  | .conv _ => 0x14
  | .reg _ _ => 0x12
  | .sea0 | .sea1 => 0x71
  | .coef => 0x13

/-- PAGE_ID.INSTANCE of a page; regions count within their die (R479, R472; log 7). -/
def pageInstance : Page → Nat
  | .sta1 | .sea1 | .tim1 => 1
  | .dsp c => c.val
  | .die d | .pix d | .conv d => d.val
  | .reg _ n => n.val
  | _ => 0

/-- The page at a BAR0 address, if a page lies there (R479). -/
def pageAt (a : Nat) : Option Page :=
  if a < 0x20000 then
    match a / 0x1000 with
    | 0 => some .hlt
    | 1 => some .pci
    | 2 => some .tim0
    | 3 => some .evc
    | 4 => some .thm
    | 5 => some .pwrDom
    | 6 => some .pwrMon
    | 7 => some .nvs
    | 8 => some .evb
    | 10 => some .trg
    | 11 => some .sec
    | 12 => some .his
    | 13 => some .cdr
    | 14 => some .sta0
    | 15 => some .sta1
    | 16 => some (.dsp 0)
    | 17 => some (.dsp 1)
    | 18 => some (.dsp 2)
    | 19 => some (.dsp 3)
    | 24 => some .lnk
    | 25 => some .zvl
    | _ => none
  else if 0x400000 ≤ a ∧ a < 0x1400000 then
    let d : Fin 4 := Fin.ofNat 4 ((a - 0x400000) / 0x400000)
    let o := (a - 0x400000) % 0x400000
    if o < 0x1000 then some (.die d)
    else if o < 0x2000 then some (.pix d)
    else if o < 0x3000 then some (.conv d)
    else if 0x100000 ≤ o ∧ o < 0x180000 then some (.reg d (Fin.ofNat 128 ((o - 0x100000) / 0x1000)))
    else none
  else if a < 0x1800000 then none
  else if a < 0x1801000 then some .sea0
  else if a < 0x1802000 then some .sea1
  else if a < 0x1803000 then some .tim1
  else if a < 0x1804000 then some .coef
  else none

/-- The block registers of a page, the header left out. -/
def pageTable : Page → List RegD
  | .hlt => Reg.HLT.table
  | .pci => Reg.PCI.table
  | .tim0 => Reg.TIM0.table
  | .evc => Reg.EVC.table
  | .thm => Reg.THM.table
  | .pwrDom => Reg.PWRD.table
  | .pwrMon => Reg.MON.table
  | .nvs => Reg.NVS.table
  | .evb => Reg.EVB.table
  | .trg => Reg.TRG.table
  | .sec => Reg.SEC.table
  | .his => Reg.HIS.table
  | .cdr => Reg.CDR.table
  | .sta0 => Reg.STA0.table
  | .sta1 => Reg.STA1.table
  | .dsp _ => Reg.DSP.table
  | .lnk => Reg.LNK.table
  | .zvl => Reg.ZVL.table
  | .die _ => Reg.DIE.table
  | .pix _ => Reg.PIX.table
  | .conv _ => Reg.WADC.table
  | .reg _ _ => Reg.REG.table
  | .sea0 => Reg.SEA0.table
  | .sea1 => Reg.SEA1.table
  | .tim1 => Reg.TIM1.table
  | .coef => Reg.COEF.table

/-- The reset words of a page that are not 0. -/
def pageResets : Page → List (Nat × Nat × Nat × Nat)
  | .hlt => Reg.HLT.resets
  | .pci => Reg.PCI.resets
  | .tim0 => Reg.TIM0.resets
  | .evc => Reg.EVC.resets
  | .thm => Reg.THM.resets
  | .pwrDom => Reg.PWRD.resets
  | .pwrMon => Reg.MON.resets
  | .nvs => Reg.NVS.resets
  | .evb => Reg.EVB.resets
  | .trg => Reg.TRG.resets
  | .sec => Reg.SEC.resets
  | .his => Reg.HIS.resets
  | .cdr => Reg.CDR.resets
  | .sta0 => Reg.STA0.resets
  | .sta1 => Reg.STA1.resets
  | .dsp _ => Reg.DSP.resets
  | .lnk => Reg.LNK.resets
  | .zvl => Reg.ZVL.resets
  | .die _ => Reg.DIE.resets
  | .pix _ => Reg.PIX.resets
  | .conv _ => Reg.WADC.resets
  | .reg _ _ => Reg.REG.resets
  | .sea0 => Reg.SEA0.resets
  | .sea1 => Reg.SEA1.resets
  | .tim1 => Reg.TIM1.resets
  | .coef => Reg.COEF.resets

/-- The counters of a page, which SOFT_RESET clears (R475): offset, count, stride. -/
def pageCounters : Page → List (Nat × Nat × Nat)
  | .hlt => [(0x80, 6, 4), (0xAC, 1, 4)]
  | .pci => [(0x48, 7, 4)]
  | .tim0 => [(0xA0, 7, 4)]
  | .evc => [(0xC8, 1, 4)]
  | .thm => [(0x84, 2, 4)]
  | .pwrDom => [(0x60, 5, 4)]
  | .pwrMon => [(0x50, 1, 4)]
  | .nvs => [(0x100, 5, 4)]
  | .evb => [(0x180, 7, 4), (0x1A0, 16, 4), (0x840, 36, 4)]
  | .trg => [(0x180, 13, 4), (0x800, 64, 8), (0x804, 64, 8)]
  | .sec => [(0x180, 5, 4)]
  | .his => [(0x100, 9, 4)]
  | .cdr => [(0x108, 16, 16), (0x10C, 16, 16), (0x300, 9, 4)]
  | .sta0 => [(0x100, 3, 4)]
  | .sta1 => []
  | .dsp _ => [(0x100, 11, 4)]
  | .lnk => [(0x100, 5, 4), (0x208, 10, 64), (0x20C, 10, 64), (0x210, 10, 64), (0x214, 10, 64), (0x218, 10, 64), (0x21C, 10, 64), (0x220, 10, 64), (0x224, 10, 64)]
  | .zvl => [(0x100, 19, 4)]
  | .die _ => [(0x60, 20, 4)]
  | .pix _ => [(0xCC, 1, 4)]
  | .conv _ => [(0x300, 5, 4)]
  | .reg _ _ => [(0x60, 5, 4), (0x108, 1, 4)]
  | .sea0 => [(0x100, 3, 4)]
  | .sea1 => [(0x54, 1, 4)]
  | .tim1 => []
  | .coef => []

/-- The word of offset `off` in a list of reset words; 0 where it names none. -/
def resetIn (off : Nat) : List (Nat × Nat × Nat × Nat) → Nat
  | [] => 0
  | (o, n, st, w) :: rest => if o ≤ off ∧ (off - o) % st = 0 ∧ (off - o) / st < n then w else resetIn off rest

/-- The reset word of the register at an address: what an unlisted register reads as (R10). PAGE_CTRL resets to ENABLE = 1 (R472). -/
def resetWord (a : Nat) : W32 :=
  match pageAt a with
  | some p => if a % 0x1000 = 4 then 1 else BitVec.ofNat 32 (resetIn (a % 0x1000) (pageResets p))
  | none =>
    if 0x3000000 ≤ a then BitVec.ofNat 32 (resetIn (a % 0x100000) Reg.DSPIO.resets)
    else if 0x2000000 ≤ a ∧ a < 0x200A000 then BitVec.ofNat 32 (resetIn (a % 0x1000) Reg.RING.resets)
    else 0

/-- The description of the register at offset `off` of a page's table. -/
def findReg (off : Nat) : List RegD → Option RegD
  | [] => none
  | r :: rest => if r.off ≤ off ∧ (off - r.off) % r.stride = 0 ∧ (off - r.off) / r.stride < r.count then some r else findReg off rest

/-- Source numbers with the event bits of one page of a die (R481): offset of the source within the die's sixteen, mask. -/
def dieSources : List (Nat × Nat) := [(0, 0x1), (1, 0x6), (2, 0x18), (3, 0x60), (4, 0x180)]
/-- As `dieSources`, for the PIX page. -/
def pixSources : List (Nat × Nat) := [(5, 0x7), (6, 0x8), (7, 0x10), (8, 0x20), (9, 0x40)]
/-- As `dieSources`, for the converter page. -/
def convSources : List (Nat × Nat) := [(10, 0x3), (11, 0xC), (12, 0x10), (13, 0x20), (14, 0xC0)]

/-- One source for each of the event bits `0 .. n - 1`, from source `s` on. -/
def bitSources (s n : Nat) : List (Nat × Nat) := (List.range n).map fun b => (s + b, 2 ^ b)

/-- The sources of a page: source number and the mask of its EV_RAW bits (R481). -/
def pageSources : Page → List (Nat × Nat)
  | .tim0 => [(0, 0x5), (1, 0x2), (2, 0x8), (3, 0x10), (4, 0x120), (5, 0xC0), (6, 0x200)]
  | .tim1 => [(7, 0x1), (8, 0x2)]
  | .dsp c => [(9 + c.val, 0x1F), (13 + c.val, 0x27E0), (17 + c.val, 0x1800)]
  | .sta0 => [(21, 0x1), (22, 0x6)]
  | .sta1 => [(23, 0x39), (24, 0x42), (25, 0x104), (26, 0x80)]
  | .evc => [(27, 0x1)]
  | .trg => bitSources 32 11
  | .evb => [(64, 0x3), (65, 0x2000), (66, 0x4), (67, 0x18), (68, 0x60), (69, 0x180), (70, 0x600), (71, 0x1800)]
  | .his => [(72, 0x1003), (73, 0x4), (74, 0x8), (75, 0x30), (76, 0x40), (77, 0x80), (78, 0x300), (79, 0xC00)]
  | .cdr => [(80, 0x1), (81, 0x22), (82, 0xC), (83, 0x10)]
  | .lnk => [(96, 0x1), (97, 0x202), (98, 0x104), (99, 0x8), (100, 0x10), (101, 0x20), (102, 0xC0), (103, 0x400), (104, 0x1800)]
  | .zvl => [(105, 0x3), (106, 0xC), (107, 0x70), (108, 0x180), (109, 0x200)]
  | .pci => bitSources 110 8 ++ [(118, 0x100), (119, 0x200), (120, 0x400), (121, 0x800), (122, 0x1000), (123, 0x6000)]
  | .die d => dieSources.map fun p => (128 + 16 * d.val + p.1, p.2)
  | .pix d => pixSources.map fun p => (128 + 16 * d.val + p.1, p.2)
  | .conv d => convSources.map fun p => (128 + 16 * d.val + p.1, p.2)
  | .thm => bitSources 192 16
  | .pwrDom => bitSources 208 8
  | .pwrMon => [(216, 0x1), (217, 0x2), (218, 0xC), (219, 0x30)]
  | .sec => bitSources 224 8
  | .sea0 => bitSources 232 8
  | .nvs => bitSources 240 8
  | .hlt => bitSources 248 8
  | .reg _ _ | .sea1 | .coef => []

/-- The source that event bit `b` of a page belongs to. -/
def sourceOf (p : Page) (b : Nat) : Option Nat :=
  ((pageSources p).find? fun r => Nat.testBit r.2 b).map (·.1)

/-- The page of a source and the mask of its event bits (R481): the inverse of `pageSources`. -/
def sourcePage (s : Nat) : Option (Page × Nat) :=
  let look (p : Page) : Option (Page × Nat) := ((pageSources p).find? fun r => r.1 = s).map fun r => (p, r.2)
  if s < 7 then look .tim0
  else if s < 9 then look .tim1
  else if s < 21 then look (.dsp (Fin.ofNat 4 ((s - 9) % 4)))
  else if s < 23 then look .sta0
  else if s < 27 then look .sta1
  else if s < 32 then look .evc
  else if s < 64 then look .trg
  else if s < 72 then look .evb
  else if s < 80 then look .his
  else if s < 96 then look .cdr
  else if s < 105 then look .lnk
  else if s < 110 then look .zvl
  else if s < 128 then look .pci
  else if s < 192 then
    let d : Fin 4 := Fin.ofNat 4 ((s - 128) / 16)
    if s % 16 < 5 then look (.die d) else if s % 16 < 10 then look (.pix d) else look (.conv d)
  else if s < 208 then look .thm
  else if s < 216 then look .pwrDom
  else if s < 224 then look .pwrMon
  else if s < 232 then look .sec
  else if s < 240 then look .sea0
  else if s < 248 then look .nvs
  else look .hlt

end Sys2Proof.Machine
end

