-- ==== Sys2Proof/Machine/Ops.lean ====
section
/-! DEFINITION. The named operations every block shares: registers and fields, time, raising an event (R476), the logs (R512), journaled
writes (R563), and what follows every command: alarm policies (R517), the service level (R560) and event delivery (R480-R486). -/

namespace Sys2Proof.Machine

/-- What a meaning answers. -/
abbrev Res := Host.Outcome State Fault Refusal

/-! ### Registers and fields -/

/-- The field's bits of a word, as a number. -/
def Fld.of (f : Fld) (w : W32) : Nat := w.toNat / 2 ^ f.lsb % 2 ^ f.width

/-- The word with the field's bits replaced by the low bits of `v`. -/
def Fld.put (f : Fld) (w : W32) (v : Nat) : W32 :=
  let mask : W32 := BitVec.ofNat 32 ((2 ^ f.width - 1) * 2 ^ f.lsb)
  (w &&& ~~~mask) ||| BitVec.ofNat 32 (v % 2 ^ f.width * 2 ^ f.lsb)

/-- The word a register holds. -/
def Device.word (d : Device) (a : Nat) : W32 := SMap.get resetWord d.regs a

/-- A register takes a word. -/
def Device.setWord (d : Device) (a : Nat) (w : W32) : Device := { d with regs := SMap.set resetWord d.regs a w }

/-- A field of a register. -/
def Device.fld (d : Device) (f : Fld) : Nat := f.of (d.word f.addr)

/-- A field takes a value. -/
def Device.setFld (d : Device) (f : Fld) (v : Nat) : Device := d.setWord f.addr (f.put (d.word f.addr) v)

/-- A one-bit field. -/
def Device.flag (d : Device) (f : Fld) : Bool := d.fld f != 0

/-- A one-bit field takes a truth value. -/
def Device.setFlag (d : Device) (f : Fld) (b : Bool) : Device := d.setFld f b.toNat

/-- A 32-bit saturating counter advances by `n`. -/
def Device.count (d : Device) (a : Nat) (n : Nat := 1) : Device :=
  d.setWord a (BitVec.ofNat 32 (min ((d.word a).toNat + n) 0xFFFFFFFF))

/-- An upset of the totals of R567: its counter, and the sum of the present hour. -/
def Device.upset (d : Device) (a : Nat) (n : Nat := 1) : Device :=
  Device.count { d with hlt := { d.hlt with hourUpsets := d.hlt.hourUpsets + n } } a n

/-- The registers of `[lo, hi)` take their reset words. -/
def Device.resetRange (d : Device) (lo hi : Nat) : Device := { d with regs := SMap.clear d.regs lo hi }

/-- A list of registers reads 0. -/
def Device.zeroWords (d : Device) (as : List Nat) : Device := as.foldl (fun d a => d.setWord a 0) d

/-- `n` consecutive registers from `a` on. -/
def regRange (a n : Nat) : List Nat := (List.range n).map fun k => a + 4 * k

/-! ### Parts, domains and pages -/

/-- A power domain is on (R531, PWR.DOM_ON0/1); none is while power-on reset is in force (R528). -/
def Device.domOn (d : Device) (i : Nat) : Bool :=
  !d.pwr.por && if i < 32 then (d.word Reg.PWRD.DOM_ON0).getLsbD i else (d.word Reg.PWRD.DOM_ON1).getLsbD (i - 32)

/-- The part has this die (R2, R3). -/
def Device.hasDie (d : Device) (n : Nat) : Bool := decide (n < d.part.dies)

/-- The part has this page (R3). -/
def Device.hasPage (d : Device) (p : Page) : Bool :=
  match pageDie p with
  | some n => d.hasDie n.val
  | none => true

/-- The page exists on the part and its domain is on (R477). -/
def Device.pageOn (d : Device) (p : Page) : Bool := d.hasPage p && d.domOn (pageDomain p)

/-- PAGE_CTRL of a page (R472). -/
def pageCtrl (p : Page) : Nat := pageBase p + 4
/-- PAGE_STATUS of a page: the bits that are stored, IDLE, DRAINING and FAULT (R472). -/
def pageStatus (p : Page) : Nat := pageBase p + 8
/-- PAGE_CTRL.ENABLE. -/
def fEnable (p : Page) : Fld := ⟨pageCtrl p, 0, 1⟩
/-- PAGE_CTRL.ABORT. -/
def fAbort (p : Page) : Fld := ⟨pageCtrl p, 1, 1⟩
/-- PAGE_CTRL.SOFT_RESET; stored only while it is held through an abort (R475). -/
def fSoft (p : Page) : Fld := ⟨pageCtrl p, 2, 1⟩
/-- PAGE_CTRL.TEST. -/
def fTest (p : Page) : Fld := ⟨pageCtrl p, 3, 1⟩
/-- PAGE_STATUS.IDLE. -/
def fIdle (p : Page) : Fld := ⟨pageStatus p, 0, 1⟩
/-- PAGE_STATUS.DRAINING. -/
def fDraining (p : Page) : Fld := ⟨pageStatus p, 1, 1⟩
/-- PAGE_STATUS.FAULT. -/
def fFault (p : Page) : Fld := ⟨pageStatus p, 2, 1⟩

/-- The block takes new work: powered, ENABLE = 1 and no abort in progress that it would have to wait for (R473, R474). -/
def Device.enabled (d : Device) (p : Page) : Bool := d.pageOn p && d.flag (fEnable p) && !d.flag (fAbort p)

/-! ### Time -/

/-- The present frame number (R88). -/
def Device.frame (d : Device) : BitVec 40 := d.tim.count.extractLsb' 18 40

/-- The CT within the present frame (R88). -/
def Device.ct (d : Device) : BitVec 18 := d.tim.count.extractLsb' 0 18

/-- The time field of an event: CT within the frame times 64 (R209). -/
def Device.toa (d : Device) : BitVec 24 := (d.ct.setWidth 24) <<< 6

/-- The coarse count runs: the timing island is powered (R88, log 8). -/
def Device.counting (d : Device) : Bool := d.domOn 1

/-- The coarse count reaches `t`, if `t` lies ahead (by less than half its range): the time in between passes (log 9). -/
def Device.advanceTo (d : Device) (t : BitVec 58) : Device :=
  let gap := t - d.tim.count
  if gap.toNat < 2 ^ 57 then { d with clock := d.clock + gap.toNat, tim := { d.tim with count := t } } else d

/-- The device's clock reaches `t`, if `t` lies ahead; the coarse count goes with it while it runs (log 9). -/
def Device.waitUntil (d : Device) (t : Nat) : Device :=
  let gap := t - d.clock
  { d with clock := d.clock + gap,
           tim := if d.counting then { d.tim with count := d.tim.count + BitVec.ofNat 58 gap } else d.tim }

/-- One coarse tick passes: what a step does when no command waits (R88; log 11). -/
def Device.tick (d : Device) : Device :=
  { d with clock := d.clock + 1, tim := if d.counting then { d.tim with count := d.tim.count + 1 } else d.tim }

/-- The next free value's number. -/
def Device.draw (d : Device) : Device := { d with free := d.free + 1 }

/-- Something is sent. -/
def Device.send (d : Device) (e : OutEvent) : Device := { d with out := d.out ++ [e] }

/-- 64-bit words are written to host memory, each with bits [7:0] at its lowest address (R12). -/
def Device.writeHost (d : Device) (addr : Nat) (words : List W64) : Device := d.send (.hostWrite addr (words.flatMap bytesLE))

/-! ### Routes -/

/-- The format class of a record (R213): 0 hits, packed hits and LATE records, 1 waveform, 2 trigger, 3 status and seal. -/
def recClass : RecKind → Option Nat
  | .hit | .packed | .late => some 0
  | .waveform => some 1
  | .trigger => some 2
  | .status | .seal => some 3
  | .header | .align => none

/-- The route of a class: 0 NONE, 1 LANES, 2 DMA, 3 BOTH (R213). -/
def routeOf (fmt : W64) (cls : Nat) : Nat := fmt.toNat / 2 ^ (24 + 2 * cls) % 4
/-- The readout ring of a class (R213). -/
def ringOf (fmt : W64) (cls : Nat) : Nat := fmt.toNat / 2 ^ (32 + 3 * cls) % 8

/-- The paths of a record under a format entry: lanes, rings. Headers and alignment records take every path that any class uses (R214). -/
def pathsOf (fmt : W64) (k : RecKind) : Bool × List Nat :=
  let classes := match recClass k with
    | some c => [c]
    | none => [0, 1, 2, 3]
  (classes.any fun c => routeOf fmt c % 2 = 1,
   (List.range 8).filter fun r => classes.any fun c => routeOf fmt c / 2 = 1 && ringOf fmt c = r)

/-- A format entry of the table in force (R213, R214). -/
def Device.fmtEntry (d : Device) (i : Nat) : W64 := SMap.get (fun _ => 0x5500FF7F#64) d.evb.fmt i

/-- HIT_KEEP of an entry; 0 acts as 0x7F (R213). -/
def hitKeep (fmt : W64) : Nat := let k := fmt.toNat % 128; if k = 0 then 0x7F else k
/-- WAVE_KEEP of an entry; 0 acts as 0xFF (R213). -/
def waveKeep (fmt : W64) : Nat := let k := fmt.toNat / 256 % 256; if k = 0 then 0xFF else k

/-- The frame whose stream is open: its header queued, its alignment record not yet (R191). -/
def Device.streamFrame (d : Device) : Option FrameSt := d.evb.frames.head?.bind fun f => if f.header then some f else none

/-- The format entry of the stream at the present output position. -/
def Device.streamFmt (d : Device) : W64 :=
  match d.streamFrame with
  | some f => f.fmt
  | none => d.fmtEntry (d.fld Reg.EVB.OUT_FORMAT_ACTIVE)

/-- A record takes its place in the stream of a frame. -/
def Rec.stamp (r : Rec) (fmt : W64) : Rec := if r.fmt.isSome then r else { r with fmt := some fmt }

/-- A record has a path under its frame's entry (R214). -/
def Rec.routed (r : Rec) : Bool :=
  match r.fmt with
  | some fmt => (pathsOf fmt r.kind).1 || !(pathsOf fmt r.kind).2.isEmpty
  | none => false

/-- The trigger records among records that have a path (R205). -/
def triggersIn (rs : List Rec) : Nat := (rs.filter fun r => r.kind == .trigger && r.routed).length

/-- A record takes the present output position at the input of the queue (R190): in the stream of the frame whose header is queued, or, between two
frames and before the first, behind the header still to come (R191). -/
def Device.enqueue (d : Device) (r : Rec) : Device :=
  match d.streamFrame with
  | some f => { d with evb := { d.evb with inq := d.evb.inq ++ [r.stamp f.fmt], triggers := d.evb.triggers + triggersIn [r.stamp f.fmt] } }
  | none => { d with evb := { d.evb with inq := d.evb.inq ++ [r] } }

/-! ### Raising an event -/

/-- The first word of a multi-word record (R202). -/
def recHeader (subtype len : Nat) (low : BitVec 48) : W64 :=
  (3#2 : BitVec 2) ++ BitVec.ofNat 6 subtype ++ BitVec.ofNat 8 len ++ low

/-- The open packed-hits record is closed (R212). -/
def Device.closePacked (d : Device) : Device :=
  match d.evb.packed with
  | none => d
  | some p =>
    let bits := p.hits.foldl (fun (b : Bits) h => b.putKept p.keep.toNat (hitFields h)) {}
    let width := keptWidth p.keep.toNat (hitFields ⟨0, 0, 0, 0, 0, 0⟩)
    let head := recHeader 8 bits.words.length
      (BitVec.ofNat 48 (p.keep.toNat * 2 ^ 41 + width * 2 ^ 32 + p.hits.length * 2 ^ 16))
    Device.enqueue { d with evb := { d.evb with packed := none } } { kind := .packed, words := head :: bits.words, fmt := some p.fmt }

/-- The status record of an event (R209). -/
def statusRecord (d : Device) (source code detail : Nat) : Rec :=
  { kind := .status
    words := [recHeader 5 1 (BitVec.ofNat 8 source ++ BitVec.ofNat 8 code ++ BitVec.ofNat 32 detail), d.frame ++ d.toa] }

/-- A status record is queued when STATUS_EN is 1 and the source is selected (R209). -/
def Device.statusOf (d : Device) (source code detail : Nat) : Device :=
  if d.pageOn .evb && d.flag Reg.EVB.CTRL_STATUS_EN && (d.word (Reg.EVB.STATUS_SRC (source / 32))).getLsbD (source % 32) then
    d.closePacked.enqueue (statusRecord d source code detail)
  else d

/-- The event bits of a page (R476). -/
def Device.sticky (d : Device) (p : Page) : W32 := SMap.get (fun _ => 0) d.evSticky (pageBase p)

/-- The event bits of a page take a value. -/
def Device.setSticky (d : Device) (p : Page) (w : W32) : Device :=
  { d with evSticky := SMap.set (fun _ => 0) d.evSticky (pageBase p) w }

/-- The enables of a page's event bits. -/
def Device.evEn (d : Device) (p : Page) : W32 := SMap.get (fun _ => 0) d.evEnable (pageBase p)

/-- The enables of a page's event bits take a value. -/
def Device.setEvEn (d : Device) (p : Page) (w : W32) : Device :=
  { d with evEnable := SMap.set (fun _ => 0) d.evEnable (pageBase p) w }

/-- The message layer queues an EVENT message, merges it with a waiting one of the same source, or loses it (R451). -/
def Device.eventMessage (d : Device) (source code detail : Nat) : Device :=
  if !d.pageOn .zvl then d
  else if d.eventQ.any fun m => m.source == source then d
  else if d.eventQ.length < 64 then
    { d with eventQ := d.eventQ ++ [⟨source, code, BitVec.ofNat 32 detail, d.frame, d.toa⟩] }
  else
    let d := { d.count Reg.ZVL.CNT_EV_LOST with eventLost := true }
    if (d.sticky .zvl).getLsbD 9 then d
    else (d.setSticky .zvl (d.sticky .zvl ||| BitVec.ofNat 32 (2 ^ 9))).statusOf 109 9 0

/-- What follows the setting of a sticky bit at once, whatever EV_ENABLE holds: a status record and an EVENT message (R209, R451, R476). -/
def Device.announce (d : Device) (p : Page) (b detail : Nat) : Device :=
  match sourceOf p b with
  | none => d
  | some s =>
    let d := d.statusOf s b detail
    if (d.word (Reg.ZVL.EV_ROUTE (s / 32))).getLsbD (s % 32) then d.eventMessage s b detail else d

/-- Raising event bit `b` of a page (R476): the sticky bit sets; a page without power raises nothing (R477). -/
def Device.raise (d : Device) (p : Page) (b : Nat) (detail : Nat := 0) : Device :=
  if d.pageOn p then
    if (d.sticky p).getLsbD b then d
    else (d.setSticky p (d.sticky p ||| BitVec.ofNat 32 (2 ^ b))).announce p b detail
  else d

/-- Raising each of a list of bits. -/
def Device.raiseAll (d : Device) (p : Page) (bits : List Nat) : Device := bits.foldl (fun d b => d.raise p b) d

/-- The bit numbers that are 1 in a word. -/
def bitsOf (w : W32) : List Nat := (List.range 32).filter fun b => w.getLsbD b

/-! ### The logs: the audit trail and the health log -/

/-- A closing entry joins the queue of 16; the LOST entry of the entries lost before goes ahead of it (R512). Answers the entries lost now. -/
def LogQ.enqueue (q : LogQ) (lost : Nat → LogEntry) (e : LogEntry) : LogQ × Nat :=
  let q := if q.lost > 0 && q.queue.length < 16 then { q with queue := q.queue ++ [lost q.lost], lost := 0 } else q
  if q.queue.length < 16 then ({ q with queue := q.queue ++ [e] }, 0) else ({ q with lost := q.lost + 1 }, 1)

/-- The open entry closes (R512). -/
def LogQ.close (q : LogQ) (lost : Nat → LogEntry) : LogQ × Nat :=
  match q.entry with
  | none => (q, 0)
  | some e => LogQ.enqueue { q with entry := none } lost e

/-- An occurrence merges into the open entry of its kind and route, or closes it and opens its own (R512). -/
def LogQ.occur (q : LogQ) (lost : Nat → LogEntry) (merge : LogEntry → LogEntry) (e : LogEntry) : LogQ × Nat :=
  match q.entry with
  | some o =>
    if o.kind = e.kind ∧ o.merge = e.merge then
      let o := { merge o with count := o.count + 1 }
      if o.count ≥ 65535 then LogQ.enqueue { q with entry := none } lost o else ({ q with entry := some o }, 0)
    else
      let (q, n) := LogQ.enqueue { q with entry := none } lost o
      ({ q with entry := some e }, n)
  | none => ({ q with entry := some e }, 0)

/-- Seconds since the last reset of any source (R569). -/
def Device.uptime (d : Device) : Nat := (d.clock - d.hlt.resetClock) / Config.secondCt

/-- An entry of the health log as it opens now (R569): kind and data. -/
def Device.healthEntry (d : Device) (kind : Nat) (data : W64) : LogEntry :=
  { kind := kind, merge := 0, word0 := 0
    word1 := d.word Reg.HLT.POWER_COUNT ++ BitVec.ofNat 32 d.uptime
    word2 := (if d.tim.hadLock then d.frame else 0) ++ (0 : BitVec 24)
    word3 := data, count := 1 }

/-- The LOST entry of the health log: COUNT and DATA hold the number lost (R512, R569). -/
def Device.healthLost (d : Device) (n : Nat) : LogEntry := { d.healthEntry 0x0B (BitVec.ofNat 64 n) with count := min n 65535 }

/-- An entry is made in the health log (R569): kind and data. -/
def Device.healthLog (d : Device) (kind : Nat) (data : W64) : Device :=
  let (q, n) := d.hlt.log.occur d.healthLost id (d.healthEntry kind data)
  let d := { d with hlt := { d.hlt with log := q } }
  if n = 0 then d else (d.count Reg.HLT.CNT_LOG_LOST n).raise .hlt 5

/-- The audit route code of an access (R511). -/
def routeCode : Route → Nat
  | .pcie => 0
  | .slow => 1
  | .dsp _ => 2

/-- An entry of the audit trail as it opens now (R511). -/
def Device.auditEntry (d : Device) (kind route action key : Nat) (addr : Nat) (data : W32) : LogEntry :=
  { kind := kind, merge := route
    word0 := BitVec.ofNat 64 (route * 2 ^ 30 + action * 2 ^ 28 + key * 2 ^ 26)
    word1 := BitVec.ofNat 25 addr ++ BitVec.ofNat 25 addr ++ (0 : BitVec 14)
    word2 := data ++ d.word Reg.SEA0.COUNTER
    word3 := d.frame ++ d.ct ++ (0 : BitVec 6)
    count := 1 }

/-- The LOST entry of the audit trail, of no route but the device itself: COUNT holds the number lost (R512). -/
def Device.auditLostEntry (d : Device) (n : Nat) : LogEntry := { d.auditEntry 0x0F 3 0 0 0 0 with count := min n 65535 }

/-- An occurrence is entered in the audit trail (R510-R512). -/
def Device.audit (d : Device) (kind route action key : Nat) (addr : Nat) (data : W32) : Device :=
  let merge (o : LogEntry) : LogEntry :=
    { o with word1 := o.word1.extractLsb' 39 25 ++ BitVec.ofNat 25 addr ++ (0 : BitVec 14) }
  let (q, n) := d.sec.audit.occur d.auditLostEntry merge (d.auditEntry kind route action key addr data)
  let d := { d with sec := { d.sec with audit := q } }
  if n = 0 then d else (d.count Reg.SEC.CNT_AUDIT_LOST n).raise .sec 7

/-- The policy of an alarm: 0 LOG, 1 LOCK, 2 ERASE, 3 acts as 0 (R514). -/
def Device.alarmPolicy (d : Device) (b : Nat) : Nat :=
  let p := d.fld ⟨Reg.SEC.ALARM_POLICY, 2 * b, 2⟩
  if p = 3 then 0 else p

/-- An alarm occurs (R514): its event, its count; its policy is applied when the command is over, with the others' of it (R517). -/
def Device.alarm (d : Device) (b : Fin 5) : Device :=
  let d := (d.count Reg.SEC.CNT_ALARMS).raise .sec b.val
  { d with sec := { d.sec with alarms := d.sec.alarms ++ [b] } }

/-! ### Pauses (R549) -/

/-- The built-in throttle curve (R548). -/
def builtinCurve : Curve := { points := [(760, 0), (800, 8192), (840, 32768), (880, 65535)], period := 100, hyst := 16, pauseMax := 10, warn := 800 }

/-- The throttle curve in force (R547, R548). -/
def Device.curveNow (d : Device) : Curve := d.thm.curve.getD builtinCurve

/-- A pause of this kind is under way. -/
def Device.pausing (d : Device) (k : PacedKind) : Bool := d.thm.pauses.any fun p => p.1 == k

/-- The pause that follows a paced operation of `t` ticks begins: min(PAUSE_MAX, t D / (65,536 - D)); THM's ENABLE gates it (R546, R549). -/
def Device.startPause (d : Device) (k : PacedKind) (t : Nat) : Device :=
  let duty := d.fld Reg.THM.STATUS_DUTY
  let cap := d.curveNow.pauseMax * Config.msCt
  let wanted := t * duty / (65536 - duty)
  if !d.flag (fEnable .thm) || wanted = 0 then d
  else
    let d := if cap < wanted then d.raise .thm 13 else d
    { d with thm := { d.thm with pauses := (d.thm.pauses.filter fun p => p.1 != k) ++ [(k, d.clock, d.clock + min cap wanted)] } }

/-! ### Journaled writes -/

/-- The store serves the next queued write when none is in progress and its page is enabled (R563, R575). -/
def Device.kickStore (d : Device) : Device :=
  match d.nvs.prog, d.nvs.queue with
  | none, w :: rest => if d.enabled .nvs && !d.pausing .storeWrite then { d with nvs := { d.nvs with prog := some w, committed := false, queue := rest } } else d
  | _, _ => d

/-- A journaled write is requested (R563). A store without power takes none (R604). -/
def Device.store (d : Device) (w : StoreWrite) : Device :=
  if d.pageOn .nvs then Device.kickStore { d with nvs := { d.nvs with queue := d.nvs.queue ++ [w] } } else d

/-- A page of the store. -/
def Device.page (d : Device) (p : Nat) : StorePage := SMap.get (fun _ => {}) d.nvs.pages p

/-- The word `k` that a store page holds, none when it was never written or the page is bad; a committed write not yet copied is seen
(R559, R563, R564). -/
def Device.stored (d : Device) (p k : Nat) : Option Nat :=
  let pg := d.page p
  let home := if pg.bad then none else (pg.words.find? fun x => x.1 = k).map (·.2)
  match d.nvs.prog with
  | some w => if d.nvs.committed ∧ w.page = p then ((w.words.find? fun x => x.1 = k).map (·.2)).orElse fun _ => home else home
  | none => home

/-- The store page that holds the stored copy of a register field (R562 gives the ranges; log 10 the page of each). -/
def nvsHome (a : Nat) : Nat :=
  if a = Reg.THM.CNT_QUENCH then 37
  else if a = Reg.HLT.POWER_COUNT then 38
  else if a = Reg.HLT.REPLACE then 39
  else if a < 0x1000 then 16
  else if 0x4000 ≤ a ∧ a < 0x5000 then 17
  else if 0xB000 ≤ a ∧ a < 0xC000 then 20
  else if 0xC000 ≤ a ∧ a < 0xD000 then 18
  else if 0x19000 ≤ a ∧ a < 0x1A000 then 33 + (a - Reg.ZVL.AUTH_CTR 0) / 4
  else if 0x1800000 ≤ a then 19
  else 21

/-- The present value of a stored register goes to its page by a journaled write (R562, R559). -/
def Device.storeReg (d : Device) (a : Nat) : Device :=
  d.store { page := nvsHome a, words := [(a, (d.word a).toNat)], owner := if nvsHome a < 32 then .config a else .counter a }

/-! ### What follows every command -/

/-- The strongest policy among the alarms of one command applies once (R515-R517). LOCK sets LOCKED and enters LOCKOUT once; ERASE starts
the erasure. -/
def Device.applyPolicies (d : Device) : Device :=
  match d.sec.alarms with
  | [] => d
  | as =>
    let strongest := as.foldl (fun m b => max m (d.alarmPolicy b.val)) 0
    let d := { d with sec := { d.sec with alarms := [] } }
    if strongest = 2 then { d with sec := { d.sec with erasing := true } }
    else if strongest = 1 then
      let d := d.setFlag Reg.SEC.SUMMARY_LOCKED true
      if d.sec.lockedEntered then d else { d.audit 0x0A 3 1 0 0 0 with sec := { (d.audit 0x0A 3 1 0 0 0).sec with lockedEntered := true } }
    else d

/-- The dies whose periphery digital domain is on (R560). -/
def Device.liveDies (d : Device) : List Nat := (List.range 4).filter fun n => d.hasDie n && d.domOn (25 + 11 * n)

/-- The conditions of S2 that do not hold, in the bit order of R560. Without the timing island no register of it reads 1, so that all six are
missing after reset (R10, R574). -/
def Device.missing (d : Device) : BitVec 6 :=
  let lock := d.flag Reg.TIM0.STATUS_LOCK
  let dll := d.domOn 1 && d.liveDies.all fun n => (d.word Reg.TIM0.STATUS).getLsbD (8 + n)
  let cal := d.domOn 1 && d.flag Reg.TIM0.CTRL_FINE_EN && d.liveDies.all fun n => d.flag (Reg.STA1.CAL_TEMP_VALID n)
  let eq := d.flag Reg.LNK.SUMMARY_EQ_LOADED
  let mem := d.fld Reg.HIS.STATUS_STATE = 2
  let locked := d.fld Reg.SEA0.STATUS_STATE = 2
  BitVec.ofBool (!locked) ++ BitVec.ofBool (!mem) ++ BitVec.ofBool (!eq) ++ BitVec.ofBool (!cal) ++ BitVec.ofBool (!dll) ++ BitVec.ofBool (!lock)

/-- The service level changes: LEVEL_CHANGE and a LEVEL entry (R560). -/
def Device.setLevel (d : Device) (n : Nat) : Device :=
  if d.fld Reg.HLT.SERVICE_LEVEL_LEVEL = n then d
  else
    let d := (d.setFld Reg.HLT.SERVICE_LEVEL_LEVEL n).raise .hlt 0
    d.healthLog 0x02 (BitVec.ofNat 64 (n + d.missing.toNat * 256))

/-- The device moves between S1 and S2 as the conditions change (R560, R8). -/
def Device.settleLevel (d : Device) : Device :=
  let l := d.fld Reg.HLT.SERVICE_LEVEL_LEVEL
  if l = 0 then d else if d.missing = 0 then d.setLevel 2 else d.setLevel 1

/-- The flags of the present frame cover the tick after this command (R194). -/
def Device.markFrame (d : Device) : Device :=
  let mark (f : FrameSt) : FrameSt :=
    if f.ended.isSome then f
    else
      { f with timingInvalid := f.timingInvalid || !d.flag Reg.TIM0.STATUS_LOCK
               syncStale := f.syncStale || d.flag Reg.TIM0.STATUS_SYNC_STALE
               feInhibit := f.feInhibit || d.flag Reg.TIM0.CTRL_FE_INHIBIT
               svcWindow := f.svcWindow || d.sea.window
               drained := f.drained || !d.flag (fEnable .evb) }
  { d with evb := { d.evb with frames := d.evb.frames.map mark } }

/-- The dies with a region that has a bit set in both EV_STICKY and EV_ENABLE (R148, R487). -/
def Device.regionEventDies (d : Device) : List (Fin 4) :=
  ([0, 1, 2, 3] : List (Fin 4)).filter fun n => d.evSticky.any fun e =>
    match pageAt e.1 with
    | some (.reg m r) => m == n && (e.2 &&& d.evEn (.reg m r)) != 0
    | _ => false

/-- The sources asserted now (R480): a bit of the source set in both EV_STICKY and EV_ENABLE of its page; 160-191 never on the EZN-8620. -/
def Device.assertedNow (d : Device) : BitVec 256 :=
  d.evSticky.foldl (fun acc e =>
    match pageAt e.1 with
    | none => acc
    | some p =>
      let live := e.2 &&& d.evEn p
      if live = 0 ∨ !d.pageOn p then acc
      else (pageSources p).foldl (fun acc r => if live &&& BitVec.ofNat 32 r.2 != 0 then acc ||| BitVec.ofNat 256 (2 ^ r.1) else acc) acc) 0

/-- The numbers of the bits set in a source word. -/
def sourcesIn (w : BitVec 256) : List Nat := if w = 0 then [] else (List.range 256).filter fun s => w.getLsbD s

/-- The vectors asserted while these sources are (R482). -/
def Device.vectors (d : Device) (w : BitVec 256) : BitVec 64 :=
  (sourcesIn w).foldl (fun acc s =>
    if d.flag (Reg.EVC.ROUTE_MSIX_EN s) then acc ||| BitVec.ofNat 64 (2 ^ d.fld (Reg.EVC.ROUTE_VECTOR s)) else acc) 0

/-- A source with LOG_EN that became asserted pushes an entry into the event log, or overruns it (R486). -/
def Device.pushLog (d : Device) (s : Nat) : Device :=
  if !d.flag (Reg.EVC.ROUTE_LOG_EN s) then d
  else if d.evc.log.length < 256 then
    { d with evc := { d.evc with log := d.evc.log ++ [(BitVec.ofNat 8 s, d.frame.setWidth 16)] } }
  else (d.setFlag Reg.EVC.LOG_STATUS_OVERRUN true).raise .evc 0

/-- An entry of the MSI-X table (R457). -/
def Device.msixEntry (d : Device) (v : Nat) : MsixEntry := SMap.get (fun _ => {}) d.pci.msix v

/-- The endpoint can issue an MSI-X message: its domain on, link up, D0, bus master, MSI-X enabled (R459, R482, R485). -/
def Device.msixReady (d : Device) : Bool :=
  d.domOn 11 && d.pci.up && !d.pci.cfg.d3hot && d.pci.cfg.busMaster && d.pci.cfg.msixEnable

/-- Vector `v`, asserted and not in service: its message goes out, or its pending bit sets while it is masked (R482). -/
def Device.sendVector (d : Device) (v : Nat) : Device :=
  if d.evc.insvc.getLsbD v || !d.msixReady then d
  else if d.pci.cfg.functionMask || (d.msixEntry v).mask then { d with pci := { d.pci with pba := d.pci.pba ||| BitVec.ofNat 64 (2 ^ v) } }
  else
    let d := { d with evc := { d.evc with insvc := d.evc.insvc ||| BitVec.ofNat 64 (2 ^ v) },
                      pci := { d.pci with pba := d.pci.pba &&& ~~~BitVec.ofNat 64 (2 ^ v) } }
    d.send (.msix v (d.msixEntry v).addr (d.msixEntry v).data)

/-- The vectors of a word. -/
def vectorsIn (w : BitVec 64) : List Nat := if w = 0 then [] else (List.range 64).filter fun v => w.getLsbD v

/-- The event controller's delivery (R480-R487): log pushes of newly asserted sources, MSI-X messages, INTA and IRQ_N. With its page
disabled it only evaluates the sources. -/
def Device.deliver (d : Device) : Device :=
  let on := d.flag (fEnable .evc)
  let d := if on then (sourcesIn (d.assertedNow &&& ~~~d.evc.asserted)).foldl (fun d s => d.pushLog s) d else d
  let now := d.assertedNow
  let d := { d with evc := { d.evc with asserted := now } }
  if on then
    let vs := d.vectors now
    let d := { d with pci := { d.pci with pba := d.pci.pba &&& vs } }
    let d := (vectorsIn vs).foldl (fun d v => d.sendVector v) d
    { d with evc := { d.evc with
        irqLow := (sourcesIn now).any fun s => d.flag (Reg.EVC.ROUTE_IRQ_EN s)
        inta := d.domOn 11 && !d.pci.cfg.msixEnable && !d.pci.cfg.interruptDisable && vs != 0 } }
  else { d with evc := { d.evc with irqLow := false, inta := false } }

end Sys2Proof.Machine
end

