-- ==== Sys2Proof/Machine/Operands.lean ====
section
/-! DEFINITION. The operand forms of a DSP core (spec/09): its registers as the pipeline shows them to a consumer (R294-R296, R301, R302),
pointer steps and addresses (R299, R300), and the banks of its data space (R287-R290). -/

namespace Sys2Proof.Machine

/-! ### Registers -/

/-- A register of a register file. -/
def RegFile.get (f : RegFile) (k : Nat) : BitVec 56 := SMap.get (fun _ => 0) f k

/-- A register of a register file takes a value. -/
def RegFile.put (f : RegFile) (k : Nat) (v : BitVec 56) : RegFile := SMap.set (fun _ => 0) f k v

/-- The code of a register (R294). -/
def regCode : DspReg → Nat
  | .d n => n.val
  | .p n => 0x08 + n.val
  | .i n => 0x10 + n.val
  | .b n => 0x18 + n.val
  | .acT n => 0x20 + n.val
  | .acM n => 0x24 + n.val
  | .acB n => 0x28 + n.val
  | .sr => 0x2C
  | .lc => 0x2D
  | .lb => 0x2E
  | .le => 0x2F
  | .spc => 0x30
  | .ssr => 0x31
  | .lr => 0x32

/-- The register a code names; 0x33-0x3F are reserved (R294). -/
def regOfCode (k : Nat) : Option DspReg :=
  if k < 0x08 then some (.d (Fin.ofNat 8 k))
  else if k < 0x10 then some (.p (Fin.ofNat 8 k))
  else if k < 0x18 then some (.i (Fin.ofNat 8 k))
  else if k < 0x20 then some (.b (Fin.ofNat 8 k))
  else if k < 0x24 then some (.acT (Fin.ofNat 4 k))
  else if k < 0x28 then some (.acM (Fin.ofNat 4 k))
  else if k < 0x2C then some (.acB (Fin.ofNat 4 k))
  else match k with
    | 0x2C => some .sr
    | 0x2D => some .lc
    | 0x2E => some .lb
    | 0x2F => some .le
    | 0x30 => some .spc
    | 0x31 => some .ssr
    | 0x32 => some .lr
    | _ => none

/-- The width of a register (R294). -/
def regWidth : DspReg → Nat
  | .d _ | .acT _ | .acM _ => 24
  | .p _ | .i _ | .b _ | .lc => 16
  | .acB _ => 8
  | .sr | .ssr => 12
  | .lb | .le | .spc | .lr => 14

/-- A 24-bit read of a register of a file, SR without LD and EXC (R294, R295). -/
def RegFile.read (f : RegFile) (r : DspReg) : BitVec 24 :=
  match r with
  | .acT n => (f.get (0x20 + n.val)).extractLsb' 32 24
  | .acM n => (f.get (0x20 + n.val)).extractLsb' 8 24
  | .acB n => ((f.get (0x20 + n.val)).extractLsb' 0 8).setWidth 24
  | .i n => ((f.get (0x10 + n.val)).setWidth 16).signExtend 24
  | r => (f.get (regCode r)).setWidth 24

/-- A write of a 24-bit word to a register of a file: the low bits of it, and of an accumulator only the part named; SR keeps LD and EXC
(R295, R296). -/
def RegFile.write (f : RegFile) (r : DspReg) (v : BitVec 24) : RegFile :=
  let ac (n : Fin 4) (g : BitVec 56 → BitVec 56) : RegFile := f.put (0x20 + n.val) (g (f.get (0x20 + n.val)))
  match r with
  | .acT n => ac n fun a => v ++ a.extractLsb' 0 32
  | .acM n => ac n fun a => (a.extractLsb' 32 24 ++ v) ++ a.extractLsb' 0 8
  | .acB n => ac n fun a => a.extractLsb' 8 48 ++ v.extractLsb' 0 8
  | .sr => f.put 0x2C ((v.extractLsb' 0 8).setWidth 56)
  | r => f.put (regCode r) (BitVec.ofNat 56 (v.toNat % 2 ^ regWidth r))

/-- A write that every later instruction sees at once: a pointer step, LOOP, the loop decision, CALL, an entry (R301, R302). -/
def DspCore.now (c : DspCore) (g : RegFile → RegFile) : DspCore := { c with rf := g c.rf, rf1 := g c.rf1, rf2 := g c.rf2 }

/-- A write of stage E2: the views of the next two instructions do not show it to stage E1 and stage D (R301). -/
def DspCore.late (c : DspCore) (g : RegFile → RegFile) : DspCore := { c with rf := g c.rf }

/-- Two instructions later everything is visible: what a halt, an exception or an interrupt leaves behind it (R303). -/
def DspCore.drained (c : DspCore) : DspCore := { c with rf1 := c.rf, rf2 := c.rf, loopOld := none }

/-- SR in full: the flags and controls of a file with LD and EXC (R296). -/
def DspCore.srOf (c : DspCore) (f : RegFile) : BitVec 12 :=
  BitVec.ofBool c.exc ++ (BitVec.ofNat 3 c.ld ++ (f.get 0x2C).extractLsb' 0 8)

/-- A register as a store or MOV source, or the operand of an instruction, sees it (R295, R301). -/
def DspCore.source (c : DspCore) (r : DspReg) : BitVec 24 :=
  match r, c.loopOld with
  | .sr, some l => l.2.setWidth 24
  | .sr, none => (c.srOf c.rf1).setWidth 24
  | .lc, some l => l.1.lc.setWidth 24
  | .lb, some l => l.1.lb.setWidth 24
  | .le, some l => l.1.le.setWidth 24
  | r, _ => c.rf1.read r

/-- A D register as an operand sees it, as a signed integer (R297, R301). -/
def DspCore.data (c : DspCore) (n : Fin 8) : Int := ((c.rf1.get n.val).setWidth 24 : BitVec 24).toInt

/-- An accumulator as the next MAC or ALU instruction sees it (R301). -/
def DspCore.acc (c : DspCore) (n : Fin 4) : BitVec 56 := c.rf.get (0x20 + n.val)

/-- The bit of SR in a file: 0 Z, 1 N, 2 V, 3 X, 4 OV, 5 SAT, 6 IE, 7 LHOLD (R296). -/
def RegFile.srBit (f : RegFile) (b : Nat) : Bool := (f.get 0x2C).getLsbD b

/-- A bit of SR in a file takes a value. -/
def RegFile.setSrBit (f : RegFile) (b : Nat) (v : Bool) : RegFile :=
  f.put 0x2C (if v then f.get 0x2C ||| BitVec.ofNat 56 (2 ^ b) else f.get 0x2C &&& ~~~BitVec.ofNat 56 (2 ^ b))

/-! ### Pointers and addresses -/

/-- The least `k` up to 14 with `2^k ≥ n`. -/
def ceilLog2 (n : Nat) : Nat := ((List.range 15).find? fun k => n ≤ 2 ^ k).getD 14

/-- The low `w` bits of `x` in reverse order. -/
def revBits (w x : Nat) : Nat := (List.range w).foldl (fun acc i => if Nat.testBit x i then acc + 2 ^ (w - 1 - i) else acc) 0

/-- A step of pointer `p` by `s` under buffer control `b` (R300). -/
def stepPtr (p : BitVec 16) (s : Int) (b : BitVec 16) : BitVec 16 :=
  let linear := BitVec.ofInt 16 ((p.toNat : Int) + s)
  let n := b.toNat % 2 ^ 14
  match b.toNat / 2 ^ 14 with
  | 1 =>
    if n = 0 then linear
    else
      let k := ceilLog2 n
      let base := p.toNat / 2 ^ k * 2 ^ k
      BitVec.ofNat 16 (base + (((p.toNat : Int) - (base : Int) + s) % (n : Int)).toNat)
  | 2 =>
    let w := b.toNat % 16
    let low := p.toNat % 2 ^ w
    let sum := (revBits w low + revBits w (s % (2 ^ w : Int)).toNat) % 2 ^ w
    BitVec.ofNat 16 (p.toNat - low + revBits w sum)
  | _ => linear

/-- A pointer as address generation sees it (R301). -/
def DspCore.ptr (c : DspCore) (n : Fin 8) : BitVec 16 := (c.rf2.get (0x08 + n.val)).setWidth 16
/-- The increment of a pointer as address generation sees it. -/
def DspCore.inc (c : DspCore) (n : Fin 8) : Int := ((c.rf2.get (0x10 + n.val)).setWidth 16 : BitVec 16).toInt
/-- The buffer control of a pointer as address generation sees it. -/
def DspCore.buf (c : DspCore) (n : Fin 8) : BitVec 16 := (c.rf2.get (0x18 + n.val)).setWidth 16

/-- The address a mode forms and the pointer's new value, if it is stepped (R299). -/
def DspCore.address (c : DspCore) (n : Fin 8) (m : DspMode) (disp : BitVec 16) : BitVec 16 × Option (BitVec 16) :=
  let p := c.ptr n
  let byInc := stepPtr p (c.inc n) (c.buf n)
  let byDisp := stepPtr p disp.toInt (c.buf n)
  match m with
  | .ptr => (p, none)
  | .postI => (p, some byInc)
  | .offI => (p + BitVec.ofInt 16 (c.inc n), none)
  | .preI => (byInc, some byInc)
  | .offDisp => (p + disp, none)
  | .postDisp => (p, some byDisp)
  | .preDisp => (byDisp, some byDisp)
  | .abs => (disp, none)

/-- A stepped pointer takes its value; address generation sees it from the next instruction on (R301). -/
def DspCore.stepTo (c : DspCore) (n : Fin 8) (v : Option (BitVec 16)) : DspCore :=
  match v with
  | none => c
  | some p => c.now fun f => f.put (0x08 + n.val) (p.setWidth 56)

/-- The bank an address lies in: the four of DMEM, SMEM, the I/O registers; a reserved address lies in none (R288, R290). -/
def bankOf (a : BitVec 16) : Option Nat :=
  if a.toNat < 0x4000 then some (a.toNat % 4)
  else if a.toNat < 0xC000 then some 4
  else if a.toNat < 0xC100 then some 5
  else none

/-! ### The memories of a core -/

/-- Byte offset of a PMEM word in the core's host window (R291). -/
def pmemAt (i : Nat) : BitVec 20 := BitVec.ofNat 20 (4 * i)
/-- Byte offset of a DMEM word in the core's host window (R291). -/
def dmemAt (i : Nat) : BitVec 20 := BitVec.ofNat 20 (0x10000 + 4 * i)
/-- Byte offset of slot `i % 2048` of stream `i / 2048` in the core's host window (R291). -/
def smemAt (i : Nat) : BitVec 20 := BitVec.ofNat 20 (0x20000 + 4 * i)

/-- A word of PMEM. -/
def DspCore.pmemWord (c : DspCore) (i : Nat) : W32 := SMap.get (fun _ => 0) c.pmem i
/-- A word of DMEM. -/
def DspCore.dmemWord (c : DspCore) (i : Nat) : BitVec 24 := SMap.get (fun _ => 0) c.dmem i
/-- A sample word of SMEM: slot `i % 2048` of stream `i / 2048`. -/
def DspCore.smemWord (c : DspCore) (i : Nat) : W32 := SMap.get (fun _ => 0) c.smem i

/-- A DMEM word is written; an uncorrectable error in it is gone with the old word. -/
def DspCore.setDmem (c : DspCore) (i : Nat) (v : BitVec 24) : DspCore :=
  { c with dmem := SMap.set (fun _ => 0) c.dmem i v, bad := c.bad.filter fun b => b != dmemAt i }
/-- A PMEM word is written. -/
def DspCore.setPmem (c : DspCore) (i : Nat) (v : W32) : DspCore :=
  { c with pmem := SMap.set (fun _ => 0) c.pmem i v, bad := c.bad.filter fun b => b != pmemAt i }
/-- A sample slot is written. -/
def DspCore.setSmem (c : DspCore) (i : Nat) (v : W32) : DspCore :=
  { c with smem := SMap.set (fun _ => 0) c.smem i v, bad := c.bad.filter fun b => b != smemAt i }

/-- What a value-view load returns for a sample word (R289). -/
def valueView (w : W32) : BitVec 24 := if w.getLsbD 31 then (w.extractLsb' 0 16).signExtend 24 else 0x800000#24
/-- What a flag-view load returns for a sample word (R289). -/
def flagView (w : W32) : BitVec 24 := (w.extractLsb' 16 16).setWidth 24

end Sys2Proof.Machine
end

