-- ==== Sys2Proof/Machine/Queue.lean ====
section
/-! DEFINITION. Event contexts (R195-R200) and the output queue with its input (R190, R214, R215): the operations every producer of
records shares. -/

namespace Sys2Proof.Machine

/-! ### Event contexts -/

/-- A context's descriptor. -/
def Device.ctxOf (d : Device) (i : Nat) : Ctx := SMap.get (fun _ => {}) d.evb.ctxs i

/-- A context's descriptor changes. -/
def Device.updCtx (d : Device) (i : Nat) (f : Ctx → Ctx) : Device :=
  { d with evb := { d.evb with ctxs := SMap.upd (fun _ => {}) d.evb.ctxs i f } }

/-- Contexts of a class that are not FREE. -/
def Device.ctxUsed (d : Device) (cls : Nat) : Nat :=
  (d.evb.ctxs.filter fun p => p.2.state != .free && p.2.cls == cls).length

/-- Contexts that are not FREE. -/
def Device.ctxUsedAll (d : Device) : Nat := (d.evb.ctxs.filter fun p => p.2.state != .free).length

/-- The FREE context with the lowest index (R197). -/
def Device.freeCtx (d : Device) : Option Nat := (List.range 1024).find? fun i => (d.ctxOf i).state == .free

/-- An allocation (R197): the context, or a refusal that is counted and raised. -/
def Device.allocCtx (d : Device) (cls : Nat) (id : BitVec 24) : Device × Option Nat :=
  if d.fld (Reg.EVB.QUOTA_QUOTA cls) ≤ d.ctxUsed cls then
    ((d.count (Reg.EVB.CNT_QUOTA_REJECT cls)).raise .evb 3, none)
  else match d.freeCtx with
    | none => ((d.count Reg.EVB.CNT_POOL_REJECT).raise .evb 4, none)
    | some i => (d.updCtx i fun _ => { state := .opened, cls := cls, id := id, records := 0 }, some i)

/-- The interval of an OPEN context has ended (R196). -/
def Device.closeCtx (d : Device) (i : Nat) : Device :=
  d.updCtx i fun c => if c.state == .opened then { c with state := .closing } else c

/-- A context becomes FREE. -/
def Device.freeCtxAt (d : Device) (i : Nat) : Device := d.updCtx i fun _ => {}

/-! ### The output queue -/

/-- The frame begun last. -/
def Device.presentFrame (d : Device) : Option FrameSt := d.evb.frames.getLast?

/-- A record was delivered on an internal channel of the concentrator: its run of resets ends (R216). -/
def Device.delivered (d : Device) (c : Nat) : Device := { d with evb := { d.evb with wdRuns := SMap.set (fun _ => 0) d.evb.wdRuns c 0 } }

/-- The internal channel by which a record reaches the output queue (R216): 3 from the trigger engine, 7 from its producer. -/
def recChannel : RecKind → Option Nat
  | .hit | .packed | .late => some 3
  | .trigger | .waveform | .status | .seal => some 7
  | .header | .align => none

/-- A record was delivered on the channel by which it came. -/
def Device.recDelivered (d : Device) (r : Rec) : Device :=
  match recChannel r.kind with
  | some c => d.delivered c
  | none => d

/-- Bytes of the records in the queue (R215). -/
def Device.oqBytes (d : Device) : Nat := 8 * (d.evb.oq.map fun e => e.record.words.length).sum

/-- The occupancy in KiB, rounded up (R215). -/
def Device.oqKib (d : Device) : Nat := (d.oqBytes + 1023) / 1024

/-- A level bit after its occupancy or its marks changed (R123): set at HIGH or above, cleared at LOW or below. -/
def levelBit (now : Bool) (occ high low : Nat) : Bool := if high ≤ occ then true else if occ ≤ low then false else now

/-- The queue's level bit and the events of its changes (R215, R124). -/
def Device.oqLevel (d : Device) : Device :=
  let was := d.flag Reg.EVB.OQ_STATUS_LEVEL
  let now := levelBit was d.oqKib (d.fld Reg.EVB.OQ_WM_HIGH) (d.fld Reg.EVB.OQ_WM_LOW)
  if was = now then d else (d.setFlag Reg.EVB.OQ_STATUS_LEVEL now).raise .evb (if now then 5 else 6)

/-- A record's context when the record is queued, or dropped at the queue's input (R196, R214). -/
def Device.ctxRecord (d : Device) (r : Rec) (dropped : Bool) : Device :=
  match r.ctx with
  | none => d
  | some i =>
    let d := d.updCtx i fun c => { c with records := min (c.records + 1) 0xFFFFFFFF }
    if !r.last then d else if dropped then d.freeCtxAt i else d.updCtx i fun c => { c with state := .queued }

/-- A record enters the stream: into the queue for its paths, or dropped and counted when it has none (R214). -/
def Device.letIn (d : Device) (r : Rec) : Device :=
  let d := d.recDelivered r
  let (lanes, rings) := pathsOf (r.fmt.getD d.streamFmt) r.kind
  if !lanes && rings.isEmpty then (d.count Reg.EVB.CNT_UNROUTED).ctxRecord r true
  else
    let n := d.evb.serial
    let e : OqEntry := { serial := n, record := r, lanes := lanes, rings := rings }
    let d := { d with evb := { d.evb with serial := n + 1, oq := d.evb.oq ++ [e],
                                          laneTodo := if lanes then d.evb.laneTodo ++ [n] else d.evb.laneTodo } }
    let d := rings.foldl (fun d k =>
      { d with pci := { d.pci with rings := SMap.upd (fun _ => {}) d.pci.rings k fun q => { q with todo := q.todo ++ [n] } } }) d
    (d.ctxRecord r false).oqLevel

/-- The queue has room for a whole record: 8 MiB (R215). -/
def Device.oqFits (d : Device) (r : Rec) : Bool := decide (d.oqBytes + 8 * r.words.length ≤ 8388608)

/-- Records waiting at the input enter the queue in order while it has room, once their frame's header is queued (R188, R190). -/
def Device.pumpN (d : Device) : Nat → Device
  | 0 => d
  | n + 1 =>
    match d.evb.inq with
    | [] => d
    | r :: rest =>
      if r.fmt.isSome && d.oqFits r then
        Device.pumpN (Device.letIn { d with evb := { d.evb with inq := rest } } r) n
      else d

/-- Every waiting record that the queue takes. -/
def Device.pump (d : Device) : Device := d.pumpN d.evb.inq.length

/-- The output queue refuses records (R188, R215). -/
def Device.refusing (d : Device) : Bool := d.evb.streamOn && d.evb.inq.head?.any fun r => r.fmt.isSome && !d.oqFits r

/-- A record takes the present output position (R190). -/
def Device.emit (d : Device) (r : Rec) : Device :=
  (d.closePacked.enqueue r).pump

/-- The payload words of a packed-hits record of `n` hits (R202, R212). -/
def packedLen (keep n : Nat) : Nat := (n * keptWidth keep (hitFields ⟨0, 0, 0, 0, 0, 0⟩) + 63) / 64

/-- A released hit that leaves the package: an ordinary hit record, or a place in a packed-hits record when the frame's format drops a
field (R203, R212). -/
def Device.emitHit (d : Device) (h : Hit) : Device :=
  let keep := hitKeep d.streamFmt
  let d := { d.count Reg.EVB.CNT_HITS_OUT with evb := { (d.count Reg.EVB.CNT_HITS_OUT).evb with
    frames := match d.evb.frames with
      | f :: rest => if f.header && f.num.toNat == h.toa / 2 ^ 24 then { f with hits := f.hits + 1 } :: rest else f :: rest
      | [] => [] } }
  if keep = 0x7F then d.emit { kind := .hit, words := [hitWord 0 h] }
  else
    let d := match d.evb.packed with
      | some p => if p.keep.toNat = keep && decide (packedLen keep (p.hits.length + 1) ≤ 255) then d else d.closePacked
      | none => d
    let p := d.evb.packed.getD ⟨d.streamFmt, BitVec.ofNat 7 keep, []⟩
    { d with evb := { d.evb with packed := some { p with hits := p.hits ++ [h] } } }.pump

/-- An entry of the queue that has no path left is gone; a context keeps its state until CONTEXT_RELEASE (R196, R215). -/
def Device.oqSweep (d : Device) : Device :=
  Device.oqLevel { d with evb := { d.evb with oq := d.evb.oq.filter fun e => e.lanes || !e.rings.isEmpty } }

/-- The lane path releases a record (R196). -/
def Device.releaseLane (d : Device) (n : Nat) : Device :=
  let mark (e : OqEntry) : OqEntry := if e.serial = n then { e with lanes := false } else e
  (Device.oqSweep { d with evb := { d.evb with oq := d.evb.oq.map mark } }).pump

/-- A readout ring releases a record (R196). -/
def Device.releaseRing (d : Device) (ring n : Nat) : Device :=
  let mark (e : OqEntry) : OqEntry := if e.serial = n then { e with rings := e.rings.filter fun r => r != ring } else e
  (Device.oqSweep { d with evb := { d.evb with oq := d.evb.oq.map mark } }).pump

/-- A record of the queue by its serial number. -/
def Device.oqRecord (d : Device) (n : Nat) : Option Rec := (d.evb.oq.find? fun e => e.serial = n).map (·.record)

/-! ### LATE records -/

/-- The open LATE record is closed and queued (R211). -/
def Device.closeLate (d : Device) : Device :=
  match d.evb.late with
  | none => d
  | some l =>
    let d := { d with evb := { d.evb with late := none, lateCount := d.evb.lateCount + l.hits.length } }
    d.emit { kind := .late, words := recHeader 7 l.hits.length (l.frame ++ (0 : BitVec 8)) :: l.hits }

/-- EVB.LATE_CTRL.MAX_HITS: 1 to 32 (R219). -/
def Device.lateMax (d : Device) : Nat := max 1 (min 32 (d.fld Reg.EVB.LATE_CTRL_MAX_HITS))

end Sys2Proof.Machine
end

