-- ==== Sys2Proof/Machine/AdcOps.lean ====
section
/-! DEFINITION. Waveform ADCs and monitor ADCs (spec/05): coefficients, corrections, the course of a sample, calibrations, scans; and the
sample streams of the DSP cores (R318-R321). -/

namespace Sys2Proof.Machine

/-! ### Coefficients (R183) -/

/-- The reset word of a coefficient index: 16,384 for a gain, 0 for an offset (R183). -/
def coefReset (i : Nat) : BitVec 16 := if i % 2 = 1 then 0x4000#16 else 0

/-- An index that holds a coefficient word (R183). -/
def coefUsed (i : Nat) : Bool := decide (i < 4674) || (decide (4676 ≤ i) && decide (i < 4742))

/-- A coefficient word. -/
def Device.coef (d : Device) (i : Nat) : BitVec 16 := if coefUsed i then SMap.get coefReset d.sea.coefs i else 0

/-- A coefficient word takes a value; an unused index holds none. -/
def Device.setCoef (d : Device) (i : Nat) (w : BitVec 16) : Device :=
  if coefUsed i then { d with sea := { d.sea with coefs := SMap.set coefReset d.sea.coefs i w } } else d

/-- One correction stage (R158): offset at index `i`, gain at `i + 1`. -/
def Device.stage (d : Device) (i : Nat) (x : Int) : Int := ((x - (d.coef i).toInt) * ((d.coef (i + 1)).toNat : Int) + 8192) / 16384

/-- The nearest integer to `num / den` for a positive `den`, ties upward. -/
def roundDiv (num den : Int) : Int := (2 * num + den) / (2 * den)

/-- An unsigned coefficient `num / den` as it appears (R167-R169). -/
def gainWord (num den : Int) : BitVec 16 :=
  if 0 < den ∧ 0 ≤ roundDiv num den ∧ roundDiv num den < 65536 then BitVec.ofInt 16 (roundDiv num den) else Config.coefOutside num den

/-- A signed 16-bit value as it appears. -/
def signedWord (x : Int) : BitVec 16 := if -32768 ≤ x ∧ x ≤ 32767 then BitVec.ofInt 16 x else Config.coefOutside x 1

/-- A gain lies within limits (R167, R168, R180). -/
def gainWithin (num den lo hi : Int) : Bool := decide (0 < den) && decide (lo ≤ roundDiv num den) && decide (roundDiv num den ≤ hi)

/-! ### Streams of the DSP cores (R318-R321) -/

/-- A DSP core. -/
def Device.core (d : Device) (c : Nat) : DspCore := SMap.get (fun _ => {}) d.cores c
/-- A DSP core changes. -/
def Device.updCore (d : Device) (c : Nat) (f : DspCore → DspCore) : Device :=
  { d with cores := SMap.upd (fun _ => {}) d.cores c f }

/-- A stream of a core. -/
def DspCore.stream (c : DspCore) (i : Nat) : StreamSt := SMap.get (fun _ => {}) c.streams i

/-- The pending sources of vectors 4-7, in the bit places of IPEND (R312, R329). -/
def Device.ipend (d : Device) (c : Nat) : Nat :=
  let stream := d.fld (Reg.DSPIO.STPEND_PEND c) &&& d.fld (Reg.DSPIO.STMASK_MASK c) != 0
  stream.toNat * 16 + (d.flag (Reg.DSPIO.IPEND_TIMER c)).toNat * 32 + (!(d.core c).mbx.isEmpty).toNat * 64
    + (d.flag (Reg.DSPIO.IPEND_FABRIC c)).toNat * 128

/-- The pending vectors that IMASK enables, lowest first (R312). -/
def Device.wanted (d : Device) (c : Nat) : List Nat :=
  let live := d.ipend c &&& (d.fld (Reg.DSPIO.IMASK_MASK c) * 16)
  [4, 5, 6, 7].filter fun n => Nat.testBit live n

/-- The cycles that a core has waited are counted (R333): a DSP cycle is two CT. -/
def Device.endWait (d : Device) (c : Nat) : Device := d.count (Reg.DSP.CNT_WAIT c) ((d.clock - (d.core c).waitSince) / 2)

/-- A waiting core whose source is pending goes on when IE is 0 (R316). -/
def Device.wake (d : Device) (c : Nat) : Device :=
  let k := d.core c
  if k.run == .waiting && !k.rf1.srBit 6 && !(d.wanted c).isEmpty then (d.endWait c).updCore c fun k => { k with run := .running } else d

/-- The tagged sample of an ADC goes into one stream's buffer (R319-R321). -/
def Device.streamSample (d : Device) (c i : Nat) (word : W32) : Device :=
  let st := (d.core c).stream i
  let time := d.tim.count.setWidth 32
  let gap := st.seen && time != st.time + 8
  let mark := min 2048 (d.fld (Reg.DSPIO.ST_MARK_COUNT c i))
  let hit := mark != 0 && decide (mark ≤ st.sinceMark + 1)
  let st' : StreamSt :=
    { st with wptr := st.wptr + 1, time := time, counts := SMap.set (fun _ => 0) st.counts st.wptr.toNat d.tim.count, seen := true
              sinceMark := if hit then 0 else st.sinceMark + 1, total := st.total + 1 }
  let d := d.updCore c fun k => { k.setSmem (i * 2048 + st.wptr.toNat) word with streams := SMap.set (fun _ => {}) k.streams i st' }
  let d := if gap then d.setFlag (Reg.DSPIO.ST_STATUS_GAP c i) true else d
  if hit then (d.setWord (Reg.DSPIO.STPEND c) (d.word (Reg.DSPIO.STPEND c) ||| BitVec.ofNat 32 (2 ^ i))).wake c else d

/-- Every stream that names the ADC takes the sample (R318). -/
def Device.streamAll (d : Device) (adc : Nat) (word : W32) : Device :=
  (List.range 4).foldl (fun d c =>
    if !d.enabled (.dsp (Fin.ofNat 4 c)) then d
    else (List.range 8).foldl (fun d i =>
      if d.flag (Reg.DSP.SRC_EN c i) && d.fld (Reg.DSP.SRC_ADC c i) == adc then d.streamSample c i word else d) d) d

/-! ### The course of a waveform ADC -/

/-- A waveform ADC by its number die x 8 + k. -/
def Device.wadc (d : Device) (a : Nat) : WadcSt := SMap.get (fun _ => {}) d.wadcs a
/-- A waveform ADC changes. -/
def Device.updWadc (d : Device) (a : Nat) (f : WadcSt → WadcSt) : Device :=
  { d with wadcs := SMap.upd (fun _ => {}) d.wadcs a f }

/-- The converter page of an ADC. -/
def convPage (a : Nat) : Page := .conv (Fin.ofNat 4 (a / 8))

/-- What an ADC needs to run beside TREF (R155); in a drain it completes its injected conversion and calibration first, and an abort stops it (R170). -/
def Device.wadcWanted (d : Device) (a : Nat) : Bool :=
  let p := convPage a
  let s := d.wadc a
  (d.word (Reg.WADC.WADC_ENABLE (a / 8))).getLsbD (a % 8) && d.pageOn p
    && (d.flag (fEnable p) || (d.flag (fDraining p) && (s.inj.isSome || s.cal.isSome))) && !d.flag (fAbort p)
    && d.fld Reg.HLT.SERVICE_LEVEL_LEVEL != 0

/-- The ADC runs (R155). -/
def Device.wadcRuns (d : Device) (a : Nat) : Bool := d.wadcWanted a && d.flag Reg.TIM0.STATUS_TREF_PRESENT

/-- ADCs stop; `lost`: by a loss of TREF, after which the regular entry goes on where it stood (R155; log 20). -/
def Device.haltAdcs (d : Device) (which : Nat → Bool) (lost : Bool) : Device :=
  { d with wadcs := d.wadcs.map fun p =>
      if which p.1 && p.2.running then (p.1, { p.2 with running := false, lost := lost }) else p }

/-- An ADC that a loss of TREF stopped and that is now stopped for another reason too starts afresh (R155). -/
def Device.forgetLost (d : Device) : Device :=
  { d with wadcs := d.wadcs.map fun p => if p.2.lost && !d.wadcWanted p.1 then (p.1, { p.2 with lost := false }) else p }

/-- MODE of an ADC: true, once; 2 and 3 act as 0 (R172). -/
def Device.wadcOnce (d : Device) (a : Nat) : Bool := d.fld (Reg.WADC.WADC_CTRL_MODE (a / 8) (a % 8)) = 1

/-- LAST of an ADC. -/
def Device.wadcLast (d : Device) (a : Nat) : Nat := d.fld (Reg.WADC.WADC_CTRL_LAST (a / 8) (a % 8))

/-- The regular entry `e` starts: its channel, gain and dwell take effect (R160). -/
def Device.loadEntry (d : Device) (a e : Nat) (ended : Bool) : Device :=
  let i := 16 * (a % 8) + e
  let n := d.fld (Reg.WADC.WADC_SEQ_DWELL (a / 8) i)
  d.updWadc a fun s => { s with entry := e, rchan := d.fld (Reg.WADC.WADC_SEQ_CHAN (a / 8) i), rgain := d.fld (Reg.WADC.WADC_SEQ_GAIN (a / 8) i)
                                dwell := if n = 0 then 65536 else n, ended := ended }

/-- The regular entry's dwell has expired (R159, R160): the next entry, or the end of a once-sequence. -/
def Device.entryEnd (d : Device) (a : Nat) : Device :=
  let s := d.wadc a
  if s.entry < d.wadcLast a then d.loadEntry a (s.entry + 1) false
  else if d.wadcOnce a then (d.updWadc a fun s => { s with ended := true }).raise (convPage a) 7
  else d.loadEntry a 0 false

/-- An ADC that runs again: entry 0, or the last entry's channel until a START in MODE 1 (R155, R159). Its first 16 samples carry POWER, or CLOCK after a
loss of TREF, and so do further ones that were still to be marked (log 118). -/
def Device.wadcBegin (d : Device) (a : Nat) : Device :=
  let s := d.wadc a
  if s.running || !d.wadcRuns a then d
  else
    let d := if s.lost then d else d.loadEntry a (if d.wadcOnce a then d.wadcLast a else 0) (d.wadcOnce a)
    d.updWadc a fun s =>
      let left := if s.lost then s.invalid else 0
      { s with running := true, lost := false, filt := min 5 (d.fld (Reg.WADC.WADC_CTRL_FILT (a / 8) (a % 8)))
               reason := if s.lost then 6 else 5, invalid := max left 16, refill := s.refill || !s.lost
               chan := if s.lost then s.chan else 32, gain := if s.lost then s.gain else 4 }

/-- What the ADC converts at the next sampling edge. -/
inductive WadcJob where
  | regular | injected | calibrating
  deriving DecidableEq, Repr

/-- The order of R163. -/
def WadcSt.job (s : WadcSt) : WadcJob :=
  match s.cal, s.inj with
  | some c, inj => if c.started || inj.isNone then .calibrating else .injected
  | none, some _ => .injected
  | none, none => .regular

/-- The selected channel and gain of a job. -/
def WadcSt.selection (s : WadcSt) (j : WadcJob) : Nat × Nat :=
  match j, s.cal, s.inj with
  | .calibrating, some c, _ => if c.cmd = 1 then (17 + c.step % 2, c.step / 2) else (c.chan, c.gain)
  | .injected, _, some i => (i.chan, i.gain)
  | _, _, _ => (s.rchan, s.rgain)

/-- A change of `count` samples under a REASON code takes effect (R165). -/
def WadcSt.mark (s : WadcSt) (changes : List (Nat × Nat)) : WadcSt :=
  match changes with
  | [] => s
  | _ =>
    let n := changes.foldl (fun m c => max m c.1) 0
    let code := changes.foldl (fun m c => if c.1 = n then max m c.2 else m) 0
    { s with invalid := max s.invalid n, reason := if s.invalid ≤ n then code else s.reason }

/-- A region of a waveform ADC's die feeds a channel of the ADC (R153). -/
def Device.feeds (d : Device) (a chan r : Nat) : Bool :=
  r / 16 == a % 8 && (r % 16 == chan || (chan == 16 && d.flag (Reg.REG.ASUM_EN (a / 8) r) && d.flag (Reg.REG.ASUM_BANDSUM (a / 8) r)))

/-- The changes that fall on a sampling edge (R162, R164); `moved`: a region that feeds the channel has changed its range. -/
def WadcSt.changes (s : WadcSt) (j : WadcJob) (chan gain filt : Nat) (moved : Bool) : List (Nat × Nat) :=
  let first := j == .injected && (s.inj.any fun i => i.triggered && !i.started)
  (if first then [(4, 1)]
   else (if s.chan < 32 && s.chan != chan then [(4, 1)] else []) ++ (if s.gain < 4 && s.gain != gain then [(4, 2)] else []))
  ++ (if moved then [(4, 2)] else []) ++ (if s.calMark then [(4, 4)] else []) ++ (if s.filt != filt then [(2 ^ filt + 4, 3)] else [])

/-- Calibration of a sample: `x`, `y` of the self stage, whether the raw code was 0 or 4,095 (R167, R168). Answers the calibration and
whether its measurement is complete. DESIGN CHOICE (log 120): a raw code of 0 or 4,095 among the settling samples does not fail SELF. -/
def WadcCal.take (c : WadcCal) (x y : Int) (rail : Bool) : WadcCal × Bool :=
  if c.settle > 0 then ({ c with settle := c.settle - 1 }, false)
  else if c.peak && c.cmd = 3 then
    let ws : List (Nat × Int) := c.windows.map fun w => (w.1 - 1, max w.2 y)
    let closed := ws.filter fun w => w.1 = 0
    let c : WadcCal := { c with windows := ws.filter (fun w => w.1 != 0), sum := c.sum + (closed.map (·.2)).sum, taken := c.taken + closed.length }
    if c.n ≤ c.taken then ({ c with sums := [c.sum] }, true) else (c, false)
  else
    let c := { c with sum := c.sum + (if c.cmd = 1 then x else y), taken := c.taken + 1, railed := c.railed || (c.cmd = 1 && rail) }
    if c.taken < c.n then (c, false)
    else
      let c := { c with sums := c.sums ++ [c.sum] }
      if c.cmd = 1 && decide (c.step < 7) then ({ c with step := c.step + 1, settle := 4, taken := 0, sum := 0 }, false) else (c, true)

/-- A calibration step is over (R169): its status and its event. -/
def Device.calStatus (d : Device) (a code : Nat) (committed : Bool) : Device :=
  let k := a % 8
  let d := (d.setFlag (Reg.WADC.WADC_CAL_STATUS_COMMITTED (a / 8) k) committed).setFlag (Reg.WADC.WADC_CAL_STATUS_FAILED (a / 8) k) (code != 0)
  (d.setFld (Reg.WADC.WADC_CAL_STATUS_FAIL_CODE (a / 8) k) code).raise (convPage a) (if code = 0 then 0 else 1)

/-- M0, M1 and the coefficients of the last computation appear (R169). -/
def Device.calShow (d : Device) (a : Nat) (m0 m1 : Option Int) (coefs : Option (BitVec 16 × BitVec 16)) : Device :=
  let k := a % 8
  let d := match m0 with
    | some m => d.setFld (Reg.WADC.WADC_CAL_RESULT_M0 (a / 8) k) (signedWord m).toNat
    | none => d
  let d := match m1 with
    | some m => d.setFld (Reg.WADC.WADC_CAL_RESULT_M1 (a / 8) k) (signedWord m).toNat
    | none => d
  match coefs with
  | some (o, g) => (d.setFld (Reg.WADC.WADC_CAL_COEF_OFFSET (a / 8) k) o.toNat).setFld (Reg.WADC.WADC_CAL_COEF_GAIN (a / 8) k) g.toNat
  | none => d

/-- The outcome of SELF (R167). -/
def Device.selfOutcome (d : Device) (a : Nat) (c : WadcCal) : Device :=
  let n : Int := c.n
  let rows := (List.range 4).map fun g =>
    let s0 := c.sums.getD (2 * g) 0
    let s1 := c.sums.getD (2 * g + 1) 0
    (g, s0, s1, roundDiv s0 n, 29491 * 16384 * n, s1 - s0)
  let offs := rows.all fun r => decide (-2048 ≤ r.2.2.2.1) && decide (r.2.2.2.1 ≤ 2048)
  let gains := rows.all fun r => gainWithin r.2.2.2.2.1 r.2.2.2.2.2 14746 18022
  let code := if !offs then 1 else if !gains then 2 else if c.railed then 3 else 0
  let words := rows.map fun r => (a * 144 + 2 * r.1, signedWord r.2.2.2.1, gainWord r.2.2.2.2.1 r.2.2.2.2.2)
  let commit := code = 0 && d.fld Reg.SEA0.STATUS_STATE = 0
  let d := if commit then words.foldl (fun d w => (d.setCoef w.1 w.2.1).setCoef (w.1 + 1) w.2.2) d else d
  let s0 := c.sums.getD 6 0
  let s1 := c.sums.getD 7 0
  let d := d.calShow a (some (roundDiv s0 n)) (some (roundDiv s1 n)) (words.getLast?.map (·.2))
  d.calStatus a code commit

/-- The outcome of SYS_FULL (R168). -/
def Device.fullOutcome (d : Device) (a : Nat) (c : WadcCal) (s0 : Int) (n0 : Nat) : Device :=
  let n : Int := c.n
  let n0 : Int := n0
  let s1 := c.sums.getD 0 0
  let off := roundDiv s0 n0
  let num := (d.word (Reg.WADC.WADC_SYS_EXPECT (a / 8) (a % 8)) |>.extractLsb' 0 16).toInt * 16384 * n * n0
  let den := s1 * n0 - s0 * n
  let code := if off < -8192 ∨ 8192 < off then 1 else if gainWithin num den 4096 65535 then 0 else 2
  let commit := code = 0 && d.fld Reg.SEA0.STATUS_STATE = 0
  let i := a * 144 + 8 + 2 * (4 * c.chan + c.gain)
  let d := if commit then (d.setCoef i (signedWord off)).setCoef (i + 1) (gainWord num den) else d
  (d.calShow a none (some (roundDiv s1 n)) (some (signedWord off, gainWord num den))).calStatus a code commit

/-- A calibration step ends with its outcome (R167-R169). -/
def Device.calOutcome (d : Device) (a : Nat) : Device :=
  match (d.wadc a).calDone with
  | none => d
  | some c =>
    let d := d.updWadc a fun s => { s with calDone := none }
    if c.fail != 0 then d.calStatus a c.fail false
    else if c.cmd = 1 then d.selfOutcome a c
    else if c.cmd = 2 then
      let d := d.updWadc a fun s => { s with zero := some (c.gain, c.chan, c.sums.getD 0 0, c.n) }
      (d.calShow a (some (roundDiv (c.sums.getD 0 0) c.n)) none none).calStatus a 0 false
    else match (d.wadc a).zero with
      | some (_, _, s0, n0) => d.fullOutcome a c s0 n0
      | none => d.calStatus a 6 false

/-- The calibration of an ADC is over: its samples stay marked for 4 more, and for what is left of another change (R164, R165). -/
def WadcSt.endCal (s : WadcSt) (c : WadcCal) : WadcSt :=
  { s with cal := none, calDone := some c, calMark := s.calMark || c.started }

/-- RANGE_HI of a sample (R156). -/
def Device.rangeBit (d : Device) (a chan : Nat) : Bool :=
  let die := a / 8
  let act (r : Nat) : Bool := (d.word (Reg.PIX.GAIN_ACT die (r / 32))).getLsbD (r % 32)
  if chan < 16 then act (16 * (a % 8) + chan)
  else if chan = 16 then
    (List.range 16).any fun c =>
      let r := 16 * (a % 8) + c
      d.flag (Reg.REG.ASUM_EN die r) && d.flag (Reg.REG.ASUM_BANDSUM die r) && act r
  else false

/-- `y` of the self stage and `y` of both stages (R158); channels above 16 have no system stage. -/
def Device.correct (d : Device) (a chan gain : Nat) (x : Int) : Int × Int :=
  let y := d.stage (a * 144 + 2 * gain) x
  (y, if chan ≤ 16 then d.stage (a * 144 + 8 + 2 * (4 * chan + gain)) y else y)

/-- The last `n` values of a history, those that are missing taken as 0 (log 20). -/
def sumLast (n : Nat) (h : List Int) : Int := (h.take n).sum

/-- The sampling edge of a running ADC (R155-R168): the sample word as the ADC sends it. -/
def Device.sampleEdge (d : Device) (a : Nat) (raw : BitVec 12) : Device × W32 :=
  let d := if (d.wadc a).calDone.isSome then d.calOutcome a else d
  let job : WadcJob := (d.wadc a).job
  let s0 := d.wadc a
  let d := if job == .regular && s0.ended && !d.wadcOnce a then d.loadEntry a 0 false
    else if job == .regular && s0.dwell = 0 && !s0.ended then d.entryEnd a else d
  let s := d.wadc a
  let (chan, gain) := s.selection job
  let filt := min 5 (d.fld (Reg.WADC.WADC_CTRL_FILT (a / 8) (a % 8)))
  let ch := s.changes job chan gain filt (s.rangeMark.any fun r => d.feeds a chan r)
  let s : WadcSt := s.mark ch
  let inj : Option WadcInj := if job == .injected then s.inj.map (fun i => { i with started := true }) else s.inj
  let cal : Option WadcCal := if job == .calibrating then s.cal.map (fun c => { c with started := true }) else s.cal
  let refill := s.refill || (ch.any fun c => c.2 = 1 || c.2 = 2)
  let s : WadcSt := { s with chan := chan, gain := gain, filt := filt, rangeMark := [], calMark := false, refill := refill, inj := inj, cal := cal }
  let rail := raw = 0 || raw = 0xFFF#12
  let x : Int := ((raw.toNat : Int) - 2048) * 16
  let (ySelf, y) := d.correct a chan gain x
  let calm := job == .calibrating
  let open_ := s.invalid = 0 && !calm
  let history := if open_ && s.refill then List.replicate 32 y else (y :: s.history).take 32
  let n := 2 ^ filt
  let v := if filt = 0 then y else (sumLast n history + (n / 2 : Nat)) / (n : Int)
  let value := max (-32768) (min 32767 v)
  let ovr := rail || v != value
  let valid := open_ && decide (chan < 20)
  let reason := if valid then 0 else if 20 ≤ chan then 1 else if calm then 4 else s.reason
  let word : W32 := BitVec.ofBool valid ++ BitVec.ofNat 3 reason ++ BitVec.ofBool ovr ++ BitVec.ofBool (job == .injected)
    ++ BitVec.ofBool (d.rangeBit a chan) ++ BitVec.ofNat 2 gain ++ BitVec.ofNat 5 chan ++ (0 : BitVec 2) ++ BitVec.ofInt 16 value
  let last := job == .injected && open_ && (s.inj.any fun i => i.left ≤ 1)
  let dwell := if job == .regular && !s.ended then s.dwell - 1 else s.dwell
  let inj : Option WadcInj := if last then none
    else if job == .injected && open_ then s.inj.map (fun i => { i with left := i.left - 1 }) else s.inj
  let s : WadcSt := { s with history := history, refill := s.refill && !open_, invalid := s.invalid - 1, dwell := dwell, inj := inj }
  let s := match calm, s.cal with
    | true, some c =>
      let (c, full) := c.take x ySelf rail
      if full then s.endCal c else { s with cal := some c }
    | _, _ => s
  let d := d.updWadc a fun _ => s
  let d := if last then d.raise (convPage a) 6 else d
  let d := if ovr then (d.count (Reg.WADC.WADC_CNT_OVR (a / 8))).raise (convPage a) 4 else d
  (d, word)

/-- An injected conversion of an ADC is requested (R161): `triggered` by a start line (R162). -/
def Device.requestInj (d : Device) (a : Nat) (triggered : Bool) : Device :=
  let die := a / 8
  let k := a % 8
  if (d.wadc a).inj.isSome then (d.count (Reg.WADC.WADC_CNT_INJ_REFUSED die)).raise (convPage a) 2
  else
    let n := d.fld (Reg.WADC.WADC_INJ_COUNT die k)
    d.updWadc a fun s =>
      { s with inj := some { chan := d.fld (Reg.WADC.WADC_INJ_CHAN die k), gain := d.fld (Reg.WADC.WADC_INJ_GAIN die k)
                             left := if n = 0 then 256 else n, triggered := triggered } }

/-- A calibration command (R163, R168, R172). -/
def Device.requestCal (d : Device) (a cmd : Nat) : Device :=
  let die := a / 8
  let k := a % 8
  let d := d.calOutcome a
  if (d.wadc a).cal.isSome then (d.count (Reg.WADC.WADC_CNT_CAL_REFUSED die)).raise (convPage a) 3
  else
    let log := d.fld (Reg.WADC.WADC_CAL_NLOG die k)
    let gain := d.fld (Reg.WADC.WADC_CAL_GAIN die k)
    let chan := d.fld (Reg.WADC.WADC_CAL_CHAN die k)
    let c : WadcCal := { cmd := cmd, gain := gain, chan := chan, n := 2 ^ (if 4 ≤ log ∧ log ≤ 12 then log else 10)
                         peak := cmd = 3 && d.flag (Reg.WADC.WADC_CAL_PEAK die k) }
    let zeroed := (d.wadc a).zero.any fun z => z.1 = gain && z.2.1 = chan
    if cmd != 1 && (decide (16 < chan) || (cmd = 3 && !zeroed)) then d.calStatus a 6 false
    else d.updWadc a fun s => { s with cal := some c }

/-- A synchronous injection pulse of a die opens a window of its calibrations in peak mode (R168). -/
def Device.pulseWindows (d : Device) (die : Nat) : Device :=
  let w := max 1 (d.fld (Reg.WADC.WADC_PEAK_WINDOW die))
  { d with wadcs := d.wadcs.map fun p =>
      match p.2.cal with
      | some c =>
        if p.1 / 8 = die && c.started && c.peak && c.settle = 0 && decide (c.pulses < c.n) then
          (p.1, { p.2 with cal := some { c with windows := c.windows ++ [(w, -1099511627776)], pulses := c.pulses + 1 } })
        else p
      | none => p }

/-- The injection sequence of a die has ended: calibrations in peak mode that still want pulses fail (R169). -/
def Device.pulsesEnd (d : Device) (die : Nat) : Device :=
  { d with wadcs := d.wadcs.map fun p =>
      match p.2.cal with
      | some c => if p.1 / 8 = die && c.started && c.peak && decide (c.pulses < c.n) then (p.1, p.2.endCal { c with fail := 5 }) else p
      | none => p }

/-- The samples of a calibration still to be marked, none before it begins: up to its end, and 4 more (R164); in peak mode the pulses still to come are
not known, and the count is the most that INVALID_LEFT shows (R172; log 119). -/
def WadcCal.left (c : WadcCal) : Nat :=
  if !c.started then 0
  else if c.peak then (if c.pulses < c.n then 255 else c.windows.foldl (fun m w => max m w.1) 0 + 4)
  else c.settle + (c.n - c.taken) + (if c.cmd = 1 then (7 - c.step) * (4 + c.n) else 0) + 4

/-- The samples of an ADC still to be marked (R172). -/
def WadcSt.invalidLeft (s : WadcSt) : Nat :=
  max s.invalid (max ((s.cal.map (·.left)).getD 0) (if s.calMark then 4 else 0))

/-- ABORT of a converter page (R170): a calibration whose outcome is still due is abandoned with the others. -/
def Device.wadcAbort (d : Device) (die : Nat) : Device :=
  (List.range 8).foldl (fun d k =>
    let a := 8 * die + k
    let s := d.wadc a
    let cal := s.cal.isSome || s.calDone.isSome
    let n := s.inj.isSome.toNat + cal.toNat
    let d := if cal then d.calStatus a 4 false else d
    let d := if n = 0 then d else d.count (Reg.WADC.WADC_CNT_ABORT die) n
    d.updWadc a fun s => { s with running := false, lost := false, inj := none, cal := none, calDone := none }) d

/-! ### The monitor ADCs -/

/-- The lead time of a change of condition runs from now on (R175). -/
def Device.monLead (d : Device) (us : Nat) : Device :=
  { d with mon := { d.mon with leadUntil := max d.mon.leadUntil (d.clock + us * Config.usCt) } }

/-- The ADCs wake from DOZE (R175). -/
def Device.monWake (d : Device) : Device :=
  if d.mon.asleep then Device.monLead { d with mon := { d.mon with asleep := false } } (if d.flag Reg.MON.MON_CTRL_REF_EXT then 5 else 10) else d

/-- The ADCs power down in DOZE when no scan and no injection sequence needs them (R175, R178). -/
def Device.monDoze (d : Device) : Device :=
  let busy := (List.range 4).any fun n => d.flag (Reg.PIX.INJ_CTRL_BUSY n)
  if d.flag Reg.MON.MON_CTRL_DOZE && d.mon.scan.isNone && d.mon.cal.isNone && !busy then { d with mon := { d.mon with asleep := true } } else d

/-- A scan begins, or its start is counted as an overrun (R177); a disabled page starts none (R181). -/
def Device.monStart (d : Device) : Device :=
  if !d.enabled .pwrMon then d
  else if d.mon.scan.isSome then
    ({ d with mon := { d.mon with again := true } }.count Reg.MON.MON_CNT_OVERRUN).raise .pwrMon 5
  else
    let d := d.monWake
    { d with mon := { d.mon with scan := some 0, count := d.mon.count + 1 } }

/-- The input is absent from the part (R179). -/
def Device.monAbsent (d : Device) (i : Nat) : Bool := d.part == .ezn8620 && [10, 11, 14, 15].contains i

/-- An averaged raw code corrected (R174): ADC `m`, input `i`. -/
def Device.monCorrect (d : Device) (m i : Nat) (raw : Int) : Int :=
  let b := 4608 + 68 * m
  max 0 (min 65535 (d.stage (b + 2 + 2 * i) (d.stage b raw)))

/-- The average of the conversions of an entry, to the nearest code. -/
def average (codes : List Nat) : Int := roundDiv (codes.sum : Nat) (codes.length : Nat)

/-- A result is written and its limits are checked (R176, R181, R182). -/
def Device.monResult (d : Device) (i : Nat) (code : Int) (mismatch : Bool) : Device :=
  if d.monAbsent i || decide (22 ≤ i) then d.setWord (Reg.MON.MON_RESULT i) 0
  else
    let low := decide (code < d.fld (Reg.MON.MON_LIM_LOW i))
    let high := decide ((d.fld (Reg.MON.MON_LIM_HIGH i) : Int) < code)
    let w : W32 := BitVec.ofNat 8 d.mon.count ++ (0 : BitVec 4) ++ BitVec.ofBool high ++ BitVec.ofBool low ++ BitVec.ofBool mismatch
      ++ BitVec.ofBool true ++ BitVec.ofInt 16 code
    let d := d.setWord (Reg.MON.MON_RESULT i) w
    let d := if mismatch then d.raise .pwrMon 1 i else d
    if low || high then d.raise .pwrMon 0 i else d

/-- A paired conversion of one input by both ADCs (R176). -/
def Device.monPair (d : Device) (i : Nat) (rawA rawB : Int) : Int × Bool :=
  let a := d.monCorrect 0 i rawA
  let b := d.monCorrect 1 i rawB
  ((a + b + 1) / 2, decide ((d.fld Reg.MON.MON_PAIR_TOL_CODES : Int) < (a - b).natAbs))

/-- The scan goes on to its next entry, or ends (R177). -/
def Device.monNext (d : Device) (e : Nat) : Device :=
  let la := d.fld Reg.MON.MON_CTRL_LAST_A
  let last := if d.flag Reg.MON.MON_CTRL_PAIRED then la else max la (d.fld Reg.MON.MON_CTRL_LAST_B)
  if e < last then { d with mon := { d.mon with scan := some (e + 1) } }
  else
    let again := d.mon.again
    let d := Device.raise { d with mon := { d.mon with scan := none, again := false } } .pwrMon 4
    if again then d.monStart else d.monDoze

/-- The conversions of a scan entry are over (R174, R176, R177, R179); with too few codes they are not. -/
def Device.scanConverted (d : Device) (codesA codesB : List Nat) : Device :=
  match d.mon.scan with
  | none => d
  | some e =>
    let d := d.waitUntil d.mon.leadUntil
    let ia := d.fld (Reg.MON.MON_SCAN_A_INPUT e)
    let ib := d.fld (Reg.MON.MON_SCAN_B_INPUT e)
    let na := 4 ^ d.fld (Reg.MON.MON_SCAN_A_AVG e)
    let nb := 4 ^ d.fld (Reg.MON.MON_SCAN_B_AVG e)
    if d.flag Reg.MON.MON_CTRL_PAIRED then
      if d.monAbsent ia then (d.monResult ia 0 false).monNext e
      else if codesA.length = na && codesB.length = na then
        let (code, mis) := d.monPair ia (average codesA) (average codesB)
        (d.monResult ia code mis).monNext e
      else d
    else
      let useA := decide (e ≤ d.fld Reg.MON.MON_CTRL_LAST_A)
      let useB := decide (e ≤ d.fld Reg.MON.MON_CTRL_LAST_B)
      let okA := !useA || d.monAbsent ia || codesA.length = na
      let okB := !useB || d.monAbsent ib || codesB.length = nb
      if okA && okB then
        let d := if useA then d.monResult ia (d.monCorrect 0 ia (average codesA)) false else d
        let d := if useB then d.monResult ib (d.monCorrect 1 ib (average codesB)) false else d
        d.monNext e
      else d

/-- The outcome of a monitor calibration (R180). -/
def Device.monCalDone (d : Device) (code : Nat) (committed : Bool) : Device :=
  let d := (d.setFlag Reg.MON.MON_CAL_STATUS_COMMITTED committed).setFlag Reg.MON.MON_CAL_STATUS_FAILED (code != 0)
  (d.setFld Reg.MON.MON_CAL_STATUS_FAIL_CODE code).raise .pwrMon (if code = 0 then 2 else 3)

/-- The ADCs a monitor calibration works on: both in paired mode, else the one selected (R180). -/
def Device.monCalAdcs (d : Device) : List Nat := if d.flag Reg.MON.MON_CTRL_PAIRED then [0, 1] else [d.fld Reg.MON.MON_CAL_ADC]

/-- Computed coefficients of monitor ADCs: index, offset, gain as num / den; they appear, and are committed when all pass (R169, R180). -/
def Device.monCommit (d : Device) (rows : List (Nat × Int × Int × Int)) (offMax lo hi : Int) : Device :=
  let offs := rows.all fun r => decide (-offMax ≤ r.2.1) && decide (r.2.1 ≤ offMax)
  let gains := rows.all fun r => gainWithin r.2.2.1 r.2.2.2 lo hi
  let code := if !offs then 1 else if !gains then 2 else 0
  let commit := code = 0 && d.fld Reg.SEA0.STATUS_STATE = 0
  let d := rows.foldl (fun d r =>
    let o := signedWord r.2.1
    let g := gainWord r.2.2.1 r.2.2.2
    let d := (d.setFld Reg.MON.MON_CAL_COEF_OFFSET o.toNat).setFld Reg.MON.MON_CAL_COEF_GAIN g.toNat
    if commit then (d.setCoef r.1 o).setCoef (r.1 + 1) g else d) d
  d.monCalDone code commit

/-- The sum of the self stage over the conversions of an input by ADC `m` (R168, R180). -/
def Device.monSum (d : Device) (m : Nat) (codes : List Nat) : Int := (codes.map fun (c : Nat) => d.stage (4608 + 68 * m) (c : Int)).sum

/-- The sum of a SYS_ZERO is kept. -/
def Device.noteZero (d : Device) (key : Nat) (sum : Int) : Device :=
  { d with mon := { d.mon with zero := SMap.insert key sum (SMap.erase d.mon.zero key) } }

/-- A calibration of the monitor ADCs is over: scans resume, or the ADCs doze (R175, R180). -/
def Device.monCalOver (d : Device) : Device := Device.monDoze { d with mon := { d.mon with cal := none } }

/-- The sum kept for an ADC among a list of sums. -/
def sumOf (zs : List (Nat × Int)) (m : Nat) : Int := ((zs.find? fun z => z.1 = m).map (·.2)).getD 0

/-- The 1,024 conversions of a calibration's input are over (R180): SELF has its zero and goes on to the full scale, or the step ends with its outcome. -/
def Device.calConverted (d : Device) (k : MonCal) (codes : Nat → List Nat) : Device :=
  let raw (m : Nat) : Int := ((codes m).sum : Nat)
  match k.cmd, k.zeros with
  | 1, none => { d with mon := { d.mon with cal := some { k with zeros := some (k.adcs.map fun m => (m, raw m)) } } }
  | 1, some zs =>
    let rows := k.adcs.map fun m => (4608 + 68 * m, roundDiv (sumOf zs m) 1024, (58982 * 16384 * 1024 : Int), raw m - sumOf zs m)
    (d.monCommit rows 1024 14746 18022).monCalOver
  | 2, _ => ((k.adcs.foldl (fun d m => d.noteZero (32 * m + k.input) (d.monSum m (codes m))) d).monCalDone 0 false).monCalOver
  | _, _ =>
    let zero (m : Nat) : Int := sumOf d.mon.zero (32 * m + k.input)
    let rows := k.adcs.map fun m =>
      (4608 + 68 * m + 2 + 2 * k.input, roundDiv (zero m) 1024, (k.expect : Int) * 16384 * 1024, d.monSum m (codes m) - zero m)
    (d.monCommit rows 4096 4096 65535).monCalOver

/-- Conversions of the monitor ADCs are over (R174, R175, R180): those of the calibration in progress, which suspends scans, or else those of the
scan's entry. None is produced inside a lead time. -/
def Device.monConverted (d : Device) (codesA codesB : List Nat) : Device :=
  match d.mon.cal with
  | none => d.scanConverted codesA codesB
  | some k =>
    let codes (m : Nat) : List Nat := if m = 0 then codesA else codesB
    if k.adcs.all fun m => (codes m).length = 1024 then (d.waitUntil d.mon.leadUntil).calConverted k codes else d

/-- A calibration command of the monitor ADCs (R180): SYS_FULL without a SYS_ZERO of the input fails at once; one that finds a calibration in progress
only leaves its fields (log 121). -/
def Device.monCalStart (d : Device) (data : W32) (cmd : Nat) : Device :=
  let d := d.setWord Reg.MON.MON_CAL (data &&& 0xFFFF1F10#32)
  let input := d.fld Reg.MON.MON_CAL_INPUT
  if !d.enabled .pwrMon || d.mon.cal.isSome then d
  else if cmd = 3 && !d.monCalAdcs.all (fun m => d.mon.zero.any fun z => z.1 = 32 * m + input) then d.monCalDone 6 false
  else
    let k : MonCal := { cmd := cmd, adcs := d.monCalAdcs, input := input, expect := d.fld Reg.MON.MON_CAL_EXPECT }
    { d.monWake with mon := { d.monWake.mon with cal := some k } }

/-- ABORT of the monitor page (R181): a scan and a calibration end at once, the calibration with failure code 4. -/
def Device.abortMon (d : Device) : Device :=
  let d := { d with mon := { d.mon with scan := none, again := false } }
  (if d.mon.cal.isSome then (d.monCalDone 4 false) else d).monCalOver

end Sys2Proof.Machine
end

