-- ==== Sys2Proof/Machine/CoderOps.lean ====
section
/-! DEFINITION. The lossless coder's stream contexts (R359-R374): what every stream shares, and the loopback FIFOs. -/

namespace Sys2Proof.Machine

/-- A stream context. -/
def Device.coder (d : Device) (c : Nat) : CoderCtx := SMap.get (fun _ => {}) d.cdr.ctxs c
/-- A stream context changes. -/
def Device.updCoder (d : Device) (c : Nat) (f : CoderCtx → CoderCtx) : Device :=
  { d with cdr := { d.cdr with ctxs := SMap.upd (fun _ => {}) d.cdr.ctxs c f } }

/-- Coding is in force on a stream (R359). -/
def Device.codes (d : Device) (c : Nat) : Bool := c = 0 || 10 ≤ c || (d.coder c).coding

/-- STREAMc_CTRL.BLOCK_WORDS: 1 to 256; 0 and more act as 256 (R383). -/
def Device.blockWords (d : Device) (c : Nat) : Nat :=
  let n := d.fld (Reg.CDR.STREAM_CTRL_BLOCK_WORDS c)
  if n = 0 || 256 < n then 256 else n

/-- The longest wait of a block's first word, in CT (R366, R383). -/
def Device.blockWait (d : Device) (c : Nat) : Nat := 128 * max 1 (d.fld (Reg.CDR.STREAM_CTRL_MAX_WAIT c))

/-- The reset state of a context (R364). -/
def CoderCtx.reset (s : CoderCtx) : CoderCtx := { s with pred := {}, resetPending := true, askReset := false, remain := 0 }

/-- The words a context has waiting to be emitted, each with the records that are done once it has left. -/
def CoderCtx.emit (s : CoderCtx) : List (W64 × List Nat) := s.queue.flatMap (·.words)

/-- Blocks of a context wait to be emitted (R381, R383). -/
def CoderCtx.emitting (s : CoderCtx) : Bool := s.queue.any (·.coded)

/-- Words to emit whose last one is done with the records `serials`. -/
def tagWords (words : List W64) (serials : List Nat) : List (W64 × List Nat) :=
  words.zipIdx.map fun p => (p.1, if p.2 + 1 = words.length then serials else [])

/-- A damaged block (R380): its header word as it is, the rest zero words. -/
def blankBlock (words : List W64) : List W64 := words.take 1 ++ (words.drop 1).map fun _ => 0

/-- The open block of a context is closed and its words wait to be emitted (R366, R367), a damaged one followed by the same words as a RAW block
(R380); a reset asked for takes its place after it. -/
def Device.closeBlock (d : Device) (c : Nat) : Device :=
  let s := d.coder c
  if s.block.isEmpty then d
  else
    let (words, raw, pred) := codeBlock c s.pred s.blockReset s.seq s.block
    let (again, predAgain) := rawBlock c (s.seq + 1) s.block
    let d := d.count Reg.CDR.CNT_BLOCKS (if s.damaged then 2 else 1)
    let d := d.count Reg.CDR.CNT_RAW (raw.toNat + s.damaged.toNat)
    let out : List Emission :=
      if s.damaged then [{ words := tagWords (blankBlock words) [] }, { words := tagWords again s.serials, input := s.block, reset := true }]
      else [{ words := tagWords words s.serials, input := s.block, reset := s.blockReset }]
    d.updCoder c fun s =>
      let s := { s with pred := if s.damaged then predAgain else pred, seq := s.seq + (if s.damaged then 2 else 1), block := [], blockReset := false
                        serials := [], queue := s.queue ++ out, closeDue := false, damaged := false }
      if s.askReset then s.reset else s

/-- The blocks that wait behind one that is emitted again, coded anew from their input words, with the SEQ and the predictor that now come before
them (R365, R380). -/
def recodeAll (c : Nat) : BitVec 16 → Predictor → List Emission → List Emission × BitVec 16 × Predictor
  | seq, pred, [] => ([], seq, pred)
  | seq, pred, e :: rest =>
    if e.coded && !e.input.isEmpty then
      let (words, _, pred) := codeBlock c pred e.reset seq e.input
      let (rest, seq, pred) := recodeAll c (seq + 1) pred rest
      ({ e with words := tagWords words (e.words.flatMap (·.2)) } :: rest, seq, pred)
    else
      let (rest, seq, pred) := recodeAll c seq pred rest
      (e :: rest, seq, pred)

/-- The block at the front of what waits is damaged (R380): its words that have not left turn to zero but for the header, and its input words are
emitted again as a RAW block behind it. -/
def CoderCtx.resend (s : CoderCtx) (c : Nat) (e : Emission) (before rest : List Emission) : CoderCtx :=
  let waiting := (rest.filter fun x => x.coded && !x.input.isEmpty).length
  let seq := s.seq - BitVec.ofNat 16 waiting
  let (again, pred) := rawBlock c seq e.input
  let words := if e.begun then e.words.map (fun _ => (0 : W64)) else blankBlock (e.words.map (·.1))
  let (rest, seq, pred) := recodeAll c (seq + 1) pred rest
  { s with pred := if s.resetPending then s.pred else pred, seq := seq
           queue := before ++ { words := tagWords words [], begun := e.begun } :: { words := tagWords again (e.words.flatMap (·.2)), input := e.input, reset := true } :: rest }

/-- An uncorrectable error in a block that a context holds (R380): the one of index `k` among the blocks waiting to be emitted, else the open one. -/
def Device.damageBlock (d : Device) (c k : Nat) : Device :=
  let q := (d.coder c).queue
  match (q.zipIdx.filter fun p => p.1.coded && !p.1.input.isEmpty)[k]? with
  | some (e, i) =>
    let d := (d.count Reg.CDR.CNT_BLOCKS).count Reg.CDR.CNT_RAW
    d.updCoder c fun s => s.resend c e (q.take i) (q.drop (i + 1))
  | none => if (d.coder c).block.isEmpty then d else d.updCoder c fun s => { s with damaged := true }

/-- A context takes input: the coders are powered and their page is enabled (R381). -/
def Device.coderOn (d : Device) : Bool := d.enabled .cdr

/-- The words of a record enter the open block, which closes first on the conditions of R366; `force` closes it in any case. A serial
number is that of the record in the output queue. -/
def Device.codeRecord (d : Device) (c : Nat) (words : List W64) (serial : Option Nat) (resetPoint force : Bool) : Device :=
  let full := decide (d.blockWords c < (d.coder c).block.length + words.length)
  let d := if full || resetPoint || force then d.closeBlock c else d
  let d := d.count (Reg.CDR.CNT_IN c) words.length
  let now := d.clock
  d.updCoder c fun s =>
    let s := if s.block.isEmpty then { s with since := now, blockReset := s.resetPending || resetPoint, resetPending := false } else s
    { s with block := s.block ++ words, serials := s.serials ++ serial.toList }

/-- A record's words pass uncoded (R360). -/
def Device.passRecord (d : Device) (c : Nat) (words : List W64) (serial : Option Nat) : Device :=
  d.updCoder c fun s => { s with queue := s.queue ++ [{ words := tagWords words serial.toList, coded := false }] }

/-- A record enters a stream of contexts 1-9; EN takes effect at a frame header (R360, R365, R369). -/
def Device.streamRecord (d : Device) (c : Nat) (r : Rec) (serial : Option Nat) : Device :=
  let want := d.flag (Reg.CDR.STREAM_CTRL_EN c)
  if r.kind = .header then
    let was := d.codes c
    let d := if was && !want then d.closeBlock c else d
    let d := (d.updCoder c fun s => { s with coding := want }).setFlag (Reg.CDR.STREAM_STATUS_EN_PENDING c) false
    if want then d.codeRecord c r.words serial (!was || c = 1 || d.flag (Reg.CDR.STREAM_CTRL_FRAME_RESET c)) false
    else d.passRecord c r.words serial
  else if d.codes c then d.codeRecord c r.words serial false false
  else d.passRecord c r.words serial

/-- A stream can take its next record: coding off, or the coders on, and nothing waiting to be emitted (R361, R381). A frame header that
turns coding on waits for the coders too. -/
def Device.streamTakes (d : Device) (c : Nat) (r : Rec) : Bool :=
  let on := if r.kind = .header then d.flag (Reg.CDR.STREAM_CTRL_EN c) || d.codes c else d.codes c
  (d.coder c).emit.isEmpty && (!on || d.coderOn)

/-- What waits once `n` words have left, and how many of those were words of blocks. -/
def leaveWords : Nat → List Emission → List Emission × Nat
  | _, [] => ([], 0)
  | n, e :: rest =>
    if n = 0 then (e :: rest, 0)
    else if n < e.words.length then ({ e with words := e.words.drop n, begun := true } :: rest, if e.coded then n else 0)
    else
      let (q, m) := leaveWords (n - e.words.length) rest
      (q, m + if e.coded then e.words.length else 0)

/-- `n` words leave a context; the records that are done with them (R196). -/
def Device.takeWords (d : Device) (c n : Nat) : Device × List W64 × List Nat :=
  let out := (d.coder c).emit.take n
  let (q, m) := leaveWords n (d.coder c).queue
  let d := (d.updCoder c fun s => { s with queue := q }).count (Reg.CDR.CNT_OUT c) m
  (d, out.map (·.1), out.flatMap (·.2))

/-- The block's first word has waited its longest (R366). -/
def Device.waited (d : Device) (c : Nat) : Bool := !(d.coder c).block.isEmpty && decide ((d.coder c).since + d.blockWait c ≤ d.clock)

/-! ### Loopback -/

/-- LB_CTRL.CTX: values below 10 act as 10 (R383). -/
def Device.loopCtx (d : Device) : Nat := max 10 (d.fld Reg.CDR.LB_CTRL_CTX)

/-- The open block of a context closes, once the record that a loopback context is taking is complete (R366). -/
def Device.closeSoon (d : Device) (c : Nat) : Device :=
  if (d.coder c).remain = 0 then d.closeBlock c else d.updCoder c fun s => { s with closeDue := true }

/-- One host word enters its loopback context (R374): parsed as R363 parses it. -/
def Device.loopWord (d : Device) (c : Nat) (w : W64) : Device :=
  let s := d.coder c
  let head := decide (w.toNat / 2 ^ 62 = 3)
  let len := if s.remain = 0 && head then w.toNat / 2 ^ 48 % 256 else 0
  let header := s.remain = 0 && head && decide (w.toNat / 2 ^ 56 % 64 = 1)
  if s.remain > 0 then
    let d := (d.count (Reg.CDR.CNT_IN c)).updCoder c fun s => { s with block := s.block ++ [w], remain := s.remain - 1 }
    if (d.coder c).remain = 0 && (d.coder c).closeDue then d.closeBlock c else d
  else
    let full := decide (d.blockWords c < s.block.length + len + 1)
    let d := d.codeRecord c [w] none (header && d.flag (Reg.CDR.STREAM_CTRL_FRAME_RESET c)) full
    d.updCoder c fun s => { s with remain := len }

/-- Words waiting in the loopback contexts move to the output FIFO of 64 words. -/
def Device.loopOut (d : Device) : Device :=
  ([10, 11, 12, 13, 14, 15] : List Nat).foldl (fun d c =>
    let (d, ws, _) := d.takeWords c (64 - d.cdr.lbOut.length)
    { d with cdr := { d.cdr with lbOut := d.cdr.lbOut ++ ws } }) d

/-- Words of the input FIFO enter their contexts while these have nothing to emit (R361, R374); while the page is not enabled only those that
complete a record (R366, R381). -/
def Device.loopIn (d : Device) : Nat → Device
  | 0 => d
  | n + 1 =>
    match d.cdr.lbIn with
    | [] => d
    | (c, w) :: rest =>
      if (d.coder c).emit.isEmpty && (d.coderOn || (d.domOn 8 && (d.coder c).remain != 0)) then
        Device.loopIn ((Device.loopWord { d with cdr := { d.cdr with lbIn := rest } } c w).loopOut) n
      else d

/-- The loopback moves as far as its FIFOs allow; its levels are shown. -/
def Device.loopPump (d : Device) : Device :=
  let d := d.loopOut
  let d := d.loopIn d.cdr.lbIn.length
  (d.setFld Reg.CDR.LB_STATUS_IN_LEVEL d.cdr.lbIn.length).setFld Reg.CDR.LB_STATUS_OUT_LEVEL d.cdr.lbOut.length

end Sys2Proof.Machine
end

