-- ==== Sys2Proof/Machine/Sealed.lean ====
section
/-! DEFINITION. Writing a register field by field under its access codes (R9), and the refused write of sealed content (R493, R494). -/

namespace Sys2Proof.Machine

/-- The sealed domain is UNSEALED (R493). -/
def Device.unsealed (d : Device) : Bool := d.fld Reg.SEA0.STATUS_STATE = 0

/-- A field of a word, under its description. -/
def FieldD.of (f : FieldD) (w : W32) : Nat := w.toNat / 2 ^ f.lsb % 2 ^ f.width

/-- The word with a field replaced. -/
def FieldD.put (f : FieldD) (w : W32) (v : Nat) : W32 := Fld.put ⟨0, f.lsb, f.width⟩ w v

/-- One field of a write of `data` to a register that holds `old` (R9): RWS as RW while the sealed domain is unsealed, unchanged otherwise;
RO, WO and RWA hold nothing that a plain write changes. -/
def writeField (unsealed : Bool) (data : W32) (w : W32) (f : FieldD) : W32 :=
  match f.acc with
  | .rw => f.put w (f.of data)
  | .rws => if unsealed then f.put w (f.of data) else w
  | .w1c => f.put w (f.of w &&& (2 ^ f.width - 1 - f.of data))
  | .w1s => f.put w (f.of w ||| f.of data)
  | .ro | .wo | .rwa => w

/-- A register word after a write, field by field (R9, R493). -/
def writeWord (unsealed : Bool) (fields : List FieldD) (old data : W32) : W32 := fields.foldl (writeField unsealed data) old

/-- A write carries, for at least one RWS field, a value that differs from the stored one (R493). -/
def rwsDiffers (fields : List FieldD) (old data : W32) : Bool := fields.any fun f => f.acc == .rws && f.of data != f.of old

/-- A refused write of sealed content: audited, counted, alarmed, and reported to its route (R493). -/
def Device.refuseSealed (d : Device) (route addr : Nat) (data : W32) : Device :=
  let d := d.audit 0x01 route (d.alarmPolicy 0) 0 addr data
  { (d.count Reg.SEA0.CNT_REFUSED_WRITE).alarm 0 with wrRefused := true }

/-- A write without the authenticated mark to an RWA register: nothing changes but the audit trail and the alarm (R494). -/
def Device.refuseUnmarked (d : Device) (route addr : Nat) (data : W32) : Device :=
  { (d.audit 0x04 route (d.alarmPolicy 1) 0 addr data).alarm 1 with wrRefused := true }

/-- A write to a register by its description, with the refusal of RWS content (R9, R493). -/
def Device.writeReg (d : Device) (route addr : Nat) (fields : List FieldD) (data : W32) : Device :=
  let old := d.word addr
  let d' := d.setWord addr (writeWord d.unsealed fields old data)
  if !d.unsealed && rwsDiffers fields old data then d'.refuseSealed route addr data else d'

end Sys2Proof.Machine
end

