-- ==== Sys2Proof/Machine/PixelOps.lean ====
section
/-! DEFINITION. Pixels, cluster converters and regions (spec/02, spec/03, spec/04): the operations their commands share. -/

namespace Sys2Proof.Machine

/-! ### Places -/

/-- A pixel's number in the package. -/
def pixNo (p : Pix) : Nat := p.die.val * 131072 + p.row.val * 512 + p.col.val
/-- The die of a pixel number. -/
def pixDie (i : Nat) : Die := Fin.ofNat 4 (i / 131072)
/-- The row of a pixel number. -/
def pixRow (i : Nat) : Nat := i / 512 % 256
/-- The column of a pixel number. -/
def pixCol (i : Nat) : Nat := i % 512
/-- The region of a pixel number within its die (R29). -/
def pixRegion (i : Nat) : Region := Fin.ofNat 128 (16 * (pixRow i / 32) + pixCol i / 32)
/-- The global cluster index of a pixel number (R100). -/
def pixCluster (i : Nat) : Nat := i / 131072 * 8192 + 128 * (pixRow i / 4) + pixCol i / 4
/-- A region's number in the package. -/
def regNo (d : Die) (n : Region) : Nat := d.val * 128 + n.val
/-- The REG page of a pixel's region. -/
def pixPage (i : Nat) : Page := .reg (pixDie i) (pixRegion i)

/-! ### State of the units -/

/-- A pixel. -/
def Device.pixel (d : Device) (i : Nat) : PixelSt := SMap.get (fun _ => {}) d.arr.pixels i
/-- A pixel changes. -/
def Device.updPixel (d : Device) (i : Nat) (f : PixelSt → PixelSt) : Device :=
  { d with arr := { d.arr with pixels := SMap.upd (fun _ => {}) d.arr.pixels i f } }
/-- A cluster converter. -/
def Device.conv (d : Device) (i : Nat) : ConvSt := SMap.get (fun _ => {}) d.arr.convs i
/-- A cluster converter changes. -/
def Device.updConv (d : Device) (i : Nat) (f : ConvSt → ConvSt) : Device :=
  { d with arr := { d.arr with convs := SMap.upd (fun _ => {}) d.arr.convs i f } }
/-- A region. -/
def Device.region (d : Device) (i : Nat) : RegionSt := SMap.get (fun _ => {}) d.arr.regions i
/-- A region changes. -/
def Device.updRegion (d : Device) (i : Nat) (f : RegionSt → RegionSt) : Device :=
  { d with arr := { d.arr with regions := SMap.upd (fun _ => {}) d.arr.regions i f } }

/-- A region is isolated (R142). -/
def Device.isolated (d : Device) (n : Die) (r : Region) : Bool := d.flag (Reg.REG.FIFO_STATUS_ISOLATED n.val r.val)

/-- A pixel is masked, by its table entry or because its region is isolated (R26, R142). -/
def Device.masked (d : Device) (i : Nat) : Bool := (d.pixel i).entry.getLsbD 5 || d.isolated (pixDie i) (pixRegion i)

/-- A pixel drives its region's pixel OR: discriminator high, unmasked, not held by the check (R26, R52, R225). -/
def Device.drives (d : Device) (i : Nat) : Bool := (d.pixel i).high && !d.masked i && !(d.pixel i).checking

/-- The pixel OR of a region is high (R52, R225). -/
def Device.pixelOr (d : Device) (n : Die) (r : Region) : Bool :=
  d.arr.pixels.any fun p => p.2.high && pixDie p.1 == n && pixRegion p.1 == r && d.drives p.1

/-- The clock since when the pixel OR of a region is low is kept up after its pixels changed (R52). -/
def Device.noteQuiet (d : Device) (before : Bool) (n : Die) (r : Region) : Device :=
  if before && !d.pixelOr n r then d.updRegion (regNo n r) fun s => { s with quietSince := d.clock } else d

/-- The active gain range of a region: true, low gain (R52). -/
def Device.gainAct (d : Device) (n : Die) (r : Region) : Bool := (d.word (Reg.PIX.GAIN_ACT n.val (r.val / 32))).getLsbD (r.val % 32)

/-- FE_INHIBIT (R91). -/
def Device.feInhibit (d : Device) : Bool := d.flag Reg.TIM0.CTRL_FE_INHIBIT

/-- The low 24 bits of the coarse count as a latch takes them: while the bus changes, either of two neighbouring counts (R87). -/
def Device.latchCount (d : Device) (edge : Bool) : Device × BitVec 24 :=
  let n := d.tim.count.setWidth 24
  if edge then (d.draw, if Config.newerCount d.free then n + 1 else n) else (d, n)

/-- A cluster converter is freed (R97). -/
def Device.freeConv (d : Device) (c : Nat) : Device := d.updConv c fun _ => {}

/-- A pixel that has become masked: its converter, if it holds it, is freed; a pulse in progress gives no hit, a completed hit stays (R59). -/
def Device.dropPulse (d : Device) (i : Nat) : Device :=
  let d := if (d.conv (pixCluster i)).holder = some i then d.freeConv (pixCluster i) else d
  if (d.pixel i).run == .firing then d.updPixel i fun p => { p with run := .armed, hit := RawHit.blank } else d

/-- A pixel's table entry takes a value, applied as R59 says: MASK at once, TRIM at once on a masked pixel; the master copy of its trim goes with
it (R490). -/
def Device.setEntry (d : Device) (i : Nat) (e : BitVec 8) : Device :=
  let before := d.pixelOr (pixDie i) (pixRegion i)
  let d := d.updPixel i fun p => { p with entry := e, trim := if e.getLsbD 5 then e.extractLsb' 0 5 else p.trim }
  let d := { d with sea := { d.sea with master := SMap.set (fun _ => 0x10#5) d.sea.master i (e.extractLsb' 0 5) } }
  (if e.getLsbD 5 then d.dropPulse i else d).noteQuiet before (pixDie i) (pixRegion i)

/-! ### Hits -/

/-- The start code of a start register: 1 + the index of the farthest tap at 1, or 0 (R98). -/
def startCode (r : BitVec 80) : BitVec 7 := BitVec.ofNat 7 ((List.range 80).foldl (fun m k => if r.getLsbD k then k + 1 else m) 0)

/-- The stop code of a stop register: the taps at 0 before the first at 1, counted from tap 0, or 80 (R98). -/
def stopCode (r : BitVec 80) : BitVec 7 := BitVec.ofNat 7 (((List.range 80).find? fun k => r.getLsbD k).getD 80)

/-- A pixel of a contest is marked, and stands back when a later one is granted (R96). -/
def PixelSt.contend (p : PixelSt) (later : Bool) : PixelSt :=
  if p.run == .firing || p.run == .waiting then
    { p with hit := { p.hit with contested := true, granted := p.hit.granted && !later,
                                 s := if later then 0 else p.hit.s, p := if later then 0 else p.hit.p } }
  else p

/-- The leading edge of a pixel (R25, R91, R95, R96): the pixel latches the count, disarms and asks its converter. `start` is the start register as
it captures the line for this pixel's count; a contest keeps the register of its first edge where the counts are the same (R98). -/
def Device.leading (d : Device) (i : Nat) (contest edge : Bool) (start : BitVec 80) : Device :=
  let was := d.pixel i
  let d := d.updPixel i fun p => { p with high := true }
  if was.high || was.run != .armed || was.checking || d.masked i || d.feInhibit then d
  else
    let (d, n) := d.latchCount edge
    let c := d.conv (pixCluster i)
    let window := contest && c.holder.isSome && decide (d.clock ≤ c.firstClock + 1)
    let later := window && Config.grantLater d.free
    let granted := c.holder.isNone || later
    let h : RawHit :=
      { row := BitVec.ofNat 8 (pixRow i), col := BitVec.ofNat 9 (pixCol i), tb := d.flag Reg.TIM0.STATUS_TIME_BASE, c1 := n, c2 := 0
        s := 0, p := 0, granted := granted, contested := window, sat := false
        rangeHi := d.gainAct (pixDie i) (pixRegion i), rangeChanged := (d.region (regNo (pixDie i) (pixRegion i))).transition
        wdFreed := false }
    let d := if window then d.draw else d
    let d := match c.holder with
      | some j => if window then d.updPixel j fun p => p.contend later else d
      | none => d
    let d := if granted then d.updConv (pixCluster i) fun c => 
        if c.holder.isNone then { holder := some i, firstClock := d.clock, firstCount := n, start := start }
        else { c with holder := some i, start := if n = c.firstCount then c.start else start, stopped := false } else d
    d.updPixel i fun p => { p with run := .firing, hit := h }

/-- The end of a hit at its trailing edge or at saturation (R56, R98): C2, the codes of the granted pixel, and the hit is ready. `stop` is the stop
register as it captures the line. -/
def Device.complete (d : Device) (i : Nat) (edge sat : Bool) (stop : BitVec 80) : Device :=
  let (d, n) := d.latchCount edge
  let c := d.conv (pixCluster i)
  let mine := c.holder = some i
  let moving := (d.region (regNo (pixDie i) (pixRegion i))).transition
  let d := if mine then d.updConv (pixCluster i) fun c => { c with stop := stop, stopped := true } else d
  d.updPixel i fun p =>
    { p with run := .waiting, trailClock := d.clock
             hit := { p.hit with c2 := n.setWidth 11, s := if mine then startCode c.start else 0, p := if mine then stopCode stop else 0, sat := sat
                                 rangeChanged := p.hit.rangeChanged || moving
                                 rangeHi := if moving then d.gainAct (pixDie i) (pixRegion i) else p.hit.rangeHi } }

/-- The trailing edge of a pixel's discriminator. -/
def Device.trailing (d : Device) (i : Nat) (edge : Bool) (stop : BitVec 80) : Device :=
  let was := d.pixel i
  if !was.high then d
  else
    let before := d.pixelOr (pixDie i) (pixRegion i)
    let d := if was.run == .firing then d.complete i edge false stop else d
    (d.updPixel i fun p => { p with high := false }).noteQuiet before (pixDie i) (pixRegion i)

/-! ### The region FIFO -/

/-- The level bit of a region and its events (R123, R124). -/
def Device.regionLevel (d : Device) (n : Die) (r : Region) : Device :=
  let was := d.flag (Reg.REG.FIFO_STATUS_LEVEL n.val r.val)
  let now := levelBit was (d.region (regNo n r)).fifo.length (d.fld (Reg.REG.WM_HIGH n.val r.val)) (d.fld (Reg.REG.WM_LOW n.val r.val))
  if was = now then d else (d.setFlag (Reg.REG.FIFO_STATUS_LEVEL n.val r.val) now).raise (.reg n r) (if now then 0 else 1)

/-- The coarse ToT of a hit in CT (R119). -/
def coarseTot (h : RawHit) : Nat := (h.c2 - h.c1.setWidth 11).toNat

/-- The region takes hits: powered, enabled, not isolated (R142, R144). -/
def Device.regionTakes (d : Device) (n : Die) (r : Region) : Bool := d.enabled (.reg n r) && !d.isolated n r

/-- A hit whose turn has come at the region's input (R119-R121, R28): cut, written, or left waiting for room. Answers whether it was
accepted from its pixel. -/
def Device.offer (d : Device) (n : Die) (r : Region) (h : RawHit) : Device × Bool :=
  let k := regNo n r
  let cut := d.fld (Reg.REG.SKIM_MIN_CT n.val r.val)
  if !d.regionTakes n r then (d, false)
  else if coarseTot h < cut then (d.count (Reg.REG.CNT_SKIM_CUT n.val r.val), true)
  else if (d.region k).fifo.length < 16 then
    let d := (d.updRegion k fun s => { s with fifo := s.fifo ++ [h] }).count (Reg.REG.CNT_HITS n.val r.val)
    let d := if (d.region k).fifo.length = 16 then (d.count (Reg.REG.CNT_FULL n.val r.val)).raise (.reg n r) 2 else d
    (d.regionLevel n r, true)
  else (d, false)

/-- The hit of a pixel is gone from it: the pixel re-arms 25 ns after its trailing edge (R25). -/
def Device.acceptFrom (d : Device) (i : Nat) : Device :=
  d.updPixel i fun p => { p with run := .resting, hit := RawHit.blank, stuck := 0 }

/-- The pixels of a region whose hits wait (R25, R137). -/
def Device.waitingPixels (d : Device) (n : Die) (r : Region) : List Nat :=
  (d.arr.pixels.filter fun p => p.2.run == .waiting && pixDie p.1 == n && pixRegion p.1 == r).map (·.1)

/-- A region flush (R137): FIFO, waiting hits and a waiting test hit are discarded and counted; FLUSH_DONE. -/
def Device.flushRegion (d : Device) (n : Die) (r : Region) : Device :=
  if !d.pageOn (.reg n r) then d
  else
    let k := regNo n r
    let waiting := d.waitingPixels n r
    let lost := (d.region k).fifo.length + waiting.length + (d.region k).test.toList.length
    let d := waiting.foldl (fun d i => d.acceptFrom i) d
    let d := d.updRegion k fun s => { s with fifo := [], test := none }
    let d := (d.setFlag (Reg.REG.FIFO_STATUS_TEST_PENDING n.val r.val) false).count (Reg.REG.CNT_FLUSH n.val r.val) lost
    (d.regionLevel n r).raise (.reg n r) 4

/-- A region becomes isolated (R142): its pixels are masked, so its pixel OR falls, pulses give no hit and converters are freed (R59). -/
def Device.isolate (d : Device) (n : Die) (r : Region) : Device :=
  let before := d.pixelOr n r
  let d := (d.setFlag (Reg.REG.FIFO_STATUS_ISOLATED n.val r.val) true).setFlag (fFault (.reg n r)) true
  let mine := (d.arr.pixels.filter fun p => p.2.run != .armed && pixDie p.1 == n && pixRegion p.1 == r).map (·.1)
  ((mine.foldl (fun d i => d.dropPulse i) d).noteQuiet before n r).raise (.reg n r) 5

/-- A watchdog reset in a region, counted and raised, with the LOSS item it owes if a hit was lost (R134, R141). -/
def Device.regionWd (d : Device) (n : Die) (r : Region) (lost : Option Nat) : Device :=
  let d := match lost with
    | some level => d.updRegion (regNo n r) fun s => { s with owed := s.owed ++ [level] }
    | none => d
  ((d.upset Reg.HLT.UPS_WD).count (Reg.REG.CNT_WD n.val r.val)).raise (.reg n r) 3

/-! ### Injection sequences -/

/-- A die's injection sequence. -/
def Device.injOf (d : Device) (die : Die) : InjSt := SMap.get (fun _ => {}) d.arr.inj die.val
/-- A die's injection sequence changes. -/
def Device.setInj (d : Device) (die : Die) (i : InjSt) : Device := { d with arr := { d.arr with inj := SMap.set (fun _ => {}) d.arr.inj die.val i } }

/-! ### The background check -/

/-- A die's background check. -/
def Device.checkOf (d : Device) (die : Die) : CheckSt := SMap.get (fun _ => {}) d.arr.check die.val
/-- A die's background check changes. -/
def Device.setCheck (d : Device) (die : Die) (c : CheckSt) : Device :=
  { d with arr := { d.arr with check := SMap.set (fun _ => {}) d.arr.check die.val c } }

/-- Pixels are held for the check, or released (R68). -/
def Device.holdPixels (d : Device) (is : List Nat) (on : Bool) : Device := is.foldl (fun d i => d.updPixel i fun p => { p with checking := on }) d

/-- A check in progress pauses (R71): its time stands, and the pixels it holds are free meanwhile. -/
def Device.pauseCheck (d : Device) (die : Die) : Device :=
  let c := d.checkOf die
  if c.inSlot && c.pausedAt.isNone then
    let held := c.checked.filter fun i => (d.pixel i).checking
    (d.holdPixels held false).setCheck die { c with blind := held, pausedAt := some d.clock }
  else d

/-- A paused check goes on where it stood (R71): the pixels whose check was not over are held again if they are armed with their output low. -/
def Device.resumeCheck (d : Device) (die : Die) : Device :=
  let c := d.checkOf die
  match c.pausedAt with
  | some t =>
    let held := c.blind.filter fun i => (d.pixel i).run == .armed && !(d.pixel i).high
    (d.holdPixels held true).setCheck die { c with since := c.since + (d.clock - t), blind := [], pausedAt := none }
  | none => d

/-- The check of pixels of a region ends (R52, R71): they are released, and a gain change that fell due meanwhile needs fresh quiet. -/
def Device.releaseChecked (d : Device) (die : Die) (r : Region) (is : List Nat) : Device :=
  let due := (d.word (Reg.PIX.GAIN_PEND die.val (r.val / 32))).getLsbD (r.val % 32) && decide ((d.region (regNo die r)).quietSince + 128 ≤ d.clock)
  let d := d.holdPixels is false
  if due && !is.isEmpty && !d.pixelOr die r then d.updRegion (regNo die r) fun s => { s with quietSince := d.clock } else d

/-- An injection sequence ends (R65), and a check that it paused goes on (R71); while a service holds the die, the check pauses on (R339). -/
def Device.endInj (d : Device) (die : Die) : Device :=
  let d := ((d.setFlag (Reg.PIX.INJ_CTRL_BUSY die.val) false).raise (.pix die) 4).pulsesEnd die.val
  let d := Device.monDoze { d with mon := { d.mon with senseWait := d.mon.senseWait.filter fun n => n != die.val } }
  if (d.injOf die).service.isSome then d else d.resumeCheck die

end Sys2Proof.Machine
end

