-- ==== Sys2Proof/Machine/AcquireOps.lean ====
section
/-! DEFINITION. The operations the trigger engine and the history ring manager share (spec/07, spec/08): fast-ORs, windows, trigger records,
capture sets, the ring's segments, drops, pins and readback requests. -/

namespace Sys2Proof.Machine

/-! ### The ring -/

/-- HIS.STATUS.STATE. -/
def Device.hisState (d : Device) : Nat := d.fld Reg.HIS.STATUS_STATE

/-- The data capacity in GiB of the geometry in force (R257, R258), with its two-rank doubling. -/
def Device.hisGib (d : Device) : Nat :=
  let one := ([16, 24, 32] : List Nat).getD (Reg.HIS.GEOM_DENSITY.of d.his.geom) 0 / (if Reg.HIS.GEOM_WIDTH.of d.his.geom = 1 then 2 else 1)
  if Reg.HIS.GEOM_RANKS.of d.his.geom = 1 then 2 * one else one

/-- The segments of the ring: the data capacity in MiB (R265). -/
def Device.hisSegments (d : Device) : Nat := 1024 * d.hisGib

/-- The sequence numbers of the pinned segments (R274). -/
def Device.pinned (d : Device) : List Nat :=
  let all := d.his.captures.flatMap (·.segs) ++ d.his.readbacks.flatMap (·.segs) ++ (d.his.running.map (·.segs)).getD []
  (d.his.segs.map (·.seq)).filter fun n => all.contains n

/-- PIN_LIMIT in force (R274). -/
def Device.pinLimit (d : Device) : Nat :=
  let n := d.fld Reg.HIS.PIN_LIMIT_SEGMENTS
  if n = 0 then d.hisSegments / 2 else min n (d.hisSegments * 3 / 4)

/-- The segment number that a new segment takes: the next after the last that is not pinned (R265); none when all are. -/
def Device.nextSegment (d : Device) : Option Nat :=
  let n := d.hisSegments
  let last := match d.his.segs.getLast? with
    | some s => s.index + 1
    | none => 0
  let pinnedIdx := (d.his.segs.filter fun s => d.pinned.contains s.seq).map (·.index)
  ((List.range (pinnedIdx.length + 1)).map fun k => (last + k) % max 1 n).find? fun i => !pinnedIdx.contains i && decide (0 < n)

/-- The segments from which every segment up to the last is intact, the one next to be overwritten left out (R272), newest first. -/
def intactRun : List Segment → List Segment
  | [] => []
  | [s] => [s]
  | s :: t :: rest => if t.seq + 1 = s.seq then s :: intactRun (t :: rest) else [s]

/-- As `intactRun`, for the ring as it stands; oldest first. -/
def Device.intact (d : Device) : List Segment :=
  let doomed := (d.nextSegment.bind fun i => d.his.segs.find? fun s => s.index = i).map (·.seq)
  ((intactRun d.his.segs.reverse).takeWhile fun s => some s.seq != doomed).reverse

/-- OLDEST (R272). -/
def Device.oldest (d : Device) : Option Nat := (d.intact.find? fun s => s.first.isSome).bind (·.first)

/-- CLEAN (R272): none while no hit was written since the last drop or resume. -/
def Device.cleanTime (d : Device) : Option Nat :=
  match d.oldest, d.his.clean with
  | some o, some c => some (max o c)
  | _, _ => none

/-- The ring is in use and holds every hit from `a` on (R236, R272). -/
def Device.holds (d : Device) (a : Int) : Bool :=
  d.hisState = 2 && !d.his.frozen && (match d.cleanTime with
    | some c => decide ((c : Int) ≤ a)
    | none => false)

/-- The segments of a list, oldest first, that hold part of `[a, b)` in toa_abs: by their hits, or, without a hit, by the hits before and after them;
`before` is the time of the last hit so far. -/
def holdPart (a b : Nat) : Nat → List Segment → List Segment
  | _, [] => []
  | before, s :: rest =>
    match s.last with
    | some l => if a ≤ l && decide (s.first.getD 0 < b) then s :: holdPart a b l rest else holdPart a b l rest
    | none => if s.first.all (fun f => decide (a ≤ f)) && decide (before < b) && decide (a < b) then s :: holdPart a b before rest else holdPart a b before rest

/-- The segments that hold part of `[a, b)` in toa_abs (R273, R277). -/
def Device.segmentsOf (d : Device) (a b : Nat) : List Segment := holdPart a b 0 d.his.segs

/-- A readback request joins the queue and pins its segments (R274, R278). -/
def Device.queueReadback (d : Device) (r : Readback) : Device :=
  let r := { r with segs := (d.segmentsOf r.start r.stop).map (·.seq) }
  { d with his := { d.his with readbacks := d.his.readbacks ++ [r] } }

/-- The readback route that HIS.RB_CTRL names (R279). -/
def Device.rbRoute (d : Device) : Bool × Nat := (d.flag Reg.HIS.RB_CTRL_LANES, d.fld Reg.HIS.RB_CTRL_ROUTE)

/-- A request of a kind for the number and the interval given, to the route of HIS.RB_CTRL. -/
def Device.request (d : Device) (kind number start stop : Nat) (ctx : Option Nat) : Readback :=
  { kind := kind, number := number, start := start, stop := stop, ctx := ctx, segs := [], status := 0, lanes := d.rbRoute.1, ring := d.rbRoute.2 }

/-- The readback of a capture set (R278): the segments that hold part of its window; after a time-base load in it, which changed the scale, those it
has pinned. -/
def Device.queueCapture (d : Device) (s : CaptureSet) : Device :=
  let r := d.request 2 s.num.toNat s.start s.stop none
  if s.moved then { d with his := { d.his with readbacks := d.his.readbacks ++ [{ r with segs := s.segs }] } } else d.queueReadback r

/-! ### Windows and trigger records -/

/-- The window of a trigger in the present time scale: [W0, W1) in FU (R234). -/
def Trigger.window (t : Trigger) : Int × Int :=
  ((t.time : Int) - 64 * (t.pre : Int) + t.shift, (t.time : Int) + 64 * (t.post : Int) + t.shift)

/-- POST of the record: shortened by an early stop (R243). -/
def Trigger.postOut (t : Trigger) : Nat :=
  match t.stop with
  | none => t.post
  | some s => min t.post ((s - (t.time : Int) - t.shift) / 64).toNat

/-- The trigger record (R206). -/
def Trigger.record (t : Trigger) : Rec :=
  { kind := .trigger
    words := [recHeader 3 3 (t.num ++ BitVec.ofNat 6 t.primary ++ BitVec.ofBool t.capture.isSome ++ BitVec.ofBool t.retro
                ++ BitVec.ofBool t.overflow ++ BitVec.ofBool t.maskStop ++ (0 : BitVec 14)),
              t.conds, BitVec.ofNat 64 t.time, BitVec.ofNat 32 t.pre ++ BitVec.ofNat 32 t.postOut]
    ctx := some t.ctx
    last := true }

/-- A capture set's write phase is over (R242, R243, R275, R278): its context is QUEUED, and with AUTO_RELEASE it is read back; one whose data the
memory has lost is lost itself (R281). -/
def Device.endCapture (d : Device) (t : Trigger) : Device :=
  match t.capture, d.his.captures.find? fun s => s.num = t.num && !s.done with
  | some c, some s =>
    if s.lost || d.hisState ≠ 2 then
      Device.freeCtxAt { d with his := { d.his with captures := d.his.captures.filter fun x => x.num != t.num } } c
    else
      let s := { s with done := true, stop := (t.stop.getD t.window.2).toNat }
      let put (x : CaptureSet) : CaptureSet := if x.num = t.num then s else x
      let d := (Device.updCtx { d with his := { d.his with captures := d.his.captures.map put } } c fun x => { x with state := .queued })
      if d.flag Reg.HIS.CTRL_AUTO_RELEASE then d.queueCapture s else d
  | _, _ => d

/-- An open trigger is complete: its record enters the stream, and its context closes (R196, R241, R242). -/
def Device.finishTrigger (d : Device) (t : Trigger) : Device :=
  let d := { d with trg := { d.trg with opens := d.trg.opens.filter fun x => x.num != t.num } }
  let d := d.endCapture t
  (d.closeCtx t.ctx).emit t.record

/-- Capture sets in their write phase. -/
def Device.capturing (d : Device) : List Trigger := d.trg.opens.filter fun t => t.capture.isSome && t.stop.isNone

/-- Capture sets that a stop now applies to: those in their write phase, and those stopped in this tick (R246). -/
def Device.stoppable (d : Device) : List Trigger :=
  d.trg.opens.filter fun t => t.capture.isSome && (t.stop.isNone || t.stoppedAt == some d.clock)

/-- A capture set stops early at the time `at_` (R243, R245). Its record waits for the end of the tick, in which a second stop may apply to it: the earlier
of the two times holds (R246). -/
def Device.stopCapture (d : Device) (at_ : Nat) (overflow maskStop : Bool) (t : Trigger) : Device :=
  let t := { t with stop := some (min (t.stop.getD at_) at_), stoppedAt := some d.clock, overflow := t.overflow || overflow, maskStop := t.maskStop || maskStop }
  let put (x : Trigger) : Trigger := if x.num = t.num then t else x
  { d with trg := { d.trg with opens := d.trg.opens.map put } }

/-- The capture sets stopped in an earlier tick complete (R243, R245). -/
def Device.finishStopped (d : Device) : Device :=
  (d.trg.opens.filter fun t => t.stoppedAt.any fun c => decide (c < d.clock)).foldl (fun d t => d.finishTrigger t) d

/-- An overflow stop, once for a capture set: OVERFLOW, and the count of its cause (R243). -/
def Device.overflowStop (d : Device) (cause at_ : Nat) (t : Trigger) : Device :=
  if t.overflow then d else ((d.count cause).stopCapture at_ true false t).raise .trg 4

/-! ### Drops -/

/-- A hit, or a late hit, is dropped from the ring (R271); a capture set that it falls into stops (R243). -/
def Device.ringDrop (d : Device) (toa : Nat) : Device :=
  let d := (d.count Reg.HIS.CNT_DROP).setFlag Reg.HIS.SUMMARY_DROPPING true
  let first := d.his.written
  let d := { d with his := { d.his with dropPending := d.his.dropPending || first, written := false, clean := none } }
  let d := if first then (d.count Reg.HIS.CNT_DROP_EVENTS).raise .his 2 else d
  (d.stoppable.filter fun t => decide (t.window.1 ≤ (toa : Int)) && decide ((toa : Int) < t.window.2)).foldl
    (fun d t => d.overflowStop Reg.TRG.CNT_OVF_BW toa t) d

/-- An item is dropped from the ring: each of its hits and late hits (R271). -/
def Device.dropItem (d : Device) (it : RingItem) : Device := (it.hit.toList ++ it.late).foldl (fun d t => d.ringDrop t) d

/-! ### Writing segments -/

/-- The segment being written. -/
def Device.openSegment (d : Device) : Option Segment := d.his.segs.getLast?.bind fun s => if s.closed then none else some s

/-- The segment being written changes. -/
def Device.setOpen (d : Device) (s : Segment) : Device := { d with his := { d.his with segs := d.his.segs.dropLast ++ [s] } }

/-- The segment being written is closed with its trailer (R267, R368). -/
def Device.sealSegment (d : Device) (early : Bool) : Device :=
  match d.openSegment with
  | none => d
  | some s => d.setOpen { s with closed := true, early := early }

/-- A new segment is pinned for a capture set that is being written, or cannot be (R274). -/
def Device.pinNew (d : Device) (seq at_ : Nat) (t : Trigger) : Device :=
  if (at_ : Int) ≥ t.window.2 || (d.his.captures.any fun s => s.num = t.num && s.lost) then d
  else
    let granted := decide (d.evb.front < 64 * (t.decided : Int)) || decide (d.pinned.length < d.pinLimit)
    let mark (s : CaptureSet) : CaptureSet :=
      if s.num ≠ t.num then s else if granted then { s with segs := s.segs ++ [seq], full := false } else { s with full := true }
    let d := { d with his := { d.his with captures := d.his.captures.map mark } }
    if granted then d else d.raise .his 7

/-- The next segment is opened (R265, R267); `at_` is the time of what opens it. False where every segment is pinned. -/
def Device.openNext (d : Device) (at_ : Nat) : Device × Bool :=
  match d.nextSegment with
  | none => (d, false)
  | some i =>
    let s : Segment := { index := i, seq := d.his.nextSeq, dropBefore := d.his.dropPending, resumed := d.his.resume }
    let d := { d with his := { d.his with segs := (d.his.segs.filter fun (x : Segment) => x.index != i) ++ [s], nextSeq := d.his.nextSeq + 1
                                          dropPending := false, resume := false } }
    (d.capturing.foldl (fun d t => d.pinNew s.seq at_ t) d, true)

/-- The words of a block with the zero words up to the next line boundary (R368). -/
def lineWords (e : Emission) : List W64 := e.words.map (·.1) ++ List.replicate ((8 - e.words.length % 8) % 8) 0

/-- The blocks of the ring's coder take their lines (R368): one that no longer fits, which only a block emitted again can be (R380), goes into the next
segment. `n` bounds the number of blocks. -/
def Device.ringEmit (d : Device) : Nat → Device
  | 0 => d
  | n + 1 =>
    match (d.coder 0).queue, d.openSegment with
    | e :: _, some s =>
      if s.words.length + e.words.length ≤ 131056 then
        let k := e.words.length
        let s := { s with words := s.words ++ lineWords e, bytes := s.bytes + 8 * k }
        Device.ringEmit { ((d.takeWords 0 k).1).setOpen s with his := { (((d.takeWords 0 k).1).setOpen s).his with inBlock := [] } } n
      else
        let at_ := s.last.getD (s.first.getD 0)
        let (d, ok) := (d.sealSegment false).openNext at_
        if ok then Device.ringEmit d n else d
    | _, _ => d

/-- The ring's block closes and is written. -/
def Device.ringCloseBlock (d : Device) : Device :=
  let d := d.closeBlock 0
  d.ringEmit (2 * (d.coder 0).queue.length)

/-- The segment being written is closed with its last block and its trailer. -/
def Device.closeSegment (d : Device) (early : Bool) : Device := d.ringCloseBlock.sealSegment early

/-- The line that the next block begins at (R268, R368). -/
def Device.ringLine (d : Device) : Nat :=
  match d.openSegment with
  | some s => s.index * 16384 + 1 + s.words.length / 8
  | none => (d.nextSegment.getD 0) * 16384 + 1

/-- The line of the block that the next hit goes into. -/
def Device.ringPos (d : Device) : W32 := if d.hisState = 2 then BitVec.ofNat 32 d.ringLine else 0xFFFFFFFF#32

/-- An item's words fit the open segment after the open block (R368). -/
def Device.ringFits (d : Device) (n : Nat) : Bool :=
  match d.openSegment with
  | none => false
  | some s => decide (s.words.length + 1 + (d.coder 0).block.length + n ≤ 131056)

/-- The frame whose first hit this is takes its ring position (R205, R268). -/
def Device.noteRingPos (d : Device) (frame : BitVec 40) : Device :=
  let pos := d.ringPos
  let mark (f : FrameSt) : FrameSt := if f.num = frame && f.ringPos.isNone then { f with ringPos := some pos } else f
  { d with evb := { d.evb with frames := d.evb.frames.map mark } }

/-- The segment and the ring's times take note of an item written: FIRST of the segments that held no hit yet, LAST, the counts, CLEAN (R267, R272). -/
def Device.noteItem (d : Device) (it : RingItem) : Device :=
  let segs := d.his.segs.map fun s => { s with first := s.first <|> it.hit }
  let segs := segs.dropLast ++ (segs.getLast?.toList.map fun s =>
    { s with last := it.hit <|> s.last, hits := s.hits + it.hit.toList.length, late := s.late + it.late.length })
  let d := { d with his := { d.his with segs := segs, inBlock := d.his.inBlock ++ it.hit.toList } }
  if it.hit.isNone && it.late.isEmpty then d
  else Device.setFlag { d with his := { d.his with written := true, clean := d.his.clean <|> it.hit } } Reg.HIS.SUMMARY_DROPPING false

/-- The first hit of a segment that could not be pinned for a capture set stops it, when it lies in its window (R243, R274). -/
def Device.spaceStop (d : Device) (toa : Nat) : Device :=
  let full (t : Trigger) : Bool := d.his.captures.any fun s => s.num = t.num && s.full
  (d.stoppable.filter fun t => full t && decide ((toa : Int) < t.window.2)).foldl (fun d t => d.overflowStop Reg.TRG.CNT_OVF_SPACE toa t) d

/-- One staged item is coded into the ring (R266, R366, R368). False where it needs a new segment and every segment is pinned: it waits. -/
def Device.ringItem (d : Device) (it : RingItem) : Device × Bool :=
  let at_ := it.hit.getD (it.frame.toNat * 2 ^ 24)
  let header := it.hit.isNone && it.late.isEmpty
  let reset := header && d.flag (Reg.CDR.STREAM_CTRL_FRAME_RESET 0)
  let d := if reset || decide (d.blockWords 0 < (d.coder 0).block.length + it.words.length) then d.ringCloseBlock else d
  let (d, ok, fresh) := if d.ringFits it.words.length then (d, true, false)
    else
      let (d, ok) := (if d.openSegment.isSome then d.closeSegment false else d).openNext at_
      (d, ok, true)
  if !ok then (d, false)
  else
    let d := match it.hit with
      | some t => (d.noteRingPos it.frame).spaceStop t
      | none => d
    ((d.codeRecord 0 it.words none (reset || fresh) false).noteItem it, true)

/-- Staged items are written while the coder takes them (R381) and segments are to be had. -/
def Device.ringPump (d : Device) : Nat → Device
  | 0 => d
  | n + 1 =>
    match d.his.staging with
    | [] => d
    | it :: rest =>
      if d.coderOn && (d.coder 0).queue.isEmpty then
        let (e, ok) := d.ringItem it
        if ok then Device.ringPump { e with his := { e.his with staging := rest } } n else e
      else d

/-- Every staged item that can be written. -/
def Device.ringGo (d : Device) : Device :=
  let d := if (d.coder 0).queue.isEmpty then d else d.ringEmit (2 * (d.coder 0).queue.length)
  d.ringPump d.his.staging.length

/-- The ring takes released hits: in RUN, not frozen, its page enabled and its writing resumed (R271, R276, R282). -/
def Device.ringTakes (d : Device) : Bool := d.hisState = 2 && !d.his.frozen && d.enabled .his && d.his.writing

/-- The staging buffer of 4 MiB has room for `n` more words, those of the open LATE record counted (R271). -/
def Device.stagingFits (d : Device) (n : Nat) : Bool :=
  decide ((d.his.staging.map fun i => i.words.length).sum + ((d.evb.late.map fun l => l.ring.length).getD 0) + n ≤ 524288)

/-- An item goes into the staging buffer, or is dropped where the ring takes none (R271). -/
def Device.ringStage (d : Device) (it : RingItem) : Device :=
  if d.ringTakes then Device.ringGo { d with his := { d.his with staging := d.his.staging ++ [it] } } else d.dropItem it

/-- An item is offered to the ring; `full` says that the staging buffer has no room because memory writes have fallen behind (R269-R271). -/
def Device.ringOffer (d : Device) (it : RingItem) (full : Bool) : Device :=
  if !full && d.stagingFits it.words.length then d.ringStage it else d.dropItem it

/-- A released hit is offered to the ring (R266). -/
def Device.ringHit (d : Device) (h : Hit) (full : Bool) : Device :=
  d.ringOffer { words := [hitWord 0 h], hit := some h.toa, frame := BitVec.ofNat 40 (h.toa / 2 ^ 24) } full

/-- The late hits that the ring has taken go into it as a LATE record (R211, R266). -/
def Device.ringLate (d : Device) : Device :=
  match d.evb.late with
  | none => d
  | some l =>
    if l.ring.isEmpty then d
    else
      let it : RingItem :=
        { words := recHeader 7 l.ring.length (l.frame ++ (0 : BitVec 8)) :: l.ring.map (hitWord 1), late := l.ring.map (·.toa), frame := l.frame }
      Device.ringGo { d with his := { d.his with staging := d.his.staging ++ [it] }, evb := { d.evb with late := some { l with ring := [] } } }

/-- The open LATE record is closed, for the stream and for the ring (R211, R266). -/
def Device.endLate (d : Device) : Device := d.ringLate.closeLate

/-- A late hit joins the LATE record of its frame (R187, R211), and the ring's, unless the ring drops it as it arrives (R266, R271). -/
def Device.lateHit (d : Device) (h : Hit) (full : Bool) : Device :=
  let frame := BitVec.ofNat 40 (h.toa / 2 ^ 24)
  let d := match d.evb.late with
    | some l => if l.frame = frame then d else d.endLate
    | none => d
  let l := d.evb.late.getD { frame := frame, hits := [], since := d.clock }
  let taken := d.ringTakes && !full && d.stagingFits 1
  let l := { l with hits := l.hits ++ [hitWord 1 h], ring := if taken then l.ring ++ [h] else l.ring }
  let d := { d with evb := { d.evb with late := some l } }
  let d := if taken then d else d.ringDrop h.toa
  if d.lateMax ≤ l.hits.length then d.endLate else d

/-- What is staged and not yet written is lost to the ring. -/
def Device.dropStaged (d : Device) : Device :=
  let late := (d.evb.late.map (·.ring)).getD []
  let items := d.his.staging
  let d := { d with his := { d.his with staging := [] }, evb := { d.evb with late := d.evb.late.map fun l => { l with ring := [] } } }
  (late.map (·.toa)).foldl (fun d t => d.ringDrop t) (items.foldl (fun d it => d.dropItem it) d)

/-- The freeze of R245, R276. -/
def Device.freeze (d : Device) : Device :=
  let d := d.closeSegment true
  let d := Device.dropStaged { d with his := { d.his with frozen := true, writing := false, resumeNext := false } }
  (d.setFlag Reg.HIS.STATUS_FROZEN true).raise .his 8

/-- Writing resumes at a frame start (R246, R276, R282). -/
def Device.ringFrameStart (d : Device) : Device :=
  if !d.his.resumeNext || !d.enabled .his then d
  else
    let was := d.his.frozen
    let d := { d with his := { d.his with frozen := false, writing := d.hisState = 2, resume := true, resumeNext := false, clean := none } }
    let d := d.setFlag Reg.HIS.STATUS_FROZEN false
    if was then d.raise .his 9 else d

/-- The readout descriptors that hold words of the readback end with it (R465, R466). -/
def Device.readbackOver (d : Device) : Device :=
  let mark (x : Desc) : Desc := if x.readback && x.used != 0 then { x with ended := true } else x
  { d with pci := { d.pci with rings := d.pci.rings.map fun p => (p.1, { p.2 with descs := p.2.descs.map mark }) } }

/-- Readbacks that wait or run complete with a STATUS of 5 or more (R277, R281, R282): their contexts and the pins of AUTO_RELEASE are released (R275), and
only their header lines are still to be sent. Answers how many. -/
def Device.endAllReadbacks (d : Device) (status : Nat) : Device × Nat :=
  let all := (d.his.running.toList ++ d.his.readbacks).filter fun r => !r.ended
  let done := (d.his.running.toList ++ d.his.readbacks).map fun r =>
    if r.ended then r else { r with status := status, segs := [], ctx := none, ended := true }
  let d := (all.filterMap (·.ctx)).foldl (fun d c => d.freeCtxAt c) d
  let sets := if d.flag Reg.HIS.CTRL_AUTO_RELEASE then (all.filter fun r => r.kind = 2).map (fun r => BitVec.ofNat 24 r.number) else []
  let d := (d.his.captures.filter fun s => s.done && sets.contains s.num).foldl (fun d s => d.freeCtxAt s.ctx) d
  let captures := d.his.captures.filter fun s => !(s.done && sets.contains s.num)
  let d := Device.readbackOver { d with his := { d.his with running := none, readbacks := done, sending := [], captures := captures } }
  if all.isEmpty then (d, 0)
  else
    (((((d.count Reg.HIS.CNT_RB_DONE all.length).setFlag Reg.HIS.RB_STATUS_BUSY false).setFld Reg.HIS.RB_STATUS_LAST status).raise .his 6), all.length)

/-- Entry into FAILED, or loss of the memory (R281): readbacks complete with LOST, every pin is cleared, retained capture sets are lost, and so are
those in their write phase once that ends; what is staged can no longer be written (R271). -/
def Device.memoryLost (d : Device) : Device :=
  let d := (d.endAllReadbacks 7).1
  let d := (d.his.captures.filter (·.done)).foldl (fun d s => d.freeCtxAt s.ctx) d
  let left := (d.his.captures.filter fun s => !s.done).map fun s => { s with segs := [], full := false, lost := true }
  Device.dropStaged { d with his := { d.his with captures := left } }

/-! ### The fast-OR (R224, R225) -/

/-- A region of the part by its global index. -/
def forRegion (g : Nat) : Die × Region := (Fin.ofNat 4 (g / 128), Fin.ofNat 128 g)

/-- The level of a region's fast-OR as R225 decides it. -/
def Device.forLevelOf (d : Device) (g : Nat) : Bool :=
  let (n, r) := forRegion g
  d.pageOn (.reg n r) && d.flag (Reg.REG.FOR_CTRL_EN n.val r.val) &&
    (d.flag (Reg.REG.FOR_CTRL_FORCE n.val r.val) || (!d.feInhibit && d.pixelOr n r))

/-- The regions whose fast-OR can be high: one with a pixel over threshold, or one whose FOR_CTRL was written. -/
def Device.forCandidates (d : Device) : List Nat :=
  let fromPixels := (d.arr.pixels.filter fun p => p.2.high).map fun p => (pixDie p.1).val * 128 + (pixRegion p.1).val
  let fromRegs := (d.regs.filter fun e =>
      e.1 % 0x1000 == 0x100 && decide (0x500000 ≤ e.1) && decide (e.1 < 0x1500000) && decide ((e.1 - 0x500000) % 0x400000 < 0x80000)).map fun e =>
    (e.1 - 0x500000) / 0x400000 * 128 + (e.1 - 0x500000) % 0x400000 / 0x1000
  (fromPixels ++ fromRegs).eraseDups

/-- Rises and falls of the fast-ORs since the last command: FOR_CNT, and the clock of a fall (R224). -/
def Device.trackFastOr (d : Device) : Device :=
  let now := d.forCandidates.filter fun g => d.forLevelOf g
  let rises := now.filter fun g => !d.trg.forHigh.contains g
  let falls := d.trg.forHigh.filter fun g => !now.contains g
  let d := rises.foldl (fun d g => d.count (Reg.REG.FOR_CNT (forRegion g).1.val (forRegion g).2.val)) d
  { d with trg := { d.trg with forHigh := now, forFall := falls.foldl (fun m g => SMap.set (fun _ => 0) m g d.clock) d.trg.forFall } }

/-- The stretched fast-OR of a region (R224). -/
def Device.stretched (d : Device) (g : Nat) : Bool :=
  let (n, r) := forRegion g
  let fell := SMap.get (fun _ => 0) d.trg.forFall g
  d.trg.forHigh.contains g ||
    (d.pageOn (.reg n r) && fell != 0 && decide (d.clock < fell + d.fld (Reg.REG.FOR_CTRL_STRETCH n.val r.val)))

/-- A global region belongs to a region group (R255). -/
def Device.inGroup (d : Device) (g region : Nat) : Bool := (d.word (Reg.TRG.GROUP (16 * g + region / 32))).getLsbD (region % 32)

/-- The multiplicity of a region group (R226). -/
def Device.multiplicity (d : Device) (g : Nat) : Nat :=
  let regions := (d.trg.forHigh ++ d.trg.forFall.map (·.1)).eraseDups
  (regions.filter fun r => d.stretched r && d.inGroup g r).length

/-- `n` words of the running readback leave; a segment that has been read is unpinned (R274). -/
def Device.takeReadback (d : Device) (n : Nat) : Device × List W64 :=
  let ws := d.his.sending.take n
  let rest := d.his.sending.drop n
  let left := (rest.length + 131071) / 131072
  let running := d.his.running.map fun r => { r with segs := r.segs.drop (r.segs.length - left) }
  ({ d with his := { d.his with sending := rest, running := running } }, ws)

end Sys2Proof.Machine
end

