-- ==== Sys2Proof/Machine/ChannelOps.lean ====
section
/-! DEFINITION. Band buses, die-to-die channels, receivers and the flow-control combiner (spec/04): the operations their commands share. -/

namespace Sys2Proof.Machine

/-- The DIE page of a die number. -/
def diePage (n : Die) : Page := .die n
/-- A band's number in the package. -/
def bandNo (n : Die) (b : Fin 8) : Nat := n.val * 8 + b.val
/-- A channel's number in the package: the receiver index of R149. -/
def chanNo (n : Die) (c : Nat) : Nat := n.val * 4 + c

/-- A band bus. -/
def Device.band (d : Device) (i : Nat) : BandSt := SMap.get (fun _ => {}) d.arr.bands i
/-- A band bus changes. -/
def Device.updBand (d : Device) (i : Nat) (f : BandSt → BandSt) : Device :=
  { d with arr := { d.arr with bands := SMap.upd (fun _ => {}) d.arr.bands i f } }
/-- A channel. -/
def Device.chan (d : Device) (i : Nat) : ChanSt := SMap.get (fun _ => {}) d.arr.chans i
/-- A channel changes. -/
def Device.updChan (d : Device) (i : Nat) (f : ChanSt → ChanSt) : Device :=
  { d with arr := { d.arr with chans := SMap.upd (fun _ => {}) d.arr.chans i f } }
/-- A receiver. -/
def Device.rx (d : Device) (i : Nat) : RxSt := SMap.get (fun _ => {}) d.arr.rxs i
/-- A receiver changes. -/
def Device.updRx (d : Device) (i : Nat) (f : RxSt → RxSt) : Device :=
  { d with arr := { d.arr with rxs := SMap.upd (fun _ => {}) d.arr.rxs i f } }

/-! ### Words of items (R130, R132, R133) -/

/-- A word on a channel: FIRST, LAST and the 40 payload bits. -/
def chanWord (first last : Bool) (payload : BitVec 40) : BitVec 42 := BitVec.ofBool first ++ (BitVec.ofBool last ++ payload)

/-- The words of an item. -/
def itemWords : Item → List (BitVec 42)
  | .hit h =>
    let w0 : BitVec 40 := (1#3 : BitVec 3) ++ (1#2 : BitVec 2) ++ h.row ++ h.col ++ BitVec.ofBool h.tb ++ h.c1.extractLsb' 7 17
    let w1 : BitVec 40 := h.c1.extractLsb' 0 7 ++ h.c2 ++ h.s ++ h.p ++ BitVec.ofBool h.granted ++ BitVec.ofBool h.contested
      ++ BitVec.ofBool h.sat ++ BitVec.ofBool h.rangeHi ++ BitVec.ofBool h.rangeChanged ++ BitVec.ofBool h.wdFreed ++ (0#2 : BitVec 2)
    [chanWord true false w0, chanWord false true w1]
  | .loss level region =>
    [chanWord true true ((2#3 : BitVec 3) ++ (0#2 : BitVec 2) ++ BitVec.ofNat 2 level ++ BitVec.ofNat 7 region ++ (0#26 : BitVec 26))]

/-- The hit that two payload words carry (R133). -/
def parseHit (a b : BitVec 42) : RawHit :=
  { row := a.extractLsb' 27 8, col := a.extractLsb' 18 9, tb := a.getLsbD 17, c1 := a.extractLsb' 0 17 ++ b.extractLsb' 33 7
    c2 := b.extractLsb' 22 11, s := b.extractLsb' 15 7, p := b.extractLsb' 8 7, granted := b.getLsbD 7, contested := b.getLsbD 6
    sat := b.getLsbD 5, rangeHi := b.getLsbD 4, rangeChanged := b.getLsbD 3, wdFreed := b.getLsbD 2 }

/-- FIRST of a word. -/
def wordFirst (w : BitVec 42) : Bool := w.getLsbD 41
/-- LAST of a word. -/
def wordLast (w : BitVec 42) : Bool := w.getLsbD 40
/-- The TYPE of an item's first word (R132). -/
def wordType (w : BitVec 42) : Nat := (w.extractLsb' 37 3).toNat
/-- The length in words that an item's first word names (R132). -/
def wordLen (w : BitVec 42) : Nat := (w.extractLsb' 35 2).toNat + 1

/-- Whole items in a list of words, counted by their LAST words, and a head item whose first word is gone left out (R138). -/
def wholeItems (q : List (BitVec 42)) : Nat := (q.filter fun w => wordFirst w).length

/-- The words up to and including the first LAST. -/
def headItem : List (BitVec 42) → List (BitVec 42)
  | [] => []
  | w :: rest => if wordLast w then [w] else w :: headItem rest

/-! ### Channels -/

/-- A channel is up (R136). -/
def Device.chanUp (d : Device) (n : Die) (c : Nat) : Bool := (d.word (Reg.DIE.CH_STATUS n.val)).getLsbD c

/-- The channel that carries a band: its own, the partner, or the lowest-numbered one that is up (R29, R136). DESIGN CHOICE (log 106): a restart
moves the bands of the channels still DOWN by the same rule, with no REROUTED event. -/
def Device.carrier (d : Device) (n : Die) (b : Nat) : Option Nat :=
  let own := b / 2
  let partner := if own % 2 = 0 then own + 1 else own - 1
  if d.chanUp n own then some own
  else if d.chanUp n partner then some partner
  else (List.range 4).find? fun c => d.chanUp n c

/-- The bands a channel carries. -/
def Device.carried (d : Device) (n : Die) (c : Nat) : List Nat := (List.range 8).filter fun b => d.carrier n b = some c

/-- CH_STATUS.REROUTED: the channels that carry bands other than their own (R148). -/
def Device.rerouted (d : Device) (n : Die) : Nat :=
  ((List.range 4).map fun c => if (d.carried n c).any fun b => b / 2 != c then 2 ^ c else 0).sum

/-- A bit of CH_STATUS takes a value. -/
def Device.setChanBit (d : Device) (n : Die) (lsb c : Nat) (v : Bool) : Device := d.setFlag ⟨Reg.DIE.CH_STATUS n.val, lsb + c, 1⟩ v

/-- A channel goes DOWN (R136): CH_DOWN, and REROUTED when its bands move to another. -/
def Device.chanDown (d : Device) (n : Die) (c : Nat) : Device :=
  let moved := d.carried n c
  let d := (d.setChanBit n 0 c false).raise (.die n) 7
  let d := d.updChan (chanNo n c) fun s => { s with wd := 0, restart := none }
  let d := d.setFld (Reg.DIE.CH_STATUS_REROUTED n.val) (d.rerouted n)
  if moved.any fun b => (d.carrier n b).isSome then d.raise (.die n) 8 else d

/-- The level bit of a channel queue and its events (R123, R124). -/
def Device.chanLevel (d : Device) (n : Die) (c : Nat) : Device :=
  let was := (d.word (Reg.DIE.CH_STATUS n.val)).getLsbD (8 + c)
  let now := levelBit was (d.chan (chanNo n c)).queue.length (d.fld (Reg.DIE.CH_WM_HIGH n.val)) (d.fld (Reg.DIE.CH_WM_LOW n.val))
  if was = now then d else (d.setChanBit n 8 c now).raise (.die n) (if now then 3 else 4)

/-- The region that the band arbiter grants next, round robin after the one served last: one that owes a LOSS item or has an entry, and is not
isolated (R128, R134, R142). -/
def Device.nextRegion (d : Device) (n : Die) (b : Fin 8) : Option Region :=
  let from_ := (d.band (bandNo n b)).last
  let cols := (List.range 16).map fun k => (from_ + 1 + k) % 16
  let regs := cols.map fun c => (Fin.ofNat 128 (16 * b.val + c) : Region)
  regs.find? fun r =>
    let s := d.region (regNo n r)
    d.pageOn (.reg n r) && !d.isolated n r && (!s.owed.isEmpty || !s.fifo.isEmpty)

/-- A grant of the band arbiter (R128, R134). -/
def Device.bandGrant (d : Device) (n : Die) (b : Fin 8) : Device :=
  let k := bandNo n b
  let bus := d.band k
  if !d.enabled (.die n) || !(d.word (Reg.DIE.BAND_CTRL n.val)).getLsbD b.val || bus.out.isSome then d
  else match bus.owed with
    | r :: rest => d.updBand k fun s => { s with out := some (.loss 2 r), owed := rest }
    | [] => match d.nextRegion n b with
      | none => d
      | some r =>
        let s := d.region (regNo n r)
        match s.owed, s.fifo with
        | l :: rest, _ =>
          (d.updRegion (regNo n r) fun s => { s with owed := rest }).updBand k fun s => { s with out := some (.loss l r.val), last := r.val % 16 }
        | [], h :: rest =>
          let d := d.updRegion (regNo n r) fun s => { s with fifo := rest, wd := 0 }
          (d.updBand k fun s => { s with out := some (.hit h), last := r.val % 16 }).regionLevel n r
        | [], [] => d

/-- The band whose item the merger takes next: the carried bands in turn after the one served last (R129). -/
def Device.nextBand (d : Device) (n : Die) (c : Nat) : Option Nat :=
  let bands := d.carried n c
  let last := (d.chan (chanNo n c)).last
  let order := (bands.filter fun b => b > last) ++ (bands.filter fun b => b ≤ last)
  order.find? fun b => (d.band (n.val * 8 + b)).out.isSome

/-- The merger of a channel works: the periphery is powered and the channel is up (R129, R136). -/
def Device.merges (d : Device) (n : Die) (c : Nat) : Bool := d.domOn (25 + 11 * n.val) && d.hasDie n.val && d.chanUp n c

/-- The merger takes a new item of this length: it works, no flush runs, it is not inside an item, and the queue has room (R129, R138). -/
def Device.mergeRoom (d : Device) (n : Die) (c : Nat) (it : Item) : Bool :=
  d.merges n c && !(d.word (Reg.DIE.CH_STATUS n.val)).getLsbD (16 + c) && (d.chan (chanNo n c)).merging.isEmpty
    && decide ((d.chan (chanNo n c)).queue.length + (itemWords it).length ≤ 32)

/-- An item leaves its band bus whole (R128); a hit ends the bus's run of watchdog resets (R141). -/
def Device.takeFromBand (d : Device) (i : Nat) (it : Item) : Device :=
  d.updBand i fun s => { s with out := none, wd := match it with
    | .hit _ => 0
    | .loss _ _ => s.wd }

/-- The merger writes the rest of the item it is inside, which a flush meanwhile started discards and counts (R138). -/
def Device.mergeRest (d : Device) (n : Die) (c : Nat) : Device :=
  let k := chanNo n c
  let s := d.chan k
  if s.dropping then (d.updChan k fun s => { s with merging := [], dropping := false }).count (Reg.DIE.CNT_FLUSH_DISCARD n.val c)
  else (d.updChan k fun s => { s with queue := s.queue ++ s.merging, merging := [] }).chanLevel n c

/-- The merger takes one whole item from a band bus and writes its words into the periphery queue, or, with `first`, only the first of them so far
(R129, R138). -/
def Device.merge (d : Device) (n : Die) (c : Nat) (first : Bool) : Device :=
  let k := chanNo n c
  if !d.merges n c then d
  else if !(d.chan k).merging.isEmpty then d.mergeRest n c
  else match d.nextBand n c with
    | none => d
    | some b => match (d.band (n.val * 8 + b)).out with
      | none => d
      | some it =>
        if d.mergeRoom n c it then
          let now := if first then (itemWords it).take 1 else itemWords it
          let d := d.takeFromBand (n.val * 8 + b) it
          (d.updChan k fun s => { s with queue := s.queue ++ now, merging := (itemWords it).drop now.length, last := b, offered := true }).chanLevel n c
        else d

/-- Start of a channel flush (R138, R139): whole items are discarded and counted, the head item stays when its first word is gone onto the channel,
and an item that the merger is inside, its first word still in the queue, is discarded once the merger has written it. -/
def Device.startFlush (d : Device) (n : Die) (c : Nat) : Device :=
  let k := chanNo n c
  if (d.word (Reg.DIE.CH_STATUS n.val)).getLsbD (16 + c) then d
  else
    let q := (d.chan k).queue
    let started := match q with
      | w :: _ => !wordFirst w
      | [] => false
    let up := d.chanUp n c
    let keep := if started && up then headItem q else []
    let half := !(d.chan k).merging.isEmpty && (q.drop keep.length).any fun w => wordFirst w
    let lost := wholeItems (q.drop keep.length) - (if up && half then 1 else 0)
    let d := d.updChan k fun s =>
      { s with queue := keep, merging := if up then s.merging else [], dropping := up && half }
    let d := d.count (Reg.DIE.CNT_FLUSH_DISCARD n.val c) lost
    let d := d.chanLevel n c
    if d.chanUp n c then d.setChanBit n 16 c true else d.raise (.die n) 5

/-- A flush ends with its queue empty and the merger outside an item; the words of an item in which the merger stalled are discarded, counted and
raised (R138). -/
def Device.endFlush (d : Device) (n : Die) (c : Nat) (truncated : Bool) : Device :=
  let k := chanNo n c
  let inside := !(d.chan k).merging.isEmpty
  if !(d.word (Reg.DIE.CH_STATUS n.val)).getLsbD (16 + c) || !(d.chan k).queue.isEmpty || (inside && !truncated) then d
  else
    let d := if inside then
        let d := d.updChan k fun s => { s with merging := [], dropping := false }
        (d.count (Reg.DIE.CNT_FLUSH_TRUNC n.val c)).raise (.die n) 6
      else d
    (d.setChanBit n 16 c false).raise (.die n) 5

/-- A restart of a DOWN channel (R148). -/
def Device.restartChan (d : Device) (n : Die) (c : Nat) : Device :=
  if d.chanUp n c then d
  else
    let d := (d.setChanBit n 0 c true).updChan (chanNo n c) fun s =>
      { s with wd := 0, restart := some d.clock, offered := !s.queue.isEmpty || !s.merging.isEmpty, delivered := false }
    d.setFld (Reg.DIE.CH_STATUS_REROUTED n.val) (d.rerouted n)

/-! ### Receivers -/

/-- A receiver discards an item: counted, raised, and lost to the event builder (R135, R205). -/
def Device.rxDiscard (d : Device) (k : Nat) : Device :=
  let d := (d.count (Reg.EVB.RX_DISCARD k)).raise .evb 0
  { d with evb := { d.evb with lost := d.evb.lost + 1 } }

/-- The words a receiver holds (R131). -/
def rxWords (s : RxSt) : Nat := s.prog.length + (s.queue.map fun i => (itemWords i).length).sum

/-- A whole item, checked: a hit joins the receive queue, a LOSS item is counted (R134). DESIGN CHOICE (log 107): an item of a valid TYPE whose
length is another type's is discarded like one of a reserved TYPE. -/
def Device.rxItem (d : Device) (k : Nat) (ws : List (BitVec 42)) : Device :=
  match ws with
  | [a, b] => if wordType a = 1 then d.updRx k fun s => { s with queue := s.queue ++ [.hit (parseHit a b)] } else d.rxDiscard k
  | [a] =>
    if wordType a = 2 then
      let d := (d.count (Reg.EVB.RX_LOSS (k / 4))).raise .evb 1
      { d with evb := { d.evb with lost := d.evb.lost + 1 } }
    else d.rxDiscard k
  | _ => d.rxDiscard k

/-- A correctable word at the receiver: framing (R135). -/
def Device.rxWord (d : Device) (k : Nat) (w : BitVec 42) : Device :=
  let s := d.rx k
  let fresh := wordFirst w
  let d := if fresh && !s.prog.isEmpty then d.rxDiscard k else d
  if !fresh && s.skipping then d
  else if !fresh && s.prog.isEmpty then (d.rxDiscard k).updRx k fun s => { s with skipping := true }
  else
    let prog := if fresh then [w] else s.prog ++ [w]
    let len := wordLen (prog.headD 0)
    let type := wordType (prog.headD 0)
    let stop (skip : Bool) (d : Device) : Device := d.updRx k fun s => { s with prog := [], skipping := skip }
    if type != 1 && type != 2 then stop (!wordLast w) (d.rxDiscard k)
    else if wordLast w then
      if prog.length = len then (stop false d).rxItem k prog else stop false (d.rxDiscard k)
    else if prog.length = len then stop true (d.rxDiscard k)
    else d.updRx k fun s => { s with prog := prog, skipping := false }

/-- The next word of a channel crosses to its receiver (R130, R131, R135). -/
def Device.crossWord (d : Device) (n : Die) (c : Nat) (arrived : Option (BitVec 42)) (finding : ReadFinding) : Device :=
  let k := chanNo n c
  if !d.domOn 15 || !d.domOn (25 + 11 * n.val) || !d.hasDie n.val || !d.chanUp n c || decide (64 ≤ rxWords (d.rx k)) then d
  else match (d.chan k).queue with
    | [] => d
    | w :: rest =>
      let d := d.updChan k fun s =>
        { s with queue := rest, wd := if wordLast w then 0 else s.wd, delivered := s.delivered || wordLast w }
      let d := if wordLast w then d.count (Reg.DIE.CNT_CH_ITEMS n.val c) else d
      let d := d.chanLevel n c
      match finding with
      | .uncorrectable =>
        if (d.rx k).skipping then d
        else (d.rxDiscard k).updRx k fun s => { s with prog := [], skipping := true }
      | .corrected => ((d.count (Reg.EVB.RX_SEC k)).raise .evb 13).rxWord k (arrived.getD w)
      | .ok => d.rxWord k (arrived.getD w)

/-! ### Watchdogs of the die (R141) -/

/-- The receiving stage of a band bus has room for the item in motion: the merger that carries the band takes it (R20, R129). -/
def Device.busRoom (d : Device) (n : Die) (b : Nat) (it : Item) : Bool :=
  match d.carrier n b with
  | some c => d.mergeRoom n c it
  | none => false

/-- The effect of a watchdog reset; where the watchdog cannot act, as while the receiving stage is full, none (R20, R131, R140). DESIGN CHOICE
(log 108): a LOSS item discarded on a band bus is owed again as a LOSS item of level 2. -/
def Device.watchdog (d : Device) (p : WatchdogPlace) : Device :=
  match p with
  | .converter x =>
    let i := pixNo x
    if d.pageOn (pixPage i) && (d.pixel i).run == .firing && decide ((d.conv (pixCluster i)).holder = some i) then
      let d := (d.freeConv (pixCluster i)).updPixel i fun p => { p with hit := { p.hit with wdFreed := true } }
      d.regionWd x.die (pixRegion i) none
    else d
  | .pixel x =>
    let i := pixNo x
    let r := pixRegion i
    if d.regionTakes x.die r && (d.pixel i).run == .waiting && decide ((d.region (regNo x.die r)).fifo.length < 16) then
      let n := (d.pixel i).stuck + 1
      let d := (d.acceptFrom i).regionWd x.die r (some 0)
      if n < 8 then d.updPixel i fun p => { p with stuck := n }
      else
        let d := d.setEntry i ((d.pixel i).entry ||| 0x20#8)
        let d := (d.setFld (Reg.REG.LAST_STUCK_COL x.die.val r.val) (pixCol i % 32)).setFld (Reg.REG.LAST_STUCK_ROW x.die.val r.val) (pixRow i % 32)
        d.raise (.reg x.die r) 6
    else d
  | .fifo n r e =>
    let s := d.region (regNo n r)
    if d.pageOn (.reg n r) && decide (e.val < s.fifo.length) && decide (s.fifo.length < 16) then
      let d := d.updRegion (regNo n r) fun s => { s with fifo := s.fifo.eraseIdx e.val, wd := s.wd + 1 }
      let d := (d.regionWd n r (some 1)).regionLevel n r
      if s.wd + 1 = 8 then (d.isolate n r).updRegion (regNo n r) fun s => { s with wd := 0 } else d
    else d
  | .band n b =>
    let s := d.band (bandNo n b)
    match s.out with
    | none => d
    | some it =>
      if !d.pageOn (.die n) || !d.busRoom n b.val it then d
      else
        let r := match it with
          | .hit h => 16 * (h.row.toNat / 32) + h.col.toNat / 32
          | .loss _ r => r
        let d := d.updBand (bandNo n b) fun s => { s with out := none, owed := s.owed ++ [r], wd := s.wd + 1 }
        let d := ((d.upset Reg.HLT.UPS_WD).count (Reg.DIE.CNT_BAND_WD n.val b.val)).raise (.die n) 1
        if s.wd + 1 < 8 then d
        else
          let d := (d.setFlag ⟨Reg.DIE.BAND_CTRL n.val, b.val, 1⟩ false).raise (.die n) 2
          d.updBand (bandNo n b) fun s => { s with wd := 0, failed := true }
  | .channel n c =>
    let k := chanNo n c.val
    let s := d.chan k
    if s.queue.isEmpty || !d.chanUp n c.val || !d.pageOn (.die n) || !d.domOn 15 || decide (64 ≤ rxWords (d.rx k)) then d
    else
      let cut := !(headItem s.queue).any fun w => wordLast w
      let d := (d.upset Reg.HLT.UPS_WD).updChan k fun s =>
        { s with queue := s.queue.drop (headItem s.queue).length, wd := s.wd + 1
                 merging := if cut then [] else s.merging, dropping := s.dropping && !cut }
      let d := ((d.updRx k fun s => { s with prog := [], skipping := false }).rxDiscard k).chanLevel n c.val
      if s.wd + 1 < 8 then d else d.chanDown n c.val

/-! ### Flow control (R126, R127, R149) -/

/-- The throttle duty signal is active (R544) while the page is enabled (R546): the first PERIOD × D / 65,536 µs of each period, all of it at D = 65,535. -/
def Device.dutyActive (d : Device) : Bool :=
  let duty := d.fld Reg.THM.STATUS_DUTY
  let period := (d.thm.curve.map (·.period)).getD 100
  d.flag (fEnable .thm) && (duty = 65535 || decide (d.clock / Config.usCt % max 1 period < period * duty / 65536))

/-- The sources of the flow-control combiner, in FC_BUSY_SRC bit order (R149). -/
def Device.flowSources (d : Device) : Nat :=
  let dies := (List.range 4).filter fun n => d.hasDie n && d.domOn (25 + 11 * n)
  let region := (dies.map fun n =>
    if (List.range 128).any fun r => d.domOn (16 + 11 * n + r / 16) && d.flag (Reg.REG.FIFO_STATUS_LEVEL n r) then 2 ^ n else 0).sum
  let channel := (dies.map fun n => if d.fld (Reg.DIE.CH_STATUS_LEVEL n) ≠ 0 then 2 ^ (4 + n) else 0).sum
  region + channel + (if d.flag Reg.EVB.OQ_STATUS_LEVEL then 256 else 0) + (if d.dutyActive then 512 else 0) + 1024

/-- A pin's next level: asserted while a selected source is active, for at least 50 ns, and always in S0 (R126, R127). DESIGN CHOICE (log 109): it is
asserted too while the event builder's domain, which holds the combiner's page, is off. -/
def Device.pinNow (d : Device) (src : Nat) (was : Bool) (since : Nat) : Bool :=
  if d.fld Reg.HLT.SERVICE_LEVEL_LEVEL = 0 || !d.domOn 4 then true
  else if (d.word src).toNat &&& d.flowSources ≠ 0 then true
  else was && decide (d.clock < since + 64)

/-- BUSY_N and WARN_N follow their sources (R126). -/
def Device.updatePins (d : Device) : Device :=
  let b := d.pinNow Reg.EVB.FC_BUSY_SRC d.arr.busy d.arr.busySince
  let w := d.pinNow Reg.EVB.FC_WARN_SRC d.arr.warn d.arr.warnSince
  { d with arr := { d.arr with busy := b, warn := w, busySince := if b && !d.arr.busy then d.clock else d.arr.busySince,
                               warnSince := if w && !d.arr.warn then d.clock else d.arr.warnSince } }

/-- The marks a write stores (R125): HIGH at most the capacity and at least 1, LOW below HIGH. -/
def limitMarks (cap high low : Nat) : Nat × Nat :=
  let h := max 1 (min cap high)
  (h, if h ≤ low then h - 1 else low)

end Sys2Proof.Machine
end

