-- ==== Sys2Proof/Machine/BuilderOps.lean ====
section
/-! DEFINITION. The event builder's shared operations (spec/06): the release front, frames, headers and alignment records, the release of a
hit through the trigger engine's selection. -/

namespace Sys2Proof.Machine

/-! ### The release front -/

/-- The release is stalled: a frame header fell due without its context (R198). -/
def Device.stalledNow (d : Device) : Bool := d.flag Reg.EVB.SORT_STATUS_STALLED

/-- The front as R188 moves it at the present count. -/
def Device.frontTarget (d : Device) : Int :=
  let now : Int := d.tim.count.toNat
  max d.evb.front (if d.flag (fEnable .evb) then (now - 5120) * 64 else now * 64)

/-- The frame whose header falls due next and still lacks its context. -/
def Device.blockedFrame (d : Device) : Option FrameSt :=
  match d.evb.frames.find? fun f => !f.header with
  | some f => if f.waiting then some f else none
  | none => none

/-- The front moves with time; it stops while the output queue refuses records, and where a frame header falls due without its context,
which raises FRAME_STALL (R188, R198). -/
def Device.advanceFront (d : Device) : Device :=
  if !d.domOn 4 || d.stalledNow || d.refusing then d
  else
    let target := d.frontTarget
    match d.blockedFrame with
    | none => { d with evb := { d.evb with front := target } }
    | some f =>
      if (f.start.toNat : Int) * 64 ≤ target then
        let d := { d with evb := { d.evb with front := max d.evb.front ((f.start.toNat : Int) * 64) } }
        (d.setFlag Reg.EVB.SORT_STATUS_STALLED true).raise .evb 8
      else { d with evb := { d.evb with front := target } }

/-! ### Records of a frame -/

/-- The frame header (R204). -/
def FrameSt.headerRec (f : FrameSt) : Rec :=
  { kind := .header
    words := [recHeader 1 1 (f.num ++ f.dieMask ++ BitVec.ofBool f.timingInvalid ++ BitVec.ofBool f.syncStale ++ BitVec.ofBool f.timeBase
                ++ BitVec.ofBool f.feInhibit),
              f.sealCounter ++ f.epoch ++ BitVec.ofNat 4 f.entry ++ BitVec.ofNat 2 f.mode ++ BitVec.ofBool f.isSealed
                ++ BitVec.ofBool f.sealChanged ++ BitVec.ofBool f.svcWindow ++ (0 : BitVec 7)]
    ctx := f.ctx }

/-- The alignment record (R205), with the counts since the previous one and the ring position. -/
def FrameSt.alignRec (f : FrameSt) (late lost triggers : Nat) (pos : W32) : Rec :=
  let (epoch, last) := f.ended.getD (f.epoch, 0)
  { kind := .align
    words := [recHeader 2 3 (f.num ++ BitVec.ofBool f.loadEnd ++ BitVec.ofBool f.timingInvalid ++ BitVec.ofBool f.syncStale
                ++ BitVec.ofBool f.feInhibit ++ BitVec.ofBool f.svcWindow ++ BitVec.ofBool f.sealChanged ++ BitVec.ofBool f.aborted
                ++ BitVec.ofBool f.drained),
              BitVec.ofNat 32 (min f.hits 0xFFFFFFFF) ++ BitVec.ofNat 16 (min late 65535) ++ BitVec.ofNat 16 (min lost 65535),
              epoch ++ last ++ f.phase ++ (0 : BitVec 14),
              BitVec.ofNat 32 (min triggers 0xFFFFFFFF) ++ pos]
    ctx := f.ctx
    last := true }

/-- The header of the oldest frame is queued ahead of the records that wait for it; the first one begins the stream (R190-R192), and it goes to the
ring (R266). -/
def Device.queueHeader (d : Device) (f : FrameSt) : Device :=
  let mark (x : FrameSt) : FrameSt := if x.start = f.start ∧ x.num = f.num then { x with header := true } else x
  let ahead := d.evb.inq.takeWhile fun r => r.fmt.isSome
  let behind := (d.evb.inq.dropWhile fun r => r.fmt.isSome).map fun r => r.stamp f.fmt
  let d := Device.pump { d with evb := { d.evb with
    frames := d.evb.frames.map mark, streamOn := true, inq := ahead ++ f.headerRec.stamp f.fmt :: behind
    triggers := d.evb.triggers + triggersIn behind } }
  d.ringOffer { words := f.headerRec.words, frame := f.num } false

/-- The alignment record of the oldest frame is queued behind any open LATE record, and the frame leaves (R192, R205, R211). -/
def Device.queueAlign (d : Device) (f : FrameSt) : Device :=
  let d := d.endLate.closePacked
  let pos := if d.hisState = 2 then f.ringPos.getD d.ringPos else 0xFFFFFFFF#32
  let r := f.alignRec d.evb.lateCount d.evb.lost d.evb.triggers pos
  let d := d.enqueue (r.stamp f.fmt)
  Device.pump { d with evb := { d.evb with frames := d.evb.frames.drop 1, lateCount := 0, lost := 0, triggers := 0 } }

/-- The first count after a frame: its successor's start tick. -/
def FrameSt.endCount (f : FrameSt) : Nat := (f.num.toNat + 1) * 2 ^ 18

/-- The frame in progress ends (R196, R205): its context is CLOSING, and EPOCH and SYNC_LAST are those of its end. -/
def Device.endFrame (d : Device) (load : Bool) : Device :=
  match d.presentFrame with
  | none => d
  | some f =>
    if f.ended.isSome then d
    else
      let stamp := (BitVec.ofNat 16 (d.fld Reg.TIM0.EPOCH_COUNT), BitVec.ofNat 18 (d.fld Reg.TIM0.SYNC_LAST_CT))
      let f := { f with ended := some stamp, loadEnd := load }
      let d := { d with evb := { d.evb with frames := d.evb.frames.dropLast ++ [f] } }
      match f.ctx with
      | some c => d.closeCtx c
      | none => d

/-- DIE_MASK (R194). -/
def Device.dieMask (d : Device) : BitVec 4 :=
  BitVec.ofNat 4 (((List.range 4).filter fun n =>
    d.pageOn (.die (Fin.ofNat 4 n)) && d.flag (fEnable (.die (Fin.ofNat 4 n))) && d.fld ⟨Reg.DIE.CH_STATUS n, 0, 4⟩ != 0).map fun n => 2 ^ n).sum

/-- The engine arms at a frame start (R236). -/
def Device.arm (d : Device) (start : BitVec 58) : Device := { d with trg := { d.trg with armAt := start, armNext := false } }

/-- What the trigger engine takes at a frame start: a committed condition table, the mode, and its arming (R221, R231, R232, R236). -/
def Device.trgFrameStart (d : Device) (start : BitVec 58) : Device :=
  if !d.pageOn .trg then d
  else
    let (d, table) := match d.trg.condNext with
      | none => (d, false)
      | some t => (Device.raise { d with trg := { d.trg with cond := t, condNext := none, prescale := [], rearm := [] } } .trg 7, true)
    let m := d.fld Reg.TRG.CTRL_MODE
    let mode := if m = 3 then 0 else m
    let changed := decide (mode ≠ d.fld Reg.TRG.SUMMARY_MODE)
    let d := d.setFld Reg.TRG.SUMMARY_MODE mode
    if table || changed || d.trg.armNext then d.arm start else d

/-- A frame starts at `start` (R193, R195, R214): waiting tables replace theirs, entry, mode and die mask are sampled, the FRAME context is
allocated. -/
def Device.startFrame (d : Device) (num : BitVec 40) (start : BitVec 58) (phase : BitVec 16) : Device :=
  let d := match d.evb.fmtNext with
    | none => d
    | some t => Device.raise { d with evb := { d.evb with fmt := t, fmtNext := none } } .evb 12
  let entry := d.fld Reg.EVB.OUT_FORMAT_ENTRY
  let d := (d.setFld Reg.EVB.OUT_FORMAT_ACTIVE entry).trgFrameStart start
  let d := d.ringFrameStart
  let (d, c) := d.allocCtx 0 (num.setWidth 24)
  let f : FrameSt :=
    { num := num, start := start, entry := entry, fmt := d.fmtEntry entry, mode := d.fld Reg.TRG.SUMMARY_MODE, dieMask := d.dieMask
      timeBase := d.flag Reg.TIM0.STATUS_TIME_BASE, sealCounter := d.word Reg.SEA0.COUNTER
      isSealed := decide (2 ≤ d.fld Reg.SEA0.STATUS_STATE)
      epoch := BitVec.ofNat 16 (d.fld Reg.TIM0.EPOCH_COUNT), phase := phase, ringPos := none, ctx := c, waiting := c.isNone }
  { d with evb := { d.evb with frames := d.evb.frames ++ [f], lastNum := some num, lateRaised := false } }

/-- A mark on the frame in progress. -/
def Device.markPresent (d : Device) (g : FrameSt → FrameSt) : Device :=
  match d.presentFrame with
  | some f => if f.ended.isSome then d else { d with evb := { d.evb with frames := d.evb.frames.dropLast ++ [g f] } }
  | none => d

/-! ### The release of hits -/

/-- The trigger engine's selection (R221, R223, R240). -/
def Device.selects (d : Device) (h : Hit) : Bool :=
  match d.streamFrame with
  | none => false
  | some f =>
    if f.mode = 0 then true
    else if f.mode = 1 then
      d.trg.opens.any fun t => t.capture.isNone && decide (t.window.1 ≤ (h.toa : Int)) && decide ((h.toa : Int) < t.window.2)
    else false

/-- IVL of a test: 4 to 18 (R244). -/
def Device.maskIvl (d : Device) (t : Nat) : Nat := max 4 (min 18 (d.fld (Reg.TRG.MT_CTRL_IVL t)))

/-- An occupancy test begins to count: with the first whole interval at or after the release front (R244). -/
def Device.startMask (d : Device) (t : Nat) : Device :=
  let len := 64 * 2 ^ d.maskIvl t
  { d with trg := { d.trg with
    maskDone := SMap.set (fun _ => 0) d.trg.maskDone t ((d.evb.front.toNat + len - 1) / len + 1)
    maskHits := d.trg.maskHits.filter fun (p : Nat × Nat) => p.1 % 8 != t } }

/-- A released hit is counted by the occupancy tests over its region's group (R244). -/
def Device.maskHit (d : Device) (h : Hit) : Device :=
  let region := h.die * 128 + 16 * (h.row / 32) + h.col / 32
  (List.range 8).foldl (fun d t =>
    if d.flag (Reg.TRG.MT_CTRL_EN t) && !d.flag (Reg.TRG.MT_CTRL_KIND t) && d.inGroup (d.fld (Reg.TRG.MT_CTRL_GROUP t)) region then
      let k := (h.toa / 64 / 2 ^ d.maskIvl t) * 8 + t
      { d with trg := { d.trg with maskHits := SMap.upd (fun _ => 0) d.trg.maskHits k (· + 1) } }
    else d) d

/-- The hit at the head of the sort buffer may be released: at or below the front, and the stream has reached its frame (R188, R192). -/
def Device.releasable (d : Device) : Option Hit :=
  match d.evb.sort, d.streamFrame with
  | h :: _, some f => if (h.toa : Int) ≤ d.evb.front ∧ h.toa < (f.num.toNat + 1) * 2 ^ 24 then some h else none
  | _, _ => none

/-- The release of the first hit (R188, R189, R222, R240). -/
def Device.releaseHit (d : Device) (full : Bool) : Device :=
  match d.releasable with
  | none => d
  | some h =>
    let d := { d with evb := { d.evb with sort := d.evb.sort.drop 1, sortFull := false } }
    let d := (((d.maskHit h).ringHit h full).delivered 2).delivered 4
    if d.selects h then d.emitHit h else d

/-- The header of the oldest frame falls due (R192). -/
def Device.headerDue (d : Device) : Option FrameSt :=
  match d.evb.frames with
  | f :: _ => if !f.header && !f.waiting && decide ((f.start.toNat : Int) * 64 ≤ d.evb.front) then some f else none
  | [] => none

/-- The alignment record of the oldest frame falls due: the front has reached its end and its hits are released (R192). -/
def Device.alignDue (d : Device) : Option FrameSt :=
  match d.evb.frames with
  | f :: _ =>
    if f.header && f.ended.isSome && decide ((f.endCount : Int) * 64 ≤ d.evb.front) && !(d.evb.sort.any fun h => decide (h.toa < f.endCount * 64)) then some f
    else none
  | [] => none

/-- Everything due is released: `n` bounds the number of records (R606). -/
def Device.releaseAll (d : Device) : Nat → Device
  | 0 => d
  | n + 1 =>
    match d.alignDue with
    | some f => Device.releaseAll (d.queueAlign f) n
    | none => match d.headerDue with
      | some f => Device.releaseAll (d.queueHeader f) n
      | none => if d.releasable.isSome then Device.releaseAll (d.releaseHit false) n else d

/-- A time-base load at the load tick (R90, R606): the frame in progress ends with LOAD_END, the front is set, and the frame that holds the
loaded count begins. -/
def Device.loadTimeBase (d : Device) (frame : BitVec 40) (ct : BitVec 18) (phase : BitVec 16) : Device :=
  let d := d.advanceFront
  let d := if d.domOn 4 then d.releaseAll (d.evb.sort.length + 2 * d.evb.frames.length) else d
  let new : BitVec 58 := frame ++ ct
  let old := d.tim.count
  let moved : Int := 64 * ((new.toNat : Int) - (old.toNat : Int))
  let move (e : SyncEdge) : SyncEdge := { e with loadAt := e.loadAt + (new - old) }
  let d := { d with tim := { d.tim with count := new, sync := d.tim.sync.map move, tsync := d.tim.tsync.map move } }
  let d := (d.setFlag Reg.TIM0.STATUS_TIME_BASE (!d.flag Reg.TIM0.STATUS_TIME_BASE)).setFlag Reg.TIM0.STATUS_SYNC_STALE false
  let d := ((d.setFld Reg.TIM0.SYNC_LAST_CT ct.toNat).raise .tim0 8)
  let opens := d.trg.opens.map fun t => { t with shift := t.shift + moved }
  let captures := d.his.captures.map fun s => if s.done then s else { s with moved := true }
  let d := { d with trg := { d.trg with opens := opens }, his := { d.his with captures := captures } }
  if !d.domOn 4 then d
  else
    let d := d.endFrame true
    let d := d.evb.frames.foldl (fun d f => (if f.header then d else d.queueHeader f).queueAlign f) d
    let d := { d with evb := { d.evb with front := ((new.toNat : Int) - 5120) * 64 } }
    let d := (List.range 8).foldl (fun d t => d.startMask t) d
    let d := d.setFlag Reg.EVB.SORT_STATUS_STALLED false
    let d := if d.pageOn .trg then d.arm new else d
    d.startFrame frame new phase

end Sys2Proof.Machine
end

