-- ==== Sys2Proof/Machine/PciOps.lean ====
section
/-! DEFINITION. The PCI Express endpoint's rings (R460-R471): when a ring can take data, its descriptors, the words written into a readout
buffer, completions, and what is discarded while the host is away. -/

namespace Sys2Proof.Machine

/-- A ring's state beside its registers. -/
def Device.ring (d : Device) (r : Nat) : RingSt := SMap.get (fun _ => {}) d.pci.rings r
/-- A ring's state changes. -/
def Device.updRing (d : Device) (r : Nat) (f : RingSt → RingSt) : Device :=
  { d with pci := { d.pci with rings := SMap.upd (fun _ => {}) d.pci.rings r f } }

/-- The endpoint can issue requests of its own (R459, R460): powered, link up, D0, Bus Master Enable. -/
def Device.dmaReady (d : Device) : Bool := d.pageOn .pci && d.pci.up && !d.pci.cfg.d3hot && d.pci.cfg.busMaster

/-- A ring is enabled: EN, and the page's ENABLE, which cleared acts as clearing EN (R471, R488). -/
def Device.ringEn (d : Device) (r : Nat) : Bool := d.enabled .pci && d.flag (Reg.RING.RING_CTRL_EN r)

/-- A readout ring can take data (R460). -/
def Device.ringReady (d : Device) (r : Nat) : Bool := d.dmaReady && d.ringEn r

/-- Descriptors of a ring: 2^LOG2, LOG2 from 4 to 16 (R461). -/
def Device.ringSize (d : Device) (r : Nat) : Nat := 2 ^ max 4 (min 16 (d.fld (Reg.RING.RING_SIZE_LOG2 r)))

/-- The host address of descriptor count `n` (R462). -/
def Device.descAddr (d : Device) (r : Nat) (n : W32) : Nat :=
  (d.fld (Reg.RING.RING_BASE_LO_ADDR r) + d.fld (Reg.RING.RING_BASE_HI_ADDR r) * 2 ^ 32 + 32 * (n.toNat % d.ringSize r)) % 2 ^ 64

/-- The read requests that fetch a buffer: none above Max Read Request Size (R455) and none across a 4 KiB boundary. -/
def readPieces (size : Nat) : Nat → Nat → Nat → List (Nat × Nat)
  | 0, _, _ => []
  | fuel + 1, addr, len =>
    if len = 0 then [] else
      let n := min len (min size (4096 - addr % 4096))
      (addr, n) :: readPieces size fuel (addr + n) (len - n)

/-- A buffer is read from the host (R455, R469). -/
def Device.readBuffer (d : Device) (addr len : Nat) : Device :=
  (readPieces d.pci.cfg.maxReadRequest len addr len).foldl (fun d p => d.send (.hostRead p.1 p.2)) d

/-- A fetched descriptor's buffer address. -/
def Desc.buf (x : Desc) : Nat := x.word0.toNat
/-- A fetched descriptor's LEN. -/
def Desc.len (x : Desc) : Nat := x.word1.toNat % 2 ^ 32
/-- A fetched descriptor's IRQ bit. -/
def Desc.irq (x : Desc) : Bool := x.word1.getLsbD 32

/-- A readout descriptor is bad: reserved bit, alignment or length (R464, R465). -/
def Desc.badReadout (x : Desc) : Bool :=
  x.buf % 64 != 0 || x.len % 64 != 0 || decide (x.len < 64) || decide (16777216 < x.len) || decide (2 ^ 33 ≤ x.word1.toNat)

/-- A host-to-device descriptor's MODE (R468). -/
def Desc.mode (x : Desc) : Nat := (x.word1.getLsbD 33).toNat
/-- A host-to-device descriptor's INC. -/
def Desc.inc (x : Desc) : Bool := x.word1.getLsbD 34
/-- A host-to-device descriptor's OFFSET. -/
def Desc.offset (x : Desc) : Nat := x.word1.toNat / 2 ^ 39

/-- A host-to-device descriptor is bad (R468; R469). -/
def Desc.badH2d (x : Desc) : Bool :=
  x.buf % 8 != 0 || x.len % (if x.mode = 0 then 8 else 4) != 0 || decide (x.len < 4) || decide (16777216 < x.len)
    || x.word1.toNat / 2 ^ 35 % 16 != 0 || x.offset % 4 != 0

/-- ACTIVE: a fetched descriptor is not yet complete (R461). An abort is over with the last of them. -/
def Device.showActive (d : Device) (r : Nat) : Device :=
  let active := !(d.ring r).descs.isEmpty
  let d := d.setFlag (Reg.RING.RING_STATUS_ACTIVE r) active
  if active then d else d.setFlag (Reg.RING.RING_CTRL_ABORT r) false

/-- The oldest fetched descriptor completes with words 2 and 3 (R463): data before it, then word 3, word 2, HEAD, and the event. -/
def Device.completeDesc (d : Device) (r : Nat) (x : Desc) (status : Nat) (word2 word3 : W64) : Device :=
  let d := d.updRing r fun q => { q with descs := q.descs.drop 1 }
  let head := x.index + 1
  let d := (d.setWord (Reg.RING.HEAD r) head).setFld (Reg.RING.RING_STATUS_LAST r) status
  let d := d.count (Reg.RING.CNT_DESC r)
  let d := (d.writeHost (d.descAddr r x.index + 24) [word3]).writeHost (d.descAddr r x.index + 16) [word2]
  let d := if d.flag (Reg.RING.RING_CTRL_WB_EN r) then
      d.writeHost (d.fld (Reg.RING.WB_ADDR_LO_ADDR r) + d.fld (Reg.RING.WB_ADDR_HI_ADDR r) * 2 ^ 32) [head.setWidth 64]
    else d
  let d := d.showActive r
  if x.irq then d.raise .pci r else d

/-- Bytes moved by a ring are counted in KiB (R461). -/
def Device.countMoved (d : Device) (r n : Nat) : Device :=
  let total := (d.ring r).bytes + n
  (d.updRing r fun q => { q with bytes := total % 1024 }).count (Reg.RING.CNT_KIB r) (total / 1024)

/-! ### Readout rings -/

/-- A readback routed to ring `r` runs (R466). -/
def Device.readbackTo (d : Device) (r : Nat) : Bool :=
  match d.his.running with
  | some b => !b.lanes && b.ring == r
  | none => false

/-- The STATUS with which the oldest readout descriptor completes now, if it does (R465, R471). -/
def Device.readoutStatus (d : Device) (r : Nat) (x : Desc) : Option Nat :=
  if d.flag (Reg.RING.RING_CTRL_ABORT r) then some 4
  else if x.badReadout then some 5
  else if x.len ≤ x.used then some 0
  else if x.ended || (x.used != 0 && x.readback != d.readbackTo r) then some 2
  else if !d.ringEn r then some 3
  else none

/-- Words 2 and 3 of a readout descriptor (R464). -/
def Desc.readoutWords (x : Desc) (status : Nat) : W64 × W64 :=
  let frame : W64 := match x.frame with
    | some n => BitVec.ofNat 64 (2 ^ 40 + n % 2 ^ 40)
    | none => 0
  (BitVec.ofNat 64 (x.used + status * 2 ^ 32 + x.cont.toNat * 2 ^ 36 + x.readback.toNat * 2 ^ 37 + x.coded.toNat * 2 ^ 38 + 2 ^ 63), frame)

/-- Records wait for a readout ring: not yet taken, or with words that its context has ready. -/
def Device.ringRecords (d : Device) (r : Nat) : Bool := !(d.ring r).todo.isEmpty || !(d.coder (2 + r)).emit.isEmpty

/-- A readout ring can take record words: it is ready (R460) and a buffer is posted (R371). -/
def Device.ringOpen (d : Device) (r : Nat) : Bool :=
  d.ringReady r && (!(d.ring r).descs.isEmpty || d.word (Reg.RING.TAIL r) != d.word (Reg.RING.FETCH r))

/-- The ring's context fills its buffer and no further descriptor is posted: it is starved (R370, R371). -/
def Device.starve (d : Device) (r : Nat) : Device :=
  if (d.ring r).descs.isEmpty && d.word (Reg.RING.TAIL r) == d.word (Reg.RING.FETCH r) then
    ((d.setFlag (Reg.CDR.STREAM_STATUS_STARVED (2 + r)) true).count Reg.CDR.CNT_STARVED).raise .cdr 0
  else d

/-- A readout descriptor completes (R463-R465). A bad one has written nothing. -/
def Device.completeReadout (d : Device) (r : Nat) (x : Desc) (status : Nat) : Device :=
  let (w2, w3) := x.readoutWords status
  let d := d.completeDesc r x status w2 w3
  if status = 0 && !x.readback then d.starve r else d

/-- The tags of the units that begin among the first `n` words, `inside` a unit before them. -/
def unitStarts : Bool → Nat → List (W64 × List Nat) → List (List Nat)
  | _, 0, _ => []
  | _, _, [] => []
  | true, n + 1, w :: ws => unitStarts w.2.isEmpty n ws
  | false, n + 1, w :: ws => (((w :: ws).find? fun x => !x.2.isEmpty).map (·.2)).getD [] :: unitStarts w.2.isEmpty n ws

/-- The frame number of a frame header record (R204). -/
def Device.headerFrame (d : Device) (serial : Nat) : Option Nat :=
  match d.oqRecord serial with
  | some r => if r.kind = .header then some ((r.words.getD 0 0).toNat / 2 ^ 8 % 2 ^ 40) else none
  | none => none

/-- One batch of record words: at most `n` that the ring's context has ready, taken, with what they tell of FRAME and CONT. -/
def Device.takeUnits (d : Device) (r n : Nat) (x : Desc) : Device × List W64 × List Nat × Desc :=
  let emit := (d.coder (2 + r)).emit
  let starts := unitStarts (d.ring r).inside n emit
  let frame := x.frame.orElse fun _ => starts.findSome? fun ss => ss.findSome? fun k => d.headerFrame k
  let inside := match (emit.take n).getLast? with
    | some w => w.2.isEmpty
    | none => (d.ring r).inside
  let (d, ws, serials) := d.takeWords (2 + r) n
  (d.updRing r fun q => { q with inside := inside }, ws, serials, { x with frame := frame, cont := inside })

/-- Record words for a write request of at most `n` words: what the context has ready, then record after record (R361, R467). -/
def Device.gather (d : Device) (r : Nat) : Nat → Nat → Desc → List W64 → List Nat → Device × List W64 × List Nat × Desc
  | 0, _, x, ws, ss => (d, ws, ss, x)
  | fuel + 1, n, x, ws, ss =>
    let (d, more, done, x) := d.takeUnits r n x
    let ws := ws ++ more
    let ss := ss ++ done
    if n ≤ more.length then (d, ws, ss, x)
    else match (d.ring r).todo with
      | [] => (d, ws, ss, x)
      | k :: rest =>
        match d.oqRecord k with
        | none => (d.updRing r fun q => { q with todo := rest }, ws, ss, x)
        | some rec =>
          if d.streamTakes (2 + r) rec then
            Device.gather (((d.updRing r fun q => { q with todo := rest }).delivered 6).streamRecord (2 + r) rec (some k)) r fuel (n - more.length) x ws ss
          else (d, ws, ss, x)

/-- The words one write request may carry: Max Payload Size, the 4 KiB boundary, the rest of the buffer (R467). -/
def Device.requestWords (d : Device) (x : Desc) : Nat :=
  let addr := x.buf + x.used
  min (d.pci.cfg.maxPayload / 8) (min ((4096 - addr % 4096) / 8) ((x.len - x.used) / 8))

/-- A write request of a readout ring (R464-R467): its words leave, and the records they complete are released (R196). -/
def Device.writeRequest (d : Device) (r : Nat) : Device :=
  match (d.ring r).descs with
  | [] => d
  | x :: rest =>
    if !d.ringReady r || (d.readoutStatus r x).isSome then d
    else
      let n := d.requestWords x
      let back := d.readbackTo r
      let coded := !back && d.codes (2 + r)
      let (d, ws, serials, y) :=
        if back then
          let (d, ws) := d.takeReadback n
          (d, ws, [], { x with cont := !d.his.sending.isEmpty })
        else d.gather r ((d.ring r).todo.length + 1) n x [] []
      if ws.isEmpty then d
      else
        let first := x.used = 0
        let y := { y with used := x.used + 8 * ws.length, readback := back, since := if first then d.clock else x.since
                          coded := if first then coded || (!back && d.codes (2 + r)) else x.coded }
        let d := (d.writeHost (x.buf + x.used) ws).updRing r fun q => { q with descs := y :: rest }
        let d := d.countMoved r (8 * ws.length)
        serials.foldl (fun d k => d.releaseRing r k) d

/-! ### Data of a ring that cannot take any -/

/-- Bytes discarded are counted in KiB (R460). -/
def Device.countDiscarded (d : Device) (n : Nat) : Device :=
  let total := d.pci.discardBytes + n
  Device.count { d with pci := { d.pci with discardBytes := total % 1024 } } Reg.PCI.CNT_DISCARD (total / 1024)

/-- What is routed to a ring that cannot take data is released unwritten (R460): records not yet taken, words its context has ready, and
readback words. -/
def Device.discardRing (d : Device) (r : Nat) : Device :=
  let q := d.ring r
  let records := (q.todo.filterMap fun k => d.oqRecord k).map fun x => 8 * x.words.length
  let (d, ws, serials) := d.takeWords (2 + r) (d.coder (2 + r)).emit.length
  let d := d.updRing r fun q => { q with todo := [], inside := if ws.isEmpty then q.inside else false }
  let (d, rs) := if d.readbackTo r then d.takeReadback d.his.sending.length else (d, [])
  let d := d.countDiscarded (records.sum + 8 * ws.length + 8 * rs.length)
  (serials ++ q.todo).foldl (fun d k => d.releaseRing r k) d

/-- While HOLD is 0, rings that cannot take data discard theirs at once (R460). -/
def Device.discardRings (d : Device) : Device :=
  if d.flag Reg.PCI.CTRL_HOLD then d
  else (List.range 8).foldl (fun d r =>
    let q := d.ring r
    if d.ringReady r || (q.todo.isEmpty && (d.coder (2 + r)).emit.isEmpty && !d.readbackTo r) then d else d.discardRing r) d

end Sys2Proof.Machine
end

