-- ==== Sys2Proof/Machine/StaOps.lean ====
section
/-! DEFINITION. The statistics engine (R334-R338) and what ends a service step or a sequence (R339, R348, R349): what hits, samples and the
rest of the device touch. -/

namespace Sys2Proof.Machine

/-! ### Conversion (R104) -/

/-- A word of a cluster's correction record (R100). -/
def Device.corrWord (d : Device) (cluster k : Nat) : BitVec 16 := SMap.get (fun _ => 0) d.sea.corr (cluster * 66 + k)

/-- VALID of a record (R100). -/
def Device.corrValid (d : Device) (cluster : Nat) : Bool := (d.corrWord cluster 65).getLsbD 15

/-- D(n) of a record by its words (R101). -/
def delayAt (word : Nat → BitVec 16) (n : Nat) : Int :=
  let dn (k : Nat) : Int := if k = 0 then 0 else (word (k - 1)).toNat
  if n ≤ 64 then dn n else dn 64 + (((n - 64 : Nat) : Int) * (dn 64 - dn 48)) / 16

/-- D(n) of a cluster's record (R101). -/
def Device.tapDelay (d : Device) (cluster n : Nat) : Int := delayAt (d.corrWord cluster) n

/-- The full count of a latched count: the latest value, no later than now, with these low 24 bits (R93). -/
def Device.fullCount (d : Device) (c1 : BitVec 24) : Nat :=
  (d.tim.count - ((d.tim.count.setWidth 24 - c1).setWidth 58)).toNat

/-- What the correction unit makes of a hit (R104): time, ToT, FINE_INVALID, SHORT, INVERTED, and whether a code overflowed. -/
structure Converted where
  toa : Nat
  tot : Nat
  invalid : Bool
  short : Bool := false
  inverted : Bool := false
  overflow : Bool := false
  notable : Bool := false
  deriving DecidableEq, Repr

/-- The length of a hit in coarse ticks (R104). -/
def RawHit.len (h : RawHit) : Nat := (h.c2 - h.c1.setWidth 11).toNat

/-- A conversion with coarse time only (R104). -/
def coarseOf (c1 : Nat) (h : RawHit) : Converted := { toa := c1 * 64 + 32, tot := min (8 * h.len) 8191, invalid := true }

/-- The fine conversion of R104 by the words of a record; `c1` is the full count of the hit's leading edge. -/
def fineOf (word : Nat → BitVec 16) (c1 : Nat) (h : RawHit) : Converted :=
  let c2 := c1 + h.len
  let s := h.s.toNat
  let p := h.p.toNat
  if c2 = c1 ∧ s = 0 then { coarseOf c1 h with tot := 0, short := true }
  else if 80 ≤ s ∨ 80 ≤ p then { coarseOf c1 h with overflow := true }
  else
    let off : Int := 2 * (word 64).toInt
    let tap (n : Nat) : Int := delayAt word n + delayAt word (n + 1)
    let t1 : Int := ((c1 : Int) + 1) * 8192 - tap s - off
    let t2 : Int := ((c2 : Int) + 1) * 8192 - tap p - off
    let dt := t2 - t1
    if dt < 0 then { coarseOf c1 h with inverted := true }
    else
      let toa := (((t1 + 64) / 128) % (2 ^ 64 : Int)).toNat
      if dt < 128 then { toa := toa, tot := 0, invalid := false, short := true }
      else { toa := toa, tot := (min (max ((dt + 512) / 1024) 1) 8191).toNat, invalid := false }

/-- The conversion of R104 up to SAT and CONTESTED. -/
def Device.convert (d : Device) (die cluster : Nat) (h : RawHit) : Converted :=
  let c1 := d.fullCount h.c1
  if !h.granted || h.wdFreed || !d.flag Reg.TIM0.CTRL_FINE_EN || !d.flag (fEnable .tim1) then coarseOf c1 h
  else if !(d.corrValid cluster && d.flag ⟨Reg.TIM0.STATUS, 8 + die, 1⟩) then { coarseOf c1 h with notable := true }
  else fineOf (d.corrWord cluster) c1 h

/-- The hit with its flags (R104-R107). -/
def hitOf (die : Nat) (h : RawHit) (c : Converted) : Hit :=
  { toa := c.toa, die := die, row := h.row.toNat, col := h.col.toNat
    tot := if h.sat then 0x1FFF#13 else BitVec.ofNat 13 c.tot
    flags := BitVec.ofBool c.invalid ++ BitVec.ofBool c.short ++ BitVec.ofBool c.inverted ++ BitVec.ofBool h.rangeHi
      ++ BitVec.ofBool h.rangeChanged ++ BitVec.ofBool h.contested }

/-! ### The engine -/

/-- A run is in progress (R336). -/
def Device.staRuns (d : Device) : Bool := d.pageOn .sta0 && d.fld Reg.STA0.STATUS_STATE = 1

/-- STA.N: 0 acts as 65,535 (R336). -/
def Device.staN (d : Device) : Nat := let n := d.fld Reg.STA0.N_N; if n = 0 then 65535 else n

/-- STA.STRIDE: 0 acts as 1 (R334). -/
def Device.staStride (d : Device) : Nat := max 1 (d.fld Reg.STA0.STRIDE_STRIDE)

/-- STA.CFG.KEY: 3 acts as 0 (R357). -/
def Device.staKey (d : Device) : Nat := let k := d.fld Reg.STA0.CFG_KEY; if k = 3 then 0 else k

/-- STA.CFG.SOURCE: 6 and 7 act as 5 (R335). -/
def Device.staSource (d : Device) : Nat := min 5 (d.fld Reg.STA0.CFG_SOURCE)

/-- The units of a key on the part (R334). -/
def Device.staUnits (d : Device) (key : Nat) : Nat := d.part.dies * (match key with | 0 => 131072 | 1 => 8192 | _ => 8)

/-- The cell that a unit is bound to (R334). -/
def Device.boundCell (d : Device) (unit : Nat) : Option Nat :=
  let base := d.fld Reg.STA0.BASE_INDEX
  let c := (unit - base) / d.staStride
  if base ≤ unit ∧ (unit - base) % d.staStride = 0 ∧ c < 4096 ∧ unit < d.staUnits d.staKey then some c else none

/-- How many cells are bound: all of them when values are pushed (R334, R335). -/
def Device.boundCells (d : Device) : Nat :=
  if d.staSource = 5 then 4096
  else min 4096 ((d.staUnits d.staKey + d.staStride - 1 - d.fld Reg.STA0.BASE_INDEX) / d.staStride)

/-- A moment cell. -/
def Device.cell (d : Device) (c : Nat) : Cell := SMap.get (fun _ => {}) d.sta.cells c

/-- A cell takes a value (R336). -/
def Cell.take (c : Cell) (v : Int) : Cell :=
  { n := c.n + 1, s1 := c.s1 + v, s2 := c.s2 + (v * v).toNat
    min := if c.n = 0 then v else if v < c.min then v else c.min
    max := if c.n = 0 then v else if c.max < v then v else c.max }

/-- The most values that can wait in the queue now: the engine updates at least two values each coarse tick (R337). -/
def Device.valuesWaiting (d : Device) : Nat := d.sta.backlog - 2 * (d.clock - d.sta.backlogAt)

/-- A value that passed the selection comes to the queue of 1,024 entries; one that finds it full is left out (R337). The engine may be faster than
its bound, so that whether the queue is full once 1,024 values can wait is free (log 17). -/
def Device.queueValue (d : Device) (f : Device → Device) : Device :=
  let most := d.valuesWaiting
  if 1024 ≤ most && Config.engineBehind d.free then
    ((d.draw.count Reg.STA0.CNT_OVERRUN).setFlag Reg.STA0.STATUS_OVR true).raise .sta0 1
  else
    let d := if 1024 ≤ most then d.draw else d
    f { d with sta := { d.sta with backlog := min 1024 (most + 1), backlogAt := d.clock } }

/-- A cell takes a value, unless it is at `n` (R336). -/
def Device.takeValue (d : Device) (n c : Nat) (v : Int) : Device :=
  let s := d.cell c
  if n ≤ s.n then d
  else ({ d with sta := { d.sta with cells := SMap.set (fun _ => {}) d.sta.cells c (s.take v) } }).count Reg.STA0.CNT_ACCEPTED

/-- A cell of a run of the host is given a value; it stops taking values at N (R336, R337). -/
def Device.giveCell (d : Device) (c : Nat) (v : Int) : Device :=
  d.queueValue fun d =>
    let last := (d.cell c).n + 1 = d.staN
    let d := d.takeValue d.staN c v
    if last then d.setFld Reg.STA0.STATUS_AT_N (d.fld Reg.STA0.STATUS_AT_N + 1) else d

/-- The integer part of a square root below 2⁴⁰. -/
def isqrt (x : Nat) : Nat := (List.range 40).foldl (fun r i => let t := r + 2 ^ (39 - i); if t * t ≤ x then t else r) 0

/-- MEAN of a cell (R336). -/
def Cell.mean (c : Cell) : Int :=
  if c.n = 0 then 0
  else
    let m : Int := ((512 * c.s1.natAbs + c.n) / (2 * c.n) : Nat)
    if c.s1 < 0 then -m else m

/-- SD of a cell (R336). -/
def Cell.sd (c : Cell) : Nat :=
  if c.n < 2 then 0 else (isqrt (262144 * ((c.n : Int) * c.s2 - c.s1 * c.s1).toNat / (c.n * (c.n - 1))) + 1) / 2

/-- The words of CELL_DATA0 to 4 (R336, R357). -/
def Cell.words (c : Cell) : List W32 :=
  [BitVec.ofNat 32 c.n, BitVec.ofInt 32 c.mean, BitVec.ofNat 32 c.sd,
   (if c.n = 0 then 0x7FFFFF#24 else BitVec.ofInt 24 c.min).setWidth 32, (if c.n = 0 then 0x800000#24 else BitVec.ofInt 24 c.max).setWidth 32]

/-! ### The histogram store (R338) -/

/-- A bin. -/
def Device.bin (d : Device) (b : Nat) : Nat := (SMap.get (fun _ => 0) d.sta.bins b).toNat

/-- A bin takes a value. -/
def Device.setBin (d : Device) (b v : Nat) : Device :=
  { d with sta := { d.sta with bins := SMap.set (fun _ => 0) d.sta.bins b (BitVec.ofNat 16 v) } }

/-- The sum of the 81 bins of the `j`-th cluster. -/
def Device.binSum (d : Device) (j : Nat) : Nat := ((List.range 81).map fun s => d.bin (81 * j + s)).sum

/-- A bin counts one more (R338). -/
def Device.bumpBin (d : Device) (b : Nat) : Device := (d.setBin b (min 65535 (d.bin b + 1))).count Reg.STA0.CNT_ACCEPTED

/-- A start code comes to the bins of the `j`-th cluster, which count until it has N (R337, R338). -/
def Device.countCode (d : Device) (j s n : Nat) : Device :=
  d.queueValue fun d => if n ≤ d.binSum j then d else d.bumpBin (81 * j + min s 80)

/-! ### What the engine taps -/

/-- The service that measures. -/
def Device.measuring (d : Device) : Option ServiceRun :=
  match d.sta.run with
  | some r => match r.phase with
    | .service s => some s
    | _ => none
  | none => none

/-- N of a delay-line calibration: 0 acts as 65,535, less than 32,768 as 32,768. -/
def calHits (params : BitVec 48) : Nat := let n := (params.extractLsb' 32 16).toNat; if n = 0 then 65535 else max n 32768

/-- The words of a new record as the histogram store holds them (R351). -/
def Device.storedRecord (d : Device) (j k : Nat) : BitVec 16 := BitVec.ofNat 16 (d.bin (81 * j + k))

/-- The tick of the most recent synchronous injection pulse of a die (R335). -/
def Device.lastPulse (d : Device) (die : Nat) : Option Nat := (SMap.get (fun _ => ({} : InjSt)) d.arr.inj die).pulse

/-- What a measuring service takes from a hit at the correction unit (R109, R111, R351, R352): of the injected pixels of the die it calibrates, the
start code of a granted hit without a contest, or in an offset run its corrected time after the pulse; a hit of threshold equalisation less than 256 CT after a
pulse. In an offset run a hit counts less than 256 CT after its pulse if the record gives it a fine time (log 74). -/
def Device.tapService (d : Device) (s : ServiceRun) (die cluster : Nat) (h : RawHit) : Device :=
  let pixel := die * 131072 + h.row.toNat * 512 + h.col.toNat
  let j := cluster % 8192
  let c1 := d.fullCount h.c1
  let clean := h.granted && !h.contested
  let near : Option Nat := (d.lastPulse die).filter fun t => t ≤ c1 && c1 < t + 256
  if !(d.pixel pixel).entry.getLsbD 6 then d
  else match s.stage with
    | .codes => if clean && s.todo.head? == some die then d.countCode j h.s.toNat (calHits s.params) else d
    | .offsets half =>
      let c := fineOf (fun k => if k = 64 then 0 else d.storedRecord j k) c1 h
      match near with
      | some t =>
        if clean && s.todo.head? == some die && j / 4096 = half && !c.invalid then
          d.queueValue fun d => d.takeValue 65535 (j % 4096) ((c.toa : Int) - 64 * t)
        else d
      | none => d
    | .trims _ _ => if near.isSome && s.dies.contains die then d.queueValue fun d => d.bumpBin pixel else d
    | .scan => d

/-- A hit at the time correction unit: its raw form at the input, its conversion and its flags (R335, R109). -/
def Device.tapHit (d : Device) (die cluster : Nat) (h : RawHit) (hit : Hit) : Device :=
  let pixel := die * 131072 + h.row.toNat * 512 + h.col.toNat
  let code := h.s.toNat
  let d := match d.measuring with
    | some s => d.tapService s die cluster h
    | none => d
  if !d.staRuns then d
  else if d.flag Reg.STA0.CFG_HIST then
    let base := d.fld Reg.STA0.BASE_INDEX
    if cluster < base || base + 8192 ≤ cluster then d
    else if hit.flags.toNat &&& d.fld Reg.STA0.FILTER_REJECT ≠ 0 || d.flag Reg.STA0.FILTER_GRANTED_ONLY && (!h.granted || h.contested) then
      d.count Reg.STA0.CNT_IGNORED
    else d.countCode (cluster - base) code d.staN
  else if 3 ≤ d.staSource || d.staKey = 2 then d
  else
    match d.boundCell (if d.staKey = 0 then pixel else cluster) with
    | none => d
    | some c =>
      let from0 : Option Int := match d.lastPulse die with
        | some t =>
          let v : Int := (hit.toa : Int) - 64 * t
          if 0 ≤ v ∧ v < 64 * (max 1 (d.fld Reg.STA0.REF_WIN) : Nat) then some v else none
        | none => none
      let value : Option Int := match d.staSource with
        | 0 => from0
        | 1 => some (hit.tot.toNat : Int)
        | _ => some 1
      let rejected := hit.flags.toNat &&& d.fld Reg.STA0.FILTER_REJECT ≠ 0 || d.flag Reg.STA0.FILTER_GRANTED_ONLY && (!h.granted || h.contested)
      match value with
      | some v => if rejected then d.count Reg.STA0.CNT_IGNORED else d.giveCell c v
      | none => d.count Reg.STA0.CNT_IGNORED

/-- A sample of a waveform ADC (R335): VALID is bit 31, VALUE bits [15:0]. -/
def Device.tapSample (d : Device) (adc : Nat) (w : W32) : Device :=
  if !d.staRuns || d.flag Reg.STA0.CFG_HIST || d.staSource ≠ 4 || d.staKey ≠ 2 then d
  else match d.boundCell adc with
    | none => d
    | some c => if w.getLsbD 31 then d.giveCell c (w.setWidth 16).toInt else d.count Reg.STA0.CNT_IGNORED

/-! ### Claims (R339) -/

/-- The service of the running step, its claims granted. -/
def Device.serviceRun (d : Device) : Option ServiceRun :=
  match d.sta.run with
  | some r => match r.phase with
    | .service s => some s
    | .reseal s => some s
    | _ => none
  | none => none

/-- A service holds a die's injection and check. -/
def Device.pixClaimed (d : Device) (die : Nat) : Bool :=
  match d.serviceRun with
  | some s => s.dies.contains die
  | none => false

/-- A service holds the statistics engine and the histogram store; the bump scan does with RECORD = 1. -/
def Device.staClaimed (d : Device) : Bool :=
  match d.serviceRun with
  | some s => s.svc != .bumpScan || s.params.getLsbD 42
  | none => false

/-- A write to block registers of a die's PIX page: ignored and reported while a service holds the die (R339). -/
def Device.pixWrite (d : Device) (die : Die) (f : Device → Device) : Device :=
  if !d.pageOn (.pix die) then d else if d.pixClaimed die.val then d.raise (.pix die) 6 else f d

/-- A write to block registers of STA page 0 (R339). -/
def Device.staWrite (d : Device) (f : Device → Device) : Device :=
  if !d.pageOn .sta0 then d else if d.staClaimed then d.raise .sta0 2 else f d

/-- A region's range changes while a service runs (R352). -/
def Device.noteRange (d : Device) (region : Nat) : Device :=
  match d.sta.run with
  | some r => match r.phase with
    | .service s => { d with sta := { d.sta with run := some { r with phase := .service { s with lowGain := s.lowGain ++ [region] } } } }
    | _ => d
  | none => d

/-! ### The sequencer -/

/-- The service sequence table at reset: the words that are not 0 (R350). -/
def seqReset (k : Nat) : W64 :=
  match k with
  | 1 => 0x9000000000000000#64
  | 2 => 0xA0082000F0000000#64
  | 3 => 0x8010000000000000#64
  | 17 => 0x40F8000000000000#64
  | 19 => 0x4008000000000000#64
  | 21 => 0x42F0000000000000#64
  | _ => 0

/-- A descriptor of the table in force (R346). -/
def Device.seqDesc (d : Device) (n : Nat) : W64 := SMap.get seqReset d.sta.table (1 + n)

/-- The present step of the running sequence. -/
def Device.seqStep (d : Device) (r : SeqRun) : W64 := SMap.get seqReset r.table (17 + d.fld Reg.STA1.SVC_STATUS_STEP)

/-- A sequence begins (R347-R349). -/
def Device.beginSeq (d : Device) (n : Nat) (cause : BitVec 4) : Device :=
  let first := ((d.seqDesc n).extractLsb' 50 10).toNat
  let d := ((d.setFld Reg.STA1.SVC_STATUS_STATE 1).setFld Reg.STA1.SVC_STATUS_SEQ n).setFld Reg.STA1.SVC_STATUS_STEP first
  { d with sta := { d.sta with run := some { seq := n, cause := cause, table := d.sta.table }
                               started := SMap.set (fun _ => 0) d.sta.started n (d.clock + 1) } }

/-- The lowest-numbered pending sequence starts when none runs and the page is enabled (R348, R355). One whose descriptor in force has EN = 0 cannot
start (R347): it pends until a commit lets it (log 134). -/
def Device.nextSeq (d : Device) : Device :=
  if d.sta.run.isSome || !d.enabled .sta1 then d
  else match (List.range 16).find? fun n => (d.word Reg.STA1.SVC_PENDING).getLsbD n && (d.seqDesc n).getLsbD 63 with
    | none => d
    | some n =>
      let cause := SMap.get (fun _ => 0) d.sta.causes n
      let d := d.setFlag ⟨Reg.STA1.SVC_PENDING, n, 1⟩ false
      Device.beginSeq { d with sta := { d.sta with causes := SMap.set (fun _ => 0) d.sta.causes n 0 } } n cause

/-- A start of a sequence: merged into a pending or running one, or pending until it can run (R348). -/
def Device.startSeq (d : Device) (n : Nat) (cause : BitVec 4) : Device :=
  if !d.pageOn .sta1 || !(d.seqDesc n).getLsbD 63 then d
  else if d.sta.run.any fun r => r.seq = n then d
  else
    let d := d.setFlag ⟨Reg.STA1.SVC_PENDING, n, 1⟩ true
    Device.nextSeq { d with sta := { d.sta with causes := SMap.upd (fun _ => 0) d.sta.causes n fun c => c ||| cause } }

/-- The bits of the entries that a service changed become again what they were: INJ_EN, and the trial trims (R351, R352). -/
def Device.restoreEntries (d : Device) (s : ServiceRun) : Device :=
  let keep := if s.svc == .threshold then 0x5F#8 else 0x40#8
  s.saved.foldl (fun d p => d.setEntry p.1 (((d.pixel p.1).entry &&& ~~~keep) ||| (p.2 &&& keep))) d

/-- The injection that a service runs on a die ends, if it runs. -/
def Device.endService (d : Device) (die : Die) : Device :=
  let d := if d.flag (Reg.PIX.INJ_CTRL_BUSY die.val) && (d.injOf die).service.isSome then d.endInj die else d
  d.setInj die { d.injOf die with service := none }

/-- What a service step gives back when it ends: the entries it changed, the pixels its scan holds, the injection it runs, the check it paused, the
SEAL_HOLD and its context (R339, R343, R351, R355). -/
def Device.endClaims (d : Device) (s : ServiceRun) : Device :=
  let d := d.restoreEntries s
  let d := s.scans.foldl (fun d x => d.holdPixels (x.2.checked.filter fun i => (d.pixel i).checking) false) d
  let d := s.dies.foldl (fun d n => (d.endService (Fin.ofNat 4 n)).resumeCheck (Fin.ofNat 4 n)) d
  (d.freeCtxAt s.ctx).setFlag Reg.STA1.SVC_STATUS_SEAL_HOLD false

/-- The running sequence ends with a code (R349). -/
def Device.endSeq (d : Device) (code : Nat) : Device :=
  match d.sta.run with
  | none => d
  | some r =>
    let d := match r.phase with
      | .service s => d.endClaims s
      | .reseal s => d.endClaims s
      | .dsp core _ => d.updCore core fun k => { k with claimed := false }
      | _ => d
    let d := (d.setFld Reg.STA1.SVC_STATUS_STATE 0).setFld Reg.STA1.SVC_STATUS_CODE code
    Device.nextSeq ((Device.raise { d with sta := { d.sta with run := none, stopping := false } } .sta1 (if code < 2 then 0 else 1)))

/-- The running sequence enters a phase of its step. -/
def Device.setPhase (d : Device) (r : SeqRun) (p : SeqPhase) : Device := { d with sta := { d.sta with run := some { r with phase := p } } }

/-- REPS of a bump scan: 0 acts as 16. -/
def scanReps (params : BitVec 48) : Nat := let n := (params.extractLsb' 43 5).toNat; if n = 0 then 16 else n

/-- The die of a bump scan in progress (R353). -/
def Device.scanOf (d : Device) (die : Nat) : Option ScanSt :=
  match d.measuring with
  | some s => if s.svc == .bumpScan && s.dies.contains die then some (SMap.get (fun _ => {}) s.scans die) else none
  | none => none

/-- The die of a bump scan in progress changes. -/
def Device.setScan (d : Device) (die : Nat) (x : ScanSt) : Device :=
  match d.sta.run with
  | some r => match r.phase with
    | .service s => d.setPhase r (.service { s with scans := SMap.set (fun _ => {}) s.scans die x })
    | _ => d
  | none => d

/-- The running sequence goes to a step, ready to take it. -/
def Device.gotoStep (d : Device) (r : SeqRun) (k : Nat) : Device :=
  let d := (d.setFld Reg.STA1.SVC_STATUS_STEP k).setFld Reg.STA1.SVC_STATUS_STATE 1
  { d with sta := { d.sta with run := some { r with phase := .ready } } }

/-- The running sequence goes to its next step. -/
def Device.nextStep (d : Device) (r : SeqRun) : Device := d.gotoStep r (d.fld Reg.STA1.SVC_STATUS_STEP + 1)

/-- A RUN step's conditions hold: S1 or S2, LOCK, and the DLL of each die of the step (R349). -/
def Device.serviceCond (d : Device) (dies : List Nat) : Bool :=
  d.fld Reg.HLT.SERVICE_LEVEL_LEVEL != 0 && d.flag Reg.TIM0.STATUS_LOCK && dies.all fun n => d.flag ⟨Reg.TIM0.STATUS, 8 + n, 1⟩

/-- A service step that has lost a condition ends the sequence with COND (R349), once a reseal that is under way completes (R355). -/
def Device.watchService (d : Device) : Device :=
  match d.sta.run with
  | some r => match r.phase with
    | .service s => if d.serviceCond s.dies then d else d.endSeq 6
    | .reseal s => if d.serviceCond s.dies then d else d.setPhase r (.reseal { s with cond := true })
    | _ => d
  | none => d

end Sys2Proof.Machine
end

