-- ==== Sys2Proof/Machine/Settle.lean ====
section
/-! DEFINITION. What follows every command, and how a command's effect on the device becomes the outcome of the command. -/

namespace Sys2Proof.Machine

/-- What follows every command: a service step that lost its conditions, alarm policies, the service level; ADCs that may no longer run stop
(R155); region events, the fast-ORs, the release front, the flags of the present frame, data of rings that cannot take any, event delivery. -/
def Device.settle (d : Device) : Device :=
  let d := d.watchService.applyPolicies.settleLevel
  let d := d.haltAdcs (fun a => !d.wadcRuns a) false
  let d := d.regionEventDies.foldl (fun d n => d.raise (.die n) 0) d
  d.trackFastOr.markFrame.pump.advanceFront.discardRings.deliver

/-- A command's effect on the device, with what follows it; the queue is not touched. -/
def run (f : Device → Device) (s : State) : Res := .next { s with dev := (f s.dev).settle }

end Sys2Proof.Machine
end

