-- ==== Sys2Proof/Machine/Builder.lean ====
section
/-! DEFINITION. The commands of the event builder (spec/06) and the writes of the staged table images. -/

namespace Sys2Proof.Machine

/-! ### Hits -/

/-- The order of the sort key (R185). -/
def Hit.before (a b : Hit) : Bool :=
  let k (h : Hit) : Nat := ((h.toa * 4 + h.die) * 256 + h.row) * 512 + h.col
  decide (k a < k b)

/-- A hit takes its place in the sort buffer; equal keys keep their order of arrival. -/
def insertHit (h : Hit) : List Hit → List Hit
  | [] => [h]
  | x :: rest => if h.before x then h :: x :: rest else x :: insertHit h rest

/-- A hit is late as it enters (R187). -/
def Device.isLate (d : Device) (h : Hit) : Bool :=
  decide (h.toa + 5120 * 64 < d.tim.count.toNat * 64) || decide ((h.toa : Int) ≤ d.evb.front)

/-- A late hit (R187, R266): counted, raised once per frame of arrival, into a LATE record and the ring. -/
def Device.acceptLate (d : Device) (h : Hit) (full : Bool) : Device :=
  let d := d.count Reg.EVB.CNT_LATE
  let first := !d.evb.lateRaised
  let d := { d with evb := { d.evb with lateRaised := true } }
  let d := if first then d.raise .evb 2 else d
  d.lateHit h full

/-- A hit enters the sort buffer (R186). -/
def Device.acceptSorted (d : Device) (h : Hit) : Device :=
  let d := d.count Reg.EVB.CNT_HITS_IN
  let sort := insertHit h d.evb.sort
  let filled := decide (65536 ≤ sort.length)
  let d := { d with evb := { d.evb with sort := sort, sortFull := filled } }
  if filled then (d.count Reg.EVB.CNT_SORT_FULL).raise .evb 7 else d

/-- The event builder takes a converted hit while it is enabled and its buffer has room (R186, R187, R217). -/
def Device.acceptHit (d : Device) (full : Bool) : Device :=
  if !d.enabled .evb || decide (65536 ≤ d.evb.sort.length) then d
  else match d.arr.tcuOut with
    | [] => d
    | h :: rest =>
      let d := Device.delivered { d with arr := { d.arr with tcuOut := rest, tcuRaw := none } } 1
      if d.isLate h then d.acceptLate h full else d.acceptSorted h

/-- EVB_ACCEPT_HIT (R186, R187). -/
def execEvbAcceptHit (full : Bool) (s : State) : Res := run (fun d => d.acceptHit full) s

/-- HIT_RELEASE (R188). -/
def execHitRelease (full : Bool) (s : State) : Res :=
  run (fun d => if d.domOn 4 then d.releaseHit full else d) s

/-! ### Frames -/

/-- The next frame: the one after the last begun, and at first the one whose start tick lies ahead (R190, R193). -/
def Device.nextFrameNum (d : Device) : BitVec 40 :=
  match d.evb.lastNum with
  | some n => n + 1
  | none => d.frame + 1

/-- A frame starts (R88, R193): the count reaches its start tick, the frame in progress ends. -/
def Device.beginFrame (d : Device) (phase : BitVec 16) : Device :=
  if !d.counting then d
  else
    let num := if d.pageOn .evb then d.nextFrameNum else d.frame + 1
    let start : BitVec 58 := num ++ (0 : BitVec 18)
    let d := (d.advanceTo start).advanceFront
    let d := if num = 0 then d.raise .tim0 9 else d
    if d.pageOn .evb then (d.endFrame false).startFrame num start phase else d

/-- FRAME_START (R193, R195). -/
def execFrameStart (phase : BitVec 16) (s : State) : Res := run (fun d => d.beginFrame phase) s

/-- FRAME_HEADER_QUEUE (R192). -/
def execFrameHeaderQueue (s : State) : Res :=
  run (fun d => match d.advanceFront.headerDue with
    | some f => d.advanceFront.queueHeader f
    | none => d) s

/-- ALIGNMENT_RECORD_QUEUE (R192). -/
def execAlignmentRecordQueue (s : State) : Res :=
  run (fun d => match d.advanceFront.alignDue with
    | some f => d.advanceFront.queueAlign f
    | none => d) s

/-- LATE_RECORD_TIMEOUT (R211): 1 µs after its first hit. -/
def execLateRecordTimeout (s : State) : Res :=
  run (fun d => match d.evb.late with
    | some l => (d.waitUntil (l.since + Config.usCt)).endLate
    | none => d) s

/-- A FRAME context allocated on a retry; the stall ends with it (R198). -/
def Device.retryFrame (d : Device) (f : FrameSt) : Device :=
  match d.allocCtx 0 (f.num.setWidth 24) with
  | (d, none) => d
  | (d, some c) =>
    let mark (x : FrameSt) : FrameSt := if x.start = f.start ∧ x.num = f.num then { x with ctx := some c, waiting := false } else x
    let d := { d with evb := { d.evb with frames := d.evb.frames.map mark } }
    let d := if f.ended.isSome then d.closeCtx c else d
    d.setFlag Reg.EVB.SORT_STATUS_STALLED false

/-- FRAME_CONTEXT_RETRY (R198). -/
def execFrameContextRetry (s : State) : Res :=
  run (fun d => match d.evb.frames.find? fun f => f.waiting with
    | some f => d.retryFrame f
    | none => d) s

/-! ### Contexts -/

/-- Every path has released a context's last word (R196); a capture set's context waits for its release (R275). -/
def Device.ctxReleased (d : Device) (i : Nat) : Bool :=
  (d.ctxOf i).state == .queued && (d.ctxOf i).cls != 2 && !(d.evb.oq.any fun e => e.record.ctx == some i)

/-- CONTEXT_RELEASE (R196). -/
def execContextRelease (index : BitVec 10) (s : State) : Res :=
  run (fun d => if d.ctxReleased index.toNat then d.freeCtxAt index.toNat else d) s

/-- QUOTA_WRITE (R199). -/
def execQuotaWrite (cls : Fin 8) (data : W32) (s : State) : Res :=
  run (fun d => if d.pageOn .evb then d.setFld (Reg.EVB.QUOTA_QUOTA cls.val) ((Reg.EVB.QUOTA_QUOTA cls.val).of data) else d) s

/-- STATE of a descriptor (R196). -/
def ctxCode : CtxState → Nat
  | .free => 0
  | .opened => 1
  | .closing => 2
  | .queued => 3

/-- A read of CTX_DATA0 samples the addressed descriptor (R200). -/
def Device.readCtxData (d : Device) : Device :=
  let c := d.ctxOf (d.fld Reg.EVB.CTX_ADDR_INDEX)
  let w : W32 := c.id ++ (BitVec.ofNat 8 (ctxCode c.state + 16 * c.cls))
  let d := (d.setWord (Reg.EVB.CTX_DATA0) w).setWord (Reg.EVB.CTX_DATA1) (BitVec.ofNat 32 c.records)
  { d with rdata := w }

/-- CTX_DATA_READ (R200). -/
def execCtxDataRead (s : State) : Res := run (fun d => if d.pageOn .evb then d.readCtxData else { d with rdata := 0 }) s

/-! ### Staged table images -/

/-- Where a table image is staged: number of the staging copy, words of the image, page, address field, AUTOINC. -/
def stagePlace : StagedTable → Nat × Nat × Page × Fld × Fld
  | .format => (0, 17, .evb, Reg.EVB.FMT_ADDR_WORD, Reg.EVB.FMT_ADDR_AUTOINC)
  | .condition => (1, 129, .trg, Reg.TRG.COND_BASE_WORD, Reg.TRG.COND_BASE_AUTOINC)
  | .sequence => (2, 1025, .sta1, Reg.STA1.SEQ_BASE_WORD, Reg.STA1.SEQ_BASE_AUTOINC)
  | .equalisation => (3, 19, .lnk, Reg.LNK.EQ_ADDR_WORD, Reg.LNK.EQ_ADDR_AUTOINC)
  | .curve => (4, 10, .thm, Reg.THM.CURVE_ADDR_WORD, Reg.THM.CURVE_ADDR_AUTOINC)

/-- A word of a staging copy. -/
def Device.staged (d : Device) (t : StagedTable) (k : Nat) : W64 := SMap.get (fun _ => 0) d.staging ((stagePlace t).1 * 2048 + k)
/-- A word of a staging copy takes a value. -/
def Device.setStaged (d : Device) (t : StagedTable) (k : Nat) (w : W64) : Device :=
  { d with staging := SMap.set (fun _ => 0) d.staging ((stagePlace t).1 * 2048 + k) w }
/-- The words of a staged image. -/
def Device.stagedImage (d : Device) (t : StagedTable) : List W64 := (List.range (stagePlace t).2.1).map fun k => d.staged t k

/-- The address after an access of the high half (R219). -/
def Device.stepStage (d : Device) (t : StagedTable) : Device :=
  let (_, _, _, word, auto) := stagePlace t
  if d.flag auto then d.setFld word (d.fld word + 1) else d

/-- A write of half a staged word; words past the image ignore writes (R219, R253). -/
def Device.writeStage (d : Device) (t : StagedTable) (high : Bool) (data : W32) : Device :=
  let (_, n, _, word, _) := stagePlace t
  let k := d.fld word
  let w := d.staged t k
  let w := if high then data ++ w.extractLsb' 0 32 else w.extractLsb' 32 32 ++ data
  let d := if k < n then d.setStaged t k w else d
  if high then d.stepStage t else d

/-- TABLE_STAGING_WRITE (R220). -/
def execTableStagingWrite (table : StagedTable) (high : Bool) (data : W32) (s : State) : Res :=
  run (fun d => if d.pageOn (stagePlace table).2.2.1 then d.writeStage table high data else d) s

/-- A staged image passes MAGIC, VERSION, COUNT and CRC (R213, R214). -/
def Device.stagedOk (d : Device) (t : StagedTable) (magic count : Nat) : Bool :=
  imageOk magic count (d.staged t 0) (d.stagedImage t).tail

/-- A commit of the format table (R214). -/
def Device.commitFmt (d : Device) : Device :=
  if d.stagedOk .format 0x4F46 16 then
    let t := SMap.setAll (fun _ => 0x5500FF7F#64) [] 0 (d.stagedImage .format).tail
    Device.setFlag { d with evb := { d.evb with fmtNext := some t } } Reg.EVB.FMT_CTRL_REJECTED false
  else (d.setFlag Reg.EVB.FMT_CTRL_REJECTED true).raise .evb 11

/-- FMT_COMMIT (R214). -/
def execFmtCommit (s : State) : Res := run (fun d => if d.pageOn .evb then d.commitFmt else d) s

end Sys2Proof.Machine
end

