-- ==== Sys2Proof/Machine/Trigger.lean ====
section
/-! DEFINITION. The commands of the trigger and acquisition engine (spec/07). -/

namespace Sys2Proof.Machine

/-- The engine may accept triggers (R223): its page enabled, service level above S0. -/
def Device.trgReady (d : Device) : Bool := d.enabled .trg && d.fld Reg.HLT.SERVICE_LEVEL_LEVEL != 0

/-! ### The condition table -/

/-- A bit field of a word. -/
def bits64 (w : W64) (lo n : Nat) : Nat := w.toNat / 2 ^ lo % 2 ^ n

/-- Word `k` of entry `i` of the table in force (R229). -/
def Device.condWord (d : Device) (i k : Nat) : W64 := SMap.get (fun _ => 0) d.trg.cond (2 * i + k)

/-- The MULT threshold of an entry: 1 to 512 (R229). -/
def multOf (w : W64) : Nat := max 1 (min 512 (bits64 w 46 10))

/-- A commit of the condition table (R231). -/
def Device.commitCond (d : Device) : Device :=
  if d.stagedOk .condition 0x5443 64 then
    let t := SMap.setAll (fun _ => 0) [] 0 (d.stagedImage .condition).tail
    Device.setFlag { d with trg := { d.trg with condNext := some t } } Reg.TRG.COND_CTRL_REJECTED false
  else (d.setFlag Reg.TRG.COND_CTRL_REJECTED true).raise .trg 8

/-- COND_COMMIT (R231). -/
def execCondCommit (s : State) : Res := run (fun d => if d.pageOn .trg then d.commitCond else d) s

/-! ### Primitives -/

/-- Software bits wait for the next tick (R226). -/
def Device.softTrigger (d : Device) (data : W32) : Device :=
  let ps := ((List.range 16).filter fun k => data.getLsbD k).map fun k => (⟨5, k, none⟩ : Primitive)
  { d with trg := { d.trg with prims := d.trg.prims ++ ps } }

/-- SW_TRIG_WRITE (R226). -/
def execSwTrigWrite (data : W32) (s : State) : Res := run (fun d => if d.pageOn .trg then d.softTrigger data else d) s

/-- A TRIG_IN pin takes a level and keeps it for `hold` CT. A rising edge waits for the next tick when the pulse is high for at least 2 CT and the pin was
low for at least 2 CT before it (R226, R227). -/
def Device.trigIn (d : Device) (line : Fin 2) (rising : Bool) (hold : Nat) : Device :=
  let was := d.trg.pins.getLsbD line.val
  if was = rising then d
  else
    let d := d.waitUntil (SMap.get (fun _ => 0) d.trg.pinHold line.val)
    let bit : BitVec 2 := BitVec.ofNat 2 (2 ^ line.val)
    let seen := rising && decide (2 ≤ hold) && decide (SMap.get (fun _ => 0) d.trg.pinSeen line.val ≤ d.clock)
    let ps : List Primitive := if seen then [⟨2, line.val, none⟩] else []
    { d with trg := { d.trg with
      pins := if rising then d.trg.pins ||| bit else d.trg.pins &&& ~~~bit
      pinHold := SMap.set (fun _ => 0) d.trg.pinHold line.val (d.clock + hold)
      pinSeen := if rising then d.trg.pinSeen else SMap.set (fun _ => 0) d.trg.pinSeen line.val (d.clock + 2)
      prims := if d.pageOn .trg then d.trg.prims ++ ps else d.trg.prims } }

/-- TRIG_IN_EDGE (R226, R227). -/
def execTrigInEdge (line : Fin 2) (rising : Bool) (hold : Nat) (s : State) : Res := run (fun d => d.trigIn line rising hold) s

/-- The oldest entry of each line's queue, and what stays (R323). -/
def splitTrig : List Nat → List DspTrigger → List DspTrigger × List DspTrigger
  | _, [] => ([], [])
  | seen, t :: rest =>
    if seen.contains t.line then
      let (a, b) := splitTrig seen rest
      (a, t :: b)
    else
      let (a, b) := splitTrig (t.line :: seen) rest
      (t :: a, b)

/-- The primitives of a tick: those that waited, and one DSP trigger of each line, with a carried time no later than the tick (R228, R323). -/
def Device.takePrims (d : Device) (tick : Nat) : Device × List Primitive :=
  let (taken, kept) := splitTrig [] d.dspTrig
  let dsp := taken.map fun t => (⟨3, t.line, some t.time⟩ : Primitive)
  let all := d.trg.prims ++ dsp
  let late (p : Primitive) : Bool := match p.time with
    | some t => decide (tick * 64 < t)
    | none => false
  let n := (all.filter late).length
  let d := { d with trg := { d.trg with prims := [] }, dspTrig := kept }
  let d := if n = 0 then d else (d.count Reg.TRG.CNT_CLAMPED n).raise .trg 9
  (d, all.map fun p => if late p then { p with time := some (tick * 64) } else p)

/-! ### Evaluation -/

/-- A gate input has the stated level (R229, R230). -/
def Device.gateOpen (d : Device) (g : Nat) : Bool :=
  match g with
  | 0 => true
  | 1 => d.trg.pins.getLsbD 0
  | 2 => d.trg.pins.getLsbD 1
  | _ => !d.trg.pins.getLsbD 1

/-- The time in FU of an entry's primitive when it occurs in this tick (R226, R230). -/
def Device.primTime (d : Device) (w : W64) (tick : Nat) (now : List Nat) (prims : List Primitive) : Option Nat :=
  let sel := bits64 w 56 4
  let event (kind sel : Nat) : Option Nat := (prims.find? fun p => p.kind = kind && p.sel = sel).map fun p => p.time.getD (tick * 64)
  match bits64 w 60 3 with
  | 1 =>
    let before := SMap.get (fun _ => 0) d.trg.mult sel
    if multOf w ≤ now.getD sel 0 ∧ before < multOf w then some (tick * 64) else none
  | 2 => event 2 (sel % 2)
  | 3 => event 3 sel
  | 4 => event 4 sel
  | 5 => event 5 sel
  | 6 =>
    let period := d.fld (Reg.TRG.TIMER_PERIOD (sel % 4))
    if period ≠ 0 ∧ tick % period = 0 then some (tick * 64) else none
  | _ => none

/-- An entry that passed its prescale: TRIG_OUT, ADC lines, and re-arm or the candidate set (R233, R234). -/
def Candidate.take (c : Candidate) (i : Nat) (w0 w1 : W64) (t : Nat) : Candidate :=
  let accept := w0.getLsbD 43
  let c := { c with trigOut := c.trigOut || w0.getLsbD 41, lines := c.lines ||| BitVec.ofNat 4 (bits64 w0 37 4) }
  if !accept then c
  else
    let c := { c with conds := c.conds ||| BitVec.ofNat 64 (2 ^ i) }
    if c.primary < 64 then c
    else { c with primary := i, time := t, pre := bits64 w1 32 32, post := bits64 w1 0 32, capture := w0.getLsbD 42 }

/-- One enabled entry at a tick, in the order of R233. -/
def Device.evalEntry (d : Device) (tick : Nat) (now : List Nat) (prims : List Primitive) (c : Candidate) (i : Nat) : Device × Candidate :=
  let w0 := d.condWord i 0
  let hit := if w0.getLsbD 63 && d.gateOpen (bits64 w0 44 2) then d.primTime w0 tick now prims else none
  match hit with
  | none => (d, c)
  | some t =>
    let d := d.count (Reg.TRG.CNT_MATCH i)
    if d.clock < SMap.get (fun _ => 0) d.trg.rearm i then ((d.count Reg.TRG.CNT_IGNORED_REARM).raise .trg 1, c)
    else
      let n := SMap.get (fun _ => 0) d.trg.prescale i
      if n = bits64 w0 29 8 then
        let d := { d with trg := { d.trg with prescale := SMap.set (fun _ => 0) d.trg.prescale i 0 } }
        let d := if w0.getLsbD 43 then d
          else { d with trg := { d.trg with rearm := SMap.set (fun _ => 0) d.trg.rearm i (d.clock + bits64 w0 0 29) } }
        (d, c.take i w0 (d.condWord i 1) t)
      else ({ d with trg := { d.trg with prescale := SMap.set (fun _ => 0) d.trg.prescale i (n + 1) } }, c)

/-- The evaluation of the table at the next coarse tick (R230, R233); while no trigger may be accepted no entry is evaluated (R223), but the
multiplicities are those of the previous tick at the next one. Capture sets stopped in the tick before complete. -/
def Device.evaluate (d : Device) : Device :=
  let d := d.tick.finishStopped
  let tick := d.tim.count.toNat
  let d := d.setFld Reg.TRG.EXT_STATUS_LEVEL d.trg.pins.toNat
  let (d, prims) := d.takePrims tick
  let now := (List.range 16).map fun g => d.multiplicity g
  let start : Candidate := ⟨tick, 0, 64, 0, 0, 0, false, false, 0⟩
  let (d, c) := if d.trgReady then (List.range 64).foldl (fun (p : Device × Candidate) i => p.1.evalEntry tick now prims p.2 i) (d, start) else (d, start)
  let d := { d with trg := { d.trg with mult := SMap.setAll (fun _ => 0) [] 0 now } }
  if c.primary < 64 || c.trigOut || c.lines != 0 then { d with trg := { d.trg with decisions := d.trg.decisions ++ [c] } } else d

/-- CONDITION_EVALUATION (R230, R233). -/
def execConditionEvaluation (s : State) : Res := run (fun d => if d.pageOn .trg && d.counting then d.evaluate else d) s

/-! ### Decision -/

/-- TRIG_OUT and the ADC start lines assert at the decision tick: a pulse starts or is extended (R238, R247, R248). -/
def Device.assertOutputs (d : Device) (c : Candidate) : Device :=
  let until_ := max (d.trg.outUntil.getD 0) (d.clock + max 1 (d.fld Reg.TRG.TRIG_OUT_CTRL_WIDTH))
  let d := if c.trigOut then { d with trg := { d.trg with outUntil := some until_ } } else d
  let lines := ([0, 1, 2, 3] : List (Fin 4)).filter fun n => c.lines.getLsbD n.val
  { d with trg := { d.trg with lines := d.trg.lines ++ lines.map fun n => (n, c.tick + 6) } }

/-- The conditions of a trigger enter re-arm (R237). -/
def Device.rearmAll (d : Device) (c : Candidate) : Device :=
  let now : Int := d.tim.count.toNat
  (List.range 64).foldl (fun d i =>
    if c.conds.getLsbD i then
      let wait : Int := (c.time / 64 : Nat) + (c.post : Int) + (bits64 (d.condWord i 0) 0 29 : Nat) - now
      let d := d.count (Reg.TRG.CNT_ACCEPT i)
      { d with trg := { d.trg with rearm := SMap.set (fun _ => 0) d.trg.rearm i (d.clock + wait.toNat) } }
    else d) d

/-- The trigger of a candidate once a TRIGGER context is held (R237, R242, R273): re-arm, numbers, its capture set. -/
def Device.acceptTrigger (d : Device) (c : Candidate) (ctx : Nat) (retro : Bool) (readback : Option Nat) : Device :=
  let num := BitVec.ofNat 24 (d.fld Reg.TRG.TRIG_NUM_NEXT)
  let d := (d.count Reg.TRG.CNT_TRIGGERS).setFld Reg.TRG.TRIG_NUM_NEXT (num.toNat + 1)
  let d := d.rearmAll c
  let t : Trigger := { num := num, ctx := ctx, capture := none, retro := retro, primary := c.primary, conds := c.conds, time := c.time
                       pre := c.pre, post := c.post, decided := c.tick + 6 }
  let d := if !c.capture then { d with trg := { d.trg with opens := d.trg.opens ++ [t] } }
    else match d.allocCtx 2 num with
      | (d, none) =>
        (Device.raise { d.count Reg.TRG.CNT_CAP_REFUSED with trg := { (d.count Reg.TRG.CNT_CAP_REFUSED).trg with opens := d.trg.opens ++ [t] } } .trg 3)
      | (d, some k) =>
        let t := { t with capture := some k }
        let a := t.window.1.toNat
        let b := t.window.2.toNat
        let held := (d.his.segs.filter fun s => !s.closed || s.last.any fun l => decide (a ≤ l)).map (·.seq)
        let set : CaptureSet := { num := num, ctx := k, decided := (c.tick + 6) * 64, start := a, stop := b, segs := held }
        { d with trg := { d.trg with opens := d.trg.opens ++ [t] }, his := { d.his with captures := d.his.captures ++ [set] } }
  if retro then
    let d := d.count Reg.TRG.CNT_RETRO
    d.queueReadback (d.request 1 num.toNat t.window.1.toNat (d.evb.front.toNat + 1) readback)
  else d

/-- The tests of R235, in their order. -/
def Device.testTrigger (d : Device) (c : Candidate) : Device :=
  let w0 : Int := (c.time : Int) - 64 * (c.pre : Int)
  let triggered := (d.presentFrame.map (·.mode)) = some 1
  let retro := !c.capture && triggered && decide (w0 ≤ (d.evb.front : Int))
  if c.capture && d.his.frozen then (d.count Reg.TRG.CNT_IGNORED_FROZEN).raise .trg 10
  else if w0 < ((d.trg.armAt.toNat * 64 : Nat) : Int) || ((c.capture || retro) && !d.holds w0) then
    (d.count Reg.TRG.CNT_IGNORED_PRE).raise .trg 0
  else match d.allocCtx 1 (BitVec.ofNat 24 (d.fld Reg.TRG.TRIG_NUM_NEXT)) with
    | (d, none) => (d.count Reg.TRG.CNT_CTX_REFUSED).raise .trg 2
    | (d, some k) =>
      if !retro then d.acceptTrigger c k false none
      else match d.allocCtx 4 (BitVec.ofNat 24 (d.fld Reg.TRG.TRIG_NUM_NEXT)) with
        | (d, none) => ((d.freeCtxAt k).count Reg.TRG.CNT_CTX_REFUSED).raise .trg 2
        | (d, some r) => d.acceptTrigger c k true (some r)

/-- The decision tick of the oldest evaluated tick, 6 CT after it (R234-R239). -/
def Device.decideNext (d : Device) : Device :=
  match d.trg.decisions with
  | [] => d
  | c :: rest =>
    let d := (Device.advanceTo { d with trg := { d.trg with decisions := rest } } (BitVec.ofNat 58 (c.tick + 6))).finishStopped.advanceFront
    if !d.trgReady then d
    else
      let d := d.assertOutputs c
      if c.primary < 64 then d.testTrigger c else d

/-- TRIGGER_DECISION (R234-R239). -/
def execTriggerDecision (s : State) : Res := run (fun d => if d.pageOn .trg then d.decideNext else d) s

/-- REARM_EXPIRE (R233, R237). -/
def execRearmExpire (cond : Fin 64) (s : State) : Res :=
  run (fun d =>
    let d := d.waitUntil (SMap.get (fun _ => 0) d.trg.rearm cond.val)
    { d with trg := { d.trg with rearm := SMap.set (fun _ => 0) d.trg.rearm cond.val 0 } }) s

/-- TRIG_OUT_PULSE_END (R247). -/
def execTrigOutPulseEnd (s : State) : Res :=
  run (fun d => match d.trg.outUntil with
    | some t => { d.waitUntil t with trg := { d.trg with outUntil := none } }
    | none => d) s

/-- TRIG_OUT is asserted (R223, R247). -/
def Device.trigOut (d : Device) : Bool :=
  d.trgReady && (d.flag Reg.TRG.TRIG_OUT_CTRL_FORCE || d.trg.outUntil.any fun t => decide (d.clock < t))

/-- The level of the TRIG_OUT pin: INVERT selects active low (R247). -/
def Device.trigPin (d : Device) : Bool := d.trigOut != d.flag Reg.TRG.TRIG_OUT_CTRL_INVERT

/-! ### Windows and capture sets -/

/-- The release front has passed the end of a window and every hit before it is released (R241). -/
def Device.windowPassed (d : Device) (t : Trigger) : Bool :=
  decide (t.window.2 ≤ (d.evb.front : Int)) && !(d.evb.sort.any fun h => decide ((h.toa : Int) < t.window.2))

/-- TRIGGER_WINDOW_CLOSE (R241): the oldest trigger without a capture set whose window has ended. -/
def execTriggerWindowClose (s : State) : Res :=
  run (fun d =>
    let d := d.finishStopped.advanceFront
    match d.trg.opens.find? fun t => t.capture.isNone && d.windowPassed t with
    | some t => d.finishTrigger t
    | none => d) s

/-- Every hit of a capture window is written: its end has passed, and none is staged or in the coder's open block (R242). -/
def Device.captureWritten (d : Device) (t : Trigger) : Bool :=
  d.windowPassed t && !((d.his.staging.filterMap (·.hit)) ++ d.his.inBlock).any fun toa => decide (t.window.1 ≤ (toa : Int)) && decide ((toa : Int) < t.window.2)

/-- CAPTURE_DONE (R242): every hit of the oldest ended capture window is written. -/
def execCaptureDone (s : State) : Res :=
  run (fun d =>
    let d := d.finishStopped.advanceFront
    match d.capturing.find? fun t => d.captureWritten t with
    | some t => ((d.count Reg.TRG.CNT_CAPTURES).finishTrigger t).raise .trg 6
    | none => d) s

/-! ### Mask tests -/

/-- A violation of a test at a full coarse count (R245). -/
def Device.maskViolation (d : Device) (t ct : Nat) : Device :=
  let d := d.setFld Reg.TRG.MASK_STATUS_VIOLATED (d.fld Reg.TRG.MASK_STATUS_VIOLATED ||| 2 ^ t)
  if d.his.frozen then d
  else
    let d := d.setFld Reg.TRG.MASK_STATUS_FIRST t
    let d := (d.setFld Reg.TRG.VIOL_CT_LO_CT ct).setFld Reg.TRG.VIOL_CT_HI_CT (ct / 2 ^ 32)
    let d := d.raise .trg 5
    let d := d.stoppable.foldl (fun d x => (d.count Reg.TRG.CNT_MASK_STOP).stopCapture (ct * 64) false true x) d
    d.freeze

/-- An interval or sample of a test: the run of violations, and the violation it completes (R244, R245). -/
def Device.maskStep (d : Device) (t ct : Nat) (violates : Bool) : Device :=
  if !violates then d.setFld (Reg.TRG.MT_CONSEC_RUN t) 0
  else
    let n := min (d.fld (Reg.TRG.MT_CONSEC_RUN t) + 1) 65535
    let d := d.setFld (Reg.TRG.MT_CONSEC_RUN t) n
    if max 1 (d.fld (Reg.TRG.MT_CONSEC_CONSEC t)) ≤ n then d.maskViolation t ct else d

/-- The next interval of an occupancy test, once the front has passed its end and its hits are released (R244). -/
def Device.maskInterval (d : Device) (t : Nat) : Device :=
  let len := 2 ^ d.maskIvl t
  let k := SMap.get (fun _ => 0) d.trg.maskDone t
  let ends := k * len
  if d.evb.front < ((ends * 64 : Nat) : Int) || (d.evb.sort.any fun h => decide (h.toa < ends * 64)) then d
  else
    let n := SMap.get (fun _ => 0) d.trg.maskHits ((k - 1) * 8 + t)
    let d := { d with trg := { d.trg with
      maskDone := SMap.set (fun _ => 0) d.trg.maskDone t (k + 1), maskHits := SMap.set (fun _ => 0) d.trg.maskHits ((k - 1) * 8 + t) 0 } }
    d.maskStep t ends (decide (n < d.fld (Reg.TRG.MT_LOW_LOW t)) || decide (d.fld (Reg.TRG.MT_HIGH_HIGH t) < n))

/-- MASK_TEST_INTERVAL (R244, R245). -/
def execMaskTestInterval (test : Fin 8) (s : State) : Res :=
  run (fun d =>
    let d := d.advanceFront
    if d.pageOn .trg && d.flag (Reg.TRG.MT_CTRL_EN test.val) && !d.flag (Reg.TRG.MT_CTRL_KIND test.val) then d.maskInterval test.val else d) s

/-- The waveform tests over one sample of ADC `adc` (R244): VALUE against the signed bounds. -/
def Device.maskSample (d : Device) (adc chan : Nat) (valid : Bool) (value : Int) (ct : Nat) : Device :=
  if !d.pageOn .trg || !valid then d
  else (List.range 8).foldl (fun d t =>
    if d.flag (Reg.TRG.MT_CTRL_EN t) && d.flag (Reg.TRG.MT_CTRL_KIND t) && d.fld (Reg.TRG.MT_CTRL_ADC t) == adc && d.fld (Reg.TRG.MT_CTRL_CHAN t) == chan then
      d.maskStep t ct (decide (value < (d.word (Reg.TRG.MT_LOW t)).toInt) || decide ((d.word (Reg.TRG.MT_HIGH t)).toInt < value))
    else d) d

/-- The tests are cleared and the ring resumes at the next frame start (R246). -/
def Device.releaseMask (d : Device) : Device :=
  let d := (d.setFld Reg.TRG.MASK_STATUS_VIOLATED 0).setFld Reg.TRG.MASK_STATUS_FIRST 0
  let d := (List.range 8).foldl (fun d t => d.setFld (Reg.TRG.MT_CONSEC_RUN t) 0) d
  if d.his.frozen then { d with his := { d.his with resumeNext := true } } else d

/-- MASK_RELEASE (R246). -/
def execMaskRelease (s : State) : Res := run (fun d => if d.pageOn .trg then d.releaseMask else d) s

end Sys2Proof.Machine
end

