-- ==== Sys2Proof/Machine/Adc.lean ====
section
/-! DEFINITION. The commands of the waveform ADCs, of the monitor ADCs and of the coefficient window (spec/05), and the sense sample of an
injection sequence (R66, R178). -/

namespace Sys2Proof.Machine

/-- The number of a waveform ADC in the package (R157, R183). -/
def adcNo (die : Die) (adc : Fin 8) : Nat := 8 * die.val + adc.val

/-- A sample word reaches the concentrator: tagged, checked, and handed to the streams, the statistics engine and the waveform tests (R157, R244, R318, R335). -/
def Device.sampleArrives (d : Device) (a : Nat) (word : W32) (badParity : Bool) : Device :=
  let w : W32 := if badParity then 0x70000000#32 ||| (word &&& 0x0FFF0000#32) else word
  let d := if badParity then (d.count (Reg.WADC.WADC_CNT_LINK (a / 8))).raise (convPage a) 5 else d
  let d := d.tapSample a w
  (d.streamAll a w).maskSample a (w.toNat / 2 ^ 18 % 32) (w.getLsbD 31) (w.extractLsb' 0 16).toInt d.tim.count.toNat

/-- One sampling edge of an ADC; one that does not run delivers nothing (R155). -/
def Device.adcSample (d : Device) (a : Nat) (raw : BitVec 12) (badParity : Bool) : Device :=
  if !d.hasDie (a / 8) then d
  else if d.wadcRuns a then
    let (d, w) := (d.wadcBegin a).sampleEdge a raw
    d.sampleArrives a w badParity
  else d.updWadc a fun s => { s with running := false }

/-- ADC_SAMPLE (R155-R166): the edge lies at the present coarse tick; `parity`: the word arrives with a parity error. -/
def execAdcSample (die : Die) (adc : Fin 8) (raw : BitVec 12) (parity : Bool) (s : State) : Res :=
  run (fun d => d.adcSample (adcNo die adc) raw parity) s

/-- START of an ADC's sequence (R159, R160): ignored in MODE 0 and while a sequence runs. -/
def Device.seqStart (d : Device) (a : Nat) : Device :=
  let d := d.wadcBegin a
  let w := d.wadc a
  if w.running && w.ended && d.wadcOnce a then d.loadEntry a 0 false else d

/-- WADC_SEQ_START (R159, R160). -/
def execWadcSeqStart (die : Die) (adc : Fin 8) (s : State) : Res := run (fun d => d.seqStart (adcNo die adc)) s

/-- WADC_ENTRY_END (R159, R160). -/
def execWadcEntryEnd (die : Die) (adc : Fin 8) (s : State) : Res :=
  run (fun d =>
    let w := d.wadc (adcNo die adc)
    if w.running && !w.ended && w.dwell = 0 then d.entryEnd (adcNo die adc) else d) s

/-- A write of WADC_INJ (R161). -/
def Device.writeInj (d : Device) (die : Die) (adc : Fin 8) (data : W32) : Device :=
  let d := d.setWord (Reg.WADC.WADC_INJ die.val adc.val) (data &&& 0x00FF031F#32)
  if data.getLsbD 31 && d.enabled (.conv die) then d.requestInj (adcNo die adc) false else d

/-- WADC_INJ_REQUEST (R161): the write of WADC_INJ. -/
def execWadcInjRequest (die : Die) (adc : Fin 8) (data : W32) (s : State) : Res :=
  run (fun d => if d.pageOn (.conv die) then d.writeInj die adc data else d) s

/-- WADC_TRIGGER_START (R162): an ADC start line asserted at T starts the selected ADCs at the first edge no earlier than T + 16 CT, and a
scan of the monitor ADCs (R177). -/
def execWadcTriggerStart (line : Fin 4) (s : State) : Res :=
  run (fun d =>
    match d.trg.lines.find? fun l => l.1 = line with
    | none => d
    | some l =>
      let d := { d with trg := { d.trg with lines := d.trg.lines.erase l } }
      let d := if d.flag Reg.MON.MON_CTRL_LINE_EN && d.fld Reg.MON.MON_CTRL_LINE = line.val then d.monStart else d
      let d := d.advanceTo (BitVec.ofNat 58 (l.2 + 16))
      (List.range 32).foldl (fun d a =>
        if d.enabled (convPage a) && d.fld (Reg.WADC.WADC_TRIG_LINE (a / 8)) = line.val && (d.word (Reg.WADC.WADC_TRIG (a / 8))).getLsbD (a % 8) then
          d.requestInj a true
        else d) d) s

/-- A write of WADC_CAL with a command (R167-R172). -/
def Device.calCommand (d : Device) (die : Die) (adc : Fin 8) (data : W32) (cmd : Nat) : Device :=
  if d.pageOn (.conv die) then
    let d := d.setWord (Reg.WADC.WADC_CAL die.val adc.val) (data &&& 0x1F1F0300#32)
    if d.enabled (.conv die) then d.requestCal (adcNo die adc) cmd else d
  else d

/-- WADC_CAL_SELF (R167). -/
def execWadcCalSelf (die : Die) (adc : Fin 8) (data : W32) (s : State) : Res := run (fun d => d.calCommand die adc data 1) s
/-- WADC_CAL_SYS_ZERO (R168). -/
def execWadcCalSysZero (die : Die) (adc : Fin 8) (data : W32) (s : State) : Res := run (fun d => d.calCommand die adc data 2) s
/-- WADC_CAL_SYS_FULL (R168). -/
def execWadcCalSysFull (die : Die) (adc : Fin 8) (data : W32) (s : State) : Res := run (fun d => d.calCommand die adc data 3) s

/-- WADC_CAL_DONE (R169). -/
def execWadcCalDone (die : Die) (adc : Fin 8) (s : State) : Res := run (fun d => d.calOutcome (adcNo die adc)) s

/-! ### Monitor ADCs -/

/-- A write to PWR.MON_CTRL (R175, R177, R182): the scan timer counts from the write that turns it on. -/
def Device.writeMonCtrl (d : Device) (data : W32) : Device :=
  let was := d.flag Reg.MON.MON_CTRL_REF_EXT
  let d := if !d.flag Reg.MON.MON_CTRL_TIMER_EN && data.getLsbD 3 then { d with mon := { d.mon with timerAt := d.clock } } else d
  let d := d.setWord Reg.MON.MON_CTRL (data &&& 0x00FF070F#32)
  let now := d.flag Reg.MON.MON_CTRL_REF_EXT
  let d := if was = now then d else d.monLead (if now then 20 else 500)
  let d := if d.flag Reg.MON.MON_CTRL_DOZE then d else d.monWake
  if data.getLsbD 4 then d.monStart else d

/-- MON_CTRL_WRITE (R175, R177). -/
def execMonCtrlWrite (data : W32) (s : State) : Res := run (fun d => d.writeMonCtrl data) s

/-- MON_LEAD_TIME_END (R175). -/
def execMonLeadTimeEnd (s : State) : Res := run (fun d => d.waitUntil d.mon.leadUntil) s

/-- MON_SCAN_START (R177). -/
def execMonScanStart (s : State) : Res := run (fun d => d.monStart) s

/-- MON_SCAN_TIMER (R177): the timer expires MON_PERIOD µs after it last did. -/
def execMonScanTimer (s : State) : Res :=
  run (fun d =>
    if d.flag Reg.MON.MON_CTRL_TIMER_EN then
      let due := d.mon.timerAt + max 1 (d.fld Reg.MON.MON_PERIOD_US) * Config.usCt
      let d := d.waitUntil due
      Device.monStart { d with mon := { d.mon with timerAt := due } }
    else d) s

/-- MON_CONVERSION_DONE (R174, R176, R177). -/
def execMonConversionDone (codesA codesB : List Nat) (s : State) : Res := run (fun d => d.monConverted codesA codesB) s

/-- MON_CAL_SELF (R180). -/
def execMonCalSelf (data : W32) (s : State) : Res := run (fun d => d.monCalStart data 1) s
/-- MON_CAL_SYS_ZERO (R180). -/
def execMonCalSysZero (data : W32) (s : State) : Res := run (fun d => d.monCalStart data 2) s
/-- MON_CAL_SYS_FULL (R180). -/
def execMonCalSysFull (data : W32) (s : State) : Res := run (fun d => d.monCalStart data 3) s

/-- A write of MON_CAL (R180, R182): other commands do nothing. -/
def Device.monCalWrite (d : Device) (data : W32) : Device :=
  let cmd := data.toNat % 8
  if 1 ≤ cmd ∧ cmd ≤ 3 then d.monCalStart data cmd else d.setWord Reg.MON.MON_CAL (data &&& 0xFFFF1F10#32)

/-- The expected sense code of a die (R491). -/
def Device.senseExpected (d : Device) (die : Nat) : Int :=
  (d.fld (Reg.SEA1.INJCAL_ZERO die) : Int) + (d.fld (Reg.PIX.INJ_DAC_CODE die) * d.fld (Reg.SEA1.INJCAL_SLOPE die) + 2048) / 4096

/-- INJ_SENSE_SAMPLE (R66, R175, R178, R491): outside every lead time; 2 mV at the divider and the internal reference are 26.2144 codes. -/
def execInjSenseSample (die : Die) (codeA codeB : BitVec 16) (s : State) : Res :=
  run (fun d =>
    if d.mon.sense.contains die.val then
      let d := d.waitUntil d.mon.leadUntil
      let d := { d with mon := { d.mon with sense := d.mon.sense.filter fun n => n != die.val } }
      let i := 8 + die.val
      let (code, mis) := if d.flag Reg.MON.MON_CTRL_PAIRED then d.monPair i codeA.toNat codeB.toNat else (d.monCorrect 0 i codeA.toNat, false)
      let d := (d.monResult i code mis).setFld (Reg.PIX.INJ_SENSE_CODE die.val) code.toNat
      let want := d.senseExpected die.val
      let d := if 200 * want + 262144 < 10000 * ((code - want).natAbs : Int) then d.raise (.pix die) 3 else d
      d.monDoze
    else d) s

/-! ### The coefficient window -/

/-- INDEX after an access (R183). -/
def Device.stepCoef (d : Device) : Device :=
  if d.flag Reg.COEF.COEF_ADDR_AUTOINC then d.setFld Reg.COEF.COEF_ADDR_INDEX (d.fld Reg.COEF.COEF_ADDR_INDEX + 1) else d

/-- A write to COEF_DATA (R183, R184). -/
def Device.writeCoef (d : Device) (route : Nat) (data : W32) : Device :=
  let i := d.fld Reg.COEF.COEF_ADDR_INDEX
  let w := data.setWidth 16
  let d :=
    if !coefUsed i then d
    else if d.unsealed then d.setCoef i w
    else if w != d.coef i then d.refuseSealed route Reg.COEF.COEF_DATA data
    else d
  d.stepCoef

/-- COEF_DATA_WRITE (R183, R184). -/
def execCoefDataWrite (route : Route) (data : W32) (s : State) : Res :=
  run (fun d => if d.pageOn .coef then d.writeCoef (routeCode route) data else d) s

end Sys2Proof.Machine
end

