-- ==== Sys2Proof/Machine/Coder.lean ====
section
/-! DEFINITION. The commands of the coders (spec/11): coding on and off, contexts saved, restored and reset, loopback; the drain and the
abort of their page (R381). -/

namespace Sys2Proof.Machine

/-- A write to STREAMc_CTRL (R359, R360, R369, R383). -/
def Device.writeStreamCtrl (d : Device) (c : Nat) (data : W32) : Device :=
  let old := d.word (Reg.CDR.STREAM_CTRL c)
  let fixed : W32 := (if c = 0 || 10 ≤ c then 1 else 0) ||| (if c = 1 then 2 else 0)
  let d := d.setWord (Reg.CDR.STREAM_CTRL c) ((data &&& 0xFF01FF03#32 &&& ~~~fixed) ||| (old &&& fixed))
  if c = 0 || 10 ≤ c then d else d.setFlag (Reg.CDR.STREAM_STATUS_EN_PENDING c) (data.getLsbD 0 != d.codes c)

/-- STREAM_EN_WRITE (R360). -/
def execStreamEnWrite (ctx : Fin 16) (data : W32) (s : State) : Res :=
  run (fun d => if d.pageOn .cdr then d.writeStreamCtrl ctx.val data else d) s

/-- BLOCK_WAIT_EXPIRE (R366): the open block closes once its first word has waited its longest. -/
def execBlockWaitExpire (ctx : Fin 16) (s : State) : Res :=
  run (fun d =>
    let c := ctx.val
    if (d.coder c).block.isEmpty then d
    else
      let d := d.waitUntil ((d.coder c).since + d.blockWait c)
      if c = 0 then d.ringCloseBlock else (d.closeSoon c).loopPump) s

/-- A context is reset at its next block boundary (R364). -/
def Device.resetCoder (d : Device) (c : Nat) : Device :=
  d.updCoder c fun s => if s.block.isEmpty then s.reset else { s with askReset := true }

/-- CODER_CONTEXT_RESET (R364). -/
def execCoderContextReset (ctxs : BitVec 16) (s : State) : Res :=
  run (fun d => if d.pageOn .cdr then ((List.range 16).filter fun c => ctxs.getLsbD c).foldl (fun d c => d.resetCoder c) d else d) s

/-! ### Saving and restoring (R372, R373) -/

/-- The predictor after the words taken so far (R363, R364). -/
def CoderCtx.running (s : CoderCtx) : Predictor :=
  (s.block.foldl codeWord { pred := if s.blockReset && !s.block.isEmpty then {} else s.pred }).pred

/-- The four words of a context. -/
def CoderCtx.image (s : CoderCtx) : List W32 :=
  [BitVec.ofBool s.resetPending ++ (0 : BitVec 1) ++ BitVec.ofNat 6 s.running.prevFlags ++ BitVec.ofNat 24 s.running.prevToa,
   BitVec.ofNat 32 s.running.aToa, BitVec.ofNat 32 s.running.aTot, s.seq.setWidth 32]

/-- A word of a context is restored. -/
def CoderCtx.restore (s : CoderCtx) (k : Nat) (w : W32) : CoderCtx :=
  match k with
  | 0 => { s with resetPending := w.getLsbD 31, pred := { s.pred with prevToa := (w.extractLsb' 0 24).toNat, prevFlags := (w.extractLsb' 24 6).toNat } }
  | 1 => { s with pred := { s.pred with aToa := w.toNat } }
  | 2 => { s with pred := { s.pred with aTot := w.toNat } }
  | _ => { s with seq := w.setWidth 16 }

/-- CTX_ADDR after an access (R383). -/
def Device.stepCtxAddr (d : Device) : Device :=
  if !d.flag Reg.CDR.CTX_ADDR_AUTOINC then d
  else
    let k := d.fld Reg.CDR.CTX_ADDR_WORD
    let d := d.setFld Reg.CDR.CTX_ADDR_WORD (k + 1)
    if k = 3 then d.setFld Reg.CDR.CTX_ADDR_CTX (d.fld Reg.CDR.CTX_ADDR_CTX + 1) else d

/-- A write to CTX_DATA (R373). -/
def Device.writeCoderData (d : Device) (data : W32) : Device :=
  let c := d.fld Reg.CDR.CTX_ADDR_CTX
  let s := d.coder c
  let rest := s.block.isEmpty && s.emit.isEmpty && (10 ≤ c || d.flag (fIdle .cdr))
  let d := if rest then d.updCoder c fun s => s.restore (d.fld Reg.CDR.CTX_ADDR_WORD) data else d.raise .cdr 1
  d.stepCtxAddr

/-- CODER_CTX_DATA_WRITE (R372, R373). -/
def execCoderCtxDataWrite (data : W32) (s : State) : Res := run (fun d => if d.pageOn .cdr then d.writeCoderData data else d) s

/-- A read of CTX_DATA (R372): word 0 samples all four. -/
def Device.readCoderData (d : Device) : Device × W32 :=
  let k := d.fld Reg.CDR.CTX_ADDR_WORD
  let d := if k = 0 then { d with cdr := { d.cdr with sample := (d.coder (d.fld Reg.CDR.CTX_ADDR_CTX)).image } } else d
  (d.stepCtxAddr, d.cdr.sample.getD k 0)

/-- CODER_CTX_DATA_READ (R372). -/
def execCoderCtxDataRead (s : State) : Res :=
  run (fun d =>
    let (d, w) := if d.pageOn .cdr then d.readCoderData else (d, 0)
    { d with rdata := w }) s

/-! ### Loopback (R374) -/

/-- The write of LB_IN_HI pushes a word, or overruns the FIFO. -/
def Device.pushLoop (d : Device) (high : W32) : Device :=
  let d := d.setWord Reg.CDR.LB_IN_HI high
  if 64 ≤ d.cdr.lbIn.length then (d.setFlag Reg.CDR.LB_STATUS_OVERRUN true).raise .cdr 5
  else
    let w : W64 := high ++ d.word Reg.CDR.LB_IN_LO
    Device.loopPump { d with cdr := { d.cdr with lbIn := d.cdr.lbIn ++ [(d.loopCtx, w)] } }

/-- LOOPBACK_PUSH (R374). -/
def execLoopbackPush (data : W32) (s : State) : Res := run (fun d => if d.pageOn .cdr then d.pushLoop data else d) s

/-- A read of LB_POP. -/
def Device.popLoop (d : Device) : Device × W32 :=
  match d.cdr.lbOut with
  | [] => (d, 0)
  | w :: rest =>
    let d := (d.setWord Reg.CDR.LB_WORD_LO (w.extractLsb' 0 32)).setWord Reg.CDR.LB_WORD_HI (w.extractLsb' 32 32)
    (Device.loopPump { d with cdr := { d.cdr with lbOut := rest } }, 0x80000000#32 ||| BitVec.ofNat 32 rest.length)

/-- LOOPBACK_POP (R374). -/
def execLoopbackPop (s : State) : Res :=
  run (fun d =>
    let (d, w) := if d.pageOn .cdr then d.popLoop else (d, 0)
    { d with rdata := w }) s

/-- The open block of a loopback context closes (R366). -/
def Device.flushLoop (d : Device) (c : Nat) : Device := (d.closeSoon c).loopPump

/-- LOOPBACK_FLUSH (R366). -/
def execLoopbackFlush (s : State) : Res := run (fun d => if d.pageOn .cdr then d.flushLoop d.loopCtx else d) s

/-- A write to LB_CTRL (R366, R383): a change of CTX closes the open block, and so does FLUSH. -/
def Device.writeLoopCtrl (d : Device) (data : W32) : Device :=
  let was := d.loopCtx
  let d := d.setWord Reg.CDR.LB_CTRL (data &&& 0xF#32)
  let d := if d.loopCtx = was then d else d.flushLoop was
  if data.getLsbD 8 then d.flushLoop d.loopCtx else d

/-! ### The page (R381) -/

/-- ENABLE cleared: every open block closes and is emitted, one in the middle of a record once the record is complete (R366). -/
def Device.drainCoders (d : Device) : Device :=
  ((List.range 16).foldl (fun d c => if c = 0 then d.ringCloseBlock else d.closeSoon c) d).loopPump

/-- The coders take input again: what waits for them goes on. -/
def Device.startCoders (d : Device) : Device := (d.ringPump d.his.staging.length).loopPump

/-- The page has nothing left to emit. -/
def Device.codersDone (d : Device) : Bool := (List.range 16).all fun c => (d.coder c).block.isEmpty && !(d.coder c).emitting

/-- The records of a stream that an abort discarded count as released (R196, R381). -/
def Device.releaseAborted (d : Device) (c : Nat) (serials : List Nat) : Device :=
  if c = 1 then serials.foldl (fun d n => d.releaseLane n) d
  else if 2 ≤ c ∧ c < 10 then serials.foldl (fun d n => d.releaseRing (c - 2) n) d
  else d

/-- A context without its blocks, in its reset state (R364, R381); records of a stream with coding off stay. -/
def CoderCtx.drop (s : CoderCtx) : CoderCtx :=
  ({ s with block := [], serials := [], blockReset := false, queue := s.queue.filter (fun e => !e.coded), closeDue := false, damaged := false } : CoderCtx).reset

/-- ABORT: blocks not fully emitted are discarded and counted, and every context enters its reset state. -/
def Device.abortCoders (d : Device) : Device :=
  (List.range 16).foldl (fun d c =>
    let s := d.coder c
    let blocks := s.queue.filter (·.coded)
    let serials := blocks.flatMap (fun e => e.words.flatMap (·.2)) ++ s.serials
    let d := d.count Reg.CDR.CNT_ABORT ((blocks.map fun e => e.input.length).sum + s.block.length)
    (d.updCoder c fun s => s.drop).releaseAborted c serials) d

/-- The coders lose power: blocks are lost, and the coding in force on a stream stays until its next frame header (R360, R381). -/
def Device.cutCoders (d : Device) : Device :=
  let d := d.abortCoders
  let keep := (d.cdr.ctxs.filter fun p => p.2.coding || !p.2.queue.isEmpty).map fun p => (p.1, ({ coding := p.2.coding, queue := p.2.queue } : CoderCtx))
  { d with cdr := { ctxs := keep } }

end Sys2Proof.Machine
end

