-- ==== Sys2Proof/Machine/Flags.lean ====
section
/-! DEFINITION. The arithmetic of a DSP core and its flags (R297, R298, R311): exact results, the fit to 56 or 24 bits, Z, N, V, X, OV, SAT. -/

namespace Sys2Proof.Machine

/-- The MAC-class operations (R311). -/
inductive MacOp where
  | mul | mac | macn | macrn | mulx | macx
  deriving DecidableEq, Repr

/-- The ALU-class operations that write an accumulator or flags (R311). -/
inductive AluOp where
  | add | sub | neg | abs | clr | mova | cmp | rnd | band | bor | bxor | asl | asr | lsr | max | min | addh | subh | movh | sata
  deriving DecidableEq, Repr

/-- The result of an operation: the value written, what V becomes, and the sticky flags it sets. -/
structure AluRes where
  value : BitVec 56
  v : Bool
  ov : Bool
  sat : Bool
  deriving DecidableEq, Repr

/-- An exact result fitted to `w` bits (R298): written as it is, modulo 2^w, or clamped when S is 1. -/
def fitInt (w : Nat) (s : Bool) (x : Int) : Int × Bool :=
  let lo : Int := -(2 ^ (w - 1) : Int)
  let hi : Int := (2 ^ (w - 1) : Int) - 1
  if lo ≤ x ∧ x ≤ hi then (x, false)
  else if s then (if x < 0 then lo else hi, true)
  else (x, true)

/-- An exact result as a 56-bit result with its flags (R298). -/
def fitAcc (s : Bool) (x : Int) : AluRes :=
  let (y, ovf) := fitInt 56 s x
  { value := BitVec.ofInt 56 y, v := ovf, ov := ovf && !s, sat := ovf && s }

/-- `x + 2^23` with bits 23..0 cleared (MACRN, RND). -/
def roundTo24 (x : Int) : Int := (x + 8388608) / 16777216 * 16777216

/-- The result of a MAC-class operation on the accumulator, DX and DY (R311). -/
def macResult (op : MacOp) (s : Bool) (ac : BitVec 56) (dx dy : Int) : AluRes :=
  let dyu : Int := if dy < 0 then dy + 16777216 else dy
  fitAcc s (match op with
    | .mul => dx * dy
    | .mac => ac.toInt + dx * dy
    | .macn => ac.toInt - dx * dy
    | .macrn => roundTo24 (ac.toInt + dx * dy)
    | .mulx => dx * dyu
    | .macx => ac.toInt + dx * dyu)

/-- A 56-bit pattern as a result that always fits. -/
def bitsRes (b : BitVec 56) : AluRes := { value := b, v := false, ov := false, sat := false }

/-- The result of an ALU-class operation on accumulator A, source `x` (a signed integer) and the count (R311). -/
def aluResult (op : AluOp) (s : Bool) (a : BitVec 56) (x : Int) (cnt : Nat) : AluRes :=
  match op with
  | .add => fitAcc s (a.toInt + x)
  | .sub | .cmp => fitAcc s (a.toInt - x)
  | .neg => fitAcc s (-x)
  | .abs => fitAcc s (if x < 0 then -x else x)
  | .clr => bitsRes 0
  | .mova => fitAcc s x
  | .rnd => fitAcc s (roundTo24 a.toInt)
  | .band => bitsRes (a &&& BitVec.ofInt 56 x)
  | .bor => bitsRes (a ||| BitVec.ofInt 56 x)
  | .bxor => bitsRes (a ^^^ BitVec.ofInt 56 x)
  | .asl => fitAcc s (a.toInt * 2 ^ cnt)
  | .asr => bitsRes (BitVec.ofInt 56 (a.toInt / 2 ^ cnt))
  | .lsr => bitsRes (a >>> cnt)
  | .max => fitAcc s (if a.toInt < x then x else a.toInt)
  | .min => fitAcc s (if x < a.toInt then x else a.toInt)
  | .addh => fitAcc s (a.toInt + x * 16777216)
  | .subh => fitAcc s (a.toInt - x * 16777216)
  | .movh => fitAcc s (x * 16777216)
  | .sata =>
    let (y, ovf) := fitInt 48 true a.toInt
    { value := BitVec.ofInt 56 y, v := false, ov := false, sat := ovf }

/-- The leading bits of a 56-bit value equal to bit 55 (EXP). -/
def leadingSigns (a : BitVec 56) : Nat :=
  ((List.range 56).takeWhile fun i => a.getLsbD (55 - i) == a.getLsbD 55).length

/-- The register file with the flags of an accumulator result: Z, N, X of the value written, V, and the sticky flags it sets (R298). -/
def RegFile.accFlags (f : RegFile) (r : AluRes) : RegFile :=
  let x := r.value.toInt
  let f := ((f.setSrBit 0 (r.value == 0)).setSrBit 1 (x < 0)).setSrBit 2 r.v
  let f := f.setSrBit 3 (x < -(2 ^ 47 : Int) || (2 ^ 47 : Int) ≤ x)
  let f := if r.ov then f.setSrBit 4 true else f
  if r.sat then f.setSrBit 5 true else f

/-- The register file with the flags of a D-register result of EXTR or EXP: X is left as it is (R298). -/
def RegFile.dataFlags (f : RegFile) (y : Int) (ovf s : Bool) : RegFile :=
  let f := ((f.setSrBit 0 (y == 0)).setSrBit 1 (y < 0)).setSrBit 2 ovf
  let f := if ovf && !s then f.setSrBit 4 true else f
  if ovf && s then f.setSrBit 5 true else f

/-- Whether a branch condition holds for the flags of a file (R311). -/
def RegFile.holds (f : RegFile) : DspCond → Bool
  | .t => true
  | .eq => f.srBit 0
  | .ne => !f.srBit 0
  | .lt => f.srBit 1
  | .ge => !f.srBit 1
  | .gt => !f.srBit 1 && !f.srBit 0
  | .le => f.srBit 1 || f.srBit 0
  | .vs => f.srBit 2
  | .vc => !f.srBit 2
  | .xs => f.srBit 3
  | .xc => !f.srBit 3
  | .os => f.srBit 4
  | .ss => f.srBit 5

end Sys2Proof.Machine
end

