-- ==== Sys2Proof/Machine/DspDecode.lean ====
section
/-! DEFINITION. The instructions of a DSP core as one type, and what a 32-bit program word stands for (R309-R311). -/

namespace Sys2Proof.Machine

/-- An instruction of a DSP core (R311). -/
inductive DspOp where
  | nop
  | mov (dst src : DspReg)
  | lpush
  | lpop
  | trig (line : Fin 16) (ac : Fin 4)
  | setIe (on : Bool)
  | clrs (sat ov : Bool)
  | wait
  | trap (n : Fin 16)
  | halt
  | mac (op : MacOp) (s : Bool) (ac : Fin 4) (dx dy : Fin 8) (slot1 slot2 : DspSlot)
  | alu (op : AluOp) (s : Bool) (ac : Fin 4) (src : DspSrc) (cnt : Nat) (slot : DspSlot)
  | extr (s : Bool) (dst : Fin 8) (ac : Fin 4) (cnt : Nat) (slot : DspSlot)
  | exp (dst : Fin 8) (ac : Fin 4) (slot : DspSlot)
  | load (dst : DspReg) (ptr : Fin 8) (mode : DspMode) (disp : BitVec 16)
  | store (src : DspReg) (ptr : Fin 8) (mode : DspMode) (disp : BitVec 16)
  | ldi (dst : DspReg) (value : BitVec 24)
  | bra (cc : DspCond) (target : BitVec 14)
  | call (target : BitVec 14)
  | jmp (ptr : Fin 8)
  | rts
  | rti
  | loopImm (count : BitVec 16) (length : BitVec 9)
  | loopReg (dn : Fin 8) (length : BitVec 9)
  | illegal
  deriving DecidableEq, Repr

/-- Bits `lo .. lo + n - 1` of a program word. -/
def bitField (w : W32) (lo n : Nat) : Nat := w.toNat / 2 ^ lo % 2 ^ n

/-- The parallel move slot in 8 bits; a slot with EN = 0 is 0x00, any other such pattern illegal (R310). -/
def decodeSlot (b : Nat) : Option DspSlot :=
  if b / 128 = 0 then (if b = 0 then some .none else none)
  else if b / 64 % 2 = 0 then some (.load (Fin.ofNat 8 (b / 8)) (Fin.ofNat 8 b))
  else some (.store (Fin.ofNat 8 (b / 8)) (Fin.ofNat 8 b))

/-- The special class (R311); operand bits that the table does not list are 0 (log 12). -/
def decodeSpecial (w : W32) : DspOp :=
  let low (n : Nat) : Bool := bitField w 0 n = 0
  let op (o : DspOp) : DspOp := if low 24 then o else .illegal
  match bitField w 24 5 with
  | 0 => op .nop
  | 1 =>
    match regOfCode (bitField w 18 6), regOfCode (bitField w 12 6) with
    | some d, some s => if low 12 then .mov d s else .illegal
    | _, _ => .illegal
  | 2 => op .lpush
  | 3 => op .lpop
  | 4 => if low 18 then .trig (Fin.ofNat 16 (bitField w 20 4)) (Fin.ofNat 4 (bitField w 18 2)) else .illegal
  | 5 => op (.setIe true)
  | 6 => op (.setIe false)
  | 7 => if low 20 && bitField w 22 2 = 0 then .clrs (w.getLsbD 21) (w.getLsbD 20) else .illegal
  | 8 => op .wait
  | 9 => if low 20 then .trap (Fin.ofNat 16 (bitField w 20 4)) else .illegal
  | 10 => op .halt
  | _ => .illegal

/-- The MAC class (R311). -/
def decodeMac (w : W32) : DspOp :=
  let op : Option MacOp := match bitField w 26 3 with
    | 0 => some .mul
    | 1 => some .mac
    | 2 => some .macn
    | 3 => some .macrn
    | 4 => some .mulx
    | 5 => some .macx
    | _ => none
  match op, decodeSlot (bitField w 9 8), decodeSlot (bitField w 1 8) with
  | some o, some s1, some s2 =>
    if w.getLsbD 0 then .illegal
    else .mac o (w.getLsbD 25) (Fin.ofNat 4 (bitField w 23 2)) (Fin.ofNat 8 (bitField w 20 3)) (Fin.ofNat 8 (bitField w 17 3)) s1 s2
  | _, _, _ => .illegal

/-- The ALU class (R311). -/
def decodeAlu (w : W32) : DspOp :=
  let s := w.getLsbD 23
  let a : Fin 4 := Fin.ofNat 4 (bitField w 21 2)
  let k := w.getLsbD 20
  let d : Fin 8 := Fin.ofNat 8 (bitField w 17 3)
  let cnt := bitField w 0 6
  let src : Option DspSrc := if k then (if w.getLsbD 19 then none else some (.ac (Fin.ofNat 4 (bitField w 17 2)))) else some (.d d)
  match decodeSlot (bitField w 9 8) with
  | none => .illegal
  | some slot =>
    let two (o : AluOp) : DspOp := match src with
      | some x => .alu o s a x 0 slot
      | none => .illegal
    let one (o : AluOp) : DspOp := .alu o s a (.d 0) 0 slot
    let shift (o : AluOp) : DspOp := .alu o s a (.d 0) cnt slot
    let high (o : AluOp) : DspOp := if k then .illegal else .alu o s a (.d d) 0 slot
    if bitField w 6 3 ≠ 0 then .illegal
    else match bitField w 24 5 with
      | 0 => two .add
      | 1 => two .sub
      | 2 => two .neg
      | 3 => two .abs
      | 4 => one .clr
      | 5 => two .mova
      | 6 => two .cmp
      | 7 => one .rnd
      | 8 => two .band
      | 9 => two .bor
      | 10 => two .bxor
      | 11 => shift .asl
      | 12 => shift .asr
      | 13 => shift .lsr
      | 14 => two .max
      | 15 => two .min
      | 16 => high .addh
      | 17 => high .subh
      | 18 => high .movh
      | 19 => if k then .illegal else .extr s d a cnt slot
      | 20 => if k then .illegal else .exp d a slot
      | 21 => one .sata
      | _ => .illegal

/-- The addressing mode of a code (R299). -/
def modeOf (n : Nat) : DspMode :=
  match n with
  | 0 => .ptr
  | 1 => .postI
  | 2 => .offI
  | 3 => .preI
  | 4 => .offDisp
  | 5 => .postDisp
  | 6 => .preDisp
  | _ => .abs

/-- The displacement field is 0 in modes 0-3 (R311). -/
def dispOk (m : DspMode) (disp : BitVec 16) : Bool :=
  match m with
  | .ptr | .postI | .offI | .preI => disp == 0
  | _ => true

/-- A load or store as executed: illegal when its displacement field is not 0 in modes 0-3. -/
def loadOp (dst : DspReg) (p : Fin 8) (m : DspMode) (disp : BitVec 16) : DspOp := if dispOk m disp then .load dst p m disp else .illegal
/-- As `loadOp`, for a store. -/
def storeOp (src : DspReg) (p : Fin 8) (m : DspMode) (disp : BitVec 16) : DspOp := if dispOk m disp then .store src p m disp else .illegal

/-- An immediate as executed: only D, P, I and B registers, and 16 bits for P, I and B (R311). -/
def ldiOp (dst : DspReg) (v : BitVec 24) : DspOp :=
  if regCode dst < 8 then .ldi dst v
  else if regCode dst < 0x20 && v.extractLsb' 16 8 == 0 then .ldi dst v
  else .illegal

/-- The load/store class (R311). -/
def decodeLoadStore (w : W32) : DspOp :=
  match regOfCode (bitField w 22 6) with
  | none => .illegal
  | some r =>
    let p : Fin 8 := Fin.ofNat 8 (bitField w 19 3)
    let m := modeOf (bitField w 16 3)
    let disp := w.extractLsb' 0 16
    if w.getLsbD 28 then storeOp r p m disp else loadOp r p m disp

/-- The branch condition of a code (R311). -/
def condOf (n : Nat) : Option DspCond :=
  match n with
  | 0 => some .t
  | 1 => some .eq
  | 2 => some .ne
  | 3 => some .lt
  | 4 => some .ge
  | 5 => some .gt
  | 6 => some .le
  | 7 => some .vs
  | 8 => some .vc
  | 9 => some .xs
  | 10 => some .xc
  | 11 => some .os
  | 12 => some .ss
  | _ => none

/-- The control class (R311); bits of no field are 0 (log 12). -/
def decodeControl (w : W32) : DspOp :=
  let zero (lo n : Nat) : Bool := bitField w lo n = 0
  let target := w.extractLsb' 0 14
  match bitField w 25 4 with
  | 0 =>
    match condOf (bitField w 21 4) with
    | some cc => if zero 14 7 then .bra cc target else .illegal
    | none => .illegal
  | 1 => if zero 14 11 then .call target else .illegal
  | 2 => if zero 0 22 then .jmp (Fin.ofNat 8 (bitField w 22 3)) else .illegal
  | 3 => if zero 0 25 then .rts else .illegal
  | 4 => if zero 0 25 then .rti else .illegal
  | 5 => .loopImm (w.extractLsb' 9 16) (w.extractLsb' 0 9)
  | 6 => if zero 9 13 then .loopReg (Fin.ofNat 8 (bitField w 22 3)) (w.extractLsb' 0 9) else .illegal
  | _ => .illegal

/-- What a program word stands for (R309-R311). -/
def decodeDsp (w : W32) : DspOp :=
  match bitField w 29 3 with
  | 0 => decodeSpecial w
  | 1 => decodeMac w
  | 2 => decodeAlu w
  | 3 => decodeLoadStore w
  | 4 => match regOfCode (bitField w 24 5) with
    | some r => ldiOp r (w.extractLsb' 0 24)
    | none => .illegal
  | 5 => decodeControl w
  | _ => .illegal

/-- Control-class instructions (R311). -/
def DspOp.isControl : DspOp → Bool
  | .bra .. | .call _ | .jmp _ | .rts | .rti | .loopImm .. | .loopReg .. => true
  | _ => false

/-- Instructions that may not stand in a delay slot (R304). -/
def DspOp.notInSlot : DspOp → Bool
  | .lpush | .lpop | .trap _ | .wait | .halt => true
  | op => op.isControl

/-- Instructions that may not stand at the end of an active loop (R307). -/
def DspOp.notAtLoopEnd : DspOp → Bool
  | .lpush | .lpop => true
  | op => op.isControl

end Sys2Proof.Machine
end

