-- ==== Sys2Proof/Machine/DspOps.lean ====
section
/-! DEFINITION. A DSP core at work (spec/09): halts and faults, interrupts and exceptions, data accesses with the core-local I/O registers,
triggers, waveform records, and the execution of one instruction. -/

namespace Sys2Proof.Machine

/-- The page of a core. -/
def corePage (c : Nat) : Page := .dsp (Fin.ofNat 4 c)

/-- A core-local I/O register's place in the one register space, by its word offset from 0xC000 (R329; log 4). -/
def ioReg (c k : Nat) : Nat := Reg.DSPIO.base c + 4 * k

/-- A wait that ends in a halt is counted too (R333). -/
def Device.stopWait (d : Device) (c : Nat) : Device := if (d.core c).run == .waiting then d.endWait c else d

/-- A cycle of a running core is counted (R333). -/
def Device.countRun (d : Device) (c n : Nat) : Device := if (d.core c).run == .running then d.count (Reg.DSP.CNT_RUN c) n else d

/-- A core halts with a cause (R331, R333). -/
def Device.haltCore (d : Device) (c : Nat) (cause : BitVec 4) : Device :=
  ((d.stopWait c).updCore c fun k => { k.drained with run := .halted, cause := cause, drainAt := none }).raise (corePage c) 0

/-- A core enters FAULT with a cause (R293, R314): HALTED, and FAULT or MEM_UE. -/
def Device.faultCore (d : Device) (c : Nat) (cause : BitVec 4) (event : Nat) : Device :=
  (((d.stopWait c).updCore c fun k => { k.drained with run := .fault, cause := cause, drainAt := none }).raise (corePage c) event).raise (corePage c) 0

/-! ### Interrupts and exceptions -/

/-- Entry to a vector (R313): `exc` for an exception. -/
def DspCore.enter (k : DspCore) (n : Nat) (spc : BitVec 14) (exc : Bool) : DspCore :=
  let k := k.drained
  let sr := k.srOf k.rf
  let k := k.now fun f => (((f.put 0x30 (spc.setWidth 56)).put 0x31 (sr.setWidth 56)).setSrBit 6 false).setSrBit 7 true
  { k with exc := k.exc || exc, slot := none, pc := BitVec.ofNat 14 (4 * n), run := if k.run == .waiting then .running else k.run }

/-- An exception (R312-R314): 1 illegal instruction, 2 loop error, 3 TRAP; within a handler, FAULT. -/
def Device.exception (d : Device) (c n : Nat) (spc : BitVec 14) : Device :=
  if (d.core c).exc then d.faultCore c 4 4
  else (d.updCore c fun k => k.enter n spc true).raise (corePage c) n

/-- An interrupt is accepted (R301, R312, R313, R316): not in a delay slot, not within the distance of EI, not in a stall. -/
def Device.interrupt (d : Device) (c : Nat) : Device :=
  let k := d.core c
  let runs := k.run == .running || k.run == .waiting || k.run == .draining
  match d.wanted c with
  | n :: _ =>
    if runs && k.slot.isNone && k.fab.isNone && k.rf1.srBit 6 then
      let d := if k.run == .waiting then d.endWait c else d
      d.updCore c fun k => k.enter n k.pc false
    else d
  | [] => d

/-! ### Outputs -/

/-- A trigger of a program (R322, R323): the accumulator's low 38 bits name the time nearest the present. -/
def Device.dspTrigger (d : Device) (c line : Nat) (ac : BitVec 56) : Device :=
  if !(d.word (Reg.DSP.TRIG_MASK c)).getLsbD line || 4 ≤ (d.dspTrig.filter fun t => t.line = line).length then
    (d.count (Reg.DSP.CNT_TRIG_LOST c)).raise (corePage c) 7
  else
    let now := d.tim.count.toNat * 64
    let off := ((ac.extractLsb' 0 38) - BitVec.ofNat 38 now).toInt
    let t : DspTrigger := ⟨line, c, ((now : Int) + off).toNat⟩
    { d.count (Reg.DSP.CNT_TRIG c) with dspTrig := d.dspTrig ++ [t] }

/-- An entry for the host (R326). -/
def Device.pushRes (d : Device) (c : Nat) (v : BitVec 24) : Device :=
  if 256 ≤ (d.core c).res.length then d.raise (corePage c) 5
  else
    let tag := BitVec.ofNat 7 (d.fld (Reg.DSPIO.RES_TAG_TAG c))
    d.updCore c fun k => { k with res := k.res ++ [(tag, v)] }

/-- The mailbox's oldest entry (R326); an empty one gives 0. -/
def Device.popMbx (d : Device) (c : Nat) : Device × BitVec 24 :=
  match (d.core c).mbx with
  | v :: _ => (d.updCore c fun k => { k with mbx := k.mbx.drop 1 }, v)
  | [] => (d, 0)

/-- A request for a waveform record (R324, R325). The samples of a stream are numbered from 2,048 on, the first ever written. -/
def Device.waveRequest (d : Device) (c : Nat) : Device :=
  let k := d.core c
  if 4 ≤ k.waves.length then (d.setFlag (Reg.DSPIO.WR_STATUS_OVERRUN c) true).raise (corePage c) 13
  else
    let i := d.fld (Reg.DSPIO.WR_STREAM_STREAM c)
    let st := k.stream i
    let back := (st.wptr - BitVec.ofNat 11 (d.fld (Reg.DSPIO.WR_INDEX_SLOT c))).toNat
    let (d, ctx) := if d.pageOn .evb then d.allocCtx 3 0 else (d, none)
    d.updCore c fun k => { k with waves := k.waves ++ [⟨i, d.fld (Reg.DSP.SRC_ADC c i), st.total + 2048 - back, d.fld (Reg.DSPIO.WR_N_N c), ctx⟩] }

/-- The sample word and full count of a sample by its number. -/
def DspCore.sample (k : DspCore) (stream index : Nat) : W32 × BitVec 58 :=
  (k.smemWord (stream * 2048 + index % 2048), SMap.get (fun _ => 0) (k.stream stream).counts (index % 2048))

/-- The counts of a record's samples are 8 apart (R325). -/
def consecutive : List (BitVec 58) → Bool
  | a :: b :: rest => (b - a == 8) && consecutive (b :: rest)
  | _ => true

/-- The outcome of a request whose samples are written (R325): 0 OK, 1 STALE, 2 CONTEXT, 3 GAP, 5 LENGTH. -/
def Device.waveOutcome (d : Device) (c : Nat) (w : WaveReq) : Nat :=
  let k := d.core c
  let cur := (k.stream w.stream).total + 2048
  let keep := waveKeep (d.fmtEntry (d.fld Reg.EVB.OUT_FORMAT_ACTIVE))
  if w.n = 0 || (keep = 0xFF && decide (508 < w.n)) then 5
  else if w.ctx.isNone then 2
  else if w.first + 2048 < cur then 1
  else if consecutive ((List.range w.n).map fun j => (k.sample w.stream (w.first + j)).2) then 0
  else 3

/-- The record of a request (R207, R208, R375): coded when the entry asks for it, the width allows it and the coder page is enabled. -/
def Device.waveRecord (d : Device) (c : Nat) (w : WaveReq) : Device × Rec :=
  let k := d.core c
  let fmt := d.fmtEntry (d.fld Reg.EVB.OUT_FORMAT_ACTIVE)
  let keep := waveKeep fmt
  let width := sampleWidth keep
  let samples := (List.range w.n).map fun j => k.sample w.stream (w.first + j)
  let words := samples.map (·.1)
  let want := fmt.getLsbD 16
  let coded := want && decide (8 ≤ width) && d.enabled .cdr
  let (payload, lossy) := if coded then frPayload width words else (samplePayload keep words, 0)
  let payload := payload ++ List.replicate ((w.n * width + 63) / 64 - payload.length) 0
  let d := if coded then (d.count Reg.CDR.CNT_FR_RECORDS).count Reg.CDR.CNT_FR_LOSSY lossy
    else if want then
      let d := d.count Reg.CDR.CNT_FR_BYPASS
      if width < 8 then d.raise .cdr 4 else d
    else d
  let chan := (words.headD 0).toNat / 2 ^ 18 % 32
  let low : BitVec 48 := BitVec.ofNat 48 (w.adc * 2 ^ 43 + chan * 2 ^ 38 + w.n * 2 ^ 29 + keep * 2 ^ 21 + width * 2 ^ 15 + coded.toNat * 2 ^ 14)
  let start := (samples.headD (0, 0)).2
  (d, { kind := .waveform, words := recHeader 4 (1 + payload.length) low :: start.setWidth 64 :: payload, ctx := w.ctx, last := true })

/-- A request leaves its queue with an outcome (R325). -/
def Device.waveDone (d : Device) (c outcome : Nat) : Device :=
  let d := (d.updCore c fun k => { k with waves := k.waves.drop 1 }).setFld (Reg.DSPIO.WR_STATUS_LAST c) outcome
  if outcome = 0 then d.count (Reg.DSP.CNT_WREC c) else (d.count (Reg.DSP.CNT_WREC_FAIL c)).raise (corePage c) 8

/-- The oldest request completes once its samples are written (R324, R325). In a drain the streams stop, and one whose samples will not be written
completes with GAP (R330; log 122). -/
def Device.waveNext (d : Device) (c : Nat) : Device :=
  match (d.core c).waves with
  | [] => d
  | w :: _ =>
    let missing := decide (((d.core c).stream w.stream).total + 2048 < w.first + w.n)
    if missing && d.enabled (corePage c) then d
    else
      let outcome := if missing then 3 else d.waveOutcome c w
      let release (d : Device) : Device := match w.ctx with
        | some i => d.freeCtxAt i
        | none => d
      if outcome = 0 && d.pageOn .evb then
        let (d, r) := d.waveRecord c w
        let d := match w.ctx with
          | some i => d.closeCtx i
          | none => d
        (d.emit r).waveDone c 0
      else (release d).waveDone c (if outcome = 0 then 2 else outcome)

/-- Every queued request of a core completes as ABORTED (R325, R330). -/
def Device.waveAbort (d : Device) (c : Nat) : Nat → Device
  | 0 => d
  | n + 1 =>
    match (d.core c).waves with
    | [] => d
    | w :: _ =>
      let d := match w.ctx with
        | some i => d.freeCtxAt i
        | none => d
      Device.waveAbort (d.waveDone c 4) c n

/-! ### Data accesses -/

/-- The time of the newest sample of a stream is latched (R320). -/
def Device.latchTime (d : Device) (c i : Nat) : Device :=
  let t := ((d.core c).stream i).time
  (d.setWord (Reg.DSPIO.ST_TIME_LO c i) ((t.extractLsb' 0 16).setWidth 32)).setWord (Reg.DSPIO.ST_TIME_HI c i) ((t.extractLsb' 16 16).setWidth 32)

/-- A stream receives samples now (R318, R329). -/
def Device.streamRuns (d : Device) (c i : Nat) : Bool :=
  let a := d.fld (Reg.DSP.SRC_ADC c i)
  d.enabled (corePage c) && d.flag (Reg.DSP.SRC_EN c i) && d.hasDie (a / 8) && d.wadcRuns a

/-- A load of a core-local I/O register by its word offset (R329). -/
def Device.ioLoad (d : Device) (c k : Nat) : Device × BitVec 24 :=
  let plain := ((d.word (ioReg c k)).extractLsb' 0 24 : BitVec 24)
  let core := d.core c
  if 0x40 ≤ k ∧ k < 0x80 then
    let i := (k - 0x40) / 8
    let st := core.stream i
    match k % 8 with
    | 0 => (d.latchTime c i, st.wptr.setWidth 24)
    | 3 => (d, ((plain &&& 2#24) ||| BitVec.ofNat 24 (d.streamRuns c i).toNat))
    | 5 => (d.latchTime c i, BitVec.ofNat 24 (0x4000 + 0x800 * i + st.wptr.toNat))
    | _ => (d, plain)
  else match k with
    | 0x01 => (d, BitVec.ofNat 24 (d.ipend c))
    | 0x06 =>
      let n := d.fld (Reg.DSPIO.TMR_PERIOD_CYCLES c)
      (d, if n = 0 then 0 else BitVec.ofNat 24 (n - (d.clock - core.tmrStart) / 2 % n))
    | 0x08 | 0x14 | 0x23 => (d, 0)
    | 0x0A => d.popMbx c
    | 0x0B => (d, BitVec.ofNat 24 core.mbx.length)
    | 0x0C => (d, BitVec.ofNat 24 core.res.length)
    | 0x24 => (d, plain ||| BitVec.ofNat 24 core.waves.length)
    | 0x30 => (d, BitVec.ofNat 24 c)
    | 0x31 =>
      let n := d.tim.count
      ((d.setWord (Reg.DSPIO.NOW1 c) ((n.extractLsb' 24 24).setWidth 32)).setWord (Reg.DSPIO.NOW2 c) ((n.extractLsb' 48 10).setWidth 32),
        n.extractLsb' 0 24)
    | _ => (d, plain)

/-- The bits that a plain I/O register keeps (R329); none for the others. -/
def ioMask (k : Nat) : W32 :=
  match k with
  | 0x00 => 0xF0
  | 0x03 => 0xFF
  | 0x09 => 0x7F
  | 0x10 | 0x12 | 0x13 => 0xFFFF
  | 0x11 => 0x1FF
  | 0x20 => 7
  | 0x21 => 0x7FF
  | 0x22 => 0x1FF
  | _ => 0

/-- A fabric access starts and stalls the core (R327, R328). -/
def Device.fabStart (d : Device) (c : Nat) (write : Bool) : Device :=
  if (d.core c).fab.isSome then d
  else
    let now := d.clock
    (d.setWord (Reg.DSPIO.FAB_STATUS c) 0).updCore c fun k => { k with fab := some write, fabSince := now }

/-- A store to a core-local I/O register by its word offset (R329). -/
def Device.ioStore (d : Device) (c k : Nat) (v : BitVec 24) : Device :=
  let w : W32 := v.setWidth 32
  let clear (d : Device) (a : Nat) (m : W32) : Device := d.setWord a (d.word a &&& ~~~(w &&& m))
  if 0x40 ≤ k ∧ k < 0x80 then
    let i := (k - 0x40) / 8
    match k % 8 with
    | 3 => clear d (Reg.DSPIO.ST_STATUS c i) 2
    | 4 =>
      let d := d.setWord (Reg.DSPIO.ST_MARK c i) (w &&& 0xFFF#32)
      d.updCore c fun q => { q with streams := SMap.upd (fun _ => {}) q.streams i fun st => { st with sinceMark := 0 } }
    | _ => d
  else match k with
    | 0x01 => clear d (Reg.DSPIO.IPEND c) 0xA0
    | 0x02 => clear d (Reg.DSPIO.STPEND c) 0xFF
    | 0x05 =>
      let d := d.setWord (Reg.DSPIO.TMR_PERIOD c) w
      let now := d.clock
      d.updCore c fun q => { q with tmrStart := now }
    | 0x08 => d.pushRes c v
    | 0x14 => if v.toNat % 4 = 1 then d.fabStart c false else if v.toNat % 4 = 2 then d.fabStart c true else d
    | 0x23 => d.waveRequest c
    | 0x24 => clear d (Reg.DSPIO.WR_STATUS c) 0x100
    | _ => if ioMask k = 0 then d else d.setWord (ioReg c k) (w &&& ioMask k)

/-- A data load by a core (R288, R289). -/
def Device.dspLoad (d : Device) (c : Nat) (a : BitVec 16) : Device × BitVec 24 :=
  let n := a.toNat
  let k := d.core c
  if n < 0x4000 then (d, k.dmemWord n)
  else if n < 0x8000 then (d, valueView (k.smemWord (n - 0x4000)))
  else if n < 0xC000 then (d, flagView (k.smemWord (n - 0x8000)))
  else if n < 0xC100 then d.ioLoad c (n - 0xC000)
  else (d, 0)

/-- A data store by a core (R288). -/
def Device.dspStore (d : Device) (c : Nat) (a : BitVec 16) (v : BitVec 24) : Device :=
  let n := a.toNat
  if n < 0x4000 then d.updCore c fun k => k.setDmem n v
  else if 0xC000 ≤ n ∧ n < 0xC100 then d.ioStore c (n - 0xC000) v
  else d

/-- A load from this address meets an uncorrectable error (R293). -/
def DspCore.badAt (k : DspCore) (a : BitVec 16) : Bool :=
  let n := a.toNat
  if n < 0x4000 then k.bad.contains (dmemAt n)
  else if n < 0x8000 then k.bad.contains (smemAt (n - 0x4000))
  else if n < 0xC000 then k.bad.contains (smemAt (n - 0x8000))
  else false

/-! ### One instruction -/

/-- The data loads of an instruction. -/
def DspCore.loads (k : DspCore) (op : DspOp) : List (BitVec 16) :=
  let slot (s : DspSlot) : List (BitVec 16) := match s with
    | .load _ p => [k.ptr p]
    | _ => []
  match op with
  | .mac _ _ _ _ _ s1 s2 => slot s1 ++ slot s2
  | .alu _ _ _ _ _ s | .extr _ _ _ _ s | .exp _ _ s => slot s
  | .load _ p m disp => [(k.address p m disp).1]
  | _ => []

/-- The address a parallel slot accesses. -/
def DspCore.slotAddr (k : DspCore) (s : DspSlot) : Option (BitVec 16) :=
  match s with
  | .none => none
  | .load _ p | .store _ p => some (k.ptr p)

/-- A parallel slot moves (R299, R302, R310): `k` is the core before the instruction. -/
def Device.doSlot (d : Device) (c : Nat) (k : DspCore) (s : DspSlot) : Device :=
  match s with
  | .none => d
  | .load r p =>
    let (d, v) := d.dspLoad c (k.ptr p)
    d.updCore c fun q => (q.late fun f => f.write (.d r) v).stepTo p (some (stepPtr (k.ptr p) (k.inc p) (k.buf p)))
  | .store r p =>
    let d := d.dspStore c (k.ptr p) (k.source (.d r))
    d.updCore c fun q => q.stepTo p (some (stepPtr (k.ptr p) (k.inc p) (k.buf p)))

/-- The innermost level as the loop decision sees it (R301). -/
def DspCore.level (k : DspCore) : LoopLevel :=
  { lc := (k.rf2.get 0x2D).setWidth 16, lb := (k.rf2.get 0x2E).setWidth 14, le := (k.rf2.get 0x2F).setWidth 14 }

/-- LC, LB and LE take a level at once. -/
def DspCore.setLevel (k : DspCore) (l : LoopLevel) : DspCore :=
  k.now fun f => ((f.put 0x2D (l.lc.setWidth 56)).put 0x2E (l.lb.setWidth 56)).put 0x2F (l.le.setWidth 56)

/-- A level is dropped: the next one is popped, or LD becomes 0 and LHOLD sets (R306, R308). -/
def DspCore.popLevel (k : DspCore) : DspCore :=
  if 2 ≤ k.ld then
    match k.loops with
    | l :: rest => { k.setLevel l with ld := k.ld - 1, loops := rest }
    | [] => { k with ld := k.ld - 1 }
  else if k.ld = 1 then { (k.now fun f => f.setSrBit 7 true) with ld := 0 }
  else k

/-- A level is pushed beneath the innermost one (R305, R308). -/
def DspCore.pushLevel (k : DspCore) (l : LoopLevel) : DspCore :=
  { k with ld := k.ld + 1, loops := if 1 ≤ k.ld then l :: k.loops else k.loops }

/-- Loop detection is active (R306). -/
def DspCore.detecting (k : DspCore) : Bool := decide (1 ≤ k.ld) && !k.rf2.srBit 7

/-- The instruction at the PC stands at the end of an active loop. -/
def DspCore.atLoopEnd (k : DspCore) : Bool := k.detecting && k.pc == k.level.le

/-- The loop decision on the innermost level `l` (R306): where execution goes on. A count of 0 falls through with nothing changed (log 21). -/
def DspCore.decide (k : DspCore) (l : LoopLevel) : DspCore × Option (BitVec 14) :=
  if 1 < l.lc.toNat then (k.now fun f => f.put 0x2D ((l.lc - 1).setWidth 56), some l.lb)
  else if l.lc = 1 then (k.popLevel, none)
  else (k, none)

/-- LOOP (R305) over the level `l` that it covers; the loop-error case is taken before. -/
def DspCore.loop (k : DspCore) (l : LoopLevel) (count : BitVec 16) (length : BitVec 9) : DspCore :=
  if count = 0 then k
  else
    let k' := (k.pushLevel l).setLevel ⟨count, k.pc + 1, k.pc + length.setWidth 14⟩
    k'.now fun f => f.setSrBit 7 false

/-- An accumulator takes a result with its flags in stage E2. -/
def DspCore.putAcc (k : DspCore) (ac : Fin 4) (r : AluRes) (write : Bool) : DspCore :=
  k.late fun f => (if write then f.put (0x20 + ac.val) r.value else f).accFlags r

/-- An ALU source as a signed integer (R297). -/
def DspCore.aluSource (k : DspCore) (s : DspSrc) : Int :=
  match s with
  | .d n => k.data n
  | .ac n => (k.acc n).toInt

/-- A count of bank stalls for two accesses to one bank (R290). -/
def Device.bankStall (d : Device) (c : Nat) (k : DspCore) (s1 s2 : DspSlot) : Device :=
  match k.slotAddr s1, k.slotAddr s2 with
  | some a, some b =>
    if (bankOf a).isSome && bankOf a == bankOf b then (d.count (Reg.DSP.CNT_BANK_STALL c)).countRun c 1 else d
  | _, _ => d

/-- A trigger of an instruction, as the accumulator reaches it (R301, R322). -/
def DspCore.trigAcc (k : DspCore) (ac : Fin 4) : BitVec 56 := k.rf1.get (0x20 + ac.val)

/-- The control transfers: the delay slot that follows an instruction (R304, R315); `k` is the core before it. -/
def DspCore.transfer (k : DspCore) (op : DspOp) : Option DelaySlot :=
  match op with
  | .bra cc target => some ⟨k.pc, if k.rf2.holds cc then some target else none, none⟩
  | .call target => some ⟨k.pc, some target, none⟩
  | .jmp p => some ⟨k.pc, some ((k.ptr p).extractLsb' 0 14), none⟩
  | .rts => some ⟨k.pc, some ((k.rf2.get 0x32).setWidth 14), none⟩
  | .rti => some ⟨k.pc, some ((k.rf2.get 0x30).setWidth 14), some ((k.rf2.get 0x31).setWidth 12)⟩
  | _ => none

/-- What an instruction does beside moving the PC (R311); `k` is the core before it, with the views its operands see. -/
def Device.dspEffect (d : Device) (c : Nat) (k : DspCore) (op : DspOp) : Device :=
  let upd (g : DspCore → DspCore) : Device := d.updCore c g
  match op with
  | .nop | .trap _ | .illegal | .bra .. | .jmp _ | .rts | .rti => d
  | .mov dst src =>
    let v := k.source src
    upd fun q => q.late fun f => f.write dst v
  | .lpush =>
    let old : LoopLevel := ⟨(k.rf.get 0x2D).setWidth 16, (k.rf.get 0x2E).setWidth 14, (k.rf.get 0x2F).setWidth 14⟩
    upd fun q => { q.pushLevel k.level with loopOld := some (old, k.srOf k.rf) }
  | .lpop =>
    let old : LoopLevel := ⟨(k.rf.get 0x2D).setWidth 16, (k.rf.get 0x2E).setWidth 14, (k.rf.get 0x2F).setWidth 14⟩
    upd fun q => { q.popLevel with loopOld := some (old, k.srOf k.rf) }
  | .trig line ac => d.dspTrigger c line.val (k.trigAcc ac)
  | .setIe on => upd fun q => q.late fun f => f.setSrBit 6 on
  | .clrs sat ov => upd fun q => q.late fun f =>
      let f := if sat then f.setSrBit 5 false else f
      if ov then f.setSrBit 4 false else f
  | .wait =>
    if k.run == .draining then d.haltCore c 6
    else if (d.wanted c).isEmpty then
      let now := d.clock
      upd fun q => { q with run := .waiting, waitSince := now }
    else d
  | .halt => d.haltCore c (if k.run == .draining then 6 else 1)
  | .mac o s ac dx dy s1 s2 =>
    let r := macResult o s (k.acc ac) (k.data dx) (k.data dy)
    let d := upd fun q => q.putAcc ac r true
    ((d.bankStall c k s1 s2).doSlot c k s1).doSlot c k s2
  | .alu o s ac src cnt slot =>
    let r := aluResult o s (k.acc ac) (k.aluSource src) cnt
    let d := upd fun q => q.putAcc ac r (o != .cmp)
    d.doSlot c k slot
  | .extr s dst ac cnt slot =>
    let (y, ovf) := fitInt 24 s ((k.acc ac).toInt / 2 ^ cnt)
    let v := BitVec.ofInt 24 y
    let d := upd fun q => q.late fun f => (f.write (.d dst) v).dataFlags v.toInt ovf s
    d.doSlot c k slot
  | .exp dst ac slot =>
    let y : Int := (leadingSigns (k.acc ac) : Int) - 9
    let d := upd fun q => q.late fun f => (f.write (.d dst) (BitVec.ofInt 24 y)).dataFlags y false false
    d.doSlot c k slot
  | .load dst p m disp =>
    let (a, step) := k.address p m disp
    let (d, v) := d.dspLoad c a
    d.updCore c fun q => (q.stepTo p step).late fun f => f.write dst v
  | .store src p m disp =>
    let (a, step) := k.address p m disp
    let d := d.dspStore c a (k.source src)
    d.updCore c fun q => q.stepTo p step
  | .ldi dst v => upd fun q => q.late fun f => f.write dst v
  | .call _ => upd fun q => q.now fun f => f.put 0x32 ((k.pc + 2).setWidth 56)
  | .loopImm count length => upd fun q => q.loop k.level count length
  | .loopReg dn length => upd fun q => q.loop k.level (BitVec.ofInt 16 (k.data dn)) length

/-- The count of a LOOP. -/
def DspCore.loopCount (k : DspCore) (op : DspOp) : Option (BitVec 16 × BitVec 9) :=
  match op with
  | .loopImm count length => some (count, length)
  | .loopReg dn length => some (BitVec.ofInt 16 (k.data dn), length)
  | _ => none

/-- The instruction is illegal where it stands (R304, R307, R309). -/
def DspCore.illegalHere (k : DspCore) (op : DspOp) : Bool :=
  op == .illegal || (k.slot.isSome && op.notInSlot) || (k.atLoopEnd && (op.notAtLoopEnd || k.slot.isSome))

/-- The instruction takes the loop-error exception (R305, R308). -/
def DspCore.loopError (k : DspCore) (op : DspOp) : Bool :=
  k.ld = 4 && (op == .lpush || ((k.loopCount op).any fun x => x.1 != 0))

/-- An instruction at the PC executes (R301-R308): the views move on, the loop decision is made, the effect follows, and the PC moves. -/
def Device.dspPerform (d : Device) (c : Nat) (op : DspOp) : Device :=
  let k := d.core c
  let moved : DspCore := { k with rf2 := k.rf1, rf1 := k.rf, loopOld := none, slot := none }
  let (moved, back) := if k.atLoopEnd then moved.decide k.level else (moved, none)
  let next : BitVec 14 := match k.slot, back, k.loopCount op with
    | some s, _, _ => s.target.getD (k.pc + 1)
    | none, some lb, _ => lb
    | none, none, some (count, length) => if count = 0 then k.pc + length.setWidth 14 + 1 else k.pc + 1
    | none, none, none => k.pc + 1
  let d := (d.countRun c 1).updCore c fun _ => moved
  let d := d.dspEffect c k op
  d.updCore c fun q =>
    let q := match k.slot.bind (·.restore) with
      | some ssr =>
        let keep (f : RegFile) : RegFile := f.put 0x2C ((ssr.extractLsb' 0 8).setWidth 56)
        { q.now keep with exc := ssr.getLsbD 11 }
      | none => q
    { q with pc := next, slot := k.transfer op }

/-- A core that runs meets an instruction at its PC (R293, R312): a damaged word or load faults, an illegal one takes its exception. -/
def Device.dspMeet (d : Device) (c : Nat) (op : DspOp) : Device :=
  let k := d.core c
  if k.bad.contains (pmemAt k.pc.toNat) then d.faultCore c 5 12
  else if k.illegalHere op then d.exception c 1 ((k.slot.map (·.branchPc)).getD k.pc)
  else if k.loopError op then d.exception c 2 k.pc
  else if (k.loads op).any k.badAt then d.faultCore c 5 12
  else match op with
    | .trap n => if k.exc then d.exception c 3 (k.pc + 1) else (d.setFld (Reg.DSPIO.TRAPNO_N c) n.val).exception c 3 (k.pc + 1)
    | op => d.dspPerform c op

/-- The core is about to execute: powered, running or draining, no fabric access in progress (R286, R327). -/
def Device.executes (d : Device) (c : Nat) : Bool :=
  let k := d.core c
  d.pageOn (corePage c) && (k.run == .running || k.run == .draining) && k.fab.isNone

/-- The breakpoint stands at the PC (R331). -/
def Device.breaks (d : Device) (c : Nat) : Bool :=
  d.flag (Reg.DSP.CTRL_BRK_EN c) && d.fld (Reg.DSP.BRK_ADDR c) = (d.core c).pc.toNat

/-- A core executes an instruction, or halts before it at the breakpoint; a core that does not run executes nothing. -/
def Device.dspStep (d : Device) (c : Nat) (op : DspOp) : Device :=
  let d := d.wake c
  if !d.executes c then d else if d.breaks c then d.haltCore c 2 else d.dspMeet c op

end Sys2Proof.Machine
end

