-- ==== Sys2Proof/Machine/Dsp.lean ====
section
/-! DEFINITION. The commands of the DSP cores (spec/09): each instruction of R311 executed by a core at its PC, what the host does to a core,
and what happens to it. -/

namespace Sys2Proof.Machine

/-- A core executes an instruction (R301-R311). -/
def execOp (core : Core) (op : DspOp) (s : State) : Res := run (fun d => d.dspStep core.val op) s

/-! ### The special class -/

/-- NOP (R311). -/
def execDspNop (core : Core) (s : State) : Res := execOp core .nop s
/-- MOV (R295, R311). -/
def execDspMov (core : Core) (dst src : DspReg) (s : State) : Res := execOp core (.mov dst src) s
/-- LPUSH (R308). -/
def execDspLpush (core : Core) (s : State) : Res := execOp core .lpush s
/-- LPOP (R308). -/
def execDspLpop (core : Core) (s : State) : Res := execOp core .lpop s
/-- TRIG (R322, R323). -/
def execDspTrig (core : Core) (line : Fin 16) (ac : Fin 4) (s : State) : Res := execOp core (.trig line ac) s
/-- EI (R311). -/
def execDspEi (core : Core) (s : State) : Res := execOp core (.setIe true) s
/-- DI (R311). -/
def execDspDi (core : Core) (s : State) : Res := execOp core (.setIe false) s
/-- CLRS (R311). -/
def execDspClrs (core : Core) (sat ov : Bool) (s : State) : Res := execOp core (.clrs sat ov) s
/-- WAIT (R316). -/
def execDspWait (core : Core) (s : State) : Res := execOp core .wait s
/-- TRAP (R312, R313). -/
def execDspTrap (core : Core) (n : Fin 16) (s : State) : Res := execOp core (.trap n) s
/-- HALT (R311, R331). -/
def execDspHalt (core : Core) (s : State) : Res := execOp core .halt s

/-! ### The MAC class -/

/-- MUL (R298, R311). -/
def execDspMul (core : Core) (sat : Bool) (ac : Fin 4) (dx dy : Fin 8) (slot1 slot2 : DspSlot) (s : State) : Res := execOp core (.mac .mul sat ac dx dy slot1 slot2) s
/-- MAC (R298, R311). -/
def execDspMac (core : Core) (sat : Bool) (ac : Fin 4) (dx dy : Fin 8) (slot1 slot2 : DspSlot) (s : State) : Res := execOp core (.mac .mac sat ac dx dy slot1 slot2) s
/-- MACN (R298, R311). -/
def execDspMacn (core : Core) (sat : Bool) (ac : Fin 4) (dx dy : Fin 8) (slot1 slot2 : DspSlot) (s : State) : Res := execOp core (.mac .macn sat ac dx dy slot1 slot2) s
/-- MACRN (R298, R311). -/
def execDspMacrn (core : Core) (sat : Bool) (ac : Fin 4) (dx dy : Fin 8) (slot1 slot2 : DspSlot) (s : State) : Res := execOp core (.mac .macrn sat ac dx dy slot1 slot2) s
/-- MULX (R298, R311). -/
def execDspMulx (core : Core) (sat : Bool) (ac : Fin 4) (dx dy : Fin 8) (slot1 slot2 : DspSlot) (s : State) : Res := execOp core (.mac .mulx sat ac dx dy slot1 slot2) s
/-- MACX (R298, R311). -/
def execDspMacx (core : Core) (sat : Bool) (ac : Fin 4) (dx dy : Fin 8) (slot1 slot2 : DspSlot) (s : State) : Res := execOp core (.mac .macx sat ac dx dy slot1 slot2) s

/-! ### The ALU class -/

/-- ADD (R298, R311). -/
def execDspAdd (core : Core) (sat : Bool) (ac : Fin 4) (src : DspSrc) (slot : DspSlot) (s : State) : Res := execOp core (.alu .add sat ac src 0 slot) s
/-- SUB (R298, R311). -/
def execDspSub (core : Core) (sat : Bool) (ac : Fin 4) (src : DspSrc) (slot : DspSlot) (s : State) : Res := execOp core (.alu .sub sat ac src 0 slot) s
/-- NEG (R298, R311). -/
def execDspNeg (core : Core) (sat : Bool) (ac : Fin 4) (src : DspSrc) (slot : DspSlot) (s : State) : Res := execOp core (.alu .neg sat ac src 0 slot) s
/-- ABS (R298, R311). -/
def execDspAbs (core : Core) (sat : Bool) (ac : Fin 4) (src : DspSrc) (slot : DspSlot) (s : State) : Res := execOp core (.alu .abs sat ac src 0 slot) s
/-- MOVA (R298, R311). -/
def execDspMova (core : Core) (sat : Bool) (ac : Fin 4) (src : DspSrc) (slot : DspSlot) (s : State) : Res := execOp core (.alu .mova sat ac src 0 slot) s
/-- CMP (R298, R311). -/
def execDspCmp (core : Core) (sat : Bool) (ac : Fin 4) (src : DspSrc) (slot : DspSlot) (s : State) : Res := execOp core (.alu .cmp sat ac src 0 slot) s
/-- AND (R298, R311). -/
def execDspAnd (core : Core) (sat : Bool) (ac : Fin 4) (src : DspSrc) (slot : DspSlot) (s : State) : Res := execOp core (.alu .band sat ac src 0 slot) s
/-- OR (R298, R311). -/
def execDspOr (core : Core) (sat : Bool) (ac : Fin 4) (src : DspSrc) (slot : DspSlot) (s : State) : Res := execOp core (.alu .bor sat ac src 0 slot) s
/-- XOR (R298, R311). -/
def execDspXor (core : Core) (sat : Bool) (ac : Fin 4) (src : DspSrc) (slot : DspSlot) (s : State) : Res := execOp core (.alu .bxor sat ac src 0 slot) s
/-- MAX (R298, R311). -/
def execDspMax (core : Core) (sat : Bool) (ac : Fin 4) (src : DspSrc) (slot : DspSlot) (s : State) : Res := execOp core (.alu .max sat ac src 0 slot) s
/-- MIN (R298, R311). -/
def execDspMin (core : Core) (sat : Bool) (ac : Fin 4) (src : DspSrc) (slot : DspSlot) (s : State) : Res := execOp core (.alu .min sat ac src 0 slot) s
/-- CLR (R298, R311). -/
def execDspClr (core : Core) (sat : Bool) (ac : Fin 4) (slot : DspSlot) (s : State) : Res := execOp core (.alu .clr sat ac (.d 0) 0 slot) s
/-- RND (R298, R311). -/
def execDspRnd (core : Core) (sat : Bool) (ac : Fin 4) (slot : DspSlot) (s : State) : Res := execOp core (.alu .rnd sat ac (.d 0) 0 slot) s
/-- SATA (R298, R311). -/
def execDspSata (core : Core) (sat : Bool) (ac : Fin 4) (slot : DspSlot) (s : State) : Res := execOp core (.alu .sata sat ac (.d 0) 0 slot) s
/-- ASL (R298, R311). -/
def execDspAsl (core : Core) (sat : Bool) (ac : Fin 4) (count : BitVec 6) (slot : DspSlot) (s : State) : Res := execOp core (.alu .asl sat ac (.d 0) count.toNat slot) s
/-- ASR (R298, R311). -/
def execDspAsr (core : Core) (sat : Bool) (ac : Fin 4) (count : BitVec 6) (slot : DspSlot) (s : State) : Res := execOp core (.alu .asr sat ac (.d 0) count.toNat slot) s
/-- LSR (R298, R311). -/
def execDspLsr (core : Core) (sat : Bool) (ac : Fin 4) (count : BitVec 6) (slot : DspSlot) (s : State) : Res := execOp core (.alu .lsr sat ac (.d 0) count.toNat slot) s
/-- ADDH (R297, R311). -/
def execDspAddh (core : Core) (sat : Bool) (ac : Fin 4) (dn : Fin 8) (slot : DspSlot) (s : State) : Res := execOp core (.alu .addh sat ac (.d dn) 0 slot) s
/-- SUBH (R297, R311). -/
def execDspSubh (core : Core) (sat : Bool) (ac : Fin 4) (dn : Fin 8) (slot : DspSlot) (s : State) : Res := execOp core (.alu .subh sat ac (.d dn) 0 slot) s
/-- MOVH (R297, R311). -/
def execDspMovh (core : Core) (sat : Bool) (ac : Fin 4) (dn : Fin 8) (slot : DspSlot) (s : State) : Res := execOp core (.alu .movh sat ac (.d dn) 0 slot) s
/-- EXTR (R298, R311). -/
def execDspExtr (core : Core) (sat : Bool) (dst : Fin 8) (ac : Fin 4) (count : BitVec 6) (slot : DspSlot) (s : State) : Res := execOp core (.extr sat dst ac count.toNat slot) s
/-- EXP (R311). -/
def execDspExp (core : Core) (dst : Fin 8) (ac : Fin 4) (slot : DspSlot) (s : State) : Res := execOp core (.exp dst ac slot) s

/-! ### Loads, stores, immediates and control -/

/-- A load (R299, R311); one whose displacement field is no 0 in modes 0-3 is illegal. -/
def execDspLoad (core : Core) (dst : DspReg) (ptr : Fin 8) (mode : DspMode) (disp : BitVec 16) (s : State) : Res := execOp core (loadOp dst ptr mode disp) s
/-- A store (R299, R311). -/
def execDspStore (core : Core) (src : DspReg) (ptr : Fin 8) (mode : DspMode) (disp : BitVec 16) (s : State) : Res := execOp core (storeOp src ptr mode disp) s
/-- LDI (R311); a register or value that the format does not hold is illegal. -/
def execDspLdi (core : Core) (dst : DspReg) (value : BitVec 24) (s : State) : Res := execOp core (ldiOp dst value) s
/-- BRA (R304, R311). -/
def execDspBra (core : Core) (cc : DspCond) (target : BitVec 14) (s : State) : Res := execOp core (.bra cc target) s
/-- CALL (R304, R311). -/
def execDspCall (core : Core) (target : BitVec 14) (s : State) : Res := execOp core (.call target) s
/-- JMP (R304, R311). -/
def execDspJmp (core : Core) (ptr : Fin 8) (s : State) : Res := execOp core (.jmp ptr) s
/-- RTS (R304, R311). -/
def execDspRts (core : Core) (s : State) : Res := execOp core .rts s
/-- RTI (R315). -/
def execDspRti (core : Core) (s : State) : Res := execOp core .rti s
/-- LOOP #count (R305). -/
def execDspLoopImmediate (core : Core) (count : BitVec 16) (length : BitVec 9) (s : State) : Res := execOp core (.loopImm count length) s
/-- LOOP Dn (R305). -/
def execDspLoopRegister (core : Core) (count : Fin 8) (length : BitVec 9) (s : State) : Res := execOp core (.loopReg count length) s
/-- ILLEGAL_INSTRUCTION (R312-R314). -/
def execIllegalInstruction (core : Core) (s : State) : Res := execOp core .illegal s

/-! ### What happens to a core -/

/-- INTERRUPT_ENTRY (R312, R313, R316). -/
def execInterruptEntry (core : Core) (s : State) : Res := run (fun d => if d.pageOn (.dsp core) then d.interrupt core.val else d) s

/-- DSP_TIMER_EXPIRE (R329): the timer expires a period after it started; a DSP cycle is two CT. -/
def execDspTimerExpire (core : Core) (s : State) : Res :=
  run (fun d =>
    let n := d.fld (Reg.DSPIO.TMR_PERIOD_CYCLES core.val)
    if d.pageOn (.dsp core) && d.tim.dspClock && n != 0 then
      let due := (d.core core.val).tmrStart + 2 * n
      let d := (d.waitUntil due).setFlag (Reg.DSPIO.IPEND_TIMER core.val) true
      (d.updCore core.val fun k => { k with tmrStart := due }).wake core.val
    else d) s

/-- FAB_READ (R327). -/
def execFabRead (core : Core) (s : State) : Res := run (fun d => if d.pageOn (.dsp core) then d.fabStart core.val false else d) s
/-- FAB_WRITE (R327). -/
def execFabWrite (core : Core) (s : State) : Res := run (fun d => if d.pageOn (.dsp core) then d.fabStart core.val true else d) s

/-- RES_PUSH (R326). -/
def execResPush (core : Core) (data : BitVec 24) (s : State) : Res :=
  run (fun d => if d.pageOn (.dsp core) then d.pushRes core.val data else d) s

/-- MBX_POP (R326): the entry popped shows in `rdata`. -/
def execMbxPop (core : Core) (s : State) : Res :=
  run (fun d =>
    let (d, v) := if d.pageOn (.dsp core) then d.popMbx core.val else (d, 0)
    { d with rdata := v.setWidth 32 }) s

/-- The host's read of DSP.RES_DATA (R326). -/
def Device.popRes (d : Device) (c : Nat) : Device × W32 :=
  match (d.core c).res with
  | (tag, v) :: _ => (d.updCore c fun k => { k with res := k.res.drop 1 }, BitVec.ofBool true ++ tag ++ v)
  | [] => (d, 0)

/-- RES_DATA_READ (R326, R478). -/
def execResDataRead (core : Core) (s : State) : Res :=
  run (fun d =>
    let (d, w) := if d.pageOn (.dsp core) then d.popRes core.val else (d, 0)
    { d with rdata := w }) s

/-- The host's write to DSP.MBX_DATA (R326). -/
def Device.pushMbx (d : Device) (c : Nat) (v : BitVec 24) : Device :=
  if 256 ≤ (d.core c).mbx.length then d.raise (corePage c) 6 else (d.updCore c fun k => { k with mbx := k.mbx ++ [v] }).wake c

/-- MBX_WRITE (R326). -/
def execMbxWrite (core : Core) (data : BitVec 24) (s : State) : Res :=
  run (fun d => if d.pageOn (.dsp core) then d.pushMbx core.val data else d) s

/-- WAVEFORM_REQUEST (R324, R325). -/
def execWaveformRequest (core : Core) (s : State) : Res :=
  run (fun d => if d.pageOn (.dsp core) then d.waveRequest core.val else d) s

/-- WAVEFORM_RECORD_DONE (R207, R325). -/
def execWaveformRecordDone (core : Core) (s : State) : Res :=
  run (fun d => if d.pageOn (.dsp core) then d.waveNext core.val else d) s

/-! ### What the host does to a core (R330, R331) -/

/-- A host write that is refused (R286, R292, R331). -/
def Device.refuseHost (d : Device) (c : Nat) : Device := d.raise (corePage c) 10

/-- RUN = 1 (R286, R331). -/
def Device.runCore (d : Device) (c : Nat) : Device :=
  let k := d.core c
  if k.claimed || !d.tim.dspClock then d.refuseHost c
  else
    let d := d.setFlag (Reg.DSP.CTRL_RUN c) true
    if k.run == .halted && d.enabled (corePage c) then d.updCore c fun k => { k with run := .running } else d

/-- DSP_RUN (R286, R331). -/
def execDspRun (core : Core) (s : State) : Res := run (fun d => if d.pageOn (.dsp core) then d.runCore core.val else d) s

/-- RUN = 0 (R331): a core in a fabric access halts when the access is over. -/
def Device.stopCore (d : Device) (c : Nat) : Device :=
  let k := d.core c
  if k.claimed then d.refuseHost c
  else
    let d := d.setFlag (Reg.DSP.CTRL_RUN c) false
    if k.run == .running || k.run == .waiting || k.run == .draining then
      if k.fab.isSome then d.updCore c fun k => { k with stopAsked := true }
      else d.haltCore c 0
    else d

/-- DSP_HALT_REQUEST (R331). -/
def execDspHaltRequest (core : Core) (s : State) : Res := run (fun d => if d.pageOn (.dsp core) then d.stopCore core.val else d) s

/-- STEP (R331): the word at the PC executes. -/
def Device.stepCore (d : Device) (c : Nat) : Device :=
  let k := d.core c
  if k.claimed || !d.tim.dspClock then d.refuseHost c
  else if k.run == .halted && k.fab.isNone then
    let d := d.dspMeet c (decodeDsp (k.pmemWord k.pc.toNat))
    if (d.core c).run == .fault then d else d.haltCore c 3
  else d

/-- DSP_STEP (R331). -/
def execDspStep (core : Core) (s : State) : Res := run (fun d => if d.pageOn (.dsp core) then d.stepCore core.val else d) s

/-- RESET_PC (R331): registers and loop stack clear, the PC is 0, the memories stay. -/
def Device.resetPc (d : Device) (c : Nat) : Device :=
  let k := d.core c
  if k.claimed then d.refuseHost c
  else if k.run == .halted then
    d.updCore c fun k => { k with rf := [], rf1 := [], rf2 := [], ld := 0, exc := false, loops := [], loopOld := none, pc := 0, slot := none }
  else d

/-- DSP_RESET_PC (R312, R331). -/
def execDspResetPc (core : Core) (s : State) : Res := run (fun d => if d.pageOn (.dsp core) then d.resetPc core.val else d) s

/-- DSP_BREAKPOINT (R331): a core whose PC stands at BRK halts. -/
def execDspBreakpoint (core : Core) (s : State) : Res :=
  run (fun d => if d.executes core.val && d.breaks core.val then d.haltCore core.val 2 else d) s

/-- A host write to PMEM (R292). -/
def Device.writePmem (d : Device) (c index : Nat) (data : W32) : Device :=
  if (d.core c).run == .halted then d.updCore c fun k => k.setPmem index data else d.refuseHost c

/-- DSP_PMEM_WRITE (R292). -/
def execDspPmemWrite (core : Core) (index : BitVec 14) (data : W32) (s : State) : Res :=
  run (fun d => if d.pageOn (.dsp core) then d.writePmem core.val index.toNat data else d) s

/-- A host write to DSP.PC or DSP.REG_DATA (R295, R331). -/
def Device.writeCoreReg (d : Device) (c : Nat) (pc : Bool) (data : W32) : Device :=
  let k := d.core c
  if k.claimed || k.run != .halted then d.refuseHost c
  else if pc then d.updCore c fun k => { k with pc := data.setWidth 14, slot := none }
  else match regOfCode (d.fld (Reg.DSP.REG_ADDR_CODE c)) with
    | some r => d.updCore c fun k => k.now fun f => f.write r (data.setWidth 24)
    | none => d

/-- DSP_REG_DATA_WRITE (R331): to DSP.PC (`pc`) or to the register that REG_ADDR names. -/
def execDspRegDataWrite (core : Core) (pc : Bool) (data : W32) (s : State) : Res :=
  run (fun d => if d.pageOn (.dsp core) then d.writeCoreReg core.val pc data else d) s

/-- DSP_MEM_SCRUB (R293): the words found with a single-bit error, and those with an uncorrectable one, by their places in the host window. -/
def execDspMemScrub (core : Core) (corrected uncorrectable : List (BitVec 20)) (s : State) : Res :=
  run (fun d =>
    if d.pageOn (.dsp core) then
      let d := if corrected.isEmpty then d else (d.count (Reg.DSP.CNT_MEM_CE core.val) corrected.length).raise (.dsp core) 11
      d.updCore core.val fun k => { k with bad := k.bad ++ uncorrectable.filter fun b => !k.bad.contains b }
    else d) s

/-- DSP_DRAIN_TIMEOUT (R330): 65,536 cycles after the drain began. -/
def execDspDrainTimeout (core : Core) (s : State) : Res :=
  run (fun d =>
    match (d.core core.val).run, (d.core core.val).drainAt with
    | .draining, some t => (d.waitUntil t).haltCore core.val 6
    | _, _ => d) s

end Sys2Proof.Machine
end

