-- ==== Sys2Proof/Machine/History.lean ====
section
/-! DEFINITION. The commands of the DDR5 history memory (spec/08). -/

namespace Sys2Proof.Machine

/-! ### The controller -/

/-- GEOM holds a combination of R256. -/
def Device.geomOk (d : Device) : Bool := d.fld Reg.HIS.GEOM_DENSITY != 3 && decide (d.fld Reg.HIS.GEOM_SPEED < 5)

/-- The ring is empty (R281). -/
def Device.emptyRing (d : Device) : Device :=
  let d := d.memoryLost
  { d with his := { d.his with
    segs := [], nextSeq := 0, writing := false, resume := false, dropPending := false, written := false, clean := none, inBlock := [] } }

/-- Training starts, or does not with a GEOM outside R256 (R258, R259). A TRAIN while training runs has no effect. -/
def Device.train (d : Device) : Device :=
  if d.hisState = 1 || !d.domOn 10 then d
  else
    let d := d.emptyRing
    if d.geomOk then Device.setFld { d with his := { d.his with geom := d.word Reg.HIS.GEOM } } Reg.HIS.STATUS_STATE 1
    else (d.setFld Reg.HIS.STATUS_STATE 4).raise .his 12

/-- HIS_TRAIN (R259). -/
def execHisTrain (s : State) : Res := run (fun d => if d.pageOn .his then d.train else d) s

/-- A MEM entry of the health log: HIS.STATUS (R569). -/
def Device.logMemory (d : Device) : Device := d.healthLog 0x09 ((d.word Reg.HIS.STATUS).setWidth 64)

/-- Training ends: the failing step, 0 for success (R259). -/
def Device.trained (d : Device) (step : Nat) : Device :=
  if d.hisState ≠ 1 then d
  else if step = 0 then
    let d := (d.setFld Reg.HIS.STATUS_STATE 2).setFld Reg.HIS.STATUS_TRAIN_FAIL 0
    Device.raise { d with his := { d.his with
      writing := !d.his.frozen && d.enabled .his, resume := true, resumeNext := d.his.resumeNext && d.his.frozen } } .his 0
  else (((d.setFld Reg.HIS.STATUS_STATE 3).setFld Reg.HIS.STATUS_TRAIN_FAIL step).raise .his 1).logMemory

/-- HIS_TRAINING_DONE (R259). -/
def execHisTrainingDone (failedStep : Fin 8) (s : State) : Res := run (fun d => d.trained failedStep.val) s

/-- The memory fails (R260, R264, R281). -/
def Device.memoryFails (d : Device) : Device := (d.setFld Reg.HIS.STATUS_STATE 3).memoryLost

/-- DQS_DRIFT_CHECK (R260): whether the drift exceeds 1/16 UI, and whether the retrain succeeds. -/
def execDqsDriftCheck (drifted retrained : Bool) (s : State) : Res :=
  run (fun d =>
    if d.hisState = 2 && drifted then
      let d := d.count Reg.HIS.CNT_RETRAIN
      if retrained then d else d.memoryFails
    else d) s

/-- DDR_REFRESH (R261): a same-bank refresh goes to the devices, at the normal or the halved interval. -/
def execDdrRefresh (s : State) : Res := run (fun d => if d.hisState = 2 then d.send (.ddr 0 d.his.refreshFast.toNat) else d) s

/-- REFRESH_RATE_POLL (R261). -/
def execRefreshRatePoll (hot : Bool) (s : State) : Res :=
  run (fun d =>
    if d.hisState = 2 then
      let was := d.flag Reg.HIS.STATUS_HOT
      let d := Device.setFlag { d with his := { d.his with refreshFast := hot } } Reg.HIS.STATUS_HOT hot
      if hot && !was then d.raise .his 10 else d
    else d) s

/-- A list padded with zero words to `n` words. -/
def padWords (n : Nat) (ws : List W64) : List W64 := ws ++ List.replicate (n - ws.length) 0

/-- The 131,072 words of a segment as it stands in memory (R267). -/
def Segment.image (s : Segment) : List W64 :=
  let flags := s.dropBefore.toNat + 2 * s.resumed.toNat
  let head : List W64 := [BitVec.ofNat 64 (0x5347 * 2 ^ 48 + s.seq % 2 ^ 48), BitVec.ofNat 64 (s.first.getD 0), BitVec.ofNat 64 (flags * 2 ^ 32 + s.index)]
  let tail : List W64 := [BitVec.ofNat 64 (0x5354 * 2 ^ 48), BitVec.ofNat 64 (s.last.getD 0), BitVec.ofNat 32 s.hits ++ BitVec.ofNat 32 s.late,
    BitVec.ofNat 64 (s.early.toNat * 2 ^ 32 + s.bytes)]
  padWords 8 head ++ padWords 131056 s.words ++ padWords 8 tail

/-- The word that stands at an index of a line (R262); a line that no segment of the ring holds reads 0. -/
def Device.lineWord (d : Device) (line : Nat) (index : Fin 8) : W64 :=
  match d.his.segs.find? fun s => s.index = line / 16384 with
  | some s => s.image.getD (line % 16384 * 8 + index.val) 0
  | none => 0

/-- What a memory read answers for a word: the word of the line `source` with its ECC bits, but for the bits that have changed (R262). -/
def Device.readWord (d : Device) (f : LineFinding) : WordCheck :=
  checkWord f.line f.index (withEcc f.source f.index (d.lineWord f.source.toNat f.index) ^^^ f.flips)

/-- A word read with an error (R262), and the failure of the memory at more than 16 uncorrectable errors within 1 s (R264). -/
def Device.lineError (d : Device) (f : LineFinding) : Device :=
  match (d.readWord f).error with
  | none => d
  | some .corrected => (d.count Reg.HIS.CNT_CE).raise .his 3
  | some e =>
    let d := d.count (if e = .uncorrectable then Reg.HIS.CNT_UE else Reg.HIS.CNT_ADDR_ERR)
    let d := (d.setWord Reg.HIS.UE_LINE f.line).raise .his 4
    let recent := (d.his.ueTimes.filter fun t => d.clock < t + Config.secondCt) ++ [d.clock]
    let d := { d with his := { d.his with ueTimes := recent } }
    if 16 < recent.length && d.hisState = 2 then (d.memoryFails.raise .his 5).logMemory else d

/-- A burst of the scrubber (R263): lines read in order, with what it finds; a paused scrubber does none, and during start-up a
burst is followed by its pause; the manual states no duration of a burst (R549; log 63). -/
def Device.scrubLines (d : Device) (n : Nat) (findings : List LineFinding) : Device :=
  if d.hisState ≠ 2 || !d.flag Reg.HIS.CTRL_SCRUB_EN || d.pausing .scrub then d
  else
    let d := findings.foldl (fun d f => d.lineError f) d
    let d := if d.hlt.step = 0 then d else d.draw.startPause .scrub (Config.burstTime d.free)
    let total := 16384 * d.hisSegments
    let next := d.his.scrubLine + n
    if next < total || total = 0 then { d with his := { d.his with scrubLine := next } }
    else Device.raise { d.count Reg.HIS.CNT_SCRUB_PASSES with his := { d.his with scrubLine := next % total } } .his 11

/-- SCRUB_BURST (R263). -/
def execScrubBurst (lines : Nat) (findings : List LineFinding) (s : State) : Res := run (fun d => d.scrubLines lines findings) s

/-! ### Readback -/

/-- The write point: just after the last hit written (R279). -/
def Device.writePoint (d : Device) : Nat := ((d.his.segs.filterMap (·.last)).getLast?.map (· + 1)).getD 0

/-- A host request (R278-R280): refused, unused, cut to what the ring holds, or accepted whole. -/
def Device.requestReadback (d : Device) : Device :=
  let a := d.fld Reg.HIS.RB_START_LO_FU + d.fld Reg.HIS.RB_START_HI_FU * 2 ^ 32
  let b := d.fld Reg.HIS.RB_END_LO_FU + d.fld Reg.HIS.RB_END_HI_FU * 2 ^ 32
  let n := (d.his.number + 1) % 65536
  let d := Device.setFld { d with his := { d.his with number := n } } Reg.HIS.RB_STATUS_NUMBER n
  let r := d.request 0 n a b none
  let queue (d : Device) (r : Readback) : Device := { d with his := { d.his with readbacks := d.his.readbacks ++ [r] } }
  if d.hisState ≠ 2 then queue d { r with status := 6 }
  else match d.allocCtx 4 (BitVec.ofNat 24 n) with
    | (d, none) => queue d { r with status := 3 }
    | (d, some c) =>
      let from_ := max a (d.oldest.getD d.writePoint)
      let to_ := min b d.writePoint
      let r := { r with ctx := some c, start := from_, stop := to_, status := if from_ ≠ a ∨ to_ ≠ b then 1 else 0 }
      let held := d.segmentsOf from_ to_
      if d.pinLimit < held.length then queue d { r with status := 4 } else d.queueReadback r

/-- READBACK_REQUEST (R278, R279). -/
def execReadbackRequest (s : State) : Res := run (fun d => if d.enabled .his then d.requestReadback else d) s

/-- A completed capture set of a trigger number. -/
def Device.retained (d : Device) (n : BitVec 24) : Option CaptureSet := d.his.captures.find? fun s => s.num = n && s.done

/-- The readback of a retained capture set is requested (R278). -/
def Device.readCapture (d : Device) (n : BitVec 24) : Device :=
  match d.retained n with
  | some s => d.queueCapture s
  | none => d

/-- CAPTURE_READ (R278). -/
def execCaptureRead (number : BitVec 24) (s : State) : Res := run (fun d => if d.pageOn .his then d.readCapture number else d) s

/-- A retained capture set's pins and context are released together (R275). -/
def Device.releaseCapture (d : Device) (n : BitVec 24) : Device :=
  match d.retained n with
  | some s => Device.ringGo (Device.freeCtxAt { d with his := { d.his with captures := d.his.captures.filter fun x => x.num != n || !x.done } } s.ctx)
  | none => d

/-- CAPTURE_RELEASE (R275). -/
def execCaptureRelease (number : BitVec 24) (s : State) : Res := run (fun d => if d.pageOn .his then d.releaseCapture number else d) s

/-- The words of a segment as a readback sends them: what the reads answered, lines that are uncorrectable as zero bytes, and RB_UE in the header when there
are any (R267, R277, R279). -/
def Segment.sent (s : Segment) (bad : List Nat) (read : List (Nat × W64)) : List W64 :=
  s.image.zipIdx.map fun p =>
    if bad.contains (p.2 / 8) then 0
    else
      let w := ((read.find? fun r => r.1 = p.2).map (·.2)).getD p.1
      if p.2 = 2 && !bad.isEmpty then w ||| BitVec.ofNat 64 (2 ^ 34) else w

/-- The readback header line (R277). -/
def Readback.header (r : Readback) (segs : List Segment) (ueLines : Nat) : List W64 :=
  let first := match segs with
    | s :: _ => s.seq
    | [] => 0
  padWords 8 [BitVec.ofNat 64 (0x4852 * 2 ^ 48 + r.status * 2 ^ 40 + r.kind * 2 ^ 32 + r.number % 2 ^ 24), BitVec.ofNat 64 r.start,
    BitVec.ofNat 64 r.stop, BitVec.ofNat 32 segs.length ++ BitVec.ofNat 32 ueLines, BitVec.ofNat 64 (first % 2 ^ 48)]

/-- The next accepted readback starts: its words are read, with what the reads find (R262, R277, R279). One that was complete before it started has only its
header line to send; no other starts while the page takes no work (R282). -/
def Device.startReadback (d : Device) (findings : List LineFinding) : Device :=
  match d.his.running, d.his.readbacks with
  | none, r :: rest =>
    if r.ended then { d with his := { d.his with running := some r, readbacks := rest, sending := r.header [] 0 } }
    else if !d.enabled .his then d
    else
      let segs := d.his.segs.filter fun s => r.segs.contains s.seq
      let found := findings.filter fun f => segs.any fun s => s.index = f.line.toNat / 16384
      let bad := ((found.filter fun f => (d.readWord f).isBad).map fun f => f.line.toNat).eraseDups
      let r := { r with status := if !bad.isEmpty && decide (r.status < 2) then 2 else r.status }
      let words := segs.flatMap fun s => s.sent ((bad.filter fun l => l / 16384 = s.index).map fun l => l % 16384)
        ((found.filter fun f => f.line.toNat / 16384 = s.index).map fun f => (f.line.toNat % 16384 * 8 + f.index.val, (d.readWord f).data))
      let d := { d with his := { d.his with running := some r, readbacks := rest, sending := r.header segs bad.length ++ words } }
      found.foldl (fun d f => d.lineError f) (d.setFlag Reg.HIS.RB_STATUS_BUSY true)
  | _, _ => d

/-- READBACK_START (R277-R279). -/
def execReadbackStart (findings : List LineFinding) (s : State) : Res := run (fun d => d.startReadback findings) s

/-- A readback completes (R275, R278, R279). -/
def Device.endReadback (d : Device) (r : Readback) (status : Nat) : Device :=
  let d := Device.readbackOver { d with his := { d.his with running := none, sending := [] } }
  let d := (d.setFlag Reg.HIS.RB_STATUS_BUSY false).setFld Reg.HIS.RB_STATUS_LAST status
  let d := match r.ctx with
    | some c => d.freeCtxAt c
    | none => d
  let d := if r.kind = 2 && d.flag Reg.HIS.CTRL_AUTO_RELEASE then d.releaseCapture (BitVec.ofNat 24 r.number) else d
  (d.count Reg.HIS.CNT_RB_DONE).raise .his 6

/-- READBACK_DONE (R279). -/
def execReadbackDone (s : State) : Res :=
  run (fun d => match d.his.running with
    | some r =>
      if !d.his.sending.isEmpty then d
      else if r.ended then Device.readbackOver { d with his := { d.his with running := none } }
      else (d.endReadback r r.status).ringGo
    | none => d) s

end Sys2Proof.Machine
end

