-- ==== Sys2Proof/Machine/Host.lean ====
section
/-! DEFINITION. The commands of the PCI Express endpoint, its rings and the event controller (spec/14), those that carry register
accesses left out. -/

namespace Sys2Proof.Machine

/-! ### Posting and fetching descriptors -/

/-- A write to TAIL (R462): accepted when the descriptors posted and not completed do not shrink and fit the ring. -/
def Device.writeTail (d : Device) (r : Nat) (tail : W32) : Device :=
  let head := d.word (Reg.RING.HEAD r)
  let held := (d.word (Reg.RING.TAIL r) - head).toNat
  let want := (tail - head).toNat
  if want ≤ d.ringSize r ∧ held ≤ want then
    let d := d.setWord (Reg.RING.TAIL r) tail
    if r < 8 ∧ held < want then d.setFlag (Reg.CDR.STREAM_STATUS_STARVED (2 + r)) false else d
  else (d.setFlag (Reg.RING.RING_STATUS_TAIL_ERR r) true).raise .pci 10

/-- RING_TAIL_WRITE (R462). -/
def execRingTailWrite (ring : Ring) (tail : W32) (s : State) : Res := run (fun d => if d.pageOn .pci then d.writeTail ring.val tail else d) s

/-- A ring may fetch: enabled, no abort in progress, no failed fetch, a posted descriptor (R462, R471). -/
def Device.mayFetch (d : Device) (r : Nat) : Bool :=
  d.ringReady r && !d.flag (Reg.RING.RING_CTRL_ABORT r) && !d.flag (Reg.RING.RING_STATUS_ERROR r)
    && d.word (Reg.RING.FETCH r) != d.word (Reg.RING.TAIL r)

/-- A fetch completes with the descriptor's words 0 and 1, or fails (R462, R470). -/
def Device.fetch (d : Device) (r : Nat) (desc : Option (W64 × W64)) : Device :=
  let n := d.word (Reg.RING.FETCH r)
  let d := d.send (.hostRead (d.descAddr r n) 32)
  match desc with
  | some (w0, w1) =>
    Device.showActive (Device.updRing (d.setWord (Reg.RING.FETCH r) (n + 1)) r fun q =>
      { q with descs := q.descs ++ [{ index := n, word0 := w0, word1 := w1 }] }) r
  | none => ((d.setFlag (Reg.RING.RING_STATUS_ERROR r) true).count Reg.PCI.CNT_FETCH_ERR).raise .pci 10

/-- DESCRIPTOR_FETCH (R462, R470). -/
def execDescriptorFetch (ring : Ring) (desc : Option (W64 × W64)) (s : State) : Res :=
  run (fun d => if d.mayFetch ring.val then d.fetch ring.val desc else d) s

/-! ### Readout rings -/

/-- DMA_WRITE_REQUEST (R465-R467). -/
def execDmaWriteRequest (ring : ReadRing) (s : State) : Res := run (fun d => d.writeRequest ring.val) s

/-- The oldest readout descriptor completes when one of its causes holds (R465). -/
def Device.readoutDone (d : Device) (r : Nat) : Device :=
  match (d.ring r).descs with
  | [] => d
  | x :: _ => match d.readoutStatus r x with
    | some status => if d.dmaReady then d.completeReadout r x status else d
    | none => d

/-- READOUT_DESCRIPTOR_COMPLETE (R463-R465). -/
def execReadoutDescriptorComplete (ring : ReadRing) (s : State) : Res := run (fun d => d.readoutDone ring.val) s

/-- A descriptor partly filled completes TIMEOUT µs after its first word (R465). -/
def Device.readoutTimeout (d : Device) (r : Nat) : Device :=
  match (d.ring r).descs with
  | [] => d
  | x :: _ =>
    let us := d.fld (Reg.RING.TIMEOUT_US r)
    if us = 0 || x.used = 0 || !d.dmaReady || (d.readoutStatus r x).isSome then d
    else (d.waitUntil (x.since + us * Config.usCt)).completeReadout r x 1

/-- READOUT_TIMEOUT (R465). -/
def execReadoutTimeout (ring : ReadRing) (s : State) : Res := run (fun d => d.readoutTimeout ring.val) s

/-! ### Ring controls -/

/-- RING_ENABLE (R462, R471): an abort in progress goes first. -/
def execRingEnable (ring : Ring) (s : State) : Res :=
  run (fun d => if d.pageOn .pci then d.setFlag (Reg.RING.RING_CTRL_EN ring.val) true else d) s

/-- RING_DISABLE (R471). -/
def execRingDisable (ring : Ring) (s : State) : Res :=
  run (fun d => if d.pageOn .pci then d.setFlag (Reg.RING.RING_CTRL_EN ring.val) false else d) s

/-- ABORT of a ring (R471): it reads 1 until the last fetched descriptor is complete, at once when there is none. -/
def Device.abortRing (d : Device) (r : Nat) : Device := (d.setFlag (Reg.RING.RING_CTRL_ABORT r) true).showActive r

/-- RING_ABORT (R471). -/
def execRingAbort (ring : Ring) (s : State) : Res := run (fun d => if d.pageOn .pci then d.abortRing ring.val else d) s

/-- RESET of a ring (R461, R470): taken while EN and ACTIVE are 0; fetching may start again. -/
def Device.resetRing (d : Device) (r : Nat) : Device :=
  if d.flag (Reg.RING.RING_CTRL_EN r) || d.flag (Reg.RING.RING_STATUS_ACTIVE r) then d
  else (d.zeroWords [Reg.RING.TAIL r, Reg.RING.HEAD r, Reg.RING.FETCH r]).setFlag (Reg.RING.RING_STATUS_ERROR r) false

/-- RING_RESET (R461). -/
def execRingReset (ring : Ring) (s : State) : Res := run (fun d => if d.pageOn .pci then d.resetRing ring.val else d) s

/-! ### The endpoint -/

/-- The endpoint alone is reset (R459): configuration, link, MSI-X, the PCI page, the in-service bits, the ring control blocks. Records
routed to the rings stay queued. -/
def Device.resetEndpoint (d : Device) : Device :=
  let rings := d.pci.rings.map fun p => (p.1, { todo := p.2.todo, inside := p.2.inside : RingSt })
  let rings := rings.filter fun p => p.2 != {}
  let d := { d with pci := { rings := rings }, evc := { d.evc with insvc := 0 } }
  let d := (d.resetRange 0x1000 0x2000).resetRange (Reg.RING.base 0) (Reg.RING.base 10)
  (d.setSticky .pci 0).setEvEn .pci 0

/-- ENDPOINT_RESET (R459). -/
def execEndpointReset (s : State) : Res := run (fun d => if d.pageOn .pci then d.resetEndpoint else d) s

/-- The link leaves L0 and L1 (R488). -/
def Device.pciLinkDown (d : Device) : Device :=
  if !d.pci.up then d
  else
    let d := { d with pci := { d.pci with up := false } }
    let d := ((d.setFlag Reg.PCI.SUMMARY_LINK_UP false).setFld Reg.PCI.LINK_STATUS_SPEED 0).setFld Reg.PCI.LINK_STATUS_WIDTH 0
    (d.count Reg.PCI.CNT_LINK_DOWN).raise .pci 13

/-- PCIE_LINK_DOWN (R488). -/
def execPcieLinkDown (s : State) : Res := run (fun d => if d.pageOn .pci then d.pciLinkDown else d) s

/-- SPEED and WIDTH of the link, among those of R455. -/
def Device.showLink (d : Device) (speed width : Nat) : Device :=
  (d.setFld Reg.PCI.LINK_STATUS_SPEED speed).setFld Reg.PCI.LINK_STATUS_WIDTH width

/-- A speed and a width that the endpoint supports (R455). -/
def pciLinkOk (speed width : Nat) : Bool := decide (1 ≤ speed) && decide (speed ≤ 4) && (width = 1 || width = 2 || width = 4)

/-- PCIE_LINK_CHANGE (R488): the speed or the width of an up link changes. -/
def execPcieLinkChange (speed : BitVec 4) (width : BitVec 5) (s : State) : Res :=
  run (fun d =>
    let same := d.fld Reg.PCI.LINK_STATUS_SPEED = speed.toNat ∧ d.fld Reg.PCI.LINK_STATUS_WIDTH = width.toNat
    if !d.pageOn .pci || !d.pci.up || same || !pciLinkOk speed.toNat width.toNat then d
    else (d.showLink speed.toNat width.toNat).raise .pci 14) s

/-- PCIE_LINK_UP (R460, R488). -/
def execPcieLinkUp (speed : BitVec 4) (width : BitVec 5) (s : State) : Res :=
  run (fun d =>
    if !d.pageOn .pci || d.pci.up || !pciLinkOk speed.toNat width.toNat then d
    else
      let d := { d with pci := { d.pci with up := true } }
      (d.setFlag Reg.PCI.SUMMARY_LINK_UP true).showLink speed.toNat width.toNat) s

/-- The settings a configuration write leaves (R455): payload and read request sizes keep to those supported. -/
def PcieConfig.supported (old c : PcieConfig) : PcieConfig :=
  let payload := if c.maxPayload = 128 ∨ c.maxPayload = 256 ∨ c.maxPayload = 512 then c.maxPayload else old.maxPayload
  let request := if ([128, 256, 512, 1024, 2048, 4096] : List Nat).contains c.maxReadRequest then c.maxReadRequest else old.maxReadRequest
  { c with maxPayload := payload, maxReadRequest := request }

/-- CONFIG_SPACE_WRITE (R455, R459, R482, R483). -/
def execConfigSpaceWrite (cfg : PcieConfig) (s : State) : Res :=
  run (fun d =>
    if !d.pageOn .pci || !d.pci.up then d
    else
      let d := { d with pci := { d.pci with cfg := PcieConfig.supported d.pci.cfg cfg } }
      (d.setFlag Reg.PCI.LINK_STATUS_D3HOT cfg.d3hot).setFlag Reg.PCI.LINK_STATUS_BME cfg.busMaster) s

/-- AER_ERROR (R488). -/
def execAerError (correctable : Bool) (s : State) : Res :=
  run (fun d =>
    if !d.pageOn .pci then d
    else if correctable then (d.count Reg.PCI.CNT_CORR).raise .pci 11
    else (d.count Reg.PCI.CNT_UNCORR).raise .pci 12) s

/-! ### The event controller -/

/-- VEC_EOI (R482): the in-service bit clears; delivery follows when the vector is still asserted. -/
def execVecEoi (vector : BitVec 6) (s : State) : Res :=
  run (fun d => { d with evc := { d.evc with insvc := d.evc.insvc &&& ~~~BitVec.ofNat 64 (2 ^ vector.toNat) } }) s

/-- An entry of the MSI-X table changes (R457). -/
def Device.setMsix (d : Device) (v : Nat) (e : MsixEntry) : Device :=
  { d with pci := { d.pci with msix := SMap.set (fun _ => {}) d.pci.msix v e } }

/-- MSIX_UNMASK (R482): delivery follows for a vector that is still asserted. -/
def execMsixUnmask (vector : BitVec 6) (s : State) : Res :=
  run (fun d => if d.pageOn .pci then d.setMsix vector.toNat { d.msixEntry vector.toNat with mask := false } else d) s

/-- The oldest entry of the event log, popped; VALID = 0 when there is none (R478, R486). -/
def Device.popLog (d : Device) : Device × W32 :=
  match d.evc.log with
  | [] => (d, 0)
  | (source, frame) :: rest =>
    ({ d with evc := { d.evc with log := rest } }, (1#1 : BitVec 1) ++ (0 : BitVec 7) ++ frame ++ source)

/-- EVENT_LOG_READ (R478). -/
def execEventLogRead (s : State) : Res := run (fun d => { d.popLog.1 with rdata := d.popLog.2 }) s

/-- Event bits of a page set through EV_SET, as if raised (R476). -/
def Device.evSet (d : Device) (p : Page) (bits : W32) : Device := d.raiseAll p (bitsOf bits)

/-- A source's event bits set through EV_SET (R487). -/
def Device.testSource (d : Device) (source : Nat) : Device :=
  match sourcePage source with
  | some (p, bits) => d.evSet p (BitVec.ofNat 32 bits)
  | none => d

/-- SRC_TEST_WRITE (R487). -/
def execSrcTestWrite (word : Fin 8) (bits : W32) (s : State) : Res :=
  run (fun d => (bitsOf bits).foldl (fun d b => d.testSource (32 * word.val + b)) d) s

/-- EV_SET_WRITE (R476). -/
def execEvSetWrite (page : Page) (bits : W32) (s : State) : Res := run (fun d => d.evSet page bits) s

end Sys2Proof.Machine
end

