-- ==== Sys2Proof/Machine/LinkOps.lean ====
section
/-! DEFINITION. The lanes and the lane path (R384-R421, R427-R441): rates and attempts, bundles, loss and removal, retained records and
their resend, the messages and frames that go out. -/

namespace Sys2Proof.Machine

/-! ### Lanes -/

/-- A lane is a receive lane (R384). -/
def isRx (l : Nat) : Bool := decide (8 ≤ l)
/-- The power domain of a lane (R384, R530). -/
def laneDomain (l : Nat) : Nat := if l < 4 then 12 else if l < 8 then 13 else 14
/-- The lane exists on the part and is powered (R384). -/
def Device.lanePowered (d : Device) (l : Nat) : Bool := (isRx l || decide (l < d.part.txLanes)) && d.domOn (laneDomain l)

/-- A lane beside its registers. -/
def Device.lane (d : Device) (l : Nat) : LaneSt := SMap.get (fun _ => {}) d.lnk.lanes l
/-- A lane changes. -/
def Device.updLane (d : Device) (l : Nat) (f : LaneSt → LaneSt) : Device :=
  { d with lnk := { d.lnk with lanes := SMap.upd (fun _ => {}) d.lnk.lanes l f } }

/-- LANE_STATUS.STATE: 0 OFF, 1 DETECT, 2 TRAIN, 3 ACTIVE, 4 BACKOFF (R404). -/
def Device.laneState (d : Device) (l : Nat) : Nat := d.fld (Reg.LNK.LANE_STATUS_STATE l)
/-- A lane takes a state. -/
def Device.setLaneState (d : Device) (l n : Nat) : Device := d.setFld (Reg.LNK.LANE_STATUS_STATE l) n

/-- A table has been committed since power-up (R399). -/
def Device.eqLoaded (d : Device) : Bool := d.flag Reg.LNK.SUMMARY_EQ_LOADED
/-- A word of the equalisation table in force (R396). -/
def Device.eqWord (d : Device) (k : Nat) : W64 := SMap.get (fun _ => 0) d.lnk.eq k

/-- The built-in entry (R399). -/
def builtinEntry : W64 := BitVec.ofNat 64 (60 * 2 ^ 52 + 52 * 2 ^ 46 + 58 * 2 ^ 40 + 6 * 2 ^ 30 + 8 * 2 ^ 24 + 8 * 2 ^ 8)

/-- The entry that a lane's next attempt uses (R395, R399, R424). -/
def Device.laneEntry (d : Device) (l : Nat) : W64 :=
  if d.eqLoaded then d.eqWord (1 + d.fld (Reg.LNK.LANE_CTRL_ENTRY l)) else builtinEntry

/-- The rate of a lane's next attempt, coded as RATE; none: it does not train (R399). -/
def Device.laneRate (d : Device) (l : Nat) : Option Nat :=
  let asked := d.fld (Reg.LNK.LANE_CTRL_RATE l)
  let asked := if asked = 3 then 1 else asked
  let limit := if d.eqLoaded then (d.eqWord 18).toNat / 4 ^ l % 4 else 1
  if limit = 3 then none else some (if isRx l then max asked limit else min 1 (max asked limit))

/-- A lane may leave OFF (R404). -/
def Device.laneAllowed (d : Device) (l : Nat) : Bool := d.lanePowered l && d.flag (Reg.LNK.LANE_CTRL_EN l) && (d.laneRate l).isSome

/-- A training attempt begins (R404, R408); an open-loop transmit lane enters TRAIN at once (R409). -/
def Device.startAttempt (d : Device) (l : Nat) : Device :=
  let openLoop := !isRx l && d.flag (Reg.LNK.LANE_CTRL_OPEN_LOOP l)
  let d := (d.setLaneState l (if openLoop then 2 else 1)).setFld (Reg.LNK.LANE_STATUS_RATE_ACT l) ((d.laneRate l).getD 0)
  let d := d.setFlag (Reg.LNK.LANE_STATUS_PRECODED l) (openLoop && d.flag (Reg.LNK.LANE_CTRL_PRECODE l))
  let entry := d.laneEntry l
  let now := d.clock
  d.updLane l fun s => { s with since := now, trainSince := now, good := 0, bad := 0, ready := false, final := false, locked := false, precodeReq := false
                                entry := entry, leaving := none, symbols := 0, finals := 0 }

/-- A transmit lane in TRAIN precodes when it may and its partner asks, or, in open-loop operation, when it may (R406, R409); once its final frames
are due that is fixed. -/
def Device.setPrecoding (d : Device) (l : Nat) : Device :=
  if d.laneState l = 2 && !(d.lane l).final then
    d.setFlag (Reg.LNK.LANE_STATUS_PRECODED l)
      (d.flag (Reg.LNK.LANE_CTRL_PRECODE l) && (d.flag (Reg.LNK.LANE_CTRL_OPEN_LOOP l) || (d.lane l).precodeReq))
  else d

/-- A lane enters TRAIN; a receive lane's PRBS window begins (R404, R405, R409). -/
def Device.enterTrain (d : Device) (l : Nat) : Device :=
  let now := d.clock
  (d.setLaneState l 2).updLane l fun s => { s with trainSince := now, windowSince := now, bad := 0, ready := false, final := false }

/-- The device's own report has changed: an LSTATUS is owed (R442). -/
def Device.reportChanged (d : Device) : Device := { d with zvl := { d.zvl with statusDue := true } }

/-- A lane that is not ACTIVE goes to OFF, or to a new attempt where it may train. -/
def Device.restLane (d : Device) (l : Nat) (detect : Bool) : Device :=
  let d := if isRx l then d.reportChanged else d
  if detect && d.laneAllowed l then d.startAttempt l else (d.setLaneState l 0).updLane l fun s => { s with leaving := none }

/-- The transmit lanes that are ACTIVE and stay (R414, R419). -/
def Device.wantSet (d : Device) : BitVec 8 :=
  BitVec.ofNat 8 (((List.range 8).filter fun l => d.laneState l = 3 && (d.lane l).leaving.isNone).map fun l => 2 ^ l).sum

/-- The transmit set in force. -/
def Device.txSet (d : Device) : BitVec 8 := BitVec.ofNat 8 (d.fld Reg.LNK.BUNDLE_STATUS_TX_SET)

/-- The lanes of a set in increasing order (R429). -/
def setLanes (s : BitVec 8) : List Nat := (List.range 8).filter fun l => s.getLsbD l

/-- The next codeword boundary brings in the lanes that are ACTIVE, unless a re-stripe makes a joining lane wait (R418, R419, R432). -/
def Device.requestSet (d : Device) : Device :=
  let want := d.wantSet
  let want := if d.flag Reg.LNK.BUNDLE_STATUS_RESTRIPING then want &&& (d.lnk.setNext.getD d.txSet) else want
  { d with lnk := { d.lnk with setNext := if want = d.txSet then none else some want } }

/-! ### Retained data -/

/-- The records that the lane path has taken and not released, oldest first (R415): in frames, in chunks, in the coder, and those of a resend that
wait to be taken again. -/
def Device.takenRecords (d : Device) : List Nat :=
  let ahead := d.lnk.frames.flatMap (·.serials) ++ d.lnk.chunks.flatMap (·.serials) ++ (d.coder 1).serials
  ahead ++ d.lnk.resend0.filter fun n => !ahead.contains n

/-- Bytes taken and not yet released (R415). -/
def Device.unackedBytes (d : Device) : Nat :=
  8 * ((d.takenRecords.map fun n => ((d.oqRecord n).map fun r => r.words.length).getD 0).sum + (d.lnk.frames.map fun f => f.words.length).sum
    + d.lnk.words1.length)

/-- RETAIN.KIB: 1 to 6,144 (R423). -/
def Device.retainKib (d : Device) : Nat := max 1 (min 6144 (d.fld Reg.LNK.RETAIN_KIB))
/-- The lane path holds records until acknowledgements bring the retained data below the limit (R415, R416). -/
def Device.laneHeld (d : Device) : Bool := decide (d.retainKib * 1024 ≤ d.unackedBytes)

/-- The lane path takes further records from the output queue (R415, R420, R421). -/
def Device.laneTakes (d : Device) : Bool := d.enabled .lnk && !d.laneHeld && d.txSet != 0

/-- Everything retained is to be sent again, oldest first, from a reset of coder context 1 and in a frame with RESEND = 1 (R417, R440). -/
def Device.startResend (d : Device) : Device :=
  let taken := d.takenRecords
  let words := d.lnk.frames.flatMap (·.words)
  let d := d.updCoder 1 fun s => { s.reset with block := [], serials := [], blockReset := false, queue := [], damaged := false }
  let d := { d with evb := { d.evb with laneTodo := taken ++ d.evb.laneTodo.filter fun n => !taken.contains n } }
  { d with lnk := { d.lnk with
    chunks := [], frames := [], sending := [], sendingSeq := none, resendOwed := true, resend0 := taken
    words1 := words ++ d.lnk.words1, resend1 := max d.lnk.resend1 d.lnk.unit1, unit1 := d.lnk.unit1 - words.length, advanced := d.clock } }

/-- Bytes have been serialised again (R423). -/
def Device.countResent (d : Device) (bytes : Nat) : Device :=
  let all := d.lnk.resentBytes + bytes
  Device.setWord { d with lnk := { d.lnk with resentBytes := all } } Reg.LNK.CNT_RESENT (BitVec.ofNat 32 (min 0xFFFFFFFF ((all + 1023) / 1024)))

/-- A frame is released: its records leave the output queue's lane path (R196, R415). -/
def Device.releaseFrame (d : Device) (f : SentFrame) : Device :=
  let d := { d with lnk := { d.lnk with frames := d.lnk.frames.filter fun g => g.seq != f.seq
                                        units := d.lnk.units.filter fun u => !f.serials.contains u.1
                                        resend0 := d.lnk.resend0.filter fun n => !f.serials.contains n } }
  f.serials.foldl (fun d n => d.releaseLane n) d

/-- Every frame up to a SEQ has been accepted by the far end (R415, R439); without ACK_EN time alone releases (R416). -/
def Device.acknowledge (d : Device) (seq : W32) : Device :=
  let done := d.lnk.frames.filter fun f => decide ((seq - f.seq).toNat < 2 ^ 31)
  if !d.flag Reg.LNK.CTRL_ACK_EN || done.isEmpty then d
  else done.foldl (fun d f => d.releaseFrame f) { d with lnk := { d.lnk with advanced := d.clock } }

/-- Everything retained is released at once; answers the words (R421). -/
def Device.releaseAllFrames (d : Device) : Device × Nat :=
  let taken := d.takenRecords
  let words := d.unackedBytes / 8
  let d := d.updCoder 1 fun s => { s.reset with block := [], serials := [], blockReset := false, queue := [], damaged := false }
  let d := { d with lnk := { d.lnk with chunks := [], frames := [], sending := [], sendingSeq := none, words1 := [], resend0 := [], resend1 := 0
                                        units := d.lnk.units.filter fun u => !taken.contains u.1 } }
  let d := { d with evb := { d.evb with laneTodo := d.evb.laneTodo.filter fun n => !taken.contains n } }
  (taken.foldl (fun d n => d.releaseLane n) d, words)

/-! ### Bundles -/

/-- The lanes of a bundle that are DOWN count their time anew from here (R410). -/
def Device.countDown (d : Device) (rx : Bool) (alive : Bool) : Device :=
  (List.range 10).foldl (fun d l =>
    if isRx l = rx then d.updLane l fun s => { s with downSince := if alive && d.flag (Reg.LNK.LANE_STATUS_DOWN l) then some d.clock else none } else d) d

/-- The transmit bundle loses its last lane: retained records stay, nothing new is taken (R420). -/
def Device.txDown (d : Device) : Device :=
  let d := (d.setFld Reg.LNK.BUNDLE_STATUS_TX_SET 0).setFlag Reg.LNK.BUNDLE_STATUS_RESTRIPING false
  let d := ((d.setFlag Reg.LNK.SUMMARY_TX_BUNDLE_UP false).count Reg.LNK.CNT_BUNDLE_DOWN).raise .lnk 4
  Device.countDown { d with lnk := { d.lnk with setNext := none, pair := false, made := [] } } false false

/-- The receive lanes that are ACTIVE. -/
def Device.rxActive (d : Device) : List Nat := [8, 9].filter fun l => d.laneState l = 3

/-- The receive bundle after a lane joined or left; a lane that left has an empty deskew buffer (R414, R420). -/
def Device.rxBundle (d : Device) : Device :=
  let up := d.rxActive
  let was := d.flag Reg.LNK.SUMMARY_RX_BUNDLE_UP
  let d := d.setFld Reg.LNK.BUNDLE_STATUS_RX_SET ((up.map fun l => 2 ^ (l - 8)).sum)
  let d := { d with zvl := { d.zvl with buffers := d.zvl.buffers.filter fun b => up.contains b.1, position := d.zvl.position.filter fun b => up.contains b.1 } }
  if up.isEmpty then
    if was then
      let d := ((d.setFlag Reg.LNK.SUMMARY_RX_BUNDLE_UP false).count Reg.LNK.CNT_BUNDLE_DOWN).raise .lnk 4
      Device.countDown { d with zvl := { d.zvl with epoch := none, queue := [], frame := none } } true false
    else d
  else if was then d
  else Device.countDown (d.setFlag Reg.LNK.SUMMARY_RX_BUNDLE_UP true) true true

/-- SUMMARY.ACTIVE of a lane. -/
def Device.setActive (d : Device) (l : Nat) (b : Bool) : Device := d.setFlag ⟨Reg.LNK.SUMMARY, l, 1⟩ b

/-- A lane that is no longer ACTIVE has left a transmit bundle without notice: the rest re-stripes (R417, R418, R420). -/
def Device.restripe (d : Device) : Device :=
  let left := d.wantSet &&& (d.lnk.setNext.getD d.txSet ||| d.txSet)
  if left = 0 && d.wantSet = 0 then d.txDown
  else
    let d := d.setFlag Reg.LNK.BUNDLE_STATUS_RESTRIPING true
    let d := { d with lnk := { d.lnk with setNext := some (if left = 0 then d.wantSet else left)
                                          made := d.lnk.made.filter fun m => d.laneState m.1 = 3 } }
    d.startResend

/-- An ACTIVE lane stops being ACTIVE at once and its bundle follows. -/
def Device.dropLane (d : Device) (l : Nat) (detect : Bool) : Device :=
  let d := (d.setActive l false).restLane l detect
  if isRx l then d.rxBundle else if d.txSet.getLsbD l || (d.lnk.setNext.getD 0).getLsbD l then d.restripe else d

/-- An ACTIVE lane loses lock (R411-R413). -/
def Device.loseLane (d : Device) (l cause : Nat) : Device :=
  if d.laneState l ≠ 3 then d
  else
    let d := ((d.count (Reg.LNK.CNT_LOSS l)).setFld (Reg.LNK.LANE_STATUS_CAUSE l) cause).raise .lnk 1 l
    let recent := ((d.lane l).losses.filter fun t => decide (d.clock < t + 86400 * Config.secondCt)) ++ [d.clock]
    let d := d.updLane l fun s => { s with losses := recent }
    let d := if 3 ≤ recent.length then (d.setFlag (Reg.LNK.LANE_STATUS_REPEATED l) true).raise .lnk 9 l else d
    d.dropLane l true

/-- A lane is removed, then rests in OFF or trains again; an ACTIVE transmit lane of a bundle with others first leaves the lane set (R404, R419). -/
def Device.removeLane (d : Device) (l : Nat) (detect : Bool) : Device :=
  if d.laneState l ≠ 3 then d.restLane l detect
  else if isRx l then ((d.setActive l false).restLane l detect).rxBundle
  else
    let d := d.updLane l fun s => { s with leaving := some detect }
    if d.wantSet = 0 then ((d.setActive l false).restLane l detect).txDown else d.requestSet

/-- A lane follows its EN, its power and its rate (R404): one that is being removed and may train again goes on to a new attempt. -/
def Device.refreshLane (d : Device) (l : Nat) : Device :=
  if d.laneAllowed l then
    (if d.laneState l = 0 then d.startAttempt l
     else if (d.lane l).leaving.isSome then d.updLane l fun s => { s with leaving := some true } else d)
  else if d.laneState l = 0 then d
  else d.removeLane l false

/-- The next lane that a table commit retrains (R398): one that is OFF has nothing left to retrain, and one that is leaving or in training goes on. -/
def Device.nextRetrain (d : Device) : Device :=
  let left := d.lnk.retrain.dropWhile fun l => d.laneState l = 0
  let d := { d with lnk := { d.lnk with retrain := left } }
  match left with
  | [] => d
  | l :: _ => if d.laneState l = 3 && (d.lane l).leaving.isNone then d.removeLane l true else d

/-- A lane's retraining attempt is over. -/
def Device.retrained (d : Device) (l : Nat) : Device :=
  if d.lnk.retrain.head? = some l then Device.nextRetrain { d with lnk := { d.lnk with retrain := d.lnk.retrain.drop 1 } } else d

/-- A transmit lane that has become ACTIVE joins its bundle, or alone forms it again (R419, R420). -/
def Device.joinTx (d : Device) (l : Nat) : Device :=
  if d.flag Reg.LNK.SUMMARY_TX_BUNDLE_UP then d.requestSet
  else
    let d := (d.setFlag Reg.LNK.SUMMARY_TX_BUNDLE_UP true).countDown false true
    let d := { d with lnk := { d.lnk with bsn := 0, setNext := some (BitVec.ofNat 8 (2 ^ l)) } }
    if d.unackedBytes = 0 then d else (d.setFlag Reg.LNK.BUNDLE_STATUS_RESTRIPING true).startResend

/-- A lane's counts and times as it becomes ACTIVE. -/
def LaneSt.begin (s : LaneSt) (now : Nat) : LaneSt :=
  { s with activeSince := now, downSince := none, leaving := none, blocks := 0, codewords := 0, uncorrectable := [], missing := 0, level := 16 }

/-- A lane becomes ACTIVE (R407, R419, R420). -/
def Device.activate (d : Device) (l : Nat) : Device :=
  let d := ((d.setLaneState l 3).setActive l true).setFlag (Reg.LNK.LANE_STATUS_DOWN l) false
  let d := (d.setFlag (Reg.LNK.LANE_STATUS_PERMANENT l) false).raise .lnk 0 l
  let now := d.clock
  let d := d.updLane l fun s => s.begin now
  let d := if isRx l then (d.reportChanged).rxBundle else d.joinTx l
  d.retrained l

/-- What a report says of a transmit lane (R403, R404, R406, R407, R412). -/
def Device.reportLane (d : Device) (l : Nat) (locked ready req : Bool) : Device :=
  let openLoop := d.flag (Reg.LNK.LANE_CTRL_OPEN_LOOP l)
  let d := d.updLane l fun s => { s with locked := locked, ready := ready, precodeReq := req }
  if openLoop then d
  else
    let d := if d.laneState l = 1 && locked then (d.enterTrain l).updLane l fun s => { s with ready := ready } else d
    match d.laneState l with
    | 2 =>
      if !locked then (d.setLaneState l 1).updLane l fun s => { s with final := false, finals := 0 }
      else
        let d := d.setPrecoding l
        if ready then d.updLane l fun s => { s with final := true } else d
    | 3 => if locked then d else d.loseLane l 7
    | _ => d

/-- A report covers every transmit lane that it can name (R402, R403). -/
def Device.report (d : Device) (locked ready req : BitVec 16) : Device :=
  (List.range d.part.txLanes).foldl (fun d l => d.reportLane l (locked.getLsbD l) (ready.getLsbD l) (req.getLsbD l)) d

/-! ### Blocks and messages -/

/-- The bytes of bits [8n + 15 : 16] of a block, from the top: what its CRC-16 covers (R402, R431, R434). -/
def coveredBytes (w n : Nat) : List Nat := ((List.range n).map fun i => w / 2 ^ (8 * (n - 1 - i) + 16) % 256)

/-- A 256-bit control block's CRC holds (R431, R434). -/
def blockCrcOk (w : BitVec 257) : Bool := w.toNat % 65536 = crc16 (coveredBytes w.toNat 30)

/-- A control-form block: TYPE, the rest down to bit 16, and the CRC (R425, R431, R434). -/
def controlBlock (type : BitVec 4) (body : BitVec 236) : BitVec 257 :=
  let top : BitVec 240 := type ++ body
  (1#1 : BitVec 1) ++ top ++ BitVec.ofNat 16 (crc16 (coveredBytes (top.toNat * 65536) 30))

/-- A message block: MSG and body (R434). -/
def messageBlock (msg : BitVec 8) (body : BitVec 228) : BitVec 257 := controlBlock 1 (msg ++ body)

/-- An IDLE block (R425). -/
def idleBlock : BitVec 257 := (1#1 : BitVec 1) ++ (3#4 : BitVec 4) ++ (0 : BitVec 252)
/-- A FILL block (R425). -/
def fillBlock : BitVec 257 := (1#1 : BitVec 1) ++ (2#4 : BitVec 4) ++ (0 : BitVec 252)

/-- An ALIGN block (R431). -/
def alignBlock (lane : Nat) (set : BitVec 8) (epoch : BitVec 16) (setBsn nextBsn : BitVec 48) (pair : Nat) : BitVec 257 :=
  controlBlock 4 (BitVec.ofNat 4 lane ++ set ++ epoch ++ setBsn ++ nextBsn ++ BitVec.ofNat 2 pair ++ (0 : BitVec 110))

/-- DATA blocks of four words each, the last one padded (R426, R437). -/
def dataBlocks : Nat → List W64 → List (BitVec 257)
  | 0, _ => []
  | n + 1, ws =>
    let w (k : Nat) : W64 := ws.getD k 0
    ((0#1 : BitVec 1) ++ (w 0 ++ w 1 ++ w 2 ++ w 3)) :: dataBlocks n (ws.drop 4)

/-- What the device reports of its own receive lanes (R402, R442): LOCKED, READY, PRECODE_REQ. -/
def Device.ownReport (d : Device) : BitVec 48 :=
  let bits (p : Nat → Bool) : BitVec 16 := BitVec.ofNat 16 (([8, 9].filter p).map fun l => 2 ^ d.fld (Reg.LNK.LANE_STATUS_PARTNER l)).sum
  let locked := bits fun l => d.laneState l = 2 || d.laneState l = 3
  let ready := bits fun l => (d.laneState l = 2 || d.laneState l = 3) && (d.lane l).ready
  let req := bits fun l => d.laneState l ≠ 0 && d.flag (Reg.LNK.LANE_CTRL_PRECODE l)
  locked ++ ready ++ req

/-- What happens to the receive lanes; where it changes the device's own report, an LSTATUS is owed (R442). -/
def Device.reporting (d : Device) (f : Device → Device) : Device :=
  let e := f d
  if e.ownReport = d.ownReport then e else e.reportChanged

/-- The body of an EVENT message (R451). -/
def eventBody (e : EventMsg) (lost : Bool) : BitVec 228 :=
  BitVec.ofNat 8 e.source ++ BitVec.ofNat 8 e.code ++ e.detail ++ e.frame ++ e.toa ++ BitVec.ofBool lost ++ (0 : BitVec 115)

/-- The last block of a data frame has been serialised (R416, R417); what it sent again is counted (R423). -/
def Device.frameSent (d : Device) : Device :=
  match d.lnk.sendingSeq with
  | none => d
  | some q =>
    let mine := d.lnk.frames.filter fun f => f.seq == q
    let done := mine.flatMap (·.serials)
    let mark (f : SentFrame) : SentFrame := if f.seq = q then { f with sentAt := some d.clock } else f
    let again := ((d.lnk.resend0.filter fun n => done.contains n).map fun n => ((d.oqRecord n).map fun r => r.words.length).getD 0).sum
      + (mine.map fun f => min f.words.length (d.lnk.resend1 - f.first)).sum
    let d := { d with lnk := { d.lnk with sendingSeq := none, frames := d.lnk.frames.map mark, resend0 := d.lnk.resend0.filter fun n => !done.contains n } }
    if again = 0 then d else d.countResent (8 * again)

/-- The blocks of the data frame in progress that may go now: none between a loss and the codeword boundary that brings in the smaller set (R417). -/
def Device.sendable (d : Device) : List (BitVec 257) :=
  if d.flag Reg.LNK.BUNDLE_STATUS_RESTRIPING && d.lnk.setNext.isSome then [] else d.lnk.sending

/-- The next bundle block, by the transmitter's order (R436). -/
def Device.makeBlock (d : Device) : Device × BitVec 257 :=
  if d.zvl.statusDue then ({ d with zvl := { d.zvl with statusDue := false, statusAt := d.clock } }, messageBlock 3 (d.ownReport ++ (0 : BitVec 180)))
  else if d.zvl.ackDue then
    ({ d with zvl := { d.zvl with ackDue := false, ackAt := d.clock } }, messageBlock 2 (d.zvl.accepted.getD 0 ++ (0 : BitVec 196)))
  else match d.zvl.resps with
    | r :: rest => ({ d with zvl := { d.zvl with resps := rest } }, messageBlock 0x18 r)
    | [] => match d.eventQ with
      | e :: rest => (Device.count { d with eventQ := rest, eventLost := false } Reg.ZVL.CNT_EV_TX, messageBlock 0x30 (eventBody e d.eventLost))
      | [] => match d.sendable with
        | b :: rest =>
          let d := if b.getLsbD 256 then d.count Reg.ZVL.CNT_DFRAME_TX else d
          let d := { d with lnk := { d.lnk with sending := rest } }
          (if rest.isEmpty then d.frameSent else d, b)
        | [] => (d, idleBlock)

/-- The lane of a bundle block under the set in force (R429). -/
def Device.blockLane (d : Device) (b : BitVec 48) : Nat :=
  let ls := setLanes d.txSet
  ls.getD ((b - d.lnk.setBsn).toNat % ls.length) 0

/-- Bundle blocks are made in BSN order until lane `l` has one to send. On a lane that is lost no block is placed: those of its BSNs are empty (R417). -/
def Device.makeFor (d : Device) (l : Nat) : Nat → Device
  | 0 => d
  | n + 1 =>
    if d.lnk.made.any fun m => m.1 = l then d
    else
      let b := d.lnk.bsn
      let k := d.blockLane b
      if d.laneState k ≠ 3 then Device.makeFor { d with lnk := { d.lnk with bsn := b + 1 } } l n
      else
        let (d, w) := d.makeBlock
        Device.makeFor { d with lnk := { d.lnk with bsn := b + 1, made := d.lnk.made ++ [(k, b, w)] } } l n

/-- The BSN of the bundle block that a lane sends next (R431). -/
def Device.nextBsn (d : Device) (l : Nat) : BitVec 48 :=
  match d.lnk.made.find? fun m => m.1 = l with
  | some m => m.2.1
  | none =>
    match (List.range 8).find? fun k => d.blockLane (d.lnk.bsn + BitVec.ofNat 48 k) = l with
    | some k => d.lnk.bsn + BitVec.ofNat 48 k
    | none => d.lnk.bsn

/-- One lane's block at this block time: an ALIGN of a set change, a FILL, a regular ALIGN, or its next bundle block (R391, R393, R427, R432). -/
def Device.laneSlot (d : Device) (pair : Nat) (l : Nat) : Device :=
  if d.laneState l ≠ 3 then d else
  let i := (d.lane l).blocks
  let d := d.updLane l fun s => { s with blocks := i + 1 }
  let align (k : Nat) : BitVec 257 := alignBlock l d.txSet d.lnk.epoch d.lnk.setBsn (d.nextBsn l) k
  if pair ≠ 0 then d.send (.laneBlock l (align pair))
  else if i % 4096 = 4095 then (d.count (Reg.LNK.CNT_FILL_SENT l)).send (.laneBlock l fillBlock)
  else if i % 81920 = 0 then d.send (.laneBlock l (align 0))
  else
    let d := d.makeFor l 8
    match d.lnk.made.find? fun m => m.1 = l with
    | some m =>
      let d := { d with lnk := { d.lnk with made := d.lnk.made.filter fun x => x.2.1 != m.2.1 } }
      d.send (.laneBlock l m.2.2)
    | none => d

/-- A block time of an ACTIVE lane outside the set (R391, R393, R432). A lane that leaves first sends the blocks that are numbered for it; any other
waits for the set that it joins, from a codeword boundary on. DESIGN CHOICE (log 135): what a waiting lane sends where no FILL and no ALIGN stands is free. -/
def Device.waitSlot (d : Device) (boundary : Bool) (l : Nat) : Device :=
  let i := (d.lane l).blocks
  let mine := d.lnk.made.find? fun m => m.1 = l
  if d.laneState l ≠ 3 || d.txSet.getLsbD l || (i = 0 && !boundary) then d
  else
    let d := d.updLane l fun s => { s with blocks := i + 1 }
    if i % 4096 = 4095 then (d.count (Reg.LNK.CNT_FILL_SENT l)).send (.laneBlock l fillBlock)
    else if i % 81920 = 0 then d.send (.laneBlock l (alignBlock l d.txSet d.lnk.epoch d.lnk.setBsn (d.nextBsn l) 0))
    else match mine with
      | some m => Device.send { d with lnk := { d.lnk with made := d.lnk.made.filter fun x => x.2.1 != m.2.1 } } (.laneBlock l m.2.2)
      | none => if (d.lane l).leaving.isSome then d else d.draw.send (.laneBlock l (Config.waitingBlock d.free))

/-- The lanes that have left the set and sent what was numbered for them go where they were sent (R419). -/
def Device.leaveLanes (d : Device) : Device :=
  ((List.range 8).foldl (fun d l =>
    match (d.lane l).leaving with
    | some detect =>
      if d.laneState l = 3 && !d.txSet.getLsbD l && !d.lnk.made.any fun m => m.1 = l then (d.setActive l false).restLane l detect else d
    | none => d) d).nextRetrain

/-- The control word of a transmit lane's next training frame (R402, R403, R406, R407); final frames carry LAST, and LEFT from 3 down. -/
def Device.controlWord (d : Device) (l : Nat) : BitVec 128 :=
  let s := d.lane l
  let left : BitVec 2 := if s.final then BitVec.ofNat 2 (3 - s.finals) else 0
  let top : BitVec 112 := (0xA#4 : BitVec 4) ++ BitVec.ofNat 4 l ++ BitVec.ofNat 4 (d.laneState l)
    ++ BitVec.ofBool (d.flag (Reg.LNK.LANE_STATUS_PRECODED l)) ++ BitVec.ofBool s.final ++ left ++ (0 : BitVec 16) ++ d.ownReport ++ s.frameCount
    ++ (0 : BitVec 16)
  top ++ BitVec.ofNat 16 (crc16 (coveredBytes (top.toNat * 65536) 14))

/-- A block time of a transmit lane in training, 136 symbols long (R386, R401): it ends a training frame of 4,096 symbols now and then, and the next
begins with its control word; after the fourth final frame codeword 0 follows. -/
def Device.trainSlot (d : Device) (l : Nat) : Device :=
  let s := d.lane l
  if (d.laneState l ≠ 1 && d.laneState l ≠ 2) || s.finals = 4 then d
  else if s.symbols = 0 || 4096 ≤ s.symbols + 136 then
    let d := d.send (.trainingFrame l (d.controlWord l))
    let rest := if s.symbols = 0 then 136 else s.symbols + 136 - 4096
    d.updLane l fun s => { s with symbols := max 1 rest, frameCount := s.frameCount + 1, finals := if s.final then s.finals + 1 else 0 }
  else d.updLane l fun s => { s with symbols := s.symbols + 136 }

/-- One block time of the shared transmit clock (R427-R432): a set change begins at a codeword boundary, with a pair of ALIGNs; lanes outside the set
and lanes in training have their block times too. -/
def Device.transmitSlot (d : Device) : Device :=
  let boundary := d.lnk.slot % 20 = 0
  let (d, pair) :=
    if !boundary then (d, 0)
    else match d.lnk.setNext with
      | some set =>
        let d := d.setFld Reg.LNK.BUNDLE_STATUS_TX_SET set.toNat
        ({ d with lnk := { d.lnk with setNext := none, epoch := d.lnk.epoch + 1, setBsn := d.lnk.bsn, pair := true
                                      made := d.lnk.made.filter fun m => d.laneState m.1 = 3 } }, 1)
      | none => if d.lnk.pair then ({ d with lnk := { d.lnk with pair := false } }, 2) else (d, 0)
  let d := (setLanes d.txSet).foldl (fun d l => d.laneSlot pair l) d
  let d := (List.range 8).foldl (fun d l => (d.waitSlot boundary l).trainSlot l) d
  Device.leaveLanes { d with lnk := { d.lnk with slot := d.lnk.slot + 1 } }

/-! ### Data frames (R437, R438, R441) -/

/-- The number of a record's unit; a record taken for the first time gets the next one. -/
def Device.unitOf (d : Device) (n : Nat) : Nat := SMap.get (fun _ => 0) d.lnk.units n

/-- Words of whole units that coder context 1 has ready become a chunk. -/
def Device.takeChunk (d : Device) : Device :=
  if (d.coder 1).emit.isEmpty then d
  else
    let (d, words, serials) := d.takeWords 1 (d.coder 1).emit.length
    { d with lnk := { d.lnk with chunks := d.lnk.chunks ++ [{ words := words, serials := serials }] } }

/-- Words that wait in chunks. -/
def Device.chunkWords (d : Device) : Nat := (d.lnk.chunks.map fun c => c.words.length).sum

/-- The lane path takes records from the output queue until `cap` words wait (R414-R416, R421): records to be resent always, new ones while the page is
enabled and the retained data are below their limit. -/
def Device.laneIntake (d : Device) (cap : Nat) : Nat → Device
  | 0 => d.takeChunk
  | n + 1 =>
    let d := d.takeChunk
    if cap ≤ d.chunkWords then d
    else match d.evb.laneTodo with
      | [] => d
      | k :: rest =>
        let again := d.lnk.resend0.contains k
        match d.oqRecord k with
        | none => Device.laneIntake { d with evb := { d.evb with laneTodo := rest } } cap n
        | some r =>
          if (again || (d.enabled .lnk && !d.laneHeld)) && d.streamTakes 1 r then
            let d := Device.delivered { d with evb := { d.evb with laneTodo := rest } } 5
            let d := if again then d
              else { d with lnk := { d.lnk with units := SMap.insert k d.lnk.unit0 d.lnk.units, unit0 := d.lnk.unit0 + 1 } }
            Device.laneIntake (d.streamRecord 1 r (some k)) cap n
          else d

/-- The chunks that go into one frame of at most `cap` words. -/
def fitChunks (cap : Nat) : List Chunk → List Chunk
  | [] => []
  | c :: rest => if c.words.length ≤ cap then c :: fitChunks (cap - c.words.length) rest else []

/-- FRAME_MAX: values below 65 act as 65 (R454). -/
def Device.frameMax (d : Device) : Nat := max 65 (d.fld Reg.ZVL.FRAME_MAX_NBLK)

/-- A data frame goes out: its DFRAME and its DATA blocks (R437). -/
def Device.sendFrame (d : Device) (stream first : Nat) (words : List W64) (serials : List Nat) : Device :=
  let nblk := (words.length + 3) / 4
  let seq := d.lnk.seq
  let body : BitVec 228 := seq ++ BitVec.ofNat 11 nblk ++ BitVec.ofNat 2 stream ++ BitVec.ofBool d.lnk.resendOwed ++ BitVec.ofNat 48 first
    ++ BitVec.ofNat 13 words.length ++ (0 : BitVec 121)
  let f : SentFrame := { seq := seq, serials := serials, first := first, words := if stream = 1 then words else [] }
  let idle := d.lnk.frames.isEmpty
  { d with lnk := { d.lnk with seq := seq + 1, resendOwed := false, frames := d.lnk.frames ++ [f], sendingSeq := some seq
                               sending := messageBlock 1 body :: dataBlocks nblk words
                               advanced := if idle then d.clock else d.lnk.advanced } }

/-- A frame of stream 0 is formed from the units that wait (R438). -/
def Device.sendRecords (d : Device) : Device :=
  let cap := 4 * d.frameMax
  let d := d.laneIntake cap (d.evb.laneTodo.length + 1)
  let cs := fitChunks cap d.lnk.chunks
  match cs.flatMap (·.serials) with
  | [] => d
  | k :: ks =>
    let d := { d with lnk := { d.lnk with chunks := d.lnk.chunks.drop cs.length } }
    d.sendFrame 0 (d.unitOf k) (cs.flatMap (·.words)) (k :: ks)

/-- A frame of stream 1 is formed from readback words routed to the lanes (R279, R438). -/
def Device.sendReadback (d : Device) : Device :=
  let cap := 4 * d.frameMax
  let lanes := (d.his.running.map (·.lanes)).getD false
  let d := if lanes && d.enabled .lnk && !d.laneHeld then
      let (d, ws) := d.takeReadback (cap - d.lnk.words1.length)
      { d with lnk := { d.lnk with words1 := d.lnk.words1 ++ ws } }
    else d
  let ws := d.lnk.words1.take cap
  if ws.isEmpty then d
  else
    let first := d.lnk.unit1
    Device.sendFrame { d with lnk := { d.lnk with words1 := d.lnk.words1.drop cap, unit1 := first + ws.length } } 1 first ws []

end Sys2Proof.Machine
end

