-- ==== Sys2Proof/Machine/RsCode.lean ====
section
/-! DEFINITION. The codewords of the lanes (R386, R388): the Reed-Solomon code RS(544,514) over GF(2¹⁰) and its decoding. PRESUMED (log 136): the
field polynomial x¹⁰ + x³ + 1 and the roots α⁰ to α²⁹ of the generator polynomial are those of IEEE 802.3 clause 91, and the first symbol sent is the
coefficient of x⁵⁴³. -/

namespace Sys2Proof.Machine

/-- A field element times α. -/
def gfDouble (a : Nat) : Nat := if a < 512 then 2 * a else Nat.xor (2 * a - 1024) 9

/-- The product of two field elements. -/
def gfMul (a b : Nat) : Nat :=
  (List.range 10).foldl (fun c i => if b / 2 ^ (9 - i) % 2 = 1 then Nat.xor (gfDouble c) a else gfDouble c) 0

/-- The inverse of a field element other than 0: its power 1,022, the product of its powers 2, 4, 8, ..., 512. -/
def gfInv (a : Nat) : Nat :=
  ((List.range 9).foldl (fun (p : Nat × Nat) _ => let q := gfMul p.1 p.1; (q, gfMul p.2 q)) (a, 1)).2

/-- A power of α. -/
def gfAlpha : Nat → Nat
  | 0 => 1
  | n + 1 => gfDouble (gfAlpha n)

/-- The value of a polynomial, its coefficients from the lowest, at a field element. -/
def gfEval (p : List Nat) (x : Nat) : Nat := p.foldr (fun c v => Nat.xor c (gfMul v x)) 0

/-- The symbols of a codeword in the order they are sent; the bit sent first is the highest (R386). -/
def rsSymbols (w : BitVec 5440) : List Nat := (List.range 544).map fun k => w.toNat / 2 ^ (10 * (543 - k)) % 1024

/-- The thirty syndromes of received symbols: their polynomial at the roots of the generator. -/
def rsSyndromes (symbols : List Nat) : List Nat :=
  (List.range 30).map fun j => let x := gfAlpha j; symbols.foldl (fun v r => Nat.xor (gfMul v x) r) 0

/-- A step of the search for the shortest error locator: the locator, the one before its last lengthening with that step's discrepancy and the
distance to it, and the length. -/
structure RsSearch where
  now : List Nat := [1]
  old : List Nat := [1]
  delta : Nat := 1
  shift : Nat := 1
  len : Nat := 0

/-- The search takes a syndrome: a locator that does not predict it is corrected, and lengthened where it is too short. -/
def RsSearch.next (syndromes : List Nat) (s : RsSearch) (n : Nat) : RsSearch :=
  let found := (List.range (s.len + 1)).foldl (fun v i => Nat.xor v (gfMul (s.now.getD i 0) (if i ≤ n then syndromes.getD (n - i) 0 else 0))) 0
  if found = 0 then { s with shift := s.shift + 1 }
  else
    let factor := gfMul found (gfInv s.delta)
    let size := max s.now.length (s.old.length + s.shift)
    let better := (List.range size).map fun i =>
      Nat.xor (s.now.getD i 0) (if s.shift ≤ i then gfMul factor (s.old.getD (i - s.shift) 0) else 0)
    if 2 * s.len ≤ n then { now := better, old := s.now, delta := found, shift := 1, len := n + 1 - s.len }
    else { s with now := better, shift := s.shift + 1 }

/-- The errors that syndromes point to, by symbol: place and value; none: more than fifteen, or no such errors. -/
def rsErrors (syndromes : List Nat) : Option (List (Nat × Nat)) :=
  let s := (List.range 30).foldl (RsSearch.next syndromes) {}
  let at' (k : Nat) : Nat := gfAlpha ((480 + k) % 1023)
  let places := (List.range 544).filter fun k => gfEval s.now (at' k) = 0
  if 15 < s.len || places.length != s.len then none
  else
    let value := (List.range 30).map fun n =>
      (List.range (n + 1)).foldl (fun v i => Nat.xor v (gfMul (s.now.getD i 0) (syndromes.getD (n - i) 0))) 0
    let slope := (List.range (s.now.length - 1)).map fun i => if i % 2 = 0 then s.now.getD (i + 1) 0 else 0
    some (places.map fun k =>
      (k, gfMul (gfAlpha (543 - k)) (gfMul (gfEval value (at' k)) (gfInv (gfEval slope (at' k))))))

/-- Symbols with errors taken out. -/
def rsCorrect (symbols : List Nat) (errors : List (Nat × Nat)) : List Nat :=
  errors.foldl (fun s e => s.set e.1 (Nat.xor (s.getD e.1 0) e.2)) symbols

/-- The twenty blocks of a codeword's 514 message symbols; the bit sent first is bit 256 of block 0 (R386). -/
def rsBlocks (symbols : List Nat) : List (BitVec 257) :=
  let v := (symbols.take 514).foldl (fun v r => 1024 * v + r) 0
  (List.range 20).map fun i => BitVec.ofNat 257 (v / 2 ^ (257 * (19 - i)))

/-- A received codeword is decoded (R388, R389): the symbols corrected, at most fifteen, and its blocks; none: it is uncorrectable. -/
def rsDecode (w : BitVec 5440) : Option (Nat × List (BitVec 257)) :=
  let symbols := rsSymbols w
  let syndromes := rsSyndromes symbols
  if syndromes.all fun v => v = 0 then some (0, rsBlocks symbols)
  else match rsErrors syndromes with
    | none => none
    | some errors =>
      let fixed := rsCorrect symbols errors
      if (rsSyndromes fixed).all fun v => v = 0 then some (errors.length, rsBlocks fixed) else none

end Sys2Proof.Machine
end

