-- ==== Sys2Proof/Machine/LinkRx.lean ====
section
/-! DEFINITION. What the receive lanes deliver: codewords, rate matching, deskew and de-striping (R388-R393, R411, R425-R433), and the
messages that head the de-striped stream (R434, R435). -/

namespace Sys2Proof.Machine

/-- The deskew buffer of a receive lane. -/
def Device.deskew (d : Device) (l : Nat) : List RxBlock := SMap.get (fun _ => []) d.zvl.buffers l
/-- The deskew buffer of a receive lane changes. -/
def Device.setDeskew (d : Device) (l : Nat) (bs : List RxBlock) : Device :=
  { d with zvl := { d.zvl with buffers := SMap.set (fun _ => []) d.zvl.buffers l bs } }

/-- The receive lane that carries a far lane number (R402). -/
def Device.rxLaneOf (d : Device) (far : Nat) : Option Nat := d.rxActive.find? fun l => d.fld (Reg.LNK.LANE_STATUS_PARTNER l) = far

/-- The far lane number of bundle block `b`: under the set in force from its SET_BSN on, under the set before it below (R429, R433). -/
def Device.farLane (d : Device) (b : BitVec 48) : Nat :=
  let cur := decide (d.zvl.setBsn ≤ b)
  let set := if cur then d.zvl.set else d.zvl.oldSet
  let base := if cur then d.zvl.setBsn else d.zvl.oldBsn
  let ls := ([0, 1] : List Nat).filter fun l => set.getLsbD l
  ls.getD ((b - base).toNat % ls.length) 0

/-- The BSN that follows `p` on a far lane. -/
def Device.bsnAfter (d : Device) (far : Nat) (p : BitVec 48) : BitVec 48 :=
  match ([1, 2, 3] : List Nat).find? fun k => d.farLane (p + BitVec.ofNat 48 k) = far with
  | some k => p + BitVec.ofNat 48 k
  | none => p + 1

/-- Bundle blocks pass on in BSN order while the block that comes next has arrived; one of a lane that is gone counts as errored (R433). -/
def Device.destripe (d : Device) : Nat → Device
  | 0 => d
  | n + 1 =>
    if d.zvl.epoch.isNone then d
    else
      let b := d.zvl.next
      let far := d.farLane b
      match d.rxLaneOf far with
      | none =>
        if b < d.zvl.setBsn then
          Device.destripe (Device.count { d with zvl := { d.zvl with next := b + 1, queue := d.zvl.queue ++ [none] } } Reg.ZVL.CNT_ERR_BLOCK) n
        else d
      | some l =>
        match d.deskew l, d.zvl.position.find? fun p => p.1 = l with
        | .bundle w :: rest, some p =>
          if p.2 = b then
            let d := d.setDeskew l rest
            let d := if w.isNone then d.count Reg.ZVL.CNT_ERR_BLOCK else d
            Device.destripe { d with zvl := { d.zvl with next := b + 1, queue := d.zvl.queue ++ [w]
                                                         position := SMap.insert l (d.bsnAfter far b) d.zvl.position } } n
          else if p.2 < b then
            Device.destripe { d.setDeskew l rest with zvl := { (d.setDeskew l rest).zvl with position := SMap.insert l (d.bsnAfter far p.2) d.zvl.position } } n
          else
            Device.destripe (Device.count { d with zvl := { d.zvl with next := b + 1, queue := d.zvl.queue ++ [none] } } Reg.ZVL.CNT_ERR_BLOCK) n
        | _, _ => d

/-! ### The de-striped stream -/

/-- MSG of a CTRL block (R434). -/
def msgOf (w : BitVec 257) : Nat := (w.extractLsb' 244 8).toNat
/-- A field of a message body. -/
def bodyField (w : BitVec 257) (lsb width : Nat) : Nat := w.toNat / 2 ^ lsb % 2 ^ width

/-- A DFRAME's fields are valid (R437). -/
def dframeValid (w : BitVec 257) : Bool :=
  let nblk := bodyField w 201 11
  let words := bodyField w 137 13
  decide (1 ≤ nblk) && decide (1 ≤ words) && decide (words ≤ 8188) && nblk == (words + 3) / 4 && bodyField w 199 2 != 3

/-- A receiver takes this message (R434, R435): its CRC holds, its MSG travels inward, its fields are valid. -/
def messageOk (w : BitVec 257) : Bool :=
  blockCrcOk w && ([1, 2, 3, 0x10, 0x11, 0x12, 0x20, 0x21] : List Nat).contains (msgOf w) && (msgOf w != 1 || dframeValid w)

/-- A frame in progress is discarded, unless it goes by as discarded since its DFRAME (R437). -/
def Device.discardFrame (d : Device) : Device :=
  match d.zvl.frame with
  | none => d
  | some f =>
    let d := { d with zvl := { d.zvl with frame := none } }
    if f.take then (d.count Reg.ZVL.CNT_DFRAME_DISCARD).raise .zvl 1 else d

/-- Blocks at the head of the stream that need no command of their own go by: errored ones, IDLE, messages that are discarded (R428, R434). -/
def Device.skipBlocks (d : Device) : Nat → Device
  | 0 => d
  | n + 1 =>
    match d.zvl.queue with
    | [] => d
    | none :: rest => Device.skipBlocks (Device.discardFrame { d with zvl := { d.zvl with queue := rest } }) n
    | some w :: rest =>
      if !w.getLsbD 256 then d
      else if w.extractLsb' 252 4 = 3#4 then Device.skipBlocks { d with zvl := { d.zvl with queue := rest } } n
      else if messageOk w then d
      else Device.skipBlocks ((Device.count { d with zvl := { d.zvl with queue := rest } } Reg.ZVL.CNT_BAD_MSG).raise .zvl 0) n

/-- Everything that can move now moves. -/
def Device.pumpRx (d : Device) : Device :=
  let d := d.destripe (((d.zvl.buffers.map fun b => b.2.length).sum) * 2 + 600)
  d.skipBlocks d.zvl.queue.length

/-- The head of the stream is a message with this MSG: it is taken, and what it does is done. -/
def Device.takeMessage (d : Device) (msg : Nat) (f : Device → BitVec 257 → Device) : Device :=
  match d.zvl.queue with
  | some w :: rest =>
    if w.getLsbD 256 && msgOf w = msg then
      let d := f { d with zvl := { d.zvl with queue := rest } } w
      d.skipBlocks d.zvl.queue.length
    else d
  | _ => d

/-! ### Codewords -/

/-- A decoded block enters the deskew buffer by its form; one with a reserved TYPE counts as errored (R425, R428). -/
def Device.rxBlock (d : Device) (l : Nat) (w : BitVec 257) : Device :=
  let push (d : Device) (b : RxBlock) : Device := d.setDeskew l (d.deskew l ++ [b])
  if !w.getLsbD 256 then push d (.bundle (some w))
  else match (w.extractLsb' 252 4).toNat with
    | 1 => push d (.bundle (some w))
    | 3 => push d (.bundle (some w))
    | 2 =>
      if 20 ≤ (d.lane l).level then
        (d.updLane l fun s => { s with level := s.level - 1 }).count (Reg.LNK.CNT_FILL_DEL l)
      else d
    | 4 => if blockCrcOk w then push d (.align w) else d
    | _ => push d (.bundle none)

/-- A block of an uncorrectable codeword, by its position (R428). -/
def Device.rxErrored (d : Device) (l i : Nat) : Device :=
  if i % 4096 = 4095 || i % 81920 = 0 then d else d.setDeskew l (d.deskew l ++ [.bundle none])

/-- FILL blocks are inserted while the elastic buffer's level is 12 or less (R392). -/
def Device.insertFill (d : Device) (l : Nat) : Nat → Device
  | 0 => d
  | n + 1 =>
    if (d.lane l).level ≤ 12 then
      Device.insertFill ((d.updLane l fun s => { s with level := s.level + 1 }).count (Reg.LNK.CNT_FILL_INS l)) l n
    else d

/-- The ALIGN that R393 requires at block 0 is there. -/
def alignThere (decoded : Option (Nat × List (BitVec 257))) : Bool :=
  match decoded with
  | some (_, w :: _) => w.getLsbD 256 && w.extractLsb' 252 4 = 4#4 && blockCrcOk w
  | _ => false

/-- The bundle blocks that wait in a lane's deskew buffer. -/
def Device.deskewLevel (d : Device) (l : Nat) : Nat :=
  ((d.deskew l).filter fun b => match b with
    | .bundle _ => true
    | .align _ => false).length

/-- One lane waits with a full deskew buffer for the other: that one loses lock (R433). -/
def Device.deskewFull (d : Device) (l : Nat) : Device :=
  if d.deskewLevel l < 256 then d
  else match d.rxLaneOf (d.farLane d.zvl.next) with
    | some k => if k = l then d else d.loseLane k 3
    | none => d

/-- A receive lane's codeword (R388-R393, R411): the elastic buffer's level after the clocks' drift, the symbols corrected and the blocks (none:
uncorrectable), the FILL matching, the causes of a loss. -/
def Device.rxCodeword (d : Device) (l : Nat) (decoded : Option (Nat × List (BitVec 257))) (slip : Int) : Device :=
  let cw := (d.lane l).codewords
  let level := (d.lane l).level + slip
  let d := (d.count (Reg.LNK.CNT_CW l)).updLane l fun s => { s with codewords := cw + 1, level := (max 0 (min 32 level)).toNat }
  let d := match decoded with
    | some (corrected, bs) => bs.foldl (fun (d : Device) w => d.rxBlock l w) (d.count (Reg.LNK.CNT_CORR_SYM l) corrected)
    | none =>
      let d := (d.count (Reg.LNK.CNT_UE_CW l)).raise .lnk 10 l
      let recent := ((d.lane l).uncorrectable.filter fun k => decide (cw < k + 1024)) ++ [cw]
      let d := d.updLane l fun s => { s with uncorrectable := recent }
      (List.range 20).foldl (fun d k => d.rxErrored l (20 * cw + k)) d
  let need := cw % 4096 = 0
  let there := alignThere decoded
  let d := if need then d.updLane l fun s => { s with missing := if there then 0 else s.missing + 1 } else d
  if level ≤ 0 ∨ 32 ≤ level then d.loseLane l 4
  else if 8 ≤ (d.lane l).uncorrectable.length then d.loseLane l 2
  else if need && !there && (cw = 0 || decide (2 ≤ (d.lane l).missing)) then d.loseLane l 3
  else
    let d := d.insertFill l 20
    (d.pumpRx).deskewFull l

/-- The ALIGN at the head of a lane's deskew buffer (R431, R433): the lane's position, and a later set. -/
def Device.takeAlign (d : Device) (l : Nat) : Device :=
  match d.deskew l with
  | .align w :: rest =>
    let d := d.setDeskew l rest
    let epoch : BitVec 16 := w.extractLsb' 224 16
    let setBsn : BitVec 48 := w.extractLsb' 176 48
    let next : BitVec 48 := w.extractLsb' 128 48
    let later := match d.zvl.epoch with
      | none => true
      | some e => decide (0 < (epoch - e).toNat) && decide ((epoch - e).toNat < 2 ^ 15)
    let first := d.zvl.epoch.isNone
    let d := { d with zvl := { d.zvl with position := SMap.insert l next d.zvl.position } }
    let d := if later then
        { d with zvl := { d.zvl with oldSet := d.zvl.set, oldBsn := d.zvl.setBsn, set := w.extractLsb' 240 2, setBsn := setBsn, epoch := some epoch
                                     next := if first then (if w.extractLsb' 126 2 = 0#2 then next else setBsn) else d.zvl.next } }
      else d
    d.pumpRx
  | _ => d

end Sys2Proof.Machine
end

