-- ==== Sys2Proof/Machine/Time.lean ====
section
/-! DEFINITION. The commands of the timing island and of the time correction unit (spec/03). -/

namespace Sys2Proof.Machine

/-! ### TREF and LOCK -/

/-- The frequency window of TREF in kHz (R82). -/
def trefInWindow (khz : Nat) : Bool := decide (148000 ≤ khz) && decide (khz ≤ 172000)

/-- PLLs in lock. -/
def Device.pllLocks (d : Device) : BitVec 3 := BitVec.ofNat 3 (d.fld Reg.TIM0.STATUS_PLL_LOCK)

/-- How many of three bits are 1. -/
def ones3 (b : BitVec 3) : Nat := (b.getLsbD 0).toNat + (b.getLsbD 1).toNat + (b.getLsbD 2).toNat

/-- LOCK follows TREF and the PLLs (R84): its loss raises TREF_LOST or ISLAND_FAULT (R85), its return LOCK_RESTORED and SYNC_STALE (R86).
DESIGN CHOICE (log 113): the first LOCK after power-up ends no loss and raises nothing. -/
def Device.evalLock (d : Device) : Device :=
  let tref := d.flag Reg.TIM0.STATUS_TREF_PRESENT
  let now := tref && decide (2 ≤ ones3 d.pllLocks)
  let was := d.flag Reg.TIM0.STATUS_LOCK
  if now = was then d
  else if was then (d.setFlag Reg.TIM0.STATUS_LOCK false).raise .tim0 (if tref then 2 else 0)
  else
    let had := d.tim.hadLock
    let d := d.setFlag Reg.TIM0.STATUS_LOCK true
    let d := { d with tim := { d.tim with hadLock := true, dspClock := true } }
    if had then
      let d := (d.setFlag Reg.TIM0.STATUS_SYNC_STALE true).raise .tim0 1
      { d with trg := { d.trg with armNext := true } }
    else d

/-- TREF counts as lost (R82, R85): the PLLs hold their voltage without lock. -/
def Device.trefLost (d : Device) : Device :=
  (((d.setFlag Reg.TIM0.STATUS_TREF_PRESENT false).setFld Reg.TIM0.STATUS_PLL_LOCK 0).evalLock).haltAdcs (fun _ => true) true

/-- A frequency measurement (R82). While REFCLK is absent there is none: a value of 0 changes nothing, any other shows that REFCLK is back
(R598; log 64). -/
def Device.measureTref (d : Device) (khz : Nat) : Device :=
  if !d.domOn 1 || (!d.tim.refclk && khz = 0) then d
  else
    let d := Device.setFld { d with tim := { d.tim with refclk := true } } Reg.TIM0.TREF_FREQ_KHZ khz
    if trefInWindow khz then
      if d.tim.freqLost then
        (Device.setFlag { d with tim := { d.tim with freqLost := false } } Reg.TIM0.STATUS_TREF_PRESENT true)
      else d
    else if d.flag Reg.TIM0.STATUS_TREF_PRESENT then Device.trefLost { d with tim := { d.tim with freqLost := decide (0 < khz) } }
    else d

/-- TREF_FREQ_MEASURE (R82, R598). -/
def execTrefFreqMeasure (khz : BitVec 18) (s : State) : Res := run (fun d => d.measureTref khz.toNat) s

/-- TREF_EDGE_RESUME (R82): TREF is present from the first edge after power-up or after a loss, of either kind. -/
def execTrefEdgeResume (s : State) : Res :=
  run (fun d => if d.domOn 1 then Device.setFlag { d with tim := { d.tim with freqLost := false } } Reg.TIM0.STATUS_TREF_PRESENT true else d) s

/-- TREF_GAP (R82). -/
def execTrefGap (s : State) : Res :=
  run (fun d => if d.domOn 1 then Device.trefLost { d with tim := { d.tim with freqLost := false } } else d) s

/-- LOCK_ACQUIRED (R84, R86): the PLLs that are locked and in phase; their restart is over. -/
def execLockAcquired (plls : BitVec 3) (s : State) : Res :=
  run (fun d => if d.domOn 1 && d.flag Reg.TIM0.STATUS_TREF_PRESENT then
    (Device.setFld { d with tim := { d.tim with restarting := d.tim.restarting &&& ~~~plls } } Reg.TIM0.STATUS_PLL_LOCK (d.pllLocks ||| plls).toNat).evalLock
    else d) s

/-- A PLL loses its lock (R83): it is out of the vote, where its counter drifts from the majority, and the island restarts it. -/
def Device.pllLost (d : Device) (pll : Fin 3) : Device :=
  let skew := SMap.set (fun _ => 0) d.tim.skew pll.val (Config.pllSkew d.free)
  let d := { d with tim := { d.tim with restarting := d.tim.restarting ||| BitVec.ofNat 3 (2 ^ pll.val), skew := skew } }
  (d.draw.setFlag ⟨Reg.TIM0.STATUS, 1 + pll.val, 1⟩ false).evalLock

/-- PLL_LOSS_OF_LOCK (R83, R85). -/
def execPllLossOfLock (pll : Fin 3) (s : State) : Res := run (fun d => if d.domOn 1 then d.pllLost pll else d) s

/-- A counter in the vote that disagrees with the majority is loaded from it, counted and raised (R83, R115). -/
def Device.voteError (d : Device) (pll : Fin 3) : Device :=
  let d := { d with tim := { d.tim with skew := SMap.set (fun _ => 0) d.tim.skew pll.val 0 } }
  (d.count Reg.TIM0.VOTE_ERRORS).raise .tim0 3

/-- VOTE_ERROR (R83): a PLL without lock is not in the vote. -/
def execVoteError (pll : Fin 3) (s : State) : Res :=
  run (fun d => if d.domOn 1 && d.pllLocks.getLsbD pll.val then d.voteError pll else d) s

/-- All three PLLs restart (R116). -/
def Device.restartPlls (d : Device) : Device :=
  (Device.setFld { d with tim := { d.tim with restarting := 7 } } Reg.TIM0.STATUS_PLL_LOCK 0).evalLock

/-- PLL_RESTART (R116). -/
def execPllRestart (s : State) : Res := run (fun d => if d.domOn 1 then d.restartPlls else d) s

/-- DLL_LOCK_ACHIEVED (R94). -/
def execDllLockAchieved (die : Die) (s : State) : Res :=
  run (fun d => if d.domOn 1 && d.hasDie die.val && d.domOn (25 + 11 * die.val) && d.tim.hadLock then
    d.setFlag ⟨Reg.TIM0.STATUS, 8 + die.val, 1⟩ true else d) s

/-- A die's DLL loses lock (R94, R115). -/
def Device.dllUnlock (d : Device) (n : Nat) : Device :=
  if d.flag ⟨Reg.TIM0.STATUS, 8 + n, 1⟩ then (d.setFlag ⟨Reg.TIM0.STATUS, 8 + n, 1⟩ false).raise .tim0 4 n else d

/-- DLL_UNLOCK (R94). -/
def execDllUnlock (die : Die) (s : State) : Res := run (fun d => d.dllUnlock die.val) s

/-! ### SYNC -/

/-- What a SYNC edge under MODE, SYNC_FRAME and SYNC_PHASE starts: its load tick lies 32 CT after the TREF edge (R89). -/
def Device.syncEdge (d : Device) : SyncEdge :=
  { mode := d.fld Reg.TIM0.SYNC_CTRL_MODE
    frame := BitVec.ofNat 8 (d.fld Reg.TIM0.SYNC_FRAME_HI_FRAME) ++ BitVec.ofNat 32 (d.fld Reg.TIM0.SYNC_FRAME_LO_FRAME)
    phase := BitVec.ofNat 18 (d.fld Reg.TIM0.SYNC_PHASE_CT)
    loadAt := d.tim.count + 32 }

/-- A SYNC edge is seen: SYNC_SEEN, and a new epoch in every mode but OFF (R88, R89). DESIGN CHOICE (log 114): SYNC_SEEN is raised in MODE OFF too. -/
def Device.seeSync (d : Device) (mode : Nat) : Device :=
  let d := if mode = 0 then d else d.setFld Reg.TIM0.EPOCH_COUNT (d.fld Reg.TIM0.EPOCH_COUNT + 1)
  d.raise .tim0 5

/-- SYNC_EDGE (R89): no edge is seen while LOCK is 0. -/
def execSyncEdge (s : State) : Res :=
  run (fun d => if d.domOn 1 && d.flag Reg.TIM0.STATUS_LOCK then
    let e := d.syncEdge
    Device.seeSync { d with tim := { d.tim with sync := d.tim.sync ++ [e] } } e.mode
    else d) s

/-- FE_INHIBIT has been 1 for at least 8,192 CT (R90). -/
def Device.mayLoad (d : Device) : Bool :=
  match d.tim.inhibitSince with
  | some t => d.feInhibit && decide (t + 8192 ≤ d.clock)
  | none => false

/-- Compare only: SYNC_MISMATCH when the CT at the load tick is not SYNC_PHASE (R89). -/
def Device.checkSync (d : Device) (phase : BitVec 18) : Device :=
  let d' := d.setFld Reg.TIM0.SYNC_LAST_CT d.ct.toNat
  if d.ct = phase then d' else d'.raise .tim0 6

/-- A TSYNC whose load tick is that of a SYNC_IN load is a check (R450). -/
def Device.yieldTsync (d : Device) (e : SyncEdge) : Device :=
  let check (x : SyncEdge) : SyncEdge := if x.loadAt = e.loadAt then { x with mode := 2 } else x
  { d with tim := { d.tim with tsync := d.tim.tsync.map check } }

/-- The load tick of a SYNC edge (R89, R90): `tref` is the phase measured at the start of a frame that a load begins. DESIGN CHOICE (log 115): a
LOCK lost after the edge changes nothing at its load tick. -/
def Device.loadTick (d : Device) (e : SyncEdge) (tref : BitVec 16) : Device :=
  let d := d.advanceTo e.loadAt
  if e.mode = 0 then d.setFld Reg.TIM0.SYNC_LAST_CT d.ct.toNat
  else if e.mode = 2 then d.checkSync e.phase
  else if d.mayLoad then
    let d := (d.yieldTsync e).loadTimeBase e.frame e.phase tref
    if e.mode = 1 then d.setFld Reg.TIM0.SYNC_CTRL_MODE 2 else d
  else ((d.yieldTsync e).raise .tim0 7).checkSync e.phase

/-- SYNC_LOAD_TICK (R89, R90). -/
def execSyncLoadTick (phase : BitVec 16) (s : State) : Res :=
  run (fun d => match d.tim.sync with
    | e :: rest => if d.domOn 1 then Device.loadTick { d with tim := { d.tim with sync := rest } } e phase else d
    | [] => d) s

/-! ### TIM.CTRL -/

/-- FE_INHIBIT takes a value; the clock since when it is 1 goes with it (R90, R91). -/
def Device.noteInhibit (d : Device) (was : Bool) : Device :=
  if d.feInhibit = was then d
  else { d with tim := { d.tim with inhibitSince := if d.feInhibit then some d.clock else none } }

/-- A write to TIM.CTRL: FE_INHIBIT, FINE_EN as sealed content, PLL_RESTART (R116, R493). -/
def Device.writeTimCtrl (d : Device) (route : Nat) (data : W32) : Device :=
  let was := d.feInhibit
  let d := d.writeReg route Reg.TIM0.CTRL [⟨0, 1, .rw⟩, ⟨1, 1, .rws⟩] data
  let d := d.noteInhibit was
  if data.getLsbD 4 then d.restartPlls else d

/-! ### Correction records -/

/-- A word of a correction record takes a value. -/
def Device.setCorr (d : Device) (cluster k : Nat) (w : BitVec 16) : Device :=
  { d with sea := { d.sea with corr := SMap.set (fun _ => 0) d.sea.corr (cluster * 66 + k) w } }

/-- The conditions of a commit (R102): D(1) to D(64) strictly increasing from at least 1, D(64) within 3,584 to 4,608. -/
def Device.corrGood (d : Device) (cluster : Nat) : Bool :=
  let dn (k : Nat) : Nat := (d.corrWord cluster (k - 1)).toNat
  decide (1 ≤ dn 1) && ((List.range 63).all fun i => decide (dn (i + 1) < dn (i + 2))) && decide (3584 ≤ dn 64) && decide (dn 64 ≤ 4608)

/-- A record word is written while the domain lets it be (R102). -/
def Device.storeCorr (d : Device) (cluster k : Nat) (w : BitVec 16) : Device :=
  let old := d.corrWord cluster 65
  if k < 65 then (d.setCorr cluster k w).setCorr cluster 65 (old &&& 0x7FFF#16)
  else
    let temp := w &&& 0x00FF#16
    if !w.getLsbD 15 then d.setCorr cluster 65 ((old &&& 0x4000#16) ||| temp)
    else if d.corrGood cluster then d.setCorr cluster 65 (0x8000#16 ||| temp)
    else (d.setCorr cluster 65 (0x4000#16 ||| temp)).raise .tim1 0

/-- CORR_ADDR after an access (R117). DESIGN CHOICE (log 116): from a WORD above 65 it goes to word 0 of the next cluster. -/
def Device.stepCorr (d : Device) : Device :=
  if !d.flag Reg.TIM1.CORR_ADDR_AUTOINC then d
  else
    let k := d.fld Reg.TIM1.CORR_ADDR_WORD
    if k < 65 then d.setFld Reg.TIM1.CORR_ADDR_WORD (k + 1)
    else (d.setFld Reg.TIM1.CORR_ADDR_WORD 0).setFld Reg.TIM1.CORR_ADDR_CLUSTER (d.fld Reg.TIM1.CORR_ADDR_CLUSTER + 1)

/-- The bits of a record word that a write can change: the RWS fields of R100. -/
def corrMask (k : Nat) : BitVec 16 := if k < 65 then 0xFFFF#16 else 0x80FF#16

/-- A write to TIM.CORR_DATA (R102, R118). -/
def Device.writeCorr (d : Device) (route : Nat) (data : W32) : Device :=
  let cluster := d.fld Reg.TIM1.CORR_ADDR_CLUSTER
  let k := d.fld Reg.TIM1.CORR_ADDR_WORD
  let w := data.setWidth 16
  let d :=
    if 65 < k || 8192 * d.part.dies ≤ cluster then d
    else if d.unsealed then d.storeCorr cluster k w
    else if (w &&& corrMask k) != (d.corrWord cluster k &&& corrMask k) then d.refuseSealed route Reg.TIM1.CORR_DATA data
    else d
  d.stepCorr

/-- CORR_DATA_WRITE (R102, R118). -/
def execCorrDataWrite (route : Route) (data : W32) (s : State) : Res :=
  run (fun d => if d.pageOn .tim1 then d.writeCorr (routeCode route) data else d) s

/-! ### Conversion -/

/-- The counters of R108. -/
def Device.countFlags (d : Device) (h : RawHit) (c : Converted) : Device :=
  let d := if c.inverted then d.count Reg.TIM0.CNT_INVERTED else d
  let d := if c.short then d.count Reg.TIM0.CNT_SHORT else d
  let d := if h.contested then d.count Reg.TIM0.CNT_PILEUP else d
  let d := if 80 ≤ h.s.toNat ∨ 80 ≤ h.p.toNat then d.count Reg.TIM0.CNT_OVERFLOW else d
  if c.notable then d.count Reg.TIM0.CNT_NOTABLE else d

/-- The correction unit takes the next hit of a receiver (R92, R104): a hit of another time base is discarded. -/
def Device.convertHit (d : Device) (k : Nat) : Device :=
  if !d.domOn 2 || !d.domOn 4 || !d.domOn 15 || !d.arr.tcuOut.isEmpty then d
  else match (d.rx k).queue with
    | [] => d
    | .loss _ _ :: rest => d.updRx k fun s => { s with queue := rest }
    | .hit h :: rest =>
      let d := (d.updRx k fun s => { s with queue := rest }).delivered 0
      if h.tb != d.flag Reg.TIM0.STATUS_TIME_BASE then (d.count Reg.TIM0.OLDBASE_DISCARD).raise .tim1 1
      else
        let die := k / 4
        let cluster := die * 8192 + 128 * (h.row.toNat / 4) + h.col.toNat / 4
        let c := d.convert die cluster h
        let d := d.countFlags h c
        let d := d.tapHit die cluster h (hitOf die h c)
        { d with arr := { d.arr with tcuOut := [hitOf die h c], tcuRaw := some h } }

/-- ABORT of the correction unit (R114): the hit still inside it becomes coarse-only, as though its record were not VALID. -/
def Device.abortTcu (d : Device) : Device :=
  match d.arr.tcuRaw, d.arr.tcuOut with
  | some h, [x] =>
    let y := hitOf x.die h (coarseOf (d.fullCount h.c1) h)
    let d := if x = y then d else d.count Reg.TIM0.CNT_NOTABLE
    { d with arr := { d.arr with tcuOut := [y] } }
  | _, _ => d

/-- TCU_CONVERT_HIT (R92, R93, R104-R108). -/
def execTcuConvertHit (receiver : Fin 16) (s : State) : Res := run (fun d => d.convertHit receiver.val) s

end Sys2Proof.Machine
end

