-- ==== Sys2Proof/Machine/Link.lean ====
section
/-! DEFINITION. The commands of the lanes, of the lane path and of the messages that need no register access (spec/12, spec/13). -/

namespace Sys2Proof.Machine

/-! ### Lane control and training -/

/-- LANE_ENABLE (R404). -/
def execLaneEnable (lane : Lane) (s : State) : Res :=
  run (fun d => if d.lanePowered lane.val then (d.setFlag (Reg.LNK.LANE_CTRL_EN lane.val) true).refreshLane lane.val else d) s

/-- LANE_DISABLE (R404, R419). -/
def execLaneDisable (lane : Lane) (s : State) : Res :=
  run (fun d => if d.lanePowered lane.val then ((d.setFlag (Reg.LNK.LANE_CTRL_EN lane.val) false).refreshLane lane.val).nextRetrain else d) s

/-- RETRAIN of a lane that is not OFF (R404). -/
def Device.retrainLane (d : Device) (l : Nat) : Device := if d.laneState l = 0 then d else d.removeLane l true

/-- LANE_RETRAIN (R404). -/
def execLaneRetrain (lane : Lane) (s : State) : Res :=
  run (fun d => if d.lanePowered lane.val then d.retrainLane lane.val else d) s

/-- LANE_CTRL of a transmit lane in training has changed: OPEN_LOOP no longer waits in DETECT, and PRECODE counts until the final frames (R406, R409). -/
def Device.trainingCtrl (d : Device) (l : Nat) : Device :=
  if isRx l then d
  else (if d.flag (Reg.LNK.LANE_CTRL_OPEN_LOOP l) && d.laneState l = 1 then d.enterTrain l else d).setPrecoding l

/-- A write to LANE_CTRL (R424). -/
def Device.writeLaneCtrl (d : Device) (l : Nat) (data : W32) : Device :=
  if !d.lanePowered l then d
  else d.reporting fun d =>
    let d := (d.setWord (Reg.LNK.LANE_CTRL l) (data &&& (if isRx l then 0xF0F#32 else 0xF1F#32))).refreshLane l
    ((if data.getLsbD 16 then d.retrainLane l else d).trainingCtrl l).nextRetrain

/-- The CRC of a training control word holds and its TYPE is 0xA (R402). -/
def controlWordOk (w : BitVec 128) : Bool := w.extractLsb' 124 4 = 0xA#4 && w.toNat % 65536 = crc16 (coveredBytes w.toNat 14)

/-- A receive lane in DETECT or TRAIN reads a control word (R404, R405, R407). -/
def Device.trainLane (d : Device) (l : Nat) (w : BitVec 128) : Device :=
  let ok := controlWordOk w
  let seq : BitVec 16 := w.extractLsb' 32 16
  let precode := w.getLsbD 115
  let s := d.lane l
  if d.laneState l = 1 then
    if !ok then d.updLane l fun s => { s with good := 0 }
    else
      let good := if s.good ≠ 0 ∧ seq = s.seq + 1 then s.good + 1 else 1
      let d := d.setFld (Reg.LNK.LANE_STATUS_PARTNER l) (w.extractLsb' 120 4).toNat
      let d := d.updLane l fun s => { s with good := good, seq := seq, precode := precode }
      if good < 4 then d else (d.enterTrain l).reportChanged
  else if !ok then
    if s.bad + 1 < 4 then d.updLane l fun s => { s with bad := s.bad + 1 }
    else ((d.setLaneState l 1).updLane l fun s => { s with good := 0, bad := 0, ready := false, final := false }).reportChanged
  else
    let now := d.clock
    let d := d.setFlag (Reg.LNK.LANE_STATUS_PRECODED l) precode
    d.updLane l fun s => { s with bad := 0, seq := seq, precode := precode, final := s.final || (s.ready && w.getLsbD 114)
                                  windowSince := if s.precode = precode then s.windowSince else now }

/-- TRAINING_CONTROL_WORD (R402-R407): a receive lane in training reads a control word; a valid one reports on the transmit lanes. -/
def execTrainingControlWord (lane : Fin 2) (word : BitVec 128) (s : State) : Res :=
  run (fun d =>
    let l := 8 + lane.val
    if d.laneState l = 1 || d.laneState l = 2 then
      let d := d.reporting fun d => d.trainLane l word
      if controlWordOk word then d.report (word.extractLsb' 80 16) (word.extractLsb' 64 16) (word.extractLsb' 48 16) else d
    else d) s

/-- The length of a PRBS window in coarse ticks: 267 frames of 4,096 symbols at the lane's rate, 56.25 GBd and less (R385, R401, R405). -/
def Device.windowTicks (d : Device) (l : Nat) : Nat := 24887 * 2 ^ d.fld (Reg.LNK.LANE_STATUS_RATE_ACT l)

/-- PRBS_WINDOW_END (R405): the window of `errors` errors is over, and the next begins. -/
def execPrbsWindowEnd (lane : Fin 2) (errors : Nat) (s : State) : Res :=
  run (fun d =>
    let l := 8 + lane.val
    if d.laneState l = 2 then
      let d := d.waitUntil ((d.lane l).windowSince + d.windowTicks l)
      let now := d.clock
      let d := d.updLane l fun s => { s with windowSince := now }
      let d := d.setFld (Reg.LNK.LANE_SER_ERRORS l) (min errors 0x1FFFFF)
      if errors ≤ 100 then (d.updLane l fun s => { s with ready := true }).reportChanged else d
    else d) s

/-- LANE_ACTIVE (R407): the final frames are over and codeword 0 begins. -/
def execLaneActive (lane : Lane) (s : State) : Res :=
  run (fun d => if d.laneState lane.val = 2 && (d.lane lane.val).final && d.tim.refclk then d.activate lane.val else d) s

/-- OPEN_LOOP_TRAINING_END (R409). -/
def execOpenLoopTrainingEnd (lane : Fin 8) (s : State) : Res :=
  run (fun d =>
    let l := lane.val
    if d.laneState l = 2 && d.flag (Reg.LNK.LANE_CTRL_OPEN_LOOP l) then
      (d.waitUntil ((d.lane l).trainSince + 100 * Config.usCt)).updLane l fun s => { s with final := true }
    else d) s

/-- The back-off time after so many failed attempts, in ms (R408). -/
def backoffMs (fails : Nat) : Nat := if 8 ≤ fails then 1000 else 10 * 2 ^ (fails - 1)

/-- An attempt fails (R408). -/
def Device.failAttempt (d : Device) (l : Nat) : Device :=
  let d := ((d.count (Reg.LNK.CNT_ATTEMPT_FAIL l)).setFlag (Reg.LNK.LANE_STATUS_DOWN l) true).raise .lnk 2 l
  let d := d.setLaneState l 4
  let up := if isRx l then d.flag Reg.LNK.SUMMARY_RX_BUNDLE_UP else d.flag Reg.LNK.SUMMARY_TX_BUNDLE_UP
  let now := d.clock
  let d := d.updLane l fun s =>
    { s with fails := s.fails + 1, retryAt := now + backoffMs (s.fails + 1) * Config.msCt
             downSince := if s.downSince.isSome then s.downSince else if up then some now else none }
  (if isRx l then d.reportChanged else d).retrained l

/-- TRAINING_ATTEMPT_TIMEOUT (R408): 10 ms after the attempt began. -/
def execTrainingAttemptTimeout (lane : Lane) (s : State) : Res :=
  run (fun d =>
    let l := lane.val
    if d.laneState l = 1 || d.laneState l = 2 then (d.waitUntil ((d.lane l).since + 10 * Config.msCt)).failAttempt l else d) s

/-- BACKOFF_END (R408). -/
def execBackoffEnd (lane : Lane) (s : State) : Res :=
  run (fun d => if d.laneState lane.val = 4 then (d.waitUntil (d.lane lane.val).retryAt).startAttempt lane.val else d) s

/-- LANE_STABLE (R408): ACTIVE for 1 s. -/
def execLaneStable (lane : Lane) (s : State) : Res :=
  run (fun d =>
    if d.laneState lane.val = 3 then
      (d.waitUntil ((d.lane lane.val).activeSince + Config.secondCt)).updLane lane.val fun s => { s with fails := 0 }
    else d) s

/-- LANE_PERMANENT (R410): DOWN for an hour while the bundle was alive. -/
def execLanePermanent (lane : Lane) (s : State) : Res :=
  run (fun d =>
    let l := lane.val
    match (d.lane l).downSince with
    | some t =>
      if d.flag (Reg.LNK.LANE_STATUS_DOWN l) && !d.flag (Reg.LNK.LANE_STATUS_PERMANENT l) then
        ((d.waitUntil (t + 3600 * Config.secondCt)).setFlag (Reg.LNK.LANE_STATUS_PERMANENT l) true).raise .lnk 8 l
      else d
    | none => d) s

/-! ### Codewords and loss of lock -/

/-- CODEWORD_RECEIVE (R388-R393): the codeword as it arrives, decoded, and what the clocks' difference has added to the elastic buffer's level since the last
codeword. -/
def execCodewordReceive (lane : Fin 2) (word : BitVec 5440) (slip : Int) (s : State) : Res :=
  run (fun d => if d.laneState (8 + lane.val) = 3 then d.rxCodeword (8 + lane.val) (rsDecode word) slip else d) s

/-- The code of a receive lane's loss (R411). -/
def rxLossCode : RxLoss → Nat
  | .signal => 1
  | .fec => 2
  | .align => 3
  | .rate => 4
  | .pll => 5

/-- RX_LOSS_OF_LOCK (R411). -/
def execRxLossOfLock (lane : Fin 2) (cause : RxLoss) (s : State) : Res := run (fun d => d.loseLane (8 + lane.val) (rxLossCode cause)) s

/-- A transmit lane's loss (R409, R412): a report that clears LOCKED does not reach an open-loop lane. -/
def Device.txLoss (d : Device) (l : Nat) : TxLoss → Device
  | .pll => d.loseLane l 5
  | .driver => d.loseLane l 6
  | .remote => if d.flag (Reg.LNK.LANE_CTRL_OPEN_LOOP l) then d else (d.updLane l fun s => { s with locked := false }).loseLane l 7

/-- TX_LOSS_OF_LOCK (R412). -/
def execTxLossOfLock (lane : Fin 8) (cause : TxLoss) (s : State) : Res := run (fun d => d.txLoss lane.val cause) s

/-- RESTRIPE_DONE (R417, R418): the set is in force and everything that was retained has been serialised again. -/
def execRestripeDone (s : State) : Res :=
  run (fun d =>
    if d.flag Reg.LNK.BUNDLE_STATUS_RESTRIPING && d.lnk.setNext.isNone && d.lnk.resend0.isEmpty && decide (d.lnk.resend1 ≤ d.lnk.unit1)
        && d.lnk.sending.isEmpty then
      (((d.setFlag Reg.LNK.BUNDLE_STATUS_RESTRIPING false).count Reg.LNK.CNT_RESTRIPE).raise .lnk 3).requestSet
    else d) s

/-- CODEWORD_TRANSMIT (R427-R432, R436): one block time on every transmit lane. -/
def execCodewordTransmit (s : State) : Res := run (fun d => d.transmitSlot) s

/-! ### The equalisation table -/

/-- An entry passes (R398). -/
def eqEntryOk (w : W64) : Bool :=
  let s (lsb : Nat) : Nat := (w.extractLsb' lsb 6).toInt.natAbs
  let main := (w.extractLsb' 46 6).toNat
  decide (32 ≤ main) && decide (s 58 + s 52 + main + s 40 + s 34 ≤ 63) && w.extractLsb' 0 8 = 0#8

/-- The checks of an equalisation image (R396, R398). -/
def eqImageOk (ws : List W64) : Bool :=
  imageOk 0x4551 16 (ws.getD 0 0) ws.tail && ws.length = 19 && ((ws.drop 1).take 16).all eqEntryOk
    && (ws.getD 17 0).toNat / 2 ^ 40 = 0 && (ws.getD 18 0).toNat / 2 ^ 20 = 0

/-- The lanes of the part. -/
def Device.presentLanes (d : Device) : List Nat := (List.range d.part.txLanes) ++ [8, 9]

/-- A commit of an equalisation image (R398, R399). -/
def Device.commitEq (d : Device) (ws : List W64) : Device :=
  if eqImageOk ws then
    let before := d.presentLanes.map fun l => (l, (d.lane l).entry, d.fld (Reg.LNK.LANE_STATUS_RATE_ACT l))
    let d := { d with lnk := { d.lnk with eq := SMap.setAll (fun _ => 0) [] 0 ws } }
    let d := (d.setFlag Reg.LNK.SUMMARY_EQ_LOADED true).setFlag Reg.LNK.EQ_CTRL_REJECTED false
    let d := d.presentLanes.foldl (fun (d : Device) l =>
      (d.setFld (Reg.LNK.LANE_CTRL_ENTRY l) ((ws.getD 17 0).toNat / 16 ^ l % 16)).setFlag (Reg.LNK.LANE_STATUS_BUILTIN l) false) d
    let d := d.raise .lnk 6
    let changed := before.filter fun b => d.laneState b.1 = 3 && (d.laneRate b.1).isSome && (b.2.1 != d.laneEntry b.1 || b.2.2 != (d.laneRate b.1).getD 0)
    let retrain : List Nat := changed.map fun b => b.1
    let d : Device := { d with lnk := { d.lnk with retrain := retrain } }
    (d.presentLanes.foldl (fun (d : Device) l => d.refreshLane l) d).nextRetrain
  else (d.setFlag Reg.LNK.EQ_CTRL_REJECTED true).raise .lnk 7

/-- EQ_COMMIT (R398). -/
def execEqCommit (s : State) : Res := run (fun d => d.commitEq (d.stagedImage .equalisation)) s

/-- The table in force is to be stored (R400). -/
def Device.saveEq (d : Device) : Device :=
  if d.flag Reg.LNK.EQ_CTRL_SAVE_BUSY || !d.eqLoaded then d
  else
    let words := (List.range 19).map fun k => (k, (d.eqWord k).toNat)
    (d.setFlag Reg.LNK.EQ_CTRL_SAVE_BUSY true).store { page := 48, words := words, owner := .eqSave }

/-- EQ_SAVE (R400). -/
def execEqSave (s : State) : Res := run (fun d => d.saveEq) s

/-! ### Retention -/

/-- ACK_TIMEOUT.US: 0 acts as 1 (R423). -/
def Device.ackTimeout (d : Device) : Nat := Config.usCt * max 1 (d.fld Reg.LNK.ACK_TIMEOUT_US)

/-- ACK_TIMEOUT (R415): no acknowledgement has advanced for so long. -/
def execAckTimeout (s : State) : Res :=
  run (fun d =>
    if d.flag Reg.LNK.CTRL_ACK_EN && !d.lnk.frames.isEmpty && d.flag Reg.LNK.SUMMARY_TX_BUNDLE_UP then
      let d := d.waitUntil (d.lnk.advanced + d.ackTimeout)
      ((d.startResend).count Reg.LNK.CNT_ACK_TIMEOUT).raise .lnk 5
    else d) s

/-- RETAIN_EXPIRE (R416): the oldest retained frame, once it has been serialised for RETAIN.US. -/
def execRetainExpire (s : State) : Res :=
  run (fun d =>
    match d.lnk.frames with
    | f :: _ => match f.sentAt with
      | some t =>
        if d.flag Reg.LNK.CTRL_ACK_EN then d
        else (d.waitUntil (t + Config.usCt * max 1 (d.fld Reg.LNK.RETAIN_US))).releaseFrame f
      | none => d
    | [] => d) s

/-- DATA_FRAME_SEND (R437, R438): a frame of the output stream or of readback words, once the frame before it has gone. -/
def execDataFrameSend (stream : Fin 2) (s : State) : Res :=
  run (fun d =>
    if d.flag Reg.LNK.SUMMARY_TX_BUNDLE_UP && d.lnk.sending.isEmpty then (if stream.val = 0 then d.sendRecords else d.sendReadback) else d) s

/-! ### Messages -/

/-- ALIGN_RECEIVE (R431, R433). -/
def execAlignReceive (lane : Fin 2) (s : State) : Res := run (fun d => d.takeAlign (8 + lane.val)) s

/-- A DFRAME opens a data frame (R437, R439, R445): one in progress is discarded first; a frame that is not expected, not allowed or not wanted is
discarded, and its blocks go by. -/
def Device.openFrame (d : Device) (w : BitVec 257) : Device :=
  let d := d.discardFrame
  let seq : W32 := w.extractLsb' 212 32
  let resend := w.getLsbD 198
  let stream := bodyField w 199 2
  let expected := resend || match d.zvl.expect with
    | some e => e == seq
    | none => true
  let take := expected && stream = 2 && d.flag Reg.ZVL.CTRL_BULK_EN && d.enabled .zvl
  let f : RxFrame := { seq := seq, nblk := bodyField w 201 11, stream := stream, resend := resend, first := bodyField w 150 48
                       words := bodyField w 137 13, take := take }
  let d := { d with zvl := { d.zvl with frame := some f } }
  if take then d else (d.count Reg.ZVL.CNT_DFRAME_DISCARD).raise .zvl 1

/-- DFRAME_RECEIVE (R437, R439). -/
def execDframeReceive (s : State) : Res := run (fun d => d.takeMessage 1 fun d w => d.openFrame w) s

/-- ACK_RECEIVE (R415, R439). -/
def execAckReceive (s : State) : Res := run (fun d => d.takeMessage 2 fun d w => d.acknowledge (w.extractLsb' 212 32)) s

/-- ACK_REPEAT (R439): 10 µs after the last ACK, while frames arrive. -/
def execAckRepeat (s : State) : Res :=
  run (fun d =>
    if d.zvl.accepted.isSome && d.flag Reg.LNK.SUMMARY_RX_BUNDLE_UP then
      let d := d.waitUntil (d.zvl.ackAt + 10 * Config.usCt)
      { d with zvl := { d.zvl with ackDue := true } }
    else d) s

/-- LSTATUS_RECEIVE (R403, R442). -/
def execLstatusReceive (s : State) : Res :=
  run (fun d => d.takeMessage 3 fun d w => d.report (w.extractLsb' 228 16) (w.extractLsb' 212 16) (w.extractLsb' 196 16)) s

/-- LSTATUS_PERIODIC (R442): 10 µs after the last one, while the bundle has a lane. -/
def execLstatusPeriodic (s : State) : Res :=
  run (fun d =>
    if d.flag Reg.LNK.SUMMARY_TX_BUNDLE_UP && d.domOn 14 then (d.waitUntil (d.zvl.statusAt + 10 * Config.usCt)).reportChanged else d) s

/-- A TRIG message is presented to the trigger engine (R449). -/
def Device.linkTrigger (d : Device) (w : BitVec 257) : Device :=
  let d := d.count Reg.ZVL.CNT_TRIG_RX
  if d.flag Reg.ZVL.CTRL_TRIG_EN && d.pageOn .trg then
    { d with trg := { d.trg with prims := d.trg.prims ++ [{ kind := 4, sel := bodyField w 240 4, time := some (bodyField w 176 64) }] } }
  else d

/-- TRIG_MESSAGE (R449). -/
def execTrigMessage (s : State) : Res := run (fun d => d.takeMessage 0x20 fun d w => d.linkTrigger w) s

/-- A TSYNC message acts as a SYNC edge, or is ignored (R450). MODE 3 of the edge in flight is a load, MODE 2 a check. -/
def Device.linkSync (d : Device) (w : BitVec 257) : Device :=
  if d.flag Reg.ZVL.CTRL_TSYNC_EN && d.domOn 1 && d.flag Reg.TIM0.STATUS_LOCK then
    let delay := max 64 (d.fld Reg.ZVL.TSYNC_DELAY_CT)
    let e : SyncEdge := { mode := if w.getLsbD 243 then 3 else 2, frame := w.extractLsb' 203 40, phase := w.extractLsb' 185 18
                          loadAt := d.tim.count + 1 + BitVec.ofNat 58 delay }
    Device.seeSync { d with tim := { d.tim with tsync := d.tim.tsync ++ [e] } } e.mode
  else d.count Reg.ZVL.CNT_TSYNC_IGNORED

/-- TSYNC_MESSAGE (R450). -/
def execTsyncMessage (s : State) : Res := run (fun d => d.takeMessage 0x21 fun d w => d.linkSync w) s

/-- A TSYNC's comparison (R450): SYNC_LAST, and TSYNC_MISMATCH beyond TSYNC_TOL. -/
def Device.checkTsync (d : Device) (e : SyncEdge) : Device :=
  let want : BitVec 58 := e.frame ++ e.phase
  let diff := ((d.tim.count.toNat : Int) - want.toNat).natAbs
  let d := d.setFld Reg.TIM0.SYNC_LAST_CT d.ct.toNat
  if d.fld Reg.ZVL.TSYNC_TOL_CT < diff then d.raise .zvl 8 else d

/-- The load tick of a TSYNC (R90, R450): a load gives way to a SYNC_IN load of the same tick. -/
def Device.tsyncTick (d : Device) (e : SyncEdge) (phase : BitVec 16) : Device :=
  let d := d.advanceTo e.loadAt
  let rival := d.tim.sync.any fun x => x.loadAt == e.loadAt && (x.mode == 1 || x.mode == 3)
  let d := if e.mode = 2 || rival then d.checkTsync e
    else if d.mayLoad then d.loadTimeBase e.frame e.phase phase
    else (d.raise .tim0 7).checkTsync e
  (d.count Reg.ZVL.CNT_TSYNC).raise .zvl 7

/-- TSYNC_LOAD_TICK (R450). -/
def execTsyncLoadTick (phase : BitVec 16) (s : State) : Res :=
  run (fun d => match d.tim.tsync with
    | e :: rest => if d.domOn 1 then Device.tsyncTick { d with tim := { d.tim with tsync := rest } } e phase else d
    | [] => d) s

end Sys2Proof.Machine
end

