-- ==== Sys2Proof/Machine/Pixel.lean ====
section
/-! DEFINITION. The commands of the pixel front end (spec/02) and of the pixel's side of the hit path (spec/03): edges, gain ranges, the pixel
table, injection and the background check. -/

namespace Sys2Proof.Machine

/-! ### Edges, converter, re-arming -/

/-- DISCRIMINATOR_LEADING_EDGE (R25, R26, R91, R95, R96). -/
def execDiscriminatorLeadingEdge (pix : Pix) (contest edge : Bool) (start : BitVec 80) (s : State) : Res :=
  run (fun d => if d.pageOn (pixPage (pixNo pix)) then d.leading (pixNo pix) contest edge start else d) s

/-- DISCRIMINATOR_TRAILING_EDGE (R98). -/
def execDiscriminatorTrailingEdge (pix : Pix) (edge : Bool) (stop : BitVec 80) (s : State) : Res :=
  run (fun d => if d.pageOn (pixPage (pixNo pix)) then d.trailing (pixNo pix) edge stop else d) s

/-- TOT_SATURATION (R56): 8,191 ToT units after the leading edge; the line is still high, so every tap of the stop register
is 1. -/
def execTotSaturation (pix : Pix) (s : State) : Res :=
  run (fun d =>
    let i := pixNo pix
    if d.pageOn (pixPage i) && (d.pixel i).run == .firing then
      let gap := (d.pixel i).hit.c1 + 1024 - d.tim.count.setWidth 24
      (d.advanceTo (d.tim.count + (if gap.toNat < 2 ^ 23 then gap.setWidth 58 else 0))).complete i false true (BitVec.allOnes 80)
    else d) s

/-- CONVERTER_FREE (R27, R97). -/
def execConverterFree (die : Die) (cluster : Fin 8192) (s : State) : Res :=
  run (fun d =>
    let c := die.val * 8192 + cluster.val
    if (d.conv c).holder.isSome && (d.conv c).stopped then d.freeConv c else d) s

/-- PIXEL_REARM (R25): 25 ns after the trailing edge at the latest, once the region has accepted the hit. -/
def execPixelRearm (pix : Pix) (s : State) : Res :=
  run (fun d =>
    let i := pixNo pix
    if (d.pixel i).run == .resting then
      (d.waitUntil ((d.pixel i).trailClock + 32)).updPixel i fun p => { p with run := .armed }
    else d) s

/-! ### Front-end registers -/

/-- A write to PIX.FE_CTRL (R46, R49): POLARITY is taken only under FE_INHIBIT, and then stored; TRIM_STEP is sealed. -/
def Device.writeFeCtrl (d : Device) (route : Nat) (n : Die) (data : W32) : Device :=
  let a := Reg.PIX.FE_CTRL n.val
  let polarity := data.getLsbD 0
  let d' := d.writeReg route a [⟨1, 1, .rw⟩, ⟨4, 2, .rws⟩] data
  let d' := { d' with sea := { d'.sea with trimStep := SMap.set (fun _ => 1) d'.sea.trimStep n.val (d'.fld (Reg.PIX.FE_CTRL_TRIM_STEP n.val)) } }
  if d.feInhibit then
    let d' := d'.setFlag (Reg.PIX.FE_CTRL_POLARITY n.val) polarity
    d'.store { page := nvsHome a, words := [(a, polarity.toNat)], owner := .config a }
  else d'.raise (.pix n) 6

/-- FE_CTRL_WRITE (R46). -/
def execFeCtrlWrite (route : Route) (die : Die) (data : W32) (s : State) : Res :=
  run (fun d => d.pixWrite die fun d => d.writeFeCtrl (routeCode route) die data) s

/-- VTH_WRITE (R51). -/
def execVthWrite (die : Die) (data : W32) (s : State) : Res :=
  run (fun d => d.pixWrite die fun d => d.setFld (Reg.PIX.VTH_CODE die.val) data.toNat) s

/-- A write to PIX.GAIN_LG (R52, R53): a region's change is pending while its request differs from its active range. -/
def Device.writeGainLg (d : Device) (n : Die) (k : Fin 4) (data : W32) : Device :=
  (d.setWord (Reg.PIX.GAIN_LG n.val k.val) data).setWord (Reg.PIX.GAIN_PEND n.val k.val) (data ^^^ d.word (Reg.PIX.GAIN_ACT n.val k.val))

/-- GAIN_LG_WRITE (R52). -/
def execGainLgWrite (die : Die) (word : Fin 4) (data : W32) (s : State) : Res :=
  run (fun d => if d.pageOn (.pix die) then d.writeGainLg die word data else d) s

/-- A region's range has changed: the waveform ADC of its band marks its samples if the region feeds the channel selected at its next edge (R164). -/
def Device.markRange (d : Device) (n : Die) (r : Region) : Device :=
  d.updWadc (n.val * 8 + r.val / 16) fun w => { w with rangeMark := w.rangeMark ++ [r.val] }

/-- GAIN_APPLY (R52, R54, R71): after 100 ns without a pixel over threshold and outside a check of the region. -/
def execGainApply (die : Die) (region : Region) (s : State) : Res :=
  run (fun d =>
    let pend := Reg.PIX.GAIN_PEND die.val (region.val / 32)
    let act := Reg.PIX.GAIN_ACT die.val (region.val / 32)
    let b := region.val % 32
    let checking := d.arr.pixels.any fun p => p.2.checking && pixDie p.1 == die && pixRegion p.1 == region
    if d.pageOn (.pix die) && (d.word pend).getLsbD b && !d.pixelOr die region && !checking then
      let d := d.waitUntil ((d.region (regNo die region)).quietSince + 128)
      let d := (d.setFlag ⟨act, b, 1⟩ (!(d.word act).getLsbD b)).setFlag ⟨pend, b, 1⟩ false
      let d := (d.updRegion (regNo die region) fun s => { s with transition := true }).noteRange (regNo die region)
      (d.markRange die region).raise (.pix die) 5
    else d) s

/-- GAIN_TRANSITION_END (R54). -/
def execGainTransitionEnd (die : Die) (region : Region) (s : State) : Res :=
  run (fun d =>
    if (d.region (regNo die region)).transition then d.updRegion (regNo die region) fun s => { s with transition := false, settledAt := d.clock }
    else d) s

/-! ### The pixel table -/

/-- TBL_ADDR after an access of `n` columns (R80). -/
def Device.stepTable (d : Device) (die : Die) (n : Nat) : Device :=
  if !d.flag (Reg.PIX.TBL_ADDR_AUTOINC die.val) then d
  else
    let col := d.fld (Reg.PIX.TBL_ADDR_COL die.val) + n
    if col < 512 then d.setFld (Reg.PIX.TBL_ADDR_COL die.val) col
    else (d.setFld (Reg.PIX.TBL_ADDR_COL die.val) 0).setFld (Reg.PIX.TBL_ADDR_ROW die.val) (d.fld (Reg.PIX.TBL_ADDR_ROW die.val) + 1)

/-- The pixel numbers of a window of `n` entries at TBL_ADDR (R79). -/
def Device.windowPixels (d : Device) (die : Die) (n : Nat) : List Nat :=
  let col := d.fld (Reg.PIX.TBL_ADDR_COL die.val) / n * n
  (List.range n).map fun k => die.val * 131072 + d.fld (Reg.PIX.TBL_ADDR_ROW die.val) * 512 + col + k

/-- The entry that a write of `e` leaves where `old` stood: TRIM stays while the domain is not UNSEALED (R60). -/
def Device.entryAfter (d : Device) (old e : BitVec 8) : BitVec 8 :=
  if d.unsealed then e else (e &&& 0xE0#8) ||| (old &&& 0x1F#8)

/-- A write to PIX.TBL_DATA (R59, R60, R80, R81). -/
def Device.writeTblData (d : Device) (route : Nat) (die : Die) (data : W32) : Device :=
  if d.flag (Reg.PIX.TBL_FILL_BUSY die.val) then d.raise (.pix die) 6
  else
    let cells := (d.windowPixels die 4).zipIdx.map fun p => (p.1, data.extractLsb' (8 * p.2) 8)
    let differs := cells.any fun c => (c.2 &&& 0x1F#8) != ((d.pixel c.1).entry &&& 0x1F#8)
    let sealedNow := !d.unsealed
    let d := cells.foldl (fun d c => d.setEntry c.1 (d.entryAfter (d.pixel c.1).entry c.2)) d
    let d := if sealedNow && differs then d.refuseSealed route (Reg.PIX.TBL_DATA die.val) data else d
    d.stepTable die 4

/-- TBL_DATA_WRITE (R59). -/
def execTblDataWrite (route : Route) (die : Die) (data : W32) (s : State) : Res :=
  run (fun d => d.pixWrite die fun d => d.writeTblData (routeCode route) die data) s

/-- A read of PIX.TBL_DATA (R59, R80, R81): 0 while a fill runs. -/
def Device.readTblData (d : Device) (die : Die) : Device :=
  if d.flag (Reg.PIX.TBL_FILL_BUSY die.val) then { d with rdata := 0 }
  else
    let w := ((d.windowPixels die 4).zipIdx.map fun p => (d.pixel p.1).entry.toNat * 256 ^ p.2).sum
    { d.stepTable die 4 with rdata := BitVec.ofNat 32 w }

/-- TBL_DATA_READ (R80). -/
def execTblDataRead (die : Die) (s : State) : Res :=
  run (fun d => if d.pageOn (.pix die) then d.readTblData die else { d with rdata := 0 }) s

/-- A read of PIX.STAT_DATA (R80). -/
def Device.readStatData (d : Device) (die : Die) : Device :=
  let w := ((d.windowPixels die 16).zipIdx.map fun p => (d.pixel p.1).status.toNat * 4 ^ p.2).sum
  { d.stepTable die 16 with rdata := BitVec.ofNat 32 w }

/-- STAT_DATA_READ (R80). -/
def execStatDataRead (die : Die) (s : State) : Res :=
  run (fun d => if d.pageOn (.pix die) then d.readStatData die else { d with rdata := 0 }) s

/-- TRIM_APPLY (R59): an unmasked pixel takes its new trim while armed with its output low. -/
def execTrimApply (pix : Pix) (s : State) : Res :=
  run (fun d =>
    let i := pixNo pix
    let p := d.pixel i
    if p.run == .armed && !p.high then d.updPixel i fun p => { p with trim := p.entry.extractLsb' 0 5 } else d) s

/-- A write to PIX.TBL_FILL (R81): the fields, and the start of a fill. -/
def Device.writeTblFill (d : Device) (route : Nat) (die : Die) (data : W32) : Device :=
  if d.flag (Reg.PIX.TBL_FILL_BUSY die.val) then d.raise (.pix die) 6
  else
    let d := d.setWord (Reg.PIX.TBL_FILL die.val) (data &&& 0x017FFFFF#32)
    if data.getLsbD 31 then
      let f : FillSt := { value := data.extractLsb' 0 8, mask := data.extractLsb' 8 8,
                          region := if data.getLsbD 24 then none else some (data.extractLsb' 16 7).toNat, word := data, route := route }
      { d.setFlag (Reg.PIX.TBL_FILL_BUSY die.val) true with arr := { d.arr with fills := SMap.insert die.val f (SMap.erase d.arr.fills die.val) } }
    else d

/-- TBL_FILL_GO (R81). -/
def execTblFillGo (route : Route) (die : Die) (data : W32) (s : State) : Res :=
  run (fun d => d.pixWrite die fun d => d.writeTblFill (routeCode route) die data) s

/-- The pixels of a region, or of a die. -/
def fillPixels (die : Nat) : Option Nat → List Nat
  | none => (List.range 131072).map fun k => die * 131072 + k
  | some r => (List.range 1024).map fun k => die * 131072 + (32 * (r / 16) + k / 32) * 512 + 32 * (r % 16) + k % 32

/-- The fill of a die completes (R59, R60, R81): a fill that met other sealed trims is one refused write. -/
def Device.finishFill (d : Device) (die : Die) : Device :=
  match d.arr.fills.lookup die.val with
  | none => d
  | some f =>
    let cells := fillPixels die.val f.region
    let trimBits := f.mask &&& 0x1F#8
    let differs := cells.any fun i => (f.value &&& trimBits) != ((d.pixel i).entry &&& trimBits)
    let sealedNow := !d.unsealed
    let d := cells.foldl (fun d i =>
      let old := (d.pixel i).entry
      d.setEntry i (d.entryAfter old ((old &&& ~~~f.mask) ||| (f.value &&& f.mask)))) d
    let d := { d.setFlag (Reg.PIX.TBL_FILL_BUSY die.val) false with arr := { d.arr with fills := SMap.erase d.arr.fills die.val } }
    if sealedNow && differs then d.refuseSealed f.route (Reg.PIX.TBL_FILL die.val) f.word else d

/-- TBL_FILL_DONE (R81). -/
def execTblFillDone (die : Die) (s : State) : Res := run (fun d => if d.pageOn (.pix die) then d.finishFill die else d) s

/-! ### Charge injection -/

/-- A START of an injection sequence (R63-R65, R77, R178), which pauses a check in progress (R71). A START while ENABLE is 0 is dropped:
R77 says only that none starts, so that it is neither kept nor an event is the model's choice (log 93). -/
def Device.startInj (d : Device) (die : Die) : Device :=
  if d.flag (Reg.PIX.INJ_CTRL_BUSY die.val) || d.fld Reg.HLT.SERVICE_LEVEL_LEVEL = 0 then d.raise (.pix die) 6
  else if !d.enabled (.pix die) then d
  else
    let n := max 1 (d.fld (Reg.PIX.INJ_COUNT_COUNT die.val))
    let toFrame := 2 ^ 18 - d.ct.toNat
    let i : InjSt := { d.injOf die with left := n, given := 0, next := d.clock + toFrame + d.fld (Reg.PIX.INJ_OFFSET_CT die.val), service := none,
                                        async := d.flag (Reg.PIX.INJ_CTRL_ASYNC die.val) }
    let d := ((d.pauseCheck die).setInj die i).setFld (Reg.PIX.INJ_LEFT_COUNT die.val) n
    let d := (d.setFlag (Reg.PIX.INJ_CTRL_BUSY die.val) true).monWake
    { d with mon := { d.mon with senseWait := d.mon.senseWait ++ [die.val] } }

/-- INJ_START (R65). -/
def execInjStart (die : Die) (s : State) : Res := run (fun d => d.pixWrite die fun d => d.startInj die) s

/-- INJ_STOP (R65): the owed count stays in INJ_LEFT. -/
def execInjStop (die : Die) (s : State) : Res :=
  run (fun d => d.pixWrite die fun d => if d.flag (Reg.PIX.INJ_CTRL_BUSY die.val) then d.endInj die else d) s

/-- The period of an injection sequence in CT (R65). -/
def Device.injPeriod (d : Device) (die : Die) : Nat := max 1280 (d.fld (Reg.PIX.INJ_PERIOD_CT die.val))

/-- The sense sample of a sequence is due at its first pulse outside a lead time (R178). -/
def Device.senseDue (d : Device) (die : Die) : Device :=
  if d.mon.senseWait.contains die.val && decide (d.mon.leadUntil ≤ d.clock) then
    { d with mon := { d.mon with senseWait := d.mon.senseWait.filter (fun n => n != die.val), sense := d.mon.sense ++ [die.val] } }
  else d

/-- The pixels of a die with INJ_EN (R59). -/
def Device.injected (d : Device) (die : Nat) : List Nat :=
  (d.arr.pixels.filter fun p => p.2.entry.getLsbD 6 && p.1 / 131072 == die).map (·.1)

/-- INJ_PULSE (R62-R66): charge into the pixels with INJ_EN, and the opposite step half a period later; the first pulse of a sequence makes a sense sample due. A service's pulses are
paced (R341, R549): none comes during a pause; the pulse's duration is its period (log 63). -/
def execInjPulse (die : Die) (s : State) : Res :=
  run (fun d =>
    let i := d.injOf die
    if d.pageOn (.pix die) && d.flag (Reg.PIX.INJ_CTRL_BUSY die.val) && !(i.service.isSome && d.pausing .injection) then
      let d := if i.async then d else d.waitUntil i.next
      let code := match i.service with
        | some (code, _) => code
        | none => d.fld (Reg.PIX.INJ_DAC_CODE die.val)
      let period := match i.service with
        | some (_, period) => period
        | none => d.injPeriod die
      let now := d.tim.count.toNat
      let d := d.send (.inject die.val code (d.flag (Reg.PIX.FE_CTRL_POLARITY die.val)) now (now + period / 2) (d.injected die.val))
      let d := if i.async then d else d.pulseWindows die.val
      let d := d.senseDue die
      let d := d.setInj die { i with left := i.left - 1, given := i.given + 1, next := i.next + period,
                                     pulse := if i.async then i.pulse else some now }
      let d := d.setFld (Reg.PIX.INJ_LEFT_COUNT die.val) (i.left - 1)
      let d := if i.service.isSome then d.startPause .injection period else d
      if i.left ≤ 1 then d.endInj die else d
    else d) s

/-! ### The background check -/

/-- The length of a slot in coarse ticks: the cycle time by its code, over 128 (R67). -/
def Device.slotTicks (d : Device) (die : Die) : Nat := 2500000 * 2 ^ min 5 (d.fld (Reg.PIX.CHECK_CTRL_CYCLE die.val))

/-- The check of a die may begin a slot (R67, R71, R77, R339). -/
def Device.checkRuns (d : Device) (die : Die) : Bool :=
  d.enabled (.pix die) && d.flag (Reg.PIX.CHECK_CTRL_RUN die.val) && d.fld Reg.HLT.SERVICE_LEVEL_LEVEL != 0 && d.flag Reg.TIM0.STATUS_LOCK
    && d.domOn (24 + 11 * die.val) && !d.pixClaimed die.val && !d.flag (Reg.PIX.INJ_CTRL_BUSY die.val) && !(d.checkOf die).inSlot

/-- The pixels of a region that take part in its check; a band without power has none (R58, R67). -/
def Device.takingPart (d : Device) (die : Die) (r : Region) : List Nat :=
  if d.domOn (16 + 11 * die.val + r.val / 16) then (fillPixels die.val (some r.val)).filter fun i => (d.pixel i).entry.getLsbD 7 else []

/-- A pixel can be checked: armed with its output low (R68). -/
def Device.checkable (d : Device) (i : Nat) : Bool := (d.pixel i).run == .armed && !(d.pixel i).high

/-- A repetition of a bump scan starts on a die (R353): 10 µs after the last one, the pixels of all regions that can be checked are held; a region in a gain
transition, or less than 20 ns after one, is left out of it (R71; log 74). -/
def Device.startRepetition (d : Device) (die : Die) (x : ScanSt) : Device :=
  let d := if x.reps = 0 then d else d.waitUntil (x.since + 12800)
  let quiet (r : Region) : Bool :=
    let s := d.region (regNo die r)
    !s.transition && (s.settledAt = 0 || decide (s.settledAt + 26 ≤ d.clock))
  let ready := ((List.range 128).map (Fin.ofNat 128)).flatMap fun r => if quiet r then (d.takingPart die r).filter fun i => d.checkable i else []
  (d.holdPixels ready true).setScan die.val { x with reps := x.reps + 1, busy := true, since := d.clock, checked := ready }

/-- CHECK_SLOT_START (R68): eligible pixels are held for the check, the others with CHECK_EN are skipped and counted. A gain transition of the
region that is in progress puts the check off until 20 ns, 26 ticks, after its end (R71). While a bump scan holds the die its next repetition starts
instead (R353). -/
def execCheckSlotStart (die : Die) (s : State) : Res :=
  run (fun d => match d.scanOf die.val with
    | some x => if x.busy || decide ((d.measuring.map fun v => scanReps v.params).getD 0 ≤ x.reps) then d else d.startRepetition die x
    | none =>
    let r : Region := Fin.ofNat 128 (d.fld (Reg.PIX.CHECK_POS_REGION die.val))
    if !d.checkRuns die then d
    else if (d.region (regNo die r)).transition then d.setCheck die { d.checkOf die with delayed := true }
    else
      let d := if (d.checkOf die).delayed then d.waitUntil ((d.region (regNo die r)).settledAt + 26) else d
      let taking := d.takingPart die r
      let ready := taking.filter fun i => d.checkable i
      let skipped := taking.length - ready.length
      let d := (d.holdPixels ready true).setCheck die { inSlot := true, since := d.clock, checked := ready }
      if skipped = 0 then d else (d.count (Reg.PIX.CHECK_SKIPPED die.val) skipped).raise (.pix die) 2) s

/-- The clock at which the checks in progress on a die began: those of its bump scan, or of its slot. -/
def Device.checkedSince (d : Device) (die : Die) : Nat :=
  match d.scanOf die.val with
  | some x => x.since
  | none => (d.checkOf die).since

/-- CHECK_PIXEL_RECONNECT (R68, R71, R353): 4.0 µs after the check began. -/
def execCheckPixelReconnect (pix : Pix) (s : State) : Res :=
  run (fun d =>
    let i := pixNo pix
    if (d.pixel i).checking then
      (d.waitUntil (d.checkedSince pix.die + 5120)).releaseChecked pix.die (pixRegion i) [i]
    else d) s

/-- The status that an added capacitance in 1/16 fF gives; none: the node did not respond (R69). -/
def Device.checkStatus (d : Device) (die : Die) : Option Nat → BitVec 2
  | none => 3
  | some c =>
    if c < 16 * d.fld (Reg.PIX.CHECK_LIM_OPEN_MAX die.val) then 2
    else if 16 * d.fld (Reg.PIX.CHECK_LIM_SHORT_MIN die.val) < c then 3
    else 1

/-- The COUNT registers follow the statuses of the die (R79). -/
def Device.countStatuses (d : Device) (die : Die) : Device :=
  let n (k : BitVec 2) : Nat := (d.arr.pixels.filter fun p => pixDie p.1 == die && p.2.status == k).length
  let d := (d.setFld (Reg.PIX.COUNT_CONNECTED_COUNT die.val) (n 1)).setFld (Reg.PIX.COUNT_OPEN_COUNT die.val) (n 2)
  let d := d.setFld (Reg.PIX.COUNT_SHORTED_COUNT die.val) (n 3)
  d.setFld (Reg.PIX.COUNT_UNTESTED_COUNT die.val) (131072 - (n 1 + n 2 + n 3))

/-- One pixel's new status (R70). -/
def Device.newStatus (d : Device) (die : Die) (i : Nat) (st : BitVec 2) : Device :=
  if (d.pixel i).status = st then d
  else
    let d := (d.updPixel i fun p => { p with status := st }).raise (.pix die) 0
    let d := (d.setFld (Reg.PIX.LAST_CHANGE_COL die.val) (pixCol i)).setFld (Reg.PIX.LAST_CHANGE_ROW die.val) (pixRow i)
    let d := d.setFld (Reg.PIX.LAST_CHANGE_STATUS die.val) st.toNat
    if d.flag (Reg.PIX.CHECK_CTRL_AUTO_MASK die.val) && 2 ≤ st.toNat then
      (d.setEntry i ((d.pixel i).entry ||| 0x20#8)).raise (.pix die) 1
    else d

/-- A repetition of a bump scan ends on a die, once its pixels are connected again; what it found is kept (R353). -/
def Device.endRepetition (d : Device) (die : Die) (x : ScanSt) (found : List (Pix × Option Nat)) : Device :=
  let d := d.waitUntil (x.since + 5120)
  let held := x.checked.filter fun i => (d.pixel i).checking
  let d := ((List.range 128).map (Fin.ofNat 128)).foldl (fun d r => d.releaseChecked die r (held.filter fun i => pixRegion i == r)) d
  let results := (found.map fun f => (pixNo f.1, f.2)).filter fun f => x.checked.contains f.1
  d.setScan die.val { x with busy := false, checked := [], found := x.found ++ results }

/-- CHECK_SLOT_END (R67, R69, R70): at the end of the slot the capacitances found, in 1/16 fF, become statuses, and the check moves to the next region; while it
pauses it does not end (R71). While a bump scan holds the die its repetition ends instead (R353). -/
def execCheckSlotEnd (die : Die) (found : List (Pix × Option Nat)) (s : State) : Res :=
  run (fun d => match d.scanOf die.val with
    | some x => if x.busy then d.endRepetition die x found else d
    | none =>
    let c := d.checkOf die
    if d.pageOn (.pix die) && c.inSlot && c.pausedAt.isNone then
      let held := c.checked.filter fun i => (d.pixel i).checking
      let d := (d.waitUntil (c.since + d.slotTicks die)).releaseChecked die (Fin.ofNat 128 (d.fld (Reg.PIX.CHECK_POS_REGION die.val))) held
      let results := (found.map fun f => (pixNo f.1, f.2)).filter fun f => c.checked.contains f.1
      let d := results.foldl (fun d f => d.newStatus die f.1 (d.checkStatus die f.2)) d
      let r := d.fld (Reg.PIX.CHECK_POS_REGION die.val)
      let d := d.setFld (Reg.PIX.CHECK_POS_REGION die.val) (r + 1)
      let d := if r = 127 then d.setFld (Reg.PIX.CHECK_POS_CYCLES die.val) (d.fld (Reg.PIX.CHECK_POS_CYCLES die.val) + 1) else d
      (d.setCheck die {}).countStatuses die
    else d) s

/-- Every status of a die becomes UNTESTED (R61). -/
def Device.clearStatuses (d : Device) (die : Die) : Device :=
  let mine := (d.arr.pixels.filter fun p => pixDie p.1 == die && p.2.status != 0).map (·.1)
  (mine.foldl (fun d i => d.updPixel i fun p => { p with status := 0 }) d).countStatuses die

/-- CLEAR_STATUS (R61). -/
def execClearStatus (die : Die) (s : State) : Res := run (fun d => d.pixWrite die fun d => d.clearStatuses die) s

end Sys2Proof.Machine
end

