-- ==== Sys2Proof/Machine/Sha.lean ====
section
/-! DEFINITION. SHA-256 and HMAC-SHA-256 over bytes (R447, R497; FIPS 180-4, FIPS 198-1), and the CRC-8 of the logs (R511). -/

namespace Sys2Proof.Machine

/-- The bytes of a number, most significant first. -/
def bytesBE (n v : Nat) : List Nat := (List.range n).map fun i => v / 256 ^ (n - 1 - i) % 256

/-- The number that bytes spell, most significant first. -/
def natBE (bs : List Nat) : Nat := bs.foldl (fun v b => v * 256 + b % 256) 0

/-- The round constants of SHA-256, 16 in a number of 512 bits with the first one on top: the first 32 fraction bits of the cube roots of the
first 64 primes. -/
def shaRoots : List (BitVec 512) :=
  [0x428a2f9871374491b5c0fbcfe9b5dba53956c25b59f111f1923f82a4ab1c5ed5d807aa9812835b01243185be550c7dc372be5d7480deb1fe9bdc06a7c19bf174,
   0xe49b69c1efbe47860fc19dc6240ca1cc2de92c6f4a7484aa5cb0a9dc76f988da983e5152a831c66db00327c8bf597fc7c6e00bf3d5a7914706ca635114292967,
   0x27b70a852e1b21384d2c6dfc53380d13650a7354766a0abb81c2c92e92722c85a2bfe8a1a81a664bc24b8b70c76c51a3d192e819d6990624f40e3585106aa070,
   0x19a4c1161e376c082748774c34b0bcb5391c0cb34ed8aa4a5b9cca4f682e6ff3748f82ee78a5636f84c878148cc7020890befffaa4506cebbef9a3f7c67178f2]

/-- The round constants in their order. -/
def shaK : List Nat :=
  shaRoots.flatMap fun r => (List.range 16).map fun i => r.toNat / 2 ^ (480 - 32 * i) % 2 ^ 32

/-- The eight working words. -/
structure ShaState where
  a : W32
  b : W32
  c : W32
  d : W32
  e : W32
  f : W32
  g : W32
  h : W32
  deriving DecidableEq, Repr

/-- The eight words of a number of 256 bits, the first one on top. -/
def ShaState.of (x : BitVec 256) : ShaState :=
  let w (i : Nat) : W32 := x.extractLsb' (224 - 32 * i) 32
  ⟨w 0, w 1, w 2, w 3, w 4, w 5, w 6, w 7⟩

/-- The initial hash value: the first 32 fraction bits of the square roots of the first eight primes. -/
def shaInit : ShaState := .of 0x6a09e667bb67ae853c6ef372a54ff53a510e527f9b05688c1f83d9ab5be0cd19

/-- One round with its constant and the schedule's present word; the schedule is a window of 16 words. -/
def shaRound (p : ShaState × List W32) (k : Nat) : ShaState × List W32 :=
  let s := p.1
  let w := p.2.getD 0 0
  let s1 := s.e.rotateRight 6 ^^^ s.e.rotateRight 11 ^^^ s.e.rotateRight 25
  let ch := (s.e &&& s.f) ^^^ (~~~s.e &&& s.g)
  let t1 := s.h + s1 + ch + BitVec.ofNat 32 k + w
  let s0 := s.a.rotateRight 2 ^^^ s.a.rotateRight 13 ^^^ s.a.rotateRight 22
  let maj := (s.a &&& s.b) ^^^ (s.a &&& s.c) ^^^ (s.b &&& s.c)
  let x := p.2.getD 1 0
  let y := p.2.getD 14 0
  let sx := x.rotateRight 7 ^^^ x.rotateRight 18 ^^^ (x >>> 3)
  let sy := y.rotateRight 17 ^^^ y.rotateRight 19 ^^^ (y >>> 10)
  (⟨t1 + s0 + maj, s.a, s.b, s.c, s.d + t1, s.e, s.f, s.g⟩, p.2.drop 1 ++ [sy + p.2.getD 9 0 + sx + w])

/-- The 16 words of a block of 64 bytes. -/
def shaWords (bs : List Nat) : List W32 :=
  (List.range 16).map fun i => BitVec.ofNat 32 (natBE ((bs.drop (4 * i)).take 4))

/-- One block. -/
def shaBlock (s : ShaState) (bs : List Nat) : ShaState :=
  let t := (shaK.foldl shaRound (s, shaWords bs)).1
  ⟨s.a + t.a, s.b + t.b, s.c + t.c, s.d + t.d, s.e + t.e, s.f + t.f, s.g + t.g, s.h + t.h⟩

/-- `n` blocks. -/
def shaBlocks : Nat → ShaState → List Nat → ShaState
  | 0, s, _ => s
  | n + 1, s, bs => shaBlocks n (shaBlock s bs) (bs.drop 64)

/-- SHA-256 of a message of bytes. -/
def sha256 (m : List Nat) : BitVec 256 :=
  let n := m.length
  let zeros := (119 - n % 64) % 64
  let padded := m ++ 0x80 :: (List.replicate zeros 0 ++ bytesBE 8 (8 * n))
  let s := shaBlocks (padded.length / 64) shaInit padded
  s.a ++ s.b ++ s.c ++ s.d ++ s.e ++ s.f ++ s.g ++ s.h

/-- HMAC-SHA-256 with a key of 256 bits. -/
def hmac (key : BitVec 256) (m : List Nat) : BitVec 256 :=
  let k := bytesBE 32 key.toNat ++ List.replicate 32 0
  let pad (x : Nat) : List Nat := k.map fun b => Nat.xor b x
  sha256 (pad 0x5C ++ bytesBE 32 (sha256 (pad 0x36 ++ m)).toNat)

/-- CRC-8 over bytes: polynomial 0x07, initial value 0 (R511). -/
def crc8 (bytes : List Nat) : Nat :=
  bytes.foldl (fun c b => (List.range 8).foldl (fun c _ =>
    if c / 0x80 % 2 = 1 then Nat.xor (c * 2 % 0x100) 0x07 else c * 2 % 0x100) (Nat.xor c b)) 0

/-- The four words of a log entry with its number (R511, R569). -/
def LogEntry.finish (e : LogEntry) (seq : Nat) : List W64 :=
  let w0 (crc : Nat) : W64 :=
    e.word0 ||| BitVec.ofNat 64 (seq % 2 ^ 24 * 2 ^ 40 + e.kind % 256 * 2 ^ 32 + crc * 2 ^ 16 + min e.count 65535)
  let body : List W64 := [e.word1, e.word2, e.word3]
  w0 (crc8 ((w0 0 :: body).flatMap bytesLE)) :: body

end Sys2Proof.Machine
end

