-- ==== Sys2Proof/Machine/SealOps.lean ====
section
/-! DEFINITION. The sealed domain's commands step by step (R489-R504): the seal message, stored images, the store writes they take, the seal
log, and how each ends. -/

namespace Sys2Proof.Machine

/-- A key slot of the one-time programmable store (R505). -/
def Device.keySlot (d : Device) (k : Nat) : KeySlot := SMap.get (fun _ => {}) d.sec.otp.keys k

/-- A slot is usable for a function: programmed, not revoked, the function in USAGE (R506). Functions: 0 SEAL, 1 CMD, 2 DEBUG. -/
def KeySlot.serves (k : KeySlot) (use : Nat) : Bool := k.programmed && !k.revoked && k.usage.getLsbD use

/-- The seal key, when its slot is usable (R495, R501). -/
def Device.sealKey (d : Device) : Option (BitVec 256) :=
  let k := d.keySlot (d.fld Reg.SEA0.POLICY_SEAL_KEY)
  if k.serves 0 then some k.key else none

/-- The sealed domain's state is shown (R493). -/
def Device.setSealState (d : Device) (n : Nat) : Device := (d.setFld Reg.SEA0.STATUS_STATE n).setFld Reg.SEA0.SUMMARY_STATE n

/-- TRIM_STEP of a die as the sealed domain holds it (R489); 1 after reset (R79). -/
def Device.trimStep (d : Device) (die : Nat) : Nat := SMap.get (fun _ => 1) d.sea.trimStep die

/-- The master trim of a pixel (R490); 0x10 after reset (R503). -/
def Device.masterTrim (d : Device) (i : Nat) : BitVec 5 := SMap.get (fun _ => 0x10) d.sea.master i

/-- The seal counter in its cell of the store (R499). -/
def Device.counterCell (d : Device) : Nat := (d.stored 32 Reg.SEA0.COUNTER).getD 0

/-- The message of a seal (R497). -/
def Device.sealMessage (d : Device) (counter : W32) (frame : BitVec 40) : List Nat :=
  let n := d.part.dies
  bytesBE 8 d.sec.otp.devId.toNat ++ bytesBE 4 counter.toNat ++ bytesBE 5 frame.toNat ++ [2 ^ n - 1, 1, 0, d.fld Reg.TIM0.CTRL_FINE_EN]
    ++ ((List.range 4).flatMap fun k => bytesBE 2 (d.fld (Reg.TIM0.INJ_DELAY_DELAY k)))
    ++ ((List.range n).map fun k => d.trimStep k)
    ++ ((List.range n).flatMap fun k => bytesBE 2 (d.fld (Reg.SEA1.INJCAL_ZERO k)) ++ bytesBE 2 (d.fld (Reg.SEA1.INJCAL_SLOPE k)))
    ++ ((List.range 4744).flatMap fun k => bytesBE 2 (d.coef k).toNat)
    ++ ((List.range (n * 8192 * 66)).flatMap fun k => bytesBE 2 (SMap.get (fun _ => 0) d.sea.corr k).toNat)
    ++ ((List.range (n * 131072)).map fun k => (d.masterTrim k).toNat)

/-- The contents that an image holds (R501). -/
def Device.sealContents (d : Device) (isSealed : Bool) (counter : W32) : SealImage :=
  { isSealed := isSealed, counter := counter, fineEn := d.flag Reg.TIM0.CTRL_FINE_EN
    injDelay := (List.range 4).map fun k => d.word (Reg.TIM0.INJ_DELAY k)
    trimStep := (List.range 4).map fun k => d.trimStep k
    injcal := (List.range 4).map fun k => d.word (Reg.SEA1.INJCAL k)
    coefs := d.sea.coefs, trims := d.sea.master, key := d.sealKey }

/-- The pages of the sealed image: 528 on, 1,320 or 680 of them (R562). -/
def Device.imagePages (d : Device) : Nat := 330 * d.part.dies + (if d.part = .ezn8620 then 20 else 0)

/-- The number that the next image write carries (R603). -/
def Device.nextImage (d : Device) : Nat := 1 + (d.sea.images.map (·.1)).foldl max 0

/-- Images that no page of the store carries any more, and that is not being written, are gone. -/
def Device.pruneImages (d : Device) (keep : Nat) : Device :=
  let live (g : Nat) : Bool := g = keep || d.nvs.pages.any fun p => decide (528 ≤ p.1) && p.2.image == g
  { d with sea := { d.sea with images := d.sea.images.filter fun p => live p.1 } }

/-- A store write of the sealed domain is requested; STORE_BUSY shows it. -/
def Device.sealStore (d : Device) (w : StoreWrite) : Device := (d.setFlag Reg.SEA0.STATUS_STORE_BUSY true).store w

/-- The command in progress takes a new phase. -/
def Device.setWork (d : Device) (w : SealWork) : Device := { d with sea := { d.sea with work := some w } }

/-- The command in progress is over. -/
def Device.endWork (d : Device) : Device :=
  Device.setFlag { d with sea := { d.sea with work := none } } Reg.SEA0.STATUS_STORE_BUSY false

/-- A seal or a reseal begins (R496, R504): the time, the counter, the MAC, the counter commit. -/
def Device.beginSeal (d : Device) (kind : SealKind) (key : BitVec 256) (route : Nat := 3) : Device :=
  let counter : W32 := BitVec.ofNat 32 (d.counterCell + 1)
  let mac := hmac key (d.sealMessage counter d.frame)
  let w : SealWork := { kind := kind, phase := .counter, frame := d.frame, ct := d.ct, counter := counter, mac := mac, route := route }
  (d.setWork w).sealStore { page := 32, words := [(Reg.SEA0.COUNTER, counter.toNat)], owner := .sealCounter }

/-- A refusal is shown: REFUSE_REASON and SEAL_REFUSED (R495, R500). -/
def Device.showRefusal (d : Device) (reason : Nat) : Device := (d.setFld Reg.SEA0.STATUS_REFUSE_REASON reason).raise .sea0 2

/-- The next page of the image in progress is requested (R501, R603). -/
def Device.imagePage (d : Device) (w : SealWork) (k : Nat) : Device :=
  (d.setWork { w with phase := .image k }).sealStore { page := 528 + k, words := [], owner := .sealImage (528 + k), image := w.gen }

/-- The image of a seal or a save begins: its contents take a number of their own. -/
def Device.beginImage (d : Device) (w : SealWork) (isSealed : Bool) : Device :=
  let g := d.nextImage
  let c := d.sealContents isSealed w.counter
  Device.imagePage { d with sea := { d.sea with images := d.sea.images ++ [(g, c)] } } { w with gen := g } 0

/-! ### The seal log -/

/-- The words of a seal record (R210). -/
def SealWork.record (w : SealWork) (action : Nat) : List W64 :=
  let mac (k : Nat) : W64 := if action = 1 then w.mac.extractLsb' (64 * (3 - k)) 64 else 0
  [recHeader 6 5 (w.counter ++ BitVec.ofNat 8 action ++ (0 : BitVec 8)), w.frame ++ w.ct ++ (0 : BitVec 6), mac 0, mac 1, mac 2, mac 3]

/-- The number, from 1, of the seal-log entry in a slot of the 64; 0 when there is none. -/
def Device.slogNo (d : Device) (slot : Nat) : Nat := (d.stored (64 + slot / 4) (8 * (slot % 4) + 6)).getD 0

/-- The number of the newest entry of the seal log. -/
def Device.slogLast (d : Device) : Nat := ((List.range 64).map fun k => d.slogNo k).foldl max 0

/-- A word of an entry of the seal log, 0 the newest; 0 for an absent entry (R522). -/
def Device.slogWord (d : Device) (entry word : Nat) : W64 :=
  let n := d.slogLast - entry
  let slot := (n - 1) % 64
  if n = 0 || d.slogLast < entry || d.slogNo slot ≠ n || 5 < word then 0
  else BitVec.ofNat 64 ((d.stored (64 + slot / 4) (8 * (slot % 4) + word)).getD 0)

/-- A seal record is written into the seal log (R496, R500); STORE_BUSY shows it. -/
def Device.writeSlog (d : Device) (record : List W64) : Device :=
  let n := d.slogLast + 1
  let slot := (n - 1) % 64
  let words := record.zipIdx.map fun p => (8 * (slot % 4) + p.2, p.1.toNat)
  d.sealStore { page := 64 + slot / 4, words := words ++ [(8 * (slot % 4) + 6, n)], owner := .sealLog }

/-! ### Progress -/

/-- The store has committed the write that the command in progress waited for (R496, R500, R502). -/
def Device.sealAdvance (d : Device) : Device :=
  match d.sea.work with
  | none => d
  | some w => match w.phase with
    | .counter => d.beginImage w true
    | .image k =>
      if k + 1 < d.imagePages then d.imagePage w (k + 1)
      else
        let d := d.pruneImages w.gen
        match w.kind with
        | .save => d.endWork.raise .sea0 3
        | _ => (d.setWork { w with phase := .slog }).writeSlog (w.record 1)
    | .slog => (d.setFlag Reg.SEA0.STATUS_STORE_BUSY false).setWork { w with phase := .done }
    | .flag =>
      let unflag (p : Nat × SealImage) : Nat × SealImage := if p.1 = w.gen then (p.1, { p.2 with isSealed := false }) else p
      let d := { d with sea := { d.sea with images := d.sea.images.map unflag } }
      (d.setFlag Reg.SEA0.STATUS_STORE_BUSY false).setWork { w with phase := .done }
    | .done => d

/-- The erasure's last step (R516). -/
def Device.erasureEnds (d : Device) : Device :=
  let d := (d.setFlag Reg.SEC.SUMMARY_ERASED true).setFlag Reg.SEC.SUMMARY_DEBUG_OPEN true
  let d := { d with sec := { d.sec with erasing := false, otp := { d.sec.otp with erased := true } } }
  (((d.raise .sec 6).raise .sec 5).audit 0x0B 3 2 0 0 0).audit 0x0E 3 0 0 0 0

/-- The store write that the command in progress waited for has failed (R499, R500, R502, R504). -/
def Device.sealFails (d : Device) : Device :=
  match d.sea.work with
  | none => d
  | some w =>
    let d := d.endWork
    match w.kind with
    | .save => d.raise .sea0 4
    | .seal => ((d.setSealState 0).showRefusal 7).audit 0x08 w.route 0 0 0 7
    | .reseal => (d.setFld Reg.SEA0.STATUS_REFUSE_REASON 7).audit 0x08 3 0 0 0 7
    | .unseal => ((d.setSealState 2).showRefusal 7).audit 0x08 w.route 0 0 0 7
    | .erase => Device.erasureEnds (((d.setSealState 2).showRefusal 7).audit 0x08 3 0 0 0 7)

/-- The present frame carries SEAL_CHANGED (R194, R496). -/
def Device.sealChanged (d : Device) : Device := d.markPresent fun f => { f with sealChanged := true }

/-- A seal record enters the output stream at its present position (R190, R496). -/
def Device.emitSeal (d : Device) (words : List W64) : Device :=
  if d.pageOn .evb then d.sealChanged.emit { kind := .seal, words := words } else d

/-- ACT_FRAME shows the time of a seal or an unseal; its high part at the next read of ACT_FRAME_LO (R522). -/
def Device.showAct (d : Device) (f : BitVec 40) : Device :=
  Device.setWord { d with sea := { d.sea with actHi := (f.extractLsb' 32 8).setWidth 32 } } Reg.SEA0.ACT_FRAME_LO (f.extractLsb' 0 32)

/-- The MAC registers show a MAC. -/
def Device.showMac (d : Device) (mac : BitVec 256) : Device :=
  (List.range 8).foldl (fun d k => d.setWord (Reg.SEA0.MAC k) (mac.extractLsb' (32 * (7 - k)) 32)) d

/-- The seal is complete (R496 step 5, R504). -/
def Device.sealComplete (d : Device) (w : SealWork) : Device :=
  let d := (((d.endWork.setSealState 2).setWord Reg.SEA0.COUNTER w.counter).showMac w.mac).showAct w.frame
  let d := (d.count Reg.SEA0.CNT_SEALS).raise .sea0 0
  let d := d.audit (if w.kind = .reseal then 0x07 else 0x05) w.route 0 (d.fld Reg.SEA0.POLICY_SEAL_KEY) 0 0
  d.emitSeal (w.record 1)

/-- The unseal is complete (R500 steps 3 to 5). -/
def Device.unsealComplete (d : Device) (w : SealWork) : Device :=
  let d := ((d.endWork.setSealState 0).showAct w.frame).raise .sea0 1
  let d := d.audit 0x06 w.route 0 w.keySlot 0 0
  let d := (d.emitSeal (w.record 2)).writeSlog (w.record 2)
  if w.kind = .erase then d.erasureEnds else d

/-- An unseal begins: the flag of the stored image is rewritten (R500, R516). -/
def Device.beginUnseal (d : Device) (kind : SealKind) (slot route : Nat) : Device :=
  let gen := (d.page 528).image
  let w : SealWork := { kind := kind, phase := .flag, frame := d.frame, ct := d.ct, counter := d.word Reg.SEA0.COUNTER
                        keySlot := slot, route := route, gen := gen }
  ((d.setSealState 3).setWork w).sealStore { page := 528, words := [], owner := .sealImage 528, image := gen }

/-! ### The service window (R504) -/

/-- The window opens. -/
def Device.openWindow (d : Device) : Device :=
  Device.raise (Device.setFlag { d with sea := { d.sea with window := true } } Reg.SEA0.STATUS_SVC_WINDOW true) .sea0 7

/-- The window closes: the present frame has carried it, and the domain seals the new contents; without a seal key it cannot (R507). -/
def Device.closeWindow (d : Device) : Device :=
  let d := d.markFrame
  let d := Device.setFlag { d with sea := { d.sea with window := false } } Reg.SEA0.STATUS_SVC_WINDOW false
  match d.sealKey with
  | some key => d.beginSeal .reseal key
  | none => (d.setFld Reg.SEA0.STATUS_REFUSE_REASON 3).audit 0x08 3 0 0 0 3

end Sys2Proof.Machine
end

