-- ==== Sys2Proof/Machine/Sta.lean ====
section
/-! DEFINITION. The statistics engine's commands, the service sequencer and the built-in services (spec/10). The steps WRITE, POLL and DSP
reach registers or cores and stand with the fabric. -/

namespace Sys2Proof.Machine

/-! ### Statistics runs -/

/-- The run completes (R336). -/
def Device.completeRun (d : Device) : Device := (d.setFld Reg.STA0.STATUS_STATE 2).raise .sta0 0

/-- START clears the cells, or the bins of the bound clusters, and starts (R336-R338). -/
def Device.startRun (d : Device) : Device :=
  if !d.enabled .sta0 then d
  else
    let d := ((d.setFld Reg.STA0.STATUS_STATE 1).setFlag Reg.STA0.STATUS_OVR false).setFld Reg.STA0.STATUS_AT_N 0
    if !d.flag Reg.STA0.CFG_HIST then { d with sta := { d.sta with cells := [] } }
    else if d.fld Reg.STA0.CFG_SOURCE = 3 then { d with sta := { d.sta with bins := [] } }
    else d.completeRun

/-- STA_RUN_START (R336). -/
def execStaRunStart (s : State) : Res := run (fun d => d.staWrite fun d => d.startRun) s

/-- STA_RUN_STOP (R336). -/
def execStaRunStop (s : State) : Res := run (fun d => d.staWrite fun d => if d.staRuns then d.completeRun else d) s

/-- Every bound cell, or every bound cluster in histogram mode, has reached N (R336, R338). -/
def Device.runFull (d : Device) : Bool :=
  if d.flag Reg.STA0.CFG_HIST then
    let present := min 8192 (d.staUnits 1 - d.fld Reg.STA0.BASE_INDEX)
    (List.range present).all fun j => decide (d.staN ≤ d.binSum j)
  else decide (d.boundCells ≤ d.fld Reg.STA0.STATUS_AT_N)

/-- STA_RUN_DONE (R336). -/
def execStaRunDone (s : State) : Res := run (fun d => if d.staRuns && d.runFull then d.completeRun else d) s

/-- A value is pushed (R335, R357). -/
def Device.pushValue (d : Device) (data : W32) : Device :=
  if d.staRuns && d.staSource = 5 && !d.flag Reg.STA0.CFG_HIST then d.giveCell (d.fld Reg.STA0.PUSH_CELL_CELL) (data.setWidth 24).toInt else d

/-- STA_PUSH_VALUE (R335). -/
def execStaPushValue (data : W32) (s : State) : Res := run (fun d => d.staWrite fun d => d.pushValue data) s

/-! ### Starting sequences -/

/-- A write to SVC_CTRL (R348, R358). -/
def Device.writeSvcCtrl (d : Device) (data : W32) : Device :=
  let n := data.toNat % 16
  let d := d.setFld Reg.STA1.SVC_CTRL_SEQ n
  if data.getLsbD 8 then d.startSeq n 0 else d

/-- SVC_START (R348). -/
def execSvcStart (data : W32) (s : State) : Res := run (fun d => if d.pageOn .sta1 then d.writeSvcCtrl data else d) s

/-- START of a descriptor: 4 to 7 act as 0 (R347). -/
def seqKind (desc : W64) : Nat := let k := (desc.extractLsb' 60 3).toNat; if 4 ≤ k then 0 else k

/-- HOLD of a descriptor in seconds; 0 acts as 1 (R347). -/
def seqHold (desc : W64) : Nat := max 1 (desc.extractLsb' 26 16).toNat

/-- Every sequence with START = 1 starts: entry into S1 (R348, R558). -/
def Device.startAtS1 (d : Device) : Device :=
  let d := { d with sta := { d.sta with s1Since := some d.clock, periods := [] } }
  (List.range 16).foldl (fun d n => if seqKind (d.seqDesc n) = 1 then d.startSeq n 0 else d) d

/-- A sensor's own temperature is usable (R543). -/
def Device.sensorSt (d : Device) (n : Nat) : SensorSt := SMap.get (fun _ => {}) d.thm.sensors n

/-- The hottest reading of a die's working sensors, in 1/8 °C (R112, R543). -/
def Device.dieHottest (d : Device) (die : Nat) : Option Int :=
  (List.range 16).foldl (fun m k =>
    let n := 16 * die + k
    let s := d.sensorSt n
    if s.valid && !s.failed && !(d.word (Reg.THM.SENS_DISABLE (n / 32))).getLsbD (n % 32) then
      match m with
      | none => some s.own
      | some x => some (max x s.own)
    else m) none

/-- The drift threshold of a descriptor in °C; 0 acts as 1 (R347). -/
def seqDrift (desc : W64) : Nat := max 1 (desc.extractLsb' 42 8).toNat

/-- The dies that have drifted by more than a threshold (R348). -/
def Device.drifted (d : Device) (limit : Nat) : List Nat :=
  (List.range 4).filter fun n => d.hasDie n && d.flag (Reg.STA1.CAL_TEMP_VALID n) &&
    match d.dieHottest n with
    | some t => decide (8 * limit < (t - 8 * ((d.fld (Reg.STA1.CAL_TEMP_TEMP n) : Int) - 64)).natAbs)
    | none => false

/-- HOLD seconds have passed since a sequence last started. -/
def Device.heldOff (d : Device) (n : Nat) : Bool :=
  let t := SMap.get (fun _ => 0) d.sta.started n
  t = 0 || decide (t - 1 + seqHold (d.seqDesc n) * Config.secondCt ≤ d.clock)

/-- The one-second comparison (R348). -/
def Device.driftCheck (d : Device) : Device :=
  (List.range 16).foldl (fun d n =>
    let desc := d.seqDesc n
    let dies := d.drifted (seqDrift desc)
    if seqKind desc = 2 && !dies.isEmpty && d.heldOff n then d.startSeq n (BitVec.ofNat 4 (dies.map fun k => 2 ^ k).sum) else d) d

/-- SVC_DRIFT_CHECK (R348). -/
def execSvcDriftCheck (s : State) : Res := run (fun d => if d.pageOn .sta1 then d.driftCheck else d) s

/-- SVC_PERIODIC_START (R348): the next period of a sequence ends. -/
def execSvcPeriodicStart (seq : Fin 16) (s : State) : Res :=
  run (fun d => match d.sta.s1Since with
    | some t =>
      let k := SMap.get (fun _ => 0) d.sta.periods seq.val + 1
      if d.pageOn .sta1 && seqKind (d.seqDesc seq.val) = 3 then
        let d := d.waitUntil (t + k * seqHold (d.seqDesc seq.val) * Config.secondCt)
        Device.startSeq { d with sta := { d.sta with periods := SMap.set (fun _ => 0) d.sta.periods seq.val k } } seq.val 0
      else d
    | none => d) s

/-! ### The table -/

/-- The checks of a staged sequence table (R346): MAGIC, VERSION, COUNT, CRC, defined OPs, FIRST of enabled descriptors, BRANCH targets. -/
def Device.seqImageOk (d : Device) : Bool :=
  let h := (d.staged .sequence 0).toNat
  let count := h / 2 ^ 32 % 4096
  let word (k : Nat) : W64 := d.staged .sequence k
  let body := (List.range (16 + count)).map fun k => word (1 + k)
  let desc (k : Nat) : Bool := let w := word (1 + k); !w.getLsbD 63 || decide ((w.extractLsb' 50 10).toNat < count)
  let step (k : Nat) : Bool :=
    let w := word (17 + k)
    let op := (w.extractLsb' 60 4).toNat
    decide (op < 8) && (op != 6 || decide ((w.extractLsb' 0 10).toNat < count))
  h / 2 ^ 48 = 0x5351 && h / 2 ^ 44 % 16 = 1 && decide (1 ≤ count) && decide (count ≤ 1008) && h % 2 ^ 32 = crc32 (body.flatMap bytesLE)
    && (List.range 16).all desc && (List.range count).all step

/-- A commit of the sequence table (R346); a pending sequence that it enables can start (R347, R348). -/
def Device.commitSeq (d : Device) : Device :=
  if d.seqImageOk then
    let count := (d.staged .sequence 0).toNat / 2 ^ 32 % 4096
    let words := (List.range 1024).map fun k => if k < 16 + count then d.staged .sequence (1 + k) else 0
    let d := { d with sta := { d.sta with table := SMap.setAll seqReset [] 1 words } }
    ((d.setFlag Reg.STA1.SEQ_CTRL_REJECTED false).raise .sta1 2).nextSeq
  else (d.setFlag Reg.STA1.SEQ_CTRL_REJECTED true).raise .sta1 8

/-- SEQ_COMMIT (R346). -/
def execSeqCommit (s : State) : Res := run (fun d => if d.pageOn .sta1 then d.commitSeq else d) s

/-! ### The steps (R349) -/

/-- The running sequence is about to take a step with this OP: its state and the step. -/
def Device.atStep (d : Device) (op : Nat) (f : SeqRun → W64 → Device) : Device :=
  match d.sta.run with
  | some r =>
    if d.pageOn .sta1 && r.phase == .ready && ((d.seqStep r).extractLsb' 60 4).toNat = op then f r (d.seqStep r) else d
  | none => d

/-- SEQ_END (R349). -/
def execSeqEnd (s : State) : Res := run (fun d => d.atStep 0 fun r _ => d.endSeq (if r.warned then 1 else 0)) s

/-- SEQ_WAIT (R349). -/
def execSeqWait (s : State) : Res :=
  run (fun d => d.atStep 2 fun r w => d.setPhase r (.wait (d.clock + Config.usCt * (w.extractLsb' 0 32).toNat))) s

/-- SEQ_WAIT_EXPIRE (R349). -/
def execSeqWaitExpire (s : State) : Res :=
  run (fun d => match d.sta.run with
    | some r => match r.phase with
      | .wait t => (d.waitUntil t).nextStep r
      | _ => d
    | none => d) s

/-- SEQ_BRANCH (R349). -/
def execSeqBranch (s : State) : Res :=
  run (fun d => d.atStep 6 fun r w => if w.getLsbD 59 && !r.lastWarn then d.nextStep r else d.gotoStep r (w.extractLsb' 0 10).toNat) s

/-- SEQ_FAIL (R349). -/
def execSeqFail (s : State) : Res :=
  run (fun d => d.atStep 7 fun _ w => (d.setFld Reg.STA1.SVC_USER_USER_CODE (w.extractLsb' 0 8).toNat).endSeq 8) s

/-- The dies of a RUN step (R349). -/
def Device.stepDies (d : Device) (r : SeqRun) (w : W64) : List Nat :=
  let mask := w.extractLsb' 52 4
  let mask := if mask = 0 then (if r.cause = 0 then 0xF#4 else r.cause) else mask
  (List.range 4).filter fun n => d.hasDie n && mask.getLsbD n

/-- The service of a RUN step (R349). -/
def stepService (w : W64) : Option Service :=
  match (w.extractLsb' 56 4).toNat with
  | 0 => some .delayLine
  | 1 => some .threshold
  | 2 => some .bumpScan
  | _ => none

/-- What the seal says of a service (R342): 0 it runs, 1 it runs as a service reseal, 2 it is refused. -/
def Device.sealSays (d : Device) (svc : Service) (commit : Bool) : Nat :=
  if d.unsealed then 0
  else match svc with
    | .threshold => 2
    | .delayLine => if !commit then 0 else if d.flag Reg.SEA0.POLICY_SVC_RESEAL then 1 else 2
    | .bumpScan => 0

/-- A RUN step begins to claim, or ends the sequence at once (R339, R342, R349). A service the manual leaves undefined ends with a code that
nothing fixes (log 13). -/
def Device.beginRun (d : Device) (r : SeqRun) (w : W64) : Device :=
  match stepService w with
  | none =>
    let code := Config.undefinedService d.free % 9
    let d := d.draw
    if code < 2 then d.nextStep { r with warned := r.warned || code == 1, lastWarn := code == 1 } else d.endSeq code
  | some svc =>
    if !d.serviceCond (d.stepDies r w) then d.endSeq 6
    else if d.sealSays svc (w.getLsbD 51) = 2 then (d.raise .sta1 6).endSeq 4
    else (d.setFld Reg.STA1.SVC_STATUS_STATE 2).setPhase r (.claim d.clock)

/-- SEQ_RUN (R349). -/
def execSeqRun (s : State) : Res := run (fun d => d.atStep 4 fun r w => d.beginRun r w) s

/-! ### Claims -/

/-- The lowest-numbered halted core of an enabled page (R339). -/
def Device.freeCore (d : Device) : Option Nat :=
  ([0, 1, 2, 3] : List Nat).find? fun c => d.tim.dspClock && d.enabled (.dsp (Fin.ofNat 4 c)) && (d.core c).run == .halted && !(d.core c).claimed

/-- Nothing stands in the way of a service's claims but its context (R339). A background check in progress does not: it pauses. -/
def Device.claimable (d : Device) (svc : Service) (dies : List Nat) (params : BitVec 48) : Bool :=
  (dies.all fun n => !d.flag (Reg.PIX.INJ_CTRL_BUSY n)) && ((svc == .bumpScan && !params.getLsbD 42) || !d.staRuns)

/-- The pixel that a delay-line calibration uses in a cluster: the first unmasked one in raster order from PIXEL on (R351). -/
def Device.calPixel (d : Device) (cluster start : Nat) : Option Nat :=
  let die := cluster / 8192
  let j := cluster % 8192
  let pixel (k : Nat) : Nat := die * 131072 + (4 * (j / 128) + k / 4) * 512 + 4 * (j % 128) + k % 4
  ((List.range 16).map fun k => pixel ((start + k) % 16)).find? fun i => !(d.pixel i).entry.getLsbD 5

/-- INJ_CODE of a delay-line calibration; 0: VTH × 20 e⁻ + 2,000 e⁻ at 9.35 e⁻ per code, rounded up (R351). -/
def Device.calCode (d : Device) (die : Nat) (params : BitVec 48) : Nat :=
  let c := (params.extractLsb' 4 12).toNat
  if c = 0 then (((d.fld (Reg.PIX.VTH_CODE die)) * 20 + 2000) * 100 + 934) / 935 else c

/-- A service's injection sequence starts on a die: pulses, mode, code and period (R63, R351, R352). -/
def Device.injectFor (d : Device) (n pulses : Nat) (async : Bool) (code period : Nat) : Device :=
  let die : Die := Fin.ofNat 4 n
  let first := d.clock + (2 ^ 18 - d.ct.toNat) + d.fld (Reg.PIX.INJ_OFFSET_CT n)
  let d := d.setInj die { d.injOf die with left := pulses, given := 0, next := first, async := async, service := some (code, period) }
  let d := (d.setFlag (Reg.PIX.INJ_CTRL_BUSY n) true).setFld (Reg.PIX.INJ_LEFT_COUNT n) pulses
  Device.monWake { d with mon := { d.mon with senseWait := d.mon.senseWait ++ [n] } }

/-- Pixels take new entries; those not saved before are saved. Answers the service's run with them. -/
def Device.changeEntries (d : Device) (s : ServiceRun) (cells : List (Nat × BitVec 8)) : Device × ServiceRun :=
  let fresh := (cells.filter fun c => !s.saved.any fun p => p.1 = c.1).map fun c => (c.1, (d.pixel c.1).entry)
  (cells.foldl (fun d c => d.setEntry c.1 c.2) d, { s with saved := s.saved ++ fresh })

/-- INJ_EN is set on the pixels of a list and on no other of a die (R351, R352). -/
def Device.injectOnly (d : Device) (s : ServiceRun) (n : Nat) (chosen : List Nat) : Device × ServiceRun :=
  let off := ((d.injected n).filter fun i => !chosen.contains i).map fun i => (i, (d.pixel i).entry &&& 0xBF#8)
  d.changeEntries s (off ++ chosen.map fun i => (i, (d.pixel i).entry ||| 0x40#8))

/-- The delay-line calibration of the first die to do starts: INJ_EN on one pixel of each cluster, the histogram empty, asynchronous injection of
N + N / 8 pulses 6,400 CT apart (R351). -/
def Device.startDie (d : Device) (r : SeqRun) (s : ServiceRun) : Device :=
  match s.todo with
  | [] => d
  | n :: _ =>
    let chosen := (List.range 8192).filterMap fun j => d.calPixel (n * 8192 + j) (s.params.extractLsb' 0 4).toNat
    let (d, s) := d.injectOnly { s with stage := .codes, saved := [], failed := [], means := [] } n chosen
    let hits := calHits s.params
    let d := Device.injectFor { d with sta := { d.sta with bins := [] } } n (hits + hits / 8) true (d.calCode n s.params) 6400
    d.setPhase r (.service s)

/-- The pixels of a die that threshold equalisation treats, in a group of columns: unmasked, in no region that is or was in the low-gain range (R352). -/
def Device.treated (d : Device) (s : ServiceRun) (n group : Nat) : List Nat :=
  ((List.range 32768).map fun k => n * 131072 + k / 128 * 512 + 4 * (k % 128) + group).filter fun i =>
    !d.masked i && !s.lowGain.contains (128 * n + (pixRegion i).val)

/-- NINJ: 0 acts as 256. -/
def eqPulses (params : BitVec 48) : Nat := let n := (params.extractLsb' 40 8).toNat; if n = 0 then 256 else n

/-- INJ_CODE of threshold equalisation; 0: VTH × 20 e⁻ at 9.35 e⁻ per code, rounded to the nearest (R352). -/
def Device.eqCode (d : Device) (die : Nat) (params : BitVec 48) : Nat :=
  let c := (params.extractLsb' 28 12).toNat
  if c = 0 then (4000 * d.fld (Reg.PIX.VTH_CODE die) + 935) / 1870 else c

/-- A measurement of threshold equalisation starts on every die (R352): the first of a group writes trim 16 and INJ_EN = 1 on the group only; the counts
of the group start at 0, and NINJ pulses are given 32,000 CT apart. -/
def Device.startTrims (d : Device) (r : SeqRun) (s : ServiceRun) (group round : Nat) : Device :=
  let one (p : Device × ServiceRun) (n : Nat) : Device × ServiceRun :=
    let (d, s) := p
    let mine := d.treated s n group
    let (d, s) := if round = 0 then
        let (d, s) := d.injectOnly s n mine
        d.changeEntries s (mine.map fun i => (i, ((d.pixel i).entry &&& 0xE0#8) ||| 0x10#8))
      else (d, s)
    ((mine.foldl (fun d i => d.setBin i 0) d).injectFor n (eqPulses s.params) false (d.eqCode n s.params) 32000, s)
  let (d, s) := s.dies.foldl one (d, { s with stage := .trims group round })
  d.setPhase r (.service s)

/-- A RUN step completes, with WARN or without (R349). -/
def Device.endRunStep (d : Device) (r : SeqRun) (s : ServiceRun) (warn : Bool) : Device :=
  (d.endClaims s).nextStep { r with warned := r.warned || warn, lastWarn := warn }

/-- The regions that are in the low-gain range on the dies of a step (R352). -/
def Device.lowRegions (d : Device) (dies : List Nat) : List Nat :=
  dies.flatMap fun n => ((List.range 128).filter fun r => d.gainAct (Fin.ofNat 4 n) (Fin.ofNat 128 r)).map fun r => 128 * n + r

/-- All claims of a RUN step are granted and the service begins (R339, R343), if a seal that came meanwhile permits it (R342). With no die to do the
step completes at once. -/
def Device.grantService (d : Device) (r : SeqRun) (w : W64) : Device :=
  match stepService w with
  | none => d
  | some svc =>
    let dies := d.stepDies r w
    let params := w.extractLsb' 0 48
    let commit := w.getLsbD 51 && svc != .bumpScan
    if !d.serviceCond dies then d.endSeq 6
    else if d.sealSays svc commit = 2 then (d.raise .sta1 6).endSeq 4
    else if !d.claimable svc dies params then d
    else
      let (d, c) := d.allocCtx 5 (BitVec.ofNat 24 r.seq)
      match c with
      | none => d
      | some ctx =>
        let s : ServiceRun := { svc := svc, dies := dies, todo := dies, commit := commit, params := params, reseals := d.sealSays svc commit = 1
                                lowGain := d.lowRegions dies, ctx := ctx }
        let d := (d.setFld Reg.STA1.SVC_STATUS_STATE 1).setFlag Reg.STA1.SVC_STATUS_SEAL_HOLD (commit && d.unsealed)
        let d := dies.foldl (fun d n => d.pauseCheck (Fin.ofNat 4 n)) d
        if dies.isEmpty then d.endRunStep r s false
        else match svc with
          | .delayLine => d.startDie r s
          | .threshold => d.startTrims r s 0 0
          | .bumpScan => d.setPhase r (.service s)

/-- All claims of a DSP step are granted: the core starts at PC (R339, R349). -/
def Device.grantCore (d : Device) (r : SeqRun) (w : W64) : Device :=
  match d.freeCore with
  | none => d
  | some c =>
    let pc := w.extractLsb' 46 14
    let d := (d.setFld Reg.STA1.SVC_STATUS_STATE 1).setFlag (Reg.DSP.CTRL_RUN c) true
    let d := d.updCore c fun k => { k with claimed := true, pc := pc, run := .running, cause := 0, drainAt := none, stopAsked := false }
    d.setPhase r (.dsp c d.clock)

/-- SVC_CLAIM_GRANTED (R339). -/
def execSvcClaimGranted (s : State) : Res :=
  run (fun d => match d.sta.run with
    | some r => match r.phase with
      | .claim _ =>
        let w := d.seqStep r
        if (w.extractLsb' 60 4).toNat = 4 then d.grantService r w else d.grantCore r w
      | _ => d
    | none => d) s

/-- SVC_CLAIM_TIMEOUT (R339). -/
def execSvcClaimTimeout (s : State) : Res :=
  run (fun d => match d.sta.run with
    | some r => match r.phase with
      | .claim t => (d.waitUntil (t + 100 * Config.msCt)).endSeq 5
      | _ => d
    | none => d) s

/-! ### The services -/

/-- What R110 makes of a cluster's histogram: D(1) to D(64) and whether the cluster fails. R110 gives no value to a word where no code below 80 was
counted, nor to one past the last populated code where that is below 15: those words are `unstated` (log 13). -/
def calRecord (h : Nat → Nat) (unstated : Nat → BitVec 16) : List (BitVec 16) × Bool :=
  let n := ((List.range 80).map h).sum
  if n = 0 then ((List.range 64).map unstated, true)
  else
    let last := (List.range 81).foldl (fun m k => if h k > 0 then k else m) 0
    let bad := decide (n < h 80 * 1000) || decide (last < 56) || decide (72 < last) || (List.range last).any fun k => h k = 0
    let step (acc : List Int × Nat × Bool) (k : Nat) : List Int × Nat × Bool :=
      let (ds, cum, fail) := acc
      let at' (j : Nat) : Int := ds.getD j 0
      if k ≤ last + 1 then
        let cum := cum + h (k - 1)
        let v : Int := ((cum * 4096 + n / 2) / n : Nat)
        let w := v - at' (k - 1)
        (ds ++ [v], cum, fail || decide (w < 16) || decide (192 < w))
      else if last < 15 then (ds ++ [((unstated k).toNat : Int)], cum, fail)
      else (ds ++ [at' (last + 1) + (((k - last - 1 : Nat) : Int) * (at' (last + 1) - at' (last - 15))).tdiv 16], cum, fail)
    let (ds, _, fail) := ((List.range 64).map (· + 1)).foldl step ([0], 0, bad)
    ((ds.tail).map fun v => BitVec.ofInt 16 v, fail)

/-- The median of a list: the middle value, or the mean of the two middle ones rounded down. -/
def median (xs : List Int) : Int :=
  let ys := xs.mergeSort (fun a b => decide (a ≤ b))
  let n := ys.length
  if n = 0 then 0 else (ys.getD ((n - 1) / 2) 0 + ys.getD (n / 2) 0) / 2

/-- The TEMP of a record: °C + 64, from the die's hottest sensor (R100, R112). DESIGN CHOICE (log 117): eighths of a degree are rounded down, and TEMP
is 0 while no sensor of the die works. -/
def Device.calTemp (d : Device) (die : Nat) : Nat :=
  match d.dieHottest die with
  | some t => (t / 8 + 64).toNat % 256
  | none => 0

/-- Word 65 of a new record: VALID, or FAILED (R100, R345). -/
def recordTail (ok : Bool) (temp : Nat) : BitVec 16 := (if ok then 0x8000#16 else 0x4000#16) ||| BitVec.ofNat 16 temp

/-- A service commit replaces the records of a die in one step (R345); a failed cluster loses VALID and gets FAILED. -/
def Device.putRecords (d : Device) (die temp : Nat) (rs : List (Option (List (BitVec 16)))) : Device :=
  rs.zipIdx.foldl (fun d p =>
    let c := die * 8192 + p.2
    match p.1 with
    | some ws => (ws.zipIdx.foldl (fun d w => d.setCorr c w.2 w.1) d).setCorr c 65 (recordTail true temp)
    | none => d.setCorr c 65 (recordTail false temp)) d

/-- The present run of a delay-line calibration has its hits: every pulse given, or in the histogram run every cluster at N (R351). -/
def Device.dieMeasured (d : Device) (n : Nat) (s : ServiceRun) : Bool :=
  !d.flag (Reg.PIX.INJ_CTRL_BUSY n)
    || s.stage == .codes && (List.range 8192).all fun j => decide (calHits s.params ≤ d.binSum j)

/-- The histogram run of a die is over (R351): each record is computed in place, with OFFSET 0. A cluster fails by R110, without an unmasked pixel, and
with fewer than 32,768 hits. -/
def Device.computeRecords (d : Device) (s : ServiceRun) (n : Nat) : Device × ServiceRun :=
  let one (j : Nat) : List (BitVec 16) × Bool :=
    let (ds, fail) := calRecord (fun k => d.bin (81 * j + k)) fun k => Config.recordWord d.free (66 * j + k)
    (ds, fail || decide (d.binSum j < 32768) || (d.calPixel (n * 8192 + j) (s.params.extractLsb' 0 4).toNat).isNone)
  let found := (List.range 8192).map fun j => (j, one j)
  let put (d : Device) (x : Nat × List (BitVec 16) × Bool) : Device :=
    (x.2.1 ++ [0, recordTail (!x.2.2) 0]).zipIdx.foldl (fun d w => d.setBin (81 * x.1 + w.2) w.1.toNat) d
  (found.foldl put d.draw, { s with failed := (found.filter fun x => x.2.2).map (·.1) })

/-- An offset run starts: the engine's cells empty, synchronous injection of NOFF pulses 12,800 CT apart into the same pixels (R111, R351). -/
def Device.startOffsets (d : Device) (r : SeqRun) (s : ServiceRun) (n half : Nat) : Device :=
  let pulses := max 1024 (s.params.extractLsb' 16 16).toNat
  let d := Device.injectFor { d with sta := { d.sta with cells := [] } } n pulses false (d.calCode n s.params) 12800
  d.setPhase r (.service { s with stage := .offsets half })

/-- The engine's MEAN of each cluster of an offset run, in 1/256 FU. -/
def Device.cellMeans (d : Device) : List Int := (List.range 4096).map fun c => (d.cell c).mean

/-- The offset test of a die (R111, R112): the OFFSET of each record that passed is its mean minus the median of their means, in 1/64 FU, and its word 65
takes TEMP, in the store. Answers the median in 1/64 FU. -/
def Device.setOffsets (d : Device) (s : ServiceRun) (temp : Nat) (means : List Int) : Device × Int :=
  let good := (List.range 8192).filter fun j => !s.failed.contains j
  let mid := median (good.map fun j => means.getD j 0)
  let put (d : Device) (j : Nat) : Device :=
    let d := d.setBin (81 * j + 65) (recordTail (!s.failed.contains j) temp).toNat
    if s.failed.contains j then d else d.setBin (81 * j + 64) (BitVec.ofInt 16 (roundDiv (means.getD j 0 - mid) 4)).toNat
  ((List.range 8192).foldl put d, roundDiv mid 4)

/-- The next die of a delay-line calibration, or the end of the step (R351). -/
def Device.nextDie (d : Device) (r : SeqRun) (s : ServiceRun) : Device :=
  match s.todo with
  | [] => d
  | n :: rest =>
    let d := (d.restoreEntries s).endService (Fin.ofNat 4 n)
    let s := { s with todo := rest, saved := [] }
    if rest.isEmpty then d.endRunStep r s s.warn else d.startDie r s

/-- A die's calibration finishes (R351): the records, the results; in COMMIT mode they are written, or a service reseal begins (R344, R504). -/
def Device.dieDone (d : Device) (r : SeqRun) (s : ServiceRun) (n : Nat) : Device :=
  let temp := d.calTemp n
  let (d, mid) := d.setOffsets s temp (s.means ++ d.cellMeans)
  let rs := (List.range 8192).map fun j => if s.failed.contains j then none else some ((List.range 65).map (d.storedRecord j))
  let dev := rs.zipIdx.foldl (fun m p =>
    match p.1 with
    | some ws => max m (((ws.getD 63 0).toNat : Int) - (d.corrWord (n * 8192 + p.2) 63).toNat).natAbs
    | none => m) 0
  let d := (d.setFld (Reg.STA1.DIE_RESULT_FAILED n) s.failed.length).setFld (Reg.STA1.DIE_RESULT_MAXDEV n) (min dev 65535)
  let s := { s with warn := s.warn || !s.failed.isEmpty }
  if !s.commit then d.nextDie r s
  else
    let d := if s.reseals then d.openWindow else d
    let d := d.putRecords n temp rs
    let d := d.setFld (Reg.TIM0.INJ_DELAY_DELAY n) (mid % 65536).toNat
    let d := ((d.setFld (Reg.STA1.CAL_TEMP_TEMP n) temp).setFlag (Reg.STA1.CAL_TEMP_VALID n) true).raise .sta1 3
    let d := if s.reseals then d.closeWindow else d
    if d.sea.work.isSome && s.reseals then d.setPhase r (.reseal s) else d.nextDie r s

/-- The present run of a die's calibration is over, and the next begins; the last one finishes the die (R351). -/
def Device.calNext (d : Device) (r : SeqRun) (s : ServiceRun) (n : Nat) : Device :=
  let d := d.endService (Fin.ofNat 4 n)
  match s.stage with
  | .codes => let (d, s) := d.computeRecords s n; d.startOffsets r s n 0
  | .offsets 0 => d.startOffsets r { s with means := d.cellMeans } n 1
  | _ => d.dieDone r s n

/-- A service is measuring: the running sequence and the service. -/
def Device.onService (d : Device) (svc : Service) (f : SeqRun → ServiceRun → Device) : Device :=
  match d.sta.run with
  | some r => match r.phase with
    | .service s => if s.svc == svc then f r s else d
    | _ => d
  | none => d

/-- DLCAL_DONE (R351): a run of the present die has its hits; of the die's three runs the last one finishes its calibration. -/
def execDlcalDone (s : State) : Res :=
  run (fun d => d.onService .delayLine fun r v => match v.todo with
    | n :: _ => if d.dieMeasured n v then d.calNext r v n else d
    | [] => d) s

/-! ### Threshold equalisation (R352) -/

/-- The step of the search at each of the five measurements. -/
def eqStep (round : Nat) : Nat := [8, 4, 2, 1].getD round 0

/-- The trim of a pixel after a measurement at trim `t` (R352). -/
def eqNext (round t : Nat) (eff : Bool) : Nat :=
  if round < 4 then (if eff then t + eqStep round else t - eqStep round) else if eff then t else t - 1

/-- The measurement of a group gives each pixel of a die its next trim, and says which are noisy and which TRIM_HIGH (R352). -/
def Device.searchDie (d : Device) (s : ServiceRun) (group round n : Nat) : Device × ServiceRun :=
  let ninj := eqPulses s.params
  let mine := d.treated s n group
  let trim (i : Nat) : Nat := (d.pixel i).entry.toNat % 32
  let eff (i : Nat) : Bool := decide (ninj / 2 ≤ d.bin i)
  let noisy := mine.filter fun i => decide (ninj + ninj / 8 < d.bin i) && !s.noisy.contains i
  let high := mine.filter fun i => round = 4 && eff i && trim i = 31
  let put (d : Device) (x : Nat × Nat) : Device := d.setEntry x.1 (((d.pixel x.1).entry &&& 0xE0#8) ||| BitVec.ofNat 8 x.2)
  ((mine.map fun i => (i, eqNext round (trim i) (eff i))).foldl put d, { s with noisy := s.noisy ++ noisy, high := s.high ++ high })

/-- The results of a die (R352): pixels whose region changed range keep their old trims; in MEASURE mode all do, and the final trims stay in the
histogram store; AUTO_MASK masks what is TRIM_HIGH, TRIM_LOW or noisy. -/
def Device.equalised (d : Device) (s : ServiceRun) (n : Nat) : Device :=
  let done := ([0, 1, 2, 3] : List Nat).flatMap fun g => d.treated s n g
  let trim (i : Nat) : Nat := (d.pixel i).entry.toNat % 32
  let range := done.filter fun i => s.high.contains i || trim i = 0
  let noisy := done.filter fun i => s.noisy.contains i
  let d := (d.setFld (Reg.STA1.THEQ_TRIMMED_COUNT n) done.length).setFld (Reg.STA1.THEQ_RANGE_COUNT n) range.length
  let d := (d.setFld (Reg.STA1.THEQ_NOISY_COUNT n) noisy.length).setFld (Reg.STA1.THEQ_SKIPPED_COUNT n) (131072 - done.length)
  let d := if s.commit then d else done.foldl (fun d i => d.setBin i (trim i)) d
  if s.params.getLsbD 27 then
    (range ++ noisy.filter fun i => !range.contains i).foldl (fun d i => d.setEntry i ((d.pixel i).entry ||| 0x20#8)) d
  else d

/-- A die of threshold equalisation has a pixel that is TRIM_HIGH, TRIM_LOW or noisy. -/
def Device.eqWarns (d : Device) (n : Nat) : Bool := d.fld (Reg.STA1.THEQ_RANGE_COUNT n) != 0 || d.fld (Reg.STA1.THEQ_NOISY_COUNT n) != 0

/-- Threshold equalisation finishes (R352). In COMMIT mode the final trims of the treated pixels are what the entries go back to. -/
def Device.eqDone (d : Device) (r : SeqRun) (s : ServiceRun) : Device :=
  let done := s.dies.flatMap fun n => ([0, 1, 2, 3] : List Nat).flatMap fun g => d.treated s n g
  let kept := if s.commit then s.saved.map fun p => if done.contains p.1 then (p.1, (p.2 &&& 0xE0#8) ||| ((d.pixel p.1).entry &&& 0x1F#8)) else p
    else s.saved
  let d := s.dies.foldl (fun d n => d.equalised s n) d
  (d.raise .sta1 4).endRunStep r { s with saved := kept } (s.dies.any fun n => d.eqWarns n)

/-- A measurement of threshold equalisation is over, and the next begins; the last one of the last group finishes it (R352). -/
def Device.eqNextRun (d : Device) (r : SeqRun) (s : ServiceRun) (group round : Nat) : Device :=
  let d := s.dies.foldl (fun d n => d.endService (Fin.ofNat 4 n)) d
  let (d, s) := s.dies.foldl (fun (p : Device × ServiceRun) n => p.1.searchDie p.2 group round n) (d, s)
  if round < 4 then d.startTrims r s group (round + 1)
  else if group < 3 then d.startTrims r s (group + 1) 0
  else d.eqDone r s

/-- THEQ_DONE (R352): a measurement has had its pulses on every die; of the twenty measurements the last one finishes the service. -/
def execTheqDone (s : State) : Res :=
  run (fun d => d.onService .threshold fun r v => match v.stage with
    | .trims group round => if v.dies.all fun n => !d.flag (Reg.PIX.INJ_CTRL_BUSY n) then d.eqNextRun r v group round else d
    | _ => d) s

/-! ### The bump scan (R353) -/

/-- The most frequent result of a pixel's checks; a tie goes to the worse, SHORTED before OPEN before CONNECTED. -/
def scanStatus (rs : List (BitVec 2)) : BitVec 2 :=
  let n (k : BitVec 2) : Nat := (rs.filter fun r => r == k).length
  if n 2 ≤ n 3 ∧ n 1 ≤ n 3 then 3 else if n 1 ≤ n 2 then 2 else 1

/-- The bin of a scanned pixel with RECORD = 1: the mean capacitance of its checks in 1/16 fF, 0xFFFE never checked, 0xFFFF no response. -/
def scanBin (cs : List (Option Nat)) : Nat :=
  let xs := cs.filterMap id
  if cs.isEmpty then 0xFFFE else if xs.isEmpty then 0xFFFF else min 0xFFFD ((2 * xs.sum + xs.length) / (2 * xs.length))

/-- A pixel's status from a scan; masking follows the step's AUTO_MASK (R353). -/
def Device.scanned (d : Device) (mask : Bool) (i : Nat) (st : BitVec 2) : Device :=
  let n := (pixDie i).val
  if (d.pixel i).status = st then d
  else
    let d := (d.updPixel i fun p => { p with status := st }).raise (.pix (pixDie i)) 0
    let d := (d.setFld (Reg.PIX.LAST_CHANGE_COL n) (pixCol i)).setFld (Reg.PIX.LAST_CHANGE_ROW n) (pixRow i)
    let d := d.setFld (Reg.PIX.LAST_CHANGE_STATUS n) st.toNat
    if mask && 2 ≤ st.toNat then (d.setEntry i ((d.pixel i).entry ||| 0x20#8)).raise (.pix (pixDie i)) 1 else d

/-- The bump scan of one die has its repetitions (R353): pixels that a repetition checked take their statuses, the others are counted; RECORD. Answers
whether any of its pixels is OPEN or SHORTED. -/
def Device.scanDie (d : Device) (s : ServiceRun) (n : Nat) : Device × Bool :=
  let die : Die := Fin.ofNat 4 n
  let found := (SMap.get (fun _ => ({} : ScanSt)) s.scans n).found
  let checks (i : Nat) : List (Option Nat) := (found.filter fun f => f.1 = i).map (·.2)
  let all := (List.range 131072).map fun k => n * 131072 + k
  let done := all.filter fun i => !(checks i).isEmpty
  let d := done.foldl (fun d i => d.scanned (s.params.getLsbD 41) i (scanStatus ((checks i).map (d.checkStatus die)))) d
  let never := all.length - done.length
  let d := if never = 0 then d else (d.count (Reg.PIX.CHECK_SKIPPED n) never).raise (.pix die) 2
  let d := if s.params.getLsbD 42 then all.foldl (fun d i => d.setBin i (scanBin (checks i))) d else d
  (d.countStatuses die, d.arr.pixels.any fun p => p.1 / 131072 = n && 2 ≤ p.2.status.toNat)

/-- Every die of a bump scan has had its repetitions (R353). -/
def scanOver (s : ServiceRun) : Bool :=
  s.dies.all fun n => let x := SMap.get (fun _ => ({} : ScanSt)) s.scans n; !x.busy && decide (x.reps = scanReps s.params)

/-- BSCAN_DONE (R353): the repetitions are over. -/
def execBscanDone (s : State) : Res :=
  run (fun d => d.onService .bumpScan fun r v =>
    if scanOver v then
      let (d, warn) := v.dies.foldl (fun (p : Device × Bool) n => let (d, w) := p.1.scanDie v n; (d, p.2 || w)) (d, false)
      (d.raise .sta1 5).endRunStep r v warn
    else d) s

end Sys2Proof.Machine
end

