-- ==== Sys2Proof/Machine/SecOps.lean ====
section
/-! DEFINITION. Security (R505-R520): keys, the checks of authenticated writes (R448, R508), what a write with the authenticated mark does to
each RWA register, erasure, and the rings of log entries in the store (R511-R513, R569). -/

namespace Sys2Proof.Machine

/-! ### Keys -/

/-- A key slot changes; KEY_STATUS shows it (R505, R525). -/
def Device.setKey (d : Device) (k : Nat) (s : KeySlot) : Device :=
  let otp := { d.sec.otp with keys := SMap.set (fun _ => {}) d.sec.otp.keys k s }
  Device.setWord { d with sec := { d.sec with otp := otp } } (Reg.SEC.KEY_STATUS k)
    (BitVec.ofNat 32 (s.programmed.toNat + 2 * s.revoked.toNat + 4 * s.usage.toNat))

/-- No slot is programmed. -/
def Device.noKeys (d : Device) : Bool := (List.range 4).all fun k => !(d.keySlot k).programmed

/-- The debug instructions of the test port are open (R518). -/
def Device.debugOpen (d : Device) : Bool := d.noKeys || d.sec.otp.erased

/-- SUMMARY shows what the one-time programmable store says (R518, R525). -/
def Device.showOtp (d : Device) : Device :=
  (d.setFlag Reg.SEC.SUMMARY_ERASED d.sec.otp.erased).setFlag Reg.SEC.SUMMARY_DEBUG_OPEN d.debugOpen

/-- The slots of a mask are revoked, each with its event and its audit entry (R507). -/
def Device.revokeKeys (d : Device) (route : Nat) (data : W32) : Device :=
  ((List.range 4).filter fun k => data.getLsbD k).foldl (fun d k =>
    ((d.setKey k { d.keySlot k with revoked := true }).raise .sec 5 k).audit 0x0B route 0 k Reg.SEC.KEY_REVOKE data) d

/-- Programming of a slot is requested (R505): refused with FAIL, or begun. -/
def Device.requestKey (d : Device) : Device :=
  let k := d.fld Reg.SEC.KEY_PROG_SLOT
  let use := d.fld Reg.SEC.KEY_PROG_USAGE
  let bad := d.fld Reg.HLT.SERVICE_LEVEL_LEVEL != 0 || (d.keySlot k).programmed || use = 0 || !d.enabled .sec
    || d.flag Reg.SEC.SUMMARY_LOCKED || d.flag Reg.SEC.SUMMARY_ERASED
  if d.sec.keyProg.isSome then d
  else if bad then d.setFlag Reg.SEC.KEY_PROG_FAIL true
  else
    let key : BitVec 256 := BitVec.ofNat 256 (((List.range 8).map fun i => (d.word (Reg.SEC.KEY_DATA i)).toNat * 2 ^ (32 * i)).sum)
    let d := (d.setFlag Reg.SEC.KEY_PROG_FAIL false).setFlag Reg.SEC.KEY_PROG_GO true
    { d with sec := { d.sec with keyProg := some (k, BitVec.ofNat 3 use, key) } }

/-- Programming ends, verified or not (R505). -/
def Device.keyProgrammed (d : Device) (ok : Bool) : Device :=
  match d.sec.keyProg with
  | none => d
  | some (k, use, key) =>
    let d := Device.setFlag { d with sec := { d.sec with keyProg := none } } Reg.SEC.KEY_PROG_GO false
    if ok then
      let d := d.setKey k { key := key, programmed := true, revoked := false, usage := use }
      ((d.setFlag Reg.SEC.SUMMARY_DEBUG_OPEN d.debugOpen).raise .sec 5 k).audit 0x0B 3 0 k 0 0
    else (d.setFlag Reg.SEC.KEY_PROG_FAIL true).raise .sec 5 k

/-! ### Authenticated writes -/

/-- The audit code of an authenticated write's route (R511). -/
def AuthRoute.code : AuthRoute → Nat
  | .link => 1
  | .register r => routeCode r
  | .testPort => 3

/-- KEY, CTR, ADDR, DATA and RTAG of a block (R446). -/
def authSlot (b : BitVec 256) : Nat := (b.extractLsb' 242 2).toNat
def authCtr (b : BitVec 256) : W32 := b.extractLsb' 210 32
def authAddr (b : BitVec 256) : BarAddr := b.extractLsb' 185 25
def authData (b : BitVec 256) : W32 := b.extractLsb' 153 32
def authTag (b : BitVec 256) : BitVec 16 := (b.extractLsb' 145 8).setWidth 16

/-- The MAC that a block must carry under a key (R447). -/
def Device.authMac (d : Device) (key : BitVec 256) (b : BitVec 256) : BitVec 128 :=
  (hmac key (bytesBE 8 d.sec.otp.devId.toNat ++ bytesBE 14 (b.extractLsb' 144 112).toNat)).extractLsb' 128 128

/-- The counter a slot's writes must exceed (R448). -/
def Device.authCounter (d : Device) (slot : Nat) : Nat := (d.stored (33 + slot) (Reg.ZVL.AUTH_CTR slot)).getD 0

/-- A RESP is queued (R443, R444). -/
def Device.respond (d : Device) (tag : BitVec 16) (status done : Nat) (data : List W32) : Device :=
  let w (k : Nat) : W32 := data.getD k 0
  let body : BitVec 228 := tag ++ BitVec.ofNat 4 status ++ BitVec.ofNat 3 done ++ (0 : BitVec 5) ++ w 0 ++ w 1 ++ w 2 ++ w 3 ++ (0 : BitVec 72)
  let d := if status = 0 then d else (d.count Reg.ZVL.CNT_CMD_NOK).raise .zvl 3
  if d.zvl.resps.length < 16 then { d with zvl := { d.zvl with resps := d.zvl.resps ++ [body] } } else d

/-- The outcome of an authenticated write reaches its route (R446, R508, R519). -/
def Device.authResult (d : Device) (route : AuthRoute) (tag : BitVec 16) (status : Nat) : Device :=
  match route with
  | .link => Device.respond { (d.count Reg.ZVL.CNT_CMD) with zvl := { d.zvl with authWait := false } } tag status (if status = 0 then 1 else 0) []
  | .register _ => (d.setFlag Reg.SEC.AW_CTRL_BUSY false).setFld Reg.SEC.AW_CTRL_STATUS status
  | .testPort => { d with sec := { d.sec with portStatus := BitVec.ofNat 4 status, portBusy := false } }

/-- A failure of the checks is counted, audited and alarmed; eight within 1 s begin a lockout of 10 s (R448, R514). -/
def Device.authFailed (d : Device) (route : AuthRoute) (b : BitVec 256) (replay counts : Bool) : Device :=
  let d := d.count Reg.SEC.CNT_AUTH_FAIL
  let d := if replay then (d.count Reg.ZVL.CNT_REPLAY).raise .zvl 5 else (d.count Reg.ZVL.CNT_AUTH_FAIL).raise .zvl 4
  let d := d.audit (if replay then 0x03 else 0x02) route.code (d.alarmPolicy 1) (authSlot b) (authAddr b).toNat (authCtr b)
  let d := d.alarm 1
  if !counts then d
  else
    let recent := (d.sec.failures.filter fun t => d.clock < t + Config.secondCt) ++ [d.clock]
    if recent.length < 8 then { d with sec := { d.sec with failures := recent } }
    else
      let d := { d with sec := { d.sec with failures := [], lockout := some (d.clock + 10 * Config.secondCt) } }
      let d := (d.setFlag Reg.ZVL.SUMMARY_LOCKOUT true).raise .zvl 6
      (d.audit 0x0A route.code (d.alarmPolicy 2) 0 0 0).alarm 2

/-- The checks of R448 in their order, those of the route's own page first (R508; that the link's page is enabled is tested when the command arrives,
R452): a status, or none when the counter may be committed.
DEBUG_UNLOCK asks for a usable slot only; its DEBUG usage is tested at the write (R506; log 30). -/
def Device.authCheck (d : Device) (route : AuthRoute) (b : BitVec 256) : Option Nat :=
  let open' := match route with
    | .link => d.pageOn .zvl && d.flag Reg.ZVL.CTRL_AUTH_EN
    | _ => d.enabled .sec
  let k := d.keySlot (authSlot b)
  let usable := if (authAddr b).toNat = Reg.SEC.DEBUG_UNLOCK then k.programmed && !k.revoked else k.serves 1
  if !open' then some 7
  else if d.sec.lockout.isSome || d.flag Reg.SEC.SUMMARY_LOCKED then some 8
  else if (authAddr b).toNat % 4 ≠ 0 then some 3
  else if !usable || d.authMac k.key b != b.extractLsb' 16 128 then some 4
  else if (authCtr b).toNat ≤ d.authCounter (authSlot b) then some 5
  else none

/-- An authenticated write is submitted (R448, R508): its checks, then the commit of its counter. A check that fails under a lockout gives
AUTH_FAIL and does not count toward another. -/
def Device.authSubmit (d : Device) (route : AuthRoute) (b : BitVec 256) : Device :=
  let outcome (d : Device) (status : Nat) : Device := d.authResult route (authTag b) status
  match d.authCheck route b with
  | some 8 => outcome (d.authFailed route b false false) 4
  | some 4 => outcome (d.authFailed route b false true) 4
  | some 5 => outcome (d.authFailed route b true true) 5
  | some status => outcome d status
  | none =>
    let k := authSlot b
    let w : AuthWork := { route := route, slot := k, ctr := authCtr b, addr := authAddr b, data := authData b, tag := authTag b }
    let d := match route with
      | .link => { d with zvl := { d.zvl with authWait := true } }
      | .register _ => d.setFlag Reg.SEC.AW_CTRL_BUSY true
      | .testPort => { d with sec := { d.sec with portBusy := true } }
    let d := { d with sec := { d.sec with auth := d.sec.auth ++ [w] } }
    d.store { page := 33 + k, words := [(Reg.ZVL.AUTH_CTR k, (authCtr b).toNat)], owner := .authCounter k }

/-! ### What the authenticated mark lets through -/

/-- A refused unseal (R500): the reason, SEAL_REFUSED, the audit entry; the write reports REFUSED. -/
def Device.refuseUnseal (d : Device) (route slot reason : Nat) (data : W32) : Device :=
  { (d.showRefusal reason).audit 0x08 route 0 slot Reg.SEA0.UNSEAL data with wrRefused := true }

/-- A marked write to SEA.UNSEAL (R500). -/
def Device.writeUnseal (d : Device) (route slot : Nat) (data : W32) : Device :=
  if !d.enabled .sea0 then d.refuseUnseal route slot 4 data
  else if d.fld Reg.SEA0.STATUS_STATE ≠ 2 then d.refuseUnseal route slot 6 data
  else if d.sea.work.isSome || d.sea.window || d.flag Reg.SEA0.STATUS_STORE_BUSY then d.refuseUnseal route slot 1 data
  else if data ≠ d.word Reg.SEA0.COUNTER then d.refuseUnseal route slot 5 data
  else d.beginUnseal .unseal slot route

/-- A marked write to SEA.POLICY (R504, R510, R522): SEAL_KEY is taken only in UNSEALED. -/
def Device.writeSealPolicy (d : Device) (route slot : Nat) (data : W32) : Device :=
  let d := if d.unsealed then d.setFld Reg.SEA0.POLICY_SEAL_KEY data.toNat else d
  let d := d.setFlag Reg.SEA0.POLICY_SVC_RESEAL (data.getLsbD 4)
  (d.storeReg Reg.SEA0.POLICY).audit 0x0C route 0 slot Reg.SEA0.POLICY data

/-- A marked write to SEC.ALARM_POLICY (R514): outside S0 a field that would become 2 keeps its value. -/
def Device.writeAlarmPolicy (d : Device) (route slot : Nat) (data : W32) : Device :=
  let s0 := d.fld Reg.HLT.SERVICE_LEVEL_LEVEL = 0
  let d := (List.range 5).foldl (fun (d : Device) k =>
    let f : Fld := ⟨Reg.SEC.ALARM_POLICY, 2 * k, 2⟩
    let v := f.of data
    if v = 2 && !s0 then d else d.setFld f v) d
  (d.storeReg Reg.SEC.ALARM_POLICY).audit 0x0C route 0 slot Reg.SEC.ALARM_POLICY data

/-- A marked write to SEC.DEBUG_UNLOCK (R506, R515, R520). -/
def Device.writeDebugUnlock (d : Device) (slot : Nat) (data : W32) : Device :=
  if data = 1 ∧ (d.keySlot slot).serves 2 ∧ !d.flag Reg.SEC.SUMMARY_LOCKED then { d with sec := { d.sec with erasing := true } }
  else { d with wrRefused := true }

/-- The RWA registers (R494). -/
def isRwa (addr : Nat) : Bool :=
  addr = Reg.SEA0.UNSEAL || addr = Reg.SEA0.POLICY || addr = Reg.SEC.KEY_REVOKE || addr = Reg.SEC.ALARM_POLICY || addr = Reg.SEC.DEBUG_UNLOCK

/-- A write to an RWA register, with the key slot of its mark or without one (R494, R509). A page without power takes no write (R477). -/
def Device.writeRwa (d : Device) (route : Nat) (mark : Option Nat) (addr : Nat) (data : W32) : Device :=
  let p : Page := if addr < 0x1800000 then .sec else .sea0
  if !d.pageOn p then d
  else match mark with
    | none => d.refuseUnmarked route addr data
    | some slot =>
      if addr = Reg.SEA0.UNSEAL then d.writeUnseal route slot data
      else if addr = Reg.SEA0.POLICY then d.writeSealPolicy route slot data
      else if addr = Reg.SEC.KEY_REVOKE then d.revokeKeys route data
      else if addr = Reg.SEC.ALARM_POLICY then d.writeAlarmPolicy route slot data
      else d.writeDebugUnlock slot data

/-! ### Erasure (R516) -/

/-- The keys are gone; a seal in progress ends, a service window closes without a reseal and its service ends with SEALED; a domain that is
not UNSEALED is unsealed; then ERASED and DEBUG_OPEN set. -/
def Device.erase (d : Device) : Device :=
  let d := (List.range 4).foldl (fun (d : Device) k => d.setKey k { d.keySlot k with key := BitVec.allOnes 256, revoked := true }) d
  let reseal := match d.sta.run with
    | some r => match r.phase with
      | .reseal _ => true
      | _ => false
    | none => false
  let d := match d.sea.work with
    | some w => match w.kind with
      | .seal | .reseal => d.sealFails
      | _ => d
    | none => d
  let d := Device.setFlag { d with sea := { d.sea with window := false } } Reg.SEA0.STATUS_SVC_WINDOW false
  let d := if reseal then d.endSeq 4 else d
  if d.domOn 2 && d.fld Reg.SEA0.STATUS_STATE = 2 then d.beginUnseal .erase 0 3
  else match d.sea.work with
    | some w => match w.kind with
      | .unseal => d.setWork { w with kind := .erase }
      | _ => d.erasureEnds
    | none => d.erasureEnds

/-! ### The log rings -/

/-- The store page and the first data word of a log's entry with this number: 8 entries of four words a page. -/
def logPlace (base size seq : Nat) : Nat × Nat := (base + seq % size / 8, 4 * (seq % 8))

/-- A word of an entry of a log ring; 0 for an entry that the ring does not hold (R513). -/
def Device.logWord (d : Device) (base size seq word : Nat) : W32 :=
  let (p, k) := logPlace base size seq
  let w0 := (d.stored p k).getD 0
  if w0 / 2 ^ 32 % 256 = 0 || w0 / 2 ^ 40 ≠ seq then 0
  else BitVec.ofNat 32 ((d.stored p (k + word / 2)).getD 0 / 2 ^ (32 * (word % 2)))

/-- The number that the next entry of a log ring takes, from what the ring holds. -/
def Device.logHead (d : Device) (base size : Nat) : Nat :=
  let held := (List.range size).filterMap fun e =>
    let (p, k) := logPlace base size e
    let w0 := (d.stored p k).getD 0
    if w0 / 2 ^ 32 % 256 = 0 then none else some (w0 / 2 ^ 40)
  let wrapped := held.any fun s => decide (2 ^ 24 - size ≤ s)
  let rank (s : Nat) : Nat := if wrapped && decide (s < size) then s + 2 ^ 24 else s
  (held.foldl (fun m s => max m (rank s + 1)) 0) % 2 ^ 24

/-- The oldest waiting entry of a log is handed to the store, at most one per 10 ms (R512). -/
def Device.handEntry (d : Device) (q : LogQ) (base size seq : Nat) (owner : StoreOwner) (put : Device → LogQ → Device) : Device :=
  match q.queue with
  | [] => d
  | e :: rest =>
    if q.writing || !d.pageOn .nvs then d
    else
      let d := match q.last with
        | some t => d.waitUntil (t + 10 * Config.msCt)
        | none => d
      let (p, k) := logPlace base size seq
      let words := (e.finish seq).zipIdx.map fun x => (k + x.2, x.1.toNat)
      (put d { q with queue := rest, writing := true, last := some d.clock }).store { page := p, words := words, owner := owner }

/-- AUDIT_ADDR or LOG_ADDR after a read of its data register (R513). -/
def Device.stepLogAddr (d : Device) (a : Nat) : Device :=
  let seq : Fld := ⟨a, 0, 24⟩
  let word : Fld := ⟨a, 24, 3⟩
  if !d.flag ⟨a, 30, 1⟩ then d
  else
    let k := d.fld word
    let d := d.setFld word (k + 1)
    if k = 7 then d.setFld seq (d.fld seq + 1) else d

end Sys2Proof.Machine
end

