-- ==== Sys2Proof/Machine/Seal.lean ====
section
/-! DEFINITION. The commands of the sealed domain and of security (spec/15), and of the two logs (R512, R569). Authenticated writes reach
the registers in Access.lean. -/

namespace Sys2Proof.Machine

/-- Why a seal or a save is refused, in the order of R495; 0 when it is not. A save is checked without HOLD and NO_KEY (R502). -/
def Device.sealReason (d : Device) (isSeal : Bool) : Nat :=
  if !d.enabled .sea0 then 4
  else if !d.unsealed then 6
  else if d.sea.work.isSome || d.sea.window || d.flag Reg.SEA0.STATUS_STORE_BUSY then 1
  else if isSeal && d.pageOn .sta1 && d.flag Reg.STA1.SVC_STATUS_SEAL_HOLD then 2
  else if isSeal && d.sealKey.isNone then 3
  else 0

/-- A seal is requested (R495, R496). -/
def Device.requestSeal (d : Device) (route : Nat) : Device :=
  let reason := d.sealReason true
  match d.sealKey with
  | some key =>
    if reason = 0 then (d.setSealState 1).beginSeal .seal key route
    else (d.showRefusal reason).audit 0x08 route 0 0 Reg.SEA0.CMD (BitVec.ofNat 32 reason)
  | none => (d.showRefusal reason).audit 0x08 route 0 0 Reg.SEA0.CMD (BitVec.ofNat 32 reason)

/-- SEAL_COMMAND (R495, R496). -/
def execSealCommand (route : Route) (s : State) : Res := run (fun d => if d.pageOn .sea0 then d.requestSeal (routeCode route) else d) s

/-- A save is requested (R502): a refusal shows its reason and raises SAVE_FAIL (log 31). -/
def Device.requestSave (d : Device) : Device :=
  let reason := d.sealReason false
  if reason = 0 then
    d.beginImage { kind := .save, phase := .image 0, frame := d.frame, ct := d.ct, counter := d.word Reg.SEA0.COUNTER } false
  else (d.setFld Reg.SEA0.STATUS_REFUSE_REASON reason).raise .sea0 4

/-- SEAL_SAVE (R502). -/
def execSealSave (s : State) : Res := run (fun d => if d.pageOn .sea0 then d.requestSave else d) s

/-- What follows a reseal: the calibration goes on to its next die, or ends where its page was aborted meanwhile (R344, R351, R355). -/
def Device.resealOver (d : Device) (failed : Bool) : Device :=
  match d.sta.run with
  | some r => match r.phase with
    | .reseal s => if d.sta.stopping then d.endSeq 7 else if s.cond then d.endSeq 6 else d.nextDie r { s with warn := s.warn || failed }
    | _ => d
  | none => d

/-- SEAL_COMPLETE (R496, R504): the counter, the image and the seal log are written. -/
def execSealComplete (s : State) : Res :=
  run (fun d => match d.sea.work with
    | some w => match w.kind, w.phase with
      | .seal, .done => d.sealComplete w
      | .reseal, .done => ((d.sealComplete w).raise .sta1 7).resealOver false
      | _, _ => d
    | none => d) s

/-- UNSEAL (R500): a write to SEA.UNSEAL with the authenticated mark. -/
def execUnseal (route : Route) (slot : Fin 4) (data : W32) (s : State) : Res :=
  run (fun d => { d with wrRefused := false }.writeRwa (routeCode route) (some slot.val) Reg.SEA0.UNSEAL data) s

/-- UNSEAL_COMPLETE (R500, R516). -/
def execUnsealComplete (s : State) : Res :=
  run (fun d => match d.sea.work with
    | some w => match w.kind, w.phase with
      | .unseal, .done | .erase, .done => d.unsealComplete w
      | _, _ => d
    | none => d) s

/-! ### Trims (R490) -/

/-- The pixels of the powered bands. -/
def Device.poweredPixels (d : Device) : List Nat :=
  (List.range (d.part.dies * 8)).flatMap fun b =>
    if d.domOn (16 + 11 * (b / 8) + b % 8) then (List.range 16384).map fun k => 16384 * b + k else []

/-- A pixel's trim takes its master copy, under R59. -/
def Device.rewriteTrim (d : Device) (i : Nat) : Device :=
  let t := d.masterTrim i
  d.updPixel i fun p =>
    let e := (p.entry &&& 0xE0#8) ||| t.setWidth 8
    { p with entry := e, trim := if e.getLsbD 5 then t else p.trim }

/-- The refresh: pixels that differ from the master copy, or were upset, are counted and rewritten (R490, R566). -/
def Device.refreshTrims (d : Device) (upsets : List Nat) (cfg : Nat) : Device :=
  let differs (i : Nat) : Bool := (d.pixel i).entry.extractLsb' 0 5 != d.masterTrim i || upsets.contains i
  let bad := d.poweredPixels.filter differs
  let d := (d.count Reg.SEA1.CNT_TRIM_FIX bad.length).upset Reg.HLT.UPS_PIXCFG cfg
  bad.foldl (fun d i => d.rewriteTrim i) d

/-- TRIM_REFRESH (R490, R566): the pixels whose trim an upset changed, and the configuration copies corrected, come with it. -/
def execTrimRefresh (trimUpsets : List Pix) (cfgUpsets : Nat) (s : State) : Res :=
  run (fun d =>
    if !d.pageOn .sea1 || d.fld Reg.SEA1.TRIM_REFRESH_SECONDS = 0 then d
    else d.refreshTrims (trimUpsets.map fun p => pixNo p) cfgUpsets) s

/-! ### Keys -/

/-- KEY_PROGRAM (R505). -/
def execKeyProgram (s : State) : Res := run (fun d => if d.pageOn .sec then d.requestKey else d) s

/-- KEY_PROGRAM_DONE (R505). -/
def execKeyProgramDone (ok : Bool) (s : State) : Res := run (fun d => d.keyProgrammed ok) s

/-- KEY_REVOKE (R507): a write to SEC.KEY_REVOKE with the authenticated mark. -/
def execKeyRevoke (route : Route) (slot : Fin 4) (data : W32) (s : State) : Res :=
  run (fun d => { d with wrRefused := false }.writeRwa (routeCode route) (some slot.val) Reg.SEC.KEY_REVOKE data) s

/-! ### Authenticated writes -/

/-- The block image of SEC.AW_BLOCK (R508). -/
def Device.awBlock (d : Device) : BitVec 256 :=
  BitVec.ofNat 256 (((List.range 8).map fun i => (d.word (Reg.SEC.AW_BLOCK i)).toNat * 2 ^ (32 * i)).sum)

/-- AUTH_WRITE_SUBMIT (R508): ignored while a command runs (log 30). -/
def execAuthWriteSubmit (route : Route) (s : State) : Res :=
  run (fun d => if d.pageOn .sec && !d.flag Reg.SEC.AW_CTRL_BUSY then d.authSubmit (.register route) d.awBlock else d) s

/-- AUTH_LOCKOUT_END (R448). -/
def execAuthLockoutEnd (s : State) : Res :=
  run (fun d => match d.sec.lockout with
    | some t =>
      let d := d.waitUntil t
      Device.setFlag { d with sec := { d.sec with lockout := none } } Reg.ZVL.SUMMARY_LOCKOUT false
    | none => d) s

/-- DEBUG_UNLOCK (R520): a write to SEC.DEBUG_UNLOCK with the authenticated mark. -/
def execDebugUnlock (route : Route) (slot : Fin 4) (data : W32) (s : State) : Res :=
  run (fun d => { d with wrRefused := false }.writeRwa (routeCode route) (some slot.val) Reg.SEC.DEBUG_UNLOCK data) s

/-- ERASURE_DONE (R516). -/
def execErasureDone (s : State) : Res := run (fun d => if d.sec.erasing then d.erase else d) s

/-! ### The test port -/

/-- TEST_PORT_AUTH_CMD (R519): a block shifted in while a command runs is not taken. -/
def execTestPortAuthCmd (block : BitVec 256) (s : State) : Res :=
  run (fun d => if d.pageOn .sec && !d.sec.portBusy then d.authSubmit .testPort block else d) s

/-- TEST_PORT_LOCKED_INSTRUCTION (R518): the instruction acts as BYPASS; a locked one is audited and alarmed. -/
def execTestPortLockedInstruction (s : State) : Res :=
  run (fun d => if !d.pageOn .sec || d.debugOpen then d else (d.audit 0x0E 3 (d.alarmPolicy 4) 0 0 0).alarm 4) s

/-! ### The audit trail and the health log -/

/-- Entries of the audit trail lost now (R512). -/
def Device.auditLost (d : Device) (n : Nat) : Device := if n = 0 then d else (d.count Reg.SEC.CNT_AUDIT_LOST n).raise .sec 7

/-- AUDIT_ENTRY_CLOSE (R512). -/
def execAuditEntryClose (s : State) : Res :=
  run (fun d =>
    let (q, n) := d.sec.audit.close d.auditLostEntry
    Device.auditLost { d with sec := { d.sec with audit := q } } n) s

/-- AUDIT_WRITE (R512). -/
def execAuditWrite (s : State) : Res :=
  run (fun d => d.handEntry d.sec.audit 80 1024 (d.fld Reg.SEC.AUDIT_HEAD_SEQ) .audit
    fun d q => { d with sec := { d.sec with audit := q } }) s

/-- HEALTH_LOG_ENTRY_CLOSE (R569). -/
def execHealthLogEntryClose (s : State) : Res :=
  run (fun d =>
    let (q, n) := d.hlt.log.close d.healthLost
    let d := { d with hlt := { d.hlt with log := q } }
    if n = 0 then d else (d.count Reg.HLT.CNT_LOG_LOST n).raise .hlt 5) s

/-- HEALTH_LOG_WRITE (R569). -/
def execHealthLogWrite (s : State) : Res :=
  run (fun d => d.handEntry d.hlt.log 208 512 (d.fld Reg.HLT.LOG_HEAD_SEQ) .healthLog
    fun d q => { d with hlt := { d.hlt with log := q } }) s

end Sys2Proof.Machine
end

