-- ==== Sys2Proof/Machine/StoreOps.lean ====
section
/-! DEFINITION. The non-volatile store (R562-R565, R603, R604): how a write's owner is told, the commit, the home copy, failures, the mask image,
what an interruption leaves, and recovery. An authenticated write's carry-out at its commit is in Store.lean. -/

namespace Sys2Proof.Machine

/-- The PAGE_ID type of a store page's owner (R562, R569; log 10). -/
def storeOwnerType (p : Nat) : Nat :=
  if p < 16 then pageType .nvs
  else if p = 16 ∨ p = 38 ∨ p = 39 ∨ (208 ≤ p ∧ p < 528) then pageType .hlt
  else if p = 17 ∨ p = 37 ∨ p = 49 then pageType .thm
  else if p = 18 then pageType .his
  else if p = 20 ∨ (80 ≤ p ∧ p < 208) then pageType .sec
  else if p = 21 then pageType (.pix 0)
  else if 33 ≤ p ∧ p < 37 then pageType .zvl
  else if p = 48 then pageType .lnk
  else pageType .sea0

/-! ### The mask image (R562, R603) -/

/-- Pages of the mask image. -/
def Device.maskPages (d : Device) : Nat := 64 * d.part.dies

/-- The words of a page of the mask image: MASK of 2,048 pixels in the pixel index order of R334. -/
def Device.maskWords (d : Device) (page : Nat) : List (Nat × Nat) :=
  (List.range 32).map fun k =>
    (k, (List.range 64).foldl (fun acc b => if (d.pixel (2048 * (page - 272) + 64 * k + b)).entry.getLsbD 5 then acc + 2 ^ b else acc) 0)

/-- The number that the next write of the mask image carries (R603). -/
def Device.nextMask (d : Device) : Nat :=
  1 + (((d.nvs.pages.filter fun p => decide (272 ≤ p.1) && decide (p.1 < 528)).map (·.2.image)).foldl max 0)

/-- The next page of the mask image is requested; none left: the save is done. -/
def Device.maskNext (d : Device) (image : Nat) : Device :=
  match d.hlt.maskLeft with
  | [] => (d.setFlag Reg.HLT.MASK_SAVE_BUSY false).raise .hlt 7
  | p :: _ => d.store { page := p, words := d.maskWords p, owner := .maskImage p, image := image }

/-- A write of HLT.MASK_SAVE.GO (R562): ignored while a save runs. -/
def Device.saveMask (d : Device) : Device :=
  if d.flag Reg.HLT.MASK_SAVE_BUSY || !d.pageOn .nvs then d
  else
    let d := Device.setFlag { d with hlt := { d.hlt with maskLeft := (List.range d.maskPages).map (· + 272) } } Reg.HLT.MASK_SAVE_BUSY true
    d.maskNext d.nextMask

/-- A mask save stops before its last page (R603). -/
def Device.maskStops (d : Device) : Device :=
  Device.setFlag { d with hlt := { d.hlt with maskLeft := [] } } Reg.HLT.MASK_SAVE_BUSY false

/-! ### How the owner is told -/

/-- The command of the sealed domain waits for this write. -/
def SealWork.awaits (s : SealWork) (w : StoreWrite) : Bool :=
  match w.owner with
  | .sealCounter => s.phase == .counter
  | .sealImage p => (s.phase == .flag && p = 528) || (s.phase == .image (p - 528) && w.image == s.gen)
  | .sealLog => s.phase == .slog
  | _ => false

/-- The write is one of those of the command in progress. -/
def SealWork.owns (s : SealWork) (w : StoreWrite) : Bool :=
  match w.owner with
  | .sealCounter => w.words.any fun x => x.2 = s.counter.toNat
  | .sealImage _ => w.image == s.gen
  | .sealLog => s.phase == .slog || s.phase == .done
  | _ => false

/-- The authenticated write whose counter a store write commits. -/
def Device.authOf (d : Device) (w : StoreWrite) : Option AuthWork :=
  match w.owner with
  | .authCounter k => d.sec.auth.find? fun a => a.slot = k && w.words.any fun x => x.2 = a.ctr.toNat
  | _ => none

/-- An authenticated write is no longer waiting. -/
def Device.dropAuth (d : Device) (a : AuthWork) : Device := { d with sec := { d.sec with auth := d.sec.auth.erase a } }

/-- A command of the sealed domain has failed at a store write; a reseal's service goes on (R499, R344). The seal record of an unseal has
no command to fail (R500 step 5). -/
def Device.sealWriteFails (d : Device) (w : StoreWrite) : Device :=
  match d.sea.work with
  | some s => if s.owns w then (if s.kind = .reseal then d.sealFails.resealOver true else d.sealFails) else d
  | none => d.setFlag Reg.SEA0.STATUS_STORE_BUSY false

/-- The owner of a write that has failed is told (R563, R400, R448, R499, R502, R512, R547, R569, R603). -/
def Device.ownerFails (d : Device) (w : StoreWrite) : Device :=
  match w.owner with
  | .config _ | .counter _ | .patrol => d
  | .eqSave => (d.setFlag Reg.LNK.EQ_CTRL_SAVE_BUSY false).raise .lnk 12
  | .curveSave => (d.setFlag Reg.THM.CURVE_CTRL_SAVE_BUSY false).raise .thm 15
  | .maskImage _ => d.maskStops
  | .sealImage _ | .sealCounter | .sealLog => d.sealWriteFails w
  | .audit => Device.auditLost { d with sec := { d.sec with audit := { d.sec.audit with writing := false } } } 1
  | .healthLog => (Device.count { d with hlt := { d.hlt with log := { d.hlt.log with writing := false } } } Reg.HLT.CNT_LOG_LOST).raise .hlt 5
  | .authCounter _ =>
    match d.authOf w with
    | some a => (d.dropAuth a).authResult a.route a.tag 2
    | none => d

/-- The owner of a committed write is told; an authenticated write's carry-out comes after it (R400, R496, R512, R547, R562, R569). -/
def Device.ownerDone (d : Device) (w : StoreWrite) : Device :=
  match w.owner with
  | .config _ | .counter _ | .patrol | .authCounter _ => d
  | .eqSave => (d.setFlag Reg.LNK.EQ_CTRL_SAVE_BUSY false).raise .lnk 11
  | .curveSave => (d.setFlag Reg.THM.CURVE_CTRL_SAVE_BUSY false).raise .thm 14
  | .maskImage p =>
    if d.hlt.maskLeft.head? = some p then Device.maskNext { d with hlt := { d.hlt with maskLeft := d.hlt.maskLeft.drop 1 } } w.image else d
  | .sealImage _ | .sealCounter | .sealLog =>
    match d.sea.work with
    | some s => if s.awaits w then d.sealAdvance else d
    | none => d.setFlag Reg.SEA0.STATUS_STORE_BUSY false
  | .audit =>
    let d := { d with sec := { d.sec with audit := { d.sec.audit with writing := false } } }
    (d.setFld Reg.SEC.AUDIT_HEAD_SEQ (d.fld Reg.SEC.AUDIT_HEAD_SEQ + 1)).count Reg.SEC.CNT_AUDIT_ENTRIES
  | .healthLog =>
    let d := { d with hlt := { d.hlt with log := { d.hlt.log with writing := false } } }
    d.setFld Reg.HLT.LOG_HEAD_SEQ (d.fld Reg.HLT.LOG_HEAD_SEQ + 1)

/-! ### Commit, home copy, failure -/

/-- A page is written once more; WEAR_WARN and a WEAR entry at 9 x 10^11 writes (R565). -/
def Device.wearPage (d : Device) (p : Nat) : Device :=
  let pg := d.page p
  let pg := { pg with writes := pg.writes + 1 }
  let worn := decide (900000000000 ≤ pg.writes) && !pg.warned
  let d := { d with nvs := { d.nvs with pages := SMap.set (fun _ => {}) d.nvs.pages p { pg with warned := pg.warned || worn } } }
  if worn then (d.raise .nvs 4).healthLog 0x0A (BitVec.ofNat 64 p) else d

/-- The words of a page with those of a write in their place; every word written stays listed. -/
def putWords (ws : List (Nat × Nat)) (new : List (Nat × Nat)) : List (Nat × Nat) :=
  new.foldl (fun m x => SMap.insert x.1 x.2 (SMap.erase m x.1)) ws

/-- A write reaches its home page (R563 step 3). -/
def Device.copyHome (d : Device) (w : StoreWrite) : Device :=
  let pg := d.page w.page
  let pg := { pg with words := putWords pg.words w.words, gen := pg.gen + 1, image := w.image, used := true, bad := false }
  Device.wearPage { d with nvs := { d.nvs with pages := SMap.set (fun _ => {}) d.nvs.pages w.page pg } } w.page

/-- The write in progress is committed (R563 step 2); answers the device before its owner is told. -/
def Device.markCommitted (d : Device) : Device := Device.count { d with nvs := { d.nvs with committed := true } } Reg.NVS.CNT_WRITES

/-- The write in progress is over; the store pauses and serves the next (R549, R563). -/
def Device.endWrite (d : Device) : Device :=
  let slot := d.nvs.rotation % 16
  let d := Device.wearPage { d with nvs := { d.nvs with prog := none, committed := false, rotation := (slot + 1) % 16 } } slot
  (d.startPause .storeWrite (60 * Config.usCt)).kickStore

/-- The write in progress fails after its retry (R563). -/
def Device.writeFails (d : Device) (w : StoreWrite) : Device :=
  let d := Device.endWrite ((d.count Reg.NVS.CNT_WRITE_FAIL).raise .nvs 3)
  d.ownerFails w

/-! ### Bad pages and patrol -/

/-- A page is bad (R564, R565). -/
def Device.pageBad (d : Device) (p : Nat) : Device :=
  let d := { d with nvs := { d.nvs with pages := SMap.upd (fun _ => {}) d.nvs.pages p fun pg => { pg with bad := true } } }
  let d := (d.setFld Reg.NVS.RECOVERY_LAST_PAGE p).raise .nvs 2
  d.healthLog 0x05 (BitVec.ofNat 64 (p + storeOwnerType p * 65536))

/-- What reading a page of the store finds (R565). -/
def Device.patrolRead (d : Device) (p : Nat) : ReadFinding → Device
  | .ok => d
  | .corrected => ((d.count Reg.NVS.CNT_CE).raise .nvs 5).store { page := p, words := [], owner := .patrol, image := (d.page p).image }
  | .uncorrectable => Device.pageBad (((d.count Reg.NVS.CNT_UE).raise .nvs 6).upset Reg.HLT.UPS_UE) p

/-! ### Interruption and recovery (R564, R604) -/

/-- The owner of a register's stored copy lies in the always-on domain. -/
def alwaysOnReg (a : Nat) : Bool := a < 0x1000 || (0x4000 ≤ a && a < 0x5000)

/-- A discarded write that its owner, in the always-on domain, requests again (R604); a mask save only when none of its pages was begun. -/
def StoreWrite.asksAgain (w : StoreWrite) : Bool :=
  match w.owner with
  | .config r | .counter r => alwaysOnReg r
  | .eqSave | .curveSave => true
  | .maskImage p => p = 272
  | _ => false

/-- The store loses power (R563, R564, R604): the write in progress stays as a shadow slot, queued ones are discarded, and a mask save that has
begun stops. -/
def Device.cutStore (d : Device) : Device :=
  let slots := match d.nvs.prog with
    | some w => SMap.insert d.nvs.rotation ⟨w, d.nvs.committed⟩ (SMap.erase d.nvs.slots d.nvs.rotation)
    | none => d.nvs.slots
  let asked := d.nvs.again ++ d.nvs.queue.filter fun w => w.asksAgain
  let saveWaits := asked.any fun w => match w.owner with
    | .maskImage _ => true
    | _ => false
  let n := { d.nvs with slots := slots, prog := none, committed := false, queue := [], again := asked, rotation := (d.nvs.rotation + 1) % 16 }
  let log := { d.hlt.log with entry := none, queue := [], lost := 0, writing := false }
  let d := { d with nvs := n, hlt := { d.hlt with log := log }, thm := { d.thm with pauses := d.thm.pauses.filter fun p => p.1 != .storeWrite } }
  if saveWaits then d else d.maskStops

/-- A shadow slot at recovery: replayed into its home page, or discarded as torn (R564). -/
def Device.recoverSlot (d : Device) (s : ShadowSlot) : Device :=
  let p := s.write.page
  let d := d.setFld Reg.NVS.RECOVERY_LAST_PAGE p
  if s.committed then
    let d := (d.copyHome s.write).raise .nvs 1
    (d.setFld Reg.NVS.RECOVERY_REPLAYED (d.fld Reg.NVS.RECOVERY_REPLAYED + 1)).healthLog 0x04 (BitVec.ofNat 64 p)
  else
    let d := (d.raise .nvs 0).setFld Reg.NVS.RECOVERY_TORN (d.fld Reg.NVS.RECOVERY_TORN + 1)
    let d := d.healthLog 0x03 (BitVec.ofNat 64 p)
    match s.write.owner with
    | .eqSave | .curveSave => d.ownerFails s.write
    | _ => d

/-- A write that its owner requests again is carried out before start-up goes on (R604). -/
def Device.writeAgain (d : Device) (w : StoreWrite) : Device :=
  let d := Device.markCommitted { d with nvs := { d.nvs with prog := some w } }
  ((d.copyHome w).endWrite).ownerDone w

/-- Recovery, step 2 of start-up (R564, R604). -/
def Device.recoverStore (d : Device) : Device :=
  let slots := d.nvs.slots
  let again := d.nvs.again
  let d := { d with nvs := { d.nvs with slots := [], again := [] } }
  let d := ((d.setFld Reg.NVS.RECOVERY_TORN 0).setFld Reg.NVS.RECOVERY_REPLAYED 0).setFld Reg.NVS.RECOVERY_LAST_PAGE 0
  let d := slots.foldl (fun d s => d.recoverSlot s.2) d
  let d := ((d.nvs.pages.filter fun p => p.2.bad).map (·.1)).foldl (fun d p => d.pageBad p) d
  let d := again.foldl (fun d w => d.writeAgain w) d
  d.raise .nvs 7

end Sys2Proof.Machine
end

