-- ==== Sys2Proof/Machine/PageOps.lean ====
section
/-! DEFINITION. The common page controls (R472-R475) with what each block's chapter makes of them: its work, its drain, its abort, its
SOFT_RESET (R77, R114, R137, R144, R149, R170, R181, R217, R251, R282, R330, R355, R381, R421, R452, R487, R488, R521, R524, R535, R546, R573,
R575). -/

namespace Sys2Proof.Machine

/-- Work that a die's channels still hold: items in the queues of the channels that are up (R149). -/
def Device.chanWork (d : Device) (n : Die) : Bool :=
  (List.range 4).any fun c => d.chanUp n c && (!(d.chan (chanNo n c)).queue.isEmpty || !(d.chan (chanNo n c)).merging.isEmpty)

/-- The block of a page holds work (R473). -/
def Device.workLeft (d : Device) : Page → Bool
  | .pci => (List.range 10).any fun r => d.flag (Reg.RING.RING_STATUS_ACTIVE r)
  | .pwrDom => d.pwr.sw.isSome
  | .pwrMon => d.mon.scan.isSome || d.mon.cal.isSome
  | .nvs => d.nvs.prog.isSome
  | .evb => !d.evb.sort.isEmpty || d.evb.packed.isSome || d.evb.late.isSome || d.evb.inq.any fun r => recChannel r.kind == some 3
  | .trg => !d.trg.opens.isEmpty
  | .sec => d.sec.keyProg.isSome || d.flag Reg.SEC.AW_CTRL_BUSY
  | .his => !d.his.staging.isEmpty || d.his.running.isSome
  | .cdr => !d.codersDone
  | .sta0 => d.fld Reg.STA0.STATUS_STATE = 1
  | .sta1 => d.sta.run.isSome
  | .dsp c =>
    let k := d.core c.val
    k.run == .running || k.run == .draining || k.run == .waiting || !k.waves.isEmpty || d.dspTrig.any fun t => t.core = c.val
  | .lnk => !d.takenRecords.isEmpty || !d.lnk.frames.isEmpty
  | .zvl => !d.zvl.cmds.isEmpty || d.zvl.authWait
  | .sea0 => d.sea.work.isSome || d.flag Reg.SEA0.STATUS_STORE_BUSY
  | .die n => d.chanWork n
  | .pix n => d.flag (Reg.PIX.INJ_CTRL_BUSY n.val) || (d.checkOf n).inSlot
  | .conv n => (List.range 8).any fun k => (d.wadc (8 * n.val + k)).inj.isSome || (d.wadc (8 * n.val + k)).cal.isSome || (d.wadc (8 * n.val + k)).calDone.isSome
  | .reg n r => !(d.region (regNo n r)).fifo.isEmpty
  | .hlt | .tim0 | .evc | .thm | .sea1 | .tim1 | .coef => false

/-- A core begins to drain (R330): it halts at its next WAIT or HALT, or after 65,536 cycles. -/
def Device.drainCore (d : Device) (c : Nat) : Device :=
  match (d.core c).run with
  | .running => d.updCore c fun k => { k with run := .draining, drainAt := some (d.clock + 131072) }
  | .waiting => d.haltCore c 6
  | _ => d

/-- What a block does at once when its ENABLE is cleared. -/
def Device.onDisable (d : Device) : Page → Device
  | .his =>
    let d := d.ringLate.ringGo.closeSegment true
    { d with his := { d.his with writing := false } }
  | .cdr => d.drainCoders
  | .dsp c => d.drainCore c.val
  | .lnk => { d with lnk := { d.lnk with drainSince := some d.clock } }
  | _ => d

/-- What a block does when it takes work again. -/
def Device.onEnable (d : Device) : Page → Device
  | .his => if d.his.frozen then d else { d with his := { d.his with resumeNext := true } }
  | .trg => { d with trg := { d.trg with armNext := true } }
  | .cdr => d.startCoders
  | .dsp c =>
    let d := if (d.core c).run == .draining then d.updCore c fun k => { k with run := .running, drainAt := none } else d
    (List.range 8).foldl (fun d i => if d.flag (Reg.DSP.SRC_EN c.val i) then d.setFlag (Reg.DSPIO.ST_STATUS_GAP c.val i) true else d) d
  | .lnk => { d with lnk := { d.lnk with drainSince := none } }
  | .sta1 => d.nextSeq
  | .nvs => d.kickStore
  | _ => d

/-- A block that an abort held back, with ENABLE = 1, takes new work (R474). -/
def Device.takesAgain (d : Device) : Page → Device
  | .his => if d.his.frozen || d.his.writing then d else { d with his := { d.his with resumeNext := true } }
  | .cdr => d.startCoders
  | .sta1 => d.nextSeq
  | .nvs => d.kickStore
  | _ => d

/-- The page shows DRAINING or IDLE, by the work it holds. -/
def Device.showDrain (d : Device) (p : Page) : Device :=
  let busy := d.workLeft p
  (d.setFlag (fDraining p) busy).setFlag (fIdle p) (!busy)

/-- The block finishes the work it holds and takes no more (R473). -/
def Device.startDrain (d : Device) (p : Page) : Device :=
  match p with
  | .conv _ => (d.showDrain p).forgetLost
  | _ => (d.onDisable p).showDrain p

/-- ENABLE is cleared (R473, R474). -/
def Device.clearEnable (d : Device) (p : Page) : Device :=
  if !d.pageOn p || !d.flag (fEnable p) then d
  else
    let d := d.setFlag (fEnable p) false
    if d.flag (fAbort p) then d else d.startDrain p

/-- ENABLE is set (R473, R474): a drain ends without discarding anything; during an abort the block takes no work all the same. -/
def Device.setEnable (d : Device) (p : Page) : Device :=
  if !d.pageOn p || d.flag (fEnable p) then d
  else
    (((d.setFlag (fEnable p) true).setFlag (fIdle p) false).setFlag (fDraining p) false).onEnable p

/-- Acknowledgements are awaited no longer than ACK_TIMEOUT: the rest is released without resending (R421). -/
def Device.linkDrainEnds (d : Device) : Device :=
  match d.lnk.drainSince with
  | some t =>
    if d.flag Reg.LNK.CTRL_ACK_EN then (d.waitUntil (t + d.fld Reg.LNK.ACK_TIMEOUT_US * Config.usCt)).releaseAllFrames.1 else d
  | none => d

/-- A drain ends (R473). -/
def Device.drainDone (d : Device) (p : Page) : Device :=
  if !d.flag (fDraining p) then d
  else
    let d := match p with
      | .lnk => if d.workLeft .lnk then d.linkDrainEnds else d
      | _ => d
    d.showDrain p

/-! ### Aborts -/

/-- ABORT of the event builder (R217): the sort buffer and the FRAME contexts that are not QUEUED, but for the present frame's. Every frame keeps its
place in the stream (R191); the present one and those that lost hits carry ABORTED (R205). -/
def Device.abortEvb (d : Device) : Device :=
  let gone (f : FrameSt) : Bool := f.ended.isSome && f.ctx.isSome
  let ctxs := (d.evb.frames.filter gone).filterMap (·.ctx)
  let strip (r : Rec) : Rec := if ctxs.any fun c => r.ctx = some c then { r with ctx := none } else r
  let d := (d.count Reg.EVB.CNT_ABORT d.evb.sort.length)
  let lost (f : FrameSt) : Bool := d.evb.sort.any fun h => h.toa / 2 ^ 24 = f.num.toNat
  let mark (f : FrameSt) : FrameSt := { f with ctx := if gone f then none else f.ctx, aborted := f.aborted || lost f }
  let d := { d with evb := { d.evb with sort := [], sortFull := false, frames := d.evb.frames.map mark, inq := d.evb.inq.map strip } }
  (ctxs.foldl (fun d c => d.freeCtxAt c) d).markPresent fun f => { f with aborted := true }

/-- The READBACK context of a RETRO trigger whose readback has not completed (R239, R278). -/
def Device.readbackCtx (d : Device) (t : Trigger) : Option Nat :=
  ((d.his.running.toList ++ d.his.readbacks).find? fun r => r.kind = 1 && r.number = t.num.toNat && r.ctx.isSome).bind (·.ctx)

/-- Every OPEN trigger and every capture set in its write phase is over without a record, its contexts FREE (R251); a readback goes on without its
context. -/
def Device.dropTriggers (d : Device) : Device :=
  let ctxs := d.trg.opens.flatMap fun t => t.ctx :: (t.capture.toList ++ (d.readbackCtx t).toList)
  let nums := d.trg.opens.map fun t => t.num.toNat
  let free (r : Readback) : Readback := if r.kind = 1 && nums.contains r.number then { r with ctx := none } else r
  let d := ctxs.foldl (fun d c => d.freeCtxAt c) d
  { d with trg := { d.trg with opens := [] }
           his := { d.his with captures := d.his.captures.filter (fun s => s.done), readbacks := d.his.readbacks.map free, running := d.his.running.map free } }

/-- ABORT of the trigger engine (R251). -/
def Device.abortTrg (d : Device) : Device := d.dropTriggers.count Reg.TRG.CNT_ABORT (d.trg.opens.length + (d.his.captures.filter fun s => !s.done).length)

/-- ABORT of the history ring manager (R282): the staging buffer and the readbacks go, and the segment being written is closed with EARLY (R267). -/
def Device.abortHis (d : Device) : Device :=
  let d := d.dropStaged.closeSegment true
  let d := if d.flag (fEnable .his) then d else { d with his := { d.his with writing := false } }
  let (d, n) := d.endAllReadbacks 5
  d.count Reg.HIS.CNT_RB_ABORT n

/-- ABORT of a core (R330). -/
def Device.abortCore (d : Device) (c : Nat) : Device :=
  let n := (d.core c).waves.length + (d.dspTrig.filter fun t => t.core = c).length
  let d := d.waveAbort c (d.core c).waves.length
  let d := { d with dspTrig := d.dspTrig.filter fun t => t.core != c }
  let d := d.updCore c fun k => { k with fab := none, stopAsked := false }
  (d.count (Reg.DSP.CNT_ABORT c) n).haltCore c 7

/-- ABORT of the services (R355): a reseal under way completes first. -/
def Device.abortSta (d : Device) : Device :=
  match d.sta.run with
  | some r => match r.phase with
    | .reseal _ => { d with sta := { d.sta with stopping := true } }
    | _ => d.endSeq 7
  | none => d

/-- ABORT of the sealed domain's commands (R499, R521): a seal before its counter commit, a save before its first image page. -/
def Device.abortSeal (d : Device) : Device :=
  let withdraw (d : Device) (w : SealWork) : Device :=
    { d with nvs := { d.nvs with queue := d.nvs.queue.filter fun x => !w.owns x } }
  match d.sea.work with
  | none => d
  | some w => match w.kind, w.phase with
    | .seal, .counter => ((((withdraw d w).endWork.setSealState 0).count Reg.SEA0.CNT_ABORT).raise .sea0 2).audit 0x08 w.route 0 0 0 0
    | .reseal, .counter => (((withdraw d w).endWork.count Reg.SEA0.CNT_ABORT).audit 0x08 3 0 0 0 0).resealOver true
    | .save, .image 0 => ((withdraw d w).endWork.count Reg.SEA0.CNT_ABORT).raise .sea0 4
    | _, _ => d

/-- ABORT of the store (R575): writes not started fail. -/
def Device.abortStore (d : Device) : Device :=
  let ws := d.nvs.queue
  let d := Device.count { d with nvs := { d.nvs with queue := [] } } Reg.NVS.CNT_ABORT ws.length
  ws.foldl (fun d w => d.ownerFails w) d

/-- ABORT of a die's injection sequence and background check (R77): the owed count stays, no status is written. -/
def Device.abortPix (d : Device) (n : Die) : Device :=
  let d := if d.flag (Reg.PIX.INJ_CTRL_BUSY n.val) then d.endInj n else d
  let c := d.checkOf n
  let held := c.checked.filter fun i => (d.pixel i).checking
  (d.releaseChecked n (Fin.ofNat 128 (d.fld (Reg.PIX.CHECK_POS_REGION n.val))) held).setCheck n {}

/-- ABORT of the domain switches (R535): queued switches that have not started are discarded. -/
def Device.abortSwitches (d : Device) : Device :=
  let back (d : Device) (q : Nat × Bool) : Device :=
    let on := d.domOn q.1
    if q.1 < 32 then d.setFlag ⟨Reg.PWRD.DOM_REQ0, q.1, 1⟩ on else d.setFlag ⟨Reg.PWRD.DOM_REQ1, q.1 - 32, 1⟩ on
  let n := d.pwr.queue.length
  let d := d.pwr.queue.foldl back d
  Device.count { d with pwr := { d.pwr with queue := [] } } Reg.PWRD.CNT_SWITCH_ABORT n

/-- A block's held work is discarded (R474). -/
def Device.discardWork (d : Device) : Page → Device
  | .pci => (List.range 10).foldl (fun d r => d.abortRing r) d
  | .evc =>
    let n := d.evc.log.length
    Device.count { d with evc := { d.evc with insvc := 0, log := [] } } Reg.EVC.CNT_LOG_ABORT n
  | .pwrDom => d.abortSwitches
  | .pwrMon => d.abortMon
  | .nvs => d.abortStore
  | .evb => d.abortEvb
  | .trg => d.abortTrg
  | .his => d.abortHis
  | .cdr => d.abortCoders
  | .sta0 => if d.fld Reg.STA0.STATUS_STATE = 1 then d.setFld Reg.STA0.STATUS_STATE 0 else d
  | .sta1 => d.abortSta
  | .dsp c => d.abortCore c.val
  | .lnk => let (d, words) := d.releaseAllFrames; d.count Reg.LNK.CNT_ABORT words
  | .zvl =>
    let n := d.zvl.cmds.length
    Device.count { d with zvl := { d.zvl with cmds := [] } } Reg.ZVL.CNT_CMD_ABORT n
  | .sea0 => d.abortSeal
  | .die n => (List.range 4).foldl (fun d c => d.startFlush n c) d
  | .pix n => d.abortPix n
  | .conv n => d.wadcAbort n.val
  | .reg n r => d.flushRegion n r
  | .tim1 => d.abortTcu
  | .hlt | .tim0 | .thm | .sec | .sea1 | .coef => d

/-- What an abort waits for: work that its chapter lets complete (R137, R138, R355, R471, R499, R521, R575). -/
def Device.abortPending (d : Device) : Page → Bool
  | .pci => (List.range 10).any fun r => d.flag (Reg.RING.RING_STATUS_ACTIVE r)
  | .nvs => d.nvs.prog.isSome
  | .sta1 => d.sta.stopping
  | .sea0 => d.sea.work.isSome || d.flag Reg.SEA0.STATUS_STORE_BUSY
  | .die n => (List.range 4).any fun c => (d.word (Reg.DIE.CH_STATUS n.val)).getLsbD (16 + c)
  | _ => false

/-! ### SOFT_RESET -/

/-- SOFT_RESET of a page (R475); of TIM page 0 it clears the counters and nothing else (R114). -/
def Device.softReset (d : Device) (p : Page) : Device :=
  let d := (pageCounters p).foldl (fun d c => (List.range c.2.1).foldl (fun d k => d.setWord (pageBase p + c.1 + c.2.2 * k) 0) d) d
  let d := if p = .tim0 then d else (d.setSticky p 0).setFlag (fFault p) false
  match p with
  | .reg n r => d.setFlag (Reg.REG.FIFO_STATUS_ISOLATED n.val r.val) false
  | .trg => { d with trg := { d.trg with prescale := [], rearm := [] } }
  | .evc => d.setFlag Reg.EVC.LOG_STATUS_OVERRUN false
  | _ => d

/-- A write of SOFT_RESET: held while an abort is in progress (R475). -/
def Device.askSoftReset (d : Device) (p : Page) : Device :=
  if !d.pageOn p then d else if d.flag (fAbort p) then d.setFlag (fSoft p) true else d.softReset p

/-- An abort completes (R474, R475): what was held takes effect. -/
def Device.abortDone (d : Device) (p : Page) : Device :=
  if !d.flag (fAbort p) || d.abortPending p then d
  else
    let held := d.flag (fSoft p)
    let d := (d.setFlag (fAbort p) false).setFlag (fSoft p) false
    let d := if d.flag (fEnable p) then d.takesAgain p else d.startDrain p
    if held then d.softReset p else d

/-- ABORT is set (R474): at once done for the pages that hold no work of this kind (R487, R546, R573). -/
def Device.setAbort (d : Device) (p : Page) : Device :=
  if !d.pageOn p then d
  else
    let d := ((d.discardWork p).setFlag (fAbort p) true).setFlag (fDraining p) false
    match p with
    | .hlt | .thm | .evc => d.abortDone p
    | _ => d

/-- A write of PAGE_CTRL (R472-R475): one that sets ABORT aborts first, whatever it writes to ENABLE. -/
def Device.writePageCtrl (d : Device) (p : Page) (data : W32) : Device :=
  if !d.pageOn p then d
  else
    let d := d.setFlag (fTest p) (data.getLsbD 3)
    let d :=
      if data.getLsbD 1 then
        let up := data.getLsbD 0 && !d.flag (fEnable p)
        let d := Device.setAbort ((d.setFlag (fEnable p) (data.getLsbD 0)).setFlag (fIdle p) false) p
        if up then d.onEnable p else d
      else if data.getLsbD 0 then d.setEnable p else d.clearEnable p
    if data.getLsbD 2 then d.askSoftReset p else d

end Sys2Proof.Machine
end

