-- ==== Sys2Proof/Machine/PowerOps.lean ====
section
/-! DEFINITION. Power domains and rails (R526-R537, R605): the refusals and the order of switches, what a domain loses with its power and how it
comes up (R477, R492, R503, R534, R559), rail faults, the restarts of R552 and R556, and the steps of start-up (R557-R561). -/

namespace Sys2Proof.Machine

/-! ### The tables of R527 and R530 -/

/-- The domains of the part; on the EZN-8620 38-59 are absent (R530). -/
def Device.domains (d : Device) : List Nat := List.range (if d.part = .ezn8640 then 60 else 38)

/-- A domain's place among its die's eleven: 0-7 bands, 8 bias, 9 periphery, 10 ADC/monitor. -/
def dieSlot (i : Nat) : Nat := (i - 16) % 11
/-- The die of a die domain. -/
def dieOfDomain (i : Nat) : Nat := (i - 16) / 11

/-- The domains that a domain needs (R530). -/
def domNeeds (i : Nat) : List Nat :=
  if i < 16 then
    match i with
    | 0 => []
    | 2 | 6 | 15 => [1]
    | 4 => [2, 15]
    | 5 | 7 | 8 => [4]
    | 9 => [4, 8, 10]
    | _ => [0]
  else
    let base := 16 + 11 * dieOfDomain i
    match dieSlot i with
    | 8 | 10 => [base + 9]
    | 9 => [1]
    | _ => [base + 8, base + 9]

/-- The rails that a domain needs, by their bits (R527). -/
def domRails (i : Nat) : List Nat :=
  if i < 16 then
    (if i ≤ 10 ∨ i = 15 then [0] else []) ++ (if 11 ≤ i ∧ i ≤ 14 then [3] else []) ++ (if 12 ≤ i ∧ i ≤ 14 then [4] else [])
      ++ (if i = 10 then [5] else []) ++ (if i = 0 ∨ i = 3 then [6] else [])
  else
    match dieSlot i with
    | 8 => [2]
    | 9 => [1]
    | _ => [1, 2]

/-- A rail is good. -/
def Device.railGood (d : Device) (r : Nat) : Bool := (d.word Reg.PWRD.RAIL_STATUS).getLsbD r
/-- Every rail of a domain is good. -/
def Device.railsGood (d : Device) (i : Nat) : Bool := (domRails i).all fun r => d.railGood r

/-- The request bit of a domain (R531). -/
def domReqBit (i : Nat) : Fld := if i < 32 then ⟨Reg.PWRD.DOM_REQ0, i, 1⟩ else ⟨Reg.PWRD.DOM_REQ1, i - 32, 1⟩
/-- The state bit of a domain (R531). -/
def domOnBit (i : Nat) : Fld := if i < 32 then ⟨Reg.PWRD.DOM_ON0, i, 1⟩ else ⟨Reg.PWRD.DOM_ON1, i - 32, 1⟩

/-- A domain is requested on. -/
def Device.requested (d : Device) (i : Nat) : Bool := d.flag (domReqBit i)

/-- The die of a domain is blind (R545). -/
def Device.blindDomain (d : Device) (i : Nat) : Bool := decide (16 ≤ i) && Nat.testBit (d.fld Reg.THM.STATUS_BLIND) (dieOfDomain i)

/-! ### What a domain loses with its power -/

/-- A page's registers take their reset values and its event bits clear (R477). -/
def Device.resetPage (d : Device) (p : Page) : Device :=
  ((d.resetRange (pageBase p) (pageBase p + 0x1000)).setSticky p 0).setEvEn p 0

/-- A staging copy is empty. -/
def Device.clearStaging (d : Device) (t : StagedTable) : Device :=
  { d with staging := SMap.clear d.staging (2048 * (stagePlace t).1) (2048 * (stagePlace t).1 + 2048) }

/-- The event builder's domain: every record, frame and context is gone, so nothing is left to release on any path. -/
def Device.resetBuilder (d : Device) : Device :=
  let d := d.releaseAllFrames.1
  let core (k : DspCore) : DspCore := { k with waves := k.waves.map fun w => { w with ctx := none } }
  let ring (q : RingSt) : RingSt := { q with todo := [], inside := false }
  let cores := d.cores.map fun (p : Nat × DspCore) => (p.1, core p.2)
  let rings := (d.pci.rings.map fun (p : Nat × RingSt) => (p.1, ring p.2)).filter fun (p : Nat × RingSt) => p.2 != ({} : RingSt)
  let d := { d with evb := {}, cores := cores, pci := { d.pci with rings := rings } }
  (d.resetPage .evb).clearStaging .format

/-- The trigger engine's domain; its open triggers and capture sets in their write phase go with it. The fast-ORs and the TRIG_IN pins lie outside it. -/
def Device.resetTrigger (d : Device) : Device :=
  let d := d.dropTriggers
  let d := { d with trg := { forHigh := d.trg.forHigh, forFall := d.trg.forFall, mult := d.trg.mult
                             pins := d.trg.pins, pinHold := d.trg.pinHold, pinSeen := d.trg.pinSeen } }
  (d.resetPage .trg).clearStaging .condition

/-- The DSP cluster's domain. -/
def Device.resetDsp (d : Device) : Device :=
  let d := { d with cores := [], dspTrig := [] }
  (List.range 4).foldl (fun d c => (d.resetPage (.dsp (Fin.ofNat 4 c))).resetRange (Reg.DSPIO.base c) (Reg.DSPIO.base (c + 1))) d

/-- The history controller's domain: the ring is lost (R281). -/
def Device.resetHistory (d : Device) : Device :=
  let d := (d.memoryLost.his.captures.map (·.ctx)).foldl (fun d c => d.freeCtxAt c) d.memoryLost
  Device.resetPage { d with his := {} } .his

/-- The lanes of a lane domain. -/
def lanesOf (i : Nat) : List Nat := if i = 12 then [0, 1, 2, 3] else if i = 13 then [4, 5, 6, 7] else if i = 14 then [8, 9] else []

/-- A lane without power: it reads OFF, and its registers take their reset values at its next power-up. -/
def Device.resetLane (d : Device) (l : Nat) : Device :=
  let d := if d.laneState l = 3 then d.dropLane l false else d
  let d := { d with lnk := { d.lnk with lanes := SMap.set (fun _ => {}) d.lnk.lanes l {}, retrain := d.lnk.retrain.filter fun x => x != l } }
  (d.setActive l false).resetRange (Reg.LNK.LANE_CTRL l) (Reg.LNK.LANE_CTRL (l + 1))

/-- A matrix band: pixels, converters, regions and its bus (R534); a band that the device has disabled stays so (R142). -/
def Device.resetBand (d : Device) (n b : Nat) : Device :=
  let die : Die := Fin.ofNat 4 n
  let lo := 131072 * n + 16384 * b
  let r := 128 * n + 16 * b
  let c := 8192 * n + 1024 * b
  let arr := { d.arr with pixels := SMap.clear d.arr.pixels lo (lo + 16384), convs := SMap.clear d.arr.convs c (c + 1024)
                          regions := SMap.clear d.arr.regions r (r + 16)
                          bands := SMap.set (fun _ => {}) d.arr.bands (8 * n + b) { failed := (SMap.get (fun _ => {}) d.arr.bands (8 * n + b)).failed } }
  let d := (List.range 16).foldl (fun (d : Device) k => d.resetPage (.reg die (Fin.ofNat 128 (16 * b + k)))) { d with arr := arr }
  let keep : W32 := ~~~(BitVec.ofNat 32 (0xFFFF * 2 ^ (16 * (b % 2))))
  let d := d.setWord (Reg.PIX.GAIN_ACT n (b / 2)) (d.word (Reg.PIX.GAIN_ACT n (b / 2)) &&& keep)
  let d := d.setWord (Reg.PIX.GAIN_PEND n (b / 2)) (d.word (Reg.PIX.GAIN_ACT n (b / 2)) ^^^ d.word (Reg.PIX.GAIN_LG n (b / 2)))
  d.countStatuses die

/-- A die's periphery: its DLL loses lock (R94), its channels, injection sequence, background check and table fill are gone, and its bands are
enabled again with the reset value of DIE.BAND_CTRL (R142, R477). -/
def Device.resetPeriphery (d : Device) (n : Nat) : Device :=
  let die : Die := Fin.ofNat 4 n
  let d := d.dllUnlock n
  let arr := { d.arr with chans := SMap.clear d.arr.chans (4 * n) (4 * n + 4), inj := SMap.clear d.arr.inj n (n + 1)
                          check := SMap.clear d.arr.check n (n + 1), fills := SMap.clear d.arr.fills n (n + 1) }
  let d := (List.range 8).foldl (fun (d : Device) b => d.updBand (8 * n + b) fun s => { s with failed := false }) { d with arr := arr }
  let mon := { d.mon with senseWait := d.mon.senseWait.filter (fun x => x != n), sense := d.mon.sense.filter (fun x => x != n) }
  (Device.resetPage { d with mon := mon } (.die die)).resetPage (.pix die)

/-- The state of a die domain is gone. -/
def Device.resetDieDomain (d : Device) (i : Nat) : Device :=
  let n := dieOfDomain i
  match dieSlot i with
  | 8 => d
  | 9 => d.resetPeriphery n
  | 10 => Device.resetPage { d with wadcs := SMap.clear d.wadcs (8 * n) (8 * n + 8) } (.conv (Fin.ofNat 4 n))
  | b => d.resetBand n b

/-- The sealed domain keeps the images that the store holds; it was sealed if its state said so (R492). -/
def Device.resetSealed (d : Device) : Device :=
  let was := d.fld Reg.SEA0.STATUS_STATE = 2
  let d := { d with sea := { images := d.sea.images, wasSealed := d.sea.wasSealed || was }, arr := { d.arr with tcuOut := [], tcuRaw := none } }
  (((d.resetPage .sea0).resetPage .sea1).resetPage .tim1).resetPage .coef

/-- The security and store domain: the store's pages and the one-time programmable store stay (R564, R604). -/
def Device.resetStore (d : Device) : Device :=
  (Device.resetPage { d with sec := { otp := d.sec.otp } } .nvs).resetPage .sec

/-- What is in a domain when it has no power: every page of it back at its reset values, the blocks' state gone (R477). -/
def Device.resetDomain (d : Device) (i : Nat) : Device :=
  if 16 ≤ i then d.resetDieDomain i
  else match i with
    | 1 => Device.resetPage { d with tim := { refclk := d.tim.refclk, inhibitSince := some d.clock } } .tim0
    | 2 => d.resetSealed
    | 3 => d.resetStore
    | 4 => d.resetBuilder
    | 5 => d.resetTrigger
    | 6 => d.resetDsp
    | 7 => ((Device.resetPage { d with sta := {} } .sta0).resetPage .sta1).clearStaging .sequence
    | 8 => d.cutCoders.resetPage .cdr
    | 9 => d.resetHistory
    | 11 => d.resetEndpoint
    | 12 | 13 => (lanesOf i).foldl (fun d l => d.resetLane l) d
    | 14 =>
      let d := (lanesOf i).foldl (fun d l => d.resetLane l) d
      Device.resetPage { d with zvl := {}, eventQ := [], eventLost := false } .zvl
    | 15 => { d with arr := { d.arr with rxs := [] } }
    | _ => d

/-- A domain loses power. -/
def Device.powerOff (d : Device) (i : Nat) : Device :=
  let d := if i = 3 then d.cutStore else d
  (d.resetDomain i).setFlag (domOnBit i) false

/-! ### What a domain loads when it comes up (R559) -/

/-- A register field takes its stored copy, or its factory value; answers whether the copy was there. -/
def Device.loadField (d : Device) (f : Fld) (factory : Nat) : Device × Bool :=
  match d.stored (nvsHome f.addr) f.addr with
  | some v => (d.setFld f (f.of (BitVec.ofNat 32 v)), true)
  | none => (d.setFld f factory, false)

/-- A list of fields of one store page is loaded; a FIELD_DEFAULT entry where a copy is absent or its page bad (R559, R569). -/
def Device.loadFields (d : Device) (page : Nat) (fs : List (Fld × Nat)) : Device :=
  let (d, ok) := fs.foldl (fun (acc : Device × Bool) f => let (d, ok) := acc.1.loadField f.1 f.2; (d, acc.2 && ok)) (d, true)
  if ok then d else d.healthLog 0x0C (BitVec.ofNat 64 page)

/-- The stored fields of the always-on domain (R557, R551, R542, R539, R572). -/
def Device.loadAlwaysOn (d : Device) : Device :=
  let d := d.loadFields 16 [(Reg.HLT.CTRL_LEVEL_REQ, 1)]
  let offsets := (List.range 72).map fun n => (Reg.THM.OFFSET_OFFSET n, 0)
  let disables := (List.range 3).map fun k => (Reg.THM.SENS_DISABLE_DISABLE k, 0)
  let d := d.loadFields 17 ([(Reg.THM.QUENCH_QUENCH_C, 115), (Reg.THM.QUENCH_RESTART_C, 90)] ++ disables ++ offsets)
  let d := d.loadFields 37 [(Reg.THM.CNT_QUENCH_COUNT, 0)]
  let d := d.loadFields 38 [(Reg.HLT.POWER_COUNT_COUNT, 0)]
  let d := d.loadFields 39 [(Reg.HLT.REPLACE_CAUSE, 0)]
  (d.setFlag Reg.HLT.REPLACE_REQ (d.fld Reg.HLT.REPLACE_CAUSE != 0)).setFlag Reg.HLT.SUMMARY_REPLACE_REQ (d.fld Reg.HLT.REPLACE_CAUSE != 0)

/-- The stored and one-time programmed fields of the security page (R505, R513, R514, R518). -/
def Device.loadSecurity (d : Device) : Device :=
  let d := d.loadFields 20 ((List.range 5).map fun k => (⟨Reg.SEC.ALARM_POLICY, 2 * k, 2⟩, 0))
  let d := (List.range 4).foldl (fun (d : Device) k => d.setKey k (d.keySlot k)) d
  (d.showOtp).setFld Reg.SEC.AUDIT_HEAD_SEQ (d.logHead 80 1024)

/-! ### The sealed image at power-up (R492, R503) -/

/-- What the store holds of the sealed image: IMAGE's outcome and the image. -/
def Device.findImage (d : Device) : Nat × Option SealImage :=
  let pages := (List.range d.imagePages).map fun k => d.page (528 + k)
  let good := pages.filter fun p => p.used && !p.bad
  let gen := (good.head?.map (·.image)).getD 0
  if !pages.any fun p => p.used then (0, none)
  else if (pages.any fun p => !p.used) || good.any fun p => p.image != gen then (3, none)
  else if good.length ≠ pages.length then (4, none)
  else match (d.sea.images.find? fun x => x.1 = gen).map (·.2) with
    | none => (4, none)
    | some m => if !m.isSealed then (1, some m) else if m.key.isSome && m.key = d.sealKey then (2, some m) else (5, some m)

/-- Trims, gains, coefficients and the sealed registers take an image's contents (R503). -/
def Device.loadContents (d : Device) (m : SealImage) : Device :=
  let d := d.setFlag Reg.TIM0.CTRL_FINE_EN m.fineEn
  let d := m.injDelay.zipIdx.foldl (fun (d : Device) x => d.setWord (Reg.TIM0.INJ_DELAY x.2) x.1) d
  let d := m.injcal.zipIdx.foldl (fun (d : Device) x => d.setWord (Reg.SEA1.INJCAL x.2) x.1) d
  let steps := m.trimStep.zipIdx.foldl (fun t x => SMap.set (fun _ => 1) t x.2 x.1) []
  { d with sea := { d.sea with coefs := m.coefs, master := m.trims, trimStep := steps } }

/-- The contents without an image: reset values (R503). -/
def Device.blankContents (d : Device) : Device :=
  let d := d.setFlag Reg.TIM0.CTRL_FINE_EN (Reg.TIM0.CTRL_FINE_EN.of (resetWord Reg.TIM0.CTRL) != 0)
  (List.range 4).foldl (fun (d : Device) k => d.setWord (Reg.TIM0.INJ_DELAY k) (resetWord (Reg.TIM0.INJ_DELAY k))) d

/-- Every powered pixel and every powered periphery takes its sealed setting. -/
def Device.spreadContents (d : Device) : Device :=
  let d := (List.range d.part.dies).foldl (fun (d : Device) n =>
    if d.domOn (25 + 11 * n) then d.setFld (Reg.PIX.FE_CTRL_TRIM_STEP n) (d.trimStep n) else d) d
  d.poweredPixels.foldl (fun d i => d.rewriteTrim i) d

/-- MAC shows that of the newest seal in the seal log. -/
def Device.loadSealLog (d : Device) : Device :=
  let n := (List.range 64).find? fun e => (d.slogWord e 0).toNat / 256 % 256 = 1
  match n with
  | none => d
  | some e =>
    let mac : BitVec 256 := d.slogWord e 2 ++ d.slogWord e 3 ++ d.slogWord e 4 ++ d.slogWord e 5
    d.showMac mac

/-- Power-up of the sealed domain (R492, R503). -/
def Device.sealedUp (d : Device) : Device :=
  let d := d.loadFields 19 [(Reg.SEA0.POLICY_SEAL_KEY, 0), (Reg.SEA0.POLICY_SVC_RESEAL, 1)]
  let d := d.setWord Reg.SEA0.COUNTER (BitVec.ofNat 32 d.counterCell)
  let (outcome, image) := d.findImage
  let flag := ((d.sea.images.find? fun x => x.1 = (d.page 528).image).map (·.2.isSealed)).getD false
  let was := d.sea.wasSealed || flag
  let d := match image with
    | some m => d.loadContents m
    | none => d.blankContents
  let d := (d.setSealState (if outcome = 2 then 2 else 0)).setFld Reg.SEA0.STATUS_IMAGE outcome
  let d := if outcome = 1 ∨ outcome = 2 ∨ outcome = 5 then d.raise .sea0 5 else d
  let d := if outcome = 3 then d.healthLog 0x03 528 else d
  let d := if 3 ≤ outcome then (d.raise .sea0 6).audit 0x09 3 0 0 0 (BitVec.ofNat 32 outcome) else d
  let d := { d with sea := { d.sea with wasSealed := false } }
  let d := if was then (d.audit 0x0D 3 (d.alarmPolicy 3) 0 0 0).alarm 3 else d
  d.loadSealLog.spreadContents

/-! ### A band at power-up (R534) -/

/-- MASK of a pixel as the mask image has it; masked where its page is absent or bad. -/
def Device.storedMask (d : Device) (i : Nat) : Bool :=
  let pg := d.page (272 + i / 2048)
  if pg.used && !pg.bad then Nat.testBit (((pg.words.find? fun x => x.1 = i % 2048 / 64).map (·.2)).getD 0) (i % 64) else true

/-- Every pixel of a band takes its trim from the master copy, where the sealed domain is on, and its mask from the mask image. -/
def Device.bandUp (d : Device) (n b : Nat) : Device :=
  (List.range 16384).foldl (fun (d : Device) k =>
    let i := 131072 * n + 16384 * b + k
    let t : BitVec 5 := if d.domOn 2 then d.masterTrim i else 0x10
    let e : BitVec 8 := (if d.storedMask i then 0xA0#8 else 0x80#8) ||| t.setWidth 8
    d.updPixel i fun p => { p with entry := e, trim := t }) d

/-! ### Switching on -/

/-- A die's periphery at power-up: POLARITY from the store, TRIM_STEP from the sealed domain (R489, R559). -/
def Device.peripheryUp (d : Device) (n : Nat) : Device :=
  let d := d.loadFields 21 [(Reg.PIX.FE_CTRL_POLARITY n, 0)]
  if d.domOn 2 then d.setFld (Reg.PIX.FE_CTRL_TRIM_STEP n) (d.trimStep n) else d

/-- A lane at power-up: with a table in force it has its entry from MAP (R398, R399); then it may train (R404). -/
def Device.laneUp (d : Device) (l : Nat) : Device :=
  let d := if d.eqLoaded then (d.setFld (Reg.LNK.LANE_CTRL_ENTRY l) ((d.eqWord 17).toNat / 16 ^ l % 16)).setFlag (Reg.LNK.LANE_STATUS_BUILTIN l) false else d
  d.refreshLane l

/-- What a domain's pages load once it is on (R477, R492, R503, R534, R559). -/
def Device.domainUp (d : Device) (i : Nat) : Device :=
  if 16 ≤ i then
    match dieSlot i with
    | 8 | 10 => d
    | 9 => d.peripheryUp (dieOfDomain i)
    | b => d.bandUp (dieOfDomain i) b
  else match i with
    | 2 => d.sealedUp
    | 9 => d.loadFields 18 [(⟨Reg.HIS.GEOM, 0, 32⟩, (resetWord Reg.HIS.GEOM).toNat)]
    | 12 | 13 => ((lanesOf i).filter fun l => decide (l < d.part.txLanes)).foldl (fun d l => d.laneUp l) d
    | 14 =>
      let d := (List.range 4).foldl (fun (d : Device) k => d.loadFields (33 + k) [(⟨Reg.ZVL.AUTH_CTR k, 0, 32⟩, 0)]) d
      (lanesOf i).foldl (fun d l => d.laneUp l) d
    | _ => d

/-- A domain reaches its supply level (R532). -/
def Device.powerOn (d : Device) (i : Nat) : Device :=
  let d := (d.resetDomain i).setFlag (domOnBit i) true
  let d := { d with pwr := { d.pwr with faultOff := d.pwr.faultOff.filter fun x => x != i } }
  ((d.domainUp i).count Reg.PWRD.CNT_SWITCH).raise .pwrDom 0 i

/-! ### Requests and refusals (R531) -/

/-- A request bit changes: its switch joins the queue, or leaves it when the domain is as requested already, or will be after the switch in
progress. -/
def Device.queueSwitch (d : Device) (i : Nat) (on : Bool) : Device :=
  let d := d.setFlag (domReqBit i) on
  let becomes := match d.pwr.sw with
    | some w => if w.dom = i then w.on else d.domOn i
    | none => d.domOn i
  let rest := d.pwr.queue.filter fun q => q.1 != i
  { d with pwr := { d.pwr with queue := if becomes = on && decide (i ∈ d.domains) then rest else rest ++ [(i, on)] } }

/-- A domain that needs `i` is on and not requested off. -/
def Device.hasDependent (d : Device) (i : Nat) : Bool :=
  d.domains.any fun j => (domNeeds j).contains i && d.domOn j && d.requested j

/-- Why a queued switch is refused, in the order of R531; 0 when it is not. -/
def Device.switchReason (d : Device) (i : Nat) (on : Bool) : Nat :=
  if !d.domains.contains i then 5
  else if (!on && (i = 0 || i = 3)) || (on && i = 13 && d.part = .ezn8620) then 4
  else if !on && i = 2 && (d.fld Reg.HLT.SERVICE_LEVEL_LEVEL ≠ 0 || (d.domOn 2 && d.fld Reg.SEA0.STATUS_STATE ≠ 0)) then 3
  else if on && d.blindDomain i then 7
  else if on && !d.railsGood i then 6
  else if on && (domNeeds i).any (fun n => !d.domOn n && !d.requested n) then 1
  else if !on && d.hasDependent i then 2
  else 0

/-- A queued switch is refused (R531, R492). -/
def Device.refuseSwitch (d : Device) (i reason : Nat) : Device :=
  let d := { d with pwr := { d.pwr with queue := d.pwr.queue.filter fun q => q.1 != i } }
  let d := if reason = 6 then d else d.setFlag (domReqBit i) (d.domOn i)
  let d := if reason = 3 then (d.audit 0x0D 3 (d.alarmPolicy 3) 0 Reg.PWRD.DOM_REQ0 0).alarm 3 else d
  let d := (d.setFld Reg.PWRD.REFUSE_DOMAIN i).setFld Reg.PWRD.REFUSE_REASON reason
  (d.count Reg.PWRD.CNT_REFUSED).raise .pwrDom 2 i

/-- The queue in increasing order of the domains. -/
def Device.switchQueue (d : Device) : List (Nat × Bool) :=
  (List.range 64).filterMap fun i => d.pwr.queue.find? fun q => q.1 = i

/-- Queued switches that are refused leave the queue, lowest first, until none is. -/
def Device.refuseQueued (d : Device) : Nat → Device
  | 0 => d
  | n + 1 =>
    match d.switchQueue.find? fun q => d.switchReason q.1 q.2 ≠ 0 with
    | none => d
    | some q => (d.refuseSwitch q.1 (d.switchReason q.1 q.2)).refuseQueued n

/-- A queued switch may proceed: a switch-on once the domains it needs are on, a switch-off once none that needs it is (R531). -/
def Device.switchReady (d : Device) (q : Nat × Bool) : Bool :=
  if q.2 then (domNeeds q.1).all fun n => d.domOn n
  else d.domains.all fun j => !((domNeeds j).contains q.1 && d.domOn j)

/-- The pages of a domain on the part. -/
def domPages (i : Nat) : List Page :=
  if 16 ≤ i then
    let n : Die := Fin.ofNat 4 (dieOfDomain i)
    match dieSlot i with
    | 8 => []
    | 9 => [.die n, .pix n]
    | 10 => [.conv n]
    | b => (List.range 16).map fun k => .reg n (Fin.ofNat 128 (16 * b + k))
  else match i with
    | 1 => [.tim0]
    | 2 => [.sea0, .sea1, .tim1, .coef]
    | 4 => [.evb]
    | 5 => [.trg]
    | 6 => [.dsp 0, .dsp 1, .dsp 2, .dsp 3]
    | 7 => [.sta0, .sta1]
    | 8 => [.cdr]
    | 9 => [.his]
    | 11 => [.pci]
    | 14 => [.zvl]
    | _ => []

/-- A switch begins: a switch-off clears ENABLE on the domain's pages and removes its lanes (R419, R532, R533). -/
def Device.startSwitch (d : Device) (i : Nat) (on : Bool) : Device :=
  let pwr := { d.pwr with queue := d.pwr.queue.filter (fun q => q.1 != i), sw := some ⟨i, on, d.clock⟩ }
  let d := ((Device.setFlag { d with pwr := pwr } Reg.PWRD.SUMMARY_SWITCHING true)).setFld Reg.PWRD.SUMMARY_DOMAIN i
  if on then d
  else
    let d := (domPages i).foldl (fun d p => d.clearEnable p) d
    (lanesOf i).foldl (fun d l => d.removeLane l false) d

/-- The switch in progress is over. -/
def Device.endSwitch (d : Device) : Device := Device.setFlag { d with pwr := { d.pwr with sw := none } } Reg.PWRD.SUMMARY_SWITCHING false

/-- The controller serves its queue (R531, R532, R535): one switch at a time, the lowest index first; in the step-down of R561 the highest. -/
def Device.nextSwitch (d : Device) : Device :=
  if d.pwr.sw.isSome || !d.enabled .pwrDom then d
  else
    let d := d.refuseQueued d.pwr.queue.length
    let ready := d.switchQueue.filter fun q => d.switchReady q
    match if d.hlt.stopping then ready.getLast? else ready.head? with
    | none => d
    | some q => d.startSwitch q.1 q.2

/-! ### Start-up (R557-R561) -/

/-- The start-up step is shown. -/
def Device.showStep (d : Device) (n : Nat) : Device :=
  let d := { d with hlt := { d.hlt with step := n, stepSince := d.clock, stallRaised := false } }
  (d.setFld Reg.HLT.SERVICE_LEVEL_STEP n).setFlag Reg.HLT.SERVICE_LEVEL_STARTING (decide (6 ≤ n))

/-- The domains that a step switches on, in order (R558). -/
def Device.stepDomains (d : Device) (n : Nat) : List Nat :=
  match n with
  | 5 => [11, 12, 14] ++ (if d.part = .ezn8640 then [13] else [])
  | 6 => if d.fld Reg.HLT.CTRL_LEVEL_REQ = 0 then [] else [1]
  | 7 => [2]
  | 8 => [15, 4, 5, 6, 7, 8, 10, 9]
  | 9 => (List.range d.part.dies).flatMap fun k =>
      let b := 16 + 11 * k
      [b + 9, b + 8, b + 10] ++ (List.range 8).map fun j => b + j
  | _ => []

/-- The step's domains are switched on one after the other; one whose switch-on was refused for another reason than its rail, or failed, is
skipped (R558). -/
def Device.askNext (d : Device) : Nat → Device
  | 0 => d
  | n + 1 =>
    match d.hlt.todo with
    | [] => d
    | i :: rest =>
      let next (d : Device) : Device := { d with hlt := { d.hlt with todo := rest, asked := false } }
      if d.domOn i then (next d).askNext n
      else if !d.hlt.asked then Device.askNext (Device.nextSwitch (Device.queueSwitch { d with hlt := { d.hlt with asked := true } } i true)) n
      else if d.requested i then d
      else (next d).askNext n

/-- A step begins. -/
def Device.enterStep (d : Device) (n : Nat) : Device :=
  let d := d.showStep n
  let todo := d.stepDomains n
  Device.askNext { d with hlt := { d.hlt with todo := todo, asked := false } } (3 * todo.length)

/-- Step 6 waits for LEVEL_REQ: a request at S0 lets it go on (R558, R561). -/
def Device.resumeStart (d : Device) : Device :=
  if d.hlt.stopping then d
  else if d.hlt.step = 0 && d.fld Reg.HLT.SERVICE_LEVEL_LEVEL = 0 && !d.thm.shutdown && !d.pwr.por then d.enterStep 6
  else if d.hlt.step = 6 && d.hlt.todo.isEmpty && !d.domOn 1 then d.enterStep 6
  else d

/-- The step-down to S0 begins (R561). -/
def Device.stepDown (d : Device) : Device :=
  let d := d.showStep 0
  let d := { d with hlt := { d.hlt with stopping := true, todo := [], asked := false } }
  (d.domains.filter fun i => decide (4 ≤ i) && !(decide (11 ≤ i) && decide (i ≤ 14)) && (d.requested i || d.domOn i)).foldl
    (fun d i => d.queueSwitch i false) d

/-- Nothing of the step-down is left: the level reads S0; domains 2 and 1 follow when the sealed domain is UNSEALED (R492, R561). -/
def Device.stepDownEnds (d : Device) : Device :=
  if !d.hlt.stopping || d.pwr.sw.isSome || !d.pwr.queue.isEmpty then d
  else if d.domains.any fun i => decide (4 ≤ i) && !(decide (11 ≤ i) && decide (i ≤ 14)) && d.domOn i then d
  else
    let d := d.setLevel 0
    if d.domOn 2 && d.fld Reg.SEA0.STATUS_STATE = 0 then (d.queueSwitch 1 false).queueSwitch 2 false
    else if !d.domOn 2 && d.domOn 1 then d.queueSwitch 1 false
    else
      let d := { d with hlt := { d.hlt with stopping := false } }
      if d.fld Reg.HLT.CTRL_LEVEL_REQ = 0 then d else d.resumeStart

/-- What follows a change of the switches: the next one, the rest of a start-up step, the end of a step-down. -/
def Device.kick (d : Device) : Device :=
  let d := d.nextSwitch
  let d := d.askNext (3 * d.hlt.todo.length)
  d.stepDownEnds.nextSwitch

/-! ### Power lost at once: rail faults, shutdown, resets -/

/-- Domains lose power at once, without drain (R529, R550, R556). -/
def Device.cutDomains (d : Device) (is : List Nat) : Device :=
  let d := is.foldl (fun d i => d.powerOff i) d
  let gone (i : Nat) : Bool := is.contains i
  let d := { d with pwr := { d.pwr with queue := d.pwr.queue.filter fun q => q.2 || !gone q.1 } }
  match d.pwr.sw with
  | some w => if !w.on && gone w.dom then d.endSwitch else d
  | none => d

/-- The domains that lose power with a set of domains, themselves included (R529). -/
def Device.withDependents (d : Device) (is : List Nat) : Nat → List Nat
  | 0 => is
  | n + 1 =>
    let more := d.domains.filter fun j => d.domOn j && !is.contains j && (domNeeds j).any fun k => is.contains k
    d.withDependents (is ++ more) n

/-- Every domain but the always-on one loses power, and its request bit clears (R605). -/
def Device.cutAll (d : Device) : Device :=
  let on := d.domains.filter fun i => decide (1 ≤ i) && d.domOn i
  let level := d.fld Reg.HLT.SERVICE_LEVEL_LEVEL
  let d := (on.reverse).foldl (fun d i => d.powerOff i) d
  let d := (d.setWord Reg.PWRD.DOM_REQ0 1).setWord Reg.PWRD.DOM_REQ1 0
  let d := Device.endSwitch { d with pwr := { d.pwr with queue := [] } }
  let d := { d with hlt := { d.hlt with todo := [], asked := false, stopping := false } }
  if level = 0 then d.showStep 0 else (d.showStep 0).setLevel 0

/-- The restart of R552 and R556: domain 3 first, then start-up from step 2. -/
def Device.restart (d : Device) (cause : Nat) : Device :=
  let d := d.setFld Reg.HLT.RESET_CAUSE_CAUSE cause
  let d := { d with hlt := { d.hlt with resetClock := d.clock } }
  ((d.setFlag (domReqBit 3) true).powerOn 3).enterStep 2

/-- The whole device is in power-on reset: what is left is what needs no power, and the rails (R528, R556, R564). -/
def Device.powerOnReset (d : Device) (cause : Nat) : Device :=
  let was := d.domOn 2 && d.fld Reg.SEA0.STATUS_STATE = 2
  let cut := (if d.domOn 3 then d.cutStore else d).nvs
  let rails := d.word Reg.PWRD.RAIL_STATUS
  let d : Device :=
    { part := d.part, clock := d.clock, free := d.free, out := d.out
      nvs := { pages := cut.pages, slots := cut.slots, rotation := cut.rotation }
      sec := { otp := d.sec.otp }
      sea := { images := d.sea.images, wasSealed := d.sea.wasSealed || was }
      tim := { refclk := d.tim.refclk, inhibitSince := some d.clock }
      hlt := { resetClock := d.clock }
      mon := { leadUntil := d.clock + 500 * Config.usCt } }
  (d.setWord Reg.PWRD.RAIL_STATUS rails).setFld Reg.HLT.RESET_CAUSE_CAUSE cause

end Sys2Proof.Machine
end

