-- ==== Sys2Proof/Machine/Power.lean ====
section
/-! DEFINITION. The commands of the page controls (R473-R475), of the rails and of the power domains (spec/16). -/

namespace Sys2Proof.Machine

/-! ### Page controls -/

/-- PAGE_ENABLE_CLEAR (R473). -/
def execPageEnableClear (page : Page) (s : State) : Res := run (fun d => (d.clearEnable page).kick) s

/-- PAGE_ENABLE_SET (R473). -/
def execPageEnableSet (page : Page) (s : State) : Res := run (fun d => (d.setEnable page).kick) s

/-- PAGE_DRAIN_DONE (R473). -/
def execPageDrainDone (page : Page) (s : State) : Res := run (fun d => d.drainDone page) s

/-- PAGE_ABORT (R474). -/
def execPageAbort (page : Page) (s : State) : Res := run (fun d => d.setAbort page) s

/-- PAGE_ABORT_DONE (R474, R475). -/
def execPageAbortDone (page : Page) (s : State) : Res := run (fun d => (d.abortDone page).kick) s

/-- PAGE_SOFT_RESET (R475). -/
def execPageSoftReset (page : Page) (s : State) : Res := run (fun d => d.askSoftReset page) s

/-! ### Rails -/

/-- RAIL_GOOD (R527). -/
def execRailGood (rail : Rail) (s : State) : Res := run (fun d => d.setFlag ⟨Reg.PWRD.RAIL_STATUS, rail.val, 1⟩ true) s

/-- A rail goes bad (R528, R529). -/
def Device.railFault (d : Device) (r : Nat) : Device :=
  if !d.railGood r then d
  else
    let d := d.setFlag ⟨Reg.PWRD.RAIL_STATUS, r, 1⟩ false
    if d.pwr.por then d
    else if r = 0 ∨ r = 6 then d.powerOnReset 1
    else
      let first := d.domains.filter fun i => d.domOn i && (domRails i).contains r
      let all := (d.withDependents first 4).mergeSort (fun a b => decide (b ≤ a))
      let d := d.cutDomains all
      let d := { d with pwr := { d.pwr with faultOff := d.pwr.faultOff ++ all.filter fun i => !d.pwr.faultOff.contains i } }
      ((d.count Reg.PWRD.CNT_RAIL_FAULT).raise .pwrDom 4 r).kick

/-- RAIL_FAULT (R528, R529). -/
def execRailFault (rail : Rail) (s : State) : Res := run (fun d => d.railFault rail.val) s

/-- A rail has been good again for 10 ms: what is requested on and has all its rails is switched on (R529). -/
def Device.railOk (d : Device) (r : Nat) : Device :=
  if !d.railGood r || r = 0 || r = 6 || d.pwr.por then d
  else
    let d := d.raise .pwrDom 5 r
    ((d.domains.filter fun i => !d.domOn i && d.requested i && d.railsGood i).foldl (fun d i => d.queueSwitch i true) d).kick

/-- RAIL_OK (R529). -/
def execRailOk (rail : Rail) (s : State) : Res := run (fun d => d.railOk rail.val) s

/-! ### Domains -/

/-- A write of DOM_REQ0 or DOM_REQ1 (R531): each bit that changes queues a switch. -/
def Device.writeDomReq (d : Device) (high : Bool) (data : W32) : Device :=
  if !d.pageOn .pwrDom then d
  else
    let lo := if high then 32 else 0
    let n := if high then 28 else 32
    let changed := (List.range n).filter fun k => d.requested (lo + k) != data.getLsbD k
    (changed.foldl (fun d k => d.queueSwitch (lo + k) (data.getLsbD k)) d).kick

/-- DOMAIN_REQUEST_WRITE (R531). -/
def execDomainRequestWrite (high : Bool) (data : W32) (s : State) : Res := run (fun d => d.writeDomReq high data) s

/-- DOMAIN_SWITCH_ON_DONE (R532): a domain that has lost a rail or a domain it needs meanwhile does not reach its supply level. -/
def execDomainSwitchOnDone (s : State) : Res :=
  run (fun d => match d.pwr.sw with
    | some w => if w.on && d.railsGood w.dom && (domNeeds w.dom).all (fun n => d.domOn n) then (d.powerOn w.dom).endSwitch.kick else d
    | none => d) s

/-- A switch-on has failed (R532). -/
def Device.switchFails (d : Device) (i : Nat) : Device :=
  let d := d.setFlag (domReqBit i) false
  let d := { d with pwr := { d.pwr with faultOff := d.pwr.faultOff ++ (if d.pwr.faultOff.contains i then [] else [i]) } }
  ((d.raise .pwrDom 6 i).endSwitch).kick

/-- DOMAIN_SWITCH_TIMEOUT (R532). -/
def execDomainSwitchTimeout (s : State) : Res :=
  run (fun d => match d.pwr.sw with
    | some w => if w.on then d.switchFails w.dom else d
    | none => d) s

/-- Every page of a domain reads IDLE and its lanes have left their bundles (R419, R533). -/
def Device.domainIdle (d : Device) (i : Nat) : Bool :=
  ((domPages i).all fun p => d.flag (fIdle p) && !d.flag (fAbort p)) && (lanesOf i).all fun l => d.laneState l ≠ 3

/-- DOMAIN_SWITCH_OFF (R533). -/
def execDomainSwitchOff (s : State) : Res :=
  run (fun d => match d.pwr.sw with
    | some w => if !w.on && d.domainIdle w.dom then ((((d.powerOff w.dom).count Reg.PWRD.CNT_SWITCH).raise .pwrDom 1 w.dom).endSwitch).kick else d
    | none => d) s

/-- The drain of a switch-off has run out (R533). -/
def Device.drainTimeout (d : Device) (w : Switch) : Device :=
  let late := (domPages w.dom).filter fun p => d.flag (fDraining p)
  if late.isEmpty then d
  else
    let d := d.waitUntil (w.since + max 1 (d.fld Reg.PWRD.DRAIN_TIMEOUT_MS) * Config.msCt)
    ((late.foldl (fun d p => d.setAbort p) d).count Reg.PWRD.CNT_DRAIN_ABORT).raise .pwrDom 3 w.dom

/-- DOMAIN_DRAIN_TIMEOUT (R533). -/
def execDomainDrainTimeout (s : State) : Res :=
  run (fun d => match d.pwr.sw with
    | some w => if w.on then d else d.drainTimeout w
    | none => d) s

end Sys2Proof.Machine
end

