-- ==== Sys2Proof/Machine/Thermal.lean ====
section
/-! DEFINITION. Thermal management (spec/16, R538-R555): sensors and the diode, throttling, the curve table, pauses, the hardware shutdown and its
restart. -/

namespace Sys2Proof.Machine

/-! ### Sensors (R538-R543) -/

/-- A sensor of the part (R538). -/
def Device.hasSensor (d : Device) (n : Nat) : Bool := decide (n < 16 * d.part.dies) || (decide (64 ≤ n) && decide (n < 72))

/-- The sensors of the part. -/
def Device.allSensors (d : Device) : List Nat := (List.range 72).filter fun n => d.hasSensor n

/-- A sensor changes. -/
def Device.updSensor (d : Device) (n : Nat) (f : SensorSt → SensorSt) : Device :=
  { d with thm := { d.thm with sensors := SMap.upd (fun _ => {}) d.thm.sensors n f } }

/-- SENS_DISABLE of a sensor (R542). -/
def Device.sensorOff (d : Device) (n : Nat) : Bool := (d.word (Reg.THM.SENS_DISABLE (n / 32))).getLsbD (n % 32)

/-- A working sensor that has a reading (R543). -/
def Device.sensorWorks (d : Device) (n : Nat) : Bool := d.hasSensor n && (d.sensorSt n).valid && !(d.sensorSt n).failed && !d.sensorOff n

/-- The calibration counts of a sensor: R25 and R105 from the one-time programmable store; the counts of a store without one are the model's
(R539; log 65). -/
def Device.sensorCal (d : Device) (n : Nat) : Nat × Nat := SMap.get (fun _ => (20000, 28000)) d.sec.otp.sensorCal n

/-- OFFSET of a sensor in 1/8 °C, limited to ±8 °C (R539, R555). -/
def Device.sensorOffset (d : Device) (n : Nat) : Int :=
  max (-64) (min 64 (BitVec.ofNat 8 (d.fld (Reg.THM.OFFSET_OFFSET n))).toInt)

/-- The temperature of a count in 1/8 °C (R539); the division truncates (log 66). -/
def Device.sensorTemp (d : Device) (n : Nat) (raw : BitVec 16) : Int :=
  let (r25, r105) := d.sensorCal n
  200 + (640 * ((raw.toNat : Int) - r25)).tdiv ((r105 : Int) - r25) + d.sensorOffset n

/-- A temperature lies within the range of R541. -/
def sensorInRange (t : Int) : Bool := decide (-560 ≤ t) && decide (t ≤ 1200)

/-- The group of a sensor: its die, or 4 for the concentrator. -/
def sensorGroup (n : Nat) : Nat := n / 16

/-- The neighbours of a sensor in its grid (R538). -/
def sensorNeighbours (n : Nat) : List Nat :=
  let base := 16 * sensorGroup n
  let rows := if 64 ≤ n then 2 else 4
  let r := (n - base) / 4
  let c := (n - base) % 4
  (if 0 < r then [n - 4] else []) ++ (if r + 1 < rows then [n + 4] else []) ++ (if 0 < c then [n - 1] else []) ++ (if c < 3 then [n + 1] else [])

/-- The highest own temperature among working sensors of a list. -/
def Device.hottestOf (d : Device) (ns : List Nat) : Option Int :=
  ((ns.filter fun n => d.sensorWorks n).map fun n => (d.sensorSt n).own).foldl (fun m t => some (match m with
    | none => t
    | some x => max x t)) none

/-- The value used for a sensor that is failed or disabled (R541). -/
def Device.replacement (d : Device) (n : Nat) : Int :=
  match d.hottestOf (sensorNeighbours n) with
  | some t => t + 40
  | none => match d.hottestOf (d.allSensors.filter fun k => sensorGroup k = sensorGroup n) with
    | some t => t + 40
    | none => match d.hottestOf d.allSensors with
      | some t => t + 40
      | none => Config.noSensorTemp d.free

/-- A sensor is failed or disabled. -/
def Device.sensorLost (d : Device) (n : Nat) : Bool := (d.sensorSt n).failed || d.sensorOff n

/-- The value used for a sensor (R541). -/
def Device.sensorUsed (d : Device) (n : Nat) : Int := if d.sensorLost n then d.replacement n else (d.sensorSt n).own

/-- Every sensor of a group is failed or disabled. -/
def Device.groupLost (d : Device) (g : Nat) : Bool := (d.allSensors.filter fun n => sensorGroup n = g).all fun n => d.sensorLost n

/-- HOLD follows the failed sensors (R545). -/
def Device.followHold (d : Device) : Device :=
  let now := d.allSensors.any fun n => (d.sensorSt n).failed && !d.sensorOff n
  let was := d.flag Reg.THM.STATUS_HOLD
  let d := d.setFlag Reg.THM.STATUS_HOLD now
  if now && !was then d.raise .thm 7 else d

/-- The domains of a die. -/
def dieDomains (n : Nat) : List Nat := (List.range 11).map fun j => 16 + 11 * n + j

/-- A die becomes blind, or sees again (R545, R572): its domains are switched off under R533, or on again above S0 (log 67). -/
def Device.followBlind (d : Device) (n : Nat) : Device :=
  let now := d.hasDie n && d.groupLost n
  let bit : Fld := ⟨Reg.THM.STATUS, 18 + n, 1⟩
  let was := d.flag bit
  let d := d.setFlag bit now
  if now && !was then
    let d := d.raise .thm 9 n
    ((dieDomains n).filter fun i => d.domOn i || d.requested i).foldl (fun d i => d.queueSwitch i false) d
  else if was && !now && d.fld Reg.HLT.SERVICE_LEVEL_LEVEL ≠ 0 then (dieDomains n).foldl (fun d i => d.queueSwitch i true) d
  else d

/-- What follows a change of failed or disabled sensors. -/
def Device.followSensors (d : Device) : Device := ((List.range 4).foldl (fun d n => d.followBlind n) d.followHold).kick

/-- A sensor fails (R541, R545). -/
def Device.failSensor (d : Device) (n : Nat) : Device :=
  if d.sensorLost n then d.updSensor n fun s => { s with goodSince := none }
  else
    let d := d.updSensor n fun s => { s with failed := true, goodSince := none, hot := 0 }
    ((d.count Reg.THM.CNT_SENSOR_FAIL).raise .thm 2 n).followSensors

/-- A failed sensor is cleared (R542). -/
def Device.clearSensor (d : Device) (n : Nat) : Device :=
  ((d.updSensor n fun s => { s with failed := false, goodSince := none, hot := 0 }).raise .thm 3 n).followSensors

/-! ### The hardware shutdown (R550-R552) -/

/-- The restart condition holds now: every working sensor below RESTART_C, enough of them working (R552). -/
def Device.coolNow (d : Device) : Bool :=
  let limit : Int := 8 * d.fld Reg.THM.QUENCH_RESTART_C
  (d.allSensors.all fun n => !d.sensorWorks n || decide ((d.sensorSt n).own < limit))
    && ((List.range d.part.dies).all fun g => d.allSensors.any fun n => sensorGroup n = g && d.sensorWorks n)
    && decide (4 ≤ (d.allSensors.filter fun n => sensorGroup n = 4 && d.sensorWorks n).length)

/-- The clock since when the restart condition holds. -/
def Device.followCool (d : Device) : Device :=
  if !d.thm.shutdown then d
  else if d.coolNow then { d with thm := { d.thm with coolSince := some (d.thm.coolSince.getD d.clock) } }
  else { d with thm := { d.thm with coolSince := none } }

/-- The shutdown trips (R550, R605). -/
def Device.quench (d : Device) (sensor : Nat) : Device :=
  if d.thm.shutdown || d.pwr.por then d
  else
    let frame := d.frame.toNat
    let d := d.cutAll
    let d := (d.setFld Reg.THM.LAST_QUENCH_SENSOR sensor).setFld Reg.THM.LAST_QUENCH_FRAME frame
    let d := { d with thm := { d.thm with shutdown := true, coolSince := none, pauses := [] } }
    ((d.raise .thm 0).raise .pwrDom 7).followCool

/-- QUENCH_C in 1/8 °C. -/
def Device.quenchLimit (d : Device) : Int := 8 * d.fld Reg.THM.QUENCH_QUENCH_C

/-- A reading of a sensor (R539, R541, R542, R550). -/
def Device.readSensor (d : Device) (n : Nat) (raw : BitVec 16) : Device :=
  if !d.hasSensor n || d.pwr.por then d
  else
    let old := d.sensorSt n
    let t := d.sensorTemp n raw
    let ok := sensorInRange t && (!old.valid || decide ((t - old.own).natAbs ≤ 16))
    let lost := d.sensorLost n
    let hot := if t < d.quenchLimit then 0 else old.hot + 1
    let good := if old.failed && ok then some (old.goodSince.getD d.clock) else none
    let d := d.updSensor n fun s => { s with raw := raw, valid := true, own := t, hot := if lost then 0 else hot, goodSince := good }
    let d := if !lost && !ok then d.failSensor n else d
    let d := if !lost && ok && decide (2 ≤ hot) then d.quench n else d
    d.followCool

/-- SENSOR_READING (R539, R541, R542, R550). -/
def execSensorReading (sensor : Sensor) (raw : BitVec 16) (s : State) : Res := run (fun d => d.readSensor sensor.val raw) s

/-- SENSOR_NO_READING (R541). -/
def execSensorNoReading (sensor : Sensor) (s : State) : Res :=
  run (fun d => if d.hasSensor sensor.val && !d.pwr.por then (d.failSensor sensor.val).followCool else d) s

/-- SENSOR_AUTO_CLEAR (R542). -/
def execSensorAutoClear (sensor : Sensor) (s : State) : Res :=
  run (fun d =>
    let x := d.sensorSt sensor.val
    match x.goodSince with
    | some t => if x.failed && !d.sensorOff sensor.val then ((d.waitUntil (t + 10 * Config.secondCt)).clearSensor sensor.val).followCool else d
    | none => d) s

/-- A write of SENS_CLEAR (R542). -/
def Device.writeSensClear (d : Device) (k : Nat) (bits : W32) : Device :=
  ((List.range 32).filter fun b => bits.getLsbD b).foldl (fun (d : Device) b =>
    let n := 32 * k + b
    let x := d.sensorSt n
    if d.hasSensor n && x.failed && !d.sensorOff n && x.valid && sensorInRange x.own then (d.clearSensor n).followCool else d) d

/-- SENSOR_CLEAR_WRITE (R542). -/
def execSensorClearWrite (word : Fin 3) (bits : W32) (s : State) : Res :=
  run (fun d => if d.pageOn .thm then d.writeSensClear word.val bits else d) s

/-- A write of SENS_DISABLE (R542). -/
def Device.writeSensDisable (d : Device) (k : Nat) (bits : W32) : Device :=
  let present : W32 := BitVec.ofNat 32 (((List.range 32).filter fun b => d.hasSensor (32 * k + b)).map fun b => 2 ^ b).sum
  (((d.setWord (Reg.THM.SENS_DISABLE k) (bits &&& present)).storeReg (Reg.THM.SENS_DISABLE k)).followSensors).followCool

/-- The diode's temperature in 1/8 °C, from the difference of its two conversions in µV (R540); the division truncates (log 66). -/
def diodeTemp (lowUv highUv : Nat) : Int := (25 * ((highUv : Int) - lowUv) - 1223712).tdiv 560

/-- A measurement of the diode (R540, R545). -/
def Device.measureDiode (d : Device) (lowUv highUv : Nat) : Device :=
  let t := diodeTemp lowUv highUv
  let d := (d.setFld Reg.THM.DIODE_TEMP (BitVec.ofInt 12 t).toNat).setFlag Reg.THM.DIODE_VALID true
  let works := d.allSensors.filter fun n => sensorGroup n = 4 && d.sensorWorks n
  let sum := (works.map fun n => (d.sensorSt n).own).sum
  let d := if !works.isEmpty && decide (40 * works.length < ((works.length : Int) * t - sum).natAbs) then d.raise .thm 8 else d
  let hot := if d.groupLost 4 && decide (d.quenchLimit ≤ t) then d.thm.diodeHot + 1 else 0
  let d := { d with thm := { d.thm with diode := t, diodeHot := hot } }
  if 2 ≤ hot then d.draw.quench (Config.diodeTripSensor d.free).toNat else d

/-- DIODE_MEASURE (R540). -/
def execDiodeMeasure (lowUv highUv : Nat) (s : State) : Res := run (fun d => if d.pwr.por then d else d.measureDiode lowUv highUv) s

/-! ### Throttling (R544-R548) -/

/-- The curve at a temperature (R544). -/
def Curve.at (c : Curve) (t : Int) : Nat :=
  match c.points with
  | [] => 0
  | p :: rest =>
    if t ≤ p.1 then p.2
    else
      let go (acc : (Int × Nat) × Option Nat) (q : Int × Nat) : (Int × Nat) × Option Nat :=
        match acc.2 with
        | some _ => acc
        | none => if q.1 ≤ t then (q, none) else (q, some ((acc.1.2 : Int) + ((t - acc.1.1) * ((q.2 : Int) - acc.1.2)).tdiv (q.1 - acc.1.1)).toNat)
      let r := rest.foldl go (p, none)
      r.2.getD r.1.2

/-- The temperature that throttling takes, and the sensor that gives it (R544, R545): the highest value used; the diode's in place of the
concentrator's sensors when all eight are lost. None before any reading. -/
def Device.throttleTemp (d : Device) : Option (Int × Nat) :=
  let diode := d.groupLost 4 && d.flag Reg.THM.DIODE_VALID
  let works := (d.hottestOf d.allSensors).isSome
  let ns := d.allSensors.filter fun n => ((d.sensorSt n).valid || (d.sensorSt n).failed || d.sensorOff n && works) && !(diode && sensorGroup n = 4)
  let vs := ns.map (fun n => (d.sensorUsed n, n)) ++ (if diode then [(d.thm.diode, 64)] else [])
  vs.foldl (fun m v => match m with
    | none => some v
    | some x => if x.1 < v.1 then some v else m) none

/-- The committed curve takes effect (R547). -/
def Device.applyCurve (d : Device) : Device :=
  match d.thm.next with
  | none => d
  | some (c, ws) => (Device.setFlag { d with thm := { d.thm with curve := some c, curveWords := ws, next := none } } Reg.THM.STATUS_BUILTIN false).raise .thm 10

/-- The duty takes a value (R544). -/
def Device.setDuty (d : Device) (now : Nat) : Device :=
  let was := d.fld Reg.THM.STATUS_DUTY
  let d := (d.setFld Reg.THM.STATUS_DUTY now).setFlag Reg.THM.SUMMARY_THROTTLING (now != 0)
  let d := if was = 0 && now ≠ 0 then d.raise .thm 4 else d
  let d := if was ≠ 0 && now = 0 then d.raise .thm 5 else d
  if was ≠ 65535 && now = 65535 then d.raise .thm 6 else d

/-- What an update shows: the temperature and its sensor, WARN when it is reached, the duty (R544). -/
def Device.showThrottle (d : Device) (t : Int) (n duty : Nat) : Device :=
  let d := if d.thm.lastT < d.curveNow.warn && decide (d.curveNow.warn ≤ t) then d.raise .thm 12 else d
  let d := { d with thm := { d.thm with lastT := t } }
  ((d.setFld Reg.THM.SUMMARY_HOTTEST (BitVec.ofInt 12 t).toNat).setFld Reg.THM.SUMMARY_SENSOR n).setDuty duty

/-- The update of every 1 ms (R544, R545). -/
def Device.throttle (d : Device) : Device :=
  let d := d.applyCurve
  match d.throttleTemp with
  | none => d
  | some (t, n) =>
    let c := d.curveNow
    let was := d.fld Reg.THM.STATUS_DUTY
    let rise := c.at t
    let fall := c.at (t + c.hyst)
    let next := if was ≤ rise then rise else if fall < was then fall else was
    let next := if d.flag Reg.THM.STATUS_HOLD && decide (next < was) then was else next
    d.showThrottle t n next

/-- THROTTLE_UPDATE (R544). -/
def execThrottleUpdate (s : State) : Res := run (fun d => if d.pwr.por then d else d.throttle) s

/-- PAUSE_END (R549). -/
def execPauseEnd (kind : PacedKind) (s : State) : Res :=
  run (fun d => match d.thm.pauses.find? fun p => p.1 == kind with
    | some p =>
      let d := d.waitUntil p.2.2
      let ticks := d.thm.pauseTicks + (p.2.2 - p.2.1)
      let d := { d with thm := { d.thm with pauses := d.thm.pauses.filter (fun q => q.1 != kind), pauseTicks := ticks % Config.msCt } }
      (d.count Reg.THM.CNT_PAUSE_MS (ticks / Config.msCt)).kickStore
    | none => d) s

/-! ### The curve table (R547) -/

/-- A half-word as a signed temperature. -/
def curveTemp (w : Nat) : Int := (BitVec.ofNat 16 w).toInt

/-- The curve of an image's words 1-9, with COUNT points. -/
def curveOf (ws : List W64) (count : Nat) : Curve :=
  let point (i : Nat) : Int × Nat :=
    let h := (ws.getD (1 + i / 2) 0).toNat / 2 ^ (32 * (i % 2)) % 2 ^ 32
    (curveTemp (h % 65536), h / 65536)
  let w := (ws.getD 9 0).toNat
  { points := (List.range count).map point, period := w % 65536, hyst := w / 65536 % 256, pauseMax := w / 2 ^ 24 % 65536, warn := curveTemp (w / 2 ^ 40 % 65536) }

/-- Each pair of neighbours passes. -/
def pairsOk (f : Int × Nat → Int × Nat → Bool) : List (Int × Nat) → Bool
  | [] => true
  | [_] => true
  | a :: b :: rest => f a b && pairsOk f (b :: rest)

/-- The checks of an image (R547). -/
def curveImageOk (ws : List W64) : Bool :=
  let count := (ws.getD 0 0).toNat / 2 ^ 32 % 256
  let c := curveOf ws count
  let unused := (List.range 16).filter fun i => decide (count ≤ i)
  ws.length = 10 && imageOk 0x5448 count (ws.getD 0 0) ws.tail && decide (2 ≤ count) && decide (count ≤ 16)
    && pairsOk (fun a b => decide (a.1 < b.1) && decide (a.2 ≤ b.2)) c.points
    && unused.all (fun i => (ws.getD (1 + i / 2) 0).toNat / 2 ^ (32 * (i % 2)) % 2 ^ 32 = 0)
    && decide (10 ≤ c.period) && decide (c.period ≤ 10000) && c.pauseMax ≠ 0

/-- A commit of an image (R547). -/
def Device.commitCurve (d : Device) (ws : List W64) : Device :=
  if curveImageOk ws then
    let c := curveOf ws ((ws.getD 0 0).toNat / 2 ^ 32 % 256)
    Device.setFlag { d with thm := { d.thm with next := some (c, ws.zipIdx.map fun x => (x.2, x.1)) } } Reg.THM.CURVE_CTRL_REJECTED false
  else (d.setFlag Reg.THM.CURVE_CTRL_REJECTED true).raise .thm 11

/-- CURVE_COMMIT (R547). -/
def execCurveCommit (s : State) : Res := run (fun d => if d.pageOn .thm then d.commitCurve (d.stagedImage .curve) else d) s

/-- The image of the built-in table (R547, R548). -/
def builtinImage : List W64 :=
  let c := builtinCurve
  let point (i : Nat) : Nat := match c.points[i]? with
    | some (t, y) => t.toNat % 65536 + y * 65536
    | none => 0
  let words := (List.range 8).map fun k => BitVec.ofNat 64 (point (2 * k) + point (2 * k + 1) * 2 ^ 32)
  let last := BitVec.ofNat 64 (c.period + c.hyst * 2 ^ 16 + c.pauseMax * 2 ^ 24 + c.warn.toNat * 2 ^ 40)
  let body := words ++ [last]
  BitVec.ofNat 64 (0x5448 * 2 ^ 48 + 2 ^ 40 + 4 * 2 ^ 32 + crc32 (body.flatMap bytesLE)) :: body

/-- The table in force is to be stored (R547). -/
def Device.saveCurve (d : Device) : Device :=
  if d.flag Reg.THM.CURVE_CTRL_SAVE_BUSY || !d.pageOn .nvs then d
  else
    let words := if d.thm.curve.isSome then d.thm.curveWords.map fun w => (w.1, w.2.toNat) else builtinImage.zipIdx.map fun w => (w.2, w.1.toNat)
    (d.setFlag Reg.THM.CURVE_CTRL_SAVE_BUSY true).store { page := 49, words := words, owner := .curveSave }

/-- CURVE_SAVE (R547). -/
def execCurveSave (s : State) : Res := run (fun d => if d.pageOn .thm then d.saveCurve else d) s

/-! ### Limits and restart -/

/-- A write of THM.QUENCH (R551). -/
def Device.writeQuench (d : Device) (data : W32) : Device :=
  let q := max 60 (min 125 (data.toNat % 256))
  let r := min (data.toNat / 256 % 256) (q - 10)
  ((d.setFld Reg.THM.QUENCH_QUENCH_C q).setFld Reg.THM.QUENCH_RESTART_C r).storeReg Reg.THM.QUENCH

/-- QUENCH_LIMIT_WRITE (R551). -/
def execQuenchLimitWrite (data : W32) (s : State) : Res := run (fun d => if d.pageOn .thm then (d.writeQuench data).followCool else d) s

/-- QUENCH_RESTART (R552, R604): CNT_QUENCH is stored with the writes that start-up carries out at the end of recovery. -/
def execQuenchRestart (s : State) : Res :=
  run (fun d => match d.thm.coolSince with
    | some t =>
      if d.thm.shutdown then
        let d := d.waitUntil (t + Config.secondCt)
        let d := { d with thm := { d.thm with shutdown := false, coolSince := none } }
        let d := (d.count Reg.THM.CNT_QUENCH).raise .thm 1
        let w : StoreWrite := { page := 37, words := [(Reg.THM.CNT_QUENCH, (d.word Reg.THM.CNT_QUENCH).toNat)], owner := .counter Reg.THM.CNT_QUENCH }
        Device.restart { d with nvs := { d.nvs with again := d.nvs.again ++ [w] } } 4
      else d
    | none => d) s

end Sys2Proof.Machine
end

