-- ==== Sys2Proof/Machine/Startup.lean ====
section
/-! DEFINITION. Start-up and the resets (spec/17, R556-R561). -/

namespace Sys2Proof.Machine

/-- The dose monitors are read: counts of the dies' monitors and the concentrator's, converted with the calibration of the one-time programmable
store (R568); crossing a further multiple of 500 kGy since the first reading after reset raises DOSE_STEP. -/
def Device.readDoses (d : Device) (counts : List Nat) : Device :=
  let first := !d.flag (Reg.HLT.DOSE_VALID 4)
  let cal (n : Nat) : Nat := SMap.get (fun _ => 1) d.sec.otp.doseCal n
  let present := (List.range 5).filter fun n => decide (n = 4) || d.hasDie n
  let kgy (n : Nat) : Nat := min 10000 (counts.getD n 0 * cal n)
  let d := present.foldl (fun (d : Device) n => (d.setFld (Reg.HLT.DOSE_KGY n) (kgy n)).setFlag (Reg.HLT.DOSE_VALID n) true) d
  let step := ((present.map kgy).foldl max 0) / 500
  let was := d.hlt.doseStep
  let d := { d with hlt := { d.hlt with doseStep := if first then step else max was step } }
  if !first && decide (was < step) then d.raise .hlt 4 else d

/-- A store page's words 0 to n - 1, where all of them are there. -/
def Device.storedImage (d : Device) (p n : Nat) : List W64 :=
  let ws := (List.range n).filterMap fun k => d.stored p k
  if ws.length = n then ws.map (BitVec.ofNat 64) else []

/-- Step 3 of start-up: replace causes, POWER_COUNT, the one-time programmed fields, doses; the RESET entry, and QUENCH after a shutdown (R556,
R558, R559, R569; log 68). -/
def Device.startStep3 (d : Device) (doses : List Nat) : Device :=
  let cause := d.fld Reg.HLT.RESET_CAUSE_CAUSE
  let d := if cause = 1 ∨ cause = 2 then d.loadAlwaysOn.setFld Reg.HLT.LOG_HEAD_SEQ (d.logHead 208 512) else d
  let d := if cause = 1 then (d.count Reg.HLT.POWER_COUNT).storeReg Reg.HLT.POWER_COUNT else d
  let d := (d.loadSecurity.readDoses doses).healthLog 0x01 (BitVec.ofNat 64 cause)
  if cause = 4 then d.healthLog 0x08 ((d.word Reg.THM.LAST_QUENCH).setWidth 64) else d

/-- Step 10 of start-up (R558): FE_INHIBIT cleared, TRAIN written, sequences started; the level becomes S1. -/
def Device.startStep10 (d : Device) : Device :=
  let was := d.feInhibit
  let d := (d.setFlag Reg.TIM0.CTRL_FE_INHIBIT false).noteInhibit was
  let d := if d.pageOn .his then d.train else d
  let d := (d.showStep 0).setLevel 1
  let d := { d with trg := { d.trg with armNext := true } }
  if d.pageOn .sta1 then d.startAtS1 else d

/-- The next step, or the step-down that a write of LEVEL_REQ = 0 has asked for meanwhile (R561). -/
def Device.nextStepOr (d : Device) (n : Nat) : Device :=
  if d.fld Reg.HLT.CTRL_LEVEL_REQ = 0 then d.stepDown.kick else (d.enterStep n).kick

/-- A step of start-up completes, or what it waits for has come (R558). -/
def Device.startupStep (d : Device) (doses : List Nat) : Device :=
  let ready := d.hlt.todo.isEmpty
  match d.hlt.step with
  | 2 => d.recoverStore.enterStep 3
  | 3 => (d.startStep3 doses).enterStep 4
  | 4 => ((d.commitEq (d.storedImage 48 19)).commitCurve (d.storedImage 49 10)).enterStep 5
  | 5 => if ready then d.enterStep 6 else d
  | 6 => if ready && d.domOn 1 && d.flag Reg.TIM0.STATUS_LOCK then d.nextStepOr 7 else d
  | 7 => if ready then d.nextStepOr 8 else d
  | 8 => if ready then d.nextStepOr 9 else d
  | 9 => if ready then d.nextStepOr 10 else d
  | 10 => d.startStep10
  | _ => d

/-- POWER_ON_RESET_END (R528, R558): step 1 is over. -/
def execPowerOnResetEnd (s : State) : Res :=
  run (fun d =>
    if d.pwr.por && d.railGood 0 && d.railGood 6 then
      Device.enterStep { d with pwr := { d.pwr with por := false }, mon := { d.mon with leadUntil := d.clock + 500 * Config.usCt } } 2
    else d) s

/-- STARTUP_STEP_DONE (R558): `dose` holds the counts of the dose monitors, which step 3 reads. -/
def execStartupStepDone (dose : List Nat) (s : State) : Res := run (fun d => if d.pwr.por then d else d.startupStep dose) s

/-- START_STALL (R559). -/
def execStartStall (s : State) : Res :=
  run (fun d =>
    if d.hlt.step = 6 && d.domOn 1 && !d.flag Reg.TIM0.STATUS_LOCK && !d.hlt.stallRaised then
      let d := d.waitUntil (d.hlt.stepSince + Config.secondCt)
      Device.raise { d with hlt := { d.hlt with stallRaised := true } } .hlt 6
    else d) s

/-- A write of LEVEL_REQ (R557, R561); during start-up or a step-down it takes effect when the present step ends. -/
def Device.writeLevelReq (d : Device) (data : W32) : Device :=
  if !d.pageOn .hlt then d
  else
    let d := (d.setFld Reg.HLT.CTRL_LEVEL_REQ data.toNat).storeReg Reg.HLT.CTRL
    if d.fld Reg.HLT.CTRL_LEVEL_REQ ≠ 0 then d.resumeStart.kick
    else if d.hlt.step = 0 && !d.hlt.stopping && d.fld Reg.HLT.SERVICE_LEVEL_LEVEL ≠ 0 then d.stepDown.kick
    else d

/-- LEVEL_REQUEST_WRITE (R561). -/
def execLevelRequestWrite (data : W32) (s : State) : Res := run (fun d => d.writeLevelReq data) s

/-- A write of HLT.DEVICE_RESET (R556). -/
def Device.writeDeviceReset (d : Device) (data : W32) : Device :=
  if d.pageOn .hlt && data = 0x5A5A0F0F#32 then (Device.restart { d.cutAll with thm := { d.cutAll.thm with shutdown := false } } 3).kick else d

/-- DEVICE_SOFT_RESET (R556, R605). -/
def execDeviceSoftReset (data : W32) (s : State) : Res := run (fun d => d.writeDeviceReset data) s

/-- RESET_PIN (R556). -/
def execResetPin (s : State) : Res := run (fun d => if d.pwr.por then d else d.powerOnReset 2) s

end Sys2Proof.Machine
end

