-- ==== Sys2Proof/Machine/Health.lean ====
section
/-! DEFINITION. Radiation tolerance, failed clusters and the replace request (spec/17, R566-R572), and the loss of REFCLK (R598). -/

namespace Sys2Proof.Machine

/-! ### Failed clusters (R570) -/

/-- A band cannot serve its clusters: its arbiter was disabled by the device, or its domain is off because of a fault outside S0. -/
def Device.bandFails (d : Device) (n b : Nat) : Bool :=
  (SMap.get (fun _ => ({} : BandSt)) d.arr.bands (8 * n + b)).failed
    || (d.fld Reg.HLT.SERVICE_LEVEL_LEVEL != 0 && d.pwr.faultOff.contains (16 + 11 * n + b))

/-- All the clusters of a die count: it is blind, all its channels are DOWN, or its bias or periphery is off because of a fault outside S0. -/
def Device.dieFails (d : Device) (n : Nat) : Bool :=
  let die : Die := Fin.ofNat 4 n
  Nat.testBit (d.fld Reg.THM.STATUS_BLIND) n
    || (d.domOn (25 + 11 * n) && (List.range 4).all fun c => !d.chanUp die c)
    || (d.fld Reg.HLT.SERVICE_LEVEL_LEVEL != 0 && (d.pwr.faultOff.contains (24 + 11 * n) || d.pwr.faultOff.contains (25 + 11 * n)))

/-- One cluster fails by itself: its record, its region, its sixteen masks. -/
def Device.clusterFails (d : Device) (n j : Nat) : Bool :=
  let die : Die := Fin.ofNat 4 n
  let row := j / 128
  let col := j % 128
  let on := d.domOn (16 + 11 * n + row / 8)
  let region : Region := Fin.ofNat 128 (16 * (row / 8) + col / 8)
  (d.domOn 2 && (d.corrWord (8192 * n + j) 65).getLsbD 14)
    || (on && d.isolated die region)
    || (on && (List.range 16).all fun k => (d.pixel (131072 * n + 512 * (4 * row + k / 4) + 4 * col + k % 4)).entry.getLsbD 5)

/-- The failed clusters of the package (R570). -/
def Device.failedClusters (d : Device) : Nat :=
  ((List.range d.part.dies).map fun n =>
    if d.dieFails n then 8192
    else ((List.range 8).map fun b =>
      if d.bandFails n b then 1024
      else ((List.range 1024).filter fun k => d.clusterFails n (1024 * b + k)).length).sum).sum

/-! ### The replace request (R571, R572) -/

/-- The clock since when a condition holds. -/
def holdsSince (now : Bool) (was : Option Nat) (clock : Nat) : Option Nat := if now then some (was.getD clock) else none

/-- A condition has held for 60 s. -/
def heldMinute (since : Option Nat) (clock : Nat) : Bool :=
  match since with
  | some t => decide (t + 60 * Config.secondCt ≤ clock)
  | none => false

/-- The criteria that hold now, in the bit order of R571. -/
def Device.criteria (d : Device) : Nat :=
  let lanes (f : Nat → Fld) : Bool := d.presentLanes.any fun l => d.flag (f l)
  let store := d.nvs.pages.any fun p => decide (900000000000 ≤ p.2.writes)
  let dose := (List.range 5).any fun n => decide (5000 < d.fld (Reg.HLT.DOSE_KGY n))
  (heldMinute d.hlt.clustersSince d.clock).toNat + 2 * (lanes Reg.LNK.LANE_STATUS_PERMANENT).toNat + 4 * (lanes Reg.LNK.LANE_STATUS_REPEATED).toNat
    + 8 * store.toNat + 16 * dose.toNat + 32 * (heldMinute d.hlt.coreSince d.clock).toNat

/-- REQ follows CAUSE (R572). -/
def Device.followCause (d : Device) : Device :=
  let on := d.fld Reg.HLT.REPLACE_CAUSE != 0
  (d.setFlag Reg.HLT.REPLACE_REQ on).setFlag Reg.HLT.SUMMARY_REPLACE_REQ on

/-- REPLACE_N is driven low (R572). -/
def Device.replaceLow (d : Device) : Bool := !d.pwr.por && d.flag Reg.HLT.REPLACE_REQ

/-- The criteria are evaluated; one that has started to hold latches its cause (R572). -/
def Device.evalCriteria (d : Device) : Device :=
  let many := decide (d.part.dies * 8192 < d.fld Reg.HLT.FAILED_CLUSTERS_COUNT * 50)
  let d := { d with hlt := { d.hlt with
    clustersSince := holdsSince many d.hlt.clustersSince d.clock
    coreSince := holdsSince (d.pageOn .evb && d.flag (fFault .evb)) d.hlt.coreSince d.clock } }
  let now := d.criteria
  let cause := d.fld Reg.HLT.REPLACE_CAUSE
  let d := d.setFld Reg.HLT.REPLACE_NOW now
  if now &&& cause = now then d
  else
    let d := (d.setFld Reg.HLT.REPLACE_CAUSE (cause ||| now)).followCause
    let d := ((d.storeReg Reg.HLT.REPLACE).raise .hlt 1).healthLog 0x06 (BitVec.ofNat 64 (cause ||| now))
    d.eventMessage 249 1 0

/-- FAILED_CLUSTERS_UPDATE (R570-R572). -/
def execFailedClustersUpdate (s : State) : Res :=
  run (fun d =>
    if d.pwr.por then d
    else
      let n := d.failedClusters
      let was := d.fld Reg.HLT.FAILED_CLUSTERS_COUNT
      let d := d.setFld Reg.HLT.FAILED_CLUSTERS_COUNT n
      (if n = was then d else d.raise .hlt 2).evalCriteria) s

/-- A W1C write of CAUSE: a bit whose criterion holds stays set (R572). -/
def Device.clearCause (d : Device) (bits : W32) : Device :=
  let clear := bits.toNat % 64 &&& (63 ^^^ d.fld Reg.HLT.REPLACE_NOW)
  if d.fld Reg.HLT.REPLACE_CAUSE &&& clear = 0 then d
  else ((d.setFld Reg.HLT.REPLACE_CAUSE (d.fld Reg.HLT.REPLACE_CAUSE &&& (63 ^^^ clear))).followCause).storeReg Reg.HLT.REPLACE

/-- REPLACE_CAUSE_CLEAR (R572). -/
def execReplaceCauseClear (bits : W32) (s : State) : Res := run (fun d => if d.pageOn .hlt then d.clearCause bits else d) s

/-- REPLACE_EVENT_REPEAT (R572). -/
def execReplaceEventRepeat (s : State) : Res := run (fun d => if d.flag Reg.HLT.REPLACE_REQ then d.eventMessage 249 1 0 else d) s

/-! ### Dose and upsets (R566-R568) -/

/-- DOSE_READ (R568): the counts of the monitors of dies 0 to 3 and of the concentrator. -/
def execDoseRead (doses : List Nat) (s : State) : Res := run (fun d => if d.pwr.por then d else d.readDoses doses) s

/-- UPSET_HOUR (R567, R569). -/
def execUpsetHour (s : State) : Res :=
  run (fun d =>
    if d.pwr.por then d
    else
      let n := min d.hlt.hourUpsets 0xFFFFFFFF
      let d := Device.setFld { d with hlt := { d.hlt with hourUpsets := 0 } } Reg.HLT.UPS_HOUR_COUNT n
      let dose := ((List.range 5).map fun k => d.fld (Reg.HLT.DOSE_KGY k)).foldl max 0
      let d := d.healthLog 0x07 (BitVec.ofNat 64 (dose + n * 2 ^ 32))
      if d.fld Reg.HLT.UPSET_LIMIT_COUNT < n then d.raise .hlt 3 else d) s

/-- One word that the scrub found (R566, R567). -/
def Device.scrubFound (d : Device) (f : ScrubFinding) : Device :=
  let coder := match f.place with
    | .coder _ _ | .fixedRatio => d.domOn 8
    | _ => false
  if !f.uncorrectable then
    let d := d.upset Reg.HLT.UPS_MEM_CE
    if coder then (d.count Reg.CDR.CNT_CE).raise .cdr 2 else d
  else
    let d := d.upset Reg.HLT.UPS_UE
    let d := if coder then (d.count Reg.CDR.CNT_UE).raise .cdr 3 else d
    match f.place with
    | .other | .fixedRatio => d
    | .coder c k => if coder then d.damageBlock c.val k else d
    | .corrRecord c => if d.domOn 2 then d.setCorr c.toNat 65 (d.corrWord c.toNat 65 &&& 0x7FFF#16) else d
    | .coefWord k =>
      match d.findImage.2 with
      | some m => if d.domOn 2 then { d with sea := { d.sea with coefs := (m.coefs.filter fun x => x.1 = k.toNat).foldl (fun t x => SMap.insert x.1 x.2 t) (SMap.erase d.sea.coefs k.toNat) } } else d
      | none => if d.domOn 2 then { d with sea := { d.sea with coefs := SMap.erase d.sea.coefs k.toNat } } else d

/-- SRAM_SCRUB (R566, R567). -/
def execSramScrub (findings : List ScrubFinding) (s : State) : Res :=
  run (fun d => if d.pwr.por then d else findings.foldl (fun d f => d.scrubFound f) d) s

/-- TMR_VOTE_CORRECTION (R566): in a page whose domain is on. -/
def execTmrVoteCorrection (page : Page) (s : State) : Res := run (fun d => if d.pageOn page then d.upset Reg.HLT.UPS_TMR else d) s

/-! ### REFCLK (R598) -/

/-- REFCLK_LOSS (R598): lanes, history memory, and the frequency test of TREF. -/
def execRefclkLoss (s : State) : Res :=
  run (fun d =>
    let d := { d with tim := { d.tim with refclk := false, freqLost := false } }
    let d := if d.domOn 1 then
        let d := d.setFld Reg.TIM0.TREF_FREQ_KHZ 0
        if s.dev.tim.freqLost then (d.setFlag Reg.TIM0.STATUS_TREF_PRESENT true).evalLock else d
      else d
    let d := d.presentLanes.foldl (fun (d : Device) l => d.loseLane l 5) d
    if d.hisState = 1 ∨ d.hisState = 2 then d.memoryFails else d) s

end Sys2Proof.Machine
end

