-- ==== Sys2Proof/Machine/Readout.lean ====
section
/-! DEFINITION. The commands of the region readout, the flow-control pins and the die-to-die channels (spec/04). -/

namespace Sys2Proof.Machine

/-! ### The input arbitration of a region (R120)

The tree has a leaf for each of the region's 1,024 pixels, row by row. A waiting test hit stands at the leaf of its own ROW and COL, beside the pixel
there (R146; log 110). Node 1 is the root and node n has the sides 2n and 2n + 1. -/

/-- What waits at a region's input: a pixel, by its number in the package, or the test hit. -/
inductive Waiter where
  | pixel (i : Nat) | test
  deriving DecidableEq, Repr

/-- The place of a pixel or of the test hit in the tree: its leaf, and the side of the leaf. -/
def arbPlace (row col : Nat) (test : Bool) : Nat := 2 * (32 * (row % 32) + col % 32) + test.toNat

/-- The waiters of a region with their places. -/
def Device.waiters (d : Device) (n : Die) (r : Region) : List (Nat × Waiter) :=
  ((d.waitingPixels n r).map fun i => (arbPlace (pixRow i) (pixCol i) false, .pixel i))
    ++ (match (d.region (regNo n r)).test with
      | some h => [(arbPlace h.row.toNat h.col.toNat true, .test)]
      | none => [])

/-- The descent from a node through `levels` levels: at each the side with waiters, or the side that has the priority where both have; the priority
of every node passed alternates. Answers the priorities after the grant and the waiter served. -/
def arbitrate (prio : BitVec 2048) : Nat → Nat → List (Nat × Waiter) → BitVec 2048 × Option Waiter
  | 0, _, ws => (prio, ws.head?.map (·.2))
  | levels + 1, node, ws =>
    let second := ws.filter fun w => w.1.testBit levels
    let first := ws.filter fun w => !w.1.testBit levels
    let side := if first.isEmpty then true else if second.isEmpty then false else prio.getLsbD node
    arbitrate (prio ^^^ BitVec.ofNat 2048 (2 ^ node)) levels (2 * node + side.toNat) (if side then second else first)

/-- The waiter that the arbitration of a region serves next, and the priorities after its grant. -/
def Device.served (d : Device) (n : Die) (r : Region) : BitVec 2048 × Option Waiter :=
  arbitrate (d.region (regNo n r)).arb 11 1 (d.waiters n r)

/-- The hit of a waiter. -/
def Device.waiterHit (d : Device) (n : Die) (r : Region) : Waiter → RawHit
  | .pixel i => (d.pixel i).hit
  | .test => (d.region (regNo n r)).test.getD RawHit.blank

/-- A waiter's hit is accepted from it. -/
def Device.waiterGone (d : Device) (n : Die) (r : Region) : Waiter → Device
  | .pixel i => d.acceptFrom i
  | .test => (d.updRegion (regNo n r) fun s => { s with test := none }).setFlag (Reg.REG.FIFO_STATUS_TEST_PENDING n.val r.val) false

/-- REGION_ACCEPT_HIT (R119-R121): the waiter that the arbitration serves is accepted, if the region takes it. -/
def execRegionAcceptHit (die : Die) (region : Region) (s : State) : Res :=
  run (fun d => match d.served die region with
    | (_, none) => d
    | (prio, some w) =>
      let (d, ok) := d.offer die region (d.waiterHit die region w)
      if ok then (d.waiterGone die region w).updRegion (regNo die region) fun s => { s with arb := prio } else d) s

/-- FLOW_CONTROL_PIN_UPDATE (R126, R127). -/
def execFlowControlPinUpdate (s : State) : Res := run (fun d => d.updatePins) s

/-- A write of marks, limited and stored, with the level evaluated again (R125, R215). -/
def Device.writeMarks (d : Device) (m : Watermark) (data : W32) : Device :=
  match m with
  | .region n r =>
    let (h, l) := limitMarks 16 ((Reg.REG.WM_HIGH n.val r.val).of data) ((Reg.REG.WM_LOW n.val r.val).of data)
    ((d.setFld (Reg.REG.WM_HIGH n.val r.val) h).setFld (Reg.REG.WM_LOW n.val r.val) l).regionLevel n r
  | .channels n =>
    let (h, l) := limitMarks 32 ((Reg.DIE.CH_WM_HIGH n.val).of data) ((Reg.DIE.CH_WM_LOW n.val).of data)
    let d := (d.setFld (Reg.DIE.CH_WM_HIGH n.val) h).setFld (Reg.DIE.CH_WM_LOW n.val) l
    (List.range 4).foldl (fun d c => d.chanLevel n c) d
  | .outputQueue =>
    let (h, l) := limitMarks 8192 (Reg.EVB.OQ_WM_HIGH.of data) (Reg.EVB.OQ_WM_LOW.of data)
    ((d.setFld Reg.EVB.OQ_WM_HIGH h).setFld Reg.EVB.OQ_WM_LOW l).oqLevel

/-- The page that holds a register of marks. -/
def markPage : Watermark → Page
  | .region n r => .reg n r
  | .channels n => .die n
  | .outputQueue => .evb

/-- WATERMARK_WRITE (R125). -/
def execWatermarkWrite (mark : Watermark) (data : W32) (s : State) : Res :=
  run (fun d => if d.pageOn (markPage mark) then d.writeMarks mark data else d) s

/-- The hit of TEST_HIT2-0 in a region: its own ROW and COL bits stand for the region's (R146). -/
def Device.testHit (d : Device) (n : Die) (r : Region) (top : W32) : RawHit :=
  let bits : BitVec 75 := top.extractLsb' 0 11 ++ d.word (Reg.REG.TEST_HIT1 n.val r.val) ++ d.word (Reg.REG.TEST_HIT0 n.val r.val)
  let w0 : BitVec 42 := ((bits.extractLsb' 40 35).setWidth 42)
  let h := parseHit w0 ((bits.extractLsb' 0 40).setWidth 42)
  { h with row := BitVec.ofNat 3 (r.val / 16) ++ h.row.extractLsb' 0 5, col := BitVec.ofNat 4 r.val ++ h.col.extractLsb' 0 5 }

/-- A write to REG.TEST_HIT2 (R146). -/
def Device.offerTest (d : Device) (n : Die) (r : Region) (data : W32) : Device :=
  if d.flag (fTest (.reg n r)) && (d.region (regNo n r)).test.isNone then
    (d.updRegion (regNo n r) fun s => { s with test := some (d.testHit n r data) }).setFlag (Reg.REG.FIFO_STATUS_TEST_PENDING n.val r.val) true
  else d

/-- TEST_HIT_OFFER (R146). -/
def execTestHitOffer (die : Die) (region : Region) (data : W32) (s : State) : Res :=
  run (fun d => if d.pageOn (.reg die region) then d.offerTest die region data else d) s

/-- BAND_GRANT (R128, R134). -/
def execBandGrant (die : Die) (band : Fin 8) (s : State) : Res := run (fun d => d.bandGrant die band) s

/-- CHANNEL_MERGE (R129): with `first` the merger has so far written only the first word of a new item (R138). -/
def execChannelMerge (die : Die) (chan : Fin 4) (first : Bool) (s : State) : Res := run (fun d => d.merge die chan.val first) s

/-- D2D_WORD_RECEIVE (R130, R131, R135). -/
def execD2dWordReceive (die : Die) (chan : Fin 4) (arrived : Option (BitVec 42)) (finding : ReadFinding) (s : State) : Res :=
  run (fun d => d.crossWord die chan.val arrived finding) s

/-- HANDSHAKE_WATCHDOG_RESET (R20, R141). -/
def execHandshakeWatchdogReset (place : WatchdogPlace) (s : State) : Res := run (fun d => d.watchdog place) s

/-- REGION_FLUSH (R137). -/
def execRegionFlush (die : Die) (region : Region) (s : State) : Res := run (fun d => d.flushRegion die region) s

/-- The channels a mask names. -/
def chansOf (m : BitVec 4) : List Nat := (List.range 4).filter fun c => m.getLsbD c

/-- CHANNEL_FLUSH (R138, R139). -/
def execChannelFlush (die : Die) (chans : BitVec 4) (s : State) : Res :=
  run (fun d => if d.pageOn (.die die) then (chansOf chans).foldl (fun d c => d.startFlush die c) d else d) s

/-- CHANNEL_FLUSH_DONE (R138). -/
def execChannelFlushDone (die : Die) (chan : Fin 4) (truncated : Bool) (s : State) : Res :=
  run (fun d => if d.pageOn (.die die) then d.endFlush die chan.val truncated else d) s

/-- CHANNEL_RESTART (R148). -/
def execChannelRestart (die : Die) (chans : BitVec 4) (s : State) : Res :=
  run (fun d => if d.pageOn (.die die) then (chansOf chans).foldl (fun d c => d.restartChan die c) d else d) s

/-- CHANNEL_RESTART_CHECK (R148): 1 ms after the reset, a channel that has had an item to send and has delivered none goes DOWN again; none does while
the receivers' domain is off (R131). -/
def execChannelRestartCheck (die : Die) (chan : Fin 4) (s : State) : Res :=
  run (fun d =>
    let k := chanNo die chan.val
    match (d.chan k).restart with
    | none => d
    | some t =>
      let d := (d.waitUntil (t + Config.msCt)).updChan k fun s => { s with restart := none }
      if (d.chan k).offered && !(d.chan k).delivered && d.domOn 15 then d.chanDown die chan.val else d) s

/-- A write to DIE.BAND_CTRL (R142, R148): a band whose bit is set again starts with a clean watchdog. -/
def Device.writeBandCtrl (d : Device) (n : Die) (data : W32) : Device :=
  let d := (List.range 8).foldl (fun d b => d.updBand (n.val * 8 + b) fun s =>
    if data.getLsbD b && !(d.word (Reg.DIE.BAND_CTRL n.val)).getLsbD b then { s with wd := 0, failed := false } else s) d
  d.setFld (Reg.DIE.BAND_CTRL_EN n.val) data.toNat

/-- BAND_ENABLE_WRITE (R142). -/
def execBandEnableWrite (die : Die) (data : W32) (s : State) : Res :=
  run (fun d => if d.pageOn (.die die) then d.writeBandCtrl die data else d) s

end Sys2Proof.Machine
end

