-- ==== Sys2Proof/Machine/ReadOps.lean ====
section
/-! DEFINITION. Reading a register by its address: the page header (R472, R477), the registers whose value is derived from the state at the
read, the reads that latch their partner, pop a FIFO or step an address (R458, R478), the DSP memory windows (R291), and BAR2 (R457, R461). -/

namespace Sys2Proof.Machine

/-- A word from its fields: least significant bit, width, value. -/
def pack (fs : List (Nat × Nat × Nat)) : W32 := BitVec.ofNat 32 ((fs.map fun (f : Nat × Nat × Nat) => f.2.2 % 2 ^ f.2.1 * 2 ^ f.1).sum)

/-- A flag of each of `n` units as a bit word. -/
def bitWord (n : Nat) (f : Nat → Bool) : Nat := ((List.range n).map fun k => if f k then 2 ^ k else 0).sum

/-- The bits of a register that read as they are stored: all fields but WO ones; reserved bits read 0 (R9). -/
def readMask (fields : List FieldD) : W32 :=
  fields.foldl (fun (m : W32) f => if f.acc == .wo then m else f.put m (2 ^ f.width - 1)) 0

/-- A register as stored: the fields its description names; an offset without a register reads 0. -/
def Device.plainRead (d : Device) (a : Nat) (off : Nat) (table : List RegD) : W32 :=
  match findReg off table with
  | some r => d.word a &&& readMask r.fields
  | none => 0

/-- EV_RAW (R476): REGION_EVENT of a DIE page is a level (R147); every other event is an occurrence, over when its command is. -/
def Device.evRaw (d : Device) : Page → W32
  | .die n => if d.pageOn (.die n) && d.regionEventDies.contains n then 1 else 0
  | _ => 0

/-- The sources whose raw state is 1 (R480). -/
def Device.rawSources (d : Device) : BitVec 256 :=
  ([0, 1, 2, 3] : List Die).foldl (fun acc n =>
    (pageSources (.die n)).foldl (fun acc r => if d.evRaw (.die n) &&& BitVec.ofNat 32 r.2 != 0 then acc ||| BitVec.ofNat 256 (2 ^ r.1) else acc) acc) 0

/-- The page header (R472). -/
def Device.readHeader (d : Device) (p : Page) (off : Nat) : W32 :=
  match off with
  | 0x00 => pack [(0, 8, 1), (8, 8, pageInstance p), (16, 16, pageType p)]
  | 0x04 => d.word (pageCtrl p) &&& 0xB#32
  | 0x08 => (d.word (pageStatus p) &&& 7#32) ||| pack [(3, 1, if d.fld Reg.SEA0.STATUS_STATE = 2 then 1 else 0), (4, 1, 1)]
  | 0x10 => d.evRaw p
  | 0x14 => d.sticky p
  | 0x18 => d.evEn p
  | _ => 0

/-- What the endpoint's configuration space identifies (R456). -/
structure PcieIdentity where
  vendor : BitVec 16
  device : BitVec 16
  subsystemVendor : BitVec 16
  subsystem : BitVec 16
  classCode : BitVec 24
  revision : BitVec 8
  serial : BitVec 64
  deriving DecidableEq, Repr

/-- The identity of the part as the host's enumeration reads it (R2, R456): the Device ID is the part's, the Revision ID the PCI page's, the serial
number ZVL.DEV_ID. -/
def Device.identity (d : Device) : PcieIdentity :=
  { vendor := 0x1F47, device := if d.part == .ezn8640 then 0x8640 else 0x8620, subsystemVendor := 0x1F47, subsystem := 1, classCode := 0x118000
    revision := (d.readHeader .pci 0).setWidth 8, serial := d.word Reg.ZVL.DEV_ID_HI ++ d.word Reg.ZVL.DEV_ID_LO }

/-! ### Values derived at the read -/

/-- The high half of a word kept for the next read of its partner (R458). -/
def Device.latchHi (d : Device) (a : Nat) (v : Nat) : Device × W32 := (d.setWord (a + 4) (BitVec.ofNat 32 (v / 2 ^ 32)), BitVec.ofNat 32 v)

/-- The low or the high half of a staged word (R213, R219, R230, R346, R397, R547); an access of the high half steps the address. -/
def Device.readStage (d : Device) (t : StagedTable) (high : Bool) : Device × W32 :=
  let (_, n, _, word, _) := stagePlace t
  let w : W64 := if d.fld word < n then d.staged t (d.fld word) else 0
  if high then (d.stepStage t, w.extractLsb' 32 32) else (d, w.extractLsb' 0 32)

/-- HLT (R576). -/
def Device.readHlt (d : Device) (off : Nat) (w : W32) : Device × W32 :=
  match off with
  | 0x20 => (d, pack [(0, 2, d.fld Reg.HLT.SERVICE_LEVEL_LEVEL), (8, 1, d.fld Reg.HLT.REPLACE_REQ)])
  | 0x44 => (d, Reg.HLT.SERVICE_LEVEL_MISSING.put w d.missing.toNat)
  | 0x54 => (d, Reg.HLT.FAILED_CLUSTERS_LIMIT.put w (if d.part == .ezn8640 then 656 else 328))
  | 0x5C => (d, BitVec.ofNat 32 d.uptime)
  | 0xA4 => (d.stepLogAddr Reg.HLT.LOG_ADDR, d.logWord 208 512 (d.fld Reg.HLT.LOG_ADDR_SEQ) (d.fld Reg.HLT.LOG_ADDR_WORD))
  | _ => (d, w)

/-- PCI (R488). -/
def Device.readPci (d : Device) (off : Nat) (w : W32) : Device × W32 :=
  match off with
  | 0x20 => (d, Reg.PCI.SUMMARY_ACTIVE.put w (bitWord 10 fun r => d.flag (Reg.RING.RING_STATUS_ACTIVE r)))
  | _ => (d, w)

/-- TIM page 0 (R115): a read of FRAME_LO latches FRAME_HI and CT_NOW. -/
def Device.readTim0 (d : Device) (off : Nat) (w : W32) : Device × W32 :=
  match off with
  | 0x60 => (d.setWord Reg.TIM0.CT_NOW (d.ct.setWidth 32)).latchHi Reg.TIM0.FRAME_LO d.frame.toNat
  | _ => (d, w)

/-- EVC (R487). -/
def Device.readEvc (d : Device) (off : Nat) (w : W32) : Device × W32 :=
  let vs := d.vectors d.assertedNow
  if 0x60 ≤ off ∧ off < 0x80 then (d, d.assertedNow.extractLsb' (8 * (off - 0x60)) 32)
  else if 0x40 ≤ off ∧ off < 0x60 then (d, d.rawSources.extractLsb' (8 * (off - 0x40)) 32)
  else if 0x300 ≤ off ∧ off < 0x340 then
    let k := (off - 0x300) / 4
    let n : Die := Fin.ofNat 4 (k / 4)
    (d, BitVec.ofNat 32 (bitWord 32 fun b =>
      let p : Page := .reg n (Fin.ofNat 128 (32 * (k % 4) + b))
      d.pageOn p && (d.sticky p &&& d.evEn p) != 0))
  else match off with
    | 0xA0 => (d, vs.extractLsb' 0 32)
    | 0xA4 => (d, vs.extractLsb' 32 32)
    | 0xA8 => (d, d.evc.insvc.extractLsb' 0 32)
    | 0xAC => (d, d.evc.insvc.extractLsb' 32 32)
    | 0xB4 => (d, BitVec.ofNat 32 d.evc.irqLow.toNat)
    | 0xC0 => d.popLog
    | 0xC4 => (d, Reg.EVC.LOG_STATUS_LEVEL.put w d.evc.log.length)
    | _ => (d, w)

/-- THM (R555). -/
def Device.readThm (d : Device) (off : Nat) (w : W32) : Device × W32 :=
  if 0x100 ≤ off ∧ off < 0x220 then
    let n := (off - 0x100) / 4
    let s := d.sensorSt n
    if d.hasSensor n then
      (d, pack [(0, 12, (BitVec.ofInt 12 (d.sensorUsed n)).toNat), (12, 1, s.valid.toNat), (13, 1, s.failed.toNat), (14, 1, (d.sensorOff n).toNat),
                (15, 1, (d.sensorLost n).toNat), (16, 16, s.raw.toNat)])
    else (d, 0)
  else match off with
    | 0x20 => (d, Reg.THM.SUMMARY_PAUSING.put w (!d.thm.pauses.isEmpty).toNat)
    | 0x74 => d.readStage .curve false
    | 0x78 => d.readStage .curve true
    | _ => (d, w)

/-- The monitor page (R182). -/
def Device.readMon (d : Device) (off : Nat) (w : W32) : Device × W32 :=
  match off with
  | 0x4C => (d, pack [(0, 1, d.mon.scan.isSome.toNat), (1, 1, if d.mon.leadUntil ≤ d.clock then 1 else 0), (16, 4, d.mon.scan.getD 0)])
  | _ => (d, w)

/-- The page of the store with the most physical writes, the lowest of several (R576). -/
def Device.mostWorn (d : Device) : Nat × Nat :=
  d.nvs.pages.foldl (fun (m : Nat × Nat) (p : Nat × StorePage) => if m.2 < p.2.writes then (p.1, p.2.writes) else m) (0, 0)

/-- NVS (R576). -/
def Device.readNvs (d : Device) (off : Nat) (w : W32) : Device × W32 :=
  match off with
  | 0x20 => (d, pack [(0, 5, min 31 d.nvs.queue.length), (8, 1, d.nvs.prog.isSome.toNat)])
  | 0x44 => (d, BitVec.ofNat 32 d.mostWorn.1)
  | 0x48 => d.latchHi Reg.NVS.WEAR_LO d.mostWorn.2
  | _ => (d, w)

/-- EVB (R219). -/
def Device.readEvb (d : Device) (off : Nat) (w : W32) : Device × W32 :=
  if 0xA0 ≤ off ∧ off < 0xC0 then (d, BitVec.ofNat 32 (d.ctxUsed ((off - 0xA0) / 4)))
  else match off with
    | 0x20 => (d, pack [(0, 11, d.ctxUsedAll), (16, 1, d.fld Reg.EVB.OQ_STATUS_LEVEL), (17, 1, d.stalledNow.toNat)])
    | 0x50 => (d, Reg.EVB.SORT_STATUS_OCC.put w d.evb.sort.length)
    | 0x54 => d.latchHi Reg.EVB.FRONT_LO (BitVec.ofInt 64 d.evb.front).toNat
    | 0x64 => (d, pack [(0, 14, d.oqKib), (16, 1, d.fld Reg.EVB.OQ_STATUS_LEVEL), (17, 1, (!d.evb.laneTodo.isEmpty && !d.laneTakes).toNat),
                        (18, 1, ((List.range 8).any fun r => d.ringRecords r && !d.ringOpen r).toNat)])
    | 0xC0 => (d, BitVec.ofNat 32 (1024 - d.ctxUsedAll))
    | 0xC8 => let d := d.readCtxData; (d, d.rdata)
    | 0x144 => d.readStage .format false
    | 0x148 => d.readStage .format true
    | 0x808 => (d, pack [(0, 1, d.arr.busy.toNat), (1, 1, d.arr.warn.toNat), (16, 11, d.flowSources)])
    | _ => (d, w)

/-- TRG (R253). -/
def Device.readTrg (d : Device) (off : Nat) (w : W32) : Device × W32 :=
  match off with
  | 0x20 => (d, Reg.TRG.SUMMARY_FROZEN.put (Reg.TRG.SUMMARY_CAPTURING.put w (min 255 d.capturing.length)) d.his.frozen.toNat)
  | 0x48 => d.readStage .condition false
  | 0x4C => d.readStage .condition true
  | 0x84 => d.latchHi Reg.TRG.ARM_FRAME_LO (d.trg.armAt.toNat / 2 ^ 18)
  | _ => (d, w)

/-- SEC (R525). -/
def Device.readSec (d : Device) (off : Nat) (w : W32) : Device × W32 :=
  match off with
  | 0x104 => (d.stepLogAddr Reg.SEC.AUDIT_ADDR, d.logWord 80 1024 (d.fld Reg.SEC.AUDIT_ADDR_SEQ) (d.fld Reg.SEC.AUDIT_ADDR_WORD))
  | 0x10C => (d, BitVec.ofNat 32 d.sec.audit.queue.length)
  | _ => (d, w)

/-- HIS (R284): a read of a _LO register latches its _HI partner; a time or a sequence that does not exist reads 0. -/
def Device.readHis (d : Device) (off : Nat) (w : W32) : Device × W32 :=
  match off with
  | 0x20 => (d, Reg.HIS.SUMMARY_STATE.put w d.hisState)
  | 0x50 => d.latchHi Reg.HIS.OLDEST_LO (d.oldest.getD 0)
  | 0x58 => d.latchHi Reg.HIS.CLEAN_LO (d.cleanTime.getD 0)
  | 0x60 => (d, BitVec.ofNat 32 (if d.hisState = 2 then d.ringLine else 0))
  | 0x64 => d.latchHi Reg.HIS.SEQ_LO ((d.openSegment.map (·.seq)).getD 0)
  | 0x74 => (d, BitVec.ofNat 32 d.pinned.length)
  | _ => (d, w)

/-- CDR (R383). -/
def Device.readCdr (d : Device) (off : Nat) (w : W32) : Device × W32 :=
  if 0x100 ≤ off ∧ off < 0x200 ∧ off % 16 = 4 then
    let s := d.coder ((off - 0x100) / 16)
    (d, (w &&& 0xC#32) ||| pack [(0, 1, (!s.block.isEmpty).toNat), (1, 1, s.emitting.toNat), (16, 16, s.seq.toNat)])
  else match off with
    | 0x20 => (d, pack [(0, 16, bitWord 16 fun c => !(d.coder c).block.isEmpty), (16, 16, bitWord 16 fun c => d.flag (Reg.CDR.STREAM_STATUS_STARVED c))])
    | 0x44 => d.readCoderData
    | 0x5C => d.popLoop
    | _ => (d, w)

/-- An access of HIST_DATA is over (R357). -/
def Device.stepHist (d : Device) : Device :=
  if d.flag Reg.STA0.HIST_ADDR_AUTOINC then d.setFld Reg.STA0.HIST_ADDR_BIN (d.fld Reg.STA0.HIST_ADDR_BIN + 1) else d

/-- STA page 0 (R357): a read of CELL_DATA0 samples the cell for CELL_DATA1-4; one of CELL_DATA4 steps the address. -/
def Device.readSta0 (d : Device) (off : Nat) (w : W32) : Device × W32 :=
  match off with
  | 0x64 =>
    let ws := (d.cell (d.fld Reg.STA0.CELL_ADDR_CELL)).words
    let d := ws.zipIdx.foldl (fun (d : Device) (p : W32 × Nat) => d.setWord (Reg.STA0.CELL_DATA0 + 4 * p.2) p.1) d
    (d, ws.getD 0 0)
  | 0x74 =>
    let k := d.fld Reg.STA0.CELL_ADDR_CELL
    (if d.flag Reg.STA0.CELL_ADDR_AUTOINC then d.setFld Reg.STA0.CELL_ADDR_CELL (k + 1) else d, w)
  | 0x84 =>
    let b := d.fld Reg.STA0.HIST_ADDR_BIN
    (d.stepHist, if b < 663552 then BitVec.ofNat 32 (d.bin b) else 0)
  | _ => (d, w)

/-- STA page 1 (R358). -/
def Device.readSta1 (d : Device) (off : Nat) (w : W32) : Device × W32 :=
  match off with
  | 0x54 => d.readStage .sequence false
  | 0x58 => d.readStage .sequence true
  | _ => (d, w)

/-- The code of a core's state in DSP.STATUS (R333). -/
def CoreRun.code : CoreRun → Nat
  | .halted => 0
  | .running => 1
  | .waiting => 2
  | .draining => 3
  | .fault => 4

/-- DSP (R333): REG_DATA reads 0 while the core runs. -/
def Device.readDsp (d : Device) (c off : Nat) (w : W32) : Device × W32 :=
  let k := d.core c
  match off with
  | 0x20 => (d, BitVec.ofNat 32 k.run.code)
  | 0x40 => (d, Fld.put (Reg.DSP.CTRL_CLAIMED c) w k.claimed.toNat)
  | 0x44 => (d, pack [(0, 3, k.run.code), (8, 4, k.cause.toNat)])
  | 0x48 => (d, k.pc.setWidth 32)
  | 0x54 =>
    (d, if k.run == .halted || k.run == .fault then
        (match regOfCode (d.fld (Reg.DSP.REG_ADDR_CODE c)) with
        | some .sr => (k.srOf k.rf).setWidth 32
        | some r => (k.rf.read r).setWidth 32
        | none => 0)
      else 0)
  | 0x58 => (d, (k.srOf k.rf).setWidth 32)
  | 0x5C => (d, (k.rf.get 0x30).setWidth 32)
  | 0x80 => d.popRes c
  | 0x84 => (d, BitVec.ofNat 32 k.res.length)
  | 0x8C => (d, BitVec.ofNat 32 k.mbx.length)
  | 0x104 => (d, BitVec.ofNat 32 (min 0xFFFFFFFF (w.toNat + if k.run == .waiting then (d.clock - k.waitSince) / 2 else 0)))
  | _ => (d, w)

/-- LNK (R423): the registers of a lane without power read 0. -/
def Device.readLnk (d : Device) (off : Nat) (w : W32) : Device × W32 :=
  if 0x200 ≤ off ∧ off < 0x480 then
    let l := (off - 0x200) / 64
    if !d.lanePowered l then (d, 0)
    else if off % 64 = 4 then
      let left := if d.laneState l = 4 then ((d.lane l).retryAt - d.clock + Config.msCt - 1) / Config.msCt else 0
      (d, Fld.put (Reg.LNK.LANE_STATUS_NEXT_MS l) w (min 1023 left))
    else (d, w)
  else match off with
    | 0x50 => (d, BitVec.ofNat 32 ((d.unackedBytes + 1023) / 1024))
    | 0x64 => d.readStage .equalisation false
    | 0x68 => d.readStage .equalisation true
    | _ => (d, w)

/-- ZVL (R454). -/
def Device.readZvl (d : Device) (off : Nat) (w : W32) : Device × W32 :=
  match off with
  | 0x20 => (d, Reg.ZVL.SUMMARY_CMD_QUEUED.put w d.zvl.cmds.length)
  | 0x50 => (d, d.sec.otp.devId.extractLsb' 0 32)
  | 0x54 => (d, d.sec.otp.devId.extractLsb' 32 32)
  | _ => (d, w)

/-- DIE periphery (R151). -/
def Device.readDie (d : Device) (n : Die) (off : Nat) (w : W32) : Device × W32 :=
  let regionBits (k : Nat) (f : Nat → Bool) : W32 :=
    BitVec.ofNat 32 (bitWord 32 fun b => d.pageOn (.reg n (Fin.ofNat 128 (32 * k + b))) && f (32 * k + b))
  if 0x50 ≤ off ∧ off < 0x60 then (d, regionBits ((off - 0x50) / 4) fun r => d.flag (Reg.REG.FIFO_STATUS_LEVEL n.val r))
  else if 0xC0 ≤ off ∧ off < 0xD0 then (d, regionBits ((off - 0xC0) / 4) fun r => d.flag (Reg.REG.FIFO_STATUS_ISOLATED n.val r))
  else (d, w)

/-- PIX (R79-R81). -/
def Device.readPix (d : Device) (n : Die) (off : Nat) (w : W32) : Device × W32 :=
  match off with
  | 0x84 => let d := d.readTblData n; (d, d.rdata)
  | 0x88 => let d := d.readStatData n; (d, d.rdata)
  | _ => (d, w)

/-- STATE of a waveform ADC (R172): idle, regular, injected, calibration, waiting after a once-sequence. -/
def Device.wadcState (d : Device) (a : Nat) : Nat :=
  let s := d.wadc a
  if !s.running then 0
  else match s.job with
    | .calibrating => 3
    | .injected => 2
    | .regular => if s.ended then 4 else 1

/-- The converters of a die (R172). -/
def Device.readConv (d : Device) (n : Die) (off : Nat) (w : W32) : Device × W32 :=
  if 0x100 ≤ off ∧ off < 0x200 ∧ off % 32 = 4 then
    let a := 8 * n.val + (off - 0x100) / 32
    let s := d.wadc a
    (d, pack [(0, 3, d.wadcState a), (4, 4, s.entry), (8, 1, match s.inj with | some i => (!i.started).toNat | none => 0),
              (9, 1, match s.cal with | some c => (!c.started).toNat | none => 0), (16, 8, min 255 s.invalidLeft)])
  else (d, w)

/-- A region (R151, R224). -/
def Device.readReg (d : Device) (n : Die) (r : Region) (off : Nat) (w : W32) : Device × W32 :=
  match off with
  | 0x20 => (d, pack [(0, 2, n.val), (8, 7, r.val), (16, 3, r.val / 16)])
  | 0x48 =>
    let w := Fld.put (Reg.REG.FIFO_STATUS_OCC n.val r.val) w (d.region (regNo n r)).fifo.length
    (d, Fld.put (Reg.REG.FIFO_STATUS_WAITING n.val r.val) w (!(d.waitingPixels n r).isEmpty).toNat)
  | 0x104 => (d, BitVec.ofNat 32 (d.stretched (128 * n.val + r.val)).toNat)
  | _ => (d, w)

/-- SEA page 0 (R522). -/
def Device.readSea0 (d : Device) (off : Nat) (w : W32) : Device × W32 :=
  match off with
  | 0x54 => (d.setWord Reg.SEA0.ACT_FRAME_HI d.sea.actHi, w)
  | 0x84 => d.latchHi Reg.SEA0.SLOG_DATA_LO (d.slogWord (d.fld Reg.SEA0.SLOG_ADDR_ENTRY) (d.fld Reg.SEA0.SLOG_ADDR_WORD)).toNat
  | _ => (d, w)

/-- The correction records (R118). -/
def Device.readTim1 (d : Device) (off : Nat) (w : W32) : Device × W32 :=
  match off with
  | 0x44 =>
    let c := d.fld Reg.TIM1.CORR_ADDR_CLUSTER
    let k := d.fld Reg.TIM1.CORR_ADDR_WORD
    (d.stepCorr, if c < 8192 * d.part.dies ∧ k < 66 then (d.corrWord c k).setWidth 32 else 0)
  | 0x48 => (d, BitVec.ofNat 32 (d.sea.corr.filter fun e => e.1 % 66 = 65 && e.2.getLsbD 15).length)
  | _ => (d, w)

/-- The coefficient window (R183). -/
def Device.readCoef (d : Device) (off : Nat) (w : W32) : Device × W32 :=
  match off with
  | 0x44 =>
    let i := d.fld Reg.COEF.COEF_ADDR_INDEX
    (d.stepCoef, if coefUsed i then (d.coef i).setWidth 32 else 0)
  | _ => (d, w)

/-- A block register of a page that has power. -/
def Device.readBlock (d : Device) (p : Page) (off : Nat) (w : W32) : Device × W32 :=
  match p with
  | .hlt => d.readHlt off w
  | .pci => d.readPci off w
  | .tim0 => d.readTim0 off w
  | .evc => d.readEvc off w
  | .thm => d.readThm off w
  | .pwrDom => (d, w)
  | .pwrMon => d.readMon off w
  | .nvs => d.readNvs off w
  | .evb => d.readEvb off w
  | .trg => d.readTrg off w
  | .sec => d.readSec off w
  | .his => d.readHis off w
  | .cdr => d.readCdr off w
  | .sta0 => d.readSta0 off w
  | .sta1 => d.readSta1 off w
  | .dsp c => d.readDsp c.val off w
  | .lnk => d.readLnk off w
  | .zvl => d.readZvl off w
  | .die n => d.readDie n off w
  | .pix n => d.readPix n off w
  | .conv n => d.readConv n off w
  | .reg n r => d.readReg n r off w
  | .sea0 => d.readSea0 off w
  | .sea1 => (d, w)
  | .tim1 => d.readTim1 off w
  | .coef => d.readCoef off w

/-! ### Windows and BAR2 -/

/-- A host access of a core's memories while the core executes (R292): whether it has to take a bank after 16 cycles depends on the cycles of the program,
which are not modelled, and is a free value (log 123). -/
def Device.hostBank (d : Device) (c : Nat) : Device :=
  if !d.executes c then d
  else if Config.hostWaits d.draw.free then (d.draw.count (Reg.DSP.CNT_HOST_STALL c)).countRun c 1 else d.draw

/-- A host read of a core's memories (R291-R293): an uncorrectable word reads 0 and raises MEM_UE. -/
def Device.readWindow (d : Device) (c off : Nat) : Device × W32 :=
  let d := if d.domOn 6 && decide (off < 0x30000) then d.hostBank c else d
  let k := d.core c
  if !d.domOn 6 then (d, 0)
  else if k.bad.contains (BitVec.ofNat 20 off) then (d.raise (corePage c) 12, 0)
  else if off < 0x10000 then (d, k.pmemWord (off / 4))
  else if off < 0x20000 then (d, (k.dmemWord ((off - 0x10000) / 4)).setWidth 32)
  else if off < 0x30000 then (d, k.smemWord ((off - 0x20000) / 4))
  else (d, 0)

/-- Readout data wait for a ring (R461). -/
def Device.ringWaits (d : Device) (r : Nat) : Bool :=
  d.ringRecords r || (d.readbackTo r && !d.his.sending.isEmpty)

/-- A read of BAR2 (R457, R461), by its offset; reserved offsets read 0. -/
def Device.readBar2 (d : Device) (off : Nat) : Device × W32 :=
  if !d.domOn 11 then (d, 0)
  else if off < 0xA000 then
    let r := off / 0x1000
    let o := off % 0x1000
    let w := d.plainRead (0x2000000 + off) o Reg.RING.table
    if o = 0x2C then (d, Fld.put (Reg.RING.RING_STATUS_STARVED r) w (decide (r < 8) && (d.ring r).descs.isEmpty && d.ringWaits r).toNat) else (d, w)
  else if 0xF0000 ≤ off ∧ off < 0xF0400 then
    let e := d.msixEntry ((off - 0xF0000) / 16)
    (d, match off % 16 with
      | 0 => e.addr.extractLsb' 0 32
      | 4 => e.addr.extractLsb' 32 32
      | 8 => e.data
      | _ => BitVec.ofNat 32 e.mask.toNat)
  else if off = 0xF8000 then (d, d.pci.pba.extractLsb' 0 32)
  else if off = 0xF8004 then (d, d.pci.pba.extractLsb' 32 32)
  else (d, 0)

/-- A read of a register by any route (R11, R457, R472-R479): its value and what the read does. Addresses without a register, of an absent die
or without power read 0. -/
def Device.regRead (d : Device) (a : Nat) : Device × W32 :=
  if a % 4 ≠ 0 then (d, 0)
  else if 0x2000000 ≤ a then d.readBar2 (a - 0x2000000)
  else if 0x1C00000 ≤ a then d.readWindow ((a - 0x1C00000) / 0x100000) ((a - 0x1C00000) % 0x100000)
  else match pageAt a with
    | none => (d, 0)
    | some p =>
      let off := a - pageBase p
      if !d.pageOn p then (d, 0)
      else if off < 0x20 then (d, d.readHeader p off)
      else d.readBlock p off (d.plainRead a off (pageTable p))

/-- A register access by a route that is there: the PCI Express route needs its domain (R488). -/
def Device.routeOpen (d : Device) : Route → Bool
  | .pcie => d.domOn 11
  | _ => !d.pwr.por

/-- The fabric reaches an address for the DSP route: the map of BAR0 below the DSP memory window (R30, R327). -/
def dspReaches (a : Nat) : Bool := decide (a < 0x1C00000)

/-- What a route sees of the register space (R30, R457): BAR2 is PCI Express's own. -/
def routeReaches (a : Nat) : Route → Bool
  | .pcie => true
  | .slow => decide (a < 0x2000000)
  | .dsp _ => dspReaches a

/-- The value of the last register read as the PCI Express route returns it: four bytes, bits [7:0] at the lowest address (R12). -/
def Device.rdataBytes (d : Device) : List Nat := (bytesLE (d.rdata.setWidth 64)).take 4

/-- LATCHED_PAIR_READ (R458): the read of a register, with what it latches, pops or steps. -/
def execLatchedPairRead (route : Route) (addr : RegAddr) (s : State) : Res :=
  run (fun d =>
    if !d.routeOpen route then d
    else if routeReaches addr.toNat route then
      let (d, w) := d.regRead addr.toNat
      { d with rdata := w }
    else { d with rdata := 0 }) s

end Sys2Proof.Machine
end

