-- ==== Sys2Proof/Machine/WriteOps.lean ====
section
/-! DEFINITION. Writing a register by its address and route: the page header (R472-R476), the registers whose write does more than store, the
rest field by field under their access codes (R9, R493, R494), the DSP memory windows (R291, R292), and BAR2 (R457, R461). -/

namespace Sys2Proof.Machine

/-- A register written field by field, but for W1S fields, whose written 1 acts through the register's own rule; an offset without a register
ignores writes. -/
def Device.plainWrite (d : Device) (route a off : Nat) (table : List RegD) (data : W32) : Device :=
  match findReg off table with
  | some r => d.writeReg route a (r.fields.filter fun f => f.acc != .w1s) data
  | none => d

/-- The header of a page (R472-R476). -/
def Device.writeHeader (d : Device) (p : Page) (off : Nat) (data : W32) : Device :=
  match off with
  | 0x04 => (d.writePageCtrl p data).kick
  | 0x14 => d.setSticky p (d.sticky p &&& ~~~data)
  | 0x18 => d.setEvEn p data
  | 0x1C => d.evSet p data
  | _ => d

/-- A COMMIT or SAVE bit acts when it is written as 1. -/
def Device.onBit (d : Device) (data : W32) (b : Nat) (f : Device → Device) : Device := if data.getLsbD b then f d else d

/-- HLT (R556, R557, R562, R572, R576). -/
def Device.writeHlt (d : Device) (off : Nat) (data : W32) (plain : Device) : Device :=
  match off with
  | 0x40 => d.writeLevelReq data
  | 0x4C => d.writeDeviceReset data
  | 0x50 => d.clearCause data
  | 0x78 => d.onBit data 0 fun d => d.saveMask
  | _ => plain

/-- EVC (R482, R487). -/
def Device.writeEvc (d : Device) (off : Nat) (data : W32) (plain : Device) : Device :=
  if 0x80 ≤ off ∧ off < 0xA0 then (bitsOf data).foldl (fun d b => d.testSource (8 * (off - 0x80) + b)) d
  else match off with
    | 0xB0 => { d with evc := { d.evc with insvc := d.evc.insvc &&& ~~~BitVec.ofNat 64 (2 ^ (data.toNat % 64)) } }
    | _ => plain

/-- THM (R542, R547, R551, R555). -/
def Device.writeThm (d : Device) (off : Nat) (data : W32) (plain : Device) : Device :=
  if 0x300 ≤ off ∧ off < 0x420 then plain.storeReg (Reg.THM.base + off)
  else match off with
    | 0x40 => (d.writeQuench data).followCool
    | 0x50 | 0x54 | 0x58 => d.writeSensClear ((off - 0x50) / 4) data
    | 0x60 | 0x64 | 0x68 => d.writeSensDisable ((off - 0x60) / 4) data
    | 0x74 => d.writeStage .curve false data
    | 0x78 => d.writeStage .curve true data
    | 0x7C => (d.onBit data 0 fun d => d.commitCurve (d.stagedImage .curve)).onBit data 1 fun d => d.saveCurve
    | _ => plain

/-- EVB (R214, R215, R219). -/
def Device.writeEvb (d : Device) (off : Nat) (data : W32) (plain : Device) : Device :=
  match off with
  | 0x60 => d.writeMarks .outputQueue data
  | 0x144 => d.writeStage .format false data
  | 0x148 => d.writeStage .format true data
  | 0x14C => d.onBit data 0 fun d => d.commitFmt
  | _ => plain

/-- TRG (R226, R231, R246, R253). -/
def Device.writeTrg (d : Device) (off : Nat) (data : W32) (plain : Device) : Device :=
  if 0x300 ≤ off ∧ off < 0x380 ∧ off % 16 = 0 then
    let t := (off - 0x300) / 16
    if plain.word (Reg.TRG.MT_CTRL t) = d.word (Reg.TRG.MT_CTRL t) then plain else plain.startMask t
  else match off with
  | 0x48 => d.writeStage .condition false data
  | 0x4C => d.writeStage .condition true data
  | 0x50 => d.onBit data 0 fun d => d.commitCond
  | 0x54 => d.softTrigger data
  | 0x94 => d.onBit data 0 fun d => d.releaseMask
  | _ => plain

/-- SEC (R505, R508, R525). A GO of AW_CTRL while a command runs is ignored. -/
def Device.writeSec (d : Device) (route : Route) (off : Nat) (data : W32) (plain : Device) : Device :=
  if (0x60 ≤ off ∧ off < 0x80) ∨ (0xA0 ≤ off ∧ off < 0xC0) then d.setWord (Reg.SEC.base + off) data
  else match off with
    | 0x50 => plain.onBit data 31 fun d => d.requestKey
    | 0xC0 => d.onBit data 0 fun d => if d.flag Reg.SEC.AW_CTRL_BUSY then d else d.authSubmit (.register route) d.awBlock
    | _ => plain

/-- HIS (R259, R275, R278, R284), once the register's fields are written. -/
def Device.writeHis (d : Device) (off : Nat) (data : W32) : Device :=
  match off with
  | 0x40 => d.storeReg Reg.HIS.GEOM
  | 0x44 => d.onBit data 0 fun d => d.train
  | 0x90 => d.onBit data 31 fun d => if d.enabled .his then d.requestReadback else d
  | 0xA0 =>
    let n := data.extractLsb' 0 24
    (d.onBit data 30 fun d => d.readCapture n).onBit data 31 fun d => d.releaseCapture n
  | _ => d

/-- CDR (R360, R364, R372-R374, R383). -/
def Device.writeCdr (d : Device) (off : Nat) (data : W32) (plain : Device) : Device :=
  if 0x100 ≤ off ∧ off < 0x200 ∧ off % 16 = 0 then d.writeStreamCtrl ((off - 0x100) / 16) data
  else match off with
    | 0x44 => d.writeCoderData data
    | 0x48 => ((List.range 16).filter fun c => data.getLsbD c).foldl (fun d c => d.resetCoder c) d
    | 0x50 => d.writeLoopCtrl data
    | 0x54 => d.setWord Reg.CDR.LB_IN_LO data
    | 0x58 => d.pushLoop data
    | _ => plain

/-- STA page 0 (R335-R338, R357): a write that clears and starts comes before its stop. -/
def Device.writeSta0 (d : Device) (off : Nat) (data : W32) (plain : Device) : Device :=
  match off with
  | 0x58 => (d.onBit data 0 fun d => d.startRun).onBit data 1 fun d => if d.staRuns then d.completeRun else d
  | 0x7C => d.pushValue data
  | 0x84 =>
    let b := d.fld Reg.STA0.HIST_ADDR_BIN
    (if b < 663552 then d.setBin b (data.toNat % 65536) else d).stepHist
  | _ => plain

/-- STA page 1 (R346, R348, R358). -/
def Device.writeSta1 (d : Device) (off : Nat) (data : W32) (plain : Device) : Device :=
  match off with
  | 0x40 => d.writeSvcCtrl data
  | 0x54 => d.writeStage .sequence false data
  | 0x58 => d.writeStage .sequence true data
  | 0x5C => d.onBit data 0 fun d => d.commitSeq
  | _ => plain

/-- DSP.CTRL (R331): refused while the core is claimed; else BRK_EN, RESET_PC, STEP and RUN in this order. -/
def Device.writeCoreCtrl (d : Device) (c : Nat) (data : W32) : Device :=
  if (d.core c).claimed then d.refuseHost c
  else
    let d := d.setFlag (Reg.DSP.CTRL_BRK_EN c) (data.getLsbD 3)
    let d := (d.onBit data 2 fun d => d.resetPc c).onBit data 1 fun d => d.stepCore c
    if data.getLsbD 0 then d.runCore c else d.stopCore c

/-- DSP (R326, R331, R333). -/
def Device.writeDsp (d : Device) (c off : Nat) (data : W32) (plain : Device) : Device :=
  match off with
  | 0x40 => d.writeCoreCtrl c data
  | 0x48 => d.writeCoreReg c true data
  | 0x54 => d.writeCoreReg c false data
  | 0x88 => d.pushMbx c (data.setWidth 24)
  | _ => plain

/-- LNK (R397, R398, R400, R423, R424). -/
def Device.writeLnk (d : Device) (off : Nat) (data : W32) (plain : Device) : Device :=
  if 0x200 ≤ off ∧ off < 0x480 then
    let l := (off - 0x200) / 64
    if off % 64 = 0 then d.writeLaneCtrl l data else if d.lanePowered l then plain else d
  else match off with
    | 0x64 => d.writeStage .equalisation false data
    | 0x68 => d.writeStage .equalisation true data
    | 0x6C => (d.onBit data 0 fun d => d.commitEq (d.stagedImage .equalisation)).onBit data 1 fun d => d.saveEq
    | _ => plain

/-- DIE periphery (R125, R137, R142, R148, R151). -/
def Device.writeDie (d : Device) (n : Die) (off : Nat) (data : W32) (plain : Device) : Device :=
  match off with
  | 0x40 => d.writeBandCtrl n data
  -- DESIGN CHOICE (log 111): FLUSH goes before RESTART, so that the whole queue of a DOWN channel is discarded.
  | 0x48 =>
    let d := (chansOf (data.extractLsb' 0 4)).foldl (fun d c => d.startFlush n c) d
    (chansOf (data.extractLsb' 4 4)).foldl (fun d c => d.restartChan n c) d
  | 0x4C => d.writeMarks (.channels n) data
  | _ => plain

/-- PIX (R46, R49, R53, R59, R61, R63, R65, R79-R81): a claimed die takes no write but of the gain map (R339). -/
def Device.writePix (d : Device) (route : Nat) (n : Die) (off : Nat) (data : W32) (plain : Device → Device) : Device :=
  if 0x50 ≤ off ∧ off < 0x60 then d.writeGainLg n (Fin.ofNat 4 ((off - 0x50) / 4)) data
  else d.pixWrite n fun d => match off with
    | 0x40 => d.writeFeCtrl route n data
    | 0x80 => if d.flag (Reg.PIX.TBL_FILL_BUSY n.val) then d.raise (.pix n) 6 else plain d
    | 0x84 => d.writeTblData route n data
    | 0x8C => d.writeTblFill route n data
    | 0xA4 =>
      ((plain d).onBit data 0 fun d => d.startInj n).onBit data 1 fun d => if d.flag (Reg.PIX.INJ_CTRL_BUSY n.val) then d.endInj n else d
    | 0xC0 => (plain d).onBit data 31 fun d => d.clearStatuses n
    | _ => plain d

/-- The converters of a die (R159, R161, R168, R172). -/
def Device.writeConv (d : Device) (n : Die) (off : Nat) (data : W32) (plain : Device) : Device :=
  if 0x100 ≤ off ∧ off < 0x200 then
    let k : Fin 8 := Fin.ofNat 8 ((off - 0x100) / 32)
    match off % 32 with
    | 0x00 => plain.onBit data 16 fun d => d.seqStart (adcNo n k)
    | 0x08 => d.writeInj n k data
    | 0x0C =>
      let cmd := data.toNat % 8
      if 1 ≤ cmd ∧ cmd ≤ 3 then d.calCommand n k data cmd else plain
    | _ => plain
  else if off = 0x40 then plain.forgetLost
  else plain

/-- A region (R125, R146, R151, R224). -/
def Device.writeRegion (d : Device) (n : Die) (r : Region) (off : Nat) (data : W32) (plain : Device) : Device :=
  match off with
  | 0x44 => d.writeMarks (.region n r) data
  | 0x4C => d.setWord (Reg.REG.TEST_HIT0 n.val r.val) data
  | 0x50 => d.setWord (Reg.REG.TEST_HIT1 n.val r.val) data
  | 0x54 => d.offerTest n r data
  | _ => plain

/-- SEA page 0 (R495, R502, R522). -/
def Device.writeSea0 (d : Device) (route off : Nat) (data : W32) (plain : Device) : Device :=
  match off with
  | 0x40 => (match data.toNat % 16 with
    | 1 => d.requestSeal route
    | 2 => d.requestSave
    | _ => d)
  | _ => plain

/-- A block register of a page that has power; `k` is the audit code of the access. -/
def Device.writeBlock (d : Device) (route : Route) (k : Nat) (p : Page) (a off : Nat) (data : W32) : Device :=
  let plainOn (d : Device) : Device := d.plainWrite k a off (pageTable p) data
  let plain := plainOn d
  match p with
  | .hlt => d.writeHlt off data plain
  | .pci | .pwrDom => if p == .pwrDom && (off = 0x40 || off = 0x44) then d.writeDomReq (off = 0x44) data else plain
  | .tim0 => if off = 0x40 then d.writeTimCtrl k data else plain
  | .evc => d.writeEvc off data plain
  | .thm => d.writeThm off data plain
  | .pwrMon => if off = 0x40 then d.writeMonCtrl data else if off = 0x200 then d.monCalWrite data else plain
  | .nvs => plain
  | .evb => d.writeEvb off data plain
  | .trg => d.writeTrg off data plain
  | .sec => d.writeSec route off data plain
  | .his => plain.writeHis off data
  | .cdr => d.writeCdr off data plain
  | .sta0 => d.staWrite fun d => d.writeSta0 off data (plainOn d)
  | .sta1 => d.writeSta1 off data plain
  | .dsp c => d.writeDsp c.val off data plain
  | .lnk => d.writeLnk off data plain
  | .zvl => plain
  | .die n => d.writeDie n off data plain
  | .pix n => d.writePix k n off data plainOn
  | .conv n => d.writeConv n off data plain
  | .reg n r => d.writeRegion n r off data plain
  | .sea0 => d.writeSea0 k off data plain
  | .sea1 => plain
  | .tim1 => if off = 0x44 then d.writeCorr k data else plain
  | .coef => if off = 0x44 then d.writeCoef k data else plain

/-! ### Windows and BAR2 -/

/-- A host write to a core's memories (R291, R292); SMEM ignores writes. -/
def Device.writeWindow (d : Device) (c off : Nat) (data : W32) : Device :=
  if !d.domOn 6 then d
  else if off < 0x10000 then d.writePmem c (off / 4) data
  else if off < 0x20000 then (d.hostBank c).updCore c fun k => k.setDmem ((off - 0x10000) / 4) (data.setWidth 24)
  else d

/-- A write of a ring's register (R461, R462, R470, R471): EN and WB_EN first, then ABORT, then RESET. -/
def Device.writeRing (d : Device) (r o : Nat) (data : W32) (plain : Device) : Device :=
  match o with
  | 0x00 | 0x04 | 0x08 | 0x10 | 0x14 =>
    if d.ringEn r || d.flag (Reg.RING.RING_STATUS_ACTIVE r) then d.setFlag (Reg.RING.RING_STATUS_TAIL_ERR r) true else plain
  | 0x0C => (plain.onBit data 1 fun d => d.abortRing r).onBit data 2 fun d => d.resetRing r
  | 0x20 => d.writeTail r data
  | _ => plain

/-- A word of an MSI-X table entry is written (R457). -/
def MsixEntry.write (e : MsixEntry) (o : Nat) (data : W32) : MsixEntry :=
  match o with
  | 0 => { e with addr := e.addr.extractLsb' 32 32 ++ data }
  | 4 => { e with addr := data ++ e.addr.extractLsb' 0 32 }
  | 8 => { e with data := data }
  | _ => { e with mask := data.getLsbD 0 }

/-- A write of BAR2 (R457, R461), by its offset. -/
def Device.writeBar2 (d : Device) (route off : Nat) (data : W32) : Device :=
  if !d.domOn 11 then d
  else if off < 0xA000 then
    d.writeRing (off / 0x1000) (off % 0x1000) data (d.plainWrite route (0x2000000 + off) (off % 0x1000) Reg.RING.table data)
  else if 0xF0000 ≤ off ∧ off < 0xF0400 then
    let v := (off - 0xF0000) / 16
    d.setMsix v ((d.msixEntry v).write (off % 16) data)
  else d

/-- A write of a register by a route with audit code `k`, with the key slot of an authenticated mark or without one (R9, R477, R479, R493,
R494). `wrRefused` says afterwards whether it was a refused write. -/
def Device.regWriteAs (d : Device) (route : Route) (k : Nat) (mark : Option Nat) (a : Nat) (data : W32) : Device :=
  let d := { d with wrRefused := false }
  if a % 4 ≠ 0 then d
  else if isRwa a then d.writeRwa k mark a data
  else if 0x2000000 ≤ a then d.writeBar2 k (a - 0x2000000) data
  else if 0x1C00000 ≤ a then d.writeWindow ((a - 0x1C00000) / 0x100000) ((a - 0x1C00000) % 0x100000) data
  else match pageAt a with
    | none => d
    | some p =>
      let off := a - pageBase p
      if !d.pageOn p then d
      else if off < 0x20 then d.writeHeader p off data
      else d.writeBlock route k p a off data

/-- A write of a register by one of the three routes. -/
def Device.regWrite (d : Device) (route : Route) (mark : Option Nat) (a : Nat) (data : W32) : Device :=
  d.regWriteAs route (routeCode route) mark a data

/-- REGISTER_WRITE (R9). -/
def execRegisterWrite (route : Route) (addr : RegAddr) (data : W32) (s : State) : Res :=
  run (fun d => if d.routeOpen route && routeReaches addr.toNat route then d.regWrite route none addr.toNat data else d) s

/-- RWA_WRITE (R494): a write with the authenticated mark of a key slot, or without one. -/
def execRwaWrite (route : Route) (mark : Option (Fin 4)) (addr : RegAddr) (data : W32) (s : State) : Res :=
  run (fun d => if d.routeOpen route && routeReaches addr.toNat route then d.regWrite route (mark.map fun (k : Fin 4) => k.val) addr.toNat data else d) s

/-- BAR_PARTIAL_WRITE (R458): a single-dword write through PCI Express; one without all byte enables is ignored and counted. -/
def execBarPartialWrite (addr : RegAddr) (data : W32) (enables : BitVec 4) (s : State) : Res :=
  run (fun d =>
    if !d.domOn 11 then d
    else if enables = 0xF#4 then d.regWrite .pcie none addr.toNat data
    else d.count Reg.PCI.CNT_BE_IGNORED) s

/-- MASK_SAVE (R562): HLT.MASK_SAVE.GO. -/
def execMaskSave (s : State) : Res := run (fun d => if d.pageOn .hlt then d.saveMask else d) s

end Sys2Proof.Machine
end

