-- ==== Sys2Proof/Machine/Access.lean ====
section
/-! DEFINITION. The commands that reach the registers on behalf of others: a core's fabric access (R327, R328), the service steps WRITE, POLL and
DSP (R340, R349), commands and bulk writes of the link (R437-R448), and host-to-device descriptors (R468, R469). -/

namespace Sys2Proof.Machine

/-! ### The order of the routes -/

/-- The place of a route among accesses that arrive in one control-clock cycle (R31). -/
def Route.rank : Route → Nat
  | .pcie => 0
  | .slow => 1
  | .dsp _ => 2

/-- The route of a command that is one access of the register fabric. -/
def accessRoute : Instr → Option Route
  | .registerWrite r _ _ | .rwaWrite r _ _ _ | .latchedPairRead r _ | .corrDataWrite r _ | .feCtrlWrite r _ _ | .tblDataWrite r _ _
  | .tblFillGo r _ _ | .coefDataWrite r _ | .sealCommand r | .unseal r _ _ | .keyRevoke r _ _ | .authWriteSubmit r | .debugUnlock r _ _ => some r
  | _ => none

/-- Commands that arrive in one control-clock cycle in the order in which they are carried out (R31): PCIe, then slow control, then DSP, and each route's own
in its order; none is lost. -/
def arrivalOrder (cs : List Instr) : List Instr :=
  (([0, 1, 2] : List Nat).flatMap fun k => cs.filter fun c => (accessRoute c).map Route.rank == some k) ++ cs.filter fun c => (accessRoute c).isNone

/-- Commands of one control-clock cycle join the queue. -/
def State.arrive (s : State) (cs : List Instr) : State := { s with pending := s.pending ++ arrivalOrder cs }

/-! ### The DSP route -/

/-- What a core's fabric access leaves: FAB_STATUS, and on a refusal or an error the event and vector 7 (R328). -/
def Device.fabResult (d : Device) (c : Nat) (error refused : Bool) : Device :=
  let d := (d.setFlag (Reg.DSPIO.FAB_STATUS_ERROR c) error).setFlag (Reg.DSPIO.FAB_STATUS_REFUSED c) refused
  if error || refused then (d.raise (corePage c) 9).setFlag (Reg.DSPIO.IPEND_FABRIC c) true else d

/-- The word that a core's fabric read returned. -/
def Device.fabData (d : Device) (c : Nat) (w : W32) : Device :=
  (d.setWord (Reg.DSPIO.FAB_RDATA_LO c) ((w.extractLsb' 0 16).setWidth 32)).setWord (Reg.DSPIO.FAB_RDATA_HI c) ((w.extractLsb' 16 16).setWidth 32)

/-- A core's fabric access completes, or fails after 10 µs (R327, R328); a halt that the host asked for meanwhile follows (R331). -/
def Device.fabDone (d : Device) (core : Core) (timedOut write : Bool) : Device :=
  let c := core.val
  let a := d.fld (Reg.DSPIO.FAB_ADDR_LO_ADDR c) + 65536 * d.fld (Reg.DSPIO.FAB_ADDR_HI_ADDR c)
  let data := BitVec.ofNat 32 (d.fld (Reg.DSPIO.FAB_WDATA_LO_DATA c) + 65536 * d.fld (Reg.DSPIO.FAB_WDATA_HI_DATA c))
  let since := (d.core c).fabSince
  let d := if timedOut then d.waitUntil (since + 10 * Config.usCt) else d
  let d := (d.count (Reg.DSP.CNT_FAB_STALL c) ((d.clock - since) / 2)).countRun c ((d.clock - since) / 2)
  let d := d.updCore c fun k => { k with fab := none }
  let d :=
    if timedOut || !dspReaches a then (if write then d else d.fabData c 0).fabResult c true false
    else if write then
      let d := d.regWrite (.dsp core) none a data
      d.fabResult c false d.wrRefused
    else
      let (d, w) := d.regRead a
      (d.fabData c w).fabResult c false false
  if (d.core c).stopAsked then (d.updCore c fun k => { k with stopAsked := false }).haltCore c 0 else d

/-- FAB_ACCESS_DONE (R327, R328). -/
def execFabAccessDone (core : Core) (timedOut : Bool) (s : State) : Res :=
  run (fun d => match (d.core core.val).fab with
    | some write => if d.pageOn (.dsp core) then d.fabDone core timedOut write else d
    | none => d) s

/-! ### Service steps (R349) -/

/-- The OFFSET of a WRITE or POLL step. -/
def stepOffset (w : W64) : Nat := (w.extractLsb' 32 25).toNat

/-- After a step's own access the sequence goes on from where it stands, if the access has not ended it. -/
def Device.seqGoesOn (d : Device) (r : SeqRun) (f : Device → SeqRun → Device) : Device :=
  match d.sta.run with
  | some r' => if r'.seq = r.seq then f d r' else d
  | none => d

/-- A WRITE step (R340, R349): refused or in error it ends the sequence with FAIL. -/
def Device.seqWrite (d : Device) (r : SeqRun) (w : W64) : Device :=
  if !dspReaches (stepOffset w) then d.endSeq 2
  else
    let d := d.regWrite (.dsp 0) none (stepOffset w) (w.extractLsb' 0 32)
    d.seqGoesOn r fun d r => if d.wrRefused then d.endSeq 2 else d.nextStep r

/-- SEQ_WRITE (R349). -/
def execSeqWrite (s : State) : Res := run (fun d => d.atStep 1 fun r w => d.seqWrite r w) s

/-- One read of a POLL step that began at `since` (R349): the step is over when the bit has its level. -/
def Device.pollRead (d : Device) (r : SeqRun) (w : W64) (since : Nat) : Device :=
  let (d, v) := if dspReaches (stepOffset w) then d.regRead (stepOffset w) else (d, 0)
  d.seqGoesOn r fun d r => if v.getLsbD (w.extractLsb' 27 5).toNat == w.getLsbD 26 then d.nextStep r else d.setPhase r (.poll since)

/-- The next read of a POLL step, 1 µs after the last, unless LIMIT passes first (R349). -/
def Device.pollAgain (d : Device) (r : SeqRun) (w : W64) (since : Nat) : Device :=
  let next := since + ((d.clock - since) / Config.usCt + 1) * Config.usCt
  let limit := since + max 1 (w.extractLsb' 0 16).toNat * Config.msCt
  if limit < next then (d.waitUntil limit).endSeq 3 else (d.waitUntil next).pollRead r w since

/-- SEQ_POLL (R349): one read. -/
def execSeqPoll (s : State) : Res :=
  run (fun d => match d.sta.run with
    | some r => match r.phase with
      | .ready => d.atStep 3 fun r w => d.pollRead r w d.clock
      | .poll since => d.pollAgain r (d.seqStep r) since
      | _ => d
    | none => d) s

/-- A DSP step whose core has halted, or has run for its LIMIT (R349). -/
def Device.seqCore (d : Device) (r : SeqRun) (w : W64) (c since : Nat) : Device :=
  let k := d.core c
  if k.run == .running || k.run == .waiting || k.run == .draining then
    let d := d.waitUntil (since + (w.extractLsb' 0 16).toNat * Config.msCt)
    ((if k.run == .waiting then d.endWait c else d).haltCore c 0).endSeq 3
  else if k.run == .halted && k.cause == 1 then (d.updCore c fun k => { k with claimed := false }).nextStep r
  else d.endSeq 2

/-- SEQ_DSP (R349): the step begins to claim; once its core runs, the step ends with the core's halt, or by its LIMIT. -/
def execSeqDsp (s : State) : Res :=
  run (fun d => match d.sta.run with
    | some r => match r.phase with
      | .ready => d.atStep 5 fun r _ => (d.setFld Reg.STA1.SVC_STATUS_STATE 2).setPhase r (.claim d.clock)
      | .dsp c since => d.seqCore r (d.seqStep r) c since
      | _ => d
    | none => d) s

/-! ### Commands of the link (R443, R444) -/

/-- ADDR, the number of accesses and INC of an RD or WR (R443). -/
def cmdAddr (b : BitVec 256) : Nat := (b.extractLsb' 203 25).toNat
def cmdCount (b : BitVec 256) : Nat := (b.extractLsb' 201 2).toNat + 1
def cmdInc (b : BitVec 256) : Bool := b.getLsbD 200

/-- The addresses of a run of `n` accesses. -/
def runAddrs (a n : Nat) (inc : Bool) : List Nat := (List.range n).map fun k => if inc then a + 4 * k else a

/-- The accesses of an RD: words read, and the status of the first that does not complete OK (R444). -/
def Device.cmdReads (d : Device) : List Nat → List W32 → Device × List W32 × Nat
  | [], got => (d, got, 0)
  | a :: rest, got =>
    if 0x1FFFFFC < a then (d, got, 2)
    else
      let (d, w) := d.regRead a
      Device.cmdReads d rest (got ++ [w])

/-- The accesses of a WR: the number done, and the status of the first that does not complete OK (R444). -/
def Device.cmdWrites (d : Device) : List (Nat × W32) → Nat → Device × Nat × Nat
  | [], n => (d, n, 0)
  | (a, w) :: rest, n =>
    if 0x1FFFFFC < a then (d, n, 2)
    else
      let d := d.regWrite .slow none a w
      if d.wrRefused then (d, n, 1) else Device.cmdWrites d rest (n + 1)

/-- A queued command is executed and answered (R443, R444); an AUTH_WR is answered when its counter is committed (R448). -/
def Device.execCmd (d : Device) (b : BitVec 256) : Device :=
  let tag : BitVec 16 := b.extractLsb' 228 16
  let addrs := runAddrs (cmdAddr b) (cmdCount b) (cmdInc b)
  match (b.extractLsb' 244 8).toNat with
  | 0x10 =>
    if cmdAddr b % 4 ≠ 0 then (d.count Reg.ZVL.CNT_CMD).respond tag 3 0 []
    else
      let (d, got, status) := (d.count Reg.ZVL.CNT_CMD).cmdReads addrs []
      d.respond tag status got.length got
  | 0x11 =>
    if cmdAddr b % 4 ≠ 0 then (d.count Reg.ZVL.CNT_CMD).respond tag 3 0 []
    else
      let words := addrs.zipIdx.map fun (p : Nat × Nat) => (p.1, (b.extractLsb' (168 - 32 * p.2) 32 : W32))
      let (d, n, status) := (d.count Reg.ZVL.CNT_CMD).cmdWrites words 0
      d.respond tag status n []
  | _ => d.authSubmit .link b

/-- Queued commands are executed one at a time while the response queue has room and no AUTH_WR waits for its counter (R444). -/
def Device.runCmds (d : Device) : Nat → Device
  | 0 => d
  | n + 1 =>
    match d.zvl.cmds with
    | [] => d
    | c :: rest =>
      if d.zvl.authWait || 16 ≤ d.zvl.resps.length then d
      else Device.runCmds (Device.execCmd { d with zvl := { d.zvl with cmds := rest } } c.block) n

/-- A command is answered without being executed (R444), when the response queue has room. -/
def Device.answer (d : Device) (w : BitVec 257) (status : Nat) : Device :=
  let tag : BitVec 16 := if msgOf w = 0x12 then authTag (w.extractLsb' 0 256) else w.extractLsb' 228 16
  if d.zvl.resps.length < 16 then d.respond tag status 0 [] else d

/-- A command arrives (R444, R448, R452): answered DISABLED, discarded with BUSY, or queued. -/
def Device.takeCmd (d : Device) (w : BitVec 257) : Device :=
  let open' := d.enabled .zvl && (if msgOf w = 0x12 then d.flag Reg.ZVL.CTRL_AUTH_EN else d.flag Reg.ZVL.CTRL_CMD_EN)
  if !open' then d.answer w 7
  else if 16 ≤ d.zvl.cmds.length then ((d.count Reg.ZVL.CNT_CMD_BUSY).raise .zvl 2).answer w 6
  else { d with zvl := { d.zvl with cmds := d.zvl.cmds ++ [⟨w.extractLsb' 0 256⟩] } }

/-- A command message at the head of the stream is taken; then commands run as far as they can. -/
def Device.linkCommand (d : Device) (msg : Nat) : Device :=
  if !d.pageOn .zvl then d
  else
    let d := d.takeMessage msg fun d w => d.takeCmd w
    d.runCmds 17

/-- RD_COMMAND (R443, R444). -/
def execRdCommand (s : State) : Res := run (fun d => d.linkCommand 0x10) s
/-- WR_COMMAND (R443, R444). -/
def execWrCommand (s : State) : Res := run (fun d => d.linkCommand 0x11) s
/-- AUTH_WR (R446, R448). -/
def execAuthWr (s : State) : Res := run (fun d => d.linkCommand 0x12) s

/-! ### Data frames (R437, R441, R445) -/

/-- A bulk word is written by the slow-control route, or skipped (R445). -/
def Device.bulkWord (d : Device) (w : W64) : Device :=
  if w.toNat / 2 ^ 57 ≠ 0 ∨ w.toNat / 2 ^ 32 % 4 ≠ 0 then d.count Reg.ZVL.CNT_BULK_SKIP
  else
    let d := d.regWrite .slow none (w.extractLsb' 32 25).toNat (w.extractLsb' 0 32)
    if d.wrRefused then d.count Reg.ZVL.CNT_BULK_SKIP else d.count Reg.ZVL.CNT_BULK_WR

/-- The words of an accepted frame, each a unit of stream 2: a unit below the one expected is a copy (R441). -/
def Device.bulkUnits (d : Device) (first : Nat) (ws : List W64) : Device :=
  ws.zipIdx.foldl (fun (d : Device) (p : W64 × Nat) =>
    let unit := (first + p.2) % 2 ^ 48
    if unit < d.zvl.unit2 then d.count Reg.ZVL.CNT_UNIT_DUP
    else Device.bulkWord { d with zvl := { d.zvl with unit2 := unit + 1 } } p.1) d

/-- A frame is complete (R437, R439): accepted, acknowledged and carried out, or gone by. -/
def Device.frameDone (d : Device) (f : RxFrame) : Device :=
  let d := { d with zvl := { d.zvl with frame := none } }
  if !f.take then d
  else
    let z := { d.zvl with expect := some (f.seq + 1), accepted := some f.seq, ackDue := true }
    (Device.count { d with zvl := z } Reg.ZVL.CNT_DFRAME_RX).bulkUnits f.first (f.got.take f.words)

/-- A DATA block joins the frame in progress; one that belongs to no frame is discarded (R437). -/
def Device.takeData (d : Device) (w : BitVec 257) : Device :=
  match d.zvl.frame with
  | none => d.count Reg.ZVL.CNT_ERR_BLOCK
  | some f =>
    let f := { f with nblk := f.nblk - 1, got := f.got ++ [w.extractLsb' 192 64, w.extractLsb' 128 64, w.extractLsb' 64 64, w.extractLsb' 0 64] }
    if f.nblk = 0 then d.frameDone f else { d with zvl := { d.zvl with frame := some f } }

/-- DATA_BLOCK_RECEIVE (R437). -/
def execDataBlockReceive (s : State) : Res :=
  run (fun d => match d.zvl.queue with
    | some w :: rest =>
      if !w.getLsbD 256 && d.pageOn .zvl then
        let d := Device.takeData { d with zvl := { d.zvl with queue := rest } } w
        d.skipBlocks d.zvl.queue.length
      else d
    | _ => d) s

/-! ### Host-to-device rings (R468, R469) -/

/-- The writes of a buffer's 32-bit words: address, data and whether the word is well formed. -/
def Desc.writes (x : Desc) : List W32 → Nat → List (Nat × W32 × Bool)
  | [], _ => []
  | w :: rest, k =>
    if x.mode = 1 then (x.offset + (if x.inc then 4 * k else 0), w, true) :: Desc.writes x rest (k + 1)
    else match rest with
      | [] => []
      | hi :: rest => (hi.toNat % 2 ^ 25, w, decide (hi.toNat / 2 ^ 25 = 0) && decide (hi.toNat % 4 = 0)) :: Desc.writes x rest (k + 1)

/-- The writes are carried out in order through the PCI Express route: written and skipped so far. -/
def Device.h2dWrites (d : Device) : List (Nat × W32 × Bool) → Nat × Nat → Device × Nat × Nat
  | [], n => (d, n)
  | (a, w, ok) :: rest, n =>
    if !ok || 0x1FFFFFF < a then Device.h2dWrites d rest (n.1, n.2 + 1)
    else
      let d := d.regWrite .pcie none a w
      Device.h2dWrites d rest (if d.wrRefused then (n.1, n.2 + 1) else (n.1 + 1, n.2))

/-- Word 2 of a host-to-device descriptor (R468). -/
def h2dWord (n : Nat × Nat) (status : Nat) : W64 := BitVec.ofNat 64 (min n.1 0xFFFFFF + min n.2 0xFFFFFF * 2 ^ 24 + status * 2 ^ 48 + 2 ^ 63)

/-- The oldest descriptor of a host-to-device ring is carried out and completes (R468, R469, R471): `words` is the buffer as 32-bit words, `failAt`
the word from which its read fails. -/
def Device.h2dDone (d : Device) (r : Nat) (words : List W32) (failAt : Option Nat) : Device :=
  match (d.ring r).descs with
  | [] => d
  | x :: _ =>
    if !d.dmaReady then d
    else if d.flag (Reg.RING.RING_CTRL_ABORT r) then d.completeDesc r x 3 (h2dWord (0, 0) 3) 0
    else if x.badH2d then d.completeDesc r x 4 (h2dWord (0, 0) 4) 0
    else
      let want := x.len / 4
      let got := match failAt with
        | some k => (words.take want).take k
        | none => words.take want
      let failed := decide (got.length < want)
      let d := (d.readBuffer x.buf x.len).countMoved r (4 * got.length)
      let (d, n) := d.h2dWrites (x.writes got 0) (0, 0)
      let status := if failed then 2 else if n.2 ≠ 0 then 1 else 0
      let d := if failed then d.count Reg.PCI.CNT_READ_ERR else d
      if (d.ring r).descs.head?.any fun y => y.index == x.index then d.completeDesc r x status (h2dWord n status) 0 else d

/-- H2D_DESCRIPTOR_COMPLETE (R469). -/
def execH2dDescriptorComplete (ring : H2dRing) (words : List W32) (failAt : Option Nat) (s : State) : Res :=
  run (fun d => d.h2dDone (8 + ring.val) words failAt) s

end Sys2Proof.Machine
end

