-- ==== Sys2Proof/Machine/Concentrator.lean ====
section
/-! DEFINITION. The watchdogs of the concentrator's internal handshake channels (spec/06, R216). -/

namespace Sys2Proof.Machine

/-- A reset of a concentrator channel, counted and raised; FAULT after 8 in succession (R216). -/
def Device.channelReset (d : Device) (c : Nat) : Device :=
  let d := ((d.upset Reg.HLT.UPS_WD).count (Reg.EVB.CNT_WD c)).raise .evb 9
  let n := SMap.get (fun _ => 0) d.evb.wdRuns c + 1
  let d := { d with evb := { d.evb with wdRuns := SMap.set (fun _ => 0) d.evb.wdRuns c n } }
  if n = 8 then (d.setFlag (fFault .evb) true).raise .evb 10 else d

/-- Hits are lost to the stream (R205, R216). -/
def Device.loseHits (d : Device) (n : Nat) : Device := { d with evb := { d.evb with lost := d.evb.lost + n } }

/-- The hits of a record: one, those of a packed-hits record by COUNT (R212), those of a LATE record (R211). -/
def Rec.hits (r : Rec) : Nat :=
  match r.kind with
  | .hit => 1
  | .packed => (r.words.headD 0).toNat / 2 ^ 16 % 2 ^ 16
  | .late => r.words.length - 1
  | _ => 0

/-- The receiving stage of a channel is full, so that its watchdog does not run (R20): the correction unit, the sort buffer, the release, the output
queue, the lane path, the DMA rings. The history ring manager never stalls (R189). -/
def Device.stageFull (d : Device) (c : Nat) : Bool :=
  match c with
  | 0 => !d.domOn 2 || !d.domOn 15 || !d.arr.tcuOut.isEmpty
  | 1 => !d.enabled .evb || decide (65536 ≤ d.evb.sort.length)
  | 2 | 3 | 7 => d.refusing
  | 5 => !d.evb.laneTodo.isEmpty && !d.laneTakes
  | 6 => ((List.range 8).any fun r => d.ringRecords r) && (List.range 8).all fun r => !d.ringRecords r || !d.ringOpen r
  | _ => false

/-- The record at the input of the output queue leaves it undelivered; a trigger record did not enter the stream (R205). -/
def Device.dropInput (d : Device) (r : Rec) (rest : List Rec) : Device :=
  Device.ctxRecord { d with evb := { d.evb with inq := rest, triggers := d.evb.triggers - triggersIn [r] } } r true

/-- What a watchdog reset of a channel discards: at most the one item in flight (R216). -/
def Device.discardInFlight (d : Device) (c : Nat) (receiver : Nat) : Device :=
  match c with
  | 0 => match (d.rx receiver).queue with
    | .hit _ :: rest => (d.updRx receiver fun s => { s with queue := rest }).loseHits 1
    | _ => d
  | 1 => if d.arr.tcuOut.isEmpty then d else Device.loseHits { d with arr := { d.arr with tcuOut := [], tcuRaw := none } } 1
  | 2 => match d.releasable with
    | some h => (Device.ringHit { d with evb := { d.evb with sort := d.evb.sort.drop 1, sortFull := false } } h false).loseHits 1
    | none => d
  | 3 => match d.evb.inq with
    | r :: rest => if recChannel r.kind = some 3 && r.fmt.isSome then (d.dropInput r rest).loseHits r.hits else d
    | [] => match d.releasable with
      | some h =>
        let d := Device.ringHit (Device.maskHit { d with evb := { d.evb with sort := d.evb.sort.drop 1, sortFull := false } } h) h false
        if d.selects h then d.loseHits 1 else d
      | none => d
  | 4 => d.releaseHit true
  | 7 => match d.evb.inq with
    | r :: rest => if recChannel r.kind = some 7 && r.fmt.isSome then d.dropInput r rest else d
    | [] => d
  | _ => d

/-- CONCENTRATOR_WATCHDOG_RESET (R20, R216); the receiver concerned for channel 0. -/
def execConcentratorWatchdogReset (chan : Fin 8) (receiver : Fin 16) (s : State) : Res :=
  run (fun d =>
    if d.pageOn .evb && !d.stageFull chan.val then (d.discardInFlight chan.val receiver.val).channelReset chan.val else d) s

end Sys2Proof.Machine
end

