-- ==== Sys2Proof/Machine/Store.lean ====
section
/-! DEFINITION. The commands of the non-volatile store (R562-R565): commit, home copy, failure, patrol; and an authenticated write, which is
carried out when its counter is committed (R448). -/

namespace Sys2Proof.Machine

/-- The route by which an authenticated write reaches the fabric (R508, R518). -/
def AuthRoute.route : AuthRoute → Route
  | .register r => r
  | .link | .testPort => .slow

/-- The counter of an authenticated write is committed: the write is carried out with the mark of its slot (R448, R508, R525). -/
def Device.authCarryOut (d : Device) (a : AuthWork) : Device :=
  let d := d.dropAuth a
  let d := if d.pageOn .zvl then d.setWord (Reg.ZVL.AUTH_CTR a.slot) a.ctr else d
  let d := d.regWriteAs a.route.route a.route.code (some a.slot) a.addr.toNat a.data
  let status := if d.wrRefused then 1 else 0
  let d := if status = 0 then d.count Reg.SEC.CNT_AUTH_OK else d
  let d := d.authResult a.route a.tag status
  match a.route with
  | .link => d.runCmds 17
  | _ => d

/-- The write in progress is committed and its owner is told (R563 step 2). -/
def Device.commitWrite (d : Device) (w : StoreWrite) : Device :=
  let d := d.markCommitted.ownerDone w
  match d.authOf w with
  | some a => d.authCarryOut a
  | none => d

/-- JOURNAL_COMMIT (R563). -/
def execJournalCommit (s : State) : Res :=
  run (fun d => match d.nvs.prog with
    | some w => if d.pageOn .nvs && !d.nvs.committed then d.commitWrite w else d
    | none => d) s

/-- The write in progress ends: its home page is written, or the write fails after its retry (R563 steps 3 and 4). -/
def Device.writeDone (d : Device) (w : StoreWrite) (ok : Bool) : Device :=
  if !ok then d.writeFails w
  else
    let d := if d.nvs.committed then d else d.commitWrite w
    if d.nvs.prog = some w then (d.copyHome w).endWrite else d

/-- JOURNAL_WRITE_DONE (R563). -/
def execJournalWriteDone (ok : Bool) (s : State) : Res :=
  run (fun d => match d.nvs.prog with
    | some w => if d.pageOn .nvs then d.writeDone w ok else d
    | none => d) s

/-- NVS_PATROL_READ (R565). -/
def execNvsPatrolRead (page : BitVec 11) (finding : ReadFinding) (s : State) : Res :=
  run (fun d => if d.pageOn .nvs then d.patrolRead page.toNat finding else d) s

end Sys2Proof.Machine
end

