-- ==== Sys2Proof/Machine/Dispatch.lean ====
section
/-! DEFINITION. The meaning of every command: one arm per constructor of Instr. -/

namespace Sys2Proof.Machine

def exec (i : Instr) (s : State) : Host.Outcome State Fault Refusal :=
  match i with
  | .registerWrite route addr data => Sys2Proof.Machine.execRegisterWrite route addr data s
  | .rwaWrite route mark addr data => Sys2Proof.Machine.execRwaWrite route mark addr data s
  | .latchedPairRead route addr => Sys2Proof.Machine.execLatchedPairRead route addr s
  | .pageEnableClear page => Sys2Proof.Machine.execPageEnableClear page s
  | .pageEnableSet page => Sys2Proof.Machine.execPageEnableSet page s
  | .pageDrainDone page => Sys2Proof.Machine.execPageDrainDone page s
  | .pageAbort page => Sys2Proof.Machine.execPageAbort page s
  | .pageAbortDone page => Sys2Proof.Machine.execPageAbortDone page s
  | .pageSoftReset page => Sys2Proof.Machine.execPageSoftReset page s
  | .evSetWrite page bits => Sys2Proof.Machine.execEvSetWrite page bits s
  | .discriminatorLeadingEdge pix contest edge start => Sys2Proof.Machine.execDiscriminatorLeadingEdge pix contest edge start s
  | .discriminatorTrailingEdge pix edge stop => Sys2Proof.Machine.execDiscriminatorTrailingEdge pix edge stop s
  | .totSaturation pix => Sys2Proof.Machine.execTotSaturation pix s
  | .converterFree die cluster => Sys2Proof.Machine.execConverterFree die cluster s
  | .pixelRearm pix => Sys2Proof.Machine.execPixelRearm pix s
  | .regionAcceptHit die region => Sys2Proof.Machine.execRegionAcceptHit die region s
  | .flowControlPinUpdate => Sys2Proof.Machine.execFlowControlPinUpdate s
  | .watermarkWrite mark data => Sys2Proof.Machine.execWatermarkWrite mark data s
  | .testHitOffer die region data => Sys2Proof.Machine.execTestHitOffer die region data s
  | .bandGrant die band => Sys2Proof.Machine.execBandGrant die band s
  | .channelMerge die chan first => Sys2Proof.Machine.execChannelMerge die chan first s
  | .d2dWordReceive die chan arrived finding => Sys2Proof.Machine.execD2dWordReceive die chan arrived finding s
  | .handshakeWatchdogReset place => Sys2Proof.Machine.execHandshakeWatchdogReset place s
  | .concentratorWatchdogReset chan receiver => Sys2Proof.Machine.execConcentratorWatchdogReset chan receiver s
  | .regionFlush die region => Sys2Proof.Machine.execRegionFlush die region s
  | .channelFlush die chans => Sys2Proof.Machine.execChannelFlush die chans s
  | .channelFlushDone die chan truncated => Sys2Proof.Machine.execChannelFlushDone die chan truncated s
  | .channelRestart die chans => Sys2Proof.Machine.execChannelRestart die chans s
  | .channelRestartCheck die chan => Sys2Proof.Machine.execChannelRestartCheck die chan s
  | .bandEnableWrite die data => Sys2Proof.Machine.execBandEnableWrite die data s
  | .trefFreqMeasure khz => Sys2Proof.Machine.execTrefFreqMeasure khz s
  | .trefEdgeResume => Sys2Proof.Machine.execTrefEdgeResume s
  | .trefGap => Sys2Proof.Machine.execTrefGap s
  | .lockAcquired plls => Sys2Proof.Machine.execLockAcquired plls s
  | .pllLossOfLock pll => Sys2Proof.Machine.execPllLossOfLock pll s
  | .voteError pll => Sys2Proof.Machine.execVoteError pll s
  | .pllRestart => Sys2Proof.Machine.execPllRestart s
  | .dllLockAchieved die => Sys2Proof.Machine.execDllLockAchieved die s
  | .dllUnlock die => Sys2Proof.Machine.execDllUnlock die s
  | .syncEdge => Sys2Proof.Machine.execSyncEdge s
  | .syncLoadTick phase => Sys2Proof.Machine.execSyncLoadTick phase s
  | .frameStart phase => Sys2Proof.Machine.execFrameStart phase s
  | .corrDataWrite route data => Sys2Proof.Machine.execCorrDataWrite route data s
  | .tcuConvertHit receiver => Sys2Proof.Machine.execTcuConvertHit receiver s
  | .evbAcceptHit full => Sys2Proof.Machine.execEvbAcceptHit full s
  | .hitRelease full => Sys2Proof.Machine.execHitRelease full s
  | .frameHeaderQueue => Sys2Proof.Machine.execFrameHeaderQueue s
  | .alignmentRecordQueue => Sys2Proof.Machine.execAlignmentRecordQueue s
  | .lateRecordTimeout => Sys2Proof.Machine.execLateRecordTimeout s
  | .frameContextRetry => Sys2Proof.Machine.execFrameContextRetry s
  | .contextRelease index => Sys2Proof.Machine.execContextRelease index s
  | .quotaWrite cls data => Sys2Proof.Machine.execQuotaWrite cls data s
  | .ctxDataRead => Sys2Proof.Machine.execCtxDataRead s
  | .tableStagingWrite table high data => Sys2Proof.Machine.execTableStagingWrite table high data s
  | .fmtCommit => Sys2Proof.Machine.execFmtCommit s
  | .condCommit => Sys2Proof.Machine.execCondCommit s
  | .conditionEvaluation => Sys2Proof.Machine.execConditionEvaluation s
  | .swTrigWrite data => Sys2Proof.Machine.execSwTrigWrite data s
  | .trigInEdge line rising hold => Sys2Proof.Machine.execTrigInEdge line rising hold s
  | .triggerDecision => Sys2Proof.Machine.execTriggerDecision s
  | .rearmExpire cond => Sys2Proof.Machine.execRearmExpire cond s
  | .trigOutPulseEnd => Sys2Proof.Machine.execTrigOutPulseEnd s
  | .triggerWindowClose => Sys2Proof.Machine.execTriggerWindowClose s
  | .captureDone => Sys2Proof.Machine.execCaptureDone s
  | .maskTestInterval test => Sys2Proof.Machine.execMaskTestInterval test s
  | .maskRelease => Sys2Proof.Machine.execMaskRelease s
  | .feCtrlWrite route die data => Sys2Proof.Machine.execFeCtrlWrite route die data s
  | .vthWrite die data => Sys2Proof.Machine.execVthWrite die data s
  | .gainLgWrite die word data => Sys2Proof.Machine.execGainLgWrite die word data s
  | .gainApply die region => Sys2Proof.Machine.execGainApply die region s
  | .gainTransitionEnd die region => Sys2Proof.Machine.execGainTransitionEnd die region s
  | .tblDataWrite route die data => Sys2Proof.Machine.execTblDataWrite route die data s
  | .tblDataRead die => Sys2Proof.Machine.execTblDataRead die s
  | .statDataRead die => Sys2Proof.Machine.execStatDataRead die s
  | .trimApply pix => Sys2Proof.Machine.execTrimApply pix s
  | .tblFillGo route die data => Sys2Proof.Machine.execTblFillGo route die data s
  | .tblFillDone die => Sys2Proof.Machine.execTblFillDone die s
  | .injStart die => Sys2Proof.Machine.execInjStart die s
  | .injStop die => Sys2Proof.Machine.execInjStop die s
  | .injPulse die => Sys2Proof.Machine.execInjPulse die s
  | .injSenseSample die codeA codeB => Sys2Proof.Machine.execInjSenseSample die codeA codeB s
  | .checkSlotStart die => Sys2Proof.Machine.execCheckSlotStart die s
  | .checkPixelReconnect pix => Sys2Proof.Machine.execCheckPixelReconnect pix s
  | .checkSlotEnd die found => Sys2Proof.Machine.execCheckSlotEnd die found s
  | .clearStatus die => Sys2Proof.Machine.execClearStatus die s
  | .adcSample die adc raw parity => Sys2Proof.Machine.execAdcSample die adc raw parity s
  | .wadcSeqStart die adc => Sys2Proof.Machine.execWadcSeqStart die adc s
  | .wadcEntryEnd die adc => Sys2Proof.Machine.execWadcEntryEnd die adc s
  | .wadcInjRequest die adc data => Sys2Proof.Machine.execWadcInjRequest die adc data s
  | .wadcTriggerStart line => Sys2Proof.Machine.execWadcTriggerStart line s
  | .wadcCalSelf die adc data => Sys2Proof.Machine.execWadcCalSelf die adc data s
  | .wadcCalSysZero die adc data => Sys2Proof.Machine.execWadcCalSysZero die adc data s
  | .wadcCalSysFull die adc data => Sys2Proof.Machine.execWadcCalSysFull die adc data s
  | .wadcCalDone die adc => Sys2Proof.Machine.execWadcCalDone die adc s
  | .monCtrlWrite data => Sys2Proof.Machine.execMonCtrlWrite data s
  | .monLeadTimeEnd => Sys2Proof.Machine.execMonLeadTimeEnd s
  | .monScanStart => Sys2Proof.Machine.execMonScanStart s
  | .monScanTimer => Sys2Proof.Machine.execMonScanTimer s
  | .monConversionDone codesA codesB => Sys2Proof.Machine.execMonConversionDone codesA codesB s
  | .monCalSelf data => Sys2Proof.Machine.execMonCalSelf data s
  | .monCalSysZero data => Sys2Proof.Machine.execMonCalSysZero data s
  | .monCalSysFull data => Sys2Proof.Machine.execMonCalSysFull data s
  | .coefDataWrite route data => Sys2Proof.Machine.execCoefDataWrite route data s
  | .hisTrain => Sys2Proof.Machine.execHisTrain s
  | .hisTrainingDone failedStep => Sys2Proof.Machine.execHisTrainingDone failedStep s
  | .dqsDriftCheck drifted retrained => Sys2Proof.Machine.execDqsDriftCheck drifted retrained s
  | .ddrRefresh => Sys2Proof.Machine.execDdrRefresh s
  | .refreshRatePoll hot => Sys2Proof.Machine.execRefreshRatePoll hot s
  | .scrubBurst lines findings => Sys2Proof.Machine.execScrubBurst lines findings s
  | .readbackRequest => Sys2Proof.Machine.execReadbackRequest s
  | .captureRead number => Sys2Proof.Machine.execCaptureRead number s
  | .captureRelease number => Sys2Proof.Machine.execCaptureRelease number s
  | .readbackStart findings => Sys2Proof.Machine.execReadbackStart findings s
  | .readbackDone => Sys2Proof.Machine.execReadbackDone s
  | .dspNop core => Sys2Proof.Machine.execDspNop core s
  | .dspMov core dst src => Sys2Proof.Machine.execDspMov core dst src s
  | .dspLpush core => Sys2Proof.Machine.execDspLpush core s
  | .dspLpop core => Sys2Proof.Machine.execDspLpop core s
  | .dspTrig core line ac => Sys2Proof.Machine.execDspTrig core line ac s
  | .dspEi core => Sys2Proof.Machine.execDspEi core s
  | .dspDi core => Sys2Proof.Machine.execDspDi core s
  | .dspClrs core sat ov => Sys2Proof.Machine.execDspClrs core sat ov s
  | .dspWait core => Sys2Proof.Machine.execDspWait core s
  | .dspTrap core n => Sys2Proof.Machine.execDspTrap core n s
  | .dspHalt core => Sys2Proof.Machine.execDspHalt core s
  | .dspMul core sat ac dx dy slot1 slot2 => Sys2Proof.Machine.execDspMul core sat ac dx dy slot1 slot2 s
  | .dspMac core sat ac dx dy slot1 slot2 => Sys2Proof.Machine.execDspMac core sat ac dx dy slot1 slot2 s
  | .dspMacn core sat ac dx dy slot1 slot2 => Sys2Proof.Machine.execDspMacn core sat ac dx dy slot1 slot2 s
  | .dspMacrn core sat ac dx dy slot1 slot2 => Sys2Proof.Machine.execDspMacrn core sat ac dx dy slot1 slot2 s
  | .dspMulx core sat ac dx dy slot1 slot2 => Sys2Proof.Machine.execDspMulx core sat ac dx dy slot1 slot2 s
  | .dspMacx core sat ac dx dy slot1 slot2 => Sys2Proof.Machine.execDspMacx core sat ac dx dy slot1 slot2 s
  | .dspAdd core sat ac src slot => Sys2Proof.Machine.execDspAdd core sat ac src slot s
  | .dspSub core sat ac src slot => Sys2Proof.Machine.execDspSub core sat ac src slot s
  | .dspNeg core sat ac src slot => Sys2Proof.Machine.execDspNeg core sat ac src slot s
  | .dspAbs core sat ac src slot => Sys2Proof.Machine.execDspAbs core sat ac src slot s
  | .dspClr core sat ac slot => Sys2Proof.Machine.execDspClr core sat ac slot s
  | .dspMova core sat ac src slot => Sys2Proof.Machine.execDspMova core sat ac src slot s
  | .dspCmp core sat ac src slot => Sys2Proof.Machine.execDspCmp core sat ac src slot s
  | .dspRnd core sat ac slot => Sys2Proof.Machine.execDspRnd core sat ac slot s
  | .dspAnd core sat ac src slot => Sys2Proof.Machine.execDspAnd core sat ac src slot s
  | .dspOr core sat ac src slot => Sys2Proof.Machine.execDspOr core sat ac src slot s
  | .dspXor core sat ac src slot => Sys2Proof.Machine.execDspXor core sat ac src slot s
  | .dspAsl core sat ac count slot => Sys2Proof.Machine.execDspAsl core sat ac count slot s
  | .dspAsr core sat ac count slot => Sys2Proof.Machine.execDspAsr core sat ac count slot s
  | .dspLsr core sat ac count slot => Sys2Proof.Machine.execDspLsr core sat ac count slot s
  | .dspMax core sat ac src slot => Sys2Proof.Machine.execDspMax core sat ac src slot s
  | .dspMin core sat ac src slot => Sys2Proof.Machine.execDspMin core sat ac src slot s
  | .dspAddh core sat ac dn slot => Sys2Proof.Machine.execDspAddh core sat ac dn slot s
  | .dspSubh core sat ac dn slot => Sys2Proof.Machine.execDspSubh core sat ac dn slot s
  | .dspMovh core sat ac dn slot => Sys2Proof.Machine.execDspMovh core sat ac dn slot s
  | .dspExtr core sat dst ac count slot => Sys2Proof.Machine.execDspExtr core sat dst ac count slot s
  | .dspExp core dst ac slot => Sys2Proof.Machine.execDspExp core dst ac slot s
  | .dspSata core sat ac slot => Sys2Proof.Machine.execDspSata core sat ac slot s
  | .dspLoad core dst ptr mode disp => Sys2Proof.Machine.execDspLoad core dst ptr mode disp s
  | .dspStore core src ptr mode disp => Sys2Proof.Machine.execDspStore core src ptr mode disp s
  | .dspLdi core dst value => Sys2Proof.Machine.execDspLdi core dst value s
  | .dspBra core cc target => Sys2Proof.Machine.execDspBra core cc target s
  | .dspCall core target => Sys2Proof.Machine.execDspCall core target s
  | .dspJmp core ptr => Sys2Proof.Machine.execDspJmp core ptr s
  | .dspRts core => Sys2Proof.Machine.execDspRts core s
  | .dspRti core => Sys2Proof.Machine.execDspRti core s
  | .dspLoopImmediate core count length => Sys2Proof.Machine.execDspLoopImmediate core count length s
  | .dspLoopRegister core count length => Sys2Proof.Machine.execDspLoopRegister core count length s
  | .illegalInstruction core => Sys2Proof.Machine.execIllegalInstruction core s
  | .interruptEntry core => Sys2Proof.Machine.execInterruptEntry core s
  | .dspTimerExpire core => Sys2Proof.Machine.execDspTimerExpire core s
  | .fabRead core => Sys2Proof.Machine.execFabRead core s
  | .fabWrite core => Sys2Proof.Machine.execFabWrite core s
  | .fabAccessDone core timedOut => Sys2Proof.Machine.execFabAccessDone core timedOut s
  | .resPush core data => Sys2Proof.Machine.execResPush core data s
  | .mbxPop core => Sys2Proof.Machine.execMbxPop core s
  | .resDataRead core => Sys2Proof.Machine.execResDataRead core s
  | .mbxWrite core data => Sys2Proof.Machine.execMbxWrite core data s
  | .waveformRequest core => Sys2Proof.Machine.execWaveformRequest core s
  | .waveformRecordDone core => Sys2Proof.Machine.execWaveformRecordDone core s
  | .dspRun core => Sys2Proof.Machine.execDspRun core s
  | .dspHaltRequest core => Sys2Proof.Machine.execDspHaltRequest core s
  | .dspStep core => Sys2Proof.Machine.execDspStep core s
  | .dspResetPc core => Sys2Proof.Machine.execDspResetPc core s
  | .dspBreakpoint core => Sys2Proof.Machine.execDspBreakpoint core s
  | .dspPmemWrite core index data => Sys2Proof.Machine.execDspPmemWrite core index data s
  | .dspRegDataWrite core pc data => Sys2Proof.Machine.execDspRegDataWrite core pc data s
  | .dspMemScrub core corrected uncorrectable => Sys2Proof.Machine.execDspMemScrub core corrected uncorrectable s
  | .dspDrainTimeout core => Sys2Proof.Machine.execDspDrainTimeout core s
  | .staRunStart => Sys2Proof.Machine.execStaRunStart s
  | .staRunStop => Sys2Proof.Machine.execStaRunStop s
  | .staRunDone => Sys2Proof.Machine.execStaRunDone s
  | .staPushValue data => Sys2Proof.Machine.execStaPushValue data s
  | .svcStart data => Sys2Proof.Machine.execSvcStart data s
  | .svcDriftCheck => Sys2Proof.Machine.execSvcDriftCheck s
  | .svcPeriodicStart seq => Sys2Proof.Machine.execSvcPeriodicStart seq s
  | .seqCommit => Sys2Proof.Machine.execSeqCommit s
  | .seqEnd => Sys2Proof.Machine.execSeqEnd s
  | .seqWrite => Sys2Proof.Machine.execSeqWrite s
  | .seqWait => Sys2Proof.Machine.execSeqWait s
  | .seqWaitExpire => Sys2Proof.Machine.execSeqWaitExpire s
  | .seqPoll => Sys2Proof.Machine.execSeqPoll s
  | .seqRun => Sys2Proof.Machine.execSeqRun s
  | .seqDsp => Sys2Proof.Machine.execSeqDsp s
  | .seqBranch => Sys2Proof.Machine.execSeqBranch s
  | .seqFail => Sys2Proof.Machine.execSeqFail s
  | .svcClaimGranted => Sys2Proof.Machine.execSvcClaimGranted s
  | .svcClaimTimeout => Sys2Proof.Machine.execSvcClaimTimeout s
  | .dlcalDone => Sys2Proof.Machine.execDlcalDone s
  | .theqDone => Sys2Proof.Machine.execTheqDone s
  | .bscanDone => Sys2Proof.Machine.execBscanDone s
  | .streamEnWrite ctx data => Sys2Proof.Machine.execStreamEnWrite ctx data s
  | .blockWaitExpire ctx => Sys2Proof.Machine.execBlockWaitExpire ctx s
  | .coderContextReset ctxs => Sys2Proof.Machine.execCoderContextReset ctxs s
  | .coderCtxDataWrite data => Sys2Proof.Machine.execCoderCtxDataWrite data s
  | .coderCtxDataRead => Sys2Proof.Machine.execCoderCtxDataRead s
  | .loopbackPush data => Sys2Proof.Machine.execLoopbackPush data s
  | .loopbackPop => Sys2Proof.Machine.execLoopbackPop s
  | .loopbackFlush => Sys2Proof.Machine.execLoopbackFlush s
  | .laneEnable lane => Sys2Proof.Machine.execLaneEnable lane s
  | .laneDisable lane => Sys2Proof.Machine.execLaneDisable lane s
  | .laneRetrain lane => Sys2Proof.Machine.execLaneRetrain lane s
  | .trainingControlWord lane word => Sys2Proof.Machine.execTrainingControlWord lane word s
  | .prbsWindowEnd lane errors => Sys2Proof.Machine.execPrbsWindowEnd lane errors s
  | .laneActive lane => Sys2Proof.Machine.execLaneActive lane s
  | .openLoopTrainingEnd lane => Sys2Proof.Machine.execOpenLoopTrainingEnd lane s
  | .trainingAttemptTimeout lane => Sys2Proof.Machine.execTrainingAttemptTimeout lane s
  | .backoffEnd lane => Sys2Proof.Machine.execBackoffEnd lane s
  | .laneStable lane => Sys2Proof.Machine.execLaneStable lane s
  | .lanePermanent lane => Sys2Proof.Machine.execLanePermanent lane s
  | .codewordReceive lane word slip => Sys2Proof.Machine.execCodewordReceive lane word slip s
  | .rxLossOfLock lane cause => Sys2Proof.Machine.execRxLossOfLock lane cause s
  | .txLossOfLock lane cause => Sys2Proof.Machine.execTxLossOfLock lane cause s
  | .restripeDone => Sys2Proof.Machine.execRestripeDone s
  | .eqCommit => Sys2Proof.Machine.execEqCommit s
  | .eqSave => Sys2Proof.Machine.execEqSave s
  | .ackTimeout => Sys2Proof.Machine.execAckTimeout s
  | .retainExpire => Sys2Proof.Machine.execRetainExpire s
  | .dataFrameSend stream => Sys2Proof.Machine.execDataFrameSend stream s
  | .alignReceive lane => Sys2Proof.Machine.execAlignReceive lane s
  | .dataBlockReceive => Sys2Proof.Machine.execDataBlockReceive s
  | .dframeReceive => Sys2Proof.Machine.execDframeReceive s
  | .ackReceive => Sys2Proof.Machine.execAckReceive s
  | .ackRepeat => Sys2Proof.Machine.execAckRepeat s
  | .lstatusReceive => Sys2Proof.Machine.execLstatusReceive s
  | .lstatusPeriodic => Sys2Proof.Machine.execLstatusPeriodic s
  | .rdCommand => Sys2Proof.Machine.execRdCommand s
  | .wrCommand => Sys2Proof.Machine.execWrCommand s
  | .authWr => Sys2Proof.Machine.execAuthWr s
  | .authLockoutEnd => Sys2Proof.Machine.execAuthLockoutEnd s
  | .trigMessage => Sys2Proof.Machine.execTrigMessage s
  | .tsyncMessage => Sys2Proof.Machine.execTsyncMessage s
  | .tsyncLoadTick phase => Sys2Proof.Machine.execTsyncLoadTick phase s
  | .ringTailWrite ring tail => Sys2Proof.Machine.execRingTailWrite ring tail s
  | .descriptorFetch ring desc => Sys2Proof.Machine.execDescriptorFetch ring desc s
  | .readoutDescriptorComplete ring => Sys2Proof.Machine.execReadoutDescriptorComplete ring s
  | .readoutTimeout ring => Sys2Proof.Machine.execReadoutTimeout ring s
  | .h2dDescriptorComplete ring words failAt => Sys2Proof.Machine.execH2dDescriptorComplete ring words failAt s
  | .ringEnable ring => Sys2Proof.Machine.execRingEnable ring s
  | .ringDisable ring => Sys2Proof.Machine.execRingDisable ring s
  | .ringAbort ring => Sys2Proof.Machine.execRingAbort ring s
  | .ringReset ring => Sys2Proof.Machine.execRingReset ring s
  | .endpointReset => Sys2Proof.Machine.execEndpointReset s
  | .pcieLinkDown => Sys2Proof.Machine.execPcieLinkDown s
  | .pcieLinkChange speed width => Sys2Proof.Machine.execPcieLinkChange speed width s
  | .barPartialWrite addr data enables => Sys2Proof.Machine.execBarPartialWrite addr data enables s
  | .vecEoi vector => Sys2Proof.Machine.execVecEoi vector s
  | .msixUnmask vector => Sys2Proof.Machine.execMsixUnmask vector s
  | .eventLogRead => Sys2Proof.Machine.execEventLogRead s
  | .srcTestWrite word bits => Sys2Proof.Machine.execSrcTestWrite word bits s
  | .sealCommand route => Sys2Proof.Machine.execSealCommand route s
  | .sealComplete => Sys2Proof.Machine.execSealComplete s
  | .sealSave => Sys2Proof.Machine.execSealSave s
  | .unseal route slot data => Sys2Proof.Machine.execUnseal route slot data s
  | .unsealComplete => Sys2Proof.Machine.execUnsealComplete s
  | .trimRefresh trimUpsets cfgUpsets => Sys2Proof.Machine.execTrimRefresh trimUpsets cfgUpsets s
  | .keyProgram => Sys2Proof.Machine.execKeyProgram s
  | .keyProgramDone ok => Sys2Proof.Machine.execKeyProgramDone ok s
  | .keyRevoke route slot data => Sys2Proof.Machine.execKeyRevoke route slot data s
  | .authWriteSubmit route => Sys2Proof.Machine.execAuthWriteSubmit route s
  | .debugUnlock route slot data => Sys2Proof.Machine.execDebugUnlock route slot data s
  | .erasureDone => Sys2Proof.Machine.execErasureDone s
  | .auditEntryClose => Sys2Proof.Machine.execAuditEntryClose s
  | .auditWrite => Sys2Proof.Machine.execAuditWrite s
  | .testPortAuthCmd block => Sys2Proof.Machine.execTestPortAuthCmd block s
  | .testPortLockedInstruction => Sys2Proof.Machine.execTestPortLockedInstruction s
  | .railGood rail => Sys2Proof.Machine.execRailGood rail s
  | .railFault rail => Sys2Proof.Machine.execRailFault rail s
  | .railOk rail => Sys2Proof.Machine.execRailOk rail s
  | .powerOnResetEnd => Sys2Proof.Machine.execPowerOnResetEnd s
  | .startupStepDone dose => Sys2Proof.Machine.execStartupStepDone dose s
  | .startStall => Sys2Proof.Machine.execStartStall s
  | .levelRequestWrite data => Sys2Proof.Machine.execLevelRequestWrite data s
  | .deviceSoftReset data => Sys2Proof.Machine.execDeviceSoftReset data s
  | .resetPin => Sys2Proof.Machine.execResetPin s
  | .domainRequestWrite high data => Sys2Proof.Machine.execDomainRequestWrite high data s
  | .domainSwitchOnDone => Sys2Proof.Machine.execDomainSwitchOnDone s
  | .domainSwitchTimeout => Sys2Proof.Machine.execDomainSwitchTimeout s
  | .domainSwitchOff => Sys2Proof.Machine.execDomainSwitchOff s
  | .domainDrainTimeout => Sys2Proof.Machine.execDomainDrainTimeout s
  | .sensorReading sensor raw => Sys2Proof.Machine.execSensorReading sensor raw s
  | .sensorNoReading sensor => Sys2Proof.Machine.execSensorNoReading sensor s
  | .sensorAutoClear sensor => Sys2Proof.Machine.execSensorAutoClear sensor s
  | .sensorClearWrite word bits => Sys2Proof.Machine.execSensorClearWrite word bits s
  | .diodeMeasure lowUv highUv => Sys2Proof.Machine.execDiodeMeasure lowUv highUv s
  | .throttleUpdate => Sys2Proof.Machine.execThrottleUpdate s
  | .pauseEnd kind => Sys2Proof.Machine.execPauseEnd kind s
  | .curveCommit => Sys2Proof.Machine.execCurveCommit s
  | .curveSave => Sys2Proof.Machine.execCurveSave s
  | .quenchLimitWrite data => Sys2Proof.Machine.execQuenchLimitWrite data s
  | .quenchRestart => Sys2Proof.Machine.execQuenchRestart s
  | .journalCommit => Sys2Proof.Machine.execJournalCommit s
  | .journalWriteDone ok => Sys2Proof.Machine.execJournalWriteDone ok s
  | .nvsPatrolRead page finding => Sys2Proof.Machine.execNvsPatrolRead page finding s
  | .maskSave => Sys2Proof.Machine.execMaskSave s
  | .failedClustersUpdate => Sys2Proof.Machine.execFailedClustersUpdate s
  | .replaceCauseClear bits => Sys2Proof.Machine.execReplaceCauseClear bits s
  | .replaceEventRepeat => Sys2Proof.Machine.execReplaceEventRepeat s
  | .doseRead doses => Sys2Proof.Machine.execDoseRead doses s
  | .upsetHour => Sys2Proof.Machine.execUpsetHour s
  | .healthLogWrite => Sys2Proof.Machine.execHealthLogWrite s
  | .refclkLoss => Sys2Proof.Machine.execRefclkLoss s
  | .codewordTransmit => Sys2Proof.Machine.execCodewordTransmit s
  | .dmaWriteRequest ring => Sys2Proof.Machine.execDmaWriteRequest ring s
  | .pcieLinkUp speed width => Sys2Proof.Machine.execPcieLinkUp speed width s
  | .configSpaceWrite cfg => Sys2Proof.Machine.execConfigSpaceWrite cfg s
  | .aerError correctable => Sys2Proof.Machine.execAerError correctable s
  | .healthLogEntryClose => Sys2Proof.Machine.execHealthLogEntryClose s
  | .sramScrub findings => Sys2Proof.Machine.execSramScrub findings s
  | .tmrVoteCorrection page => Sys2Proof.Machine.execTmrVoteCorrection page s

end Sys2Proof.Machine
end

