-- ==== Sys2Proof/Machine/Pins.lean ====
section
/-! DEFINITION. What the control outputs of the package show (R593). -/

namespace Sys2Proof.Machine

/-- What an output does: nothing (high impedance, or an open drain that is released), or a level. For TRIG_OUT `high` is P above N. -/
inductive PinDrive where
  | highZ | low | high
  deriving DecidableEq, Repr

/-- The control outputs (R593). -/
structure ControlPins where
  busyN : PinDrive
  warnN : PinDrive
  irqN : PinDrive
  replaceN : PinDrive
  trigOut : PinDrive
  deriving DecidableEq, Repr

/-- A flow-control pin: low while asserted, and always in S0 and during a hardware thermal shutdown (R127, R550). -/
def Device.flowPin (d : Device) (asserted : Bool) : PinDrive := if d.fld Reg.HLT.SERVICE_LEVEL_LEVEL = 0 || asserted then .low else .high

/-- An open-drain output. -/
def openDrain (low : Bool) : PinDrive := if low then .low else .highZ

/-- The control outputs in each power state (R593): nothing without VDD_IO; in power-on reset the flow-control pins low, IRQ_N and REPLACE_N released
and TRIG_OUT deasserted; then the pins of R126, R484, R572 and R247. -/
def Device.controlPins (d : Device) : ControlPins :=
  if !d.railGood 6 then ⟨.highZ, .highZ, .highZ, .highZ, .highZ⟩
  else if d.pwr.por then ⟨.low, .low, .highZ, .highZ, .low⟩
  else ⟨d.flowPin d.arr.busy, d.flowPin d.arr.warn, openDrain d.evc.irqLow, openDrain d.replaceLow, if d.trigPin then .high else .low⟩

end Sys2Proof.Machine
end

