-- ==== Sys2Proof/Safety.lean ====
section
/-! DEFINITION. The terms in which claims are made: what a command answers, what it leaves as it was, and what holds between commands. -/

namespace Sys2Proof.Machine

/-! ### What a command answers -/

/-- The command answers a next state: the queue is as it was, and the device is as `post` says. -/
def Completes (c : Instr) (s : State) (post : Device → Prop) : Prop := ∃ t, exec c s = .next t ∧ t.pending = s.pending ∧ post t.dev

/-- The command answers a next state: the queue is as it was, and the device is `e` with what follows every command. -/
def Effect (c : Instr) (s : State) (e : Device) : Prop := exec c s = .next { s with dev := e.settle }

/-! ### What a command leaves as it was -/

/-- The parts of the device beside its registers and event bits. -/
inductive Block where
  | clock | free | evEnable | out | rdata | pwr | thm | hlt | nvs | tim | evb | cores | pci | evc | sea | sec | arr | wadcs | mon | cdr | trg
  | his | sta | lnk | zvl | staging | dspTrig | eventQ | alarms
  deriving DecidableEq, Repr

/-- The part is the same in `e` as it was in `d`, but for what follows every command: logs that take entries, queues at the output that move,
records that join the output, frames that are marked, messages that leave, the fast-ORs that are tracked, ADCs that may no longer run. -/
def Block.same (d e : Device) : Block → Prop
  | .clock => e.clock = d.clock
  | .free => e.free = d.free
  | .evEnable => e.evEnable = d.evEnable
  | .out => d.out <+: e.out
  | .rdata => e.rdata = d.rdata ∧ e.wrRefused = d.wrRefused
  | .pwr => e.pwr = d.pwr
  | .thm => e.thm = d.thm
  | .hlt => e.hlt = { d.hlt with log := e.hlt.log }
  | .nvs => e.nvs = d.nvs
  | .tim => e.tim = d.tim
  | .evb => e.evb = { e.evb with sort := d.evb.sort, sortFull := d.evb.sortFull, lastNum := d.evb.lastNum, lateRaised := d.evb.lateRaised,
                                 late := d.evb.late, streamOn := d.evb.streamOn, lateCount := d.evb.lateCount, lost := d.evb.lost,
                                 fmt := d.evb.fmt, fmtNext := d.evb.fmtNext }
  | .cores => e.cores = d.cores
  | .pci => e.pci.cfg = d.pci.cfg ∧ e.pci.up = d.pci.up ∧ e.pci.msix = d.pci.msix
      ∧ ∀ r, (e.ring r).descs = (d.ring r).descs ∧ (e.ring r).bytes = (d.ring r).bytes
  | .evc => d.evc.log <+: e.evc.log ∧ d.evc.insvc &&& ~~~e.evc.insvc = 0
  | .sea => e.sea = d.sea
  | .sec => e.sec = { d.sec with audit := e.sec.audit, alarms := e.sec.alarms, erasing := e.sec.erasing, lockedEntered := e.sec.lockedEntered }
  | .arr => e.arr = d.arr
  | .wadcs => ∀ a, e.wadc a = d.wadc a ∨ e.wadc a = { d.wadc a with running := false, lost := false }
  | .mon => e.mon = d.mon
  | .cdr => e.cdr = { d.cdr with ctxs := e.cdr.ctxs } ∧ ∀ c, c < 2 ∨ 9 < c → e.coder c = d.coder c
  | .trg => e.trg = { d.trg with forHigh := e.trg.forHigh, forFall := e.trg.forFall }
  | .his => e.his = { d.his with sending := e.his.sending, running := e.his.running }
  | .sta => e.sta = d.sta
  | .lnk => e.lnk = d.lnk
  | .zvl => e.zvl = d.zvl
  | .staging => e.staging = d.staging
  | .dspTrig => e.dspTrig = d.dspTrig
  | .eventQ => d.eventQ <+: e.eventQ
  | .alarms => e.sec.alarms = d.sec.alarms ∧ e.sec.erasing = d.sec.erasing ∧ e.sec.lockedEntered = d.sec.lockedEntered

/-- The registers that what follows every command may move: counters of lost entries, alarms and unrouted records, the fast-OR
counters, the levels of the output queue and the sort buffer, the words a coder gave out, discarded data, the event log's OVERRUN. -/
def sharedReg (a : Nat) : Bool :=
  [Reg.SEC.CNT_AUDIT_LOST, Reg.SEC.CNT_ALARMS, Reg.HLT.CNT_LOG_LOST, Reg.ZVL.CNT_EV_LOST,
   Reg.EVB.OQ_STATUS, Reg.EVB.CNT_UNROUTED, Reg.EVB.SORT_STATUS, Reg.PCI.CNT_DISCARD, Reg.EVC.LOG_STATUS].contains a
  || (List.range 8).any (fun r => a == Reg.CDR.CNT_OUT (2 + r))
  || (decide (0x500000 ≤ a) && decide (a < 0x1800000) && a % 0x1000 == 0x108)

/-- The pages whose events what follows every command may raise: LEVEL_CHANGE and a lost log entry, alarms, region events on the page of their die,
the output queue's events, a lost message, an overrun of the event log. -/
def sharedPage : Page → Bool
  | .hlt | .sec | .die _ | .evb | .zvl | .evc => true
  | _ => false

/-- `e` differs from `d` in the parts `bs`, the registers `rs` and the events of the pages `ps` only, and in what follows every command; an event of
another page that is set stays set. -/
structure Frame (bs : List Block) (rs : Nat → Bool) (ps : List Page) (d e : Device) : Prop where
  part : e.part = d.part
  blocks : ∀ b, b ∉ bs → b.same d e
  words : ∀ a, rs a = false → sharedReg a = false → e.word a = d.word a
  events : ∀ p, p ∉ ps → sharedPage p = false → e.sticky p = d.sticky p
  kept : ∀ p, p ∉ ps → ∀ b, (d.sticky p).getLsbD b = true → (e.sticky p).getLsbD b = true

/-- As `Frame`, for a whole command: the alarms it raised have had their policies applied, and LOCKED and SERVICE_LEVEL may have moved too. -/
def Leaves (bs : List Block) (rs : Nat → Bool) (ps : List Page) (d e : Device) : Prop :=
  Frame (.alarms :: bs) (fun a => rs a || a == Reg.HLT.SERVICE_LEVEL || a == Reg.SEC.SUMMARY) ps d e

/-! ### An instruction of a DSP core -/

/-- The core executes the word at its PC: it has power and runs or drains, no fabric access is in progress, the breakpoint does not stand there, and the word is sound. -/
def CoreExecutes (d : Device) (c : Nat) : Prop :=
  d.pageOn (corePage c) = true ∧ ((d.core c).run = .running ∨ (d.core c).run = .draining) ∧ (d.core c).fab = none ∧ d.breaks c = false ∧ (d.core c).bad.contains (pmemAt (d.core c).pc.toNat) = false

/-- It executes outside a delay slot and an active loop. -/
def Straight (d : Device) (c : Nat) : Prop := CoreExecutes d c ∧ (d.core c).slot = none ∧ (d.core c).detecting = false

/-- A parallel slot loads no damaged word. -/
def SlotSound (k : DspCore) (slot : DspSlot) : Prop := ∀ r p, slot = .load r p → k.badAt (k.ptr p) = false

/-- An instruction of a core begins: it is counted while the core is RUNNING (R333), and the views of the register file move on (R301). -/
def Device.begins (d : Device) (c : Nat) : Device :=
  let k := d.core c
  (d.countRun c 1).updCore c fun _ => { k with rf2 := k.rf1, rf1 := k.rf, loopOld := none, slot := none }

/-- An instruction of a core ends: the PC, and the delay slot that a control transfer opens. -/
def Device.ends (d : Device) (c : Nat) (pc : BitVec 14) (slot : Option DelaySlot) : Device := d.updCore c fun k => { k with pc := pc, slot := slot }

/-- An instruction with an accumulator result and up to two parallel slots, straight ahead (R298, R302, R311). -/
def Device.accNext (d : Device) (c : Nat) (ac : Fin 4) (r : AluRes) (write : Bool) (slot : DspSlot) : Device :=
  (((d.begins c).updCore c fun k => k.putAcc ac r write).doSlot c (d.core c) slot).ends c ((d.core c).pc + 1) none

/-- An instruction of the MAC class, straight ahead (R290, R302, R311). -/
def Device.macNext (d : Device) (c : Nat) (ac : Fin 4) (r : AluRes) (slot1 slot2 : DspSlot) : Device :=
  let k := d.core c
  (((((d.begins c).updCore c fun q => q.putAcc ac r true).bankStall c k slot1 slot2).doSlot c k slot1).doSlot c k slot2).ends c (k.pc + 1) none

/-- An instruction that does nothing but write registers late, straight ahead. -/
def Device.lateNext (d : Device) (c : Nat) (g : RegFile → RegFile) : Device :=
  ((d.begins c).updCore c fun k => k.late g).ends c ((d.core c).pc + 1) none

/-! ### What holds between commands -/

/-- What holds of the device between commands: the event controller has seen every source and drives its outputs by it (R480-R485), every asserted vector that a message can
be sent for is in service or waits masked (R482), no alarm waits for its policy (R517), the service level is that of R560, and no ADC runs that may not (R155). -/
structure Settled (d : Device) : Prop where
  sources : d.evc.asserted = d.assertedNow
  irq : d.evc.irqLow = (d.flag (fEnable .evc) && (sourcesIn d.evc.asserted).any fun s => d.flag (Reg.EVC.ROUTE_IRQ_EN s))
  inta : d.evc.inta = (d.flag (fEnable .evc) && (d.domOn 11 && !d.pci.cfg.msixEnable && !d.pci.cfg.interruptDisable && d.vectors d.evc.asserted != 0))
  messages : d.flag (fEnable .evc) = true → d.msixReady = true → ∀ v, (d.vectors d.evc.asserted).getLsbD v = true →
    d.evc.insvc.getLsbD v = true ∨ ((d.pci.cfg.functionMask = true ∨ (d.msixEntry v).mask = true) ∧ d.pci.pba.getLsbD v = true)
  pendingBits : d.flag (fEnable .evc) = true → d.pci.pba &&& ~~~d.vectors d.evc.asserted = 0
  alarms : d.sec.alarms = []
  level : d.fld Reg.HLT.SERVICE_LEVEL_LEVEL = 0 ∨ d.fld Reg.HLT.SERVICE_LEVEL_LEVEL = if d.missing = 0 then 2 else 1
  adcs : ∀ a, a < 32 → (d.wadc a).running = true → d.wadcRuns a = true

/-- A counter after `n` occurrences: up to its greatest value. -/
def counted (w : W32) (n : Nat) : W32 := BitVec.ofNat 32 (min (w.toNat + n) 0xFFFFFFFF)

/-- The registers of a page. -/
def pageReg (p : Page) (a : Nat) : Bool := decide (pageBase p ≤ a) && decide (a < pageBase p + 0x1000)

/-- The registers of a list. -/
def regs (as : List Nat) (a : Nat) : Bool := as.contains a

end Sys2Proof.Machine
end

