-- ==== Sys2Proof/Certificates/Slice0/Obligations.lean ====
section
/-! DEFINITION. What the provers are asked to prove of the model: each command's effect where it completes, command by command and family by family, and what
holds of every command and of every step. -/

open Sys2Proof Sys2Proof.Machine

/-- The trigger engine's inputs and tables while no service step is under way: a condition table that passes its checks waits for the next frame start, one
that fails sets REJECTED and raises event 8 (R231); software bits wait as primitives for the next tick, and so does a rising TRIG_IN edge after at least 2 CT low when the
pulse stays high for at least 2 CT; a shorter one is not seen (R226, R227).
Readings and choices of the model that it rests on: log entries 24, 55, 89 and 124. -/
def Obligations.TriggerTableAndPrimitives : Prop :=
  (∀ s, s.dev.serviceRun = none → s.dev.pageOn .trg = true → s.dev.stagedOk .condition 0x5443 64 = true →
    Completes .condCommit s fun d => Leaves [.trg] (regs [Reg.TRG.COND_CTRL]) [] s.dev d
      ∧ d.trg.condNext = some (SMap.setAll (fun _ => 0) [] 0 (s.dev.stagedImage .condition).tail)
      ∧ d.flag Reg.TRG.COND_CTRL_REJECTED = false)
  ∧ (∀ s, s.dev.serviceRun = none → s.dev.pageOn .trg = true → s.dev.stagedOk .condition 0x5443 64 = false →
    Completes .condCommit s fun d => Leaves [] (regs [Reg.TRG.COND_CTRL]) [.trg] s.dev d
      ∧ d.flag Reg.TRG.COND_CTRL_REJECTED = true ∧ (d.sticky .trg).getLsbD 8 = true)
  ∧ (∀ s data, s.dev.serviceRun = none → s.dev.pageOn .trg = true →
    Completes (.swTrigWrite data) s fun d => Leaves [.trg] (regs []) [] s.dev d
      ∧ d.trg.prims = s.dev.trg.prims ++ ((List.range 16).filter fun k => data.getLsbD k).map fun k => ⟨5, k, none⟩)
  ∧ (∀ s (line : Fin 2) hold, s.dev.serviceRun = none → s.dev.pageOn .trg = true → s.dev.trg.pins.getLsbD line.val = false → 2 ≤ hold →
    SMap.get (fun _ => 0) s.dev.trg.pinSeen line.val ≤ max s.dev.clock (SMap.get (fun _ => 0) s.dev.trg.pinHold line.val) →
    Completes (.trigInEdge line true hold) s fun d => Leaves [.clock, .tim, .trg] (regs []) [] s.dev d
      ∧ d.clock = max s.dev.clock (SMap.get (fun _ => 0) s.dev.trg.pinHold line.val)
      ∧ d.trg.pins.getLsbD line.val = true ∧ d.trg.prims = s.dev.trg.prims ++ [⟨2, line.val, none⟩])
  ∧ (∀ s (line : Fin 2) hold, s.dev.serviceRun = none → s.dev.trg.pins.getLsbD line.val = false →
    (hold < 2 ∨ max s.dev.clock (SMap.get (fun _ => 0) s.dev.trg.pinHold line.val) < SMap.get (fun _ => 0) s.dev.trg.pinSeen line.val) →
    Completes (.trigInEdge line true hold) s fun d => Leaves [.clock, .tim, .trg] (regs []) [] s.dev d
      ∧ d.trg.pins.getLsbD line.val = true ∧ d.trg.prims = s.dev.trg.prims)
  ∧ (∀ s (line : Fin 2) hold, s.dev.serviceRun = none → s.dev.trg.pins.getLsbD line.val = true →
    Completes (.trigInEdge line false hold) s fun d => Leaves [.clock, .tim, .trg] (regs []) [] s.dev d
      ∧ d.trg.pins.getLsbD line.val = false ∧ d.trg.prims = s.dev.trg.prims
      ∧ SMap.get (fun _ => 0) d.trg.pinSeen line.val = d.clock + 2)

/-- One tick of the trigger engine, the decision that follows it, and the ends of its timers: an evaluation advances the coarse count by one and consumes the
primitives that waited (R230, R233); at its decision tick, 6 CT later, a candidate that drives TRIG_OUT starts or extends its pulse
(R234, R238, R247), and one whose primary condition takes no capture and needs no readback opens its trigger where a context is free (R236, R237); a condition leaves re-arm (R237); the pulse ends, and the pin goes
to the level that INVERT and FORCE give it (R247).
Readings and choices of the model that it rests on: log entries 9 and 89. -/
def Obligations.TriggerTickDecisionAndTimers : Prop :=
  (∀ s, s.dev.serviceRun = none → s.dev.pageOn .trg = true → s.dev.counting = true →
    Completes .conditionEvaluation s fun d => d.clock = s.dev.clock + 1 ∧ d.tim.count = s.dev.tim.count + 1 ∧ d.trg.prims = [])
  ∧ (∀ s, s.dev.serviceRun = none → s.dev.pageOn .trg = true → s.dev.counting = true → (∀ t ∈ s.dev.trg.opens, t.stoppedAt = none) →
    Completes .conditionEvaluation s fun d => Leaves [.clock, .tim, .trg, .dspTrig] (pageReg .trg) [.trg] s.dev d
      ∧ d.trg.opens = s.dev.trg.opens ∧ d.fld Reg.TRG.EXT_STATUS_LEVEL = s.dev.trg.pins.toNat)
  ∧ (∀ s c rest, s.dev.serviceRun = none → s.dev.pageOn .trg = true → s.dev.trgReady = true → s.dev.trg.decisions = c :: rest → 64 ≤ c.primary →
    c.trigOut = true → c.tick + 6 < 2 ^ 58 → (BitVec.ofNat 58 (c.tick + 6) - s.dev.tim.count).toNat < 2 ^ 57 → (∀ t ∈ s.dev.trg.opens, t.stoppedAt = none) →
    Completes .triggerDecision s fun d => Leaves [.clock, .tim, .trg] (regs []) [] s.dev d
      ∧ d.trg.decisions = rest ∧ d.tim.count.toNat = c.tick + 6
      ∧ d.trg.outUntil = some (max (s.dev.trg.outUntil.getD 0) (d.clock + max 1 (s.dev.fld Reg.TRG.TRIG_OUT_CTRL_WIDTH))))
  ∧ (∀ s c rest d, s.dev.pageOn .trg = true → s.dev.trg.decisions = c :: rest →
    d = (Device.advanceTo { s.dev with trg := { s.dev.trg with decisions := rest } } (BitVec.ofNat 58 (c.tick + 6))).finishStopped.advanceFront →
    d.trgReady = true → 64 ≤ c.primary → Effect .triggerDecision s (d.assertOutputs c))
  ∧ (∀ s c rest d e k, s.dev.pageOn .trg = true → s.dev.trg.decisions = c :: rest →
    d = ((Device.advanceTo { s.dev with trg := { s.dev.trg with decisions := rest } } (BitVec.ofNat 58 (c.tick + 6))).finishStopped.advanceFront).assertOutputs c →
    d.trgReady = true → c.primary < 64 → c.capture = false → (d.presentFrame.map (·.mode)) ≠ some 1 →
    ((d.trg.armAt.toNat * 64 : Nat) : Int) ≤ (c.time : Int) - 64 * (c.pre : Int) → d.allocCtx 1 (BitVec.ofNat 24 (d.fld Reg.TRG.TRIG_NUM_NEXT)) = (e, some k) →
    Effect .triggerDecision s (e.acceptTrigger c k false none))
  ∧ (∀ s (cond : Fin 64), s.dev.serviceRun = none →
    Completes (.rearmExpire cond) s fun d => Leaves [.clock, .tim, .trg] (regs []) [] s.dev d
      ∧ d.clock = max s.dev.clock (SMap.get (fun _ => 0) s.dev.trg.rearm cond.val) ∧ SMap.get (fun _ => 0) d.trg.rearm cond.val = 0
      ∧ ∀ j, j ≠ cond.val → SMap.get (fun _ => 0) d.trg.rearm j = SMap.get (fun _ => 0) s.dev.trg.rearm j)
  ∧ (∀ s t, s.dev.serviceRun = none → s.dev.trg.outUntil = some t →
    Completes .trigOutPulseEnd s fun d => Leaves [.clock, .tim, .trg] (regs []) [] s.dev d
      ∧ d.clock = max s.dev.clock t ∧ d.trg.outUntil = none ∧ d.trigOut = (d.trgReady && d.flag Reg.TRG.TRIG_OUT_CTRL_FORCE)
      ∧ d.trigPin = ((d.trgReady && d.flag Reg.TRG.TRIG_OUT_CTRL_FORCE) != d.flag Reg.TRG.TRIG_OUT_CTRL_INVERT))

/-- What ends in the trigger engine. When the front has passed the window of a trigger without a capture set, the trigger leaves the open ones, its context
closes and its record is queued (R241); a capture set whose hits are all written is counted, completes in the same way and raises event 6 (R242); an interval
of an occupancy test whose hits lie within the bounds ends the run of violations, one outside them prolongs it (R244); a release clears the violations and lets the frozen ring resume
at the next frame start (R246).
Readings and choices of the model that it rests on: log entries 9, 90 and 130. -/
def Obligations.TriggerWindowsAndMaskTests : Prop :=
  (∀ s t d, d = s.dev.finishStopped.advanceFront → (d.trg.opens.find? fun t => t.capture.isNone && d.windowPassed t) = some t → t.capture = none →
    Effect .triggerWindowClose s ((Device.closeCtx { d with trg := { d.trg with opens := d.trg.opens.filter fun x => x.num != t.num } } t.ctx).emit t.record))
  ∧ (∀ s t d, d = s.dev.finishStopped.advanceFront → (d.capturing.find? fun t => d.captureWritten t) = some t →
    Effect .captureDone s (((d.count Reg.TRG.CNT_CAPTURES).finishTrigger t).raise .trg 6))
  ∧ (∀ s (test : Fin 8) d k n, d = s.dev.advanceFront → d.pageOn .trg = true → d.flag (Reg.TRG.MT_CTRL_EN test.val) = true →
    d.flag (Reg.TRG.MT_CTRL_KIND test.val) = false → SMap.get (fun _ => 0) d.trg.maskDone test.val = k → ((k * 2 ^ d.maskIvl test.val * 64 : Nat) : Int) ≤ d.evb.front →
    (∀ h ∈ d.evb.sort, k * 2 ^ d.maskIvl test.val * 64 ≤ h.toa) → SMap.get (fun _ => 0) d.trg.maskHits ((k - 1) * 8 + test.val) = n →
    d.fld (Reg.TRG.MT_LOW_LOW test.val) ≤ n → n ≤ d.fld (Reg.TRG.MT_HIGH_HIGH test.val) →
    Effect (.maskTestInterval test) s (Device.setFld { d with trg := { d.trg with
        maskDone := SMap.set (fun _ => 0) d.trg.maskDone test.val (k + 1)
        maskHits := SMap.set (fun _ => 0) d.trg.maskHits ((k - 1) * 8 + test.val) 0 } } (Reg.TRG.MT_CONSEC_RUN test.val) 0))
  ∧ (∀ s (test : Fin 8) d k n, d = s.dev.advanceFront → d.pageOn .trg = true → d.flag (Reg.TRG.MT_CTRL_EN test.val) = true →
    d.flag (Reg.TRG.MT_CTRL_KIND test.val) = false → SMap.get (fun _ => 0) d.trg.maskDone test.val = k → ((k * 2 ^ d.maskIvl test.val * 64 : Nat) : Int) ≤ d.evb.front →
    (∀ h ∈ d.evb.sort, k * 2 ^ d.maskIvl test.val * 64 ≤ h.toa) → SMap.get (fun _ => 0) d.trg.maskHits ((k - 1) * 8 + test.val) = n →
    (n < d.fld (Reg.TRG.MT_LOW_LOW test.val) ∨ d.fld (Reg.TRG.MT_HIGH_HIGH test.val) < n) → d.fld (Reg.TRG.MT_CONSEC_RUN test.val) + 1 < d.fld (Reg.TRG.MT_CONSEC_CONSEC test.val) →
    Effect (.maskTestInterval test) s (Device.setFld { d with trg := { d.trg with
        maskDone := SMap.set (fun _ => 0) d.trg.maskDone test.val (k + 1)
        maskHits := SMap.set (fun _ => 0) d.trg.maskHits ((k - 1) * 8 + test.val) 0 } } (Reg.TRG.MT_CONSEC_RUN test.val) (d.fld (Reg.TRG.MT_CONSEC_RUN test.val) + 1)))
  ∧ (∀ s, s.dev.serviceRun = none → s.dev.pageOn .trg = true → s.dev.his.frozen = true →
    Completes .maskRelease s fun d => Leaves [.his] (pageReg .trg) [] s.dev d
      ∧ d.fld Reg.TRG.MASK_STATUS_VIOLATED = 0 ∧ d.fld Reg.TRG.MASK_STATUS_FIRST = 0
      ∧ (∀ k : Fin 8, d.fld (Reg.TRG.MT_CONSEC_RUN k.val) = 0) ∧ d.his.resumeNext = true)
  ∧ (∀ s, s.dev.serviceRun = none → s.dev.pageOn .trg = true → s.dev.his.frozen = false →
    Completes .maskRelease s fun d => Leaves [] (pageReg .trg) [] s.dev d
      ∧ d.fld Reg.TRG.MASK_STATUS_VIOLATED = 0 ∧ ∀ k : Fin 8, d.fld (Reg.TRG.MT_CONSEC_RUN k.val) = 0)

/-- The edges of a pixel while no service step is under way. A leading edge at an armed, unmasked pixel that finds its converter free latches the low 24
bits of the coarse count, disarms the pixel and takes the converter with the edge's start code (R25, R91, R95); at a masked pixel it gives no hit (R26); a
trailing edge completes the hit with the codes of its start and stop registers and the low 11 bits of the count (R98): a start code is 1 + the farthest tap at 1, a stop code the taps at 0 before the first at 1, 80 when none is. A pixel that finds its converter held is not granted (R95). No other pixel and no other converter changes.
Readings and choices of the model that it rests on: log entries 94 and 101. -/
def Obligations.PixelEdgesAndHits : Prop :=
  (∀ s pix contest start, s.dev.serviceRun = none → s.dev.pageOn (pixPage (pixNo pix)) = true → (s.dev.pixel (pixNo pix)).high = false →
    (s.dev.pixel (pixNo pix)).run = .armed → (s.dev.pixel (pixNo pix)).checking = false → s.dev.masked (pixNo pix) = false → s.dev.feInhibit = false →
    (s.dev.conv (pixCluster (pixNo pix))).holder = none →
    Completes (.discriminatorLeadingEdge pix contest false start) s fun d => Leaves [.arr] (regs []) [] s.dev d
      ∧ (d.pixel (pixNo pix)).high = true ∧ (d.pixel (pixNo pix)).run = .firing
      ∧ (d.pixel (pixNo pix)).hit.c1 = s.dev.tim.count.setWidth 24 ∧ (d.pixel (pixNo pix)).hit.granted = true
      ∧ (d.pixel (pixNo pix)).hit.contested = false ∧ (d.pixel (pixNo pix)).hit.tb = s.dev.flag Reg.TIM0.STATUS_TIME_BASE
      ∧ (d.pixel (pixNo pix)).hit.rangeHi = s.dev.gainAct (pixDie (pixNo pix)) (pixRegion (pixNo pix))
      ∧ d.conv (pixCluster (pixNo pix)) = { holder := some (pixNo pix), firstClock := s.dev.clock, firstCount := s.dev.tim.count.setWidth 24, start := start }
      ∧ (∀ j, j ≠ pixNo pix → d.pixel j = s.dev.pixel j) ∧ (∀ c, c ≠ pixCluster (pixNo pix) → d.conv c = s.dev.conv c))
  ∧ (∀ s pix start, s.dev.serviceRun = none → s.dev.pageOn (pixPage (pixNo pix)) = true → (s.dev.pixel (pixNo pix)).high = false →
    (s.dev.pixel (pixNo pix)).run = .armed → (s.dev.pixel (pixNo pix)).checking = false → s.dev.masked (pixNo pix) = false → s.dev.feInhibit = false →
    (s.dev.conv (pixCluster (pixNo pix))).holder.isSome = true →
    Completes (.discriminatorLeadingEdge pix false false start) s fun d => Leaves [.arr] (regs []) [] s.dev d
      ∧ (d.pixel (pixNo pix)).high = true ∧ (d.pixel (pixNo pix)).run = .firing ∧ (d.pixel (pixNo pix)).hit.c1 = s.dev.tim.count.setWidth 24
      ∧ (d.pixel (pixNo pix)).hit.granted = false ∧ (d.pixel (pixNo pix)).hit.contested = false ∧ d.arr.convs = s.dev.arr.convs
      ∧ (∀ j, j ≠ pixNo pix → d.pixel j = s.dev.pixel j))
  ∧ (∀ s pix contest edge start, s.dev.serviceRun = none → s.dev.pageOn (pixPage (pixNo pix)) = true → s.dev.masked (pixNo pix) = true →
    Completes (.discriminatorLeadingEdge pix contest edge start) s fun d => Leaves [.arr] (regs []) [] s.dev d
      ∧ d.pixel (pixNo pix) = { s.dev.pixel (pixNo pix) with high := true } ∧ d.arr.convs = s.dev.arr.convs
      ∧ (∀ j, j ≠ pixNo pix → d.pixel j = s.dev.pixel j))
  ∧ (∀ s pix stop, s.dev.serviceRun = none → s.dev.pageOn (pixPage (pixNo pix)) = true → (s.dev.pixel (pixNo pix)).high = true →
    (s.dev.pixel (pixNo pix)).run = .firing → (s.dev.conv (pixCluster (pixNo pix))).holder = some (pixNo pix) →
    Completes (.discriminatorTrailingEdge pix false stop) s fun d => Leaves [.arr] (regs []) [] s.dev d
      ∧ (d.pixel (pixNo pix)).high = false ∧ (d.pixel (pixNo pix)).run = .waiting ∧ (d.pixel (pixNo pix)).trailClock = s.dev.clock
      ∧ (d.pixel (pixNo pix)).hit.c2 = (s.dev.tim.count.setWidth 24).setWidth 11 ∧ (d.pixel (pixNo pix)).hit.p = stopCode stop
      ∧ (d.pixel (pixNo pix)).hit.s = startCode (s.dev.conv (pixCluster (pixNo pix))).start ∧ (d.pixel (pixNo pix)).hit.sat = false
      ∧ (d.conv (pixCluster (pixNo pix))).stopped = true ∧ (∀ j, j ≠ pixNo pix → d.pixel j = s.dev.pixel j))
  ∧ startCode 0 = 0 ∧ stopCode 0 = 80
  ∧ (∀ r : BitVec 80, r ≠ 0 → 1 ≤ (startCode r).toNat ∧ (startCode r).toNat ≤ 80 ∧ r.getLsbD ((startCode r).toNat - 1) = true ∧ ∀ k, (startCode r).toNat ≤ k → r.getLsbD k = false)
  ∧ (∀ r : BitVec 80, r ≠ 0 → r.getLsbD (stopCode r).toNat = true ∧ ∀ k, k < (stopCode r).toNat → r.getLsbD k = false)

/-- The ends of a pulse while no service step is under way: a ToT that saturates completes the hit with SAT and the stop code 0 (R56), the converter of a
stopped conversion is freed (R27, R97), and a pixel whose hit was accepted re-arms no earlier than 32 CT after its trailing edge (R25). A trim waits for an armed
pixel with its output low (R59); a gain change waits until a region has been quiet for 128 CT, opens its transition and raises event 5 (R52, R54).
Readings and choices of the model that it rests on: log entries 9 and 48. -/
def Obligations.PixelRecoveryTrimAndGain : Prop :=
  (∀ s pix, s.dev.serviceRun = none → s.dev.pageOn (pixPage (pixNo pix)) = true → (s.dev.pixel (pixNo pix)).run = .firing →
    ((s.dev.pixel (pixNo pix)).hit.c1 + 1024 - s.dev.tim.count.setWidth 24).toNat < 2 ^ 23 →
    (s.dev.conv (pixCluster (pixNo pix))).holder = some (pixNo pix) →
    Completes (.totSaturation pix) s fun d => Leaves [.arr, .clock, .tim] (regs []) [] s.dev d
      ∧ (d.pixel (pixNo pix)).run = .waiting ∧ (d.pixel (pixNo pix)).hit.sat = true ∧ (d.pixel (pixNo pix)).hit.p = 0
      ∧ d.tim.count.setWidth 24 = (s.dev.pixel (pixNo pix)).hit.c1 + 1024
      ∧ (d.pixel (pixNo pix)).hit.c2 = ((s.dev.pixel (pixNo pix)).hit.c1 + 1024).setWidth 11
      ∧ (∀ j, j ≠ pixNo pix → d.pixel j = s.dev.pixel j))
  ∧ (∀ s (die : Die) (cluster : Fin 8192), s.dev.serviceRun = none → (s.dev.conv (die.val * 8192 + cluster.val)).holder.isSome = true →
    (s.dev.conv (die.val * 8192 + cluster.val)).stopped = true →
    Completes (.converterFree die cluster) s fun d => Leaves [.arr] (regs []) [] s.dev d
      ∧ d.conv (die.val * 8192 + cluster.val) = {} ∧ (∀ c, c ≠ die.val * 8192 + cluster.val → d.conv c = s.dev.conv c) ∧ d.arr.pixels = s.dev.arr.pixels)
  ∧ (∀ s pix, s.dev.serviceRun = none → (s.dev.pixel (pixNo pix)).run = .resting →
    Completes (.pixelRearm pix) s fun d => Leaves [.arr, .clock, .tim] (regs []) [] s.dev d
      ∧ d.pixel (pixNo pix) = { s.dev.pixel (pixNo pix) with run := .armed }
      ∧ d.clock = max s.dev.clock ((s.dev.pixel (pixNo pix)).trailClock + 32) ∧ (∀ j, j ≠ pixNo pix → d.pixel j = s.dev.pixel j))
  ∧ (∀ s pix, s.dev.serviceRun = none → (s.dev.pixel (pixNo pix)).run = .armed → (s.dev.pixel (pixNo pix)).high = false →
    Completes (.trimApply pix) s fun d => Leaves [.arr] (regs []) [] s.dev d
      ∧ d.pixel (pixNo pix) = { s.dev.pixel (pixNo pix) with trim := (s.dev.pixel (pixNo pix)).entry.extractLsb' 0 5 }
      ∧ (∀ j, j ≠ pixNo pix → d.pixel j = s.dev.pixel j))
  ∧ (∀ s (die : Die) (region : Region), s.dev.pageOn (.pix die) = true → (s.dev.word (Reg.PIX.GAIN_PEND die.val (region.val / 32))).getLsbD (region.val % 32) = true →
    s.dev.pixelOr die region = false → (s.dev.arr.pixels.any fun p => p.2.checking && pixDie p.1 == die && pixRegion p.1 == region) = false →
    Effect (.gainApply die region) s
      (Device.raise (Device.markRange (((((s.dev.waitUntil ((s.dev.region (regNo die region)).quietSince + 128)).setFlag
          ⟨Reg.PIX.GAIN_ACT die.val (region.val / 32), region.val % 32, 1⟩ (!(s.dev.word (Reg.PIX.GAIN_ACT die.val (region.val / 32))).getLsbD (region.val % 32))).setFlag
          ⟨Reg.PIX.GAIN_PEND die.val (region.val / 32), region.val % 32, 1⟩ false).updRegion (regNo die region) fun r => { r with transition := true }).noteRange
          (regNo die region)) die region) (.pix die) 5))
  ∧ (∀ s die region, s.dev.serviceRun = none → (s.dev.region (regNo die region)).transition = true →
    Completes (.gainTransitionEnd die region) s fun d => Leaves [.arr] (regs []) [] s.dev d
      ∧ d.region (regNo die region) = { s.dev.region (regNo die region) with transition := false, settledAt := s.dev.clock }
      ∧ (∀ j, j ≠ regNo die region → d.region j = s.dev.region j) ∧ d.arr.pixels = s.dev.arr.pixels)

/-- Writes to the front-end registers of a powered die: POLARITY is taken only under FE_INHIBIT and is then stored, a write without it
raises event 6 and leaves POLARITY (R46, R49); VTH takes its code (R51); a region's gain change is pending while its request differs from its active range (R52). A fill keeps its
operands and sets BUSY (R81), and completes with every entry of its pixels changed within its mask (R59, R81).
Readings and choices of the model that it rests on: log entries 34 and 93. -/
def Obligations.FrontEndWritesAndFills : Prop :=
  (∀ s route (die : Die) data, s.dev.pageOn (.pix die) = true → s.dev.pixClaimed die.val = false →
    s.dev.feInhibit = true →
    Effect (.feCtrlWrite route die data) s
      (let d := s.dev.writeReg (routeCode route) (Reg.PIX.FE_CTRL die.val) [⟨1, 1, .rw⟩, ⟨4, 2, .rws⟩] data
       let d := { d with sea := { d.sea with trimStep := SMap.set (fun _ => 1) d.sea.trimStep die.val (d.fld (Reg.PIX.FE_CTRL_TRIM_STEP die.val)) } }
       (d.setFlag (Reg.PIX.FE_CTRL_POLARITY die.val) (data.getLsbD 0)).store
         { page := nvsHome (Reg.PIX.FE_CTRL die.val), words := [(Reg.PIX.FE_CTRL die.val, (data.getLsbD 0).toNat)], owner := .config (Reg.PIX.FE_CTRL die.val) }))
  ∧ (∀ s route (die : Die) data, s.dev.pageOn (.pix die) = true → s.dev.pixClaimed die.val = false →
    s.dev.feInhibit = false →
    Effect (.feCtrlWrite route die data) s
      (let d := s.dev.writeReg (routeCode route) (Reg.PIX.FE_CTRL die.val) [⟨1, 1, .rw⟩, ⟨4, 2, .rws⟩] data
       Device.raise { d with sea := { d.sea with trimStep := SMap.set (fun _ => 1) d.sea.trimStep die.val (d.fld (Reg.PIX.FE_CTRL_TRIM_STEP die.val)) } } (.pix die) 6))
  ∧ (∀ s (die : Die) data, s.dev.serviceRun = none → s.dev.pageOn (.pix die) = true → s.dev.pixClaimed die.val = false →
    Completes (.vthWrite die data) s fun d => Leaves [] (regs [Reg.PIX.VTH die.val]) [] s.dev d
      ∧ d.fld (Reg.PIX.VTH_CODE die.val) = data.toNat % 2 ^ (Reg.PIX.VTH_CODE die.val).width)
  ∧ (∀ s (die : Die) (word : Fin 4) data, s.dev.serviceRun = none → s.dev.pageOn (.pix die) = true →
    Completes (.gainLgWrite die word data) s fun d => Leaves [] (regs [Reg.PIX.GAIN_LG die.val word.val, Reg.PIX.GAIN_PEND die.val word.val]) [] s.dev d
      ∧ d.word (Reg.PIX.GAIN_LG die.val word.val) = data
      ∧ d.word (Reg.PIX.GAIN_PEND die.val word.val) = data ^^^ s.dev.word (Reg.PIX.GAIN_ACT die.val word.val))
  ∧ (∀ s route (die : Die) data, s.dev.serviceRun = none → s.dev.pageOn (.pix die) = true → s.dev.pixClaimed die.val = false →
    s.dev.flag (Reg.PIX.TBL_FILL_BUSY die.val) = false → data.getLsbD 31 = true →
    Completes (.tblFillGo route die data) s fun d => Leaves [.arr] (regs [Reg.PIX.TBL_FILL die.val]) [] s.dev d
      ∧ d.flag (Reg.PIX.TBL_FILL_BUSY die.val) = true
      ∧ d.arr = { s.dev.arr with fills := SMap.insert die.val ⟨data.extractLsb' 0 8, data.extractLsb' 8 8,
          (if data.getLsbD 24 then none else some (data.extractLsb' 16 7).toNat), data, routeCode route⟩ (SMap.erase s.dev.arr.fills die.val) })
  ∧ (∀ s (die : Die) f, s.dev.pageOn (.pix die) = true → s.dev.unsealed = true → s.dev.arr.fills.lookup die.val = some f →
    Effect (.tblFillDone die) s
      (let d := (fillPixels die.val f.region).foldl (fun (d : Device) (i : Nat) =>
         d.setEntry i (d.entryAfter (d.pixel i).entry (((d.pixel i).entry &&& ~~~f.mask) ||| (f.value &&& f.mask)))) s.dev
       { d.setFlag (Reg.PIX.TBL_FILL_BUSY die.val) false with arr := { d.arr with fills := SMap.erase d.arr.fills die.val } }))

/-- The window of a powered die's pixel table: while no fill runs, a write in UNSEALED gives its four entries to the
pixels of the window (R59, R79, R80), and a read gives four entries or sixteen statuses as one word, after which an AUTOINC address has moved on by as many columns (R80); CLEAR_STATUS makes every status UNTESTED (R61).
Readings and choices of the model that it rests on: log entries 19 and 25. -/
def Obligations.PixelTableWindow : Prop :=
  (∀ s route (die : Die) data, s.dev.pageOn (.pix die) = true → s.dev.pixClaimed die.val = false → s.dev.flag (Reg.PIX.TBL_FILL_BUSY die.val) = false → s.dev.unsealed = true →
    Effect (.tblDataWrite route die data) s (Device.stepTable (((s.dev.windowPixels die 4).zipIdx.map fun p => (p.1, data.extractLsb' (8 * p.2) 8)).foldl
      (fun (d : Device) (c : Nat × BitVec 8) => d.setEntry c.1 (d.entryAfter (d.pixel c.1).entry c.2)) s.dev) die 4))
  ∧ (∀ s (die : Die), s.dev.serviceRun = none → s.dev.pageOn (.pix die) = true → s.dev.flag (Reg.PIX.TBL_FILL_BUSY die.val) = false →
    Completes (.tblDataRead die) s fun d => Leaves [.rdata] (regs [Reg.PIX.TBL_ADDR die.val]) [] s.dev d
      ∧ d.word (Reg.PIX.TBL_ADDR die.val) = (s.dev.stepTable die 4).word (Reg.PIX.TBL_ADDR die.val)
      ∧ d.rdata = BitVec.ofNat 32 ((s.dev.windowPixels die 4).zipIdx.map fun p => (s.dev.pixel p.1).entry.toNat * 256 ^ p.2).sum)
  ∧ (∀ s (die : Die), s.dev.serviceRun = none → s.dev.pageOn (.pix die) = true →
    Completes (.statDataRead die) s fun d => Leaves [.rdata] (regs [Reg.PIX.TBL_ADDR die.val]) [] s.dev d
      ∧ d.word (Reg.PIX.TBL_ADDR die.val) = (s.dev.stepTable die 16).word (Reg.PIX.TBL_ADDR die.val)
      ∧ d.rdata = BitVec.ofNat 32 ((s.dev.windowPixels die 16).zipIdx.map fun p => (s.dev.pixel p.1).status.toNat * 4 ^ p.2).sum)
  ∧ (∀ s (die : Die), s.dev.pageOn (.pix die) = true → s.dev.pixClaimed die.val = false → Effect (.clearStatus die) s
      ((((s.dev.arr.pixels.filter fun p => pixDie p.1 == die && p.2.status != 0).map (·.1)).foldl
        (fun (d : Device) (i : Nat) => d.updPixel i fun p => { p with status := 0 }) s.dev).countStatuses die))
  ∧ (∀ (d : Device) (die : Die) n, d.flag (Reg.PIX.TBL_ADDR_AUTOINC die.val) = false → d.stepTable die n = d)
  ∧ (∀ (d : Device) (die : Die) n, d.flag (Reg.PIX.TBL_ADDR_AUTOINC die.val) = true → d.fld (Reg.PIX.TBL_ADDR_COL die.val) + n < 512 →
    (d.stepTable die n).fld (Reg.PIX.TBL_ADDR_COL die.val) = d.fld (Reg.PIX.TBL_ADDR_COL die.val) + n ∧ (d.stepTable die n).fld (Reg.PIX.TBL_ADDR_ROW die.val) = d.fld (Reg.PIX.TBL_ADDR_ROW die.val))
  ∧ (∀ (d : Device) (die : Die) n, d.flag (Reg.PIX.TBL_ADDR_AUTOINC die.val) = true → 512 ≤ d.fld (Reg.PIX.TBL_ADDR_COL die.val) + n →
    (d.stepTable die n).fld (Reg.PIX.TBL_ADDR_COL die.val) = 0 ∧ (d.stepTable die n).fld (Reg.PIX.TBL_ADDR_ROW die.val) = (d.fld (Reg.PIX.TBL_ADDR_ROW die.val) + 1) % 256)

/-- Injection and the background check of a powered die: a START above service level 0 pauses a check, loads INJ_LEFT with at least one pulse and sets BUSY (R63, R65, R71); a STOP
ends the sequence, with event 4 and INJ_LEFT as it is (R65); a pulse sends its code, the direction of its step and the times of both its steps to the pixels with INJ_EN, and the last of a sequence ends it (R59, R62, R64, R65). A slot of the check holds the region's
pixels that are armed with their output low, and skips and counts the others (R68); each returns no earlier than 5120 CT after the check began (R68); at the slot's end, no earlier than its time (R67), the check moves to the next region, and
after the last one counts a cycle (R69, R70).
Readings and choices of the model that it rests on: log entries 9, 63 and 93. -/
def Obligations.InjectionAndBackgroundCheck : Prop :=
  (∀ s (die : Die), s.dev.pageOn (.pix die) = true → s.dev.pixClaimed die.val = false → s.dev.enabled (.pix die) = true →
    s.dev.flag (Reg.PIX.INJ_CTRL_BUSY die.val) = false → s.dev.fld Reg.HLT.SERVICE_LEVEL_LEVEL ≠ 0 →
    Effect (.injStart die) s
      (let n := max 1 (s.dev.fld (Reg.PIX.INJ_COUNT_COUNT die.val))
       let i : InjSt := { s.dev.injOf die with
         left := n, given := 0, next := s.dev.clock + (2 ^ 18 - s.dev.ct.toNat) + s.dev.fld (Reg.PIX.INJ_OFFSET_CT die.val)
         service := none, async := s.dev.flag (Reg.PIX.INJ_CTRL_ASYNC die.val) }
       let d := ((((s.dev.pauseCheck die).setInj die i).setFld (Reg.PIX.INJ_LEFT_COUNT die.val) n).setFlag (Reg.PIX.INJ_CTRL_BUSY die.val) true).monWake
       { d with mon := { d.mon with senseWait := d.mon.senseWait ++ [die.val] } }))
  ∧ (∀ s (die : Die), s.dev.serviceRun = none → s.dev.pageOn (.pix die) = true → s.dev.pixClaimed die.val = false → s.dev.flag (Reg.PIX.INJ_CTRL_BUSY die.val) = true →
    Completes (.injStop die) s fun d => d.flag (Reg.PIX.INJ_CTRL_BUSY die.val) = false ∧ (d.sticky (.pix die)).getLsbD 4 = true
      ∧ d.fld (Reg.PIX.INJ_LEFT_COUNT die.val) = s.dev.fld (Reg.PIX.INJ_LEFT_COUNT die.val) ∧ d.clock = s.dev.clock ∧ d.tim = s.dev.tim ∧ d.sea = s.dev.sea)
  ∧ (∀ s (die : Die), s.dev.pageOn (.pix die) = true → s.dev.flag (Reg.PIX.INJ_CTRL_BUSY die.val) = true → (s.dev.injOf die).service = none →
    Effect (.injPulse die) s
      (let i := s.dev.injOf die
       let d := if i.async then s.dev else s.dev.waitUntil i.next
       let now := d.tim.count.toNat
       let d := d.send (.inject die.val (s.dev.fld (Reg.PIX.INJ_DAC_CODE die.val)) (s.dev.flag (Reg.PIX.FE_CTRL_POLARITY die.val)) now (now + s.dev.injPeriod die / 2) (s.dev.injected die.val))
       let d := (if i.async then d else d.pulseWindows die.val).senseDue die
       let d := (d.setInj die { i with
         left := i.left - 1, given := i.given + 1, next := i.next + s.dev.injPeriod die, pulse := if i.async then i.pulse else some now }).setFld
           (Reg.PIX.INJ_LEFT_COUNT die.val) (i.left - 1)
       if i.left ≤ 1 then d.endInj die else d))
  ∧ (∀ s (die : Die) (r : Region), s.dev.scanOf die.val = none → r = Fin.ofNat 128 (s.dev.fld (Reg.PIX.CHECK_POS_REGION die.val)) → s.dev.checkRuns die = true →
    (s.dev.region (regNo die r)).transition = false → (s.dev.checkOf die).delayed = false →
    Effect (.checkSlotStart die) s
      (let taking := s.dev.takingPart die r
       let ready := taking.filter fun i => (s.dev.pixel i).run == .armed && !(s.dev.pixel i).high
       let skipped := taking.length - ready.length
       let d := (ready.foldl (fun (d : Device) (i : Nat) => d.updPixel i fun p => { p with checking := true }) s.dev).setCheck die { inSlot := true, since := s.dev.clock, checked := ready }
       if skipped = 0 then d else (d.count (Reg.PIX.CHECK_SKIPPED die.val) skipped).raise (.pix die) 2))
  ∧ (∀ s pix, s.dev.serviceRun = none → (s.dev.pixel (pixNo pix)).checking = true →
    Completes (.checkPixelReconnect pix) s fun d => Leaves [.arr, .clock, .tim] (regs []) [] s.dev d
      ∧ d.pixel (pixNo pix) = { s.dev.pixel (pixNo pix) with checking := false } ∧ d.clock = max s.dev.clock (s.dev.checkedSince pix.die + 5120)
      ∧ (∀ j, j ≠ pixNo pix → d.pixel j = s.dev.pixel j))
  ∧ (∀ s (die : Die) found, s.dev.serviceRun = none → s.dev.scanOf die.val = none → s.dev.pageOn (.pix die) = true → (s.dev.checkOf die).inSlot = true → (s.dev.checkOf die).pausedAt = none →
    Completes (.checkSlotEnd die found) s fun d => d.checkOf die = {} ∧ d.clock = max s.dev.clock ((s.dev.checkOf die).since + s.dev.slotTicks die)
      ∧ d.fld (Reg.PIX.CHECK_POS_REGION die.val) = (s.dev.fld (Reg.PIX.CHECK_POS_REGION die.val) + 1) % 128
      ∧ d.fld (Reg.PIX.CHECK_POS_CYCLES die.val) = (s.dev.fld (Reg.PIX.CHECK_POS_CYCLES die.val) + if s.dev.fld (Reg.PIX.CHECK_POS_REGION die.val) = 127 then 1 else 0)
          % 2 ^ (Reg.PIX.CHECK_POS_CYCLES die.val).width)
  ∧ (∀ s (die : Die), s.dev.pageOn (.pix die) = true → s.dev.scanOf die.val = none → (s.dev.checkOf die).inSlot = true → (s.dev.checkOf die).pausedAt = none →
    (s.dev.checkOf die).checked = [] → s.dev.fld (Reg.PIX.CHECK_POS_REGION die.val) < 127 →
    Effect (.checkSlotEnd die []) s (((((s.dev.waitUntil ((s.dev.checkOf die).since + s.dev.slotTicks die)).setFld (Reg.PIX.CHECK_POS_REGION die.val)
      (s.dev.fld (Reg.PIX.CHECK_POS_REGION die.val) + 1)).setCheck die {})).countStatuses die))

/-- Hits through a region and its band: the waiter that the arbitration serves is accepted while the region takes hits and has room: its hit is written and counted, the sixteenth entry is counted and raises event 2, and the waiter is free (R119-R121, R25); one
the skim cuts is counted only (R119); marks are limited to the capacity (R125); a test hit waits in TEST mode (R146); a band that is enabled and free takes the next
region's hit (R128), and an owed LOSS item before it (R134); a flush empties the region, counts all it lost, waiting hits and a test hit among it, and raises event 4 (R137).
Readings and choices of the model that it rests on: log entries 3, 91, 110 and 138. -/
def Obligations.RegionAndBandFlow : Prop :=
  (∀ s die region prio w, s.dev.served die region = (prio, some w) → s.dev.regionTakes die region = true →
    s.dev.fld (Reg.REG.SKIM_MIN_CT die.val region.val) ≤ coarseTot (s.dev.waiterHit die region w) → (s.dev.region (regNo die region)).fifo.length < 15 →
    Effect (.regionAcceptHit die region) s
      ((((((s.dev.updRegion (regNo die region) fun r => { r with fifo := r.fifo ++ [s.dev.waiterHit die region w] }).count
        (Reg.REG.CNT_HITS die.val region.val)).regionLevel die region).waiterGone die region w).updRegion (regNo die region) fun r => { r with arb := prio })))
  ∧ (∀ s die region prio w, s.dev.served die region = (prio, some w) → s.dev.regionTakes die region = true →
    s.dev.fld (Reg.REG.SKIM_MIN_CT die.val region.val) ≤ coarseTot (s.dev.waiterHit die region w) → (s.dev.region (regNo die region)).fifo.length = 15 →
    Effect (.regionAcceptHit die region) s
      (((((((s.dev.updRegion (regNo die region) fun r => { r with fifo := r.fifo ++ [s.dev.waiterHit die region w] }).count
        (Reg.REG.CNT_HITS die.val region.val)).count (Reg.REG.CNT_FULL die.val region.val)).raise (.reg die region) 2).regionLevel die region).waiterGone die region w).updRegion
        (regNo die region) fun r => { r with arb := prio }))
  ∧ (∀ s die region prio w, s.dev.served die region = (prio, some w) → s.dev.regionTakes die region = true →
    coarseTot (s.dev.waiterHit die region w) < s.dev.fld (Reg.REG.SKIM_MIN_CT die.val region.val) →
    Effect (.regionAcceptHit die region) s
      (((s.dev.count (Reg.REG.CNT_SKIM_CUT die.val region.val)).waiterGone die region w).updRegion (regNo die region) fun r => { r with arb := prio }))
  ∧ (∀ s data, s.dev.serviceRun = none → s.dev.pageOn .evb = true →
    Completes (.watermarkWrite .outputQueue data) s fun d => Leaves [] (regs [Reg.EVB.OQ_WM]) [] s.dev d
      ∧ d.fld Reg.EVB.OQ_WM_HIGH = (limitMarks 8192 (Reg.EVB.OQ_WM_HIGH.of data) (Reg.EVB.OQ_WM_LOW.of data)).1
      ∧ d.fld Reg.EVB.OQ_WM_LOW = (limitMarks 8192 (Reg.EVB.OQ_WM_HIGH.of data) (Reg.EVB.OQ_WM_LOW.of data)).2)
  ∧ (∀ s (die : Die) data, s.dev.pageOn (.die die) = true →
    Effect (.watermarkWrite (.channels die) data) s ([0, 1, 2, 3].foldl (fun (d : Device) (c : Nat) => d.chanLevel die c)
      ((s.dev.setFld (Reg.DIE.CH_WM_HIGH die.val) (limitMarks 32 ((Reg.DIE.CH_WM_HIGH die.val).of data) ((Reg.DIE.CH_WM_LOW die.val).of data)).1).setFld (Reg.DIE.CH_WM_LOW die.val)
        (limitMarks 32 ((Reg.DIE.CH_WM_HIGH die.val).of data) ((Reg.DIE.CH_WM_LOW die.val).of data)).2)))
  ∧ (∀ s (die : Die) region data, s.dev.pageOn (.reg die region) = true →
    Effect (.watermarkWrite (.region die region) data) s
      (((s.dev.setFld (Reg.REG.WM_HIGH die.val region.val) (limitMarks 16 ((Reg.REG.WM_HIGH die.val region.val).of data) ((Reg.REG.WM_LOW die.val region.val).of data)).1).setFld (Reg.REG.WM_LOW die.val region.val)
        (limitMarks 16 ((Reg.REG.WM_HIGH die.val region.val).of data) ((Reg.REG.WM_LOW die.val region.val).of data)).2).regionLevel die region))
  ∧ (∀ cap high low : Nat, 1 ≤ cap → 1 ≤ (limitMarks cap high low).1 ∧ (limitMarks cap high low).1 ≤ cap ∧ (limitMarks cap high low).2 < (limitMarks cap high low).1
      ∧ (1 ≤ high → high ≤ cap → (limitMarks cap high low).1 = high) ∧ (low < (limitMarks cap high low).1 → (limitMarks cap high low).2 = low))
  ∧ (∀ s die region data, s.dev.pageOn (.reg die region) = true → s.dev.flag (fTest (.reg die region)) = true → (s.dev.region (regNo die region)).test = none →
    Effect (.testHitOffer die region data) s ((s.dev.updRegion (regNo die region) fun r => { r with test := some (s.dev.testHit die region data) }).setFlag
      (Reg.REG.FIFO_STATUS_TEST_PENDING die.val region.val) true))
  ∧ (∀ s (die : Die) (band : Fin 8) (region : Region) h rest, s.dev.enabled (.die die) = true → (s.dev.word (Reg.DIE.BAND_CTRL die.val)).getLsbD band.val = true →
    (s.dev.band (bandNo die band)).out = none → (s.dev.band (bandNo die band)).owed = [] → s.dev.nextRegion die band = some region →
    (s.dev.region (regNo die region)).owed = [] → (s.dev.region (regNo die region)).fifo = h :: rest →
    Effect (.bandGrant die band) s (((s.dev.updRegion (regNo die region) fun r => { r with fifo := rest, wd := 0 }).updBand (bandNo die band)
      fun b => { b with out := some (.hit h), last := region.val % 16 }).regionLevel die region))
  ∧ (∀ s (die : Die) (band : Fin 8) (region : Region) l rest, s.dev.enabled (.die die) = true → (s.dev.word (Reg.DIE.BAND_CTRL die.val)).getLsbD band.val = true →
    (s.dev.band (bandNo die band)).out = none → (s.dev.band (bandNo die band)).owed = [] → s.dev.nextRegion die band = some region →
    (s.dev.region (regNo die region)).owed = l :: rest →
    Effect (.bandGrant die band) s ((s.dev.updRegion (regNo die region) fun r => { r with owed := rest }).updBand (bandNo die band)
      fun b => { b with out := some (.loss l region.val), last := region.val % 16 }))
  ∧ (∀ s (die : Die) (band : Fin 8) (region : Nat) rest, s.dev.enabled (.die die) = true → (s.dev.word (Reg.DIE.BAND_CTRL die.val)).getLsbD band.val = true →
    (s.dev.band (bandNo die band)).out = none → (s.dev.band (bandNo die band)).owed = region :: rest →
    Effect (.bandGrant die band) s (s.dev.updBand (bandNo die band) fun b => { b with out := some (.loss 2 region), owed := rest }))
  ∧ (∀ s die region, s.dev.pageOn (.reg die region) = true →
    Effect (.regionFlush die region) s ((((((((s.dev.waitingPixels die region).foldl (fun d i => d.acceptFrom i) s.dev)).updRegion (regNo die region) fun r => { r with fifo := [], test := none }).setFlag
      (Reg.REG.FIFO_STATUS_TEST_PENDING die.val region.val) false).count (Reg.REG.CNT_FLUSH die.val region.val)
        ((s.dev.region (regNo die region)).fifo.length + (s.dev.waitingPixels die region).length + (s.dev.region (regNo die region)).test.toList.length)).regionLevel
      die region).raise (.reg die region) 4))

/-- Die-to-die channels: the merger takes a band's whole item when the queue has room for it, or first only its first word (R129, R130, R138); the words of a channel cross to its receiver, and a word with an
uncorrectable finding is discarded and the receiver skips to the next item (R135); a flush of a DOWN channel discards and counts all its whole items (R138, R139), and a flush whose queue has drained ends with event 5, with event 6 too where the merger stalled inside an item (R138); a restart
brings a DOWN channel up (R148), and its check after 1 ms leaves one up that delivered or had nothing to send, and takes one down that had (R148). A band enabled again starts with a clean watchdog (R142); a
watchdog reset frees a converter, drops a stuck pixel's hit, a FIFO entry, a band's item or the item at the head of a channel, owes the LOSS item that tells of it, and is counted (R134, R141). The pins follow their sources (R126, R127, R149).
Readings and choices of the model that it rests on: log entries 9, 91, 106, 108 and 109. -/
def Obligations.ChannelsAndFlowControl : Prop :=
  (∀ s (die : Die) (chan : Fin 4) b it, s.dev.mergeRoom die chan.val it = true → s.dev.nextBand die chan.val = some b → (s.dev.band (die.val * 8 + b)).out = some it →
    Effect (.channelMerge die chan false) s (((s.dev.takeFromBand (die.val * 8 + b) it).updChan (chanNo die chan.val)
      fun x => { x with queue := x.queue ++ itemWords it, merging := [], last := b, offered := true }).chanLevel die chan.val))
  ∧ (∀ s (die : Die) (chan : Fin 4) b it, s.dev.mergeRoom die chan.val it = true → s.dev.nextBand die chan.val = some b → (s.dev.band (die.val * 8 + b)).out = some it →
    Effect (.channelMerge die chan true) s (((s.dev.takeFromBand (die.val * 8 + b) it).updChan (chanNo die chan.val)
      fun x => { x with queue := x.queue ++ (itemWords it).take 1, merging := (itemWords it).drop 1, last := b, offered := true }).chanLevel die chan.val))
  ∧ (∀ s (die : Die) (chan : Fin 4) arrived w rest, s.dev.domOn 15 = true → s.dev.domOn (25 + 11 * die.val) = true → s.dev.hasDie die.val = true →
    s.dev.chanUp die chan.val = true → rxWords (s.dev.rx (chanNo die chan.val)) < 64 → (s.dev.chan (chanNo die chan.val)).queue = w :: rest → wordLast w = true →
    Effect (.d2dWordReceive die chan arrived .ok) s (Device.rxWord (((s.dev.updChan (chanNo die chan.val) fun x =>
      { x with queue := rest, wd := 0, delivered := true }).count (Reg.DIE.CNT_CH_ITEMS die.val chan.val)).chanLevel die chan.val) (chanNo die chan.val) (arrived.getD w)))
  ∧ (∀ s (die : Die) (chan : Fin 4) arrived w rest, s.dev.domOn 15 = true → s.dev.domOn (25 + 11 * die.val) = true → s.dev.hasDie die.val = true →
    s.dev.chanUp die chan.val = true → rxWords (s.dev.rx (chanNo die chan.val)) < 64 → (s.dev.chan (chanNo die chan.val)).queue = w :: rest → wordLast w = false →
    Effect (.d2dWordReceive die chan arrived .ok) s (Device.rxWord ((s.dev.updChan (chanNo die chan.val) fun x => { x with queue := rest }).chanLevel die chan.val)
      (chanNo die chan.val) (arrived.getD w)))
  ∧ (∀ s (die : Die) (chan : Fin 4) arrived w rest, s.dev.domOn 15 = true → s.dev.domOn (25 + 11 * die.val) = true → s.dev.hasDie die.val = true →
    s.dev.chanUp die chan.val = true → rxWords (s.dev.rx (chanNo die chan.val)) < 64 → (s.dev.chan (chanNo die chan.val)).queue = w :: rest → wordLast w = false →
    (s.dev.rx (chanNo die chan.val)).skipping = false →
    Effect (.d2dWordReceive die chan arrived .uncorrectable) s ((Device.rxDiscard ((s.dev.updChan (chanNo die chan.val) fun x => { x with queue := rest }).chanLevel die chan.val)
      (chanNo die chan.val)).updRx (chanNo die chan.val) fun x => { x with prog := [], skipping := true }))
  ∧ (∀ s (die : Die), s.dev.pageOn (.die die) = true → (s.dev.word (Reg.DIE.CH_STATUS die.val)).getLsbD 16 = false → s.dev.chanUp die 0 = false →
    Effect (.channelFlush die 1) s
      (let d := (((s.dev.updChan (chanNo die 0) fun x => { x with queue := [], merging := [], dropping := false }).count (Reg.DIE.CNT_FLUSH_DISCARD die.val 0)
         (wholeItems (s.dev.chan (chanNo die 0)).queue)).chanLevel die 0)
       if d.chanUp die 0 then d.setChanBit die 16 0 true else d.raise (.die die) 5))
  ∧ (∀ s (die : Die) chans, s.dev.pageOn (.die die) = true → Effect (.channelFlush die chans) s ((chansOf chans).foldl (fun d c => d.startFlush die c) s.dev))
  ∧ (∀ s (die : Die) (chan : Fin 4), s.dev.pageOn (.die die) = true → (s.dev.word (Reg.DIE.CH_STATUS die.val)).getLsbD (16 + chan.val) = true →
    (s.dev.chan (chanNo die chan.val)).queue = [] → (s.dev.chan (chanNo die chan.val)).merging = [] →
    Effect (.channelFlushDone die chan false) s ((s.dev.setChanBit die 16 chan.val false).raise (.die die) 5))
  ∧ (∀ s (die : Die) (chan : Fin 4), s.dev.pageOn (.die die) = true → (s.dev.word (Reg.DIE.CH_STATUS die.val)).getLsbD (16 + chan.val) = true →
    (s.dev.chan (chanNo die chan.val)).queue = [] → (s.dev.chan (chanNo die chan.val)).merging ≠ [] →
    Effect (.channelFlushDone die chan true) s (((((s.dev.updChan (chanNo die chan.val) fun x => { x with merging := [], dropping := false }).count
      (Reg.DIE.CNT_FLUSH_TRUNC die.val chan.val)).raise (.die die) 6).setChanBit die 16 chan.val false).raise (.die die) 5))
  ∧ (∀ s (die : Die), s.dev.pageOn (.die die) = true → s.dev.chanUp die 0 = false →
    Effect (.channelRestart die 1) s
      (let d := (s.dev.setChanBit die 0 0 true).updChan (chanNo die 0) fun x =>
         { x with wd := 0, restart := some s.dev.clock, offered := !x.queue.isEmpty || !x.merging.isEmpty, delivered := false }
       d.setFld (Reg.DIE.CH_STATUS_REROUTED die.val) (d.rerouted die)))
  ∧ (∀ s (die : Die) chans, s.dev.pageOn (.die die) = true → Effect (.channelRestart die chans) s ((chansOf chans).foldl (fun d c => d.restartChan die c) s.dev))
  ∧ (∀ s (die : Die) (chan : Fin 4) t, (s.dev.chan (chanNo die chan.val)).restart = some t →
    (s.dev.chan (chanNo die chan.val)).offered = false ∨ (s.dev.chan (chanNo die chan.val)).delivered = true ∨ s.dev.domOn 15 = false →
    Effect (.channelRestartCheck die chan) s ((s.dev.waitUntil (t + Config.msCt)).updChan (chanNo die chan.val) fun x => { x with restart := none }))
  ∧ (∀ s (die : Die) (chan : Fin 4) t, (s.dev.chan (chanNo die chan.val)).restart = some t →
    (s.dev.chan (chanNo die chan.val)).offered = true → (s.dev.chan (chanNo die chan.val)).delivered = false → s.dev.domOn 15 = true →
    Effect (.channelRestartCheck die chan) s (((s.dev.waitUntil (t + Config.msCt)).updChan (chanNo die chan.val) fun x => { x with restart := none }).chanDown die chan.val))
  ∧ (∀ s (die : Die) data, s.dev.serviceRun = none → s.dev.pageOn (.die die) = true →
    Completes (.bandEnableWrite die data) s fun d => Leaves [.arr] (regs [Reg.DIE.BAND_CTRL die.val]) [] s.dev d
      ∧ d.fld (Reg.DIE.BAND_CTRL_EN die.val) = data.toNat % 2 ^ (Reg.DIE.BAND_CTRL_EN die.val).width
      ∧ ∀ b, b < 8 → d.band (die.val * 8 + b) = if data.getLsbD b && !(s.dev.word (Reg.DIE.BAND_CTRL die.val)).getLsbD b
          then { s.dev.band (die.val * 8 + b) with wd := 0, failed := false } else s.dev.band (die.val * 8 + b))
  ∧ (∀ s (pix : Pix), s.dev.pageOn (pixPage (pixNo pix)) = true → (s.dev.pixel (pixNo pix)).run = .firing → (s.dev.conv (pixCluster (pixNo pix))).holder = some (pixNo pix) →
    Effect (.handshakeWatchdogReset (.converter pix)) s
      (((s.dev.freeConv (pixCluster (pixNo pix))).updPixel (pixNo pix) fun p => { p with hit := { p.hit with wdFreed := true } }).regionWd pix.die (pixRegion (pixNo pix)) none))
  ∧ (∀ s (pix : Pix), s.dev.regionTakes pix.die (pixRegion (pixNo pix)) = true → (s.dev.pixel (pixNo pix)).run = .waiting → (s.dev.pixel (pixNo pix)).stuck < 7 →
    (s.dev.region (regNo pix.die (pixRegion (pixNo pix)))).fifo.length < 16 →
    Effect (.handshakeWatchdogReset (.pixel pix)) s
      (((s.dev.acceptFrom (pixNo pix)).regionWd pix.die (pixRegion (pixNo pix)) (some 0)).updPixel (pixNo pix) fun p => { p with stuck := (s.dev.pixel (pixNo pix)).stuck + 1 }))
  ∧ (∀ s die region (e : Fin 16), s.dev.pageOn (.reg die region) = true → e.val < (s.dev.region (regNo die region)).fifo.length → (s.dev.region (regNo die region)).fifo.length < 16 →
    (s.dev.region (regNo die region)).wd < 7 →
    Effect (.handshakeWatchdogReset (.fifo die region e)) s
      (((s.dev.updRegion (regNo die region) fun r => { r with fifo := r.fifo.eraseIdx e.val, wd := r.wd + 1 }).regionWd die region (some 1)).regionLevel die region))
  ∧ (∀ s (die : Die) (band : Fin 8) h, s.dev.pageOn (.die die) = true → (s.dev.band (bandNo die band)).out = some (.hit h) → s.dev.busRoom die band.val (.hit h) = true →
    (s.dev.band (bandNo die band)).wd < 7 →
    Effect (.handshakeWatchdogReset (.band die band)) s
      ((((s.dev.updBand (bandNo die band) fun x => { x with out := none, owed := x.owed ++ [16 * (h.row.toNat / 32) + h.col.toNat / 32], wd := x.wd + 1 }).upset
        Reg.HLT.UPS_WD).count (Reg.DIE.CNT_BAND_WD die.val band.val)).raise (.die die) 1))
  ∧ (∀ s (die : Die) (chan : Fin 4), s.dev.pageOn (.die die) = true → s.dev.domOn 15 = true → s.dev.chanUp die chan.val = true → rxWords (s.dev.rx (chanNo die chan.val)) < 64 →
    (s.dev.chan (chanNo die chan.val)).queue ≠ [] → (headItem (s.dev.chan (chanNo die chan.val)).queue).any (fun w => wordLast w) = true → (s.dev.chan (chanNo die chan.val)).wd < 7 →
    Effect (.handshakeWatchdogReset (.channel die chan)) s
      (((((s.dev.upset Reg.HLT.UPS_WD).updChan (chanNo die chan.val) fun x => { x with queue := x.queue.drop (headItem x.queue).length, wd := x.wd + 1 }).updRx (chanNo die chan.val)
        fun x => { x with prog := [], skipping := false }).rxDiscard (chanNo die chan.val)).chanLevel die chan.val))
  ∧ (∀ s, s.dev.serviceRun = none → (s.dev.fld Reg.HLT.SERVICE_LEVEL_LEVEL = 0 ∨ s.dev.domOn 4 = false) →
    Completes .flowControlPinUpdate s fun d => Leaves [.arr] (regs []) [] s.dev d ∧ d.arr.busy = true ∧ d.arr.warn = true)
  ∧ (∀ s, s.dev.serviceRun = none → s.dev.fld Reg.HLT.SERVICE_LEVEL_LEVEL ≠ 0 → s.dev.domOn 4 = true →
    Completes .flowControlPinUpdate s fun d => Leaves [.arr] (regs []) [] s.dev d
      ∧ d.arr.busy = ((s.dev.word Reg.EVB.FC_BUSY_SRC).toNat &&& s.dev.flowSources != 0 || (s.dev.arr.busy && decide (s.dev.clock < s.dev.arr.busySince + 64)))
      ∧ d.arr.warn = ((s.dev.word Reg.EVB.FC_WARN_SRC).toNat &&& s.dev.flowSources != 0 || (s.dev.arr.warn && decide (s.dev.clock < s.dev.arr.warnSince + 64))))

/-- TREF and the timing PLLs: a measurement shows TREF's frequency; one inside the window ends a loss by frequency, one outside it loses TREF, and with it every PLL's lock and LOCK (R82, R84, R85); a gap loses TREF, and the first
edge after a loss brings it back (R82); PLLs that lock while TREF is present join PLL_LOCK, and LOCK is 1 while two of them are locked: the return of a LOCK that was lost raises LOCK_RESTORED and sets SYNC_STALE (R84, R86); a PLL's loss
clears its bit, takes it out of the vote and restarts it, and LOCK, when it falls, raises ISLAND_FAULT (R83, R85); a vote error of a locked PLL is counted, raises event 3 and loads its counter from the majority, that of an unlocked one is none (R83);
a restart clears all PLL bits (R116); a DLL's lock and its loss move its bit, and the loss raises event 4 (R94).
Readings and choices of the model that it rests on: log entries 64, 92 and 113. -/
def Obligations.TrefAndPllCommands : Prop :=
  (∀ s (khz : BitVec 18), s.dev.serviceRun = none → s.dev.domOn 1 = true → trefInWindow khz.toNat = true →
    Completes (.trefFreqMeasure khz) s fun d => Leaves [.tim] (regs [Reg.TIM0.TREF_FREQ, Reg.TIM0.STATUS]) [] s.dev d ∧ d.fld Reg.TIM0.TREF_FREQ_KHZ = khz.toNat
      ∧ d.flag Reg.TIM0.STATUS_TREF_PRESENT = (s.dev.tim.freqLost || s.dev.flag Reg.TIM0.STATUS_TREF_PRESENT)
      ∧ d.flag Reg.TIM0.STATUS_LOCK = s.dev.flag Reg.TIM0.STATUS_LOCK ∧ d.tim = { s.dev.tim with refclk := true, freqLost := false })
  ∧ (∀ s (khz : BitVec 18), s.dev.serviceRun = none → s.dev.domOn 1 = true → (s.dev.tim.refclk = true ∨ khz ≠ 0) → trefInWindow khz.toNat = false → s.dev.flag Reg.TIM0.STATUS_TREF_PRESENT = true →
    Completes (.trefFreqMeasure khz) s fun d => Leaves [.tim, .wadcs] (regs [Reg.TIM0.TREF_FREQ, Reg.TIM0.STATUS]) [.tim0] s.dev d ∧ d.fld Reg.TIM0.TREF_FREQ_KHZ = khz.toNat
      ∧ d.flag Reg.TIM0.STATUS_TREF_PRESENT = false ∧ d.fld Reg.TIM0.STATUS_PLL_LOCK = 0 ∧ d.flag Reg.TIM0.STATUS_LOCK = false
      ∧ (s.dev.flag Reg.TIM0.STATUS_LOCK = true → s.dev.pageOn .tim0 = true → (d.sticky .tim0).getLsbD 0 = true)
      ∧ d.tim = { s.dev.tim with refclk := true, freqLost := decide (0 < khz.toNat) })
  ∧ (∀ s (khz : BitVec 18), s.dev.serviceRun = none → s.dev.domOn 1 = true → (s.dev.tim.refclk = true ∨ khz ≠ 0) → trefInWindow khz.toNat = false → s.dev.flag Reg.TIM0.STATUS_TREF_PRESENT = false →
    Completes (.trefFreqMeasure khz) s fun d => Leaves [.tim] (regs [Reg.TIM0.TREF_FREQ]) [] s.dev d ∧ d.fld Reg.TIM0.TREF_FREQ_KHZ = khz.toNat ∧ d.tim = { s.dev.tim with refclk := true })
  ∧ (∀ s, s.dev.serviceRun = none → s.dev.domOn 1 = true →
    Completes .trefEdgeResume s fun d => Leaves [.tim] (regs [Reg.TIM0.STATUS]) [] s.dev d ∧ d.flag Reg.TIM0.STATUS_TREF_PRESENT = true
      ∧ d.flag Reg.TIM0.STATUS_LOCK = s.dev.flag Reg.TIM0.STATUS_LOCK ∧ d.tim = { s.dev.tim with freqLost := false })
  ∧ (∀ s, s.dev.serviceRun = none → s.dev.domOn 1 = true →
    Completes .trefGap s fun d => Leaves [.tim, .wadcs] (regs [Reg.TIM0.STATUS]) [.tim0] s.dev d ∧ d.flag Reg.TIM0.STATUS_TREF_PRESENT = false
      ∧ d.fld Reg.TIM0.STATUS_PLL_LOCK = 0 ∧ d.flag Reg.TIM0.STATUS_LOCK = false
      ∧ (s.dev.flag Reg.TIM0.STATUS_LOCK = true → s.dev.pageOn .tim0 = true → (d.sticky .tim0).getLsbD 0 = true) ∧ d.tim = { s.dev.tim with freqLost := false })
  ∧ (∀ s plls, s.dev.serviceRun = none → s.dev.domOn 1 = true → s.dev.flag Reg.TIM0.STATUS_TREF_PRESENT = true →
    Completes (.lockAcquired plls) s fun d => Leaves [.tim, .trg] (regs [Reg.TIM0.STATUS]) [.tim0] s.dev d ∧ d.pllLocks = s.dev.pllLocks ||| plls
      ∧ d.flag Reg.TIM0.STATUS_LOCK = decide (2 ≤ ones3 (s.dev.pllLocks ||| plls)) ∧ d.tim.restarting = s.dev.tim.restarting &&& ~~~plls
      ∧ (s.dev.flag Reg.TIM0.STATUS_LOCK = false → 2 ≤ ones3 (s.dev.pllLocks ||| plls) → s.dev.tim.hadLock = true → d.flag Reg.TIM0.STATUS_SYNC_STALE = true)
      ∧ (s.dev.flag Reg.TIM0.STATUS_LOCK = false → 2 ≤ ones3 (s.dev.pllLocks ||| plls) → s.dev.tim.hadLock = true → s.dev.pageOn .tim0 = true → (d.sticky .tim0).getLsbD 1 = true))
  ∧ (∀ s (pll : Fin 3), s.dev.serviceRun = none → s.dev.domOn 1 = true → s.dev.flag Reg.TIM0.STATUS_LOCK = true →
    Completes (.pllLossOfLock pll) s fun d => Leaves [.free, .tim] (regs [Reg.TIM0.STATUS]) [.tim0] s.dev d ∧ d.pllLocks = s.dev.pllLocks &&& ~~~(BitVec.ofNat 3 (2 ^ pll.val))
      ∧ d.flag Reg.TIM0.STATUS_LOCK = (s.dev.flag Reg.TIM0.STATUS_TREF_PRESENT && decide (2 ≤ ones3 (s.dev.pllLocks &&& ~~~(BitVec.ofNat 3 (2 ^ pll.val)))))
      ∧ d.tim.restarting = s.dev.tim.restarting ||| BitVec.ofNat 3 (2 ^ pll.val)
      ∧ (s.dev.flag Reg.TIM0.STATUS_TREF_PRESENT = true → ones3 (s.dev.pllLocks &&& ~~~(BitVec.ofNat 3 (2 ^ pll.val))) < 2 → s.dev.pageOn .tim0 = true → (d.sticky .tim0).getLsbD 2 = true))
  ∧ (∀ s (pll : Fin 3), s.dev.serviceRun = none → s.dev.domOn 1 = true → s.dev.flag Reg.TIM0.STATUS_LOCK = false → (s.dev.flag Reg.TIM0.STATUS_TREF_PRESENT = false ∨ ones3 s.dev.pllLocks < 2) →
    Completes (.pllLossOfLock pll) s fun d => Leaves [.free, .tim] (regs [Reg.TIM0.STATUS]) [] s.dev d ∧ d.pllLocks = s.dev.pllLocks &&& ~~~(BitVec.ofNat 3 (2 ^ pll.val))
      ∧ d.flag Reg.TIM0.STATUS_LOCK = false ∧ d.tim.restarting = s.dev.tim.restarting ||| BitVec.ofNat 3 (2 ^ pll.val))
  ∧ (∀ s (pll : Fin 3), s.dev.serviceRun = none → s.dev.domOn 1 = true → s.dev.pageOn .tim0 = true → s.dev.pllLocks.getLsbD pll.val = true →
    Completes (.voteError pll) s fun d => Leaves [.tim] (regs [Reg.TIM0.VOTE_ERRORS]) [.tim0] s.dev d
      ∧ d.word Reg.TIM0.VOTE_ERRORS = counted (s.dev.word Reg.TIM0.VOTE_ERRORS) 1 ∧ (d.sticky .tim0).getLsbD 3 = true ∧ SMap.get (fun _ => 0) d.tim.skew pll.val = 0)
  ∧ (∀ s (pll : Fin 3), s.dev.pllLocks.getLsbD pll.val = false → Effect (.voteError pll) s s.dev)
  ∧ (∀ s, s.dev.serviceRun = none → s.dev.domOn 1 = true →
    Completes .pllRestart s fun d => Leaves [.tim] (regs [Reg.TIM0.STATUS]) [.tim0] s.dev d ∧ d.fld Reg.TIM0.STATUS_PLL_LOCK = 0 ∧ d.flag Reg.TIM0.STATUS_LOCK = false
      ∧ d.tim = { s.dev.tim with restarting := 7 })
  ∧ (∀ s (die : Die), s.dev.serviceRun = none → s.dev.domOn 1 = true → s.dev.hasDie die.val = true → s.dev.domOn (25 + 11 * die.val) = true → s.dev.tim.hadLock = true →
    Completes (.dllLockAchieved die) s fun d => Leaves [] (regs [Reg.TIM0.STATUS]) [] s.dev d ∧ d.flag ⟨Reg.TIM0.STATUS, 8 + die.val, 1⟩ = true)
  ∧ (∀ s (die : Die), s.dev.serviceRun = none → s.dev.pageOn .tim0 = true → s.dev.flag ⟨Reg.TIM0.STATUS, 8 + die.val, 1⟩ = true →
    Completes (.dllUnlock die) s fun d => Leaves [] (regs [Reg.TIM0.STATUS]) [.tim0] s.dev d ∧ d.flag ⟨Reg.TIM0.STATUS, 8 + die.val, 1⟩ = false
      ∧ (d.sticky .tim0).getLsbD 4 = true)

/-- SYNC and the correction unit: a SYNC edge while LOCK is 1 raises event 5, waits for its load tick 32 CT later, and starts a new epoch unless MODE is OFF
(R88, R89); with MODE OFF the load tick only notes the CT it meets (R89); in compare-only mode it notes it and checks it (R89); a load sets the time base where
FE_INHIBIT has held for 8,192 CT, and a single load leaves MODE at COMPARE; where it has not held, the load is refused with event 7 and only compares (R89, R90). A correction
word below 65 is written in UNSEALED and makes its record not VALID; word 65 commits a record that meets the conditions and marks one that does not FAILED with event 0 of the unit;
AUTOINC steps the address (R102, R117). A receiver's next hit of the present time base is converted, counted and held at the
unit's output (R92, R104, R108); a hit of another time base is discarded, counted and raises event 1 (R92); a LOSS item is passed over (R134).
Readings and choices of the model that it rests on: log entries 9, 78, 88, 114, 115 and 116. -/
def Obligations.SyncAndCorrectionUnit : Prop :=
  (∀ s, s.dev.serviceRun = none → s.dev.domOn 1 = true → s.dev.pageOn .tim0 = true → s.dev.flag Reg.TIM0.STATUS_LOCK = true → s.dev.fld Reg.TIM0.SYNC_CTRL_MODE ≠ 0 →
    Completes .syncEdge s fun d => Leaves [.tim] (regs [Reg.TIM0.EPOCH]) [.tim0] s.dev d
      ∧ d.tim = { s.dev.tim with sync := s.dev.tim.sync ++ [s.dev.syncEdge] } ∧ (d.sticky .tim0).getLsbD 5 = true
      ∧ d.fld Reg.TIM0.EPOCH_COUNT = (s.dev.fld Reg.TIM0.EPOCH_COUNT + 1) % 2 ^ Reg.TIM0.EPOCH_COUNT.width)
  ∧ (∀ s, s.dev.serviceRun = none → s.dev.domOn 1 = true → s.dev.pageOn .tim0 = true → s.dev.flag Reg.TIM0.STATUS_LOCK = true → s.dev.fld Reg.TIM0.SYNC_CTRL_MODE = 0 →
    Completes .syncEdge s fun d => Leaves [.tim] (regs []) [.tim0] s.dev d
      ∧ d.tim = { s.dev.tim with sync := s.dev.tim.sync ++ [s.dev.syncEdge] } ∧ (d.sticky .tim0).getLsbD 5 = true)
  ∧ (∀ s phase e rest, s.dev.serviceRun = none → s.dev.domOn 1 = true → s.dev.tim.sync = e :: rest → e.mode = 0 → (e.loadAt - s.dev.tim.count).toNat < 2 ^ 57 →
    Completes (.syncLoadTick phase) s fun d => Leaves [.clock, .tim] (regs [Reg.TIM0.SYNC_LAST]) [] s.dev d
      ∧ d.tim.count = e.loadAt ∧ d.tim.sync = rest ∧ d.fld Reg.TIM0.SYNC_LAST_CT = (e.loadAt.setWidth 18).toNat)
  ∧ (∀ s phase e rest, s.dev.domOn 1 = true → s.dev.tim.sync = e :: rest → e.mode = 2 →
    Effect (.syncLoadTick phase) s ((Device.advanceTo { s.dev with tim := { s.dev.tim with sync := rest } } e.loadAt).checkSync e.phase))
  ∧ (∀ s phase e rest d, s.dev.domOn 1 = true → s.dev.tim.sync = e :: rest → d = Device.advanceTo { s.dev with tim := { s.dev.tim with sync := rest } } e.loadAt →
    e.mode = 1 → d.mayLoad = true → Effect (.syncLoadTick phase) s ((d.loadTimeBase e.frame e.phase phase).setFld Reg.TIM0.SYNC_CTRL_MODE 2))
  ∧ (∀ s phase e rest d, s.dev.domOn 1 = true → s.dev.tim.sync = e :: rest → d = Device.advanceTo { s.dev with tim := { s.dev.tim with sync := rest } } e.loadAt →
    e.mode = 3 → d.mayLoad = true → Effect (.syncLoadTick phase) s (d.loadTimeBase e.frame e.phase phase))
  ∧ (∀ s phase e rest d, s.dev.domOn 1 = true → s.dev.tim.sync = e :: rest → d = Device.advanceTo { s.dev with tim := { s.dev.tim with sync := rest } } e.loadAt →
    (e.mode = 1 ∨ e.mode = 3) → d.mayLoad = false → Effect (.syncLoadTick phase) s ((d.raise .tim0 7).checkSync e.phase))
  ∧ (∀ s route data cluster k, s.dev.pageOn .tim1 = true → s.dev.unsealed = true → s.dev.fld Reg.TIM1.CORR_ADDR_WORD = k → k ≤ 65 →
    s.dev.fld Reg.TIM1.CORR_ADDR_CLUSTER = cluster → cluster < 8192 * s.dev.part.dies →
    Effect (.corrDataWrite route data) s ((s.dev.storeCorr cluster k (data.setWidth 16)).stepCorr))
  ∧ (∀ s route data cluster k, s.dev.serviceRun = none → s.dev.pageOn .tim1 = true → s.dev.unsealed = true → s.dev.fld Reg.TIM1.CORR_ADDR_WORD = k → k < 65 →
    s.dev.fld Reg.TIM1.CORR_ADDR_CLUSTER = cluster → cluster < 8192 * s.dev.part.dies →
    Completes (.corrDataWrite route data) s fun d => Leaves [.sea] (regs [Reg.TIM1.CORR_ADDR]) [] s.dev d
      ∧ d.corrWord cluster k = data.setWidth 16 ∧ d.corrValid cluster = false ∧ d.fld Reg.TIM1.CORR_ADDR_CLUSTER = cluster
      ∧ d.fld Reg.TIM1.CORR_ADDR_WORD = if s.dev.flag Reg.TIM1.CORR_ADDR_AUTOINC then k + 1 else k)
  ∧ (∀ s route data cluster, s.dev.serviceRun = none → s.dev.pageOn .tim1 = true → s.dev.unsealed = true → s.dev.fld Reg.TIM1.CORR_ADDR_WORD = 65 →
    s.dev.fld Reg.TIM1.CORR_ADDR_CLUSTER = cluster → cluster < 8192 * s.dev.part.dies → data.getLsbD 15 = true → s.dev.corrGood cluster = true →
    Completes (.corrDataWrite route data) s fun d => Leaves [.sea] (regs [Reg.TIM1.CORR_ADDR]) [] s.dev d ∧ d.corrValid cluster = true
      ∧ ∀ k, k < 65 → d.corrWord cluster k = s.dev.corrWord cluster k)
  ∧ (∀ s route data cluster, s.dev.serviceRun = none → s.dev.pageOn .tim1 = true → s.dev.unsealed = true → s.dev.fld Reg.TIM1.CORR_ADDR_WORD = 65 →
    s.dev.fld Reg.TIM1.CORR_ADDR_CLUSTER = cluster → cluster < 8192 * s.dev.part.dies → data.getLsbD 15 = true → s.dev.corrGood cluster = false →
    Completes (.corrDataWrite route data) s fun d => Leaves [.sea] (regs [Reg.TIM1.CORR_ADDR]) [.tim1] s.dev d ∧ d.corrValid cluster = false
      ∧ (d.corrWord cluster 65).getLsbD 14 = true ∧ (d.sticky .tim1).getLsbD 0 = true)
  ∧ (∀ s (receiver : Fin 16) h rest, s.dev.domOn 2 = true → s.dev.domOn 4 = true → s.dev.domOn 15 = true → s.dev.arr.tcuOut = [] →
    (s.dev.rx receiver.val).queue = .hit h :: rest → h.tb = s.dev.flag Reg.TIM0.STATUS_TIME_BASE →
    Effect (.tcuConvertHit receiver) s
      (let die := receiver.val / 4
       let cluster := die * 8192 + 128 * (h.row.toNat / 4) + h.col.toNat / 4
       let d := (s.dev.updRx receiver.val fun r => { r with queue := rest }).delivered 0
       let c := d.convert die cluster h
       let d := (d.countFlags h c).tapHit die cluster h (hitOf die h c)
       { d with arr := { d.arr with tcuOut := [hitOf die h c], tcuRaw := some h } }))
  ∧ (∀ s (receiver : Fin 16) h rest, s.dev.domOn 2 = true → s.dev.domOn 4 = true → s.dev.domOn 15 = true → s.dev.arr.tcuOut = [] →
    (s.dev.rx receiver.val).queue = .hit h :: rest → h.tb = (!s.dev.flag Reg.TIM0.STATUS_TIME_BASE) →
    Effect (.tcuConvertHit receiver) s
      ((((s.dev.updRx receiver.val fun r => { r with queue := rest }).delivered 0).count Reg.TIM0.OLDBASE_DISCARD).raise .tim1 1))
  ∧ (∀ s (receiver : Fin 16) level n rest, s.dev.serviceRun = none → s.dev.domOn 2 = true → s.dev.domOn 4 = true → s.dev.domOn 15 = true → s.dev.arr.tcuOut = [] →
    (s.dev.rx receiver.val).queue = .loss level n :: rest →
    Completes (.tcuConvertHit receiver) s fun d => Leaves [.arr] (regs []) [] s.dev d
      ∧ d.rx receiver.val = { s.dev.rx receiver.val with queue := rest } ∧ d.arr.tcuOut = [])

/-- Hits and frames of the event builder while it is powered: a converted hit in time is counted and takes its place in the sort buffer, and the hit that fills it is counted and raises event 7 (R186); a late one is
counted and raises event 2 once per frame (R187); a releasable hit leaves the buffer in order, past the occupancy tests and the ring, and enters the stream when the trigger engine selects it (R188, R189, R222); a frame starts at its tick
after the frame in progress ends (R193); its header and its alignment record are queued when they are due (R192); a LATE record closes 1 µs after its first hit
(R211); a watchdog reset of any channel whose receiver is not full is counted, raises event 9, and sets FAULT at the eighth in succession, and the channel loses at most the item in flight on it, whose hits the stream counts as lost (R20, R205, R216).
Readings and choices of the model that it rests on: log entries 87 and 88. -/
def Obligations.BuilderHitsAndFrames : Prop :=
  (∀ s full h rest, s.dev.serviceRun = none → s.dev.enabled .evb = true → s.dev.evb.sort.length < 65535 → s.dev.arr.tcuOut = h :: rest → s.dev.isLate h = false →
    Completes (.evbAcceptHit full) s fun d => Leaves [.arr, .evb] (regs [Reg.EVB.CNT_HITS_IN]) [] s.dev d
      ∧ d.word Reg.EVB.CNT_HITS_IN = counted (s.dev.word Reg.EVB.CNT_HITS_IN) 1 ∧ d.arr.tcuOut = rest ∧ d.evb.sort = insertHit h s.dev.evb.sort)
  ∧ (∀ s full h rest, s.dev.serviceRun = none → s.dev.enabled .evb = true → s.dev.evb.sort.length = 65535 → s.dev.arr.tcuOut = h :: rest → s.dev.isLate h = false →
    Completes (.evbAcceptHit full) s fun d => Leaves [.arr, .evb] (regs [Reg.EVB.CNT_HITS_IN, Reg.EVB.CNT_SORT_FULL]) [.evb] s.dev d
      ∧ d.word Reg.EVB.CNT_SORT_FULL = counted (s.dev.word Reg.EVB.CNT_SORT_FULL) 1 ∧ d.arr.tcuOut = rest ∧ d.evb.sort = insertHit h s.dev.evb.sort ∧ (d.sticky .evb).getLsbD 7 = true)
  ∧ (∀ s full h rest, s.dev.enabled .evb = true → s.dev.evb.sort.length < 65536 → s.dev.arr.tcuOut = h :: rest → s.dev.isLate h = true →
    Effect (.evbAcceptHit full) s
      (let d := Device.count (Device.delivered { s.dev with arr := { s.dev.arr with tcuOut := rest, tcuRaw := none } } 1) Reg.EVB.CNT_LATE
       let first := { d with evb := { d.evb with lateRaised := true } }
       (if d.evb.lateRaised then first else Device.raise first .evb 2).lateHit h full))
  ∧ (∀ s full h, s.dev.domOn 4 = true → s.dev.releasable = some h →
    Effect (.hitRelease full) s
      (let d := Device.maskHit { s.dev with evb := { s.dev.evb with sort := s.dev.evb.sort.drop 1, sortFull := false } } h
       let d := ((d.ringHit h full).delivered 2).delivered 4
       if d.selects h then d.emitHit h else d))
  ∧ (∀ s phase, s.dev.counting = true → s.dev.pageOn .evb = true → s.dev.nextFrameNum ≠ 0 →
    Effect (.frameStart phase) s
      (let d := (s.dev.advanceTo (s.dev.nextFrameNum ++ (0 : BitVec 18))).advanceFront
       if d.pageOn .evb then (d.endFrame false).startFrame s.dev.nextFrameNum (s.dev.nextFrameNum ++ (0 : BitVec 18)) phase else d))
  ∧ (∀ s f, s.dev.advanceFront.headerDue = some f → Effect .frameHeaderQueue s (s.dev.advanceFront.queueHeader f))
  ∧ (∀ s f, s.dev.advanceFront.alignDue = some f → Effect .alignmentRecordQueue s (s.dev.advanceFront.queueAlign f))
  ∧ (∀ s l, s.dev.evb.late = some l → Effect .lateRecordTimeout s ((s.dev.waitUntil (l.since + Config.usCt)).endLate))
  ∧ (∀ s (chan : Fin 8) receiver, s.dev.serviceRun = none → s.dev.pageOn .evb = true → s.dev.stageFull chan.val = false → (chan = 5 ∨ chan = 6) →
    SMap.get (fun _ => 0) s.dev.evb.wdRuns chan.val ≠ 7 →
    Completes (.concentratorWatchdogReset chan receiver) s fun d => Leaves [.hlt, .evb] (regs [Reg.HLT.UPS_WD, Reg.EVB.CNT_WD chan.val]) [.evb] s.dev d
      ∧ d.word (Reg.EVB.CNT_WD chan.val) = counted (s.dev.word (Reg.EVB.CNT_WD chan.val)) 1 ∧ d.flag (fFault .evb) = s.dev.flag (fFault .evb) ∧ (d.sticky .evb).getLsbD 9 = true)
  ∧ (∀ s (chan : Fin 8) receiver, s.dev.serviceRun = none → s.dev.pageOn .evb = true → s.dev.stageFull chan.val = false → (chan = 5 ∨ chan = 6) →
    SMap.get (fun _ => 0) s.dev.evb.wdRuns chan.val = 7 →
    Completes (.concentratorWatchdogReset chan receiver) s fun d => Leaves [.hlt, .evb] (regs [Reg.HLT.UPS_WD, Reg.EVB.CNT_WD chan.val, (fFault .evb).addr]) [.evb] s.dev d
      ∧ d.word (Reg.EVB.CNT_WD chan.val) = counted (s.dev.word (Reg.EVB.CNT_WD chan.val)) 1 ∧ d.flag (fFault .evb) = true
      ∧ (d.sticky .evb).getLsbD 9 = true ∧ (d.sticky .evb).getLsbD 10 = true)
  ∧ (∀ s (receiver : Fin 16) h rest, s.dev.serviceRun = none → s.dev.pageOn .evb = true → s.dev.stageFull 0 = false → (s.dev.rx receiver.val).queue = .hit h :: rest →
    Completes (.concentratorWatchdogReset 0 receiver) s fun d => d.rx receiver.val = { s.dev.rx receiver.val with queue := rest } ∧ d.evb.lost = s.dev.evb.lost + 1
      ∧ d.word (Reg.EVB.CNT_WD 0) = counted (s.dev.word (Reg.EVB.CNT_WD 0)) 1 ∧ (d.sticky .evb).getLsbD 9 = true
      ∧ (SMap.get (fun _ => 0) s.dev.evb.wdRuns 0 = 7 → d.flag (fFault .evb) = true ∧ (d.sticky .evb).getLsbD 10 = true))
  ∧ (∀ s receiver h rest, s.dev.serviceRun = none → s.dev.pageOn .evb = true → s.dev.stageFull 1 = false → s.dev.arr.tcuOut = h :: rest →
    Completes (.concentratorWatchdogReset 1 receiver) s fun d => d.arr = { s.dev.arr with tcuOut := [], tcuRaw := none } ∧ d.evb.lost = s.dev.evb.lost + 1
      ∧ d.word (Reg.EVB.CNT_WD 1) = counted (s.dev.word (Reg.EVB.CNT_WD 1)) 1 ∧ (d.sticky .evb).getLsbD 9 = true
      ∧ (SMap.get (fun _ => 0) s.dev.evb.wdRuns 1 = 7 → d.flag (fFault .evb) = true ∧ (d.sticky .evb).getLsbD 10 = true))
  ∧ (∀ s receiver h, s.dev.pageOn .evb = true → s.dev.stageFull 2 = false → s.dev.releasable = some h →
    Effect (.concentratorWatchdogReset 2 receiver) s
      (((Device.ringHit { s.dev with evb := { s.dev.evb with sort := s.dev.evb.sort.drop 1, sortFull := false } } h false).loseHits 1).channelReset 2))
  ∧ (∀ s receiver r rest, s.dev.pageOn .evb = true → s.dev.stageFull 3 = false → s.dev.evb.inq = r :: rest → recChannel r.kind = some 3 → r.fmt.isSome = true →
    Effect (.concentratorWatchdogReset 3 receiver) s (((s.dev.dropInput r rest).loseHits r.hits).channelReset 3))
  ∧ (∀ s receiver, s.dev.pageOn .evb = true → Effect (.concentratorWatchdogReset 4 receiver) s ((s.dev.releaseHit true).channelReset 4))
  ∧ (∀ s receiver r rest, s.dev.pageOn .evb = true → s.dev.stageFull 7 = false → s.dev.evb.inq = r :: rest → recChannel r.kind = some 7 → r.fmt.isSome = true →
    Effect (.concentratorWatchdogReset 7 receiver) s ((s.dev.dropInput r rest).channelReset 7))

/-- Contexts, table staging and the format table of the event builder: a frame that waits takes the first FREE context within its quota and its stall ends (R197,
R198); a QUEUED context none of whose records is left in the queue becomes FREE (R196), except a capture set's (R275); a read of CTX_DATA0 samples the addressed
descriptor (R200); a half word joins its staged word and the high half steps an AUTOINC address (R219, R220); an image that passes its checks waits
for the next frame start, another sets REJECTED and raises event 11 (R213, R214).
Readings and choices of the model that it rests on: log entries 53, 55 and 87. -/
def Obligations.BuilderContextsAndTables : Prop :=
  (∀ s f i, (s.dev.evb.frames.find? fun f => f.waiting) = some f → s.dev.ctxUsed 0 < s.dev.fld (Reg.EVB.QUOTA_QUOTA 0) → s.dev.freeCtx = some i → f.ended = none →
    Effect .frameContextRetry s
      (let d := s.dev.updCtx i fun _ => { state := .opened, cls := 0, id := f.num.setWidth 24, records := 0 }
       Device.setFlag { d with evb := { d.evb with frames := d.evb.frames.map fun x =>
         if x.start = f.start ∧ x.num = f.num then { x with ctx := some i, waiting := false } else x } } Reg.EVB.SORT_STATUS_STALLED false))
  ∧ (∀ s (index : BitVec 10), s.dev.serviceRun = none → (s.dev.ctxOf index.toNat).state = .queued → (s.dev.ctxOf index.toNat).cls ≠ 2 →
    (∀ e ∈ s.dev.evb.oq, e.record.ctx ≠ some index.toNat) →
    Effect (.contextRelease index) s (s.dev.updCtx index.toNat fun _ => {}))
  ∧ (∀ s (cls : Fin 8) data, s.dev.serviceRun = none → s.dev.pageOn .evb = true →
    Completes (.quotaWrite cls data) s fun d => Leaves [] (regs [Reg.EVB.QUOTA cls.val]) [] s.dev d
      ∧ d.fld (Reg.EVB.QUOTA_QUOTA cls.val) = (Reg.EVB.QUOTA_QUOTA cls.val).of data)
  ∧ (∀ s, s.dev.serviceRun = none → s.dev.pageOn .evb = true →
    Completes .ctxDataRead s fun d => Leaves [.rdata] (regs [Reg.EVB.CTX_DATA0, Reg.EVB.CTX_DATA1]) [] s.dev d
      ∧ d.rdata = (s.dev.ctxOf (s.dev.fld Reg.EVB.CTX_ADDR_INDEX)).id
          ++ BitVec.ofNat 8 (ctxCode (s.dev.ctxOf (s.dev.fld Reg.EVB.CTX_ADDR_INDEX)).state + 16 * (s.dev.ctxOf (s.dev.fld Reg.EVB.CTX_ADDR_INDEX)).cls)
      ∧ d.word Reg.EVB.CTX_DATA0 = d.rdata ∧ d.word Reg.EVB.CTX_DATA1 = BitVec.ofNat 32 (s.dev.ctxOf (s.dev.fld Reg.EVB.CTX_ADDR_INDEX)).records)
  ∧ (∀ s data, s.dev.serviceRun = none → s.dev.pageOn .evb = true → s.dev.fld Reg.EVB.FMT_ADDR_WORD < 17 →
    Completes (.tableStagingWrite .format false data) s fun d => Leaves [.staging] (regs []) [] s.dev d
      ∧ d.staged .format (s.dev.fld Reg.EVB.FMT_ADDR_WORD) = (s.dev.staged .format (s.dev.fld Reg.EVB.FMT_ADDR_WORD)).extractLsb' 32 32 ++ data
      ∧ ∀ k, k ≠ s.dev.fld Reg.EVB.FMT_ADDR_WORD → d.staged .format k = s.dev.staged .format k)
  ∧ (∀ s data, s.dev.serviceRun = none → s.dev.pageOn .evb = true → s.dev.fld Reg.EVB.FMT_ADDR_WORD < 17 → s.dev.flag Reg.EVB.FMT_ADDR_AUTOINC = true →
    Completes (.tableStagingWrite .format true data) s fun d => Leaves [.staging] (regs [Reg.EVB.FMT_ADDR]) [] s.dev d
      ∧ d.staged .format (s.dev.fld Reg.EVB.FMT_ADDR_WORD) = data ++ (s.dev.staged .format (s.dev.fld Reg.EVB.FMT_ADDR_WORD)).extractLsb' 0 32
      ∧ d.fld Reg.EVB.FMT_ADDR_WORD = (s.dev.fld Reg.EVB.FMT_ADDR_WORD + 1) % 2 ^ Reg.EVB.FMT_ADDR_WORD.width)
  ∧ (∀ s, s.dev.serviceRun = none → s.dev.pageOn .evb = true → s.dev.stagedOk .format 0x4F46 16 = true →
    Completes .fmtCommit s fun d => Leaves [.evb] (regs [Reg.EVB.FMT_CTRL]) [] s.dev d ∧ d.flag Reg.EVB.FMT_CTRL_REJECTED = false
      ∧ d.evb.fmtNext = some (SMap.setAll (fun _ => 0x5500FF7F#64) [] 0 (s.dev.stagedImage .format).tail))
  ∧ (∀ s, s.dev.serviceRun = none → s.dev.pageOn .evb = true → s.dev.stagedOk .format 0x4F46 16 = false →
    Completes .fmtCommit s fun d => Leaves [] (regs [Reg.EVB.FMT_CTRL]) [.evb] s.dev d ∧ d.flag Reg.EVB.FMT_CTRL_REJECTED = true ∧ (d.sticky .evb).getLsbD 11 = true)

/-- The waveform ADCs: at its edge a running ADC of the part gives its corrected sample, which is tagged, streamed and tested, with a parity error counted and
raised as event 5 (R155, R157, R158); one that may not run gives none (R155); START loads entry 0 of a once-sequence that has ended (R159, R160), and an
entry whose dwell is over hands on (R159, R160); an injected conversion is requested with its channel, gain and count (R161), and one that finds another is counted and
raises event 2 (R161); a start line starts the selected ADCs 16 CT after it was asserted, and a monitor scan (R162, R177).
Readings and choices of the model that it rests on: log entries 20, 32 and 79. -/
def Obligations.WaveformAdcSamplesAndStarts : Prop :=
  (∀ s (die : Die) (adc : Fin 8) raw, s.dev.hasDie (adcNo die adc / 8) = true → s.dev.wadcRuns (adcNo die adc) = true →
    Effect (.adcSample die adc raw false) s
      (let p := (s.dev.wadcBegin (adcNo die adc)).sampleEdge (adcNo die adc) raw
       let d := p.1.tapSample (adcNo die adc) p.2
       (d.streamAll (adcNo die adc) p.2).maskSample (adcNo die adc) (p.2.toNat / 2 ^ 18 % 32) (p.2.getLsbD 31) (p.2.extractLsb' 0 16).toInt d.tim.count.toNat))
  ∧ (∀ s (die : Die) (adc : Fin 8) raw, s.dev.hasDie (adcNo die adc / 8) = true → s.dev.wadcRuns (adcNo die adc) = true →
    Effect (.adcSample die adc raw true) s
      (let p := (s.dev.wadcBegin (adcNo die adc)).sampleEdge (adcNo die adc) raw
       let w : W32 := 0x70000000#32 ||| (p.2 &&& 0x0FFF0000#32)
       let d := ((p.1.count (Reg.WADC.WADC_CNT_LINK (adcNo die adc / 8))).raise (convPage (adcNo die adc)) 5).tapSample (adcNo die adc) w
       (d.streamAll (adcNo die adc) w).maskSample (adcNo die adc) (w.toNat / 2 ^ 18 % 32) (w.getLsbD 31) (w.extractLsb' 0 16).toInt d.tim.count.toNat))
  ∧ (∀ s (die : Die) (adc : Fin 8) raw parity, s.dev.hasDie (adcNo die adc / 8) = true → s.dev.wadcRuns (adcNo die adc) = false →
    Effect (.adcSample die adc raw parity) s (s.dev.updWadc (adcNo die adc) fun w => { w with running := false }))
  ∧ (∀ s (die : Die) (adc : Fin 8), ((s.dev.wadcBegin (adcNo die adc)).wadc (adcNo die adc)).running = true →
    ((s.dev.wadcBegin (adcNo die adc)).wadc (adcNo die adc)).ended = true → (s.dev.wadcBegin (adcNo die adc)).wadcOnce (adcNo die adc) = true →
    Effect (.wadcSeqStart die adc) s ((s.dev.wadcBegin (adcNo die adc)).loadEntry (adcNo die adc) 0 false))
  ∧ (∀ s (die : Die) (adc : Fin 8), (s.dev.wadc (adcNo die adc)).running = true → (s.dev.wadc (adcNo die adc)).ended = false → (s.dev.wadc (adcNo die adc)).dwell = 0 →
    Effect (.wadcEntryEnd die adc) s (s.dev.entryEnd (adcNo die adc)))
  ∧ (∀ s (die : Die) (adc : Fin 8) data, s.dev.pageOn (.conv die) = true → data.getLsbD 31 = false →
    Effect (.wadcInjRequest die adc data) s (s.dev.setWord (Reg.WADC.WADC_INJ die.val adc.val) (data &&& 0x00FF031F#32)))
  ∧ (∀ s (die : Die) (adc : Fin 8) (data : W32) d, d = s.dev.setWord (Reg.WADC.WADC_INJ die.val adc.val) (data &&& 0x00FF031F#32) → s.dev.pageOn (.conv die) = true →
    data.getLsbD 31 = true → d.enabled (.conv die) = true → (d.wadc (adcNo die adc)).inj = none →
    Effect (.wadcInjRequest die adc data) s (d.updWadc (adcNo die adc) fun w =>
      { w with inj := some { chan := d.fld (Reg.WADC.WADC_INJ_CHAN (adcNo die adc / 8) (adcNo die adc % 8))
                             gain := d.fld (Reg.WADC.WADC_INJ_GAIN (adcNo die adc / 8) (adcNo die adc % 8))
                             left := if d.fld (Reg.WADC.WADC_INJ_COUNT (adcNo die adc / 8) (adcNo die adc % 8)) = 0 then 256
                               else d.fld (Reg.WADC.WADC_INJ_COUNT (adcNo die adc / 8) (adcNo die adc % 8))
                             triggered := false } }))
  ∧ (∀ s (die : Die) (adc : Fin 8) (data : W32) d, d = s.dev.setWord (Reg.WADC.WADC_INJ die.val adc.val) (data &&& 0x00FF031F#32) → s.dev.pageOn (.conv die) = true →
    data.getLsbD 31 = true → d.enabled (.conv die) = true → (d.wadc (adcNo die adc)).inj.isSome = true →
    Effect (.wadcInjRequest die adc data) s ((d.count (Reg.WADC.WADC_CNT_INJ_REFUSED (adcNo die adc / 8))).raise (convPage (adcNo die adc)) 2))
  ∧ (∀ s (line : Fin 4) l, (s.dev.trg.lines.find? fun l => l.1 = line) = some l →
    Effect (.wadcTriggerStart line) s
      (let d := { s.dev with trg := { s.dev.trg with lines := s.dev.trg.lines.erase l } }
       let d := if s.dev.flag Reg.MON.MON_CTRL_LINE_EN && s.dev.fld Reg.MON.MON_CTRL_LINE = line.val then d.monStart else d
       let d := d.advanceTo (BitVec.ofNat 58 (l.2 + 16))
       (List.range 32).foldl (fun (d : Device) (a : Nat) =>
         if d.enabled (convPage a) && d.fld (Reg.WADC.WADC_TRIG_LINE (a / 8)) = line.val && (d.word (Reg.WADC.WADC_TRIG (a / 8))).getLsbD (a % 8) then d.requestInj a true else d) d))

/-- Calibrations of the waveform ADCs and the coefficient window: a calibration command keeps its fields and is requested of an ADC whose page is enabled, with 2^NLOG
conversions for NLOG 4 to 12 and 1,024 otherwise (R163, R167, R168); one that finds another is counted and raises event 3 (R163); a step that
failed shows its code (R169); a SYS_ZERO that ended keeps its sum and shows its average, SELF and SYS_FULL compute their coefficients (R167-R169); a coefficient is written in UNSEALED and INDEX steps with AUTOINC
(R183, R184).
Readings and choices of the model that it rests on: log entries 79 and 80. -/
def Obligations.WaveformAdcCalibrations : Prop :=
  (∀ s (die : Die) (adc : Fin 8) (data : W32) d, d = (s.dev.setWord (Reg.WADC.WADC_CAL die.val adc.val) (data &&& 0x1F1F0300#32)).calOutcome (adcNo die adc) →
    s.dev.pageOn (.conv die) = true → (s.dev.setWord (Reg.WADC.WADC_CAL die.val adc.val) (data &&& 0x1F1F0300#32)).enabled (.conv die) = true →
    (d.wadc (adcNo die adc)).cal = none →
    Effect (.wadcCalSelf die adc data) s (d.updWadc (adcNo die adc) fun w => { w with cal := some (
      { cmd := 1, gain := d.fld (Reg.WADC.WADC_CAL_GAIN (adcNo die adc / 8) (adcNo die adc % 8)), chan := d.fld (Reg.WADC.WADC_CAL_CHAN (adcNo die adc / 8) (adcNo die adc % 8))
        n := 2 ^ (if 4 ≤ d.fld (Reg.WADC.WADC_CAL_NLOG (adcNo die adc / 8) (adcNo die adc % 8)) ∧ d.fld (Reg.WADC.WADC_CAL_NLOG (adcNo die adc / 8) (adcNo die adc % 8)) ≤ 12
          then d.fld (Reg.WADC.WADC_CAL_NLOG (adcNo die adc / 8) (adcNo die adc % 8)) else 10)
        peak := false } : WadcCal) }))
  ∧ (∀ s (die : Die) (adc : Fin 8) (data : W32) d, d = (s.dev.setWord (Reg.WADC.WADC_CAL die.val adc.val) (data &&& 0x1F1F0300#32)).calOutcome (adcNo die adc) →
    s.dev.pageOn (.conv die) = true → (s.dev.setWord (Reg.WADC.WADC_CAL die.val adc.val) (data &&& 0x1F1F0300#32)).enabled (.conv die) = true →
    (d.wadc (adcNo die adc)).cal = none → d.fld (Reg.WADC.WADC_CAL_CHAN (adcNo die adc / 8) (adcNo die adc % 8)) ≤ 16 →
    Effect (.wadcCalSysZero die adc data) s (d.updWadc (adcNo die adc) fun w => { w with cal := some (
      { cmd := 2, gain := d.fld (Reg.WADC.WADC_CAL_GAIN (adcNo die adc / 8) (adcNo die adc % 8)), chan := d.fld (Reg.WADC.WADC_CAL_CHAN (adcNo die adc / 8) (adcNo die adc % 8))
        n := 2 ^ (if 4 ≤ d.fld (Reg.WADC.WADC_CAL_NLOG (adcNo die adc / 8) (adcNo die adc % 8)) ∧ d.fld (Reg.WADC.WADC_CAL_NLOG (adcNo die adc / 8) (adcNo die adc % 8)) ≤ 12
          then d.fld (Reg.WADC.WADC_CAL_NLOG (adcNo die adc / 8) (adcNo die adc % 8)) else 10)
        peak := false } : WadcCal) }))
  ∧ (∀ s (die : Die) (adc : Fin 8) (data : W32) d, d = (s.dev.setWord (Reg.WADC.WADC_CAL die.val adc.val) (data &&& 0x1F1F0300#32)).calOutcome (adcNo die adc) →
    s.dev.pageOn (.conv die) = true → (s.dev.setWord (Reg.WADC.WADC_CAL die.val adc.val) (data &&& 0x1F1F0300#32)).enabled (.conv die) = true →
    (d.wadc (adcNo die adc)).cal = none → d.fld (Reg.WADC.WADC_CAL_CHAN (adcNo die adc / 8) (adcNo die adc % 8)) ≤ 16 →
    ((d.wadc (adcNo die adc)).zero.any fun z => z.1 = d.fld (Reg.WADC.WADC_CAL_GAIN (adcNo die adc / 8) (adcNo die adc % 8))
      && z.2.1 = d.fld (Reg.WADC.WADC_CAL_CHAN (adcNo die adc / 8) (adcNo die adc % 8))) = true →
    Effect (.wadcCalSysFull die adc data) s (d.updWadc (adcNo die adc) fun w => { w with cal := some (
      { cmd := 3, gain := d.fld (Reg.WADC.WADC_CAL_GAIN (adcNo die adc / 8) (adcNo die adc % 8)), chan := d.fld (Reg.WADC.WADC_CAL_CHAN (adcNo die adc / 8) (adcNo die adc % 8))
        n := 2 ^ (if 4 ≤ d.fld (Reg.WADC.WADC_CAL_NLOG (adcNo die adc / 8) (adcNo die adc % 8)) ∧ d.fld (Reg.WADC.WADC_CAL_NLOG (adcNo die adc / 8) (adcNo die adc % 8)) ≤ 12
          then d.fld (Reg.WADC.WADC_CAL_NLOG (adcNo die adc / 8) (adcNo die adc % 8)) else 10)
        peak := d.flag (Reg.WADC.WADC_CAL_PEAK (adcNo die adc / 8) (adcNo die adc % 8)) } : WadcCal) }))
  ∧ (∀ s (die : Die) (adc : Fin 8) (data : W32) d, d = (s.dev.setWord (Reg.WADC.WADC_CAL die.val adc.val) (data &&& 0x1F1F0300#32)).calOutcome (adcNo die adc) →
    s.dev.pageOn (.conv die) = true → (s.dev.setWord (Reg.WADC.WADC_CAL die.val adc.val) (data &&& 0x1F1F0300#32)).enabled (.conv die) = true →
    (d.wadc (adcNo die adc)).cal.isSome = true →
    Effect (.wadcCalSelf die adc data) s ((d.count (Reg.WADC.WADC_CNT_CAL_REFUSED (adcNo die adc / 8))).raise (convPage (adcNo die adc)) 3))
  ∧ (∀ s (die : Die) (adc : Fin 8) c, (s.dev.wadc (adcNo die adc)).calDone = some c → c.fail ≠ 0 →
    Effect (.wadcCalDone die adc) s ((s.dev.updWadc (adcNo die adc) fun w => { w with calDone := none }).calStatus (adcNo die adc) c.fail false))
  ∧ (∀ s (die : Die) (adc : Fin 8) c, (s.dev.wadc (adcNo die adc)).calDone = some c → c.fail = 0 → c.cmd = 2 →
    Effect (.wadcCalDone die adc) s (Device.calStatus (Device.calShow ((s.dev.updWadc (adcNo die adc) fun w => { w with calDone := none }).updWadc (adcNo die adc)
      fun w => { w with zero := some (c.gain, c.chan, c.sums.getD 0 0, c.n) }) (adcNo die adc) (some (roundDiv (c.sums.getD 0 0) c.n)) none none) (adcNo die adc) 0 false))
  ∧ (∀ s (die : Die) (adc : Fin 8) c, (s.dev.wadc (adcNo die adc)).calDone = some c → c.fail = 0 → c.cmd = 1 →
    Effect (.wadcCalDone die adc) s ((s.dev.updWadc (adcNo die adc) fun w => { w with calDone := none }).selfOutcome (adcNo die adc) c))
  ∧ (∀ s (die : Die) (adc : Fin 8) c gain chan s0 n0, (s.dev.wadc (adcNo die adc)).calDone = some c → c.fail = 0 → c.cmd = 3 → (s.dev.wadc (adcNo die adc)).zero = some (gain, chan, s0, n0) →
    Effect (.wadcCalDone die adc) s ((s.dev.updWadc (adcNo die adc) fun w => { w with calDone := none }).fullOutcome (adcNo die adc) c s0 n0))
  ∧ (∀ s route data, s.dev.serviceRun = none → s.dev.pageOn .coef = true → coefUsed (s.dev.fld Reg.COEF.COEF_ADDR_INDEX) = true → s.dev.unsealed = true →
    Completes (.coefDataWrite route data) s fun d => Leaves [.sea] (regs [Reg.COEF.COEF_ADDR]) [] s.dev d
      ∧ d.fld Reg.COEF.COEF_ADDR_INDEX = (s.dev.fld Reg.COEF.COEF_ADDR_INDEX + (s.dev.flag Reg.COEF.COEF_ADDR_AUTOINC).toNat) % 2 ^ Reg.COEF.COEF_ADDR_INDEX.width
      ∧ d.coef (s.dev.fld Reg.COEF.COEF_ADDR_INDEX) = data.setWidth 16
      ∧ (∀ i, i ≠ s.dev.fld Reg.COEF.COEF_ADDR_INDEX → d.coef i = s.dev.coef i))

/-- The monitor ADCs: a write of MON_CTRL keeps its fields (R182) and its START begins a scan (R177); a lead time ends no earlier than it must (R175); a start of a scan
begins at entry 0 and counts the scan, one during a scan is counted as an overrun and raises event 5 (R177); the timer expires MON_PERIOD after it last did (R177); the
conversions of an entry give one checked result, or one for each ADC, and the scan goes on (R174, R176, R177); a calibration command works on the ADCs selected and lasts until their conversions are over, which SELF takes twice; SYS_FULL without
a SYS_ZERO of its input fails at once (R180); a sense sample waits for every lead time and is checked against its expectation (R178, R491).
Readings and choices of the model that it rests on: log entries 23, 80 and 121. -/
def Obligations.MonitorAdcCommands : Prop :=
  (∀ s data, s.dev.serviceRun = none → data.getLsbD 4 = false →
    Completes (.monCtrlWrite data) s fun d => Leaves [.mon] (regs [Reg.MON.MON_CTRL]) [] s.dev d ∧ d.word Reg.MON.MON_CTRL = data &&& 0x00FF070F#32 ∧ d.mon.scan = s.dev.mon.scan)
  ∧ (∀ s data, s.dev.serviceRun = none → data.getLsbD 4 = true → s.dev.enabled .pwrMon = true → s.dev.mon.scan = none →
    Completes (.monCtrlWrite data) s fun d => Leaves [.mon] (regs [Reg.MON.MON_CTRL]) [] s.dev d ∧ d.word Reg.MON.MON_CTRL = data &&& 0x00FF070F#32 ∧ d.mon.scan = some 0
      ∧ d.mon.count = s.dev.mon.count + 1)
  ∧ (∀ s, s.dev.serviceRun = none →
    Completes .monLeadTimeEnd s fun d => Leaves [.clock, .tim] (regs []) [] s.dev d ∧ d.clock = max s.dev.clock s.dev.mon.leadUntil)
  ∧ (∀ s, s.dev.serviceRun = none → s.dev.enabled .pwrMon = true → s.dev.mon.scan = none →
    Completes .monScanStart s fun d => Leaves [.mon] (regs []) [] s.dev d ∧ d.mon.scan = some 0 ∧ d.mon.count = s.dev.mon.count + 1 ∧ d.mon.asleep = false
      ∧ (s.dev.mon.asleep = false → d.mon = { s.dev.mon with scan := some 0, count := s.dev.mon.count + 1 }))
  ∧ (∀ s, s.dev.serviceRun = none → s.dev.enabled .pwrMon = true → s.dev.pageOn .pwrMon = true → s.dev.mon.scan.isSome = true →
    Completes .monScanStart s fun d => Leaves [.mon] (regs [Reg.MON.MON_CNT_OVERRUN]) [.pwrMon] s.dev d ∧ d.mon = { s.dev.mon with again := true }
      ∧ d.word Reg.MON.MON_CNT_OVERRUN = counted (s.dev.word Reg.MON.MON_CNT_OVERRUN) 1 ∧ (d.sticky .pwrMon).getLsbD 5 = true)
  ∧ (∀ s, s.dev.flag Reg.MON.MON_CTRL_TIMER_EN = true →
    Effect .monScanTimer s (Device.monStart { s.dev.waitUntil (s.dev.mon.timerAt + max 1 (s.dev.fld Reg.MON.MON_PERIOD_US) * Config.usCt) with
      mon := { s.dev.mon with timerAt := s.dev.mon.timerAt + max 1 (s.dev.fld Reg.MON.MON_PERIOD_US) * Config.usCt } }))
  ∧ (∀ s e codesA codesB, s.dev.mon.cal = none → s.dev.mon.scan = some e → s.dev.flag Reg.MON.MON_CTRL_PAIRED = true → s.dev.monAbsent (s.dev.fld (Reg.MON.MON_SCAN_A_INPUT e)) = false →
    codesA.length = 4 ^ s.dev.fld (Reg.MON.MON_SCAN_A_AVG e) → codesB.length = codesA.length →
    Effect (.monConversionDone codesA codesB) s
      (let d := s.dev.waitUntil s.dev.mon.leadUntil
       let i := s.dev.fld (Reg.MON.MON_SCAN_A_INPUT e)
       let r := d.monPair i (average codesA) (average codesB)
       (d.monResult i r.1 r.2).monNext e))
  ∧ (∀ s e codesA codesB, s.dev.mon.cal = none → s.dev.mon.scan = some e → s.dev.flag Reg.MON.MON_CTRL_PAIRED = false →
    e ≤ s.dev.fld Reg.MON.MON_CTRL_LAST_A → e ≤ s.dev.fld Reg.MON.MON_CTRL_LAST_B →
    codesA.length = 4 ^ s.dev.fld (Reg.MON.MON_SCAN_A_AVG e) → codesB.length = 4 ^ s.dev.fld (Reg.MON.MON_SCAN_B_AVG e) →
    Effect (.monConversionDone codesA codesB) s
      (let d := s.dev.waitUntil s.dev.mon.leadUntil
       let a := s.dev.fld (Reg.MON.MON_SCAN_A_INPUT e)
       let b := s.dev.fld (Reg.MON.MON_SCAN_B_INPUT e)
       let d := d.monResult a (d.monCorrect 0 a (average codesA)) false
       (d.monResult b (d.monCorrect 1 b (average codesB)) false).monNext e))
  ∧ (∀ s k codesA codesB, s.dev.mon.cal = some k → k.adcs = [0] → codesA.length = 1024 → k.cmd = 1 → k.zeros = none →
    Effect (.monConversionDone codesA codesB) s
      (let d := s.dev.waitUntil s.dev.mon.leadUntil
       { d with mon := { d.mon with cal := some { k with zeros := some [(0, (codesA.sum : Nat))] } } }))
  ∧ (∀ s k codesA codesB zero, s.dev.mon.cal = some k → k.adcs = [0] → codesA.length = 1024 → k.cmd = 1 → k.zeros = some [(0, zero)] →
    Effect (.monConversionDone codesA codesB) s
      (((s.dev.waitUntil s.dev.mon.leadUntil).monCommit [(4608, roundDiv zero 1024, 58982 * 16384 * 1024, ((codesA.sum : Nat) : Int) - zero)] 1024 14746 18022).monCalOver))
  ∧ (∀ s (data : W32) d, d = s.dev.setWord Reg.MON.MON_CAL (data &&& 0xFFFF1F10#32) → d.enabled .pwrMon = true → s.dev.mon.cal = none →
    Effect (.monCalSelf data) s { d.monWake with mon := { d.monWake.mon with cal := some ({ cmd := 1, adcs := d.monCalAdcs, input := d.fld Reg.MON.MON_CAL_INPUT, expect := d.fld Reg.MON.MON_CAL_EXPECT } : MonCal) } })
  ∧ (∀ s (data : W32) d, d = s.dev.setWord Reg.MON.MON_CAL (data &&& 0xFFFF1F10#32) → d.enabled .pwrMon = true → s.dev.mon.cal = none →
    Effect (.monCalSysZero data) s { d.monWake with mon := { d.monWake.mon with cal := some ({ cmd := 2, adcs := d.monCalAdcs, input := d.fld Reg.MON.MON_CAL_INPUT, expect := d.fld Reg.MON.MON_CAL_EXPECT } : MonCal) } })
  ∧ (∀ s (data : W32) d, d = s.dev.setWord Reg.MON.MON_CAL (data &&& 0xFFFF1F10#32) → d.enabled .pwrMon = true → s.dev.mon.cal = none →
    (∀ m ∈ d.monCalAdcs, ∃ z ∈ s.dev.mon.zero, z.1 = 32 * m + d.fld Reg.MON.MON_CAL_INPUT) →
    Effect (.monCalSysFull data) s { d.monWake with mon := { d.monWake.mon with cal := some ({ cmd := 3, adcs := d.monCalAdcs, input := d.fld Reg.MON.MON_CAL_INPUT, expect := d.fld Reg.MON.MON_CAL_EXPECT } : MonCal) } })
  ∧ (∀ s (data : W32) d, d = s.dev.setWord Reg.MON.MON_CAL (data &&& 0xFFFF1F10#32) → d.enabled .pwrMon = true → s.dev.mon.cal = none →
    s.dev.mon.zero = [] → Effect (.monCalSysFull data) s (d.monCalDone 6 false))
  ∧ (∀ s (die : Die) codeA codeB, s.dev.mon.sense.contains die.val = false → Effect (.injSenseSample die codeA codeB) s s.dev)
  ∧ (∀ s (die : Die) (codeA codeB : BitVec 16) w, w = s.dev.waitUntil s.dev.mon.leadUntil → s.dev.mon.sense.contains die.val = true →
    Effect (.injSenseSample die codeA codeB) s
      (let d := { w with mon := { w.mon with sense := w.mon.sense.filter fun n => n != die.val } }
       let r := if s.dev.flag Reg.MON.MON_CTRL_PAIRED then d.monPair (8 + die.val) codeA.toNat codeB.toNat else (d.monCorrect 0 (8 + die.val) codeA.toNat, false)
       let d := (d.monResult (8 + die.val) r.1 r.2).setFld (Reg.PIX.INJ_SENSE_CODE die.val) r.1.toNat
       let d := if 200 * d.senseExpected die.val + 262144 < 10000 * ((r.1 - d.senseExpected die.val).natAbs : Int) then d.raise (.pix die) 3 else d
       d.monDoze))

/-- The DDR5 controller: TRAIN empties the ring and starts training for a GEOM of the manual, and raises event 12 for any other (R258, R259); training ends in
READY with event 0 or, with its failing step, in FAIL with event 1 and a MEM entry (R259); a drift check that retrains is counted (R260); a refresh goes to the devices
while READY (R261); a hot device doubles the refresh rate and raises event 10 when it turns hot (R261); a burst of the scrubber that finds nothing moves its line, past the last one to the first, which counts a pass and raises event 11 (R263).
A word read back as it was written finds nothing; a corrected error is counted and raises event 3 (R262).
Readings and choices of the model that it rests on: log entries 22, 63, 90 and 126. -/
def Obligations.HistoryController : Prop :=
  (∀ s, s.dev.pageOn .his = true → s.dev.hisState ≠ 1 → s.dev.domOn 10 = true → s.dev.emptyRing.geomOk = true →
    Effect .hisTrain s (Device.setFld { s.dev.emptyRing with his := { s.dev.emptyRing.his with geom := s.dev.emptyRing.word Reg.HIS.GEOM } } Reg.HIS.STATUS_STATE 1))
  ∧ (∀ s, s.dev.pageOn .his = true → s.dev.hisState ≠ 1 → s.dev.domOn 10 = true → s.dev.emptyRing.geomOk = false →
    Effect .hisTrain s ((s.dev.emptyRing.setFld Reg.HIS.STATUS_STATE 4).raise .his 12))
  ∧ (∀ s, s.dev.serviceRun = none → s.dev.pageOn .his = true → s.dev.hisState = 1 →
    Completes (.hisTrainingDone 0) s fun d => Leaves [.his] (regs [Reg.HIS.STATUS]) [.his] s.dev d
      ∧ d.fld Reg.HIS.STATUS_STATE = 2 ∧ d.fld Reg.HIS.STATUS_TRAIN_FAIL = 0 ∧ (d.sticky .his).getLsbD 0 = true ∧ d.his.resume = true)
  ∧ (∀ s (step : Fin 8), step.val ≠ 0 → s.dev.hisState = 1 →
    Effect (.hisTrainingDone step) s ((((s.dev.setFld Reg.HIS.STATUS_STATE 3).setFld Reg.HIS.STATUS_TRAIN_FAIL step.val).raise .his 1).logMemory))
  ∧ (∀ s, s.dev.serviceRun = none → s.dev.hisState = 2 →
    Completes (.dqsDriftCheck true true) s fun d => Leaves [] (regs [Reg.HIS.CNT_RETRAIN]) [] s.dev d ∧ d.word Reg.HIS.CNT_RETRAIN = counted (s.dev.word Reg.HIS.CNT_RETRAIN) 1)
  ∧ (∀ s, s.dev.hisState = 2 → Effect (.dqsDriftCheck true false) s (((s.dev.count Reg.HIS.CNT_RETRAIN).setFld Reg.HIS.STATUS_STATE 3).memoryLost))
  ∧ (∀ s, s.dev.hisState = 2 → Effect .ddrRefresh s (s.dev.send (.ddr 0 s.dev.his.refreshFast.toNat)))
  ∧ (∀ s, s.dev.serviceRun = none → s.dev.pageOn .his = true → s.dev.hisState = 2 → s.dev.flag Reg.HIS.STATUS_HOT = false →
    Completes (.refreshRatePoll true) s fun d => Leaves [.his] (regs [Reg.HIS.STATUS]) [.his] s.dev d
      ∧ d.flag Reg.HIS.STATUS_HOT = true ∧ d.his.refreshFast = true ∧ (d.sticky .his).getLsbD 10 = true)
  ∧ (∀ s, s.dev.serviceRun = none → s.dev.hisState = 2 →
    Completes (.refreshRatePoll false) s fun d => Leaves [.his] (regs [Reg.HIS.STATUS]) [] s.dev d ∧ d.flag Reg.HIS.STATUS_HOT = false ∧ d.his.refreshFast = false)
  ∧ (∀ s lines, s.dev.serviceRun = none → s.dev.hisState = 2 → s.dev.flag Reg.HIS.CTRL_SCRUB_EN = true → s.dev.pausing .scrub = false → s.dev.hlt.step = 0 →
    s.dev.his.scrubLine + lines < 16384 * s.dev.hisSegments →
    Completes (.scrubBurst lines []) s fun d => Leaves [.his] (regs []) [] s.dev d ∧ d.his.scrubLine = s.dev.his.scrubLine + lines)
  ∧ (∀ s lines, s.dev.serviceRun = none → s.dev.hisState = 2 → s.dev.flag Reg.HIS.CTRL_SCRUB_EN = true → s.dev.pausing .scrub = false → s.dev.hlt.step = 0 → s.dev.pageOn .his = true →
    16384 * s.dev.hisSegments ≤ s.dev.his.scrubLine + lines → s.dev.hisSegments ≠ 0 →
    Completes (.scrubBurst lines []) s fun d => Leaves [.his] (regs [Reg.HIS.CNT_SCRUB_PASSES]) [.his] s.dev d ∧ d.his.scrubLine = (s.dev.his.scrubLine + lines) % (16384 * s.dev.hisSegments)
      ∧ d.word Reg.HIS.CNT_SCRUB_PASSES = counted (s.dev.word Reg.HIS.CNT_SCRUB_PASSES) 1 ∧ (d.sticky .his).getLsbD 11 = true)
  ∧ (∀ s lines findings, s.dev.hisState = 2 → s.dev.flag Reg.HIS.CTRL_SCRUB_EN = true → s.dev.pausing .scrub = false → s.dev.hlt.step = 0 →
    (findings.foldl (fun (d : Device) f => d.lineError f) s.dev).his.scrubLine + lines < 16384 * s.dev.hisSegments → (findings.foldl (fun (d : Device) f => d.lineError f) s.dev).hisSegments = s.dev.hisSegments →
    (findings.foldl (fun (d : Device) f => d.lineError f) s.dev).hlt.step = 0 →
    Effect (.scrubBurst lines findings) s
      (let d := findings.foldl (fun (d : Device) f => d.lineError f) s.dev
       { d with his := { d.his with scrubLine := d.his.scrubLine + lines } }))
  ∧ (∀ (d : Device) f, (d.readWord f).error = some .corrected → d.lineError f = (d.count Reg.HIS.CNT_CE).raise .his 3)
  ∧ (∀ (d : Device) f, f.line = f.source → f.flips = 0 → d.lineError f = d)

/-- Readbacks and capture sets: a request of an enabled page takes the next number, a context of class 4 and the interval that the ring still holds, and waits its turn with PARTIAL in its status when that was cut (R278-R280); one while the memory is not READY
is answered REFUSED (R278, R279); a retained capture set is read back from its own bounds (R278), and its release frees its context and resumes the ring (R275); the next accepted readback starts with its header line and its segments'
words, and sets BUSY (R277, R279); when all its words have left, BUSY clears, its status shows, its context is freed, the readback is counted and raises event 6 (R275, R279).
Choices of the model that it rests on: log entries 90 and 129. -/
def Obligations.HistoryReadbacks : Prop :=
  (∀ s n d e c a b, s.dev.enabled .his = true → n = (s.dev.his.number + 1) % 65536 →
    d = Device.setFld { s.dev with his := { s.dev.his with number := n } } Reg.HIS.RB_STATUS_NUMBER n → d.hisState = 2 →
    a = s.dev.fld Reg.HIS.RB_START_LO_FU + s.dev.fld Reg.HIS.RB_START_HI_FU * 2 ^ 32 → b = s.dev.fld Reg.HIS.RB_END_LO_FU + s.dev.fld Reg.HIS.RB_END_HI_FU * 2 ^ 32 →
    d.allocCtx 4 (BitVec.ofNat 24 n) = (e, some c) → (e.segmentsOf (max a (e.oldest.getD e.writePoint)) (min b e.writePoint)).length ≤ e.pinLimit →
    Effect .readbackRequest s (e.queueReadback
      { kind := 0, number := n, start := max a (e.oldest.getD e.writePoint), stop := min b e.writePoint, ctx := some c, segs := []
        status := if max a (e.oldest.getD e.writePoint) ≠ a ∨ min b e.writePoint ≠ b then 1 else 0, lanes := d.rbRoute.1, ring := d.rbRoute.2 }))
  ∧ (∀ s, s.dev.enabled .his = true → s.dev.hisState ≠ 2 →
    (Device.setFld { s.dev with his := { s.dev.his with number := (s.dev.his.number + 1) % 65536 } } Reg.HIS.RB_STATUS_NUMBER ((s.dev.his.number + 1) % 65536)).hisState ≠ 2 →
    Effect .readbackRequest s
      (let n := (s.dev.his.number + 1) % 65536
       let d := Device.setFld { s.dev with his := { s.dev.his with number := n } } Reg.HIS.RB_STATUS_NUMBER n
       { d with his := { d.his with readbacks := d.his.readbacks ++ [
         { kind := 0, number := n, start := s.dev.fld Reg.HIS.RB_START_LO_FU + s.dev.fld Reg.HIS.RB_START_HI_FU * 2 ^ 32, stop := s.dev.fld Reg.HIS.RB_END_LO_FU + s.dev.fld Reg.HIS.RB_END_HI_FU * 2 ^ 32
           ctx := none, segs := [], status := 6, lanes := d.rbRoute.1, ring := d.rbRoute.2 }] } }))
  ∧ (∀ s number c, s.dev.pageOn .his = true → s.dev.retained number = some c → c.moved = false →
    Effect (.captureRead number) s (s.dev.queueReadback
      { kind := 2, number := c.num.toNat, start := c.start, stop := c.stop, ctx := none, segs := [], status := 0, lanes := s.dev.rbRoute.1, ring := s.dev.rbRoute.2 }))
  ∧ (∀ s number c, s.dev.pageOn .his = true → s.dev.retained number = some c → c.moved = true →
    Effect (.captureRead number) s { s.dev with his := { s.dev.his with readbacks := s.dev.his.readbacks ++ [
      { kind := 2, number := c.num.toNat, start := c.start, stop := c.stop, ctx := none, segs := c.segs, status := 0, lanes := s.dev.rbRoute.1, ring := s.dev.rbRoute.2 }] } })
  ∧ (∀ s number c, s.dev.pageOn .his = true → s.dev.retained number = some c →
    Effect (.captureRelease number) s
      (Device.ringGo (Device.updCtx { s.dev with his := { s.dev.his with captures := s.dev.his.captures.filter fun x => x.num != number || !x.done } } c.ctx fun _ => {})))
  ∧ (∀ s r rest, s.dev.his.running = none → s.dev.his.readbacks = r :: rest → r.ended = false → s.dev.enabled .his = true →
    Effect (.readbackStart []) s
      (let segs := s.dev.his.segs.filter fun x => r.segs.contains x.seq
       Device.setFlag { s.dev with his := { s.dev.his with running := some r, readbacks := rest, sending := r.header segs 0 ++ segs.flatMap fun x => x.image } } Reg.HIS.RB_STATUS_BUSY true))
  ∧ (∀ s r rest findings, s.dev.his.running = none → s.dev.his.readbacks = r :: rest → r.ended = true →
    Effect (.readbackStart findings) s { s.dev with his := { s.dev.his with running := some r, readbacks := rest, sending := r.header [] 0 } })
  ∧ (∀ s r, s.dev.his.running = some r → s.dev.his.sending = [] → r.ended = false → (r.kind ≠ 2 ∨ s.dev.flag Reg.HIS.CTRL_AUTO_RELEASE = false) → r.ctx = none →
    Effect .readbackDone s
      (let d := Device.readbackOver { s.dev with his := { s.dev.his with running := none, sending := [] } }
       ((((d.setFlag Reg.HIS.RB_STATUS_BUSY false).setFld Reg.HIS.RB_STATUS_LAST r.status).count Reg.HIS.CNT_RB_DONE).raise .his 6).ringGo))
  ∧ (∀ s r c, s.dev.his.running = some r → s.dev.his.sending = [] → r.ended = false → r.kind ≠ 2 → r.ctx = some c →
    Effect .readbackDone s
      (let d := Device.readbackOver { s.dev with his := { s.dev.his with running := none, sending := [] } }
       (((((d.setFlag Reg.HIS.RB_STATUS_BUSY false).setFld Reg.HIS.RB_STATUS_LAST r.status).updCtx c fun _ => {}).count Reg.HIS.CNT_RB_DONE).raise .his 6).ringGo))

/-- The coders: STREAM_CTRL keeps its fields, a code a stream cannot change is kept, and EN_PENDING shows a coding that waits for its boundary (R359, R360, R383); an open
block closes once its first word has waited its longest, that of a loopback context in the middle of a record once the record is complete (R366); a context resets at a block boundary, at once when no block is open (R364); a word of an idle context is
restored (R373), and word 0 samples all four of the addressed context (R372); loopback words are pushed while the FIFO has room, popped in order into both halves of LB_WORD, and
overrun with event 5 when it has none (R374); a flush closes the loopback context's block between records (R366).
Readings and choices of the model that it rests on: log entries 38 and 86. -/
def Obligations.CoderCommands : Prop :=
  (∀ s (ctx : Fin 16) data, s.dev.serviceRun = none → s.dev.pageOn .cdr = true → 2 ≤ ctx.val → ctx.val < 10 →
    Completes (.streamEnWrite ctx data) s fun d => Leaves [] (regs [Reg.CDR.STREAM_CTRL ctx.val, Reg.CDR.STREAM_STATUS ctx.val]) [] s.dev d
      ∧ d.word (Reg.CDR.STREAM_CTRL ctx.val) = data &&& 0xFF01FF03#32 ∧ d.flag (Reg.CDR.STREAM_STATUS_EN_PENDING ctx.val) = (data.getLsbD 0 != s.dev.codes ctx.val))
  ∧ (∀ s data, s.dev.serviceRun = none → s.dev.pageOn .cdr = true →
    Completes (.streamEnWrite 1 data) s fun d => Leaves [] (regs [Reg.CDR.STREAM_CTRL 1, Reg.CDR.STREAM_STATUS 1]) [] s.dev d
      ∧ d.word (Reg.CDR.STREAM_CTRL 1) = (data &&& 0xFF01FF01#32) ||| (s.dev.word (Reg.CDR.STREAM_CTRL 1) &&& 2#32)
      ∧ d.flag (Reg.CDR.STREAM_STATUS_EN_PENDING 1) = (data.getLsbD 0 != s.dev.codes 1))
  ∧ (∀ s (ctx : Fin 16) data, s.dev.serviceRun = none → s.dev.pageOn .cdr = true → (ctx.val = 0 ∨ 10 ≤ ctx.val) →
    Completes (.streamEnWrite ctx data) s fun d => Leaves [] (regs [Reg.CDR.STREAM_CTRL ctx.val]) [] s.dev d
      ∧ d.word (Reg.CDR.STREAM_CTRL ctx.val) = (data &&& 0xFF01FF02#32) ||| (s.dev.word (Reg.CDR.STREAM_CTRL ctx.val) &&& 1#32))
  ∧ (∀ s (ctx : Fin 16), ctx.val ≠ 0 → (s.dev.coder ctx.val).block.isEmpty = false → (s.dev.coder ctx.val).remain = 0 →
    Effect (.blockWaitExpire ctx) s (((s.dev.waitUntil ((s.dev.coder ctx.val).since + s.dev.blockWait ctx.val)).closeBlock ctx.val).loopPump))
  ∧ (∀ s (ctx : Fin 16), ctx.val ≠ 0 → (s.dev.coder ctx.val).block.isEmpty = false → (s.dev.coder ctx.val).remain ≠ 0 →
    Effect (.blockWaitExpire ctx) s (((s.dev.waitUntil ((s.dev.coder ctx.val).since + s.dev.blockWait ctx.val)).updCoder ctx.val fun c => { c with closeDue := true }).loopPump))
  ∧ (∀ s, (s.dev.coder 0).block.isEmpty = false →
    Effect (.blockWaitExpire 0) s ((s.dev.waitUntil ((s.dev.coder 0).since + s.dev.blockWait 0)).ringCloseBlock))
  ∧ (∀ s, s.dev.serviceRun = none → s.dev.pageOn .cdr = true → (s.dev.coder 1).block = [] →
    Effect (.coderContextReset 2) s (s.dev.updCoder 1 fun c => c.reset))
  ∧ (∀ s, s.dev.pageOn .cdr = true → (s.dev.coder 1).block ≠ [] →
    Effect (.coderContextReset 2) s (s.dev.updCoder 1 fun c => { c with askReset := true }))
  ∧ (∀ s ctxs, s.dev.pageOn .cdr = true → Effect (.coderContextReset ctxs) s (((List.range 16).filter fun c => ctxs.getLsbD c).foldl (fun (d : Device) c => d.resetCoder c) s.dev))
  ∧ (∀ s data, s.dev.pageOn .cdr = true → (10 ≤ s.dev.fld Reg.CDR.CTX_ADDR_CTX ∨ s.dev.flag (fIdle .cdr) = true) → (s.dev.coder (s.dev.fld Reg.CDR.CTX_ADDR_CTX)).block = [] →
    (s.dev.coder (s.dev.fld Reg.CDR.CTX_ADDR_CTX)).emit = [] →
    Effect (.coderCtxDataWrite data) s ((s.dev.updCoder (s.dev.fld Reg.CDR.CTX_ADDR_CTX) fun c => c.restore (s.dev.fld Reg.CDR.CTX_ADDR_WORD) data).stepCtxAddr))
  ∧ (∀ s data, s.dev.serviceRun = none → s.dev.pageOn .cdr = true → s.dev.flag Reg.CDR.CTX_ADDR_AUTOINC = false → (s.dev.coder (s.dev.fld Reg.CDR.CTX_ADDR_CTX)).block ≠ [] →
    Completes (.coderCtxDataWrite data) s fun d => Leaves [] (regs []) [.cdr] s.dev d ∧ (d.sticky .cdr).getLsbD 1 = true)
  ∧ (∀ s, s.dev.serviceRun = none → s.dev.pageOn .cdr = true → s.dev.fld Reg.CDR.CTX_ADDR_WORD = 0 →
    Completes .coderCtxDataRead s fun d => Leaves [.rdata, .cdr] (regs [Reg.CDR.CTX_ADDR]) [] s.dev d
      ∧ d.cdr.sample = (s.dev.coder (s.dev.fld Reg.CDR.CTX_ADDR_CTX)).image ∧ some d.rdata = (s.dev.coder (s.dev.fld Reg.CDR.CTX_ADDR_CTX)).image.head?
      ∧ d.fld Reg.CDR.CTX_ADDR_WORD = (s.dev.flag Reg.CDR.CTX_ADDR_AUTOINC).toNat)
  ∧ (∀ s, s.dev.serviceRun = none → s.dev.pageOn .cdr = true → s.dev.fld Reg.CDR.CTX_ADDR_WORD ≠ 0 →
    Completes .coderCtxDataRead s fun d => Leaves [.rdata] (regs [Reg.CDR.CTX_ADDR]) [] s.dev d
      ∧ d.rdata = s.dev.cdr.sample.getD (s.dev.fld Reg.CDR.CTX_ADDR_WORD) 0)
  ∧ (∀ s (data : W32), s.dev.pageOn .cdr = true → s.dev.cdr.lbIn.length < 64 →
    Effect (.loopbackPush data) s
      (let d := s.dev.setWord Reg.CDR.LB_IN_HI data
       Device.loopPump { d with cdr := { d.cdr with lbIn := d.cdr.lbIn ++ [(d.loopCtx, data ++ d.word Reg.CDR.LB_IN_LO)] } }))
  ∧ (∀ s data, s.dev.serviceRun = none → s.dev.pageOn .cdr = true → 64 ≤ s.dev.cdr.lbIn.length →
    Completes (.loopbackPush data) s fun d => Leaves [] (regs [Reg.CDR.LB_IN_HI, Reg.CDR.LB_STATUS]) [.cdr] s.dev d
      ∧ d.flag Reg.CDR.LB_STATUS_OVERRUN = true ∧ (d.sticky .cdr).getLsbD 5 = true)
  ∧ (∀ s w rest, s.dev.pageOn .cdr = true → s.dev.cdr.lbOut = w :: rest →
    Effect .loopbackPop s
      (let d := (s.dev.setWord Reg.CDR.LB_WORD_LO (w.extractLsb' 0 32)).setWord Reg.CDR.LB_WORD_HI (w.extractLsb' 32 32)
       { Device.loopPump { d with cdr := { d.cdr with lbOut := rest } } with rdata := 0x80000000#32 ||| BitVec.ofNat 32 rest.length }))
  ∧ (∀ s, s.dev.pageOn .cdr = true → s.dev.cdr.lbOut = [] → Effect .loopbackPop s { s.dev with rdata := 0 })
  ∧ (∀ s, s.dev.pageOn .cdr = true → (s.dev.coder s.dev.loopCtx).remain = 0 → Effect .loopbackFlush s ((s.dev.closeBlock s.dev.loopCtx).loopPump))
  ∧ (∀ s, s.dev.pageOn .cdr = true → (s.dev.coder s.dev.loopCtx).remain ≠ 0 →
    Effect .loopbackFlush s ((s.dev.updCoder s.dev.loopCtx fun c => { c with closeDue := true }).loopPump))

/-- The lanes' control and training: EN of a powered lane that may train starts an attempt (R404), without EN an idle lane stays OFF (R404); without EN or by RETRAIN a lane that is not OFF is removed, an ACTIVE transmit lane only once it has left the lane set, and with EN again it goes on to a new attempt (R404, R419); the fourth good control word in succession leads DETECT to TRAIN,
and one in TRAIN carries the precoding and the end of training (R404-R407); a PRBS window lasts its time, and one with at most 100 errors makes a lane READY (R405); a lane past its
final frames becomes ACTIVE (R407); an open-loop lane trains for 100 µs (R409); an attempt fails after 10 ms (R408); a back-off ends in a new
attempt (R408); a second of ACTIVE forgets the failures (R408); an hour DOWN is PERMANENT and raises event 8 (R410).
Readings and choices of the model that it rests on: log entries 9, 27, 77 and 137. -/
def Obligations.LaneTraining : Prop :=
  (∀ s (lane : Lane), s.dev.lanePowered lane.val = true → (s.dev.setFlag (Reg.LNK.LANE_CTRL_EN lane.val) true).laneAllowed lane.val = true →
    (s.dev.setFlag (Reg.LNK.LANE_CTRL_EN lane.val) true).laneState lane.val = 0 →
    Effect (.laneEnable lane) s ((s.dev.setFlag (Reg.LNK.LANE_CTRL_EN lane.val) true).startAttempt lane.val))
  ∧ (∀ s (lane : Lane), s.dev.lanePowered lane.val = true → (s.dev.setFlag (Reg.LNK.LANE_CTRL_EN lane.val) true).laneAllowed lane.val = true →
    (s.dev.setFlag (Reg.LNK.LANE_CTRL_EN lane.val) true).laneState lane.val ≠ 0 → (s.dev.lane lane.val).leaving.isSome = true →
    Effect (.laneEnable lane) s ((s.dev.setFlag (Reg.LNK.LANE_CTRL_EN lane.val) true).updLane lane.val fun x => { x with leaving := some true }))
  ∧ (∀ s (lane : Lane), s.dev.lanePowered lane.val = true → (s.dev.setFlag (Reg.LNK.LANE_CTRL_EN lane.val) false).laneAllowed lane.val = false →
    (s.dev.setFlag (Reg.LNK.LANE_CTRL_EN lane.val) false).laneState lane.val ≠ 0 →
    Effect (.laneDisable lane) s ((s.dev.setFlag (Reg.LNK.LANE_CTRL_EN lane.val) false).removeLane lane.val false).nextRetrain)
  ∧ (∀ s (lane : Lane), s.dev.lanePowered lane.val = true → (s.dev.setFlag (Reg.LNK.LANE_CTRL_EN lane.val) false).laneAllowed lane.val = false →
    (s.dev.setFlag (Reg.LNK.LANE_CTRL_EN lane.val) false).laneState lane.val = 0 →
    Effect (.laneDisable lane) s (s.dev.setFlag (Reg.LNK.LANE_CTRL_EN lane.val) false).nextRetrain)
  ∧ (∀ s (lane : Fin 8), s.dev.lanePowered lane.val = true → s.dev.laneState lane.val = 3 → (s.dev.updLane lane.val fun x => { x with leaving := some true }).wantSet ≠ 0 →
    Effect (.laneRetrain ⟨lane.val, by omega⟩) s (s.dev.updLane lane.val fun x => { x with leaving := some true }).requestSet)
  ∧ (∀ s (lane : Fin 2), s.dev.lanePowered (8 + lane.val) = true → s.dev.laneState (8 + lane.val) = 3 →
    Effect (.laneRetrain ⟨8 + lane.val, by omega⟩) s ((s.dev.setActive (8 + lane.val) false).restLane (8 + lane.val) true).rxBundle)
  ∧ (∀ s (lane : Lane), s.dev.lanePowered lane.val = true → (s.dev.laneState lane.val = 1 ∨ s.dev.laneState lane.val = 2 ∨ s.dev.laneState lane.val = 4) →
    Effect (.laneRetrain lane) s (s.dev.restLane lane.val true))
  ∧ (∀ s (lane : Fin 2) word, s.dev.laneState (8 + lane.val) = 1 → controlWordOk word = true → (s.dev.lane (8 + lane.val)).good = 3 →
    word.extractLsb' 32 16 = (s.dev.lane (8 + lane.val)).seq + 1 →
    Effect (.trainingControlWord lane word) s
      (let d := s.dev.setFld (Reg.LNK.LANE_STATUS_PARTNER (8 + lane.val)) (word.extractLsb' 120 4).toNat
       let d := d.updLane (8 + lane.val) fun x => { x with good := 4, seq := word.extractLsb' 32 16, precode := word.getLsbD 115 }
       let d := (d.enterTrain (8 + lane.val)).reportChanged
       d.report (word.extractLsb' 80 16) (word.extractLsb' 64 16) (word.extractLsb' 48 16)))
  ∧ (∀ s (lane : Fin 2) word, s.dev.laneState (8 + lane.val) = 2 → controlWordOk word = true → word.getLsbD 115 = (s.dev.lane (8 + lane.val)).precode →
    Effect (.trainingControlWord lane word) s
      (((s.dev.setFlag (Reg.LNK.LANE_STATUS_PRECODED (8 + lane.val)) (word.getLsbD 115)).updLane (8 + lane.val) fun x =>
        { x with bad := 0, seq := word.extractLsb' 32 16, precode := word.getLsbD 115, final := x.final || (x.ready && word.getLsbD 114) }).report
          (word.extractLsb' 80 16) (word.extractLsb' 64 16) (word.extractLsb' 48 16)))
  ∧ (∀ s (lane : Fin 2) errors, s.dev.serviceRun = none → s.dev.laneState (8 + lane.val) = 2 → errors ≤ 100 →
    Completes (.prbsWindowEnd lane errors) s fun d => Leaves [.clock, .tim, .lnk, .zvl] (regs [Reg.LNK.LANE_SER (8 + lane.val)]) [] s.dev d
      ∧ (d.lane (8 + lane.val)).ready = true ∧ d.zvl.statusDue = true ∧ d.fld (Reg.LNK.LANE_SER_ERRORS (8 + lane.val)) = errors
      ∧ d.clock = max s.dev.clock ((s.dev.lane (8 + lane.val)).windowSince + s.dev.windowTicks (8 + lane.val)) ∧ (d.lane (8 + lane.val)).windowSince = d.clock)
  ∧ (∀ s (lane : Fin 2) errors, s.dev.serviceRun = none → s.dev.laneState (8 + lane.val) = 2 → 100 < errors →
    Completes (.prbsWindowEnd lane errors) s fun d => Leaves [.clock, .tim, .lnk] (regs [Reg.LNK.LANE_SER (8 + lane.val)]) [] s.dev d
      ∧ (d.lane (8 + lane.val)).ready = (s.dev.lane (8 + lane.val)).ready ∧ d.fld (Reg.LNK.LANE_SER_ERRORS (8 + lane.val)) = min errors 0x1FFFFF
      ∧ (d.lane (8 + lane.val)).windowSince = d.clock)
  ∧ (∀ s (lane : Lane), s.dev.laneState lane.val = 2 → (s.dev.lane lane.val).final = true → s.dev.tim.refclk = true →
    Effect (.laneActive lane) s (s.dev.activate lane.val))
  ∧ (∀ s (lane : Fin 8), s.dev.serviceRun = none → s.dev.laneState lane.val = 2 → s.dev.flag (Reg.LNK.LANE_CTRL_OPEN_LOOP lane.val) = true →
    Completes (.openLoopTrainingEnd lane) s fun d => Leaves [.clock, .tim, .lnk] (regs []) [] s.dev d
      ∧ d.clock = max s.dev.clock ((s.dev.lane lane.val).trainSince + 100 * Config.usCt) ∧ d.lane lane.val = { s.dev.lane lane.val with final := true }
      ∧ ∀ l, l ≠ lane.val → d.lane l = s.dev.lane l)
  ∧ (∀ s (lane : Lane), (s.dev.laneState lane.val = 1 ∨ s.dev.laneState lane.val = 2) →
    Effect (.trainingAttemptTimeout lane) s ((s.dev.waitUntil ((s.dev.lane lane.val).since + 10 * Config.msCt)).failAttempt lane.val))
  ∧ (∀ s (lane : Lane), s.dev.laneState lane.val = 4 →
    Effect (.backoffEnd lane) s ((s.dev.waitUntil (s.dev.lane lane.val).retryAt).startAttempt lane.val))
  ∧ (∀ s (lane : Lane), s.dev.serviceRun = none → s.dev.laneState lane.val = 3 →
    Completes (.laneStable lane) s fun d => Leaves [.clock, .tim, .lnk] (regs []) [] s.dev d
      ∧ d.clock = max s.dev.clock ((s.dev.lane lane.val).activeSince + Config.secondCt) ∧ d.lane lane.val = { s.dev.lane lane.val with fails := 0 })
  ∧ (∀ s (lane : Lane) t, (s.dev.lane lane.val).downSince = some t → s.dev.flag (Reg.LNK.LANE_STATUS_DOWN lane.val) = true →
    s.dev.flag (Reg.LNK.LANE_STATUS_PERMANENT lane.val) = false →
    Effect (.lanePermanent lane) s (((s.dev.waitUntil (t + 3600 * Config.secondCt)).setFlag (Reg.LNK.LANE_STATUS_PERMANENT lane.val) true).raise .lnk 8 lane.val))

/-- The lane path: a codeword of an ACTIVE receive lane is decoded, counted with its corrected symbols or as uncorrectable with event 10, and taken with its blocks (R388, R393); a loss of lock of an ACTIVE lane is counted, keeps its cause, raises
event 1 and drops the lane (R411, R412); a re-stripe that has sent everything again is counted and raises event 3 (R417, R418); a block time passes on every
lane of the set, on the ACTIVE lanes outside it and on those in training (R391, R401, R427, R432); a table that passes its checks comes into force and raises event 6, one that fails them sets REJECTED and raises event 7 (R398), and SAVE asks the store for the table in force (R400); without an
acknowledgement in time everything retained is sent again, counted, with event 5 (R415); without acknowledgements the oldest frame is released after RETAIN (R416); a data
frame is sent once the one before has gone (R437, R438).
Readings and choices of the model that it rests on: log entries 27, 75, 77, 135 and 136. -/
def Obligations.LanePathAndRetention : Prop :=
  (∀ s (lane : Fin 2) word slip, s.dev.laneState (8 + lane.val) = 3 →
    Effect (.codewordReceive lane word slip) s (s.dev.rxCodeword (8 + lane.val) (rsDecode word) slip))
  ∧ (∀ s (lane : Fin 2) word slip n blocks, s.dev.serviceRun = none → s.dev.laneState (8 + lane.val) = 3 → rsDecode word = some (n, blocks) →
    Completes (.codewordReceive lane word slip) s fun d => d.word (Reg.LNK.CNT_CW (8 + lane.val)) = counted (s.dev.word (Reg.LNK.CNT_CW (8 + lane.val))) 1
      ∧ d.word (Reg.LNK.CNT_CORR_SYM (8 + lane.val)) = counted (s.dev.word (Reg.LNK.CNT_CORR_SYM (8 + lane.val))) n
      ∧ d.word (Reg.LNK.CNT_UE_CW (8 + lane.val)) = s.dev.word (Reg.LNK.CNT_UE_CW (8 + lane.val)))
  ∧ (∀ s (lane : Fin 2) word slip, s.dev.serviceRun = none → s.dev.laneState (8 + lane.val) = 3 → rsDecode word = none → s.dev.pageOn .lnk = true →
    Completes (.codewordReceive lane word slip) s fun d => d.word (Reg.LNK.CNT_CW (8 + lane.val)) = counted (s.dev.word (Reg.LNK.CNT_CW (8 + lane.val))) 1
      ∧ d.word (Reg.LNK.CNT_UE_CW (8 + lane.val)) = counted (s.dev.word (Reg.LNK.CNT_UE_CW (8 + lane.val))) 1 ∧ (d.sticky .lnk).getLsbD 10 = true)
  ∧ (∀ s (lane : Fin 2) cause, s.dev.serviceRun = none → s.dev.laneState (8 + lane.val) = 3 → s.dev.pageOn .lnk = true →
    Completes (.rxLossOfLock lane cause) s fun d => d.word (Reg.LNK.CNT_LOSS (8 + lane.val)) = counted (s.dev.word (Reg.LNK.CNT_LOSS (8 + lane.val))) 1
      ∧ d.fld (Reg.LNK.LANE_STATUS_CAUSE (8 + lane.val)) = rxLossCode cause ∧ d.laneState (8 + lane.val) ≠ 3 ∧ (d.sticky .lnk).getLsbD 1 = true)
  ∧ (∀ s (lane : Fin 8) (cause : TxLoss), s.dev.serviceRun = none → s.dev.laneState lane.val = 3 → s.dev.pageOn .lnk = true →
    (cause = .remote → s.dev.flag (Reg.LNK.LANE_CTRL_OPEN_LOOP lane.val) = false) →
    Completes (.txLossOfLock lane cause) s fun d => d.word (Reg.LNK.CNT_LOSS lane.val) = counted (s.dev.word (Reg.LNK.CNT_LOSS lane.val)) 1
      ∧ d.fld (Reg.LNK.LANE_STATUS_CAUSE lane.val) = (match cause with | .pll => 5 | .driver => 6 | .remote => 7) ∧ d.laneState lane.val ≠ 3 ∧ (d.sticky .lnk).getLsbD 1 = true)
  ∧ (∀ s (lane : Fin 2), s.dev.laneState (8 + lane.val) = 3 → (s.dev.lane (8 + lane.val)).losses = [] →
    Effect (.rxLossOfLock lane .pll) s
      (let d := ((s.dev.count (Reg.LNK.CNT_LOSS (8 + lane.val))).setFld (Reg.LNK.LANE_STATUS_CAUSE (8 + lane.val)) 5).raise .lnk 1 (8 + lane.val)
       (d.updLane (8 + lane.val) fun x => { x with losses := [] ++ [d.clock] }).dropLane (8 + lane.val) true))
  ∧ (∀ s (lane : Fin 8), s.dev.laneState lane.val = 3 → (s.dev.lane lane.val).losses = [] →
    Effect (.txLossOfLock lane .driver) s
      (let d := ((s.dev.count (Reg.LNK.CNT_LOSS lane.val)).setFld (Reg.LNK.LANE_STATUS_CAUSE lane.val) 6).raise .lnk 1 lane.val
       (d.updLane lane.val fun x => { x with losses := [] ++ [d.clock] }).dropLane lane.val true))
  ∧ (∀ s, s.dev.flag Reg.LNK.BUNDLE_STATUS_RESTRIPING = true → s.dev.lnk.setNext = none → s.dev.lnk.resend0 = [] → s.dev.lnk.resend1 ≤ s.dev.lnk.unit1 →
    s.dev.lnk.sending = [] →
    Effect .restripeDone s ((((s.dev.setFlag Reg.LNK.BUNDLE_STATUS_RESTRIPING false).count Reg.LNK.CNT_RESTRIPE).raise .lnk 3).requestSet))
  ∧ (∀ s, s.dev.lnk.slot % 20 ≠ 0 →
    Effect .codewordTransmit s
      (let d := (setLanes s.dev.txSet).foldl (fun (d : Device) (l : Nat) => d.laneSlot 0 l) s.dev
       let d := (List.range 8).foldl (fun (d : Device) (l : Nat) => (d.waitSlot false l).trainSlot l) d
       Device.leaveLanes { d with lnk := { d.lnk with slot := d.lnk.slot + 1 } }))
  ∧ (∀ s, s.dev.serviceRun = none → Completes .codewordTransmit s fun d => d.lnk.slot = s.dev.lnk.slot + 1 ∧ d.clock = s.dev.clock)
  ∧ (∀ s, s.dev.serviceRun = none → s.dev.pageOn .lnk = true → eqImageOk (s.dev.stagedImage .equalisation) = true →
    Completes .eqCommit s fun d => d.flag Reg.LNK.SUMMARY_EQ_LOADED = true ∧ d.flag Reg.LNK.EQ_CTRL_REJECTED = false ∧ (d.sticky .lnk).getLsbD 6 = true
      ∧ d.lnk.eq = SMap.setAll (fun _ => 0) [] 0 (s.dev.stagedImage .equalisation))
  ∧ (∀ s, s.dev.serviceRun = none → s.dev.pageOn .lnk = true → eqImageOk (s.dev.stagedImage .equalisation) = false →
    Completes .eqCommit s fun d => Leaves [] (regs [Reg.LNK.EQ_CTRL]) [.lnk] s.dev d ∧ d.flag Reg.LNK.EQ_CTRL_REJECTED = true ∧ (d.sticky .lnk).getLsbD 7 = true)
  ∧ (∀ s, s.dev.flag Reg.LNK.EQ_CTRL_SAVE_BUSY = false → s.dev.eqLoaded = true →
    Effect .eqSave s ((s.dev.setFlag Reg.LNK.EQ_CTRL_SAVE_BUSY true).store
      { page := 48, words := (List.range 19).map fun k => (k, (s.dev.eqWord k).toNat), owner := .eqSave }))
  ∧ (∀ s, s.dev.flag Reg.LNK.CTRL_ACK_EN = true → s.dev.lnk.frames ≠ [] → s.dev.flag Reg.LNK.SUMMARY_TX_BUNDLE_UP = true →
    Effect .ackTimeout s (((s.dev.waitUntil (s.dev.lnk.advanced + s.dev.ackTimeout)).startResend.count Reg.LNK.CNT_ACK_TIMEOUT).raise .lnk 5))
  ∧ (∀ s f rest t, s.dev.lnk.frames = f :: rest → f.sentAt = some t → s.dev.flag Reg.LNK.CTRL_ACK_EN = false →
    Effect .retainExpire s ((s.dev.waitUntil (t + Config.usCt * max 1 (s.dev.fld Reg.LNK.RETAIN_US))).releaseFrame f))
  ∧ (∀ s, s.dev.flag Reg.LNK.SUMMARY_TX_BUNDLE_UP = true → s.dev.lnk.sending = [] → Effect (.dataFrameSend 0) s s.dev.sendRecords)
  ∧ (∀ s, s.dev.flag Reg.LNK.SUMMARY_TX_BUNDLE_UP = true → s.dev.lnk.sending = [] → Effect (.dataFrameSend 1) s s.dev.sendReadback)

/-- Messages of the link: an ALIGN that heads a lane's buffer is taken (R431, R433); a DFRAME opens a frame, an ACK releases what it acknowledges, an LSTATUS reports on
the transmit lanes, a TRIG reaches the trigger engine, a TSYNC acts as a SYNC edge, each taken from the head of the de-striped stream
(R434, R437, R439, R442, R449, R450); an ACK is repeated and a report renewed 10 µs after the last (R439, R442); a TSYNC that only compares notes the CT of its load
tick, one that loads sets the time base where FE_INHIBIT has held long enough and is refused with event 7 of the island otherwise; each is counted and raises event 7 (R90, R450).
Readings and choices of the model that it rests on: log entries 41, 76 and 78. -/
def Obligations.LinkMessages : Prop :=
  (∀ s (lane : Fin 2) w rest e, s.dev.deskew (8 + lane.val) = .align w :: rest → s.dev.zvl.epoch = some e → w.extractLsb' 224 16 = e →
    Effect (.alignReceive lane) s
      (let d := s.dev.setDeskew (8 + lane.val) rest
       Device.pumpRx { d with zvl := { d.zvl with position := SMap.insert (8 + lane.val) (w.extractLsb' 128 48) d.zvl.position } }))
  ∧ (∀ s (lane : Fin 2) w rest, s.dev.deskew (8 + lane.val) = .align w :: rest → s.dev.zvl.epoch = none →
    Effect (.alignReceive lane) s
      (let d := s.dev.setDeskew (8 + lane.val) rest
       Device.pumpRx { d with zvl := { d.zvl with
         position := SMap.insert (8 + lane.val) (w.extractLsb' 128 48) d.zvl.position, oldSet := d.zvl.set, oldBsn := d.zvl.setBsn, set := w.extractLsb' 240 2
         setBsn := w.extractLsb' 176 48, epoch := some (w.extractLsb' 224 16), next := if w.extractLsb' 126 2 = 0#2 then w.extractLsb' 128 48 else w.extractLsb' 176 48 } }))
  ∧ (∀ s w rest, s.dev.zvl.queue = some w :: rest → w.getLsbD 256 = true → msgOf w = 1 →
    Effect .dframeReceive s
      (let d := Device.openFrame { s.dev with zvl := { s.dev.zvl with queue := rest } } w
       d.skipBlocks d.zvl.queue.length))
  ∧ (∀ s w rest, s.dev.zvl.queue = some w :: rest → w.getLsbD 256 = true → msgOf w = 2 →
    Effect .ackReceive s
      (let d := Device.acknowledge { s.dev with zvl := { s.dev.zvl with queue := rest } } (w.extractLsb' 212 32)
       d.skipBlocks d.zvl.queue.length))
  ∧ (∀ s, s.dev.serviceRun = none → s.dev.zvl.accepted.isSome = true → s.dev.flag Reg.LNK.SUMMARY_RX_BUNDLE_UP = true →
    Completes .ackRepeat s fun d => Leaves [.clock, .tim, .zvl] (regs []) [] s.dev d
      ∧ d.clock = max s.dev.clock (s.dev.zvl.ackAt + 10 * Config.usCt) ∧ d.zvl = { s.dev.zvl with ackDue := true })
  ∧ (∀ s w rest, s.dev.zvl.queue = some w :: rest → w.getLsbD 256 = true → msgOf w = 3 →
    Effect .lstatusReceive s
      (let d := Device.report { s.dev with zvl := { s.dev.zvl with queue := rest } } (w.extractLsb' 228 16) (w.extractLsb' 212 16) (w.extractLsb' 196 16)
       d.skipBlocks d.zvl.queue.length))
  ∧ (∀ s, s.dev.serviceRun = none → s.dev.flag Reg.LNK.SUMMARY_TX_BUNDLE_UP = true → s.dev.domOn 14 = true →
    Completes .lstatusPeriodic s fun d => Leaves [.clock, .tim, .zvl] (regs []) [] s.dev d
      ∧ d.clock = max s.dev.clock (s.dev.zvl.statusAt + 10 * Config.usCt) ∧ d.zvl = { s.dev.zvl with statusDue := true })
  ∧ (∀ s w, s.dev.serviceRun = none → s.dev.zvl.queue = [some w] → w.getLsbD 256 = true → msgOf w = 0x20 → s.dev.flag Reg.ZVL.CTRL_TRIG_EN = true → s.dev.pageOn .trg = true →
    Completes .trigMessage s fun d => Leaves [.zvl, .trg] (regs [Reg.ZVL.CNT_TRIG_RX]) [] s.dev d
      ∧ d.word Reg.ZVL.CNT_TRIG_RX = counted (s.dev.word Reg.ZVL.CNT_TRIG_RX) 1 ∧ d.zvl.queue = []
      ∧ d.trg.prims = s.dev.trg.prims ++ [{ kind := 4, sel := bodyField w 240 4, time := some (bodyField w 176 64) }])
  ∧ (∀ s w rest, s.dev.zvl.queue = some w :: rest → w.getLsbD 256 = true → msgOf w = 0x20 →
    Effect .trigMessage s
      (let d := Device.count { s.dev with zvl := { s.dev.zvl with queue := rest } } Reg.ZVL.CNT_TRIG_RX
       let d := if s.dev.flag Reg.ZVL.CTRL_TRIG_EN && s.dev.pageOn .trg then
         { d with trg := { d.trg with prims := d.trg.prims ++ [{ kind := 4, sel := bodyField w 240 4, time := some (bodyField w 176 64) }] } } else d
       d.skipBlocks d.zvl.queue.length))
  ∧ (∀ s w rest, s.dev.zvl.queue = some w :: rest → w.getLsbD 256 = true → msgOf w = 0x21 → s.dev.flag Reg.ZVL.CTRL_TSYNC_EN = true → s.dev.domOn 1 = true →
    s.dev.flag Reg.TIM0.STATUS_LOCK = true →
    Effect .tsyncMessage s
      (let d := Device.seeSync
         { s.dev with
           zvl := { s.dev.zvl with queue := rest },
           tim := { s.dev.tim with tsync := s.dev.tim.tsync ++ [⟨if w.getLsbD 243 then 3 else 2, w.extractLsb' 203 40, w.extractLsb' 185 18,
             s.dev.tim.count + 1 + BitVec.ofNat 58 (max 64 (s.dev.fld Reg.ZVL.TSYNC_DELAY_CT))⟩] } }
         (if w.getLsbD 243 then 3 else 2)
       d.skipBlocks d.zvl.queue.length))
  ∧ (∀ s w, s.dev.serviceRun = none → s.dev.zvl.queue = [some w] → w.getLsbD 256 = true → msgOf w = 0x21 → s.dev.flag Reg.ZVL.CTRL_TSYNC_EN = false →
    Completes .tsyncMessage s fun d => Leaves [.zvl] (regs [Reg.ZVL.CNT_TSYNC_IGNORED]) [] s.dev d ∧ d.zvl.queue = []
      ∧ d.word Reg.ZVL.CNT_TSYNC_IGNORED = counted (s.dev.word Reg.ZVL.CNT_TSYNC_IGNORED) 1)
  ∧ (∀ s phase e rest, s.dev.domOn 1 = true → s.dev.tim.tsync = e :: rest → e.mode = 2 →
    Effect (.tsyncLoadTick phase) s (((Device.checkTsync (Device.advanceTo { s.dev with tim := { s.dev.tim with tsync := rest } } e.loadAt) e).count Reg.ZVL.CNT_TSYNC).raise .zvl 7))
  ∧ (∀ s phase e rest d, s.dev.domOn 1 = true → s.dev.tim.tsync = e :: rest → e.mode = 3 → d = Device.advanceTo { s.dev with tim := { s.dev.tim with tsync := rest } } e.loadAt →
    (d.tim.sync.any fun x => x.loadAt == e.loadAt && (x.mode == 1 || x.mode == 3)) = false → d.mayLoad = true →
    Effect (.tsyncLoadTick phase) s (((d.loadTimeBase e.frame e.phase phase).count Reg.ZVL.CNT_TSYNC).raise .zvl 7))
  ∧ (∀ s phase e rest d, s.dev.domOn 1 = true → s.dev.tim.tsync = e :: rest → e.mode = 3 → d = Device.advanceTo { s.dev with tim := { s.dev.tim with tsync := rest } } e.loadAt →
    (d.tim.sync.any fun x => x.loadAt == e.loadAt && (x.mode == 1 || x.mode == 3)) = false → d.mayLoad = false →
    Effect (.tsyncLoadTick phase) s ((((d.raise .tim0 7).checkTsync e).count Reg.ZVL.CNT_TSYNC).raise .zvl 7))

/-- Reading and writing registers: a write of an EV_ENABLE register takes the word (R476), of EV_STICKY clears the bits written 1 (R476); a write to a page without power and an
unaligned one change nothing (R477, R9); no core reaches past the map of BAR0's registers (R30); a write that differs in sealed content outside UNSEALED is refused, counted, audited and raises its
alarm (R493); a write to an RWA register without the authenticated mark is refused, audited and raises its alarm (R494); a read of a latching LO register takes its HI
partner with it (R458), and its lowest byte goes to the lowest address (R12); a partial write through PCI Express is ignored and counted, a whole one is a write (R458); a save of the mask begins while the store has power (R562).
Readings and choices of the model that it rests on: log entries 4, 25, 35, 37 and 103. -/
def Obligations.RegisterReadsAndWrites : Prop :=
  (∀ s route data, s.dev.serviceRun = none → s.dev.routeOpen route = true → s.dev.pageOn .hlt = true →
    Completes (.registerWrite route (BitVec.ofNat _ (pageBase .hlt + 0x18)) data) s fun d => Leaves [.rdata, .evEnable] (regs []) [] s.dev d
      ∧ d.evEn .hlt = data ∧ d.wrRefused = false ∧ ∀ p, p ≠ .hlt → d.evEn p = s.dev.evEn p)
  ∧ (∀ s route data, s.dev.serviceRun = none → s.dev.routeOpen route = true → s.dev.pageOn .trg = true →
    Completes (.registerWrite route (BitVec.ofNat _ (pageBase .trg + 0x14)) data) s fun d => Leaves [.rdata] (regs []) [.trg] s.dev d
      ∧ d.sticky .trg = s.dev.sticky .trg &&& ~~~data ∧ d.wrRefused = false)
  ∧ (∀ s route data, s.dev.routeOpen route = true → s.dev.pageOn .trg = false →
    Effect (.registerWrite route (BitVec.ofNat _ Reg.TRG.COND_CTRL) data) s { s.dev with wrRefused := false })
  ∧ (∀ s route (addr : RegAddr) data, s.dev.routeOpen route = true → routeReaches addr.toNat route = true → addr.toNat % 4 ≠ 0 →
    Effect (.registerWrite route addr data) s { s.dev with wrRefused := false })
  ∧ (∀ s core (addr : RegAddr) data, dspReaches addr.toNat = false → Effect (.registerWrite (.dsp core) addr data) s s.dev)
  ∧ (∀ s route (data : W32), s.dev.serviceRun = none → s.dev.routeOpen route = true → s.dev.pageOn .sea1 = true → s.dev.unsealed = false →
    data ≠ s.dev.word (Reg.SEA1.INJCAL 0) →
    Completes (.registerWrite route (BitVec.ofNat _ (Reg.SEA1.INJCAL 0)) data) s fun d => Leaves [.rdata] (regs [Reg.SEA0.CNT_REFUSED_WRITE]) [] s.dev d
      ∧ d.word (Reg.SEA1.INJCAL 0) = s.dev.word (Reg.SEA1.INJCAL 0) ∧ d.wrRefused = true
      ∧ d.word Reg.SEA0.CNT_REFUSED_WRITE = counted (s.dev.word Reg.SEA0.CNT_REFUSED_WRITE) 1)
  ∧ (∀ s route data, s.dev.routeOpen route = true → s.dev.pageOn .sea0 = true →
    Effect (.rwaWrite route none (BitVec.ofNat _ Reg.SEA0.UNSEAL) data) s ({ s.dev with wrRefused := false }.refuseUnmarked (routeCode route) Reg.SEA0.UNSEAL data))
  ∧ (∀ s route (slot : Fin 4) data, s.dev.routeOpen route = true → s.dev.pageOn .sea0 = true →
    Effect (.rwaWrite route (some slot) (BitVec.ofNat _ Reg.SEA0.UNSEAL) data) s ({ s.dev with wrRefused := false }.writeUnseal (routeCode route) slot.val data))
  ∧ (∀ s route, s.dev.serviceRun = none → s.dev.routeOpen route = true → s.dev.pageOn .evb = true →
    Completes (.latchedPairRead route (BitVec.ofNat _ Reg.EVB.FRONT_LO)) s fun d => Leaves [.rdata] (regs [Reg.EVB.FRONT_HI]) [] s.dev d
      ∧ d.word Reg.EVB.FRONT_HI ++ d.rdata = BitVec.ofInt 64 s.dev.evb.front ∧ d.rdataBytes.getD 0 0 = (BitVec.ofInt 64 s.dev.evb.front).toNat % 256)
  ∧ (∀ s addr data, s.dev.domOn 11 = true → Effect (.barPartialWrite addr data 0xF#4) s (s.dev.regWrite .pcie none addr.toNat data))
  ∧ (∀ s addr data enables, s.dev.serviceRun = none → s.dev.domOn 11 = true → enables ≠ 0xF#4 →
    Completes (.barPartialWrite addr data enables) s fun d => Leaves [] (regs [Reg.PCI.CNT_BE_IGNORED]) [] s.dev d
      ∧ d.word Reg.PCI.CNT_BE_IGNORED = counted (s.dev.word Reg.PCI.CNT_BE_IGNORED) 1)
  ∧ (∀ s, s.dev.pageOn .hlt = true → s.dev.pageOn .nvs = true → s.dev.flag Reg.HLT.MASK_SAVE_BUSY = false →
    Effect .maskSave s
      (let d := Device.setFlag { s.dev with hlt := { s.dev.hlt with maskLeft := (List.range s.dev.maskPages).map (· + 272) } } Reg.HLT.MASK_SAVE_BUSY true
       d.maskNext d.nextMask))

/-- The rings: a TAIL that fits posts descriptors (R462), one that does not sets TAIL_ERR and raises event 10 (R462); a fetch reads 32 bytes and keeps the descriptor (R462), a
failed one is counted, sets ERROR and raises event 10 (R470); a descriptor with a cause to end completes with its status (R463, R465), and one partly filled by its
timeout (R465); a write request moves what it may carry, of a readback or of the records of its ring, whose records that it completes are released (R464-R467); EN, and an abort without fetched descriptors, follow their writes (R471); a reset is taken while EN and
ACTIVE are 0 (R461, R470); a host-to-device descriptor's words are written in order and it completes with the number written and skipped, one whose read fails with status 2 and a count,
and one that an abort meets with status 3 (R468, R469, R471).
Readings and choices of the model that it rests on: log entries 69, 70 and 99. -/
def Obligations.PcieRings : Prop :=
  (∀ s (ring : Ring) tail, s.dev.pageOn .pci = true → (tail - s.dev.word (Reg.RING.HEAD ring.val)).toNat ≤ s.dev.ringSize ring.val →
    (s.dev.word (Reg.RING.TAIL ring.val) - s.dev.word (Reg.RING.HEAD ring.val)).toNat ≤ (tail - s.dev.word (Reg.RING.HEAD ring.val)).toNat →
    Effect (.ringTailWrite ring tail) s
      (if ring.val < 8 ∧ (s.dev.word (Reg.RING.TAIL ring.val) - s.dev.word (Reg.RING.HEAD ring.val)).toNat < (tail - s.dev.word (Reg.RING.HEAD ring.val)).toNat then
        (s.dev.setWord (Reg.RING.TAIL ring.val) tail).setFlag (Reg.CDR.STREAM_STATUS_STARVED (2 + ring.val)) false
       else s.dev.setWord (Reg.RING.TAIL ring.val) tail))
  ∧ (∀ s (ring : Ring) tail, s.dev.pageOn .pci = true → s.dev.ringSize ring.val < (tail - s.dev.word (Reg.RING.HEAD ring.val)).toNat →
    Effect (.ringTailWrite ring tail) s ((s.dev.setFlag (Reg.RING.RING_STATUS_TAIL_ERR ring.val) true).raise .pci 10))
  ∧ (∀ s (ring : Ring) w0 w1, s.dev.mayFetch ring.val = true →
    Effect (.descriptorFetch ring (some (w0, w1))) s
      (let n := s.dev.word (Reg.RING.FETCH ring.val)
       Device.showActive ((((s.dev.send (.hostRead (s.dev.descAddr ring.val n) 32)).setWord (Reg.RING.FETCH ring.val) (n + 1))).updRing ring.val
         fun q => { q with descs := q.descs ++ [{ index := n, word0 := w0, word1 := w1 }] }) ring.val))
  ∧ (∀ s (ring : Ring), s.dev.mayFetch ring.val = true →
    Effect (.descriptorFetch ring none) s
      ((((s.dev.send (.hostRead (s.dev.descAddr ring.val (s.dev.word (Reg.RING.FETCH ring.val))) 32)).setFlag (Reg.RING.RING_STATUS_ERROR ring.val) true).count
        Reg.PCI.CNT_FETCH_ERR).raise .pci 10))
  ∧ (∀ s (ring : ReadRing) x rest status, (s.dev.ring ring.val).descs = x :: rest → s.dev.readoutStatus ring.val x = some status → s.dev.dmaReady = true →
    Effect (.readoutDescriptorComplete ring) s (s.dev.completeReadout ring.val x status))
  ∧ (∀ s (ring : ReadRing) x rest, (s.dev.ring ring.val).descs = x :: rest → s.dev.readoutStatus ring.val x = none → s.dev.dmaReady = true → x.used ≠ 0 →
    s.dev.fld (Reg.RING.TIMEOUT_US ring.val) ≠ 0 →
    Effect (.readoutTimeout ring) s ((s.dev.waitUntil (x.since + s.dev.fld (Reg.RING.TIMEOUT_US ring.val) * Config.usCt)).completeReadout ring.val x 1))
  ∧ (∀ s (ring : ReadRing) x rest, (s.dev.ring ring.val).descs = x :: rest → s.dev.ringReady ring.val = true → s.dev.readoutStatus ring.val x = none →
    s.dev.readbackTo ring.val = true →
    (s.dev.takeReadback (s.dev.requestWords x)).2 ≠ [] →
    Effect (.dmaWriteRequest ring) s
      (let t := s.dev.takeReadback (s.dev.requestWords x)
       let y := { x with cont := !t.1.his.sending.isEmpty, used := x.used + 8 * t.2.length, readback := true, since := if x.used = 0 then t.1.clock else x.since,
                         coded := if x.used = 0 then false else x.coded }
       ((t.1.writeHost (x.buf + x.used) t.2).updRing ring.val fun q => { q with descs := y :: rest }).countMoved ring.val (8 * t.2.length)))
  ∧ (∀ s (ring : ReadRing) x rest e words serials y, (s.dev.ring ring.val).descs = x :: rest → s.dev.ringReady ring.val = true → s.dev.readoutStatus ring.val x = none →
    s.dev.readbackTo ring.val = false →
    s.dev.gather ring.val ((s.dev.ring ring.val).todo.length + 1) (s.dev.requestWords x) x [] [] = (e, words, serials, y) → words ≠ [] →
    Effect (.dmaWriteRequest ring) s
      (let z := { y with used := x.used + 8 * words.length, readback := false, since := if x.used = 0 then e.clock else x.since,
                         coded := if x.used = 0 then s.dev.codes (2 + ring.val) || e.codes (2 + ring.val) else x.coded }
       serials.foldl (fun d k => d.releaseRing ring.val k)
         (((e.writeHost (x.buf + x.used) words).updRing ring.val fun q => { q with descs := z :: rest }).countMoved ring.val (8 * words.length))))
  ∧ (∀ s (ring : Ring), s.dev.pageOn .pci = true → Effect (.ringEnable ring) s (s.dev.setFlag (Reg.RING.RING_CTRL_EN ring.val) true))
  ∧ (∀ s (ring : Ring), s.dev.pageOn .pci = true → Effect (.ringDisable ring) s (s.dev.setFlag (Reg.RING.RING_CTRL_EN ring.val) false))
  ∧ (∀ s (ring : Ring), s.dev.pageOn .pci = true → (s.dev.ring ring.val).descs = [] →
    Effect (.ringAbort ring) s (((s.dev.setFlag (Reg.RING.RING_CTRL_ABORT ring.val) true).setFlag (Reg.RING.RING_STATUS_ACTIVE ring.val) false).setFlag
      (Reg.RING.RING_CTRL_ABORT ring.val) false))
  ∧ (∀ s (ring : Ring) x rest, s.dev.pageOn .pci = true → (s.dev.ring ring.val).descs = x :: rest →
    Effect (.ringAbort ring) s ((s.dev.setFlag (Reg.RING.RING_CTRL_ABORT ring.val) true).setFlag (Reg.RING.RING_STATUS_ACTIVE ring.val) true))
  ∧ (∀ s (ring : Ring), s.dev.pageOn .pci = true → s.dev.flag (Reg.RING.RING_CTRL_EN ring.val) = false → s.dev.flag (Reg.RING.RING_STATUS_ACTIVE ring.val) = false →
    Effect (.ringReset ring) s (((((s.dev.setWord (Reg.RING.TAIL ring.val) 0).setWord (Reg.RING.HEAD ring.val) 0).setWord (Reg.RING.FETCH ring.val) 0)).setFlag
      (Reg.RING.RING_STATUS_ERROR ring.val) false))
  ∧ (∀ s (ring : H2dRing) words failAt x rest, (s.dev.ring (8 + ring.val)).descs = x :: rest → s.dev.dmaReady = true → s.dev.flag (Reg.RING.RING_CTRL_ABORT (8 + ring.val)) = true →
    Effect (.h2dDescriptorComplete ring words failAt) s (s.dev.completeDesc (8 + ring.val) x 3 (h2dWord (0, 0) 3) 0))
  ∧ (∀ s (ring : H2dRing) words x rest d n, (s.dev.ring (8 + ring.val)).descs = x :: rest → s.dev.dmaReady = true → s.dev.flag (Reg.RING.RING_CTRL_ABORT (8 + ring.val)) = false →
    x.badH2d = false → words.length = x.len / 4 →
    ((s.dev.readBuffer x.buf x.len).countMoved (8 + ring.val) x.len).h2dWrites (x.writes words 0) (0, 0) = (d, n) → (d.ring (8 + ring.val)).descs = x :: rest →
    Effect (.h2dDescriptorComplete ring words none) s
      (d.completeDesc (8 + ring.val) x (if n.2 = 0 then 0 else 1) (h2dWord n (if n.2 = 0 then 0 else 1)) 0))
  ∧ (∀ s (ring : H2dRing) words k x rest d n, (s.dev.ring (8 + ring.val)).descs = x :: rest → s.dev.dmaReady = true → s.dev.flag (Reg.RING.RING_CTRL_ABORT (8 + ring.val)) = false →
    x.badH2d = false → words.length = x.len / 4 → k < x.len / 4 →
    ((s.dev.readBuffer x.buf x.len).countMoved (8 + ring.val) (4 * k)).h2dWrites (x.writes (words.take k) 0) (0, 0) = (d, n) → (d.ring (8 + ring.val)).descs = x :: rest →
    Effect (.h2dDescriptorComplete ring words (some k)) s ((d.count Reg.PCI.CNT_READ_ERR).completeDesc (8 + ring.val) x 2 (h2dWord n 2) 0))

/-- The endpoint and the event controller: an endpoint reset, which leaves what identifies the part (R456), a link that goes down, comes up or changes (R459, R460, R488), configuration writes keep what the endpoint
supports (R455), AER errors are counted and raised (R488); an end of interrupt clears its in-service bit (R482), an entry is unmasked (R482), the oldest log entry is read
and popped (R478), and test writes raise events as if they had occurred (R476, R487).
Readings and choices of the model that it rests on: log entries 36, 71 and 95. -/
def Obligations.EndpointAndEventController : Prop :=
  (∀ s, s.dev.pageOn .pci = true → Effect .endpointReset s s.dev.resetEndpoint)
  ∧ (∀ s, s.dev.serviceRun = none → s.dev.pageOn .pci = true → Completes .endpointReset s fun d => d.identity = s.dev.identity ∧ d.pci.cfg = ({} : PciSt).cfg ∧ d.evc.insvc = 0
      ∧ d.identity.vendor = 0x1F47 ∧ d.identity.device = (match s.dev.part with | .ezn8640 => 0x8640#16 | .ezn8620 => 0x8620#16) ∧ d.identity.revision = 1)
  ∧ (∀ s, s.dev.serviceRun = none → s.dev.pageOn .pci = true → s.dev.pci.up = true →
    Completes .pcieLinkDown s fun d => Leaves [.pci] (regs [Reg.PCI.SUMMARY, Reg.PCI.LINK_STATUS, Reg.PCI.CNT_LINK_DOWN]) [.pci] s.dev d
      ∧ d.flag Reg.PCI.SUMMARY_LINK_UP = false ∧ d.fld Reg.PCI.LINK_STATUS_SPEED = 0 ∧ d.fld Reg.PCI.LINK_STATUS_WIDTH = 0
      ∧ d.word Reg.PCI.CNT_LINK_DOWN = counted (s.dev.word Reg.PCI.CNT_LINK_DOWN) 1 ∧ (d.sticky .pci).getLsbD 13 = true)
  ∧ (∀ s (speed : BitVec 4) (width : BitVec 5), s.dev.serviceRun = none → s.dev.pageOn .pci = true → s.dev.pci.up = true →
    (s.dev.fld Reg.PCI.LINK_STATUS_SPEED ≠ speed.toNat ∨ s.dev.fld Reg.PCI.LINK_STATUS_WIDTH ≠ width.toNat) → pciLinkOk speed.toNat width.toNat = true →
    Completes (.pcieLinkChange speed width) s fun d => Leaves [] (regs [Reg.PCI.LINK_STATUS]) [.pci] s.dev d
      ∧ d.fld Reg.PCI.LINK_STATUS_SPEED = speed.toNat % 2 ^ Reg.PCI.LINK_STATUS_SPEED.width
      ∧ d.fld Reg.PCI.LINK_STATUS_WIDTH = width.toNat % 2 ^ Reg.PCI.LINK_STATUS_WIDTH.width ∧ (d.sticky .pci).getLsbD 14 = true)
  ∧ (∀ s (speed : BitVec 4) (width : BitVec 5), s.dev.serviceRun = none → s.dev.pageOn .pci = true → s.dev.pci.up = false → pciLinkOk speed.toNat width.toNat = true →
    Completes (.pcieLinkUp speed width) s fun d => Leaves [.pci] (regs [Reg.PCI.SUMMARY, Reg.PCI.LINK_STATUS]) [] s.dev d
      ∧ d.pci.up = true ∧ d.flag Reg.PCI.SUMMARY_LINK_UP = true ∧ d.fld Reg.PCI.LINK_STATUS_SPEED = speed.toNat % 2 ^ Reg.PCI.LINK_STATUS_SPEED.width)
  ∧ (∀ s cfg, s.dev.serviceRun = none → s.dev.pageOn .pci = true → s.dev.pci.up = true →
    Completes (.configSpaceWrite cfg) s fun d => Leaves [.pci] (regs [Reg.PCI.LINK_STATUS]) [] s.dev d
      ∧ d.pci.cfg = PcieConfig.supported s.dev.pci.cfg cfg ∧ d.flag Reg.PCI.LINK_STATUS_BME = cfg.busMaster ∧ d.flag Reg.PCI.LINK_STATUS_D3HOT = cfg.d3hot)
  ∧ (∀ s, s.dev.serviceRun = none → s.dev.pageOn .pci = true →
    Completes (.aerError true) s fun d => Leaves [] (regs [Reg.PCI.CNT_CORR]) [.pci] s.dev d
      ∧ d.word Reg.PCI.CNT_CORR = counted (s.dev.word Reg.PCI.CNT_CORR) 1 ∧ (d.sticky .pci).getLsbD 11 = true)
  ∧ (∀ s, s.dev.serviceRun = none → s.dev.pageOn .pci = true →
    Completes (.aerError false) s fun d => Leaves [] (regs [Reg.PCI.CNT_UNCORR]) [.pci] s.dev d
      ∧ d.word Reg.PCI.CNT_UNCORR = counted (s.dev.word Reg.PCI.CNT_UNCORR) 1 ∧ (d.sticky .pci).getLsbD 12 = true)
  ∧ (∀ s (vector : BitVec 6), Effect (.vecEoi vector) s { s.dev with evc := { s.dev.evc with insvc := s.dev.evc.insvc &&& ~~~BitVec.ofNat 64 (2 ^ vector.toNat) } })
  ∧ (∀ s (vector : BitVec 6), s.dev.serviceRun = none → s.dev.pageOn .pci = true →
    Completes (.msixUnmask vector) s fun d => Leaves [.pci] (regs []) [] s.dev d
      ∧ d.msixEntry vector.toNat = { s.dev.msixEntry vector.toNat with mask := false } ∧ ∀ v, v ≠ vector.toNat → d.msixEntry v = s.dev.msixEntry v)
  ∧ (∀ s source frame rest, s.dev.serviceRun = none → s.dev.evc.log = (source, frame) :: rest →
    Completes .eventLogRead s fun d => Leaves [.rdata, .evc] (regs []) [] s.dev d ∧ d.rdata = (1#1 : BitVec 1) ++ (0 : BitVec 7) ++ frame ++ source ∧ rest <+: d.evc.log)
  ∧ (∀ s, s.dev.serviceRun = none → s.dev.evc.log = [] → Completes .eventLogRead s fun d => Leaves [.rdata] (regs []) [] s.dev d ∧ d.rdata = 0)
  ∧ (∀ s (word : Fin 8), Effect (.srcTestWrite word 1) s (s.dev.testSource (32 * word.val)))
  ∧ (∀ s (word : Fin 8) bits, Effect (.srcTestWrite word bits) s ((bitsOf bits).foldl (fun d b => d.testSource (32 * word.val + b)) s.dev))
  ∧ (∀ s page bits, Effect (.evSetWrite page bits) s (s.dev.raiseAll page (bitsOf bits)))

/-- The accesses on behalf of others: a core's fabric access reads or writes its register and reports in FAB_STATUS, and one that times out reports ERROR, event 9 and interrupt 7, its wait
counted (R327, R328); a WRITE step writes its register and goes on, or ends the sequence with FAIL where it is refused or its offset lies outside the DSP route's reach (R340); a POLL step reads its register until the bit has
its level, a DSP step claims a core, and one whose core reached HALT goes on to the next
step (R349); a data block of no frame counts as errored, one of a frame joins it, and the last completes it (R437); a read command of a disabled link page is answered DISABLED, and a read, a write or an authenticated write of an
enabled one joins the commands that are carried out in order (R444).
Readings and choices of the model that it rests on: log entries 39, 40, 41 and 42. -/
def Obligations.AccessesForOthers : Prop :=
  (∀ s (core : Core), (s.dev.core core.val).fab = some true → s.dev.pageOn (.dsp core) = true → (s.dev.core core.val).stopAsked = false →
    Effect (.fabAccessDone core true) s
      (let d := s.dev.waitUntil ((s.dev.core core.val).fabSince + 10 * Config.usCt)
       let n := (d.clock - (s.dev.core core.val).fabSince) / 2
       let d := ((d.count (Reg.DSP.CNT_FAB_STALL core.val) n).countRun core.val n).updCore core.val fun k => { k with fab := none }
       (((d.setFlag (Reg.DSPIO.FAB_STATUS_ERROR core.val) true).setFlag (Reg.DSPIO.FAB_STATUS_REFUSED core.val) false).raise (corePage core.val) 9).setFlag
         (Reg.DSPIO.IPEND_FABRIC core.val) true))
  ∧ (∀ s (core : Core) a n d e w, (s.dev.core core.val).fab = some false → s.dev.pageOn (.dsp core) = true →
    a = s.dev.fld (Reg.DSPIO.FAB_ADDR_LO_ADDR core.val) + 65536 * s.dev.fld (Reg.DSPIO.FAB_ADDR_HI_ADDR core.val) → dspReaches a = true →
    n = (s.dev.clock - (s.dev.core core.val).fabSince) / 2 →
    d = ((s.dev.count (Reg.DSP.CNT_FAB_STALL core.val) n).countRun core.val n).updCore core.val (fun k => { k with fab := none }) → d.regRead a = (e, w) →
    (((e.fabData core.val w).fabResult core.val false false).core core.val).stopAsked = false →
    Effect (.fabAccessDone core false) s ((e.fabData core.val w).fabResult core.val false false))
  ∧ (∀ s (core : Core) a data n d, (s.dev.core core.val).fab = some true → s.dev.pageOn (.dsp core) = true →
    a = s.dev.fld (Reg.DSPIO.FAB_ADDR_LO_ADDR core.val) + 65536 * s.dev.fld (Reg.DSPIO.FAB_ADDR_HI_ADDR core.val) → dspReaches a = true →
    data = BitVec.ofNat 32 (s.dev.fld (Reg.DSPIO.FAB_WDATA_LO_DATA core.val) + 65536 * s.dev.fld (Reg.DSPIO.FAB_WDATA_HI_DATA core.val)) →
    n = (s.dev.clock - (s.dev.core core.val).fabSince) / 2 →
    d = (((s.dev.count (Reg.DSP.CNT_FAB_STALL core.val) n).countRun core.val n).updCore core.val (fun k => { k with fab := none })).regWrite (.dsp core) none a data →
    ((d.fabResult core.val false d.wrRefused).core core.val).stopAsked = false →
    Effect (.fabAccessDone core false) s (d.fabResult core.val false d.wrRefused))
  ∧ (∀ s r, s.dev.sta.run = some r → s.dev.pageOn .sta1 = true → r.phase = .ready → ((s.dev.seqStep r).extractLsb' 60 4).toNat = 1 → dspReaches (stepOffset (s.dev.seqStep r)) = false →
    Effect .seqWrite s (s.dev.endSeq 2))
  ∧ (∀ s r d r', s.dev.sta.run = some r → s.dev.pageOn .sta1 = true → r.phase = .ready → ((s.dev.seqStep r).extractLsb' 60 4).toNat = 1 → dspReaches (stepOffset (s.dev.seqStep r)) = true →
    d = s.dev.regWrite (.dsp 0) none (stepOffset (s.dev.seqStep r)) ((s.dev.seqStep r).extractLsb' 0 32) → d.sta.run = some r' → r'.seq = r.seq →
    Effect .seqWrite s (if d.wrRefused then d.endSeq 2 else d.nextStep r'))
  ∧ (∀ s r d v r', s.dev.sta.run = some r → s.dev.pageOn .sta1 = true → r.phase = .ready → ((s.dev.seqStep r).extractLsb' 60 4).toNat = 3 → dspReaches (stepOffset (s.dev.seqStep r)) = true →
    s.dev.regRead (stepOffset (s.dev.seqStep r)) = (d, v) → d.sta.run = some r' → r'.seq = r.seq →
    Effect .seqPoll s (if v.getLsbD ((s.dev.seqStep r).extractLsb' 27 5).toNat = (s.dev.seqStep r).getLsbD 26 then d.nextStep r' else d.setPhase r' (.poll s.dev.clock)))
  ∧ (∀ s r since, s.dev.sta.run = some r → r.phase = .poll since → Effect .seqPoll s (s.dev.pollAgain r (s.dev.seqStep r) since))
  ∧ (∀ s r, s.dev.sta.run = some r → s.dev.pageOn .sta1 = true → r.phase = .ready → ((s.dev.seqStep r).extractLsb' 60 4).toNat = 5 →
    Effect .seqDsp s ((s.dev.setFld Reg.STA1.SVC_STATUS_STATE 2).setPhase r (.claim s.dev.clock)))
  ∧ (∀ s r c since, s.dev.sta.run = some r → r.phase = .dsp c since → (s.dev.core c).run = .halted → (s.dev.core c).cause = 1 →
    Effect .seqDsp s ((s.dev.updCore c fun k => { k with claimed := false }).nextStep r))
  ∧ (∀ s w rest, s.dev.zvl.queue = some w :: rest → w.getLsbD 256 = false → s.dev.pageOn .zvl = true → s.dev.zvl.frame = none →
    Effect .dataBlockReceive s ((Device.count { s.dev with zvl := { s.dev.zvl with queue := rest } } Reg.ZVL.CNT_ERR_BLOCK).skipBlocks rest.length))
  ∧ (∀ s w rest f, s.dev.zvl.queue = some w :: rest → w.getLsbD 256 = false → s.dev.pageOn .zvl = true → s.dev.zvl.frame = some f → f.nblk ≠ 1 → f.nblk ≠ 0 →
    Effect .dataBlockReceive s
      (let f := { f with nblk := f.nblk - 1, got := f.got ++ [w.extractLsb' 192 64, w.extractLsb' 128 64, w.extractLsb' 64 64, w.extractLsb' 0 64] }
       Device.skipBlocks { s.dev with zvl := { s.dev.zvl with queue := rest, frame := some f } } rest.length))
  ∧ (∀ s w rest f d, s.dev.zvl.queue = some w :: rest → w.getLsbD 256 = false → s.dev.pageOn .zvl = true → s.dev.zvl.frame = some f → f.nblk = 1 →
    d = Device.frameDone { s.dev with zvl := { s.dev.zvl with queue := rest } }
      { f with nblk := 0, got := f.got ++ [w.extractLsb' 192 64, w.extractLsb' 128 64, w.extractLsb' 64 64, w.extractLsb' 0 64] } →
    Effect .dataBlockReceive s (d.skipBlocks d.zvl.queue.length))
  ∧ (∀ s w rest d, s.dev.zvl.queue = some w :: rest → w.getLsbD 256 = true → msgOf w = 0x10 → s.dev.pageOn .zvl = true → s.dev.enabled .zvl = false →
    d = Device.answer { s.dev with zvl := { s.dev.zvl with queue := rest } } w 7 → Effect .rdCommand s ((d.skipBlocks d.zvl.queue.length).runCmds 17))
  ∧ (∀ s w rest, s.dev.zvl.queue = some w :: rest → w.getLsbD 256 = true → msgOf w = 0x10 → s.dev.pageOn .zvl = true → s.dev.enabled .zvl = true →
    s.dev.flag Reg.ZVL.CTRL_CMD_EN = true → s.dev.zvl.cmds.length < 16 →
    Effect .rdCommand s
      ((Device.skipBlocks { s.dev with zvl := { s.dev.zvl with queue := rest, cmds := s.dev.zvl.cmds ++ [⟨w.extractLsb' 0 256⟩] } } rest.length).runCmds 17))
  ∧ (∀ s w rest, s.dev.zvl.queue = some w :: rest → w.getLsbD 256 = true → msgOf w = 0x11 → s.dev.pageOn .zvl = true → s.dev.enabled .zvl = true →
    s.dev.flag Reg.ZVL.CTRL_CMD_EN = true → s.dev.zvl.cmds.length < 16 →
    Effect .wrCommand s
      ((Device.skipBlocks { s.dev with zvl := { s.dev.zvl with queue := rest, cmds := s.dev.zvl.cmds ++ [⟨w.extractLsb' 0 256⟩] } } rest.length).runCmds 17))
  ∧ (∀ s w rest, s.dev.zvl.queue = some w :: rest → w.getLsbD 256 = true → msgOf w = 0x12 → s.dev.pageOn .zvl = true → s.dev.enabled .zvl = true →
    s.dev.flag Reg.ZVL.CTRL_AUTH_EN = true → s.dev.zvl.cmds.length < 16 →
    Effect .authWr s
      ((Device.skipBlocks { s.dev with zvl := { s.dev.zvl with queue := rest, cmds := s.dev.zvl.cmds ++ [⟨w.extractLsb' 0 256⟩] } } rest.length).runCmds 17))

/-- The page controls of a powered page: clearing ENABLE starts a drain that shows DRAINING while work is left (R473); setting it ends the drain and the block takes work (R473);
a drain that has finished shows IDLE (R473); the link's drain releases without resending what no acknowledgement came for (R421); an abort discards the work, and is over at once for the pages that hold none of this kind (R474, R487, R546, R573), else when what it waits for is over (R474); SOFT_RESET clears
the page's counters and sticky bits, and during an abort is held until its end (R475).
Readings and choices of the model that it rests on: log entries 53, 62 and 83. -/
def Obligations.PageControlCommands : Prop :=
  (∀ s p, (∀ n, p ≠ .conv n) → s.dev.pageOn p = true → s.dev.flag (fEnable p) = true → (s.dev.setFlag (fEnable p) false).flag (fAbort p) = false →
    Effect (.pageEnableClear p) s
      (let d := (s.dev.setFlag (fEnable p) false).onDisable p
       Device.kick ((d.setFlag (fDraining p) (d.workLeft p)).setFlag (fIdle p) (!d.workLeft p))))
  ∧ (∀ s n, s.dev.pageOn (.conv n) = true → s.dev.flag (fEnable (.conv n)) = true → (s.dev.setFlag (fEnable (.conv n)) false).flag (fAbort (.conv n)) = false →
    Effect (.pageEnableClear (.conv n)) s (((s.dev.setFlag (fEnable (.conv n)) false).showDrain (.conv n)).forgetLost.kick))
  ∧ (∀ s p, s.dev.pageOn p = true → s.dev.flag (fEnable p) = false →
    Effect (.pageEnableSet p) s (((((s.dev.setFlag (fEnable p) true).setFlag (fIdle p) false).setFlag (fDraining p) false).onEnable p).kick))
  ∧ (∀ s p, p ≠ .lnk → s.dev.flag (fDraining p) = true →
    Effect (.pageDrainDone p) s ((s.dev.setFlag (fDraining p) (s.dev.workLeft p)).setFlag (fIdle p) (!s.dev.workLeft p)))
  ∧ (∀ s, s.dev.flag (fDraining .lnk) = true →
    Effect (.pageDrainDone .lnk) s ((if s.dev.workLeft .lnk then s.dev.linkDrainEnds else s.dev).showDrain .lnk))
  ∧ (∀ s p, s.dev.pageOn p = true → p ≠ .hlt → p ≠ .thm → p ≠ .evc →
    Effect (.pageAbort p) s (((s.dev.discardWork p).setFlag (fAbort p) true).setFlag (fDraining p) false))
  ∧ (∀ s p, s.dev.pageOn p = true → (p = .hlt ∨ p = .thm ∨ p = .evc) →
    Effect (.pageAbort p) s ((((s.dev.discardWork p).setFlag (fAbort p) true).setFlag (fDraining p) false).abortDone p))
  ∧ (∀ s p, s.dev.flag (fAbort p) = true → s.dev.abortPending p = false → s.dev.flag (fSoft p) = false →
    ((s.dev.setFlag (fAbort p) false).setFlag (fSoft p) false).flag (fEnable p) = true →
    Effect (.pageAbortDone p) s ((((s.dev.setFlag (fAbort p) false).setFlag (fSoft p) false).takesAgain p).kick))
  ∧ (∀ s p, s.dev.flag (fAbort p) = true → s.dev.abortPending p = false → s.dev.flag (fSoft p) = true →
    ((s.dev.setFlag (fAbort p) false).setFlag (fSoft p) false).flag (fEnable p) = false →
    Effect (.pageAbortDone p) s (((((s.dev.setFlag (fAbort p) false).setFlag (fSoft p) false).startDrain p).softReset p).kick))
  ∧ (∀ s p, s.dev.pageOn p = true → s.dev.flag (fAbort p) = false → Effect (.pageSoftReset p) s (s.dev.softReset p))
  ∧ (∀ s, s.dev.serviceRun = none → s.dev.pageOn .trg = true → s.dev.flag (fAbort .trg) = false →
    Completes (.pageSoftReset .trg) s fun d => Leaves [.trg] (pageReg .trg) [.trg] s.dev d
      ∧ d.sticky .trg = 0 ∧ d.flag (fFault .trg) = false ∧ d.word Reg.TRG.CNT_CAPTURES = 0 ∧ d.word Reg.TRG.CNT_ABORT = 0
      ∧ d.trg.prescale = [] ∧ d.trg.rearm = [] ∧ d.flag (fEnable .trg) = s.dev.flag (fEnable .trg))
  ∧ (∀ s p, s.dev.pageOn p = true → s.dev.flag (fAbort p) = true → Effect (.pageSoftReset p) s (s.dev.setFlag (fSoft p) true))

/-- Rails and power domains: a good rail shows (R527); the loss of rail 0 or 6 is a power-on reset (R528), and that of another rail cuts the domains that need it, is counted and
raises event 4, while in power-on reset it only shows (R528, R529); a rail that is good again switches on what is requested (R529); a request queues a switch for each bit that changes (R531); a switch-on of a domain with
its rails and the domains it needs completes with power (R530, R532); one that fails clears its request and raises event 6 (R532); a switch-off completes once its pages are idle, is counted and raises
event 1 (R533); pages that still drain at the end of their time are aborted (R533). The
control outputs show nothing without VDD_IO, and are low or released in power-on reset and in S0 (R593).
Readings and choices of the model that it rests on: log entries 46, 48 and 102. -/
def Obligations.RailsAndDomains : Prop :=
  (∀ s (rail : Rail), s.dev.serviceRun = none →
    Completes (.railGood rail) s fun d => Leaves [] (regs [Reg.PWRD.RAIL_STATUS]) [] s.dev d ∧ d.flag ⟨Reg.PWRD.RAIL_STATUS, rail.val, 1⟩ = true)
  ∧ (∀ s (rail : Rail), s.dev.railGood rail.val = true → (rail.val = 0 ∨ rail.val = 6) → s.dev.pwr.por = false →
    Effect (.railFault rail) s ((s.dev.setFlag ⟨Reg.PWRD.RAIL_STATUS, rail.val, 1⟩ false).powerOnReset 1))
  ∧ (∀ s (rail : Rail), s.dev.railGood rail.val = true → s.dev.pwr.por = true → Effect (.railFault rail) s (s.dev.setFlag ⟨Reg.PWRD.RAIL_STATUS, rail.val, 1⟩ false))
  ∧ (∀ s (rail : Rail), s.dev.railGood rail.val = true → s.dev.pwr.por = false → rail.val ≠ 0 → rail.val ≠ 6 →
    Effect (.railFault rail) s
      (let d := s.dev.setFlag ⟨Reg.PWRD.RAIL_STATUS, rail.val, 1⟩ false
       let all := (d.withDependents (d.domains.filter fun i => d.domOn i && (domRails i).contains rail.val) 4).mergeSort (fun a b => decide (b ≤ a))
       let d := d.cutDomains all
       let d := { d with pwr := { d.pwr with faultOff := d.pwr.faultOff ++ all.filter fun i => !d.pwr.faultOff.contains i } }
       ((d.count Reg.PWRD.CNT_RAIL_FAULT).raise .pwrDom 4 rail.val).kick))
  ∧ (∀ s (rail : Rail), s.dev.railGood rail.val = true → rail.val ≠ 0 → rail.val ≠ 6 → s.dev.pwr.por = false →
    Effect (.railOk rail) s
      (let d := s.dev.raise .pwrDom 5 rail.val
       Device.kick ((d.domains.filter fun i => !d.domOn i && d.requested i && d.railsGood i).foldl (fun (d : Device) (i : Nat) => d.queueSwitch i true) d)))
  ∧ (∀ s high data, s.dev.pageOn .pwrDom = true →
    Effect (.domainRequestWrite high data) s
      (let lo := if high then 32 else 0
       let n := if high then 28 else 32
       Device.kick (((List.range n).filter fun k => s.dev.requested (lo + k) != data.getLsbD k).foldl (fun (d : Device) (k : Nat) => d.queueSwitch (lo + k) (data.getLsbD k)) s.dev)))
  ∧ (∀ s w, s.dev.pwr.sw = some w → w.on = true → s.dev.railsGood w.dom = true → (domNeeds w.dom).all (fun n => s.dev.domOn n) = true →
    Effect .domainSwitchOnDone s ((s.dev.powerOn w.dom).endSwitch.kick))
  ∧ (∀ s w, s.dev.pwr.sw = some w → w.on = true →
    Effect .domainSwitchTimeout s
      (let d := s.dev.setFlag (domReqBit w.dom) false
       ((Device.raise { d with pwr := { d.pwr with faultOff := d.pwr.faultOff ++ (if d.pwr.faultOff.contains w.dom then [] else [w.dom]) } } .pwrDom 6 w.dom).endSwitch).kick))
  ∧ (∀ s w, s.dev.pwr.sw = some w → w.on = false → s.dev.domainIdle w.dom = true →
    Effect .domainSwitchOff s (((((s.dev.powerOff w.dom).count Reg.PWRD.CNT_SWITCH).raise .pwrDom 1 w.dom).endSwitch).kick))
  ∧ (∀ s w, s.dev.pwr.sw = some w → w.on = false → (domPages w.dom).filter (fun p => s.dev.flag (fDraining p)) ≠ [] →
    Effect .domainDrainTimeout s
      (let d := s.dev.waitUntil (w.since + max 1 (s.dev.fld Reg.PWRD.DRAIN_TIMEOUT_MS) * Config.msCt)
       ((((domPages w.dom).filter fun p => s.dev.flag (fDraining p)).foldl (fun (d : Device) (p : Page) => d.setAbort p) d).count Reg.PWRD.CNT_DRAIN_ABORT).raise .pwrDom 3 w.dom))
  ∧ (∀ d : Device, d.railGood 6 = false → d.controlPins = ⟨.highZ, .highZ, .highZ, .highZ, .highZ⟩)
  ∧ (∀ d : Device, d.railGood 6 = true → d.pwr.por = true → d.controlPins = ⟨.low, .low, .highZ, .highZ, .low⟩)
  ∧ (∀ d : Device, d.railGood 6 = true → d.pwr.por = false → d.fld Reg.HLT.SERVICE_LEVEL_LEVEL = 0 →
    d.controlPins.busyN = .low ∧ d.controlPins.warnN = .low ∧ (d.controlPins.irqN = .low ↔ d.evc.irqLow = true)
      ∧ (d.controlPins.replaceN = .low ↔ d.flag Reg.HLT.REPLACE_REQ = true))

/-- Start-up and the resets: the power-on reset ends once rails 0 and 6 are good and start-up enters step 2 (R528, R558); a waiting step goes on when what it waits for
has come (R558); a stall in step 6 raises event 6 once, a second after the step began (R559); LEVEL_REQ keeps what is written, and 0 above S0 outside start-up begins the step-down (R557, R561);
the key of a device reset restarts the device with cause 3 (R556), and the reset pin is a power-on reset with cause 2 that leaves the record of its cause (R556).
Readings and choices of the model that it rests on: log entries 45, 47, 56 and 68. -/
def Obligations.StartUpAndResets : Prop :=
  (∀ s, s.dev.pwr.por = true → s.dev.railGood 0 = true → s.dev.railGood 6 = true →
    Effect .powerOnResetEnd s (Device.enterStep { s.dev with pwr := { s.dev.pwr with por := false }, mon := { s.dev.mon with leadUntil := s.dev.clock + 500 * Config.usCt } } 2))
  ∧ (∀ s doses, s.dev.pwr.por = false → s.dev.hlt.step = 2 → Effect (.startupStepDone doses) s (s.dev.recoverStore.enterStep 3))
  ∧ (∀ s doses, s.dev.pwr.por = false → s.dev.hlt.step = 3 → Effect (.startupStepDone doses) s ((s.dev.startStep3 doses).enterStep 4))
  ∧ (∀ s doses, s.dev.pwr.por = false → s.dev.hlt.step = 4 →
    Effect (.startupStepDone doses) s (((s.dev.commitEq (s.dev.storedImage 48 19)).commitCurve (s.dev.storedImage 49 10)).enterStep 5))
  ∧ (∀ s doses, s.dev.pwr.por = false → s.dev.hlt.step = 5 → s.dev.hlt.todo = [] → Effect (.startupStepDone doses) s (s.dev.enterStep 6))
  ∧ (∀ s doses k, s.dev.pwr.por = false → s.dev.hlt.step = k → 7 ≤ k → k ≤ 9 → s.dev.hlt.todo = [] → s.dev.fld Reg.HLT.CTRL_LEVEL_REQ ≠ 0 →
    Effect (.startupStepDone doses) s ((s.dev.enterStep (k + 1)).kick))
  ∧ (∀ s doses, s.dev.pwr.por = false → s.dev.hlt.step = 10 → Effect (.startupStepDone doses) s s.dev.startStep10)
  ∧ (∀ s doses, s.dev.pwr.por = false → s.dev.hlt.step = 6 → s.dev.hlt.todo = [] → s.dev.domOn 1 = true → s.dev.flag Reg.TIM0.STATUS_LOCK = true →
    s.dev.fld Reg.HLT.CTRL_LEVEL_REQ ≠ 0 →
    Effect (.startupStepDone doses) s ((s.dev.enterStep 7).kick))
  ∧ (∀ s, s.dev.serviceRun = none → s.dev.pageOn .hlt = true → s.dev.hlt.step = 6 → s.dev.domOn 1 = true → s.dev.flag Reg.TIM0.STATUS_LOCK = false →
    s.dev.hlt.stallRaised = false →
    Completes .startStall s fun d => Leaves [.clock, .tim, .hlt] (regs []) [] s.dev d
      ∧ d.clock = max s.dev.clock (s.dev.hlt.stepSince + Config.secondCt) ∧ d.hlt.stallRaised = true ∧ (d.sticky .hlt).getLsbD 6 = true)
  ∧ (∀ s data, s.dev.pageOn .hlt = true → ((s.dev.setFld Reg.HLT.CTRL_LEVEL_REQ data.toNat).storeReg Reg.HLT.CTRL).fld Reg.HLT.CTRL_LEVEL_REQ ≠ 0 →
    Effect (.levelRequestWrite data) s (((s.dev.setFld Reg.HLT.CTRL_LEVEL_REQ data.toNat).storeReg Reg.HLT.CTRL).resumeStart.kick))
  ∧ (∀ s data, s.dev.pageOn .hlt = true → ((s.dev.setFld Reg.HLT.CTRL_LEVEL_REQ data.toNat).storeReg Reg.HLT.CTRL).fld Reg.HLT.CTRL_LEVEL_REQ = 0 →
    ((s.dev.setFld Reg.HLT.CTRL_LEVEL_REQ data.toNat).storeReg Reg.HLT.CTRL).hlt.step = 0 →
    ((s.dev.setFld Reg.HLT.CTRL_LEVEL_REQ data.toNat).storeReg Reg.HLT.CTRL).hlt.stopping = false →
    ((s.dev.setFld Reg.HLT.CTRL_LEVEL_REQ data.toNat).storeReg Reg.HLT.CTRL).fld Reg.HLT.SERVICE_LEVEL_LEVEL ≠ 0 →
    Effect (.levelRequestWrite data) s (((s.dev.setFld Reg.HLT.CTRL_LEVEL_REQ data.toNat).storeReg Reg.HLT.CTRL).stepDown.kick))
  ∧ (∀ s, s.dev.pageOn .hlt = true →
    Effect (.deviceSoftReset 0x5A5A0F0F#32) s ((Device.restart { s.dev.cutAll with thm := { s.dev.cutAll.thm with shutdown := false } } 3).kick))
  ∧ (∀ s data, data ≠ 0x5A5A0F0F#32 → Effect (.deviceSoftReset data) s s.dev)
  ∧ (∀ s, s.dev.pwr.por = false → Effect .resetPin s (s.dev.powerOnReset 2))
  ∧ (∀ s, s.dev.pwr.por = false → Completes .resetPin s fun d => d.fld Reg.HLT.RESET_CAUSE_CAUSE = 2 ∧ d.word Reg.PWRD.RAIL_STATUS = s.dev.word Reg.PWRD.RAIL_STATUS
      ∧ d.nvs.pages = (if s.dev.domOn 3 then s.dev.cutStore else s.dev).nvs.pages ∧ d.sec.otp = s.dev.sec.otp ∧ d.clock = s.dev.clock)

/-- Health and the store: FAILED_CLUSTERS follows the clusters that fail now, a change raises event 2, and the criteria are evaluated (R570, R572); a cause whose criterion no longer holds is
cleared, stored, and REQ follows (R572); a replace request is repeated as an event message (R572); doses that are read are taken (R568); an hour's upsets
within the limit are shown and their sum begins anew, and beyond it raise event 3 (R567); the loss of REFCLK stops the frequency test of TREF, takes the lanes out of lock with cause 5, and fails the history memory (R598); scrub findings are counted (R566, R567); a
vote correction is counted in a powered page (R566); a committed write is told to its owner, an authenticated write's carry-out follows it, its home copy ends it, a failure is told (R563), and a patrol reads a page (R565).
Readings and choices of the model that it rests on: log entries 49, 50, 54, 64 and 105. -/
def Obligations.HealthAndStore : Prop :=
  (∀ s, s.dev.pwr.por = false → s.dev.failedClusters = s.dev.fld Reg.HLT.FAILED_CLUSTERS_COUNT →
    Effect .failedClustersUpdate s ((s.dev.setFld Reg.HLT.FAILED_CLUSTERS_COUNT s.dev.failedClusters).evalCriteria))
  ∧ (∀ s, s.dev.pwr.por = false → s.dev.failedClusters ≠ s.dev.fld Reg.HLT.FAILED_CLUSTERS_COUNT →
    Effect .failedClustersUpdate s (((s.dev.setFld Reg.HLT.FAILED_CLUSTERS_COUNT s.dev.failedClusters).raise .hlt 2).evalCriteria))
  ∧ (∀ s bits, s.dev.pageOn .hlt = true → s.dev.fld Reg.HLT.REPLACE_CAUSE &&& (bits.toNat % 64 &&& (63 ^^^ s.dev.fld Reg.HLT.REPLACE_NOW)) ≠ 0 →
    Effect (.replaceCauseClear bits) s
      (((s.dev.setFld Reg.HLT.REPLACE_CAUSE (s.dev.fld Reg.HLT.REPLACE_CAUSE &&& (63 ^^^ (bits.toNat % 64 &&& (63 ^^^ s.dev.fld Reg.HLT.REPLACE_NOW))))).followCause).storeReg
        Reg.HLT.REPLACE))
  ∧ (∀ s, s.dev.flag Reg.HLT.REPLACE_REQ = true → Effect .replaceEventRepeat s (s.dev.eventMessage 249 1 0))
  ∧ (∀ s doses, s.dev.pwr.por = false → Effect (.doseRead doses) s (s.dev.readDoses doses))
  ∧ (∀ s, s.dev.serviceRun = none → s.dev.pwr.por = false → s.dev.hlt.hourUpsets ≤ s.dev.fld Reg.HLT.UPSET_LIMIT_COUNT → s.dev.hlt.hourUpsets ≤ 0xFFFFFFFF →
    Completes .upsetHour s fun d => Leaves [.hlt] (regs [Reg.HLT.UPS_HOUR]) [] s.dev d
      ∧ d.fld Reg.HLT.UPS_HOUR_COUNT = s.dev.hlt.hourUpsets % 2 ^ Reg.HLT.UPS_HOUR_COUNT.width ∧ d.hlt.hourUpsets = 0)
  ∧ (∀ s, s.dev.serviceRun = none → s.dev.pwr.por = false → s.dev.pageOn .hlt = true → s.dev.fld Reg.HLT.UPSET_LIMIT_COUNT < min s.dev.hlt.hourUpsets 0xFFFFFFFF →
    Completes .upsetHour s fun d => Leaves [.hlt] (regs [Reg.HLT.UPS_HOUR]) [.hlt] s.dev d ∧ d.hlt.hourUpsets = 0 ∧ (d.sticky .hlt).getLsbD 3 = true)
  ∧ (∀ s d, s.dev.domOn 1 = false → d = s.dev.presentLanes.foldl (fun (d : Device) l => d.loseLane l 5) { s.dev with tim := { s.dev.tim with refclk := false, freqLost := false } } →
    Effect .refclkLoss s (if d.hisState = 1 ∨ d.hisState = 2 then d.memoryFails else d))
  ∧ (∀ s d, s.dev.domOn 1 = true → s.dev.tim.freqLost = false →
    d = s.dev.presentLanes.foldl (fun (d : Device) l => d.loseLane l 5)
      (Device.setFld { s.dev with tim := { s.dev.tim with refclk := false, freqLost := false } } Reg.TIM0.TREF_FREQ_KHZ 0) →
    Effect .refclkLoss s (if d.hisState = 1 ∨ d.hisState = 2 then d.memoryFails else d))
  ∧ (∀ s d, s.dev.domOn 1 = true → s.dev.tim.freqLost = true →
    d = s.dev.presentLanes.foldl (fun (d : Device) l => d.loseLane l 5)
      ((Device.setFld { s.dev with tim := { s.dev.tim with refclk := false, freqLost := false } } Reg.TIM0.TREF_FREQ_KHZ 0).setFlag Reg.TIM0.STATUS_TREF_PRESENT true).evalLock →
    Effect .refclkLoss s (if d.hisState = 1 ∨ d.hisState = 2 then d.memoryFails else d))
  ∧ (∀ s, s.dev.serviceRun = none → s.dev.pwr.por = false →
    Completes (.sramScrub [⟨.other, false⟩]) s fun d => Leaves [.hlt] (regs [Reg.HLT.UPS_MEM_CE]) [] s.dev d
      ∧ d.word Reg.HLT.UPS_MEM_CE = counted (s.dev.word Reg.HLT.UPS_MEM_CE) 1 ∧ d.hlt.hourUpsets = s.dev.hlt.hourUpsets + 1)
  ∧ (∀ s findings, s.dev.pwr.por = false → Effect (.sramScrub findings) s (findings.foldl (fun (d : Device) (f : ScrubFinding) => d.scrubFound f) s.dev))
  ∧ (∀ s page, s.dev.serviceRun = none → s.dev.pageOn page = true →
    Completes (.tmrVoteCorrection page) s fun d => Leaves [.hlt] (regs [Reg.HLT.UPS_TMR]) [] s.dev d
      ∧ d.word Reg.HLT.UPS_TMR = counted (s.dev.word Reg.HLT.UPS_TMR) 1 ∧ d.hlt.hourUpsets = s.dev.hlt.hourUpsets + 1)
  ∧ (∀ s w, s.dev.nvs.prog = some w → s.dev.pageOn .nvs = true → s.dev.nvs.committed = false →
    (s.dev.markCommitted.ownerDone w).authOf w = none →
    Effect .journalCommit s (s.dev.markCommitted.ownerDone w))
  ∧ (∀ s w a, s.dev.nvs.prog = some w → s.dev.pageOn .nvs = true → s.dev.nvs.committed = false →
    (s.dev.markCommitted.ownerDone w).authOf w = some a →
    Effect .journalCommit s ((s.dev.markCommitted.ownerDone w).authCarryOut a))
  ∧ (∀ s w, s.dev.nvs.prog = some w → s.dev.pageOn .nvs = true → s.dev.nvs.committed = true → Effect (.journalWriteDone true) s ((s.dev.copyHome w).endWrite))
  ∧ (∀ s w, s.dev.nvs.prog = some w → s.dev.pageOn .nvs = true → Effect (.journalWriteDone false) s (s.dev.writeFails w))
  ∧ (∀ s page finding, s.dev.pageOn .nvs = true → Effect (.nvsPatrolRead page finding) s (s.dev.patrolRead page.toNat finding))

/-- Sensors and the diode: a reading that passes its tests below QUENCH_C becomes the sensor's temperature (R539, R541); a reading out of range, or none, fails the sensor (R541), and a
second hot reading in a row trips the shutdown (R550); a failed sensor that has passed for 10 s, or whose bit is written while its last reading is in range, is cleared (R542);
a diode measurement below QUENCH_C, with every sensor of the concentrator lost, shows its temperature (R540).
Readings and choices of the model that it rests on: log entries 65, 66 and 67. -/
def Obligations.SensorsAndDiode : Prop :=
  (∀ s (sensor : Sensor) raw, s.dev.hasSensor sensor.val = true → s.dev.pwr.por = false → s.dev.sensorLost sensor.val = false →
    sensorInRange (s.dev.sensorTemp sensor.val raw) = true →
    ((s.dev.sensorSt sensor.val).valid = true → ((s.dev.sensorTemp sensor.val raw) - (s.dev.sensorSt sensor.val).own).natAbs ≤ 16) →
    s.dev.sensorTemp sensor.val raw < s.dev.quenchLimit →
    Effect (.sensorReading sensor raw) s
      ((s.dev.updSensor sensor.val fun x => { x with raw := raw, valid := true, own := s.dev.sensorTemp sensor.val raw, hot := 0, goodSince := none }).followCool))
  ∧ (∀ s (sensor : Sensor) raw, s.dev.hasSensor sensor.val = true → s.dev.pwr.por = false → s.dev.sensorLost sensor.val = false →
    sensorInRange (s.dev.sensorTemp sensor.val raw) = false →
    s.dev.sensorTemp sensor.val raw < s.dev.quenchLimit →
    Effect (.sensorReading sensor raw) s
      (((s.dev.updSensor sensor.val fun x => { x with raw := raw, valid := true, own := s.dev.sensorTemp sensor.val raw, hot := 0, goodSince := none }).failSensor sensor.val).followCool))
  ∧ (∀ s (sensor : Sensor) raw, s.dev.hasSensor sensor.val = true → s.dev.pwr.por = false → s.dev.sensorLost sensor.val = false →
    sensorInRange (s.dev.sensorTemp sensor.val raw) = true →
    ((s.dev.sensorSt sensor.val).valid = true → ((s.dev.sensorTemp sensor.val raw) - (s.dev.sensorSt sensor.val).own).natAbs ≤ 16) →
    s.dev.quenchLimit ≤ s.dev.sensorTemp sensor.val raw → (s.dev.sensorSt sensor.val).hot ≠ 0 →
    Effect (.sensorReading sensor raw) s
      (((s.dev.updSensor sensor.val fun x => { x with raw := raw, valid := true, own := s.dev.sensorTemp sensor.val raw, hot := x.hot + 1, goodSince := none }).quench sensor.val).followCool))
  ∧ (∀ s (sensor : Sensor), s.dev.hasSensor sensor.val = true → s.dev.pwr.por = false → s.dev.sensorLost sensor.val = false →
    Effect (.sensorNoReading sensor) s
      ((Device.followSensors (((s.dev.updSensor sensor.val fun x => { x with failed := true, goodSince := none, hot := 0 }).count Reg.THM.CNT_SENSOR_FAIL).raise .thm 2 sensor.val)).followCool))
  ∧ (∀ s (sensor : Sensor) t, (s.dev.sensorSt sensor.val).goodSince = some t → (s.dev.sensorSt sensor.val).failed = true → s.dev.sensorOff sensor.val = false →
    Effect (.sensorAutoClear sensor) s
      ((Device.followSensors (((s.dev.waitUntil (t + 10 * Config.secondCt)).updSensor sensor.val fun x => { x with failed := false, goodSince := none, hot := 0 }).raise .thm 3 sensor.val)).followCool))
  ∧ (∀ s (sensor : Sensor) word, s.dev.pageOn .thm = true → s.dev.hasSensor sensor.val = true → (s.dev.sensorSt sensor.val).failed = true → s.dev.sensorOff sensor.val = false →
    (s.dev.sensorSt sensor.val).valid = true → sensorInRange (s.dev.sensorSt sensor.val).own = true → word.val = sensor.val / 32 →
    Effect (.sensorClearWrite word (BitVec.ofNat 32 (2 ^ (sensor.val % 32)))) s
      ((Device.followSensors ((s.dev.updSensor sensor.val fun x => { x with failed := false, goodSince := none, hot := 0 }).raise .thm 3 sensor.val)).followCool))
  ∧ (∀ s low high, s.dev.serviceRun = none → s.dev.pwr.por = false → s.dev.groupLost 4 = true →
    diodeTemp low high < s.dev.quenchLimit →
    Completes (.diodeMeasure low high) s fun d => Leaves [.thm] (regs [Reg.THM.DIODE]) [] s.dev d
      ∧ d.fld Reg.THM.DIODE_TEMP = (BitVec.ofInt 12 (diodeTemp low high)).toNat ∧ d.flag Reg.THM.DIODE_VALID = true
      ∧ d.thm = { s.dev.thm with diode := diodeTemp low high, diodeHot := 0 })

/-- Throttling: an update, under the curve committed before it, raises the duty to the curve at the temperature, lowers it to the curve shifted by the hysteresis unless HOLD keeps it, and leaves a duty between the two as it was (R544, R545); PAUSE_MAX ends a pause,
counted in ms (R549); a sound image is in force from the next update, another is rejected (R547); the table in force is stored in page 49 (R547); the limits are kept in their
ranges and stored (R551); when every working sensor has been cool for a second the device restarts (R552).
Readings and choices of the model that it rests on: log entries 5, 55, 63 and 67. -/
def Obligations.ThrottlingAndRestart : Prop :=
  (∀ s t n d duty, s.dev.pwr.por = false → d = s.dev.applyCurve → d.throttleTemp = some (t, n) → d.fld Reg.THM.STATUS_DUTY ≤ duty → d.curveNow.at t = duty →
    Effect .throttleUpdate s (d.showThrottle t n duty))
  ∧ (∀ s t n d duty, s.dev.pwr.por = false → d = s.dev.applyCurve → d.throttleTemp = some (t, n) → d.fld Reg.THM.STATUS_DUTY = duty → d.curveNow.at t ≤ duty →
    duty ≤ d.curveNow.at (t + d.curveNow.hyst) → Effect .throttleUpdate s (d.showThrottle t n duty))
  ∧ (∀ s t n d duty, s.dev.pwr.por = false → d = s.dev.applyCurve → d.throttleTemp = some (t, n) → duty < d.fld Reg.THM.STATUS_DUTY → d.curveNow.at t < d.fld Reg.THM.STATUS_DUTY →
    d.curveNow.at (t + d.curveNow.hyst) = duty → d.flag Reg.THM.STATUS_HOLD = false → Effect .throttleUpdate s (d.showThrottle t n duty))
  ∧ (∀ s t n d duty, s.dev.pwr.por = false → d = s.dev.applyCurve → d.throttleTemp = some (t, n) → d.fld Reg.THM.STATUS_DUTY = duty → d.curveNow.at t < duty →
    d.curveNow.at (t + d.curveNow.hyst) < duty → d.flag Reg.THM.STATUS_HOLD = true → Effect .throttleUpdate s (d.showThrottle t n duty))
  ∧ (∀ s kind start stop, s.dev.thm.pauses.find? (fun p => p.1 == kind) = some (kind, start, stop) →
    Effect (.pauseEnd kind) s
      (let d := s.dev.waitUntil stop
       let d := { d with thm := { d.thm with pauses := d.thm.pauses.filter (fun q => q.1 != kind), pauseTicks := (d.thm.pauseTicks + (stop - start)) % Config.msCt } }
       (d.count Reg.THM.CNT_PAUSE_MS ((s.dev.thm.pauseTicks + (stop - start)) / Config.msCt)).kickStore))
  ∧ (∀ s, s.dev.serviceRun = none → s.dev.pageOn .thm = true → curveImageOk (s.dev.stagedImage .curve) = false →
    Completes .curveCommit s fun d => Leaves [] (regs [Reg.THM.CURVE_CTRL]) [.thm] s.dev d
      ∧ d.flag Reg.THM.CURVE_CTRL_REJECTED = true ∧ (d.sticky .thm).getLsbD 11 = true ∧ d.thm = s.dev.thm)
  ∧ (∀ s, s.dev.serviceRun = none → s.dev.pageOn .thm = true → curveImageOk (s.dev.stagedImage .curve) = true →
    Completes .curveCommit s fun d => Leaves [.thm] (regs [Reg.THM.CURVE_CTRL]) [] s.dev d
      ∧ d.flag Reg.THM.CURVE_CTRL_REJECTED = false ∧ d.thm.curve = s.dev.thm.curve
      ∧ d.thm.next = some (curveOf (s.dev.stagedImage .curve) (((s.dev.stagedImage .curve).getD 0 0).toNat / 2 ^ 32 % 256), (s.dev.stagedImage .curve).zipIdx.map fun x => (x.2, x.1)))
  ∧ (∀ s c, s.dev.pageOn .thm = true → s.dev.pageOn .nvs = true → s.dev.flag Reg.THM.CURVE_CTRL_SAVE_BUSY = false → s.dev.thm.curve = some c →
    Effect .curveSave s ((s.dev.setFlag Reg.THM.CURVE_CTRL_SAVE_BUSY true).store { page := 49, words := s.dev.thm.curveWords.map fun w => (w.1, w.2.toNat), owner := .curveSave }))
  ∧ (∀ s, s.dev.pageOn .thm = true → s.dev.pageOn .nvs = true → s.dev.flag Reg.THM.CURVE_CTRL_SAVE_BUSY = false → s.dev.thm.curve = none →
    Effect .curveSave s ((s.dev.setFlag Reg.THM.CURVE_CTRL_SAVE_BUSY true).store { page := 49, words := builtinImage.zipIdx.map fun w => (w.2, w.1.toNat), owner := .curveSave }))
  ∧ (∀ s data, s.dev.pageOn .thm = true → s.dev.thm.shutdown = false →
    Effect (.quenchLimitWrite data) s
      (((s.dev.setFld Reg.THM.QUENCH_QUENCH_C (max 60 (min 125 (data.toNat % 256)))).setFld Reg.THM.QUENCH_RESTART_C
        (min (data.toNat / 256 % 256) (max 60 (min 125 (data.toNat % 256)) - 10))).storeReg Reg.THM.QUENCH))
  ∧ (∀ s t, s.dev.thm.coolSince = some t → s.dev.thm.shutdown = true →
    Effect .quenchRestart s
      (let d := s.dev.waitUntil (t + Config.secondCt)
       let d := (Device.count { d with thm := { d.thm with shutdown := false, coolSince := none } } Reg.THM.CNT_QUENCH).raise .thm 1
       let w : StoreWrite := { page := 37, words := [(Reg.THM.CNT_QUENCH, (d.word Reg.THM.CNT_QUENCH).toNat)], owner := .counter Reg.THM.CNT_QUENCH }
       Device.restart { d with nvs := { d.nvs with again := d.nvs.again ++ [w] } } 4))

/-- Seals: a seal that nothing refuses enters SEALING and begins with its key (R495, R496); a refused one shows its reason and is audited (R495); a save writes an image in UNSEALED, and elsewhere
is refused with reason 6 (R502); a seal whose record is in the seal log shows SEALED, its counter, its MAC and its time (R496); an unseal with the counter of the seal begins,
another is refused with reason 5 (R500); an unseal whose flag is written shows UNSEALED and writes the seal log (R500); a refresh rewrites the differing trims and counts them (R490).
Readings and choices of the model that it rests on: log entries 31, 51 and 58. -/
def Obligations.SealCommands : Prop :=
  (∀ s route key, s.dev.pageOn .sea0 = true → s.dev.sealReason true = 0 → s.dev.sealKey = some key →
    Effect (.sealCommand route) s ((s.dev.setSealState 1).beginSeal .seal key (routeCode route)))
  ∧ (∀ s route reason, s.dev.pageOn .sea0 = true → s.dev.sealReason true = reason → reason ≠ 0 →
    Effect (.sealCommand route) s
      (((s.dev.setFld Reg.SEA0.STATUS_REFUSE_REASON reason).raise .sea0 2).audit 0x08 (routeCode route) 0 0 Reg.SEA0.CMD (BitVec.ofNat 32 reason)))
  ∧ (∀ s route, s.dev.pageOn .sea0 = true → s.dev.enabled .sea0 = false →
    Effect (.sealCommand route) s
      (((s.dev.setFld Reg.SEA0.STATUS_REFUSE_REASON 4).raise .sea0 2).audit 0x08 (routeCode route) 0 0 Reg.SEA0.CMD 4))
  ∧ (∀ s, s.dev.pageOn .sea0 = true → s.dev.sealReason false = 0 →
    Effect .sealSave s
      (s.dev.beginImage { kind := .save, phase := .image 0, frame := s.dev.frame, ct := s.dev.ct, counter := s.dev.word Reg.SEA0.COUNTER } false))
  ∧ (∀ s, s.dev.serviceRun = none → s.dev.pageOn .sea0 = true → s.dev.enabled .sea0 = true → s.dev.unsealed = false →
    Completes .sealSave s fun d => Leaves [] (regs [Reg.SEA0.STATUS]) [.sea0] s.dev d
      ∧ d.fld Reg.SEA0.STATUS_REFUSE_REASON = 6 ∧ (d.sticky .sea0).getLsbD 4 = true)
  ∧ (∀ s w, s.dev.sea.work = some w → w.kind = .seal → w.phase = .done →
    Effect .sealComplete s
      (Device.emitSeal
        (((((((s.dev.endWork.setSealState 2).setWord Reg.SEA0.COUNTER w.counter).showMac w.mac).showAct w.frame).count Reg.SEA0.CNT_SEALS).raise .sea0 0).audit 0x05 w.route 0
          (s.dev.fld Reg.SEA0.POLICY_SEAL_KEY) 0 0) (w.record 1)))
  ∧ (∀ s w, s.dev.sea.work = some w → w.kind = .reseal → w.phase = .done → Effect .sealComplete s (((s.dev.sealComplete w).raise .sta1 7).resealOver false))
  ∧ (∀ s route (slot : Fin 4) data, s.dev.pageOn .sea0 = true → s.dev.enabled .sea0 = true → s.dev.fld Reg.SEA0.STATUS_STATE = 2 → s.dev.sea.work = none → s.dev.sea.window = false →
    s.dev.flag Reg.SEA0.STATUS_STORE_BUSY = false →
    data = s.dev.word Reg.SEA0.COUNTER →
    Effect (.unseal route slot data) s (Device.beginUnseal { s.dev with wrRefused := false } .unseal slot.val (routeCode route)))
  ∧ (∀ s route (slot : Fin 4) data, s.dev.pageOn .sea0 = true → s.dev.enabled .sea0 = true → s.dev.fld Reg.SEA0.STATUS_STATE = 2 → s.dev.sea.work = none → s.dev.sea.window = false →
    s.dev.flag Reg.SEA0.STATUS_STORE_BUSY = false →
    data ≠ s.dev.word Reg.SEA0.COUNTER →
    Effect (.unseal route slot data) s
      { ((Device.setFld { s.dev with wrRefused := false } Reg.SEA0.STATUS_REFUSE_REASON 5).raise .sea0 2).audit 0x08 (routeCode route) 0 slot.val Reg.SEA0.UNSEAL data with wrRefused := true })
  ∧ (∀ s w, s.dev.sea.work = some w → w.kind = .unseal → w.phase = .done →
    Effect .unsealComplete s
      ((((((s.dev.endWork.setSealState 0).showAct w.frame).raise .sea0 1).audit 0x06 w.route 0 w.keySlot 0 0).emitSeal (w.record 2)).writeSlog (w.record 2)))
  ∧ (∀ s w, s.dev.sea.work = some w → w.kind = .erase → w.phase = .done →
    Effect .unsealComplete s
      ((((((s.dev.endWork.setSealState 0).showAct w.frame).raise .sea0 1).audit 0x06 w.route 0 w.keySlot 0 0).emitSeal (w.record 2)).writeSlog (w.record 2)).erasureEnds)
  ∧ (∀ s ups cfg, s.dev.pageOn .sea1 = true → s.dev.fld Reg.SEA1.TRIM_REFRESH_SECONDS ≠ 0 →
    Effect (.trimRefresh ups cfg) s
      (let bad := s.dev.poweredPixels.filter fun i => (s.dev.pixel i).entry.extractLsb' 0 5 != s.dev.masterTrim i || (ups.map fun p => pixNo p).contains i
       bad.foldl (fun (d : Device) (i : Nat) => d.rewriteTrim i) ((s.dev.count Reg.SEA1.CNT_TRIM_FIX bad.length).upset Reg.HLT.UPS_PIXCFG cfg)))

/-- Keys: programming outside S0 is refused with FAIL (R505), and begins on an empty slot with usage in S0 (R505); once verified the slot is programmed, GO clears, event 5 tells its number (R505);
a slot named by a marked write to KEY_REVOKE is revoked and audited (R507); DEBUG_UNLOCK with a DEBUG slot begins an erasure, other writes to it change nothing and report REFUSED (R506, R520);
an erasure with no service and no seal in progress ends with every key gone, and first unseals a sealed domain (R516).
A choice of the model that it rests on: log entry 60. -/
def Obligations.KeysAndErasure : Prop :=
  (∀ s, s.dev.serviceRun = none → s.dev.pageOn .sec = true → s.dev.sec.keyProg = none → s.dev.fld Reg.HLT.SERVICE_LEVEL_LEVEL ≠ 0 →
    Completes .keyProgram s fun d => Leaves [] (regs [Reg.SEC.KEY_PROG]) [] s.dev d ∧ d.flag Reg.SEC.KEY_PROG_FAIL = true ∧ d.sec.keyProg = none)
  ∧ (∀ s, s.dev.pageOn .sec = true → s.dev.sec.keyProg = none → s.dev.fld Reg.HLT.SERVICE_LEVEL_LEVEL = 0 →
    (s.dev.keySlot (s.dev.fld Reg.SEC.KEY_PROG_SLOT)).programmed = false → s.dev.fld Reg.SEC.KEY_PROG_USAGE ≠ 0 → s.dev.enabled .sec = true →
    s.dev.flag Reg.SEC.SUMMARY_LOCKED = false → s.dev.flag Reg.SEC.SUMMARY_ERASED = false →
    Effect .keyProgram s
      (let d := (s.dev.setFlag Reg.SEC.KEY_PROG_FAIL false).setFlag Reg.SEC.KEY_PROG_GO true
       { d with sec := { d.sec with keyProg := some (s.dev.fld Reg.SEC.KEY_PROG_SLOT, BitVec.ofNat 3 (s.dev.fld Reg.SEC.KEY_PROG_USAGE),
           BitVec.ofNat 256 (((List.range 8).map fun i => (s.dev.word (Reg.SEC.KEY_DATA i)).toNat * 2 ^ (32 * i)).sum)) } }))
  ∧ (∀ s k use key, s.dev.sec.keyProg = some (k, use, key) →
    Effect (.keyProgramDone true) s
      (let d := (Device.setFlag { s.dev with sec := { s.dev.sec with keyProg := none } } Reg.SEC.KEY_PROG_GO false).setKey k
          { key := key, programmed := true, revoked := false, usage := use }
       ((d.setFlag Reg.SEC.SUMMARY_DEBUG_OPEN d.debugOpen).raise .sec 5 k).audit 0x0B 3 0 k 0 0))
  ∧ (∀ s k use key, s.dev.serviceRun = none → s.dev.sec.keyProg = some (k, use, key) →
    Completes (.keyProgramDone false) s fun d => Leaves [.sec] (regs [Reg.SEC.KEY_PROG]) [.sec] s.dev d
      ∧ d.flag Reg.SEC.KEY_PROG_GO = false ∧ d.flag Reg.SEC.KEY_PROG_FAIL = true ∧ d.sec.keyProg = none ∧ d.sec.otp = s.dev.sec.otp)
  ∧ (∀ s route (slot : Fin 4), s.dev.pageOn .sec = true →
    Effect (.keyRevoke route slot 4) s
      (let d : Device := { s.dev with wrRefused := false }
       ((d.setKey 2 { d.keySlot 2 with revoked := true }).raise .sec 5 2).audit 0x0B (routeCode route) 0 2 Reg.SEC.KEY_REVOKE 4))
  ∧ (∀ s route (slot : Fin 4) data, s.dev.pageOn .sec = true → Effect (.keyRevoke route slot data) s (Device.revokeKeys { s.dev with wrRefused := false } (routeCode route) data))
  ∧ (∀ s route (slot : Fin 4), s.dev.pageOn .sec = true → (s.dev.keySlot slot.val).serves 2 = true → s.dev.flag Reg.SEC.SUMMARY_LOCKED = false →
    Effect (.debugUnlock route slot 1) s { s.dev with wrRefused := false, sec := { s.dev.sec with erasing := true } })
  ∧ (∀ s route (slot : Fin 4) data, s.dev.pageOn .sec = true → (data ≠ 1 ∨ (s.dev.keySlot slot.val).serves 2 = false ∨ s.dev.flag Reg.SEC.SUMMARY_LOCKED = true) →
    Effect (.debugUnlock route slot data) s { s.dev with wrRefused := true })
  ∧ (∀ s, s.dev.sec.erasing = true → s.dev.sta.run = none → s.dev.sea.work = none → s.dev.domOn 2 = false →
    Effect .erasureDone s
      (let d := (List.range 4).foldl (fun (d : Device) (k : Nat) => d.setKey k { d.keySlot k with key := BitVec.allOnes 256, revoked := true }) s.dev
       Device.erasureEnds (Device.setFlag { d with sea := { d.sea with window := false } } Reg.SEA0.STATUS_SVC_WINDOW false)))
  ∧ (∀ s, s.dev.sec.erasing = true → s.dev.sta.run = none → s.dev.sea.work = none → s.dev.domOn 2 = true → s.dev.fld Reg.SEA0.STATUS_STATE = 2 →
    Effect .erasureDone s
      (let d := (List.range 4).foldl (fun (d : Device) (k : Nat) => d.setKey k { d.keySlot k with key := BitVec.allOnes 256, revoked := true }) s.dev
       Device.beginUnseal (Device.setFlag { d with sea := { d.sea with window := false } } Reg.SEA0.STATUS_SVC_WINDOW false) .erase 0 3))

/-- Authenticated writes and the test port: a block on a disabled page is answered 7 (R508); a MAC that fails is counted, audited, alarmed and answered 4, one of the eight
failures within a second that begin a lockout of 10 s, with its own audit entry and alarm (R448, R508); one that passes waits for the commit of its counter (R448); the lockout ends after its time (R448); the test port answers in the
same way, and does nothing while its command runs (R519); a locked instruction is audited and alarmed (R518).
Readings and choices of the model that it rests on: log entries 30 and 43. -/
def Obligations.AuthenticatedWrites : Prop :=
  (∀ s route, s.dev.serviceRun = none → s.dev.pageOn .sec = true → s.dev.flag Reg.SEC.AW_CTRL_BUSY = false → s.dev.enabled .sec = false →
    Completes (.authWriteSubmit route) s fun d => Leaves [] (regs [Reg.SEC.AW_CTRL]) [] s.dev d
      ∧ d.flag Reg.SEC.AW_CTRL_BUSY = false ∧ d.fld Reg.SEC.AW_CTRL_STATUS = 7)
  ∧ (∀ s route, s.dev.pageOn .sec = true → s.dev.flag Reg.SEC.AW_CTRL_BUSY = false → s.dev.authCheck (.register route) s.dev.awBlock = some 4 →
    (s.dev.sec.failures.filter fun t => s.dev.clock < t + Config.secondCt).length < 7 →
    Effect (.authWriteSubmit route) s
      (let b := s.dev.awBlock
       let d := ((s.dev.count Reg.SEC.CNT_AUTH_FAIL).count Reg.ZVL.CNT_AUTH_FAIL).raise .zvl 4
       let d := (d.audit 0x02 (routeCode route) (d.alarmPolicy 1) (authSlot b) (authAddr b).toNat (authCtr b)).alarm 1
       let d : Device := { d with sec := { d.sec with failures := (d.sec.failures.filter fun t => d.clock < t + Config.secondCt) ++ [d.clock] } }
       (d.setFlag Reg.SEC.AW_CTRL_BUSY false).setFld Reg.SEC.AW_CTRL_STATUS 4))
  ∧ (∀ s route, s.dev.pageOn .sec = true → s.dev.flag Reg.SEC.AW_CTRL_BUSY = false → s.dev.authCheck (.register route) s.dev.awBlock = none →
    Effect (.authWriteSubmit route) s
      (let b := s.dev.awBlock
       let d := s.dev.setFlag Reg.SEC.AW_CTRL_BUSY true
       let w : AuthWork := { route := .register route, slot := authSlot b, ctr := authCtr b, addr := authAddr b, data := authData b, tag := authTag b }
       Device.store { d with sec := { d.sec with auth := d.sec.auth ++ [w] } }
         { page := 33 + authSlot b, words := [(Reg.ZVL.AUTH_CTR (authSlot b), (authCtr b).toNat)], owner := .authCounter (authSlot b) }))
  ∧ (∀ s route recent, s.dev.pageOn .sec = true → s.dev.flag Reg.SEC.AW_CTRL_BUSY = false → s.dev.authCheck (.register route) s.dev.awBlock = some 4 →
    recent = (s.dev.sec.failures.filter fun t => s.dev.clock < t + Config.secondCt) → 7 ≤ recent.length →
    Effect (.authWriteSubmit route) s
      (let b := s.dev.awBlock
       let d := ((s.dev.count Reg.SEC.CNT_AUTH_FAIL).count Reg.ZVL.CNT_AUTH_FAIL).raise .zvl 4
       let d := (d.audit 0x02 (routeCode route) (d.alarmPolicy 1) (authSlot b) (authAddr b).toNat (authCtr b)).alarm 1
       let d : Device := { d with sec := { d.sec with failures := [], lockout := some (d.clock + 10 * Config.secondCt) } }
       let d := (d.setFlag Reg.ZVL.SUMMARY_LOCKOUT true).raise .zvl 6
       let d := (d.audit 0x0A (routeCode route) (d.alarmPolicy 2) 0 0 0).alarm 2
       (d.setFlag Reg.SEC.AW_CTRL_BUSY false).setFld Reg.SEC.AW_CTRL_STATUS 4))
  ∧ (∀ s t, s.dev.serviceRun = none → s.dev.sec.lockout = some t →
    Completes .authLockoutEnd s fun d => Leaves [.clock, .tim, .sec] (regs [Reg.ZVL.SUMMARY]) [] s.dev d
      ∧ d.clock = max s.dev.clock t ∧ d.flag Reg.ZVL.SUMMARY_LOCKOUT = false ∧ d.sec.lockout = none)
  ∧ (∀ s block, s.dev.pageOn .sec = true → s.dev.sec.portBusy = false → s.dev.enabled .sec = false →
    Effect (.testPortAuthCmd block) s { s.dev with sec := { s.dev.sec with portStatus := 7, portBusy := false } })
  ∧ (∀ s block, s.dev.pageOn .sec = true → s.dev.sec.portBusy = false → s.dev.authCheck .testPort block = none →
    Effect (.testPortAuthCmd block) s
      (let w : AuthWork := { route := .testPort, slot := authSlot block, ctr := authCtr block, addr := authAddr block, data := authData block, tag := authTag block }
       Device.store { s.dev with sec := { s.dev.sec with portBusy := true, auth := s.dev.sec.auth ++ [w] } }
         { page := 33 + authSlot block, words := [(Reg.ZVL.AUTH_CTR (authSlot block), (authCtr block).toNat)], owner := .authCounter (authSlot block) }))
  ∧ (∀ s block, s.dev.sec.portBusy = true → Effect (.testPortAuthCmd block) s s.dev)
  ∧ (∀ s, s.dev.pageOn .sec = true → s.dev.debugOpen = false →
    Effect .testPortLockedInstruction s ((s.dev.audit 0x0E 3 (s.dev.alarmPolicy 4) 0 0 0).alarm 4))
  ∧ (∀ s, s.dev.debugOpen = true → Effect .testPortLockedInstruction s s.dev)

/-- The two logs: an entry that closes joins its queue of at most 16 (R512, R569); with a full queue it is counted as lost and event 7 of the security page is raised (R512); the oldest
waiting entry goes to its place in the ring of its log, at most one in 10 ms (R512, R569).
Readings and choices of the model that it rests on: log entries 50 and 59. -/
def Obligations.AuditTrailAndHealthLog : Prop :=
  (∀ s e, s.dev.sec.audit.entry = some e → s.dev.sec.audit.lost = 0 → s.dev.sec.audit.queue.length < 16 →
    Effect .auditEntryClose s { s.dev with sec := { s.dev.sec with audit := { s.dev.sec.audit with entry := none, queue := s.dev.sec.audit.queue ++ [e] } } })
  ∧ (∀ s e, s.dev.sec.audit.entry = some e → 16 ≤ s.dev.sec.audit.queue.length →
    Effect .auditEntryClose s
      ((Device.count { s.dev with sec := { s.dev.sec with audit := { s.dev.sec.audit with entry := none, lost := s.dev.sec.audit.lost + 1 } } } Reg.SEC.CNT_AUDIT_LOST).raise .sec 7))
  ∧ (∀ s q n, s.dev.sec.audit.close s.dev.auditLostEntry = (q, n) → n ≠ 0 →
    Effect .auditEntryClose s ((Device.count { s.dev with sec := { s.dev.sec with audit := q } } Reg.SEC.CNT_AUDIT_LOST n).raise .sec 7))
  ∧ (∀ s e rest, s.dev.sec.audit.queue = e :: rest → s.dev.sec.audit.writing = false → s.dev.pageOn .nvs = true → s.dev.sec.audit.last = none →
    Effect .auditWrite s
      (let n := s.dev.fld Reg.SEC.AUDIT_HEAD_SEQ
       Device.store { s.dev with sec := { s.dev.sec with audit := { s.dev.sec.audit with queue := rest, writing := true, last := some s.dev.clock } } }
         { page := 80 + n % 1024 / 8, words := (e.finish n).zipIdx.map fun x => (4 * (n % 8) + x.2, x.1.toNat), owner := .audit }))
  ∧ (∀ s e rest t, s.dev.sec.audit.queue = e :: rest → s.dev.sec.audit.writing = false → s.dev.pageOn .nvs = true → s.dev.sec.audit.last = some t →
    Effect .auditWrite s
      (let d := s.dev.waitUntil (t + 10 * Config.msCt)
       let n := s.dev.fld Reg.SEC.AUDIT_HEAD_SEQ
       Device.store { d with sec := { d.sec with audit := { s.dev.sec.audit with queue := rest, writing := true, last := some d.clock } } }
         { page := 80 + n % 1024 / 8, words := (e.finish n).zipIdx.map fun x => (4 * (n % 8) + x.2, x.1.toNat), owner := .audit }))
  ∧ (∀ s e, s.dev.hlt.log.entry = some e → s.dev.hlt.log.lost = 0 → s.dev.hlt.log.queue.length < 16 →
    Effect .healthLogEntryClose s { s.dev with hlt := { s.dev.hlt with log := { s.dev.hlt.log with entry := none, queue := s.dev.hlt.log.queue ++ [e] } } })
  ∧ (∀ s e rest, s.dev.hlt.log.queue = e :: rest → s.dev.hlt.log.writing = false → s.dev.pageOn .nvs = true → s.dev.hlt.log.last = none →
    Effect .healthLogWrite s
      (let n := s.dev.fld Reg.HLT.LOG_HEAD_SEQ
       Device.store { s.dev with hlt := { s.dev.hlt with log := { s.dev.hlt.log with queue := rest, writing := true, last := some s.dev.clock } } }
         { page := 208 + n % 512 / 8, words := (e.finish n).zipIdx.map fun x => (4 * (n % 8) + x.2, x.1.toNat), owner := .healthLog }))
  ∧ (∀ s e rest t, s.dev.hlt.log.queue = e :: rest → s.dev.hlt.log.writing = false → s.dev.pageOn .nvs = true → s.dev.hlt.log.last = some t →
    Effect .healthLogWrite s
      (let d := s.dev.waitUntil (t + 10 * Config.msCt)
       let n := s.dev.fld Reg.HLT.LOG_HEAD_SEQ
       Device.store { d with hlt := { d.hlt with log := { s.dev.hlt.log with queue := rest, writing := true, last := some d.clock } } }
         { page := 208 + n % 512 / 8, words := (e.finish n).zipIdx.map fun x => (4 * (n % 8) + x.2, x.1.toNat), owner := .healthLog }))

/-- The statistics engine: START with the engine enabled shows RUNNING and clears the cells, or the bins of a histogram run; a histogram run of another source is done at once (R336, R338), and START does
nothing while the engine is not enabled; STOP ends the run with event 0, and does nothing when none runs (R336); a run whose bound cells, or the bins of whose clusters, all have N values is done, and
no other (R336, R338); a pushed value goes into the cell of PUSH_CELL when values are pushed (R335), and a push otherwise is ignored (R335). A service that holds the engine turns all these writes into event 2 (R339).
Readings and choices of the model that it rests on: log entries 16, 17 and 73. -/
def Obligations.StatisticsEngine : Prop :=
  (∀ s, s.dev.staClaimed = false → s.dev.enabled .sta0 = true →
    Effect .staRunStart s
      (let d := ((s.dev.setFld Reg.STA0.STATUS_STATE 1).setFlag Reg.STA0.STATUS_OVR false).setFld Reg.STA0.STATUS_AT_N 0
       if s.dev.flag Reg.STA0.CFG_HIST = false then { d with sta := { d.sta with cells := [] } }
       else if s.dev.fld Reg.STA0.CFG_SOURCE = 3 then { d with sta := { d.sta with bins := [] } }
       else (d.setFld Reg.STA0.STATUS_STATE 2).raise .sta0 0))
  ∧ (∀ s, s.dev.pageOn .sta0 = true → s.dev.staClaimed = false → s.dev.enabled .sta0 = false → Effect .staRunStart s s.dev)
  ∧ (∀ s, s.dev.staClaimed = false → s.dev.serviceRun = none → s.dev.pageOn .sta0 = true → s.dev.fld Reg.STA0.STATUS_STATE = 1 →
    Completes .staRunStop s fun d => Leaves [] (regs [Reg.STA0.STATUS]) [.sta0] s.dev d
      ∧ d.fld Reg.STA0.STATUS_STATE = 2 ∧ (d.sticky .sta0).getLsbD 0 = true)
  ∧ (∀ s, s.dev.staClaimed = false → s.dev.pageOn .sta0 = true → s.dev.fld Reg.STA0.STATUS_STATE = 1 → Effect .staRunStop s ((s.dev.setFld Reg.STA0.STATUS_STATE 2).raise .sta0 0))
  ∧ (∀ s, s.dev.pageOn .sta0 = true → s.dev.staClaimed = false → s.dev.fld Reg.STA0.STATUS_STATE ≠ 1 → Effect .staRunStop s s.dev)
  ∧ (∀ s v, s.dev.pageOn .sta0 = true → s.dev.serviceRun = some v → v.svc ≠ .bumpScan ∨ v.params.getLsbD 42 = true →
    Effect .staRunStart s (s.dev.raise .sta0 2) ∧ Effect .staRunStop s (s.dev.raise .sta0 2) ∧ ∀ data, Effect (.staPushValue data) s (s.dev.raise .sta0 2))
  ∧ (∀ s, s.dev.pageOn .sta0 = true → s.dev.fld Reg.STA0.STATUS_STATE = 1 → s.dev.flag Reg.STA0.CFG_HIST = false → s.dev.boundCells ≤ s.dev.fld Reg.STA0.STATUS_AT_N →
    Effect .staRunDone s ((s.dev.setFld Reg.STA0.STATUS_STATE 2).raise .sta0 0))
  ∧ (∀ s, s.dev.pageOn .sta0 = true → s.dev.fld Reg.STA0.STATUS_STATE = 1 → s.dev.flag Reg.STA0.CFG_HIST = true →
    (∀ j, j < 8192 → s.dev.fld Reg.STA0.BASE_INDEX + j < s.dev.staUnits 1 → s.dev.staN ≤ s.dev.binSum j) →
    Effect .staRunDone s ((s.dev.setFld Reg.STA0.STATUS_STATE 2).raise .sta0 0))
  ∧ (∀ s, s.dev.flag Reg.STA0.CFG_HIST = false → s.dev.fld Reg.STA0.STATUS_AT_N < s.dev.boundCells → Effect .staRunDone s s.dev)
  ∧ (∀ s j, s.dev.flag Reg.STA0.CFG_HIST = true → j < 8192 → s.dev.fld Reg.STA0.BASE_INDEX + j < s.dev.staUnits 1 → s.dev.binSum j < s.dev.staN → Effect .staRunDone s s.dev)
  ∧ (∀ s data, s.dev.pageOn .sta0 = true → s.dev.staClaimed = false → s.dev.fld Reg.STA0.STATUS_STATE = 1 → 5 ≤ s.dev.fld Reg.STA0.CFG_SOURCE → s.dev.flag Reg.STA0.CFG_HIST = false →
    Effect (.staPushValue data) s (s.dev.giveCell (s.dev.fld Reg.STA0.PUSH_CELL_CELL) (data.setWidth 24).toInt))
  ∧ (∀ s data, s.dev.pageOn .sta0 = true → s.dev.staClaimed = false →
    s.dev.fld Reg.STA0.CFG_SOURCE < 5 ∨ s.dev.flag Reg.STA0.CFG_HIST = true ∨ s.dev.fld Reg.STA0.STATUS_STATE ≠ 1 → Effect (.staPushValue data) s s.dev)

/-- What a value meets. The queue before the engine: a value comes in and takes its effect while fewer than 1,024 can wait; once 1,024 can, whether the engine is behind is free, and a value that finds the queue full has no effect
but CNT_OVERRUN, STATUS.OVR and event 1 (R337). What a cell does with it (R336): below N it adds one to n, the value to its sum, and takes it for its minimum and its maximum where it is beyond them; a cell at N takes
nothing; the cell that reaches N is counted in AT_N. The mean of an empty cell reads 0, as does the deviation of fewer than two values; and the start codes of a cluster stop at N in its 81 bins (R338). A hit of a pixel that
no service injects into is nothing to the service (R351, R352).
Readings and choices of the model that it rests on: log entries 17, 73 and 74. -/
def Obligations.MomentCells : Prop :=
  (∀ (d : Device) f, d.valuesWaiting < 1024 → d.queueValue f = f { d with sta := { d.sta with backlog := d.valuesWaiting + 1, backlogAt := d.clock } })
  ∧ (∀ (d : Device) f, 1024 ≤ d.valuesWaiting →
    d.queueValue f = if Config.engineBehind d.free then ((d.draw.count Reg.STA0.CNT_OVERRUN).setFlag Reg.STA0.STATUS_OVR true).raise .sta0 1
      else f { d.draw with sta := { d.sta with backlog := 1024, backlogAt := d.clock } })
  ∧ (∀ (d : Device) n c v, n ≤ (d.cell c).n → d.takeValue n c v = d)
  ∧ (∀ (d : Device) n c v, (d.cell c).n < n → (d.cell c).n ≠ 0 →
    (d.takeValue n c v).cell c = { n := (d.cell c).n + 1, s1 := (d.cell c).s1 + v, s2 := (d.cell c).s2 + (v * v).toNat,
                                   min := min v (d.cell c).min, max := max v (d.cell c).max })
  ∧ (∀ (d : Device) n c v, (d.cell c).n < n → (d.cell c).n = 0 →
    (d.takeValue n c v).cell c = { n := 1, s1 := (d.cell c).s1 + v, s2 := (d.cell c).s2 + (v * v).toNat, min := v, max := v })
  ∧ (∀ (d : Device) n c v, (d.cell c).n < n → (d.takeValue n c v).word Reg.STA0.CNT_ACCEPTED = counted (d.word Reg.STA0.CNT_ACCEPTED) 1)
  ∧ (∀ (d : Device) n c k v, c ≠ k → (d.takeValue n c v).cell k = d.cell k)
  ∧ (∀ (d : Device) c v, d.valuesWaiting < 1024 → d.staN ≤ (d.cell c).n →
    d.giveCell c v = { d with sta := { d.sta with backlog := d.valuesWaiting + 1, backlogAt := d.clock } })
  ∧ (∀ (d : Device) c v, d.valuesWaiting < 1024 → (d.cell c).n + 1 < d.staN →
    d.giveCell c v = Device.takeValue { d with sta := { d.sta with backlog := d.valuesWaiting + 1, backlogAt := d.clock } } d.staN c v)
  ∧ (∀ (d : Device) c v, d.valuesWaiting < 1024 → (d.cell c).n + 1 = d.staN →
    d.giveCell c v = (Device.takeValue { d with sta := { d.sta with backlog := d.valuesWaiting + 1, backlogAt := d.clock } } d.staN c v).setFld Reg.STA0.STATUS_AT_N
      (d.fld Reg.STA0.STATUS_AT_N + 1))
  ∧ (∀ c : Cell, c.n = 0 → c.mean = 0 ∧ c.sd = 0)
  ∧ (∀ c : Cell, c.n = 1 → c.mean = 256 * c.s1 ∧ c.sd = 0)
  ∧ (∀ (d : Device) j k n, d.valuesWaiting < 1024 → n ≤ d.binSum j → (d.countCode j k n).sta.bins = d.sta.bins)
  ∧ (∀ (d : Device) j k n, d.valuesWaiting < 1024 → d.binSum j < n →
    (d.countCode j k n).bin (81 * j + min k 80) = min 65535 (d.bin (81 * j + min k 80) + 1)
      ∧ ∀ b, b ≠ 81 * j + min k 80 → (d.countCode j k n).bin b = d.bin b)
  ∧ (∀ (d : Device) v die cluster (h : RawHit), (d.pixel (die * 131072 + h.row.toNat * 512 + h.col.toNat)).entry.getLsbD 6 = false → d.tapService v die cluster h = d)
  ∧ (∀ (d : Device) v die cluster (h : RawHit), (d.pixel (die * 131072 + h.row.toNat * 512 + h.col.toNat)).entry.getLsbD 6 = true → v.stage = .codes → v.todo.head? = some die →
    h.granted = true → h.contested = false → d.tapService v die cluster h = d.countCode (cluster % 8192) h.s.toNat (calHits v.params))
  ∧ (∀ (d : Device) v die cluster (h : RawHit) group round t, (d.pixel (die * 131072 + h.row.toNat * 512 + h.col.toNat)).entry.getLsbD 6 = true → v.stage = .trims group round → die ∈ v.dies →
    d.lastPulse die = some t → t ≤ d.fullCount h.c1 → d.fullCount h.c1 < t + 256 →
    d.tapService v die cluster h = d.queueValue fun d => d.bumpBin (die * 131072 + h.row.toNat * 512 + h.col.toNat))

/-- Starting services and their table: a write to SVC_CTRL with START starts the sequence (R348), one without does not (R348); the comparison of a second starts what has drifted, each start
held off by HOLD (R348); the period of a sequence ends in its start (R348); a bad table is rejected (R346), a sound one is in force (R346), and what
pends can then start if its descriptor enables it; a pending sequence whose descriptor in force has EN = 0 does not start (R347).
Readings and choices of the model that it rests on: log entries 13, 73 and 134. -/
def Obligations.ServiceStartsAndTable : Prop :=
  (∀ s data, s.dev.pageOn .sta1 = true → data.getLsbD 8 = true →
    Effect (.svcStart data) s ((s.dev.setFld Reg.STA1.SVC_CTRL_SEQ (data.toNat % 16)).startSeq (data.toNat % 16) 0))
  ∧ (∀ s data, s.dev.serviceRun = none → s.dev.pageOn .sta1 = true → data.getLsbD 8 = false →
    Completes (.svcStart data) s fun d => Leaves [] (regs [Reg.STA1.SVC_CTRL]) [] s.dev d ∧ d.fld Reg.STA1.SVC_CTRL_SEQ = data.toNat % 16)
  ∧ (∀ (d : Device) n cause, d.pageOn .sta1 = true → (d.seqDesc n).getLsbD 63 = false → d.startSeq n cause = d)
  ∧ (∀ s, s.dev.pageOn .sta1 = true → (∀ n, n < 4 → s.dev.flag (Reg.STA1.CAL_TEMP_VALID n) = false) → Effect .svcDriftCheck s s.dev)
  ∧ (∀ s, s.dev.pageOn .sta1 = true → Effect .svcDriftCheck s
      ((List.range 16).foldl (fun (d : Device) (n : Nat) =>
        if seqKind (d.seqDesc n) = 2 && !(d.drifted (seqDrift (d.seqDesc n))).isEmpty && d.heldOff n then
          d.startSeq n (BitVec.ofNat 4 ((d.drifted (seqDrift (d.seqDesc n))).map fun k => 2 ^ k).sum) else d) s.dev))
  ∧ (∀ s (seq : Fin 16) t, s.dev.sta.s1Since = some t → s.dev.pageOn .sta1 = true → seqKind (s.dev.seqDesc seq.val) = 3 →
    Effect (.svcPeriodicStart seq) s
      (let k := SMap.get (fun _ => 0) s.dev.sta.periods seq.val + 1
       let d := s.dev.waitUntil (t + k * seqHold (s.dev.seqDesc seq.val) * Config.secondCt)
       Device.startSeq { d with sta := { d.sta with periods := SMap.set (fun _ => 0) d.sta.periods seq.val k } } seq.val 0))
  ∧ (∀ s, s.dev.serviceRun = none → s.dev.pageOn .sta1 = true → s.dev.seqImageOk = false →
    Completes .seqCommit s fun d => Leaves [] (regs [Reg.STA1.SEQ_CTRL]) [.sta1] s.dev d
      ∧ d.flag Reg.STA1.SEQ_CTRL_REJECTED = true ∧ (d.sticky .sta1).getLsbD 8 = true ∧ d.sta = s.dev.sta)
  ∧ (∀ s, s.dev.pageOn .sta1 = true → s.dev.seqImageOk = true →
    Effect .seqCommit s
      (let count := (s.dev.staged .sequence 0).toNat / 2 ^ 32 % 4096
       let words := (List.range 1024).map fun k => if k < 16 + count then s.dev.staged .sequence (1 + k) else 0
       ((Device.setFlag { s.dev with sta := { s.dev.sta with table := SMap.setAll seqReset [] 1 words } } Reg.STA1.SEQ_CTRL_REJECTED false).raise .sta1 2).nextSeq))
  ∧ (∀ d : Device, (∀ n, n < 16 → (d.word Reg.STA1.SVC_PENDING).getLsbD n = true → (d.seqDesc n).getLsbD 63 = false) → d.nextSeq = d)

/-- The steps of a sequence (R349): END ends it with 0, or 1 after a warning; WAIT waits its microseconds and goes on; BRANCH goes to its target, or to the next step when it
asks for a warning that the last RUN did not give; FAIL ends it with 8 and its user code; RUN without its conditions ends it with 6, under a seal that forbids
it with 4 and event 6 (R342), and otherwise begins to claim; a service that the manual leaves undefined ends with a free code (log 13); claims not granted in 100 ms end it with 5 (R339); a granted DSP step starts its core at its PC (R339),
and waits while no core is free. A granted RUN step looks again at its conditions and at the seal (R342), waits while an injection sequence or a run of the engine holds what it claims, and otherwise takes its context, pauses the checks and begins
its service (R339, R343); with no die to do it completes.
Readings and choices of the model that it rests on: log entries 13, 40, 73 and 74. -/
def Obligations.SequenceSteps : Prop :=
  (∀ s r, s.dev.sta.run = some r → s.dev.pageOn .sta1 = true → r.phase = .ready → ((s.dev.seqStep r).extractLsb' 60 4).toNat = 0 →
    Effect .seqEnd s (s.dev.endSeq (if r.warned then 1 else 0)))
  ∧ (∀ s r, s.dev.sta.run = some r → s.dev.pageOn .sta1 = true → r.phase = .ready → ((s.dev.seqStep r).extractLsb' 60 4).toNat = 2 →
    Effect .seqWait s
      (let r' : SeqRun := { r with phase := .wait (s.dev.clock + Config.usCt * ((s.dev.seqStep r).extractLsb' 0 32).toNat) }
       { s.dev with sta := { s.dev.sta with run := some r' } }))
  ∧ (∀ s r t, s.dev.sta.run = some r → r.phase = .wait t →
    Effect .seqWaitExpire s
      (let d := s.dev.waitUntil t
       let d := (d.setFld Reg.STA1.SVC_STATUS_STEP (d.fld Reg.STA1.SVC_STATUS_STEP + 1)).setFld Reg.STA1.SVC_STATUS_STATE 1
       { d with sta := { d.sta with run := some { r with phase := .ready } } }))
  ∧ (∀ s r, s.dev.sta.run = some r → s.dev.pageOn .sta1 = true → r.phase = .ready → ((s.dev.seqStep r).extractLsb' 60 4).toNat = 6 →
    ((s.dev.seqStep r).getLsbD 59 = false ∨ r.lastWarn = true) →
    Effect .seqBranch s (s.dev.gotoStep r ((s.dev.seqStep r).extractLsb' 0 10).toNat))
  ∧ (∀ s r, s.dev.sta.run = some r → s.dev.pageOn .sta1 = true → r.phase = .ready → ((s.dev.seqStep r).extractLsb' 60 4).toNat = 6 →
    (s.dev.seqStep r).getLsbD 59 = true → r.lastWarn = false →
    Effect .seqBranch s (s.dev.nextStep r))
  ∧ (∀ s r, s.dev.sta.run = some r → s.dev.pageOn .sta1 = true → r.phase = .ready → ((s.dev.seqStep r).extractLsb' 60 4).toNat = 7 →
    Effect .seqFail s ((s.dev.setFld Reg.STA1.SVC_USER_USER_CODE ((s.dev.seqStep r).extractLsb' 0 8).toNat).endSeq 8))
  ∧ (∀ s r svc, s.dev.sta.run = some r → s.dev.pageOn .sta1 = true → r.phase = .ready → ((s.dev.seqStep r).extractLsb' 60 4).toNat = 4 → stepService (s.dev.seqStep r) = some svc →
    s.dev.serviceCond (s.dev.stepDies r (s.dev.seqStep r)) = false →
    Effect .seqRun s (s.dev.endSeq 6))
  ∧ (∀ s r svc, s.dev.sta.run = some r → s.dev.pageOn .sta1 = true → r.phase = .ready → ((s.dev.seqStep r).extractLsb' 60 4).toNat = 4 → stepService (s.dev.seqStep r) = some svc →
    s.dev.serviceCond (s.dev.stepDies r (s.dev.seqStep r)) = true → s.dev.sealSays svc ((s.dev.seqStep r).getLsbD 51) = 2 →
    Effect .seqRun s ((s.dev.raise .sta1 6).endSeq 4))
  ∧ (∀ s r svc, s.dev.sta.run = some r → s.dev.pageOn .sta1 = true → r.phase = .ready → ((s.dev.seqStep r).extractLsb' 60 4).toNat = 4 → stepService (s.dev.seqStep r) = some svc →
    s.dev.serviceCond (s.dev.stepDies r (s.dev.seqStep r)) = true → s.dev.sealSays svc ((s.dev.seqStep r).getLsbD 51) ≠ 2 →
    Effect .seqRun s (let d := s.dev.setFld Reg.STA1.SVC_STATUS_STATE 2; { d with sta := { d.sta with run := some { r with phase := .claim s.dev.clock } } }))
  ∧ (∀ s r, s.dev.sta.run = some r → s.dev.pageOn .sta1 = true → r.phase = .ready → ((s.dev.seqStep r).extractLsb' 60 4).toNat = 4 → stepService (s.dev.seqStep r) = none →
    Effect .seqRun s (match Config.undefinedService s.dev.free % 9 with
      | 0 => s.dev.draw.nextStep { r with lastWarn := false }
      | 1 => s.dev.draw.nextStep { r with warned := true, lastWarn := true }
      | code => s.dev.draw.endSeq code))
  ∧ (∀ (d : Device) svc commit, d.unsealed = true → d.sealSays svc commit = 0)
  ∧ (∀ (d : Device) commit, d.unsealed = false → d.sealSays .threshold commit = 2 ∧ d.sealSays .bumpScan commit = 0 ∧ d.sealSays .delayLine false = 0
      ∧ d.sealSays .delayLine true = if d.flag Reg.SEA0.POLICY_SVC_RESEAL then 1 else 2)
  ∧ (∀ s r t, s.dev.sta.run = some r → r.phase = .claim t → Effect .svcClaimTimeout s ((s.dev.waitUntil (t + 100 * Config.msCt)).endSeq 5))
  ∧ (∀ s r t c, s.dev.sta.run = some r → r.phase = .claim t → ((s.dev.seqStep r).extractLsb' 60 4).toNat = 5 → s.dev.freeCore = some c →
    Effect .svcClaimGranted s
      (let d := (s.dev.setFld Reg.STA1.SVC_STATUS_STATE 1).setFlag (Reg.DSP.CTRL_RUN c) true
       let d := d.updCore c fun k => { k with claimed := true, pc := (s.dev.seqStep r).extractLsb' 46 14, run := .running, cause := 0, drainAt := none, stopAsked := false }
       { d with sta := { d.sta with run := some { r with phase := .dsp c d.clock } } }))
  ∧ (∀ s r t, s.dev.sta.run = some r → r.phase = .claim t → ((s.dev.seqStep r).extractLsb' 60 4).toNat = 5 → s.dev.freeCore = none → Effect .svcClaimGranted s s.dev)
  ∧ (∀ s r t svc, s.dev.sta.run = some r → r.phase = .claim t → ((s.dev.seqStep r).extractLsb' 60 4).toNat = 4 → stepService (s.dev.seqStep r) = some svc →
    let dies := s.dev.stepDies r (s.dev.seqStep r)
    let params := (s.dev.seqStep r).extractLsb' 0 48
    let commit := (s.dev.seqStep r).getLsbD 51 && svc != .bumpScan
    (s.dev.serviceCond dies = false → Effect .svcClaimGranted s (s.dev.endSeq 6))
    ∧ (s.dev.serviceCond dies = true → s.dev.sealSays svc commit = 2 → Effect .svcClaimGranted s ((s.dev.raise .sta1 6).endSeq 4))
    ∧ (s.dev.serviceCond dies = true → s.dev.sealSays svc commit ≠ 2 →
        (∃ n ∈ dies, s.dev.flag (Reg.PIX.INJ_CTRL_BUSY n) = true) ∨ s.dev.staRuns = true ∧ (svc ≠ .bumpScan ∨ params.getLsbD 42 = true) → Effect .svcClaimGranted s s.dev)
    ∧ (∀ e c, s.dev.serviceCond dies = true → s.dev.sealSays svc commit ≠ 2 → (∀ n ∈ dies, s.dev.flag (Reg.PIX.INJ_CTRL_BUSY n) = false) →
        s.dev.staRuns = false ∨ svc = .bumpScan ∧ params.getLsbD 42 = false → s.dev.allocCtx 5 (BitVec.ofNat 24 r.seq) = (e, some c) →
        Effect .svcClaimGranted s
          (let v : ServiceRun := { svc := svc, dies := dies, todo := dies, commit := commit, params := params, reseals := e.sealSays svc commit = 1, lowGain := e.lowRegions dies, ctx := c }
           let d := (e.setFld Reg.STA1.SVC_STATUS_STATE 1).setFlag Reg.STA1.SVC_STATUS_SEAL_HOLD (commit && e.unsealed)
           let d := dies.foldl (fun (d : Device) n => d.pauseCheck (Fin.ofNat 4 n)) d
           if dies.isEmpty then d.endRunStep r v false
           else match svc with
             | .delayLine => d.startDie r v
             | .threshold => d.startTrims r v 0 0
             | .bumpScan => { d with sta := { d.sta with run := some { r with phase := .service v } } }))
    ∧ (∀ e, s.dev.serviceCond dies = true → s.dev.sealSays svc commit ≠ 2 → s.dev.claimable svc dies params = true → s.dev.allocCtx 5 (BitVec.ofNat 24 r.seq) = (e, none) →
        Effect .svcClaimGranted s e))

/-- The built-in services. DLCAL_DONE: when the histogram run of the die has its hits its records are computed and the first offset run begins, after that the second one, after that the die is finished: its offsets, its results, a warning when a
cluster failed, in COMMIT mode the records, INJ_DELAY, CAL_TEMP and event 3, and the next die or the end of the step (R351, R345, R349). THEQ_DONE: a measurement moves every treated trim; after the fifth the next group of columns begins, after the
fourth group the step ends with event 4 (R352). BSCAN_DONE: when every die has had its repetitions the step ends with event 5, with a warning when a pixel is OPEN or SHORTED (R353). Each does nothing before its measurement is over. A histogram without counts
fails, and gives words that are free (R110); the search gives a pixel that never reaches half of its pulses trim 0 and one that always does 31 (R352); a scanned pixel takes its most frequent status, on a tie the worse; one whose checks never respond has the
bin 0xFFFF, one never checked 0xFFFE (R353).
Readings and choices of the model that it rests on: log entries 13, 23, 74 and 117. -/
def Obligations.BuiltInServices : Prop :=
  (∀ s r v n rest, s.dev.sta.run = some r → r.phase = .service v → v.svc = .delayLine → v.todo = n :: rest → v.stage = .codes →
    s.dev.flag (Reg.PIX.INJ_CTRL_BUSY n) = false ∨ (∀ j, j < 8192 → calHits v.params ≤ s.dev.binSum j) →
    Effect .dlcalDone s (let p := (s.dev.endService (Fin.ofNat 4 n)).computeRecords v n; p.1.startOffsets r p.2 n 0))
  ∧ (∀ s r v n rest, s.dev.sta.run = some r → r.phase = .service v → v.svc = .delayLine → v.todo = n :: rest → v.stage = .offsets 0 → s.dev.flag (Reg.PIX.INJ_CTRL_BUSY n) = false →
    Effect .dlcalDone s (let d := s.dev.endService (Fin.ofNat 4 n); d.startOffsets r { v with means := d.cellMeans } n 1))
  ∧ (∀ s r v n rest, s.dev.sta.run = some r → r.phase = .service v → v.svc = .delayLine → v.todo = n :: rest → v.stage = .offsets 1 → s.dev.flag (Reg.PIX.INJ_CTRL_BUSY n) = false →
    Effect .dlcalDone s
      (let d := s.dev.endService (Fin.ofNat 4 n)
       let temp := d.calTemp n
       let p := d.setOffsets v temp (v.means ++ d.cellMeans)
       let rs := (List.range 8192).map fun j => if v.failed.contains j then none else some ((List.range 65).map (p.1.storedRecord j))
       let dev := rs.zipIdx.foldl (fun (m : Nat) q => match q.1 with
         | some ws => max m (((ws.getD 63 0).toNat : Int) - (p.1.corrWord (n * 8192 + q.2) 63).toNat).natAbs
         | none => m) 0
       let d := (p.1.setFld (Reg.STA1.DIE_RESULT_FAILED n) v.failed.length).setFld (Reg.STA1.DIE_RESULT_MAXDEV n) (min dev 65535)
       let w := { v with warn := v.warn || !v.failed.isEmpty }
       if v.commit = false then d.nextDie r w
       else
         let d := (if v.reseals then d.openWindow else d).putRecords n temp rs
         let d := d.setFld (Reg.TIM0.INJ_DELAY_DELAY n) (p.2 % 65536).toNat
         let d := ((d.setFld (Reg.STA1.CAL_TEMP_TEMP n) temp).setFlag (Reg.STA1.CAL_TEMP_VALID n) true).raise .sta1 3
         let d := if v.reseals then d.closeWindow else d
         if d.sea.work.isSome && v.reseals then { d with sta := { d.sta with run := some { r with phase := .reseal w } } } else d.nextDie r w))
  ∧ (∀ s r v n rest, s.dev.sta.run = some r → r.phase = .service v → v.svc = .delayLine → v.todo = n :: rest → s.dev.dieMeasured n v = false → Effect .dlcalDone s s.dev)
  ∧ (∀ s r v group round, s.dev.sta.run = some r → r.phase = .service v → v.svc = .threshold → v.stage = .trims group round → (∀ n ∈ v.dies, s.dev.flag (Reg.PIX.INJ_CTRL_BUSY n) = false) →
    let p := v.dies.foldl (fun (p : Device × ServiceRun) n => p.1.searchDie p.2 group round n) (v.dies.foldl (fun (d : Device) n => d.endService (Fin.ofNat 4 n)) s.dev, v)
    (round < 4 → Effect .theqDone s (p.1.startTrims r p.2 group (round + 1)))
    ∧ (4 ≤ round → group < 3 → Effect .theqDone s (p.1.startTrims r p.2 (group + 1) 0))
    ∧ (4 ≤ round → 3 ≤ group → p.2.commit = false → Effect .theqDone s
        (let d := p.2.dies.foldl (fun (d : Device) n => d.equalised p.2 n) p.1
         (d.raise .sta1 4).endRunStep r p.2 (p.2.dies.any fun n => d.fld (Reg.STA1.THEQ_RANGE_COUNT n) != 0 || d.fld (Reg.STA1.THEQ_NOISY_COUNT n) != 0)))
    ∧ (4 ≤ round → 3 ≤ group → p.2.commit = true → Effect .theqDone s
        (let done := p.2.dies.flatMap fun n => ([0, 1, 2, 3] : List Nat).flatMap fun g => p.1.treated p.2 n g
         let kept := p.2.saved.map fun q => if done.contains q.1 then (q.1, (q.2 &&& 0xE0#8) ||| ((p.1.pixel q.1).entry &&& 0x1F#8)) else q
         let d := p.2.dies.foldl (fun (d : Device) n => d.equalised p.2 n) p.1
         (d.raise .sta1 4).endRunStep r { p.2 with saved := kept } (p.2.dies.any fun n => d.fld (Reg.STA1.THEQ_RANGE_COUNT n) != 0 || d.fld (Reg.STA1.THEQ_NOISY_COUNT n) != 0))))
  ∧ (∀ s r v n, s.dev.sta.run = some r → r.phase = .service v → v.svc = .threshold → n ∈ v.dies → s.dev.flag (Reg.PIX.INJ_CTRL_BUSY n) = true → Effect .theqDone s s.dev)
  ∧ (∀ s r v, s.dev.sta.run = some r → r.phase = .service v → v.svc = .bumpScan →
    (∀ n ∈ v.dies, (SMap.get (fun _ => ({} : ScanSt)) v.scans n).busy = false ∧ (SMap.get (fun _ => ({} : ScanSt)) v.scans n).reps = scanReps v.params) →
    Effect .bscanDone s
      (let p := v.dies.foldl (fun (p : Device × Bool) n => let q := p.1.scanDie v n; (q.1, p.2 || q.2)) (s.dev, false)
       (p.1.raise .sta1 5).endRunStep r v p.2))
  ∧ (∀ s r v n, s.dev.sta.run = some r → r.phase = .service v → v.svc = .bumpScan → n ∈ v.dies →
    (SMap.get (fun _ => ({} : ScanSt)) v.scans n).busy = true ∨ (SMap.get (fun _ => ({} : ScanSt)) v.scans n).reps ≠ scanReps v.params → Effect .bscanDone s s.dev)
  ∧ (∀ u, calRecord (fun _ => 0) u = ((List.range 64).map u, true))
  ∧ (∀ h u, 0 < ((List.range 80).map h).sum → (∃ k, k < 56 ∧ h k = 0) → (calRecord h u).2 = true)
  ∧ (eqNext 4 (eqNext 3 (eqNext 2 (eqNext 1 (eqNext 0 16 false) false) false) false) false = 0
      ∧ eqNext 4 (eqNext 3 (eqNext 2 (eqNext 1 (eqNext 0 16 true) true) true) true) true = 31)
  ∧ (∀ t, eqNext 4 t true = t ∧ eqNext 4 t false = t - 1)
  ∧ (∀ rs : List (BitVec 2), rs ≠ [] → (∀ x ∈ rs, x ≠ 0) → scanStatus rs ∈ rs ∧ ∀ x ∈ rs, (rs.filter fun y => y == x).length ≤ (rs.filter fun y => y == scanStatus rs).length
      ∧ ((rs.filter fun y => y == x).length = (rs.filter fun y => y == scanStatus rs).length → x ≤ scanStatus rs))
  ∧ (∀ cs : List (Option Nat), cs ≠ [] → (∀ c ∈ cs, c = none) → scanBin cs = 0xFFFF)
  ∧ scanBin [] = 0xFFFE

/-- The ALU instructions with a source and those without (R311): each writes the exact result fitted to its accumulator, under S, with its flags (R298), while its parallel slot moves
(R302); the core goes on to the next word.
Readings and choices of the model that it rests on: log entries 81 and 82. -/
def Obligations.DspAluInstructions : Prop :=
  (∀ s (core : Core) sat ac src slot, Straight s.dev core.val → SlotSound (s.dev.core core.val) slot →
    Effect (.dspAdd core sat ac src slot) s (s.dev.accNext core.val ac (fitAcc sat (((s.dev.core core.val).acc ac).toInt + (s.dev.core core.val).aluSource src)) true slot))
  ∧ (∀ s (core : Core) sat ac src slot, Straight s.dev core.val → SlotSound (s.dev.core core.val) slot →
    Effect (.dspSub core sat ac src slot) s (s.dev.accNext core.val ac (fitAcc sat (((s.dev.core core.val).acc ac).toInt - (s.dev.core core.val).aluSource src)) true slot))
  ∧ (∀ s (core : Core) sat ac src slot, Straight s.dev core.val → SlotSound (s.dev.core core.val) slot →
    Effect (.dspNeg core sat ac src slot) s (s.dev.accNext core.val ac (fitAcc sat (-(s.dev.core core.val).aluSource src)) true slot))
  ∧ (∀ s (core : Core) sat ac src slot, Straight s.dev core.val → SlotSound (s.dev.core core.val) slot →
    Effect (.dspAbs core sat ac src slot) s (s.dev.accNext core.val ac (fitAcc sat (if (s.dev.core core.val).aluSource src < 0 then -(s.dev.core core.val).aluSource src else (s.dev.core core.val).aluSource src)) true slot))
  ∧ (∀ s (core : Core) sat ac src slot, Straight s.dev core.val → SlotSound (s.dev.core core.val) slot →
    Effect (.dspMova core sat ac src slot) s (s.dev.accNext core.val ac (fitAcc sat ((s.dev.core core.val).aluSource src)) true slot))
  ∧ (∀ s (core : Core) sat ac src slot, Straight s.dev core.val → SlotSound (s.dev.core core.val) slot →
    Effect (.dspAnd core sat ac src slot) s (s.dev.accNext core.val ac (bitsRes ((s.dev.core core.val).acc ac &&& BitVec.ofInt 56 ((s.dev.core core.val).aluSource src))) true slot))
  ∧ (∀ s (core : Core) sat ac src slot, Straight s.dev core.val → SlotSound (s.dev.core core.val) slot →
    Effect (.dspOr core sat ac src slot) s (s.dev.accNext core.val ac (bitsRes ((s.dev.core core.val).acc ac ||| BitVec.ofInt 56 ((s.dev.core core.val).aluSource src))) true slot))
  ∧ (∀ s (core : Core) sat ac src slot, Straight s.dev core.val → SlotSound (s.dev.core core.val) slot →
    Effect (.dspXor core sat ac src slot) s (s.dev.accNext core.val ac (bitsRes ((s.dev.core core.val).acc ac ^^^ BitVec.ofInt 56 ((s.dev.core core.val).aluSource src))) true slot))
  ∧ (∀ s (core : Core) sat ac src slot, Straight s.dev core.val → SlotSound (s.dev.core core.val) slot →
    Effect (.dspMax core sat ac src slot) s (s.dev.accNext core.val ac (fitAcc sat (if ((s.dev.core core.val).acc ac).toInt < (s.dev.core core.val).aluSource src then (s.dev.core core.val).aluSource src else ((s.dev.core core.val).acc ac).toInt)) true slot))
  ∧ (∀ s (core : Core) sat ac src slot, Straight s.dev core.val → SlotSound (s.dev.core core.val) slot →
    Effect (.dspMin core sat ac src slot) s (s.dev.accNext core.val ac (fitAcc sat (if (s.dev.core core.val).aluSource src < ((s.dev.core core.val).acc ac).toInt then (s.dev.core core.val).aluSource src else ((s.dev.core core.val).acc ac).toInt)) true slot))
  ∧ (∀ s (core : Core) sat ac slot, Straight s.dev core.val → SlotSound (s.dev.core core.val) slot →
    Effect (.dspClr core sat ac slot) s (s.dev.accNext core.val ac (bitsRes 0) true slot))
  ∧ (∀ s (core : Core) sat ac slot, Straight s.dev core.val → SlotSound (s.dev.core core.val) slot →
    Effect (.dspRnd core sat ac slot) s (s.dev.accNext core.val ac (fitAcc sat (roundTo24 ((s.dev.core core.val).acc ac).toInt)) true slot))

/-- The shifts, the high-word forms, CMP, SATA, EXTR and EXP (R311): CMP writes flags only, SATA clamps to 48 bits and sets SAT, EXTR and EXP write a D register whose flags leave X as it was (R298).
Readings and choices of the model that it rests on: log entries 81 and 82. -/
def Obligations.DspShiftsAndExtracts : Prop :=
  (∀ s (core : Core) sat ac count slot, Straight s.dev core.val → SlotSound (s.dev.core core.val) slot →
    Effect (.dspAsl core sat ac count slot) s (s.dev.accNext core.val ac (fitAcc sat (((s.dev.core core.val).acc ac).toInt * 2 ^ count.toNat)) true slot))
  ∧ (∀ s (core : Core) sat ac count slot, Straight s.dev core.val → SlotSound (s.dev.core core.val) slot →
    Effect (.dspAsr core sat ac count slot) s (s.dev.accNext core.val ac (bitsRes (BitVec.ofInt 56 (((s.dev.core core.val).acc ac).toInt / 2 ^ count.toNat))) true slot))
  ∧ (∀ s (core : Core) sat ac count slot, Straight s.dev core.val → SlotSound (s.dev.core core.val) slot →
    Effect (.dspLsr core sat ac count slot) s (s.dev.accNext core.val ac (bitsRes ((s.dev.core core.val).acc ac >>> count.toNat)) true slot))
  ∧ (∀ s (core : Core) sat ac dn slot, Straight s.dev core.val → SlotSound (s.dev.core core.val) slot →
    Effect (.dspAddh core sat ac dn slot) s (s.dev.accNext core.val ac (fitAcc sat (((s.dev.core core.val).acc ac).toInt + (s.dev.core core.val).data dn * 16777216)) true slot))
  ∧ (∀ s (core : Core) sat ac dn slot, Straight s.dev core.val → SlotSound (s.dev.core core.val) slot →
    Effect (.dspSubh core sat ac dn slot) s (s.dev.accNext core.val ac (fitAcc sat (((s.dev.core core.val).acc ac).toInt - (s.dev.core core.val).data dn * 16777216)) true slot))
  ∧ (∀ s (core : Core) sat ac dn slot, Straight s.dev core.val → SlotSound (s.dev.core core.val) slot →
    Effect (.dspMovh core sat ac dn slot) s (s.dev.accNext core.val ac (fitAcc sat ((s.dev.core core.val).data dn * 16777216)) true slot))
  ∧ (∀ s (core : Core) sat ac src slot, Straight s.dev core.val → SlotSound (s.dev.core core.val) slot →
    Effect (.dspCmp core sat ac src slot) s (s.dev.accNext core.val ac (fitAcc sat (((s.dev.core core.val).acc ac).toInt - (s.dev.core core.val).aluSource src)) false slot))
  ∧ (∀ s (core : Core) sat ac slot, Straight s.dev core.val → SlotSound (s.dev.core core.val) slot →
    Effect (.dspSata core sat ac slot) s
      (let x := ((s.dev.core core.val).acc ac).toInt
       let r : AluRes := if -(2 ^ 47 : Int) ≤ x ∧ x < 2 ^ 47 then bitsRes (BitVec.ofInt 56 x)
         else { value := BitVec.ofInt 56 (if x < 0 then -(2 ^ 47 : Int) else 2 ^ 47 - 1), v := false, ov := false, sat := true }
       s.dev.accNext core.val ac r true slot))
  ∧ (∀ s (core : Core) sat dst ac count slot, Straight s.dev core.val → SlotSound (s.dev.core core.val) slot →
    Effect (.dspExtr core sat dst ac count slot) s
      (let x := ((s.dev.core core.val).acc ac).toInt / 2 ^ count.toNat
       let v := BitVec.ofInt 24 (fitInt 24 sat x).1
       (((s.dev.begins core.val).updCore core.val fun k => k.late fun f => (f.write (.d dst) v).dataFlags v.toInt (fitInt 24 sat x).2 sat).doSlot core.val (s.dev.core core.val) slot).ends
         core.val ((s.dev.core core.val).pc + 1) none))
  ∧ (∀ s (core : Core) dst ac slot, Straight s.dev core.val → SlotSound (s.dev.core core.val) slot →
    Effect (.dspExp core dst ac slot) s
      (let y : Int := (leadingSigns ((s.dev.core core.val).acc ac) : Int) - 9
       (((s.dev.begins core.val).updCore core.val fun k => k.late fun f => (f.write (.d dst) (BitVec.ofInt 24 y)).dataFlags y false false).doSlot core.val (s.dev.core core.val) slot).ends
         core.val ((s.dev.core core.val).pc + 1) none))

/-- The MAC instructions (R311): the product of two signed 24-bit words, DY unsigned in MULX and MACX, alone, added to, subtracted from or rounded in the accumulator, with its flags (R298); then the bank stall (R290) and the two parallel moves (R302).
Readings and choices of the model that it rests on: log entries 81 and 82. -/
def Obligations.DspMacInstructions : Prop :=
  (∀ s (core : Core) sat ac dx dy slot1 slot2, Straight s.dev core.val → SlotSound (s.dev.core core.val) slot1 → SlotSound (s.dev.core core.val) slot2 →
    Effect (.dspMul core sat ac dx dy slot1 slot2) s
      (s.dev.macNext core.val ac (fitAcc sat ((s.dev.core core.val).data dx * (s.dev.core core.val).data dy)) slot1 slot2))
  ∧ (∀ s (core : Core) sat ac dx dy slot1 slot2, Straight s.dev core.val → SlotSound (s.dev.core core.val) slot1 → SlotSound (s.dev.core core.val) slot2 →
    Effect (.dspMac core sat ac dx dy slot1 slot2) s
      (s.dev.macNext core.val ac (fitAcc sat (((s.dev.core core.val).acc ac).toInt + (s.dev.core core.val).data dx * (s.dev.core core.val).data dy)) slot1 slot2))
  ∧ (∀ s (core : Core) sat ac dx dy slot1 slot2, Straight s.dev core.val → SlotSound (s.dev.core core.val) slot1 → SlotSound (s.dev.core core.val) slot2 →
    Effect (.dspMacn core sat ac dx dy slot1 slot2) s
      (s.dev.macNext core.val ac (fitAcc sat (((s.dev.core core.val).acc ac).toInt - (s.dev.core core.val).data dx * (s.dev.core core.val).data dy)) slot1 slot2))
  ∧ (∀ s (core : Core) sat ac dx dy slot1 slot2, Straight s.dev core.val → SlotSound (s.dev.core core.val) slot1 → SlotSound (s.dev.core core.val) slot2 →
    Effect (.dspMacrn core sat ac dx dy slot1 slot2) s
      (s.dev.macNext core.val ac (fitAcc sat (roundTo24 (((s.dev.core core.val).acc ac).toInt + (s.dev.core core.val).data dx * (s.dev.core core.val).data dy))) slot1 slot2))
  ∧ (∀ s (core : Core) sat ac dx dy slot1 slot2, Straight s.dev core.val → SlotSound (s.dev.core core.val) slot1 → SlotSound (s.dev.core core.val) slot2 →
    Effect (.dspMulx core sat ac dx dy slot1 slot2) s
      (s.dev.macNext core.val ac (fitAcc sat ((s.dev.core core.val).data dx * (if (s.dev.core core.val).data dy < 0 then (s.dev.core core.val).data dy + 16777216 else (s.dev.core core.val).data dy))) slot1 slot2))
  ∧ (∀ s (core : Core) sat ac dx dy slot1 slot2, Straight s.dev core.val → SlotSound (s.dev.core core.val) slot1 → SlotSound (s.dev.core core.val) slot2 →
    Effect (.dspMacx core sat ac dx dy slot1 slot2) s
      (s.dev.macNext core.val ac (fitAcc sat (((s.dev.core core.val).acc ac).toInt + (s.dev.core core.val).data dx * (if (s.dev.core core.val).data dy < 0 then (s.dev.core core.val).data dy + 16777216 else (s.dev.core core.val).data dy))) slot1 slot2))

/-- Moves, loads, stores and immediates straight ahead (R299, R311): a move, a load and an immediate write their register late, the address and the step of the pointer are those of the mode (R299, R300); a store
writes what its register shows; EI, DI and CLRS move their bits of SR; NOP nothing (R311). An immediate to a register
other than D, P, I and B is illegal (R311); a core that is halted executes nothing, and one whose breakpoint stands at its PC halts instead (R331).
Readings and choices of the model that it rests on: log entries 25 and 81. -/
def Obligations.DspMovesAndAccesses : Prop :=
  (∀ s (core : Core), Straight s.dev core.val → Effect (.dspNop core) s ((s.dev.begins core.val).ends core.val ((s.dev.core core.val).pc + 1) none))
  ∧ (∀ s (core : Core) dst src, Straight s.dev core.val →
    Effect (.dspMov core dst src) s (s.dev.lateNext core.val fun f => f.write dst ((s.dev.core core.val).source src)))
  ∧ (∀ s (core : Core), Straight s.dev core.val → Effect (.dspEi core) s (s.dev.lateNext core.val fun f => f.setSrBit 6 true))
  ∧ (∀ s (core : Core), Straight s.dev core.val → Effect (.dspDi core) s (s.dev.lateNext core.val fun f => f.setSrBit 6 false))
  ∧ (∀ s (core : Core) sat ov, Straight s.dev core.val →
    Effect (.dspClrs core sat ov) s
      (s.dev.lateNext core.val fun f => (if ov then (if sat then f.setSrBit 5 false else f).setSrBit 4 false else (if sat then f.setSrBit 5 false else f))))
  ∧ (∀ s (core : Core) dst ptr mode disp, Straight s.dev core.val → dispOk mode disp = true → (s.dev.core core.val).badAt ((s.dev.core core.val).address ptr mode disp).1 = false →
    Effect (.dspLoad core dst ptr mode disp) s
      (let a := (s.dev.core core.val).address ptr mode disp
       let x := (s.dev.begins core.val).dspLoad core.val a.1
       (x.1.updCore core.val fun q => (q.stepTo ptr a.2).late fun f => f.write dst x.2).ends core.val ((s.dev.core core.val).pc + 1) none))
  ∧ (∀ s (core : Core) src ptr mode disp, Straight s.dev core.val → dispOk mode disp = true →
    Effect (.dspStore core src ptr mode disp) s
      (let a := (s.dev.core core.val).address ptr mode disp
       ((((s.dev.begins core.val).dspStore core.val a.1 ((s.dev.core core.val).source src)).updCore core.val fun q => q.stepTo ptr a.2).ends core.val
         ((s.dev.core core.val).pc + 1) none)))
  ∧ (∀ s (core : Core) dst value, Straight s.dev core.val → (regCode dst < 8 ∨ regCode dst < 0x20 ∧ value.toNat < 65536) →
    Effect (.dspLdi core dst value) s (s.dev.lateNext core.val fun f => f.write dst value))
  ∧ (∀ s (core : Core) dst value, CoreExecutes s.dev core.val → (0x20 ≤ regCode dst ∨ 8 ≤ regCode dst ∧ 65536 ≤ value.toNat) →
    Effect (.dspLdi core dst value) s (s.dev.exception core.val 1 (((s.dev.core core.val).slot.map (·.branchPc)).getD (s.dev.core core.val).pc)))
  ∧ (∀ s (core : Core) dst ptr mode disp, CoreExecutes s.dev core.val → dispOk mode disp = false →
    Effect (.dspLoad core dst ptr mode disp) s (s.dev.exception core.val 1 (((s.dev.core core.val).slot.map (·.branchPc)).getD (s.dev.core core.val).pc))
      ∧ Effect (.dspStore core dst ptr mode disp) s (s.dev.exception core.val 1 (((s.dev.core core.val).slot.map (·.branchPc)).getD (s.dev.core core.val).pc)))
  ∧ (∀ s (core : Core) dst ptr mode disp, Straight s.dev core.val → dispOk mode disp = true → (s.dev.core core.val).badAt ((s.dev.core core.val).address ptr mode disp).1 = true →
    Effect (.dspLoad core dst ptr mode disp) s (s.dev.faultCore core.val 5 12))
  ∧ (∀ s (core : Core) line ac, Straight s.dev core.val →
    Effect (.dspTrig core line ac) s
      (((s.dev.begins core.val).dspTrigger core.val line.val ((s.dev.core core.val).rf1.get (0x20 + ac.val))).ends core.val ((s.dev.core core.val).pc + 1) none))
  ∧ (∀ s (core : Core), (s.dev.core core.val).run = .halted → Effect (.dspNop core) s s.dev)
  ∧ (∀ (d : Device) c op, (d.core c).run = .halted ∨ (d.core c).run = .fault ∨ d.pageOn (corePage c) = false ∧ (d.core c).run ≠ .waiting ∨ (d.core c).run ≠ .waiting ∧ (d.core c).fab.isSome = true →
    d.dspStep c op = d)
  ∧ (∀ s (core : Core), s.dev.pageOn (.dsp core) = true → (s.dev.core core.val).run = .running ∨ (s.dev.core core.val).run = .draining → (s.dev.core core.val).fab = none →
    s.dev.breaks core.val = true → Effect (.dspNop core) s (s.dev.haltCore core.val 2))
  ∧ (∀ (d : Device) c op, d.pageOn (corePage c) = true → (d.core c).run = .running ∨ (d.core c).run = .draining → (d.core c).fab = none → d.breaks c = false →
    (d.core c).bad.contains (pmemAt (d.core c).pc.toNat) = true → d.dspStep c op = d.faultCore c 5 12)
  ∧ (∀ (d : Device) c op, CoreExecutes d c → (d.core c).illegalHere op = false → (d.core c).loopError op = false → ((d.core c).loads op).any (d.core c).badAt = false → (∀ n, op ≠ .trap n) →
    d.dspStep c op = d.dspPerform c op)

/-- Control transfers (R304, R315): a branch, a call, a jump and the two returns open a delay slot, and the instruction in it goes to the target, where the branch is taken, and every instruction moves the PC as its slot, its loop or its skip says; a call leaves the address after the slot in
LR; RTI restores SR and EXC from SSR after its slot (R315). LOOP opens a level over its body (R305), or skips it with a count of 0; at the end of an active loop LC counts down and
execution goes back, and a level whose count is 1 ends (R306); LPUSH and LPOP move levels (R308).
Readings and choices of the model that it rests on: log entries 21, 81 and 82. -/
def Obligations.DspControlAndLoops : Prop :=
  (∀ s (core : Core) cc target, Straight s.dev core.val →
    Effect (.dspBra core cc target) s
      (let k := s.dev.core core.val
       (s.dev.begins core.val).ends core.val (k.pc + 1) (some ⟨k.pc, if k.rf2.holds cc then some target else none, none⟩)))
  ∧ (∀ s (core : Core) target, Straight s.dev core.val →
    Effect (.dspCall core target) s
      (let k := s.dev.core core.val
       ((s.dev.begins core.val).updCore core.val fun q => q.now fun f => f.put 0x32 ((k.pc + 2).setWidth 56)).ends core.val (k.pc + 1) (some ⟨k.pc, some target, none⟩)))
  ∧ (∀ s (core : Core) ptr, Straight s.dev core.val →
    Effect (.dspJmp core ptr) s
      (let k := s.dev.core core.val
       (s.dev.begins core.val).ends core.val (k.pc + 1) (some ⟨k.pc, some ((k.ptr ptr).extractLsb' 0 14), none⟩)))
  ∧ (∀ s (core : Core), Straight s.dev core.val →
    Effect (.dspRts core) s
      (let k := s.dev.core core.val
       (s.dev.begins core.val).ends core.val (k.pc + 1) (some ⟨k.pc, some ((k.rf2.get 0x32).setWidth 14), none⟩)))
  ∧ (∀ s (core : Core), Straight s.dev core.val →
    Effect (.dspRti core) s
      (let k := s.dev.core core.val
       (s.dev.begins core.val).ends core.val (k.pc + 1) (some ⟨k.pc, some ((k.rf2.get 0x30).setWidth 14), some ((k.rf2.get 0x31).setWidth 12)⟩)))
  ∧ (∀ s (core : Core) b target, CoreExecutes s.dev core.val → (s.dev.core core.val).slot = some ⟨b, target, none⟩ → (s.dev.core core.val).detecting = false →
    Effect (.dspNop core) s ((s.dev.begins core.val).ends core.val (target.getD ((s.dev.core core.val).pc + 1)) none))
  ∧ (∀ s (core : Core) b target ssr, CoreExecutes s.dev core.val → (s.dev.core core.val).slot = some ⟨b, some target, some ssr⟩ → (s.dev.core core.val).detecting = false →
    Effect (.dspNop core) s
      ((s.dev.begins core.val).updCore core.val fun q =>
        let r := q.now fun f => f.put 0x2C ((ssr.extractLsb' 0 8).setWidth 56)
        { r with exc := ssr.getLsbD 11, pc := target, slot := none }))
  ∧ (∀ (d : Device) c op t, (d.core c).slot = some t → ((d.dspPerform c op).core c).pc = t.target.getD ((d.core c).pc + 1))
  ∧ (∀ (d : Device) c op, (d.core c).slot = none → (d.core c).atLoopEnd = true → 1 < (d.core c).level.lc.toNat → ((d.dspPerform c op).core c).pc = (d.core c).level.lb)
  ∧ (∀ (d : Device) c op, (d.core c).slot = none → (d.core c).atLoopEnd = false ∨ (d.core c).level.lc.toNat ≤ 1 → (∀ n, (d.core c).loopCount op ≠ some (0, n)) →
    ((d.dspPerform c op).core c).pc = (d.core c).pc + 1)
  ∧ (∀ s (core : Core) (count : BitVec 16) length, Straight s.dev core.val → count ≠ 0 → (s.dev.core core.val).ld < 4 →
    Effect (.dspLoopImmediate core count length) s
      (let k := s.dev.core core.val
       ((s.dev.begins core.val).updCore core.val fun q =>
         ((q.pushLevel k.level).setLevel ⟨count, q.pc + 1, q.pc + length.setWidth 14⟩).now fun f => f.setSrBit 7 false).ends core.val (k.pc + 1) none))
  ∧ (∀ s (core : Core) length, Straight s.dev core.val →
    Effect (.dspLoopImmediate core 0 length) s ((s.dev.begins core.val).ends core.val ((s.dev.core core.val).pc + length.setWidth 14 + 1) none))
  ∧ (∀ s (core : Core) count length, Straight s.dev core.val → (BitVec.ofInt 16 ((s.dev.core core.val).data count)) ≠ 0 → (s.dev.core core.val).ld < 4 →
    Effect (.dspLoopRegister core count length) s
      (let k := s.dev.core core.val
       ((s.dev.begins core.val).updCore core.val fun q =>
         ((q.pushLevel k.level).setLevel ⟨BitVec.ofInt 16 (k.data count), q.pc + 1, q.pc + length.setWidth 14⟩).now fun f => f.setSrBit 7 false).ends core.val (k.pc + 1) none))
  ∧ (∀ s (core : Core), CoreExecutes s.dev core.val → (s.dev.core core.val).slot = none → (s.dev.core core.val).atLoopEnd = true → 1 < (s.dev.core core.val).level.lc.toNat →
    Effect (.dspNop core) s
      (let k := s.dev.core core.val
       ((s.dev.begins core.val).updCore core.val fun q => q.now fun f => f.put 0x2D ((k.level.lc - 1).setWidth 56)).ends core.val k.level.lb none))
  ∧ (∀ s (core : Core), CoreExecutes s.dev core.val → (s.dev.core core.val).slot = none → (s.dev.core core.val).atLoopEnd = true → (s.dev.core core.val).level.lc = 1 →
    Effect (.dspNop core) s (((s.dev.begins core.val).updCore core.val fun q => q.popLevel).ends core.val ((s.dev.core core.val).pc + 1) none))
  ∧ (∀ s (core : Core), Straight s.dev core.val → (s.dev.core core.val).ld < 4 →
    Effect (.dspLpush core) s
      (let k := s.dev.core core.val
       ((s.dev.begins core.val).updCore core.val fun q =>
         { q.pushLevel k.level with loopOld := some (⟨(k.rf.get 0x2D).setWidth 16, (k.rf.get 0x2E).setWidth 14, (k.rf.get 0x2F).setWidth 14⟩, k.srOf k.rf) }).ends core.val (k.pc + 1) none))
  ∧ (∀ s (core : Core), Straight s.dev core.val →
    Effect (.dspLpop core) s
      (let k := s.dev.core core.val
       ((s.dev.begins core.val).updCore core.val fun q =>
         { q.popLevel with loopOld := some (⟨(k.rf.get 0x2D).setWidth 16, (k.rf.get 0x2E).setWidth 14, (k.rf.get 0x2F).setWidth 14⟩, k.srOf k.rf) }).ends core.val (k.pc + 1) none))

/-- Exceptions, interrupts and halts (R312-R316): outside a handler an illegal instruction, in a delay slot with the branch's address, enters vector 1 and a loop error vector 2, and TRAP notes its number and enters vector 3 with the address
after it, each with its event; within one, the core faults with cause 4 (R314). An entry saves the PC in SPC and SR in SSR, clears IE, sets LHOLD and goes to 4 times the vector
(R313). An interrupt enters the lowest wanted vector when IE is set (R312); WAIT waits when none is wanted (R316); HALT halts with cause 1 (R331); in a
drain both halt with cause 6, as 65,536 cycles do (R330).
Readings and choices of the model that it rests on: log entries 12, 81, 83 and 84. -/
def Obligations.DspExceptionsAndHalts : Prop :=
  (∀ s (core : Core), CoreExecutes s.dev core.val → (s.dev.core core.val).slot = none → (s.dev.core core.val).exc = false →
    Effect (.illegalInstruction core) s ((s.dev.updCore core.val fun k => k.enter 1 (s.dev.core core.val).pc true).raise (.dsp core) 1))
  ∧ (∀ s (core : Core) count length, CoreExecutes s.dev core.val → (s.dev.core core.val).slot = none → (s.dev.core core.val).detecting = false → count ≠ 0 → (s.dev.core core.val).ld = 4 →
    (s.dev.core core.val).exc = false →
    Effect (.dspLoopImmediate core count length) s ((s.dev.updCore core.val fun k => k.enter 2 (s.dev.core core.val).pc true).raise (.dsp core) 2))
  ∧ (∀ s (core : Core) t, CoreExecutes s.dev core.val → (s.dev.core core.val).slot = some t → (s.dev.core core.val).exc = false →
    Effect (.illegalInstruction core) s ((s.dev.updCore core.val fun k => k.enter 1 t.branchPc true).raise (.dsp core) 1))
  ∧ (∀ s (core : Core), Straight s.dev core.val → (s.dev.core core.val).ld = 4 → (s.dev.core core.val).exc = false →
    Effect (.dspLpush core) s ((s.dev.updCore core.val fun k => k.enter 2 (s.dev.core core.val).pc true).raise (.dsp core) 2))
  ∧ (∀ s (core : Core) n, Straight s.dev core.val → (s.dev.core core.val).exc = true → Effect (.dspTrap core n) s (s.dev.faultCore core.val 4 4))
  ∧ (∀ s (core : Core) n, Straight s.dev core.val → (s.dev.core core.val).exc = false →
    Effect (.dspTrap core n) s
      (((s.dev.setFld (Reg.DSPIO.TRAPNO_N core.val) n.val).updCore core.val fun k => k.enter 3 ((s.dev.core core.val).pc + 1) true).raise (.dsp core) 3))
  ∧ (∀ s (core : Core), CoreExecutes s.dev core.val → (s.dev.core core.val).exc = true →
    Effect (.illegalInstruction core) s (s.dev.faultCore core.val 4 4))
  ∧ (∀ (k : DspCore) n spc exc, k.run = .running → (k.enter n spc exc).pc = BitVec.ofNat 14 (4 * n) ∧ (k.enter n spc exc).rf.get 0x30 = spc.setWidth 56
      ∧ (k.enter n spc exc).rf.get 0x31 = (BitVec.ofBool k.exc ++ (BitVec.ofNat 3 k.ld ++ (k.rf.get 0x2C).extractLsb' 0 8) : BitVec 12).setWidth 56
      ∧ (k.enter n spc exc).rf.srBit 6 = false ∧ (k.enter n spc exc).rf.srBit 7 = true ∧ (k.enter n spc exc).exc = (k.exc || exc)
      ∧ (k.enter n spc exc).run = .running ∧ (k.enter n spc exc).ld = k.ld ∧ (∀ i, i < 8 → (k.enter n spc exc).rf.get i = k.rf.get i))
  ∧ (∀ s (core : Core) n rest, s.dev.pageOn (.dsp core) = true → (s.dev.core core.val).run = .waiting → s.dev.wanted core.val = n :: rest → (s.dev.core core.val).slot = none →
    (s.dev.core core.val).fab = none → (s.dev.core core.val).rf1.srBit 6 = true →
    Effect (.interruptEntry core) s ((s.dev.endWait core.val).updCore core.val fun k => k.enter n k.pc false))
  ∧ (∀ s (core : Core), s.dev.pageOn (.dsp core) = true → (s.dev.core core.val).slot ≠ none ∨ (s.dev.core core.val).fab ≠ none ∨ (s.dev.core core.val).rf1.srBit 6 = false →
    Effect (.interruptEntry core) s s.dev)
  ∧ (∀ s (core : Core) n rest, s.dev.pageOn (.dsp core) = true → (s.dev.core core.val).run = .running ∨ (s.dev.core core.val).run = .draining → s.dev.wanted core.val = n :: rest → (s.dev.core core.val).slot = none →
    (s.dev.core core.val).fab = none → (s.dev.core core.val).rf1.srBit 6 = true →
    Effect (.interruptEntry core) s (s.dev.updCore core.val fun k => k.enter n k.pc false))
  ∧ (∀ s (core : Core), s.dev.wanted core.val = [] → Effect (.interruptEntry core) s s.dev)
  ∧ (∀ s (core : Core), Straight s.dev core.val → (s.dev.core core.val).run = .running → (s.dev.begins core.val).wanted core.val ≠ [] →
    Effect (.dspWait core) s ((s.dev.begins core.val).ends core.val ((s.dev.core core.val).pc + 1) none))
  ∧ (∀ s (core : Core), Straight s.dev core.val → (s.dev.core core.val).run = .draining →
    Effect (.dspWait core) s (((s.dev.begins core.val).haltCore core.val 6).ends core.val ((s.dev.core core.val).pc + 1) none)
      ∧ Effect (.dspHalt core) s (((s.dev.begins core.val).haltCore core.val 6).ends core.val ((s.dev.core core.val).pc + 1) none))
  ∧ (∀ s (core : Core), Straight s.dev core.val → (s.dev.core core.val).run = .running → (s.dev.begins core.val).wanted core.val = [] →
    Effect (.dspWait core) s
      (((s.dev.begins core.val).updCore core.val fun q => { q with run := .waiting, waitSince := s.dev.clock }).ends core.val ((s.dev.core core.val).pc + 1) none))
  ∧ (∀ s (core : Core), Straight s.dev core.val → (s.dev.core core.val).run = .running →
    Effect (.dspHalt core) s (((s.dev.begins core.val).haltCore core.val 1).ends core.val ((s.dev.core core.val).pc + 1) none))
  ∧ (∀ s (core : Core) t, (s.dev.core core.val).run = .draining → (s.dev.core core.val).drainAt = some t →
    Effect (.dspDrainTimeout core) s ((s.dev.waitUntil t).haltCore core.val 6))
  ∧ (∀ s (core : Core), (s.dev.core core.val).run ≠ .draining → Effect (.dspDrainTimeout core) s s.dev)

/-- The queues and ports of a core: a result joins the queue with its tag, a full queue drops it with event 5 (R326); a mailbox pop takes the oldest entry, and 0 from an empty one (R326); the host's
read takes the oldest result with its valid bit (R326); the host's write joins the mailbox (R326); a timer's expiry pends (R329); a fabric access stalls the core (R327); a waveform
request joins its queue of four, and one in excess raises event 13 (R324); the oldest request waits for its samples, but not in a drain (R330), and ends with its record, or with LENGTH, CONTEXT, STALE or GAP (R325).
Readings and choices of the model that it rests on: log entries 39, 85 and 122. -/
def Obligations.DspQueuesAndPorts : Prop :=
  (∀ s (core : Core) data, s.dev.pageOn (.dsp core) = true → (s.dev.core core.val).res.length < 256 →
    Effect (.resPush core data) s (s.dev.updCore core.val fun k => { k with res := k.res ++ [(BitVec.ofNat 7 (s.dev.fld (Reg.DSPIO.RES_TAG_TAG core.val)), data)] }))
  ∧ (∀ s (core : Core) data, s.dev.pageOn (.dsp core) = true → 256 ≤ (s.dev.core core.val).res.length → Effect (.resPush core data) s (s.dev.raise (.dsp core) 5))
  ∧ (∀ s (core : Core) v rest, s.dev.pageOn (.dsp core) = true → (s.dev.core core.val).mbx = v :: rest →
    Effect (.mbxPop core) s { (s.dev.updCore core.val fun k => { k with mbx := rest }) with rdata := v.setWidth 32 })
  ∧ (∀ s (core : Core), (s.dev.core core.val).mbx = [] → Effect (.mbxPop core) s { s.dev with rdata := 0 })
  ∧ (∀ s (core : Core) tag v rest, s.dev.pageOn (.dsp core) = true → (s.dev.core core.val).res = (tag, v) :: rest →
    Effect (.resDataRead core) s { (s.dev.updCore core.val fun k => { k with res := rest }) with rdata := (1#1 : BitVec 1) ++ tag ++ v })
  ∧ (∀ s (core : Core), (s.dev.core core.val).res = [] → Effect (.resDataRead core) s { s.dev with rdata := 0 })
  ∧ (∀ s (core : Core) data, s.dev.pageOn (.dsp core) = true → (s.dev.core core.val).mbx.length < 256 →
    Effect (.mbxWrite core data) s ((s.dev.updCore core.val fun k => { k with mbx := k.mbx ++ [data] }).wake core.val))
  ∧ (∀ s (core : Core) data, s.dev.pageOn (.dsp core) = true → 256 ≤ (s.dev.core core.val).mbx.length → Effect (.mbxWrite core data) s (s.dev.raise (.dsp core) 6))
  ∧ (∀ (d : Device) c, (d.core c).run = .waiting → (d.core c).rf1.srBit 6 = false → d.wanted c ≠ [] →
    d.wake c = (d.count (Reg.DSP.CNT_WAIT c) ((d.clock - (d.core c).waitSince) / 2)).updCore c fun k => { k with run := .running })
  ∧ (∀ (d : Device) c, (d.core c).run ≠ .waiting ∨ (d.core c).rf1.srBit 6 = true ∨ d.wanted c = [] → d.wake c = d)
  ∧ (∀ s (core : Core), s.dev.pageOn (.dsp core) = true → s.dev.tim.dspClock = true → s.dev.fld (Reg.DSPIO.TMR_PERIOD_CYCLES core.val) ≠ 0 →
    Effect (.dspTimerExpire core) s
      (let due := (s.dev.core core.val).tmrStart + 2 * s.dev.fld (Reg.DSPIO.TMR_PERIOD_CYCLES core.val)
       (((s.dev.waitUntil due).setFlag (Reg.DSPIO.IPEND_TIMER core.val) true).updCore core.val fun k => { k with tmrStart := due }).wake core.val))
  ∧ (∀ s (core : Core), s.dev.tim.dspClock = false ∨ s.dev.fld (Reg.DSPIO.TMR_PERIOD_CYCLES core.val) = 0 → Effect (.dspTimerExpire core) s s.dev)
  ∧ (∀ s (core : Core), (s.dev.core core.val).fab.isSome = true → Effect (.fabRead core) s s.dev ∧ Effect (.fabWrite core) s s.dev)
  ∧ (∀ s (core : Core), s.dev.pageOn (.dsp core) = true → (s.dev.core core.val).fab = none →
    Effect (.fabRead core) s ((s.dev.setWord (Reg.DSPIO.FAB_STATUS core.val) 0).updCore core.val fun k => { k with fab := some false, fabSince := s.dev.clock }))
  ∧ (∀ s (core : Core), s.dev.pageOn (.dsp core) = true → (s.dev.core core.val).fab = none →
    Effect (.fabWrite core) s ((s.dev.setWord (Reg.DSPIO.FAB_STATUS core.val) 0).updCore core.val fun k => { k with fab := some true, fabSince := s.dev.clock }))
  ∧ (∀ s (core : Core), s.dev.pageOn (.dsp core) = true → 4 ≤ (s.dev.core core.val).waves.length →
    Effect (.waveformRequest core) s ((s.dev.setFlag (Reg.DSPIO.WR_STATUS_OVERRUN core.val) true).raise (.dsp core) 13))
  ∧ (∀ s (core : Core), s.dev.pageOn (.dsp core) = true → (s.dev.core core.val).waves.length < 4 →
    Effect (.waveformRequest core) s
      (let i := s.dev.fld (Reg.DSPIO.WR_STREAM_STREAM core.val)
       let st := (s.dev.core core.val).stream i
       let back := (st.wptr - BitVec.ofNat 11 (s.dev.fld (Reg.DSPIO.WR_INDEX_SLOT core.val))).toNat
       let p := if s.dev.pageOn .evb then s.dev.allocCtx 3 0 else (s.dev, none)
       p.1.updCore core.val fun k =>
         { k with waves := k.waves ++ [⟨i, p.1.fld (Reg.DSP.SRC_ADC core.val i), st.total + 2048 - back, p.1.fld (Reg.DSPIO.WR_N_N core.val), p.2⟩] }))
  ∧ (∀ s (core : Core), (s.dev.core core.val).waves = [] → Effect (.waveformRecordDone core) s s.dev)
  ∧ (∀ s (core : Core) w rest, (s.dev.core core.val).waves = w :: rest → s.dev.enabled (.dsp core) = true →
    ((s.dev.core core.val).stream w.stream).total + 2048 < w.first + w.n → Effect (.waveformRecordDone core) s s.dev)
  ∧ (∀ s (core : Core) w rest, s.dev.pageOn (.dsp core) = true → (s.dev.core core.val).waves = w :: rest → s.dev.enabled (.dsp core) = false →
    ((s.dev.core core.val).stream w.stream).total + 2048 < w.first + w.n →
    Effect (.waveformRecordDone core) s ((match w.ctx with | some i => s.dev.freeCtxAt i | none => s.dev).waveDone core.val 3))
  ∧ (∀ s (core : Core) w rest, s.dev.pageOn (.dsp core) = true → (s.dev.core core.val).waves = w :: rest →
    w.first + w.n ≤ ((s.dev.core core.val).stream w.stream).total + 2048 → s.dev.waveOutcome core.val w ≠ 0 →
    Effect (.waveformRecordDone core) s ((match w.ctx with | some i => s.dev.freeCtxAt i | none => s.dev).waveDone core.val (s.dev.waveOutcome core.val w)))
  ∧ (∀ s (core : Core) w rest i, s.dev.pageOn (.dsp core) = true → s.dev.pageOn .evb = true → (s.dev.core core.val).waves = w :: rest →
    w.first + w.n ≤ ((s.dev.core core.val).stream w.stream).total + 2048 → s.dev.waveOutcome core.val w = 0 → w.ctx = some i →
    Effect (.waveformRecordDone core) s
      (let p := s.dev.waveRecord core.val w
       ((p.1.closeCtx i).emit p.2).waveDone core.val 0))
  ∧ (∀ (d : Device) c w, w.n = 0 → d.waveOutcome c w = 5)
  ∧ (∀ (d : Device) c w, w.n ≠ 0 → (waveKeep (d.fmtEntry (d.fld Reg.EVB.OUT_FORMAT_ACTIVE)) = 0xFF → w.n ≤ 508) → w.ctx = none → d.waveOutcome c w = 2)
  ∧ (∀ (d : Device) c w i, w.n ≠ 0 → (waveKeep (d.fmtEntry (d.fld Reg.EVB.OUT_FORMAT_ACTIVE)) = 0xFF → w.n ≤ 508) → w.ctx = some i →
    w.first + 2048 < ((d.core c).stream w.stream).total + 2048 → d.waveOutcome c w = 1)

/-- What the host does to a core: RUN, halt, STEP and RESET_PC act on a core that no sequence has claimed, and are refused with event 10 on a claimed one (R331, R339); the breakpoint halts with cause 2
(R331); words of a halted core can be written, others are refused (R292), as its PC and its registers (R331); the scrub counts and marks words (R293).
Readings and choices of the model that it rests on: log entries 33 and 44. -/
def Obligations.DspHostAccess : Prop :=
  (∀ s (core : Core), s.dev.pageOn (.dsp core) = true → s.dev.enabled (.dsp core) = true → (s.dev.core core.val).claimed = false → s.dev.tim.dspClock = true →
    (s.dev.core core.val).run = .halted →
    Effect (.dspRun core) s ((s.dev.setFlag (Reg.DSP.CTRL_RUN core.val) true).updCore core.val fun k => { k with run := .running }))
  ∧ (∀ s (core : Core), s.dev.pageOn (.dsp core) = true → (s.dev.core core.val).claimed = false → s.dev.tim.dspClock = true →
    (s.dev.core core.val).run ≠ .halted ∨ s.dev.enabled (.dsp core) = false →
    Effect (.dspRun core) s (s.dev.setFlag (Reg.DSP.CTRL_RUN core.val) true))
  ∧ (∀ s (core : Core), s.dev.pageOn (.dsp core) = true → s.dev.tim.dspClock = false →
    Effect (.dspRun core) s (s.dev.raise (.dsp core) 10) ∧ Effect (.dspStep core) s (s.dev.raise (.dsp core) 10))
  ∧ (∀ s (core : Core), s.dev.pageOn (.dsp core) = true → (s.dev.core core.val).claimed = true →
    Effect (.dspRun core) s (s.dev.raise (.dsp core) 10) ∧ Effect (.dspHaltRequest core) s (s.dev.raise (.dsp core) 10) ∧ Effect (.dspStep core) s (s.dev.raise (.dsp core) 10)
      ∧ Effect (.dspResetPc core) s (s.dev.raise (.dsp core) 10))
  ∧ (∀ s (core : Core), s.dev.pageOn (.dsp core) = true → (s.dev.core core.val).claimed = false →
    (s.dev.core core.val).run = .running ∨ (s.dev.core core.val).run = .waiting ∨ (s.dev.core core.val).run = .draining → (s.dev.core core.val).fab = none →
    Effect (.dspHaltRequest core) s ((s.dev.setFlag (Reg.DSP.CTRL_RUN core.val) false).haltCore core.val 0))
  ∧ (∀ s (core : Core), s.dev.pageOn (.dsp core) = true → (s.dev.core core.val).claimed = false → (s.dev.core core.val).run = .running → (s.dev.core core.val).fab.isSome = true →
    Effect (.dspHaltRequest core) s ((s.dev.setFlag (Reg.DSP.CTRL_RUN core.val) false).updCore core.val fun k => { k with stopAsked := true }))
  ∧ (∀ s (core : Core), s.dev.pageOn (.dsp core) = true → (s.dev.core core.val).claimed = false → (s.dev.core core.val).run = .halted ∨ (s.dev.core core.val).run = .fault →
    Effect (.dspHaltRequest core) s (s.dev.setFlag (Reg.DSP.CTRL_RUN core.val) false))
  ∧ (∀ s (core : Core), s.dev.pageOn (.dsp core) = true → (s.dev.core core.val).claimed = false → s.dev.tim.dspClock = true → (s.dev.core core.val).run = .halted →
    (s.dev.core core.val).fab = none →
    Effect (.dspStep core) s
      (let d := s.dev.dspMeet core.val (decodeDsp ((s.dev.core core.val).pmemWord (s.dev.core core.val).pc.toNat))
       if (d.core core.val).run = .fault then d else d.haltCore core.val 3))
  ∧ (∀ s (core : Core), s.dev.pageOn (.dsp core) = true → (s.dev.core core.val).claimed = false → (s.dev.core core.val).run = .halted →
    Effect (.dspResetPc core) s
      (s.dev.updCore core.val fun k => { k with rf := [], rf1 := [], rf2 := [], ld := 0, exc := false, loops := [], loopOld := none, pc := 0, slot := none }))
  ∧ (∀ s (core : Core), s.dev.pageOn (.dsp core) = true → (s.dev.core core.val).run = .running → (s.dev.core core.val).fab = none → s.dev.breaks core.val = true →
    Effect (.dspBreakpoint core) s (s.dev.haltCore core.val 2))
  ∧ (∀ s (core : Core) (index : BitVec 14) data, s.dev.pageOn (.dsp core) = true → (s.dev.core core.val).run = .halted →
    Effect (.dspPmemWrite core index data) s (s.dev.updCore core.val fun k => k.setPmem index.toNat data))
  ∧ (∀ s (core : Core) (index : BitVec 14) data, s.dev.pageOn (.dsp core) = true → (s.dev.core core.val).run ≠ .halted →
    Effect (.dspPmemWrite core index data) s (s.dev.raise (.dsp core) 10))
  ∧ (∀ s (core : Core) data, s.dev.pageOn (.dsp core) = true → (s.dev.core core.val).claimed = false → (s.dev.core core.val).run = .halted →
    Effect (.dspRegDataWrite core true data) s (s.dev.updCore core.val fun k => { k with pc := data.setWidth 14, slot := none }))
  ∧ (∀ s (core : Core) data r, s.dev.pageOn (.dsp core) = true → (s.dev.core core.val).claimed = false → (s.dev.core core.val).run = .halted →
    regOfCode (s.dev.fld (Reg.DSP.REG_ADDR_CODE core.val)) = some r →
    Effect (.dspRegDataWrite core false data) s (s.dev.updCore core.val fun k => k.now fun f => f.write r (data.setWidth 24)))
  ∧ (∀ s (core : Core) data, s.dev.pageOn (.dsp core) = true → (s.dev.core core.val).claimed = false → (s.dev.core core.val).run = .halted →
    regOfCode (s.dev.fld (Reg.DSP.REG_ADDR_CODE core.val)) = none → Effect (.dspRegDataWrite core false data) s s.dev)
  ∧ (∀ s (core : Core) pc data, s.dev.pageOn (.dsp core) = true → (s.dev.core core.val).claimed = true ∨ (s.dev.core core.val).run ≠ .halted →
    Effect (.dspRegDataWrite core pc data) s (s.dev.raise (.dsp core) 10))
  ∧ (∀ s (core : Core) bad, s.dev.pageOn (.dsp core) = true →
    Effect (.dspMemScrub core [] bad) s (s.dev.updCore core.val fun k => { k with bad := k.bad ++ bad.filter fun b => !k.bad.contains b }))
  ∧ (∀ s (core : Core) a rest bad, s.dev.pageOn (.dsp core) = true →
    Effect (.dspMemScrub core (a :: rest) bad) s
      (((s.dev.count (Reg.DSP.CNT_MEM_CE core.val) (rest.length + 1)).raise (.dsp core) 11).updCore core.val fun k => { k with bad := k.bad ++ bad.filter fun b => !k.bad.contains b }))

/-- The queue of commands is first in, first out: a step takes the command at the front and is what that command does with the rest of the queue.
Commands that arrive in one control-clock cycle join it none lost, register accesses by PCI Express before those by slow control and those before the ones of the cores (R31).
The queue itself, the clause on the empty queue, one coarse tick, and the place of the accesses among the other commands of a cycle are the model's choices: log entries 11, 14 and 42. -/
def Obligations.StepTakesTheFrontCommand : Prop :=
  (∀ (c : Instr) (s : State), step { s with pending := c :: s.pending } = exec c s)
  ∧ (∀ (c : Instr) (s : State) rest, s.pending = c :: rest → step s = exec c { s with pending := rest })
  ∧ (∀ s : State, s.pending = [] → step s = .next { s with dev := s.dev.tick.settle })
  ∧ (∀ (s : State) cs, (s.arrive cs).dev = s.dev ∧ (s.arrive cs).pending = s.pending ++ arrivalOrder cs ∧ (arrivalOrder cs).Perm cs
      ∧ (arrivalOrder cs).Pairwise (fun a b => ∀ r q, accessRoute a = some r → accessRoute b = some q → Route.rank r ≤ Route.rank q)
      ∧ ∀ n, (arrivalOrder cs).filter (fun c => (accessRoute c).map Route.rank == some n) = cs.filter fun c => (accessRoute c).map Route.rank == some n)

/-- Every command answers a next state, in every state, and leaves the commands that wait behind it as they are; and so every step answers a next state, with the queue one command shorter, or empty as it was.
Readings and choices of the model that it rests on: log entries 14, 96 and 104. -/
def Obligations.EveryCommandAnswers : Prop :=
  (∀ (c : Instr) (s : State), ∃ t, exec c s = .next t ∧ t.pending = s.pending)
  ∧ (∀ s : State, ∃ t, step s = .next t ∧ t.pending = s.pending.tail)

/-- What follows the effect of a command leaves everything as the effect left it, but for what `Leaves` names: logs that take entries, messages and records that move on, frames marked, ADCs that may no longer run stopped,
the service level (R560), alarms answered by their policies (R514); a service step that has lost its conditions first ends its sequence with code 6 (R349).
A choice of the model that it rests on: log entry 97. -/
def Obligations.WhatFollowsACommand : Prop :=
  (∀ c s e, Effect c s e → e.serviceRun = none → Completes c s fun d => Leaves [] (fun _ => false) [] e d)
  ∧ (∀ (d : Device) r v, d.sta.run = some r → r.phase = .service v → d.serviceCond v.dies = false → d.settle = (d.endSeq 6).settle)

/-- After every step, from every state: the event controller has seen every source, IRQ_N and INTA follow the asserted sources and vectors (R480, R483, R484), every asserted vector that a message can be sent for is
in service or waits masked in its pending bit (R482), no alarm waits for its policy (R517), the service level above S0 is 2 exactly when no condition is missing (R560), and no ADC runs that may not (R155).
A choice of the model that it rests on: log entry 97. -/
def Obligations.EveryStepSettles : Prop := ∀ s t : State, step s = .next t → Settled t.dev

/-- Right after power is applied: power-on reset is in force, no rail is good, no domain is on, no event is set, no command waits, every register holds its reset word, what holds between commands
holds; INJCAL gives the nominal slope (R491), and the master trims, TRIM_STEP and the cores' registers are at their reset values (R503, R79, R295).
Readings and choices of the model that it rests on: log entries 1 and 45. -/
def Obligations.ResetState : Prop :=
  State.reset.pending = [] ∧ State.reset.dev.pwr.por = true ∧ (∀ i, State.reset.dev.domOn i = false) ∧ (∀ p, State.reset.dev.pageOn p = false) ∧ (∀ r, State.reset.dev.railGood r = false)
  ∧ (∀ p, State.reset.dev.sticky p = 0) ∧ (∀ a, State.reset.dev.word a = resetWord a) ∧ Settled State.reset.dev
  ∧ (∀ k, k < 4 → State.reset.dev.fld (Reg.SEA1.INJCAL_SLOPE k) = 26844 ∧ State.reset.dev.fld (Reg.SEA1.INJCAL_ZERO k) = 0)
  ∧ (∀ i, State.reset.dev.masterTrim i = 0x10) ∧ (∀ n, State.reset.dev.trimStep n = 1) ∧ (∀ c r, (State.reset.dev.core c).rf.read r = 0)
  ∧ State.reset.dev.fld Reg.HLT.SERVICE_LEVEL_LEVEL = 0

/-- The registers of a core (R295): a 24-bit read of a narrower register zero-extends it, that of an I register sign-extends it from bit 15; a write takes the low bits of the word (R296: of SR those below
LD); a write to a part of an accumulator leaves its other parts, and no write changes another register; at reset every register is 0. -/
def Obligations.CoreRegisterFile : Prop :=
  (∀ (f : RegFile) (v : BitVec 24) n, (f.write (.d n) v).read (.d n) = v)
  ∧ (∀ (f : RegFile) (v : BitVec 24) n, (f.write (.p n) v).read (.p n) = (v.setWidth 16).setWidth 24 ∧ (f.write (.b n) v).read (.b n) = (v.setWidth 16).setWidth 24)
  ∧ (∀ (f : RegFile) (v : BitVec 24) n, (f.write (.i n) v).read (.i n) = (v.setWidth 16).signExtend 24)
  ∧ (∀ (f : RegFile) (v : BitVec 24) n, (f.write (.acT n) v).read (.acT n) = v ∧ (f.write (.acM n) v).read (.acM n) = v ∧ (f.write (.acB n) v).read (.acB n) = (v.setWidth 8).setWidth 24)
  ∧ (∀ (f : RegFile) (v : BitVec 24), (f.write .lc v).read .lc = (v.setWidth 16).setWidth 24 ∧ (f.write .lb v).read .lb = (v.setWidth 14).setWidth 24
      ∧ (f.write .le v).read .le = (v.setWidth 14).setWidth 24 ∧ (f.write .spc v).read .spc = (v.setWidth 14).setWidth 24 ∧ (f.write .lr v).read .lr = (v.setWidth 14).setWidth 24
      ∧ (f.write .ssr v).read .ssr = (v.setWidth 12).setWidth 24 ∧ (f.write .sr v).read .sr = (v.setWidth 8).setWidth 24)
  ∧ (∀ (f : RegFile) (v : BitVec 24) r q, q ≠ r → (f.write r v).read q = f.read q)
  ∧ (∀ c r, (State.reset.dev.core c).rf.read r = 0 ∧ (State.reset.dev.core c).source r = 0)

/-- The views of the stream memory (R289): a load from the value view returns the slot's VALUE, sign-extended, when its VALID bit is 1, and 0x80_0000 when it is 0; a load from the flag view
returns bits [31:16] of the sample word. -/
def Obligations.StreamMemoryViews : Prop :=
  (∀ (d : Device) c (i : Nat), i < 0x4000 → ((d.core c).smemWord i).getLsbD 31 = true →
    d.dspLoad c (BitVec.ofNat 16 (0x4000 + i)) = (d, (((d.core c).smemWord i).extractLsb' 0 16).signExtend 24))
  ∧ (∀ (d : Device) c (i : Nat), i < 0x4000 → ((d.core c).smemWord i).getLsbD 31 = false → d.dspLoad c (BitVec.ofNat 16 (0x4000 + i)) = (d, 0x800000))
  ∧ (∀ (d : Device) c (i : Nat), i < 0x4000 →
    ∃ v : BitVec 24, d.dspLoad c (BitVec.ofNat 16 (0x8000 + i)) = (d, v) ∧ v.extractLsb' 0 16 = ((d.core c).smemWord i).extractLsb' 16 16 ∧ v.extractLsb' 16 8 = 0)

/-- The delays of a correction record (R101): D(0) is 0, D(1) to D(64) are the record's words, and D(65) to D(80) go on by sixteenths of D(64) less D(48). -/
def Obligations.DelaysOfARecord : Prop :=
  (∀ (d : Device) cluster, d.tapDelay cluster 0 = 0)
  ∧ (∀ (d : Device) cluster n, 1 ≤ n → n ≤ 64 → d.tapDelay cluster n = (d.corrWord cluster (n - 1)).toNat)
  ∧ (∀ (d : Device) cluster n, 65 ≤ n → n ≤ 80 →
    d.tapDelay cluster n = d.tapDelay cluster 64 + Int.fdiv (((n : Int) - 64) * (d.tapDelay cluster 64 - d.tapDelay cluster 48)) 16)

/-- A register write under seal (R493): of a register whose fields do not overlap, each RWS field keeps its value while the domain is not UNSEALED, each RW field takes what is written; the write is refused,
counted and reported exactly when it carries another value for some RWS field.
A choice of the model that it rests on: log entry 34. -/
def Obligations.SealedFieldsKeepTheirValues : Prop :=
  (∀ (fields : List FieldD) (old data : W32) f, fields.Pairwise (fun a b => a.lsb + a.width ≤ b.lsb ∨ b.lsb + b.width ≤ a.lsb) → (∀ g ∈ fields, g.lsb + g.width ≤ 32) → f ∈ fields →
    (f.acc = .rws → f.of (writeWord false fields old data) = f.of old) ∧ (f.acc = .rw → f.of (writeWord false fields old data) = f.of data)
      ∧ (f.acc = .ro → f.of (writeWord false fields old data) = f.of old))
  ∧ (∀ (d : Device) route addr fields data, d.unsealed = false → (∀ f ∈ fields, f.acc = .rws → f.of data = f.of (d.word addr)) →
    d.writeReg route addr fields data = d.setWord addr (writeWord false fields (d.word addr) data))
  ∧ (∀ (d : Device) route addr fields data f, d.unsealed = false → f ∈ fields → f.acc = .rws → f.of data ≠ f.of (d.word addr) → addr ≠ Reg.SEA0.CNT_REFUSED_WRITE →
    (d.writeReg route addr fields data).wrRefused = true
      ∧ (d.writeReg route addr fields data).word Reg.SEA0.CNT_REFUSED_WRITE = counted (d.word Reg.SEA0.CNT_REFUSED_WRITE) 1
      ∧ (d.writeReg route addr fields data).sec.alarms = d.sec.alarms ++ [0])
  ∧ (∀ (d : Device) route addr fields data, d.unsealed = true → d.writeReg route addr fields data = d.setWord addr (writeWord true fields (d.word addr) data))

/-- The arithmetic of a core (R298): an exact result that fits is written with no flag; one that does not is written modulo 2⁵⁶ with V and OV, or clamped by its sign with V and SAT under S; Z, N and X are those of the value
written; rounding leaves a multiple of 2²⁴ no more than 2²³ away (R311); EXP counts at least one leading sign bit; a circular step stays in its buffer (R300).
A choice of the model that it rests on: log entry 82. -/
def Obligations.CoreArithmetic : Prop :=
  (∀ s (x : Int), -(2 ^ 55 : Int) ≤ x → x < 2 ^ 55 → (fitAcc s x).value.toInt = x ∧ (fitAcc s x).v = false ∧ (fitAcc s x).ov = false ∧ (fitAcc s x).sat = false)
  ∧ (∀ x : Int, (x < -(2 ^ 55 : Int) ∨ (2 ^ 55 : Int) ≤ x) → fitAcc false x = { value := BitVec.ofInt 56 x, v := true, ov := true, sat := false })
  ∧ (∀ x : Int, (2 ^ 55 : Int) ≤ x → fitAcc true x = { value := 0x7FFFFFFFFFFFFF, v := true, ov := false, sat := true })
  ∧ (∀ x : Int, x < -(2 ^ 55 : Int) → fitAcc true x = { value := 0x80000000000000, v := true, ov := false, sat := true })
  ∧ (∀ (f : RegFile) r, (f.accFlags r).srBit 0 = (r.value == 0) ∧ (f.accFlags r).srBit 1 = decide (r.value.toInt < 0) ∧ (f.accFlags r).srBit 2 = r.v
      ∧ (f.accFlags r).srBit 3 = decide (r.value.toInt < -(2 ^ 47 : Int) ∨ (2 ^ 47 : Int) ≤ r.value.toInt)
      ∧ (f.accFlags r).srBit 4 = (f.srBit 4 || r.ov) ∧ (f.accFlags r).srBit 5 = (f.srBit 5 || r.sat) ∧ (f.accFlags r).srBit 6 = f.srBit 6 ∧ (f.accFlags r).srBit 7 = f.srBit 7
      ∧ ∀ k, k ≠ 0x2C → (f.accFlags r).get k = f.get k)
  ∧ (macResult .mac false 0x7FF00000000000 0x400000 0x400000 = { value := 0x80000000000000, v := true, ov := true, sat := false })
  ∧ (macResult .mac true 0x7FF00000000000 0x400000 0x400000 = { value := 0x7FFFFFFFFFFFFF, v := true, ov := false, sat := true })
  ∧ (∀ x : Int, roundTo24 x % 16777216 = 0 ∧ roundTo24 x - x ≤ 8388608 ∧ x - roundTo24 x < 8388608)
  ∧ (∀ a : BitVec 56, 1 ≤ leadingSigns a ∧ leadingSigns a ≤ 56)
  ∧ (∀ (p b : BitVec 16) (s : Int), b.toNat / 2 ^ 14 = 0 ∨ b.toNat / 2 ^ 14 = 3 → stepPtr p s b = p + BitVec.ofInt 16 s)
  ∧ (∀ (p b : BitVec 16) (s : Int), b.toNat / 2 ^ 14 = 1 → b.toNat % 2 ^ 14 ≠ 0 →
      (stepPtr p s b).toNat / 2 ^ ceilLog2 (b.toNat % 2 ^ 14) = p.toNat / 2 ^ ceilLog2 (b.toNat % 2 ^ 14)
        ∧ (stepPtr p s b).toNat % 2 ^ ceilLog2 (b.toNat % 2 ^ 14) < b.toNat % 2 ^ 14)
end

