-- ==== Sys2Proof/Laws/Dispatch.lean ====
section
/-! SUPPORT. Every command's meaning is an effect on the device followed by `settle`. -/

namespace Sys2Proof.Machine

/-- The command's meaning is an effect on the device: it answers a next state and does not touch the queue. -/
def RunsOn (c : Instr) : Prop := ∀ s, ∃ f, exec c s = run f s

theorem runsOn_op {c : Instr} (core : Core) (op : DspOp) (h : ∀ s, exec c s = execOp core op s) : RunsOn c := fun s => ⟨_, h s⟩

theorem runsOn_registerWrite (route_ : Route) (addr_ : RegAddr) (data_ : W32) : RunsOn (.registerWrite route_ addr_ data_) := fun s => ⟨_, show execRegisterWrite route_ addr_ data_ s = run _ s from rfl⟩
theorem runsOn_rwaWrite (route_ : Route) (mark_ : Option (Fin 4)) (addr_ : RegAddr) (data_ : W32) : RunsOn (.rwaWrite route_ mark_ addr_ data_) := fun s => ⟨_, show execRwaWrite route_ mark_ addr_ data_ s = run _ s from rfl⟩
theorem runsOn_latchedPairRead (route_ : Route) (addr_ : RegAddr) : RunsOn (.latchedPairRead route_ addr_) := fun s => ⟨_, show execLatchedPairRead route_ addr_ s = run _ s from rfl⟩
theorem runsOn_pageEnableClear (page_ : Page) : RunsOn (.pageEnableClear page_) := fun s => ⟨_, show execPageEnableClear page_ s = run _ s from rfl⟩
theorem runsOn_pageEnableSet (page_ : Page) : RunsOn (.pageEnableSet page_) := fun s => ⟨_, show execPageEnableSet page_ s = run _ s from rfl⟩
theorem runsOn_pageDrainDone (page_ : Page) : RunsOn (.pageDrainDone page_) := fun s => ⟨_, show execPageDrainDone page_ s = run _ s from rfl⟩
theorem runsOn_pageAbort (page_ : Page) : RunsOn (.pageAbort page_) := fun s => ⟨_, show execPageAbort page_ s = run _ s from rfl⟩
theorem runsOn_pageAbortDone (page_ : Page) : RunsOn (.pageAbortDone page_) := fun s => ⟨_, show execPageAbortDone page_ s = run _ s from rfl⟩
theorem runsOn_pageSoftReset (page_ : Page) : RunsOn (.pageSoftReset page_) := fun s => ⟨_, show execPageSoftReset page_ s = run _ s from rfl⟩
theorem runsOn_evSetWrite (page_ : Page) (bits_ : W32) : RunsOn (.evSetWrite page_ bits_) := fun s => ⟨_, show execEvSetWrite page_ bits_ s = run _ s from rfl⟩
theorem runsOn_discriminatorLeadingEdge (pix_ : Pix) (contest_ : Bool) (edge_ : Bool) (start_ : BitVec 80) : RunsOn (.discriminatorLeadingEdge pix_ contest_ edge_ start_) := fun s => ⟨_, show execDiscriminatorLeadingEdge pix_ contest_ edge_ start_ s = run _ s from rfl⟩
theorem runsOn_discriminatorTrailingEdge (pix_ : Pix) (edge_ : Bool) (stop_ : BitVec 80) : RunsOn (.discriminatorTrailingEdge pix_ edge_ stop_) := fun s => ⟨_, show execDiscriminatorTrailingEdge pix_ edge_ stop_ s = run _ s from rfl⟩
theorem runsOn_totSaturation (pix_ : Pix) : RunsOn (.totSaturation pix_) := fun s => ⟨_, show execTotSaturation pix_ s = run _ s from rfl⟩
theorem runsOn_converterFree (die_ : Die) (cluster_ : Fin 8192) : RunsOn (.converterFree die_ cluster_) := fun s => ⟨_, show execConverterFree die_ cluster_ s = run _ s from rfl⟩
theorem runsOn_pixelRearm (pix_ : Pix) : RunsOn (.pixelRearm pix_) := fun s => ⟨_, show execPixelRearm pix_ s = run _ s from rfl⟩
theorem runsOn_regionAcceptHit (die_ : Die) (region_ : Region) : RunsOn (.regionAcceptHit die_ region_) := fun s => ⟨_, show execRegionAcceptHit die_ region_ s = run _ s from rfl⟩
theorem runsOn_flowControlPinUpdate : RunsOn (.flowControlPinUpdate) := fun s => ⟨_, show execFlowControlPinUpdate s = run _ s from rfl⟩
theorem runsOn_watermarkWrite (mark_ : Watermark) (data_ : W32) : RunsOn (.watermarkWrite mark_ data_) := fun s => ⟨_, show execWatermarkWrite mark_ data_ s = run _ s from rfl⟩
theorem runsOn_testHitOffer (die_ : Die) (region_ : Region) (data_ : W32) : RunsOn (.testHitOffer die_ region_ data_) := fun s => ⟨_, show execTestHitOffer die_ region_ data_ s = run _ s from rfl⟩
theorem runsOn_bandGrant (die_ : Die) (band_ : Fin 8) : RunsOn (.bandGrant die_ band_) := fun s => ⟨_, show execBandGrant die_ band_ s = run _ s from rfl⟩
theorem runsOn_channelMerge (die_ : Die) (chan_ : Fin 4) (first_ : Bool) : RunsOn (.channelMerge die_ chan_ first_) := fun s => ⟨_, show execChannelMerge die_ chan_ first_ s = run _ s from rfl⟩
theorem runsOn_d2dWordReceive (die_ : Die) (chan_ : Fin 4) (arrived_ : Option (BitVec 42)) (finding_ : ReadFinding) : RunsOn (.d2dWordReceive die_ chan_ arrived_ finding_) := fun s => ⟨_, show execD2dWordReceive die_ chan_ arrived_ finding_ s = run _ s from rfl⟩
theorem runsOn_handshakeWatchdogReset (place_ : WatchdogPlace) : RunsOn (.handshakeWatchdogReset place_) := fun s => ⟨_, show execHandshakeWatchdogReset place_ s = run _ s from rfl⟩
theorem runsOn_concentratorWatchdogReset (chan_ : Fin 8) (receiver_ : Fin 16) : RunsOn (.concentratorWatchdogReset chan_ receiver_) := fun s => ⟨_, show execConcentratorWatchdogReset chan_ receiver_ s = run _ s from rfl⟩
theorem runsOn_regionFlush (die_ : Die) (region_ : Region) : RunsOn (.regionFlush die_ region_) := fun s => ⟨_, show execRegionFlush die_ region_ s = run _ s from rfl⟩
theorem runsOn_channelFlush (die_ : Die) (chans_ : BitVec 4) : RunsOn (.channelFlush die_ chans_) := fun s => ⟨_, show execChannelFlush die_ chans_ s = run _ s from rfl⟩
theorem runsOn_channelFlushDone (die_ : Die) (chan_ : Fin 4) (truncated_ : Bool) : RunsOn (.channelFlushDone die_ chan_ truncated_) := fun s => ⟨_, show execChannelFlushDone die_ chan_ truncated_ s = run _ s from rfl⟩
theorem runsOn_channelRestart (die_ : Die) (chans_ : BitVec 4) : RunsOn (.channelRestart die_ chans_) := fun s => ⟨_, show execChannelRestart die_ chans_ s = run _ s from rfl⟩
theorem runsOn_channelRestartCheck (die_ : Die) (chan_ : Fin 4) : RunsOn (.channelRestartCheck die_ chan_) := fun s => ⟨_, show execChannelRestartCheck die_ chan_ s = run _ s from rfl⟩
theorem runsOn_bandEnableWrite (die_ : Die) (data_ : W32) : RunsOn (.bandEnableWrite die_ data_) := fun s => ⟨_, show execBandEnableWrite die_ data_ s = run _ s from rfl⟩
theorem runsOn_trefFreqMeasure (khz_ : BitVec 18) : RunsOn (.trefFreqMeasure khz_) := fun s => ⟨_, show execTrefFreqMeasure khz_ s = run _ s from rfl⟩
theorem runsOn_trefEdgeResume : RunsOn (.trefEdgeResume) := fun s => ⟨_, show execTrefEdgeResume s = run _ s from rfl⟩
theorem runsOn_trefGap : RunsOn (.trefGap) := fun s => ⟨_, show execTrefGap s = run _ s from rfl⟩
theorem runsOn_lockAcquired (plls_ : BitVec 3) : RunsOn (.lockAcquired plls_) := fun s => ⟨_, show execLockAcquired plls_ s = run _ s from rfl⟩
theorem runsOn_pllLossOfLock (pll_ : Fin 3) : RunsOn (.pllLossOfLock pll_) := fun s => ⟨_, show execPllLossOfLock pll_ s = run _ s from rfl⟩
theorem runsOn_voteError (pll_ : Fin 3) : RunsOn (.voteError pll_) := fun s => ⟨_, show execVoteError pll_ s = run _ s from rfl⟩
theorem runsOn_pllRestart : RunsOn (.pllRestart) := fun s => ⟨_, show execPllRestart s = run _ s from rfl⟩
theorem runsOn_dllLockAchieved (die_ : Die) : RunsOn (.dllLockAchieved die_) := fun s => ⟨_, show execDllLockAchieved die_ s = run _ s from rfl⟩
theorem runsOn_dllUnlock (die_ : Die) : RunsOn (.dllUnlock die_) := fun s => ⟨_, show execDllUnlock die_ s = run _ s from rfl⟩
theorem runsOn_syncEdge : RunsOn (.syncEdge) := fun s => ⟨_, show execSyncEdge s = run _ s from rfl⟩
theorem runsOn_syncLoadTick (phase_ : BitVec 16) : RunsOn (.syncLoadTick phase_) := fun s => ⟨_, show execSyncLoadTick phase_ s = run _ s from rfl⟩
theorem runsOn_frameStart (phase_ : BitVec 16) : RunsOn (.frameStart phase_) := fun s => ⟨_, show execFrameStart phase_ s = run _ s from rfl⟩
theorem runsOn_corrDataWrite (route_ : Route) (data_ : W32) : RunsOn (.corrDataWrite route_ data_) := fun s => ⟨_, show execCorrDataWrite route_ data_ s = run _ s from rfl⟩
theorem runsOn_tcuConvertHit (receiver_ : Fin 16) : RunsOn (.tcuConvertHit receiver_) := fun s => ⟨_, show execTcuConvertHit receiver_ s = run _ s from rfl⟩
theorem runsOn_evbAcceptHit (full_ : Bool) : RunsOn (.evbAcceptHit full_) := fun s => ⟨_, show execEvbAcceptHit full_ s = run _ s from rfl⟩
theorem runsOn_hitRelease (full_ : Bool) : RunsOn (.hitRelease full_) := fun s => ⟨_, show execHitRelease full_ s = run _ s from rfl⟩
theorem runsOn_frameHeaderQueue : RunsOn (.frameHeaderQueue) := fun s => ⟨_, show execFrameHeaderQueue s = run _ s from rfl⟩
theorem runsOn_alignmentRecordQueue : RunsOn (.alignmentRecordQueue) := fun s => ⟨_, show execAlignmentRecordQueue s = run _ s from rfl⟩
theorem runsOn_lateRecordTimeout : RunsOn (.lateRecordTimeout) := fun s => ⟨_, show execLateRecordTimeout s = run _ s from rfl⟩
theorem runsOn_frameContextRetry : RunsOn (.frameContextRetry) := fun s => ⟨_, show execFrameContextRetry s = run _ s from rfl⟩
theorem runsOn_contextRelease (index_ : BitVec 10) : RunsOn (.contextRelease index_) := fun s => ⟨_, show execContextRelease index_ s = run _ s from rfl⟩
theorem runsOn_quotaWrite (cls_ : Fin 8) (data_ : W32) : RunsOn (.quotaWrite cls_ data_) := fun s => ⟨_, show execQuotaWrite cls_ data_ s = run _ s from rfl⟩
theorem runsOn_ctxDataRead : RunsOn (.ctxDataRead) := fun s => ⟨_, show execCtxDataRead s = run _ s from rfl⟩
theorem runsOn_tableStagingWrite (table_ : StagedTable) (high_ : Bool) (data_ : W32) : RunsOn (.tableStagingWrite table_ high_ data_) := fun s => ⟨_, show execTableStagingWrite table_ high_ data_ s = run _ s from rfl⟩
theorem runsOn_fmtCommit : RunsOn (.fmtCommit) := fun s => ⟨_, show execFmtCommit s = run _ s from rfl⟩
theorem runsOn_condCommit : RunsOn (.condCommit) := fun s => ⟨_, show execCondCommit s = run _ s from rfl⟩
theorem runsOn_conditionEvaluation : RunsOn (.conditionEvaluation) := fun s => ⟨_, show execConditionEvaluation s = run _ s from rfl⟩
theorem runsOn_swTrigWrite (data_ : W32) : RunsOn (.swTrigWrite data_) := fun s => ⟨_, show execSwTrigWrite data_ s = run _ s from rfl⟩
theorem runsOn_trigInEdge (line_ : Fin 2) (rising_ : Bool) (hold_ : Nat) : RunsOn (.trigInEdge line_ rising_ hold_) := fun s => ⟨_, show execTrigInEdge line_ rising_ hold_ s = run _ s from rfl⟩
theorem runsOn_triggerDecision : RunsOn (.triggerDecision) := fun s => ⟨_, show execTriggerDecision s = run _ s from rfl⟩
theorem runsOn_rearmExpire (cond_ : Fin 64) : RunsOn (.rearmExpire cond_) := fun s => ⟨_, show execRearmExpire cond_ s = run _ s from rfl⟩
theorem runsOn_trigOutPulseEnd : RunsOn (.trigOutPulseEnd) := fun s => ⟨_, show execTrigOutPulseEnd s = run _ s from rfl⟩
theorem runsOn_triggerWindowClose : RunsOn (.triggerWindowClose) := fun s => ⟨_, show execTriggerWindowClose s = run _ s from rfl⟩
theorem runsOn_captureDone : RunsOn (.captureDone) := fun s => ⟨_, show execCaptureDone s = run _ s from rfl⟩
theorem runsOn_maskTestInterval (test_ : Fin 8) : RunsOn (.maskTestInterval test_) := fun s => ⟨_, show execMaskTestInterval test_ s = run _ s from rfl⟩
theorem runsOn_maskRelease : RunsOn (.maskRelease) := fun s => ⟨_, show execMaskRelease s = run _ s from rfl⟩
theorem runsOn_feCtrlWrite (route_ : Route) (die_ : Die) (data_ : W32) : RunsOn (.feCtrlWrite route_ die_ data_) := fun s => ⟨_, show execFeCtrlWrite route_ die_ data_ s = run _ s from rfl⟩
theorem runsOn_vthWrite (die_ : Die) (data_ : W32) : RunsOn (.vthWrite die_ data_) := fun s => ⟨_, show execVthWrite die_ data_ s = run _ s from rfl⟩
theorem runsOn_gainLgWrite (die_ : Die) (word_ : Fin 4) (data_ : W32) : RunsOn (.gainLgWrite die_ word_ data_) := fun s => ⟨_, show execGainLgWrite die_ word_ data_ s = run _ s from rfl⟩
theorem runsOn_gainApply (die_ : Die) (region_ : Region) : RunsOn (.gainApply die_ region_) := fun s => ⟨_, show execGainApply die_ region_ s = run _ s from rfl⟩
theorem runsOn_gainTransitionEnd (die_ : Die) (region_ : Region) : RunsOn (.gainTransitionEnd die_ region_) := fun s => ⟨_, show execGainTransitionEnd die_ region_ s = run _ s from rfl⟩
theorem runsOn_tblDataWrite (route_ : Route) (die_ : Die) (data_ : W32) : RunsOn (.tblDataWrite route_ die_ data_) := fun s => ⟨_, show execTblDataWrite route_ die_ data_ s = run _ s from rfl⟩
theorem runsOn_tblDataRead (die_ : Die) : RunsOn (.tblDataRead die_) := fun s => ⟨_, show execTblDataRead die_ s = run _ s from rfl⟩
theorem runsOn_statDataRead (die_ : Die) : RunsOn (.statDataRead die_) := fun s => ⟨_, show execStatDataRead die_ s = run _ s from rfl⟩
theorem runsOn_trimApply (pix_ : Pix) : RunsOn (.trimApply pix_) := fun s => ⟨_, show execTrimApply pix_ s = run _ s from rfl⟩
theorem runsOn_tblFillGo (route_ : Route) (die_ : Die) (data_ : W32) : RunsOn (.tblFillGo route_ die_ data_) := fun s => ⟨_, show execTblFillGo route_ die_ data_ s = run _ s from rfl⟩
theorem runsOn_tblFillDone (die_ : Die) : RunsOn (.tblFillDone die_) := fun s => ⟨_, show execTblFillDone die_ s = run _ s from rfl⟩
theorem runsOn_injStart (die_ : Die) : RunsOn (.injStart die_) := fun s => ⟨_, show execInjStart die_ s = run _ s from rfl⟩
theorem runsOn_injStop (die_ : Die) : RunsOn (.injStop die_) := fun s => ⟨_, show execInjStop die_ s = run _ s from rfl⟩
theorem runsOn_injPulse (die_ : Die) : RunsOn (.injPulse die_) := fun s => ⟨_, show execInjPulse die_ s = run _ s from rfl⟩
theorem runsOn_injSenseSample (die_ : Die) (codeA_ : BitVec 16) (codeB_ : BitVec 16) : RunsOn (.injSenseSample die_ codeA_ codeB_) := fun s => ⟨_, show execInjSenseSample die_ codeA_ codeB_ s = run _ s from rfl⟩
theorem runsOn_checkSlotStart (die_ : Die) : RunsOn (.checkSlotStart die_) := fun s => ⟨_, show execCheckSlotStart die_ s = run _ s from rfl⟩
theorem runsOn_checkPixelReconnect (pix_ : Pix) : RunsOn (.checkPixelReconnect pix_) := fun s => ⟨_, show execCheckPixelReconnect pix_ s = run _ s from rfl⟩
theorem runsOn_checkSlotEnd (die_ : Die) (found_ : List (Pix × Option Nat)) : RunsOn (.checkSlotEnd die_ found_) := fun s => ⟨_, show execCheckSlotEnd die_ found_ s = run _ s from rfl⟩
theorem runsOn_clearStatus (die_ : Die) : RunsOn (.clearStatus die_) := fun s => ⟨_, show execClearStatus die_ s = run _ s from rfl⟩
theorem runsOn_adcSample (die_ : Die) (adc_ : Fin 8) (raw_ : BitVec 12) (parity_ : Bool) : RunsOn (.adcSample die_ adc_ raw_ parity_) := fun s => ⟨_, show execAdcSample die_ adc_ raw_ parity_ s = run _ s from rfl⟩
theorem runsOn_wadcSeqStart (die_ : Die) (adc_ : Fin 8) : RunsOn (.wadcSeqStart die_ adc_) := fun s => ⟨_, show execWadcSeqStart die_ adc_ s = run _ s from rfl⟩
theorem runsOn_wadcEntryEnd (die_ : Die) (adc_ : Fin 8) : RunsOn (.wadcEntryEnd die_ adc_) := fun s => ⟨_, show execWadcEntryEnd die_ adc_ s = run _ s from rfl⟩
theorem runsOn_wadcInjRequest (die_ : Die) (adc_ : Fin 8) (data_ : W32) : RunsOn (.wadcInjRequest die_ adc_ data_) := fun s => ⟨_, show execWadcInjRequest die_ adc_ data_ s = run _ s from rfl⟩
theorem runsOn_wadcTriggerStart (line_ : Fin 4) : RunsOn (.wadcTriggerStart line_) := fun s => ⟨_, show execWadcTriggerStart line_ s = run _ s from rfl⟩
theorem runsOn_wadcCalSelf (die_ : Die) (adc_ : Fin 8) (data_ : W32) : RunsOn (.wadcCalSelf die_ adc_ data_) := fun s => ⟨_, show execWadcCalSelf die_ adc_ data_ s = run _ s from rfl⟩
theorem runsOn_wadcCalSysZero (die_ : Die) (adc_ : Fin 8) (data_ : W32) : RunsOn (.wadcCalSysZero die_ adc_ data_) := fun s => ⟨_, show execWadcCalSysZero die_ adc_ data_ s = run _ s from rfl⟩
theorem runsOn_wadcCalSysFull (die_ : Die) (adc_ : Fin 8) (data_ : W32) : RunsOn (.wadcCalSysFull die_ adc_ data_) := fun s => ⟨_, show execWadcCalSysFull die_ adc_ data_ s = run _ s from rfl⟩
theorem runsOn_wadcCalDone (die_ : Die) (adc_ : Fin 8) : RunsOn (.wadcCalDone die_ adc_) := fun s => ⟨_, show execWadcCalDone die_ adc_ s = run _ s from rfl⟩
theorem runsOn_monCtrlWrite (data_ : W32) : RunsOn (.monCtrlWrite data_) := fun s => ⟨_, show execMonCtrlWrite data_ s = run _ s from rfl⟩
theorem runsOn_monLeadTimeEnd : RunsOn (.monLeadTimeEnd) := fun s => ⟨_, show execMonLeadTimeEnd s = run _ s from rfl⟩
theorem runsOn_monScanStart : RunsOn (.monScanStart) := fun s => ⟨_, show execMonScanStart s = run _ s from rfl⟩
theorem runsOn_monScanTimer : RunsOn (.monScanTimer) := fun s => ⟨_, show execMonScanTimer s = run _ s from rfl⟩
theorem runsOn_monConversionDone (codesA_ : List Nat) (codesB_ : List Nat) : RunsOn (.monConversionDone codesA_ codesB_) := fun s => ⟨_, show execMonConversionDone codesA_ codesB_ s = run _ s from rfl⟩
theorem runsOn_monCalSelf (data_ : W32) : RunsOn (.monCalSelf data_) := fun s => ⟨_, show execMonCalSelf data_ s = run _ s from rfl⟩
theorem runsOn_monCalSysZero (data_ : W32) : RunsOn (.monCalSysZero data_) := fun s => ⟨_, show execMonCalSysZero data_ s = run _ s from rfl⟩
theorem runsOn_monCalSysFull (data_ : W32) : RunsOn (.monCalSysFull data_) := fun s => ⟨_, show execMonCalSysFull data_ s = run _ s from rfl⟩
theorem runsOn_coefDataWrite (route_ : Route) (data_ : W32) : RunsOn (.coefDataWrite route_ data_) := fun s => ⟨_, show execCoefDataWrite route_ data_ s = run _ s from rfl⟩
theorem runsOn_hisTrain : RunsOn (.hisTrain) := fun s => ⟨_, show execHisTrain s = run _ s from rfl⟩
theorem runsOn_hisTrainingDone (failedStep_ : Fin 8) : RunsOn (.hisTrainingDone failedStep_) := fun s => ⟨_, show execHisTrainingDone failedStep_ s = run _ s from rfl⟩
theorem runsOn_dqsDriftCheck (drifted_ : Bool) (retrained_ : Bool) : RunsOn (.dqsDriftCheck drifted_ retrained_) := fun s => ⟨_, show execDqsDriftCheck drifted_ retrained_ s = run _ s from rfl⟩
theorem runsOn_ddrRefresh : RunsOn (.ddrRefresh) := fun s => ⟨_, show execDdrRefresh s = run _ s from rfl⟩
theorem runsOn_refreshRatePoll (hot_ : Bool) : RunsOn (.refreshRatePoll hot_) := fun s => ⟨_, show execRefreshRatePoll hot_ s = run _ s from rfl⟩
theorem runsOn_scrubBurst (lines_ : Nat) (findings_ : List LineFinding) : RunsOn (.scrubBurst lines_ findings_) := fun s => ⟨_, show execScrubBurst lines_ findings_ s = run _ s from rfl⟩
theorem runsOn_readbackRequest : RunsOn (.readbackRequest) := fun s => ⟨_, show execReadbackRequest s = run _ s from rfl⟩
theorem runsOn_captureRead (number_ : BitVec 24) : RunsOn (.captureRead number_) := fun s => ⟨_, show execCaptureRead number_ s = run _ s from rfl⟩
theorem runsOn_captureRelease (number_ : BitVec 24) : RunsOn (.captureRelease number_) := fun s => ⟨_, show execCaptureRelease number_ s = run _ s from rfl⟩
theorem runsOn_readbackStart (findings_ : List LineFinding) : RunsOn (.readbackStart findings_) := fun s => ⟨_, show execReadbackStart findings_ s = run _ s from rfl⟩
theorem runsOn_readbackDone : RunsOn (.readbackDone) := fun s => ⟨_, show execReadbackDone s = run _ s from rfl⟩
theorem runsOn_dspNop (core_ : Core) : RunsOn (.dspNop core_) := runsOn_op core_ _ fun _ => rfl
theorem runsOn_dspMov (core_ : Core) (dst_ : DspReg) (src_ : DspReg) : RunsOn (.dspMov core_ dst_ src_) := runsOn_op core_ _ fun _ => rfl
theorem runsOn_dspLpush (core_ : Core) : RunsOn (.dspLpush core_) := runsOn_op core_ _ fun _ => rfl
theorem runsOn_dspLpop (core_ : Core) : RunsOn (.dspLpop core_) := runsOn_op core_ _ fun _ => rfl
theorem runsOn_dspTrig (core_ : Core) (line_ : Fin 16) (ac_ : Fin 4) : RunsOn (.dspTrig core_ line_ ac_) := runsOn_op core_ _ fun _ => rfl
theorem runsOn_dspEi (core_ : Core) : RunsOn (.dspEi core_) := runsOn_op core_ _ fun _ => rfl
theorem runsOn_dspDi (core_ : Core) : RunsOn (.dspDi core_) := runsOn_op core_ _ fun _ => rfl
theorem runsOn_dspClrs (core_ : Core) (sat_ : Bool) (ov_ : Bool) : RunsOn (.dspClrs core_ sat_ ov_) := runsOn_op core_ _ fun _ => rfl
theorem runsOn_dspWait (core_ : Core) : RunsOn (.dspWait core_) := runsOn_op core_ _ fun _ => rfl
theorem runsOn_dspTrap (core_ : Core) (n_ : Fin 16) : RunsOn (.dspTrap core_ n_) := runsOn_op core_ _ fun _ => rfl
theorem runsOn_dspHalt (core_ : Core) : RunsOn (.dspHalt core_) := runsOn_op core_ _ fun _ => rfl
theorem runsOn_dspMul (core_ : Core) (sat_ : Bool) (ac_ : Fin 4) (dx_ : Fin 8) (dy_ : Fin 8) (slot1_ : DspSlot) (slot2_ : DspSlot) : RunsOn (.dspMul core_ sat_ ac_ dx_ dy_ slot1_ slot2_) := runsOn_op core_ _ fun _ => rfl
theorem runsOn_dspMac (core_ : Core) (sat_ : Bool) (ac_ : Fin 4) (dx_ : Fin 8) (dy_ : Fin 8) (slot1_ : DspSlot) (slot2_ : DspSlot) : RunsOn (.dspMac core_ sat_ ac_ dx_ dy_ slot1_ slot2_) := runsOn_op core_ _ fun _ => rfl
theorem runsOn_dspMacn (core_ : Core) (sat_ : Bool) (ac_ : Fin 4) (dx_ : Fin 8) (dy_ : Fin 8) (slot1_ : DspSlot) (slot2_ : DspSlot) : RunsOn (.dspMacn core_ sat_ ac_ dx_ dy_ slot1_ slot2_) := runsOn_op core_ _ fun _ => rfl
theorem runsOn_dspMacrn (core_ : Core) (sat_ : Bool) (ac_ : Fin 4) (dx_ : Fin 8) (dy_ : Fin 8) (slot1_ : DspSlot) (slot2_ : DspSlot) : RunsOn (.dspMacrn core_ sat_ ac_ dx_ dy_ slot1_ slot2_) := runsOn_op core_ _ fun _ => rfl
theorem runsOn_dspMulx (core_ : Core) (sat_ : Bool) (ac_ : Fin 4) (dx_ : Fin 8) (dy_ : Fin 8) (slot1_ : DspSlot) (slot2_ : DspSlot) : RunsOn (.dspMulx core_ sat_ ac_ dx_ dy_ slot1_ slot2_) := runsOn_op core_ _ fun _ => rfl
theorem runsOn_dspMacx (core_ : Core) (sat_ : Bool) (ac_ : Fin 4) (dx_ : Fin 8) (dy_ : Fin 8) (slot1_ : DspSlot) (slot2_ : DspSlot) : RunsOn (.dspMacx core_ sat_ ac_ dx_ dy_ slot1_ slot2_) := runsOn_op core_ _ fun _ => rfl
theorem runsOn_dspAdd (core_ : Core) (sat_ : Bool) (ac_ : Fin 4) (src_ : DspSrc) (slot_ : DspSlot) : RunsOn (.dspAdd core_ sat_ ac_ src_ slot_) := runsOn_op core_ _ fun _ => rfl
theorem runsOn_dspSub (core_ : Core) (sat_ : Bool) (ac_ : Fin 4) (src_ : DspSrc) (slot_ : DspSlot) : RunsOn (.dspSub core_ sat_ ac_ src_ slot_) := runsOn_op core_ _ fun _ => rfl
theorem runsOn_dspNeg (core_ : Core) (sat_ : Bool) (ac_ : Fin 4) (src_ : DspSrc) (slot_ : DspSlot) : RunsOn (.dspNeg core_ sat_ ac_ src_ slot_) := runsOn_op core_ _ fun _ => rfl
theorem runsOn_dspAbs (core_ : Core) (sat_ : Bool) (ac_ : Fin 4) (src_ : DspSrc) (slot_ : DspSlot) : RunsOn (.dspAbs core_ sat_ ac_ src_ slot_) := runsOn_op core_ _ fun _ => rfl
theorem runsOn_dspClr (core_ : Core) (sat_ : Bool) (ac_ : Fin 4) (slot_ : DspSlot) : RunsOn (.dspClr core_ sat_ ac_ slot_) := runsOn_op core_ _ fun _ => rfl
theorem runsOn_dspMova (core_ : Core) (sat_ : Bool) (ac_ : Fin 4) (src_ : DspSrc) (slot_ : DspSlot) : RunsOn (.dspMova core_ sat_ ac_ src_ slot_) := runsOn_op core_ _ fun _ => rfl
theorem runsOn_dspCmp (core_ : Core) (sat_ : Bool) (ac_ : Fin 4) (src_ : DspSrc) (slot_ : DspSlot) : RunsOn (.dspCmp core_ sat_ ac_ src_ slot_) := runsOn_op core_ _ fun _ => rfl
theorem runsOn_dspRnd (core_ : Core) (sat_ : Bool) (ac_ : Fin 4) (slot_ : DspSlot) : RunsOn (.dspRnd core_ sat_ ac_ slot_) := runsOn_op core_ _ fun _ => rfl
theorem runsOn_dspAnd (core_ : Core) (sat_ : Bool) (ac_ : Fin 4) (src_ : DspSrc) (slot_ : DspSlot) : RunsOn (.dspAnd core_ sat_ ac_ src_ slot_) := runsOn_op core_ _ fun _ => rfl
theorem runsOn_dspOr (core_ : Core) (sat_ : Bool) (ac_ : Fin 4) (src_ : DspSrc) (slot_ : DspSlot) : RunsOn (.dspOr core_ sat_ ac_ src_ slot_) := runsOn_op core_ _ fun _ => rfl
theorem runsOn_dspXor (core_ : Core) (sat_ : Bool) (ac_ : Fin 4) (src_ : DspSrc) (slot_ : DspSlot) : RunsOn (.dspXor core_ sat_ ac_ src_ slot_) := runsOn_op core_ _ fun _ => rfl
theorem runsOn_dspAsl (core_ : Core) (sat_ : Bool) (ac_ : Fin 4) (count_ : BitVec 6) (slot_ : DspSlot) : RunsOn (.dspAsl core_ sat_ ac_ count_ slot_) := runsOn_op core_ _ fun _ => rfl
theorem runsOn_dspAsr (core_ : Core) (sat_ : Bool) (ac_ : Fin 4) (count_ : BitVec 6) (slot_ : DspSlot) : RunsOn (.dspAsr core_ sat_ ac_ count_ slot_) := runsOn_op core_ _ fun _ => rfl
theorem runsOn_dspLsr (core_ : Core) (sat_ : Bool) (ac_ : Fin 4) (count_ : BitVec 6) (slot_ : DspSlot) : RunsOn (.dspLsr core_ sat_ ac_ count_ slot_) := runsOn_op core_ _ fun _ => rfl
theorem runsOn_dspMax (core_ : Core) (sat_ : Bool) (ac_ : Fin 4) (src_ : DspSrc) (slot_ : DspSlot) : RunsOn (.dspMax core_ sat_ ac_ src_ slot_) := runsOn_op core_ _ fun _ => rfl
theorem runsOn_dspMin (core_ : Core) (sat_ : Bool) (ac_ : Fin 4) (src_ : DspSrc) (slot_ : DspSlot) : RunsOn (.dspMin core_ sat_ ac_ src_ slot_) := runsOn_op core_ _ fun _ => rfl
theorem runsOn_dspAddh (core_ : Core) (sat_ : Bool) (ac_ : Fin 4) (dn_ : Fin 8) (slot_ : DspSlot) : RunsOn (.dspAddh core_ sat_ ac_ dn_ slot_) := runsOn_op core_ _ fun _ => rfl
theorem runsOn_dspSubh (core_ : Core) (sat_ : Bool) (ac_ : Fin 4) (dn_ : Fin 8) (slot_ : DspSlot) : RunsOn (.dspSubh core_ sat_ ac_ dn_ slot_) := runsOn_op core_ _ fun _ => rfl
theorem runsOn_dspMovh (core_ : Core) (sat_ : Bool) (ac_ : Fin 4) (dn_ : Fin 8) (slot_ : DspSlot) : RunsOn (.dspMovh core_ sat_ ac_ dn_ slot_) := runsOn_op core_ _ fun _ => rfl
theorem runsOn_dspExtr (core_ : Core) (sat_ : Bool) (dst_ : Fin 8) (ac_ : Fin 4) (count_ : BitVec 6) (slot_ : DspSlot) : RunsOn (.dspExtr core_ sat_ dst_ ac_ count_ slot_) := runsOn_op core_ _ fun _ => rfl
theorem runsOn_dspExp (core_ : Core) (dst_ : Fin 8) (ac_ : Fin 4) (slot_ : DspSlot) : RunsOn (.dspExp core_ dst_ ac_ slot_) := runsOn_op core_ _ fun _ => rfl
theorem runsOn_dspSata (core_ : Core) (sat_ : Bool) (ac_ : Fin 4) (slot_ : DspSlot) : RunsOn (.dspSata core_ sat_ ac_ slot_) := runsOn_op core_ _ fun _ => rfl
theorem runsOn_dspLoad (core_ : Core) (dst_ : DspReg) (ptr_ : Fin 8) (mode_ : DspMode) (disp_ : BitVec 16) : RunsOn (.dspLoad core_ dst_ ptr_ mode_ disp_) := runsOn_op core_ _ fun _ => rfl
theorem runsOn_dspStore (core_ : Core) (src_ : DspReg) (ptr_ : Fin 8) (mode_ : DspMode) (disp_ : BitVec 16) : RunsOn (.dspStore core_ src_ ptr_ mode_ disp_) := runsOn_op core_ _ fun _ => rfl
theorem runsOn_dspLdi (core_ : Core) (dst_ : DspReg) (value_ : BitVec 24) : RunsOn (.dspLdi core_ dst_ value_) := runsOn_op core_ _ fun _ => rfl
theorem runsOn_dspBra (core_ : Core) (cc_ : DspCond) (target_ : BitVec 14) : RunsOn (.dspBra core_ cc_ target_) := runsOn_op core_ _ fun _ => rfl
theorem runsOn_dspCall (core_ : Core) (target_ : BitVec 14) : RunsOn (.dspCall core_ target_) := runsOn_op core_ _ fun _ => rfl
theorem runsOn_dspJmp (core_ : Core) (ptr_ : Fin 8) : RunsOn (.dspJmp core_ ptr_) := runsOn_op core_ _ fun _ => rfl
theorem runsOn_dspRts (core_ : Core) : RunsOn (.dspRts core_) := runsOn_op core_ _ fun _ => rfl
theorem runsOn_dspRti (core_ : Core) : RunsOn (.dspRti core_) := runsOn_op core_ _ fun _ => rfl
theorem runsOn_dspLoopImmediate (core_ : Core) (count_ : BitVec 16) (length_ : BitVec 9) : RunsOn (.dspLoopImmediate core_ count_ length_) := runsOn_op core_ _ fun _ => rfl
theorem runsOn_dspLoopRegister (core_ : Core) (count_ : Fin 8) (length_ : BitVec 9) : RunsOn (.dspLoopRegister core_ count_ length_) := runsOn_op core_ _ fun _ => rfl
theorem runsOn_illegalInstruction (core_ : Core) : RunsOn (.illegalInstruction core_) := runsOn_op core_ _ fun _ => rfl
theorem runsOn_interruptEntry (core_ : Core) : RunsOn (.interruptEntry core_) := fun s => ⟨_, show execInterruptEntry core_ s = run _ s from rfl⟩
theorem runsOn_dspTimerExpire (core_ : Core) : RunsOn (.dspTimerExpire core_) := fun s => ⟨_, show execDspTimerExpire core_ s = run _ s from rfl⟩
theorem runsOn_fabRead (core_ : Core) : RunsOn (.fabRead core_) := fun s => ⟨_, show execFabRead core_ s = run _ s from rfl⟩
theorem runsOn_fabWrite (core_ : Core) : RunsOn (.fabWrite core_) := fun s => ⟨_, show execFabWrite core_ s = run _ s from rfl⟩
theorem runsOn_fabAccessDone (core_ : Core) (timedOut_ : Bool) : RunsOn (.fabAccessDone core_ timedOut_) := fun s => ⟨_, show execFabAccessDone core_ timedOut_ s = run _ s from rfl⟩
theorem runsOn_resPush (core_ : Core) (data_ : BitVec 24) : RunsOn (.resPush core_ data_) := fun s => ⟨_, show execResPush core_ data_ s = run _ s from rfl⟩
theorem runsOn_mbxPop (core_ : Core) : RunsOn (.mbxPop core_) := fun s => ⟨_, show execMbxPop core_ s = run _ s from rfl⟩
theorem runsOn_resDataRead (core_ : Core) : RunsOn (.resDataRead core_) := fun s => ⟨_, show execResDataRead core_ s = run _ s from rfl⟩
theorem runsOn_mbxWrite (core_ : Core) (data_ : BitVec 24) : RunsOn (.mbxWrite core_ data_) := fun s => ⟨_, show execMbxWrite core_ data_ s = run _ s from rfl⟩
theorem runsOn_waveformRequest (core_ : Core) : RunsOn (.waveformRequest core_) := fun s => ⟨_, show execWaveformRequest core_ s = run _ s from rfl⟩
theorem runsOn_waveformRecordDone (core_ : Core) : RunsOn (.waveformRecordDone core_) := fun s => ⟨_, show execWaveformRecordDone core_ s = run _ s from rfl⟩
theorem runsOn_dspRun (core_ : Core) : RunsOn (.dspRun core_) := fun s => ⟨_, show execDspRun core_ s = run _ s from rfl⟩
theorem runsOn_dspHaltRequest (core_ : Core) : RunsOn (.dspHaltRequest core_) := fun s => ⟨_, show execDspHaltRequest core_ s = run _ s from rfl⟩
theorem runsOn_dspStep (core_ : Core) : RunsOn (.dspStep core_) := fun s => ⟨_, show execDspStep core_ s = run _ s from rfl⟩
theorem runsOn_dspResetPc (core_ : Core) : RunsOn (.dspResetPc core_) := fun s => ⟨_, show execDspResetPc core_ s = run _ s from rfl⟩
theorem runsOn_dspBreakpoint (core_ : Core) : RunsOn (.dspBreakpoint core_) := fun s => ⟨_, show execDspBreakpoint core_ s = run _ s from rfl⟩
theorem runsOn_dspPmemWrite (core_ : Core) (index_ : BitVec 14) (data_ : W32) : RunsOn (.dspPmemWrite core_ index_ data_) := fun s => ⟨_, show execDspPmemWrite core_ index_ data_ s = run _ s from rfl⟩
theorem runsOn_dspRegDataWrite (core_ : Core) (pc_ : Bool) (data_ : W32) : RunsOn (.dspRegDataWrite core_ pc_ data_) := fun s => ⟨_, show execDspRegDataWrite core_ pc_ data_ s = run _ s from rfl⟩
theorem runsOn_dspMemScrub (core_ : Core) (corrected_ : List (BitVec 20)) (uncorrectable_ : List (BitVec 20)) : RunsOn (.dspMemScrub core_ corrected_ uncorrectable_) := fun s => ⟨_, show execDspMemScrub core_ corrected_ uncorrectable_ s = run _ s from rfl⟩
theorem runsOn_dspDrainTimeout (core_ : Core) : RunsOn (.dspDrainTimeout core_) := fun s => ⟨_, show execDspDrainTimeout core_ s = run _ s from rfl⟩
theorem runsOn_staRunStart : RunsOn (.staRunStart) := fun s => ⟨_, show execStaRunStart s = run _ s from rfl⟩
theorem runsOn_staRunStop : RunsOn (.staRunStop) := fun s => ⟨_, show execStaRunStop s = run _ s from rfl⟩
theorem runsOn_staRunDone : RunsOn (.staRunDone) := fun s => ⟨_, show execStaRunDone s = run _ s from rfl⟩
theorem runsOn_staPushValue (data_ : W32) : RunsOn (.staPushValue data_) := fun s => ⟨_, show execStaPushValue data_ s = run _ s from rfl⟩
theorem runsOn_svcStart (data_ : W32) : RunsOn (.svcStart data_) := fun s => ⟨_, show execSvcStart data_ s = run _ s from rfl⟩
theorem runsOn_svcDriftCheck : RunsOn (.svcDriftCheck) := fun s => ⟨_, show execSvcDriftCheck s = run _ s from rfl⟩
theorem runsOn_svcPeriodicStart (seq_ : Fin 16) : RunsOn (.svcPeriodicStart seq_) := fun s => ⟨_, show execSvcPeriodicStart seq_ s = run _ s from rfl⟩
theorem runsOn_seqCommit : RunsOn (.seqCommit) := fun s => ⟨_, show execSeqCommit s = run _ s from rfl⟩
theorem runsOn_seqEnd : RunsOn (.seqEnd) := fun s => ⟨_, show execSeqEnd s = run _ s from rfl⟩
theorem runsOn_seqWrite : RunsOn (.seqWrite) := fun s => ⟨_, show execSeqWrite s = run _ s from rfl⟩
theorem runsOn_seqWait : RunsOn (.seqWait) := fun s => ⟨_, show execSeqWait s = run _ s from rfl⟩
theorem runsOn_seqWaitExpire : RunsOn (.seqWaitExpire) := fun s => ⟨_, show execSeqWaitExpire s = run _ s from rfl⟩
theorem runsOn_seqPoll : RunsOn (.seqPoll) := fun s => ⟨_, show execSeqPoll s = run _ s from rfl⟩
theorem runsOn_seqRun : RunsOn (.seqRun) := fun s => ⟨_, show execSeqRun s = run _ s from rfl⟩
theorem runsOn_seqDsp : RunsOn (.seqDsp) := fun s => ⟨_, show execSeqDsp s = run _ s from rfl⟩
theorem runsOn_seqBranch : RunsOn (.seqBranch) := fun s => ⟨_, show execSeqBranch s = run _ s from rfl⟩
theorem runsOn_seqFail : RunsOn (.seqFail) := fun s => ⟨_, show execSeqFail s = run _ s from rfl⟩
theorem runsOn_svcClaimGranted : RunsOn (.svcClaimGranted) := fun s => ⟨_, show execSvcClaimGranted s = run _ s from rfl⟩
theorem runsOn_svcClaimTimeout : RunsOn (.svcClaimTimeout) := fun s => ⟨_, show execSvcClaimTimeout s = run _ s from rfl⟩
theorem runsOn_dlcalDone : RunsOn .dlcalDone := fun s => ⟨_, show execDlcalDone s = run _ s from rfl⟩
theorem runsOn_theqDone : RunsOn .theqDone := fun s => ⟨_, show execTheqDone s = run _ s from rfl⟩
theorem runsOn_bscanDone : RunsOn .bscanDone := fun s => ⟨_, show execBscanDone s = run _ s from rfl⟩
theorem runsOn_streamEnWrite (ctx_ : Fin 16) (data_ : W32) : RunsOn (.streamEnWrite ctx_ data_) := fun s => ⟨_, show execStreamEnWrite ctx_ data_ s = run _ s from rfl⟩
theorem runsOn_blockWaitExpire (ctx_ : Fin 16) : RunsOn (.blockWaitExpire ctx_) := fun s => ⟨_, show execBlockWaitExpire ctx_ s = run _ s from rfl⟩
theorem runsOn_coderContextReset (ctxs_ : BitVec 16) : RunsOn (.coderContextReset ctxs_) := fun s => ⟨_, show execCoderContextReset ctxs_ s = run _ s from rfl⟩
theorem runsOn_coderCtxDataWrite (data_ : W32) : RunsOn (.coderCtxDataWrite data_) := fun s => ⟨_, show execCoderCtxDataWrite data_ s = run _ s from rfl⟩
theorem runsOn_coderCtxDataRead : RunsOn (.coderCtxDataRead) := fun s => ⟨_, show execCoderCtxDataRead s = run _ s from rfl⟩
theorem runsOn_loopbackPush (data_ : W32) : RunsOn (.loopbackPush data_) := fun s => ⟨_, show execLoopbackPush data_ s = run _ s from rfl⟩
theorem runsOn_loopbackPop : RunsOn (.loopbackPop) := fun s => ⟨_, show execLoopbackPop s = run _ s from rfl⟩
theorem runsOn_loopbackFlush : RunsOn (.loopbackFlush) := fun s => ⟨_, show execLoopbackFlush s = run _ s from rfl⟩
theorem runsOn_laneEnable (lane_ : Lane) : RunsOn (.laneEnable lane_) := fun s => ⟨_, show execLaneEnable lane_ s = run _ s from rfl⟩
theorem runsOn_laneDisable (lane_ : Lane) : RunsOn (.laneDisable lane_) := fun s => ⟨_, show execLaneDisable lane_ s = run _ s from rfl⟩
theorem runsOn_laneRetrain (lane_ : Lane) : RunsOn (.laneRetrain lane_) := fun s => ⟨_, show execLaneRetrain lane_ s = run _ s from rfl⟩
theorem runsOn_trainingControlWord (lane_ : Fin 2) (word_ : BitVec 128) : RunsOn (.trainingControlWord lane_ word_) := fun s => ⟨_, show execTrainingControlWord lane_ word_ s = run _ s from rfl⟩
theorem runsOn_prbsWindowEnd (lane_ : Fin 2) (errors_ : Nat) : RunsOn (.prbsWindowEnd lane_ errors_) := fun s => ⟨_, show execPrbsWindowEnd lane_ errors_ s = run _ s from rfl⟩
theorem runsOn_laneActive (lane_ : Lane) : RunsOn (.laneActive lane_) := fun s => ⟨_, show execLaneActive lane_ s = run _ s from rfl⟩
theorem runsOn_openLoopTrainingEnd (lane_ : Fin 8) : RunsOn (.openLoopTrainingEnd lane_) := fun s => ⟨_, show execOpenLoopTrainingEnd lane_ s = run _ s from rfl⟩
theorem runsOn_trainingAttemptTimeout (lane_ : Lane) : RunsOn (.trainingAttemptTimeout lane_) := fun s => ⟨_, show execTrainingAttemptTimeout lane_ s = run _ s from rfl⟩
theorem runsOn_backoffEnd (lane_ : Lane) : RunsOn (.backoffEnd lane_) := fun s => ⟨_, show execBackoffEnd lane_ s = run _ s from rfl⟩
theorem runsOn_laneStable (lane_ : Lane) : RunsOn (.laneStable lane_) := fun s => ⟨_, show execLaneStable lane_ s = run _ s from rfl⟩
theorem runsOn_lanePermanent (lane_ : Lane) : RunsOn (.lanePermanent lane_) := fun s => ⟨_, show execLanePermanent lane_ s = run _ s from rfl⟩
theorem runsOn_codewordReceive (lane_ : Fin 2) (word_ : BitVec 5440) (slip_ : Int) : RunsOn (.codewordReceive lane_ word_ slip_) := fun s => ⟨_, show execCodewordReceive lane_ word_ slip_ s = run _ s from rfl⟩
theorem runsOn_rxLossOfLock (lane_ : Fin 2) (cause_ : RxLoss) : RunsOn (.rxLossOfLock lane_ cause_) := fun s => ⟨_, show execRxLossOfLock lane_ cause_ s = run _ s from rfl⟩
theorem runsOn_txLossOfLock (lane_ : Fin 8) (cause_ : TxLoss) : RunsOn (.txLossOfLock lane_ cause_) := fun s => ⟨_, show execTxLossOfLock lane_ cause_ s = run _ s from rfl⟩
theorem runsOn_restripeDone : RunsOn (.restripeDone) := fun s => ⟨_, show execRestripeDone s = run _ s from rfl⟩
theorem runsOn_eqCommit : RunsOn (.eqCommit) := fun s => ⟨_, show execEqCommit s = run _ s from rfl⟩
theorem runsOn_eqSave : RunsOn (.eqSave) := fun s => ⟨_, show execEqSave s = run _ s from rfl⟩
theorem runsOn_ackTimeout : RunsOn (.ackTimeout) := fun s => ⟨_, show execAckTimeout s = run _ s from rfl⟩
theorem runsOn_retainExpire : RunsOn (.retainExpire) := fun s => ⟨_, show execRetainExpire s = run _ s from rfl⟩
theorem runsOn_dataFrameSend (stream_ : Fin 2) : RunsOn (.dataFrameSend stream_) := fun s => ⟨_, show execDataFrameSend stream_ s = run _ s from rfl⟩
theorem runsOn_alignReceive (lane_ : Fin 2) : RunsOn (.alignReceive lane_) := fun s => ⟨_, show execAlignReceive lane_ s = run _ s from rfl⟩
theorem runsOn_dataBlockReceive : RunsOn (.dataBlockReceive) := fun s => ⟨_, show execDataBlockReceive s = run _ s from rfl⟩
theorem runsOn_dframeReceive : RunsOn (.dframeReceive) := fun s => ⟨_, show execDframeReceive s = run _ s from rfl⟩
theorem runsOn_ackReceive : RunsOn (.ackReceive) := fun s => ⟨_, show execAckReceive s = run _ s from rfl⟩
theorem runsOn_ackRepeat : RunsOn (.ackRepeat) := fun s => ⟨_, show execAckRepeat s = run _ s from rfl⟩
theorem runsOn_lstatusReceive : RunsOn (.lstatusReceive) := fun s => ⟨_, show execLstatusReceive s = run _ s from rfl⟩
theorem runsOn_lstatusPeriodic : RunsOn (.lstatusPeriodic) := fun s => ⟨_, show execLstatusPeriodic s = run _ s from rfl⟩
theorem runsOn_rdCommand : RunsOn (.rdCommand) := fun s => ⟨_, show execRdCommand s = run _ s from rfl⟩
theorem runsOn_wrCommand : RunsOn (.wrCommand) := fun s => ⟨_, show execWrCommand s = run _ s from rfl⟩
theorem runsOn_authWr : RunsOn (.authWr) := fun s => ⟨_, show execAuthWr s = run _ s from rfl⟩
theorem runsOn_authLockoutEnd : RunsOn (.authLockoutEnd) := fun s => ⟨_, show execAuthLockoutEnd s = run _ s from rfl⟩
theorem runsOn_trigMessage : RunsOn (.trigMessage) := fun s => ⟨_, show execTrigMessage s = run _ s from rfl⟩
theorem runsOn_tsyncMessage : RunsOn (.tsyncMessage) := fun s => ⟨_, show execTsyncMessage s = run _ s from rfl⟩
theorem runsOn_tsyncLoadTick (phase_ : BitVec 16) : RunsOn (.tsyncLoadTick phase_) := fun s => ⟨_, show execTsyncLoadTick phase_ s = run _ s from rfl⟩
theorem runsOn_ringTailWrite (ring_ : Ring) (tail_ : W32) : RunsOn (.ringTailWrite ring_ tail_) := fun s => ⟨_, show execRingTailWrite ring_ tail_ s = run _ s from rfl⟩
theorem runsOn_descriptorFetch (ring_ : Ring) (desc_ : Option (W64 × W64)) : RunsOn (.descriptorFetch ring_ desc_) := fun s => ⟨_, show execDescriptorFetch ring_ desc_ s = run _ s from rfl⟩
theorem runsOn_readoutDescriptorComplete (ring_ : ReadRing) : RunsOn (.readoutDescriptorComplete ring_) := fun s => ⟨_, show execReadoutDescriptorComplete ring_ s = run _ s from rfl⟩
theorem runsOn_readoutTimeout (ring_ : ReadRing) : RunsOn (.readoutTimeout ring_) := fun s => ⟨_, show execReadoutTimeout ring_ s = run _ s from rfl⟩
theorem runsOn_h2dDescriptorComplete (ring_ : H2dRing) (words_ : List W32) (failAt_ : Option Nat) : RunsOn (.h2dDescriptorComplete ring_ words_ failAt_) := fun s => ⟨_, show execH2dDescriptorComplete ring_ words_ failAt_ s = run _ s from rfl⟩
theorem runsOn_ringEnable (ring_ : Ring) : RunsOn (.ringEnable ring_) := fun s => ⟨_, show execRingEnable ring_ s = run _ s from rfl⟩
theorem runsOn_ringDisable (ring_ : Ring) : RunsOn (.ringDisable ring_) := fun s => ⟨_, show execRingDisable ring_ s = run _ s from rfl⟩
theorem runsOn_ringAbort (ring_ : Ring) : RunsOn (.ringAbort ring_) := fun s => ⟨_, show execRingAbort ring_ s = run _ s from rfl⟩
theorem runsOn_ringReset (ring_ : Ring) : RunsOn (.ringReset ring_) := fun s => ⟨_, show execRingReset ring_ s = run _ s from rfl⟩
theorem runsOn_endpointReset : RunsOn (.endpointReset) := fun s => ⟨_, show execEndpointReset s = run _ s from rfl⟩
theorem runsOn_pcieLinkDown : RunsOn (.pcieLinkDown) := fun s => ⟨_, show execPcieLinkDown s = run _ s from rfl⟩
theorem runsOn_pcieLinkChange (speed_ : BitVec 4) (width_ : BitVec 5) : RunsOn (.pcieLinkChange speed_ width_) := fun s => ⟨_, show execPcieLinkChange speed_ width_ s = run _ s from rfl⟩
theorem runsOn_barPartialWrite (addr_ : RegAddr) (data_ : W32) (enables_ : BitVec 4) : RunsOn (.barPartialWrite addr_ data_ enables_) := fun s => ⟨_, show execBarPartialWrite addr_ data_ enables_ s = run _ s from rfl⟩
theorem runsOn_vecEoi (vector_ : BitVec 6) : RunsOn (.vecEoi vector_) := fun s => ⟨_, show execVecEoi vector_ s = run _ s from rfl⟩
theorem runsOn_msixUnmask (vector_ : BitVec 6) : RunsOn (.msixUnmask vector_) := fun s => ⟨_, show execMsixUnmask vector_ s = run _ s from rfl⟩
theorem runsOn_eventLogRead : RunsOn (.eventLogRead) := fun s => ⟨_, show execEventLogRead s = run _ s from rfl⟩
theorem runsOn_srcTestWrite (word_ : Fin 8) (bits_ : W32) : RunsOn (.srcTestWrite word_ bits_) := fun s => ⟨_, show execSrcTestWrite word_ bits_ s = run _ s from rfl⟩
theorem runsOn_sealCommand (route_ : Route) : RunsOn (.sealCommand route_) := fun s => ⟨_, show execSealCommand route_ s = run _ s from rfl⟩
theorem runsOn_sealComplete : RunsOn (.sealComplete) := fun s => ⟨_, show execSealComplete s = run _ s from rfl⟩
theorem runsOn_sealSave : RunsOn (.sealSave) := fun s => ⟨_, show execSealSave s = run _ s from rfl⟩
theorem runsOn_unseal (route_ : Route) (slot_ : Fin 4) (data_ : W32) : RunsOn (.unseal route_ slot_ data_) := fun s => ⟨_, show execUnseal route_ slot_ data_ s = run _ s from rfl⟩
theorem runsOn_unsealComplete : RunsOn (.unsealComplete) := fun s => ⟨_, show execUnsealComplete s = run _ s from rfl⟩
theorem runsOn_trimRefresh (trimUpsets_ : List Pix) (cfgUpsets_ : Nat) : RunsOn (.trimRefresh trimUpsets_ cfgUpsets_) := fun s => ⟨_, show execTrimRefresh trimUpsets_ cfgUpsets_ s = run _ s from rfl⟩
theorem runsOn_keyProgram : RunsOn (.keyProgram) := fun s => ⟨_, show execKeyProgram s = run _ s from rfl⟩
theorem runsOn_keyProgramDone (ok_ : Bool) : RunsOn (.keyProgramDone ok_) := fun s => ⟨_, show execKeyProgramDone ok_ s = run _ s from rfl⟩
theorem runsOn_keyRevoke (route_ : Route) (slot_ : Fin 4) (data_ : W32) : RunsOn (.keyRevoke route_ slot_ data_) := fun s => ⟨_, show execKeyRevoke route_ slot_ data_ s = run _ s from rfl⟩
theorem runsOn_authWriteSubmit (route_ : Route) : RunsOn (.authWriteSubmit route_) := fun s => ⟨_, show execAuthWriteSubmit route_ s = run _ s from rfl⟩
theorem runsOn_debugUnlock (route_ : Route) (slot_ : Fin 4) (data_ : W32) : RunsOn (.debugUnlock route_ slot_ data_) := fun s => ⟨_, show execDebugUnlock route_ slot_ data_ s = run _ s from rfl⟩
theorem runsOn_erasureDone : RunsOn (.erasureDone) := fun s => ⟨_, show execErasureDone s = run _ s from rfl⟩
theorem runsOn_auditEntryClose : RunsOn (.auditEntryClose) := fun s => ⟨_, show execAuditEntryClose s = run _ s from rfl⟩
theorem runsOn_auditWrite : RunsOn (.auditWrite) := fun s => ⟨_, show execAuditWrite s = run _ s from rfl⟩
theorem runsOn_testPortAuthCmd (block_ : BitVec 256) : RunsOn (.testPortAuthCmd block_) := fun s => ⟨_, show execTestPortAuthCmd block_ s = run _ s from rfl⟩
theorem runsOn_testPortLockedInstruction : RunsOn (.testPortLockedInstruction) := fun s => ⟨_, show execTestPortLockedInstruction s = run _ s from rfl⟩
theorem runsOn_railGood (rail_ : Rail) : RunsOn (.railGood rail_) := fun s => ⟨_, show execRailGood rail_ s = run _ s from rfl⟩
theorem runsOn_railFault (rail_ : Rail) : RunsOn (.railFault rail_) := fun s => ⟨_, show execRailFault rail_ s = run _ s from rfl⟩
theorem runsOn_railOk (rail_ : Rail) : RunsOn (.railOk rail_) := fun s => ⟨_, show execRailOk rail_ s = run _ s from rfl⟩
theorem runsOn_powerOnResetEnd : RunsOn (.powerOnResetEnd) := fun s => ⟨_, show execPowerOnResetEnd s = run _ s from rfl⟩
theorem runsOn_startupStepDone (dose_ : List Nat) : RunsOn (.startupStepDone dose_) := fun s => ⟨_, show execStartupStepDone dose_ s = run _ s from rfl⟩
theorem runsOn_startStall : RunsOn (.startStall) := fun s => ⟨_, show execStartStall s = run _ s from rfl⟩
theorem runsOn_levelRequestWrite (data_ : W32) : RunsOn (.levelRequestWrite data_) := fun s => ⟨_, show execLevelRequestWrite data_ s = run _ s from rfl⟩
theorem runsOn_deviceSoftReset (data_ : W32) : RunsOn (.deviceSoftReset data_) := fun s => ⟨_, show execDeviceSoftReset data_ s = run _ s from rfl⟩
theorem runsOn_resetPin : RunsOn (.resetPin) := fun s => ⟨_, show execResetPin s = run _ s from rfl⟩
theorem runsOn_domainRequestWrite (high_ : Bool) (data_ : W32) : RunsOn (.domainRequestWrite high_ data_) := fun s => ⟨_, show execDomainRequestWrite high_ data_ s = run _ s from rfl⟩
theorem runsOn_domainSwitchOnDone : RunsOn (.domainSwitchOnDone) := fun s => ⟨_, show execDomainSwitchOnDone s = run _ s from rfl⟩
theorem runsOn_domainSwitchTimeout : RunsOn (.domainSwitchTimeout) := fun s => ⟨_, show execDomainSwitchTimeout s = run _ s from rfl⟩
theorem runsOn_domainSwitchOff : RunsOn (.domainSwitchOff) := fun s => ⟨_, show execDomainSwitchOff s = run _ s from rfl⟩
theorem runsOn_domainDrainTimeout : RunsOn (.domainDrainTimeout) := fun s => ⟨_, show execDomainDrainTimeout s = run _ s from rfl⟩
theorem runsOn_sensorReading (sensor_ : Sensor) (raw_ : BitVec 16) : RunsOn (.sensorReading sensor_ raw_) := fun s => ⟨_, show execSensorReading sensor_ raw_ s = run _ s from rfl⟩
theorem runsOn_sensorNoReading (sensor_ : Sensor) : RunsOn (.sensorNoReading sensor_) := fun s => ⟨_, show execSensorNoReading sensor_ s = run _ s from rfl⟩
theorem runsOn_sensorAutoClear (sensor_ : Sensor) : RunsOn (.sensorAutoClear sensor_) := fun s => ⟨_, show execSensorAutoClear sensor_ s = run _ s from rfl⟩
theorem runsOn_sensorClearWrite (word_ : Fin 3) (bits_ : W32) : RunsOn (.sensorClearWrite word_ bits_) := fun s => ⟨_, show execSensorClearWrite word_ bits_ s = run _ s from rfl⟩
theorem runsOn_diodeMeasure (lowUv_ : Nat) (highUv_ : Nat) : RunsOn (.diodeMeasure lowUv_ highUv_) := fun s => ⟨_, show execDiodeMeasure lowUv_ highUv_ s = run _ s from rfl⟩
theorem runsOn_throttleUpdate : RunsOn (.throttleUpdate) := fun s => ⟨_, show execThrottleUpdate s = run _ s from rfl⟩
theorem runsOn_pauseEnd (kind_ : PacedKind) : RunsOn (.pauseEnd kind_) := fun s => ⟨_, show execPauseEnd kind_ s = run _ s from rfl⟩
theorem runsOn_curveCommit : RunsOn (.curveCommit) := fun s => ⟨_, show execCurveCommit s = run _ s from rfl⟩
theorem runsOn_curveSave : RunsOn (.curveSave) := fun s => ⟨_, show execCurveSave s = run _ s from rfl⟩
theorem runsOn_quenchLimitWrite (data_ : W32) : RunsOn (.quenchLimitWrite data_) := fun s => ⟨_, show execQuenchLimitWrite data_ s = run _ s from rfl⟩
theorem runsOn_quenchRestart : RunsOn (.quenchRestart) := fun s => ⟨_, show execQuenchRestart s = run _ s from rfl⟩
theorem runsOn_journalCommit : RunsOn (.journalCommit) := fun s => ⟨_, show execJournalCommit s = run _ s from rfl⟩
theorem runsOn_journalWriteDone (ok_ : Bool) : RunsOn (.journalWriteDone ok_) := fun s => ⟨_, show execJournalWriteDone ok_ s = run _ s from rfl⟩
theorem runsOn_nvsPatrolRead (page_ : BitVec 11) (finding_ : ReadFinding) : RunsOn (.nvsPatrolRead page_ finding_) := fun s => ⟨_, show execNvsPatrolRead page_ finding_ s = run _ s from rfl⟩
theorem runsOn_maskSave : RunsOn (.maskSave) := fun s => ⟨_, show execMaskSave s = run _ s from rfl⟩
theorem runsOn_failedClustersUpdate : RunsOn (.failedClustersUpdate) := fun s => ⟨_, show execFailedClustersUpdate s = run _ s from rfl⟩
theorem runsOn_replaceCauseClear (bits_ : W32) : RunsOn (.replaceCauseClear bits_) := fun s => ⟨_, show execReplaceCauseClear bits_ s = run _ s from rfl⟩
theorem runsOn_replaceEventRepeat : RunsOn (.replaceEventRepeat) := fun s => ⟨_, show execReplaceEventRepeat s = run _ s from rfl⟩
theorem runsOn_doseRead (doses_ : List Nat) : RunsOn (.doseRead doses_) := fun s => ⟨_, show execDoseRead doses_ s = run _ s from rfl⟩
theorem runsOn_upsetHour : RunsOn (.upsetHour) := fun s => ⟨_, show execUpsetHour s = run _ s from rfl⟩
theorem runsOn_healthLogWrite : RunsOn (.healthLogWrite) := fun s => ⟨_, show execHealthLogWrite s = run _ s from rfl⟩
theorem runsOn_refclkLoss : RunsOn (.refclkLoss) := fun s => ⟨_, show execRefclkLoss s = run _ s from rfl⟩
theorem runsOn_codewordTransmit : RunsOn (.codewordTransmit) := fun s => ⟨_, show execCodewordTransmit s = run _ s from rfl⟩
theorem runsOn_dmaWriteRequest (ring_ : ReadRing) : RunsOn (.dmaWriteRequest ring_) := fun s => ⟨_, show execDmaWriteRequest ring_ s = run _ s from rfl⟩
theorem runsOn_pcieLinkUp (speed_ : BitVec 4) (width_ : BitVec 5) : RunsOn (.pcieLinkUp speed_ width_) := fun s => ⟨_, show execPcieLinkUp speed_ width_ s = run _ s from rfl⟩
theorem runsOn_configSpaceWrite (cfg_ : PcieConfig) : RunsOn (.configSpaceWrite cfg_) := fun s => ⟨_, show execConfigSpaceWrite cfg_ s = run _ s from rfl⟩
theorem runsOn_aerError (correctable_ : Bool) : RunsOn (.aerError correctable_) := fun s => ⟨_, show execAerError correctable_ s = run _ s from rfl⟩
theorem runsOn_healthLogEntryClose : RunsOn (.healthLogEntryClose) := fun s => ⟨_, show execHealthLogEntryClose s = run _ s from rfl⟩
theorem runsOn_sramScrub (findings_ : List ScrubFinding) : RunsOn (.sramScrub findings_) := fun s => ⟨_, show execSramScrub findings_ s = run _ s from rfl⟩
theorem runsOn_tmrVoteCorrection (page_ : Page) : RunsOn (.tmrVoteCorrection page_) := fun s => ⟨_, show execTmrVoteCorrection page_ s = run _ s from rfl⟩

/-- Every command's meaning is an effect on the device. -/
theorem runsOn : ∀ c : Instr, RunsOn c
  | .registerWrite route_ addr_ data_ => runsOn_registerWrite route_ addr_ data_
  | .rwaWrite route_ mark_ addr_ data_ => runsOn_rwaWrite route_ mark_ addr_ data_
  | .latchedPairRead route_ addr_ => runsOn_latchedPairRead route_ addr_
  | .pageEnableClear page_ => runsOn_pageEnableClear page_
  | .pageEnableSet page_ => runsOn_pageEnableSet page_
  | .pageDrainDone page_ => runsOn_pageDrainDone page_
  | .pageAbort page_ => runsOn_pageAbort page_
  | .pageAbortDone page_ => runsOn_pageAbortDone page_
  | .pageSoftReset page_ => runsOn_pageSoftReset page_
  | .evSetWrite page_ bits_ => runsOn_evSetWrite page_ bits_
  | .discriminatorLeadingEdge pix_ contest_ edge_ start_ => runsOn_discriminatorLeadingEdge pix_ contest_ edge_ start_
  | .discriminatorTrailingEdge pix_ edge_ stop_ => runsOn_discriminatorTrailingEdge pix_ edge_ stop_
  | .totSaturation pix_ => runsOn_totSaturation pix_
  | .converterFree die_ cluster_ => runsOn_converterFree die_ cluster_
  | .pixelRearm pix_ => runsOn_pixelRearm pix_
  | .regionAcceptHit die_ region_ => runsOn_regionAcceptHit die_ region_
  | .flowControlPinUpdate => runsOn_flowControlPinUpdate
  | .watermarkWrite mark_ data_ => runsOn_watermarkWrite mark_ data_
  | .testHitOffer die_ region_ data_ => runsOn_testHitOffer die_ region_ data_
  | .bandGrant die_ band_ => runsOn_bandGrant die_ band_
  | .channelMerge die_ chan_ first_ => runsOn_channelMerge die_ chan_ first_
  | .d2dWordReceive die_ chan_ arrived_ finding_ => runsOn_d2dWordReceive die_ chan_ arrived_ finding_
  | .handshakeWatchdogReset place_ => runsOn_handshakeWatchdogReset place_
  | .concentratorWatchdogReset chan_ receiver_ => runsOn_concentratorWatchdogReset chan_ receiver_
  | .regionFlush die_ region_ => runsOn_regionFlush die_ region_
  | .channelFlush die_ chans_ => runsOn_channelFlush die_ chans_
  | .channelFlushDone die_ chan_ truncated_ => runsOn_channelFlushDone die_ chan_ truncated_
  | .channelRestart die_ chans_ => runsOn_channelRestart die_ chans_
  | .channelRestartCheck die_ chan_ => runsOn_channelRestartCheck die_ chan_
  | .bandEnableWrite die_ data_ => runsOn_bandEnableWrite die_ data_
  | .trefFreqMeasure khz_ => runsOn_trefFreqMeasure khz_
  | .trefEdgeResume => runsOn_trefEdgeResume
  | .trefGap => runsOn_trefGap
  | .lockAcquired plls_ => runsOn_lockAcquired plls_
  | .pllLossOfLock pll_ => runsOn_pllLossOfLock pll_
  | .voteError pll_ => runsOn_voteError pll_
  | .pllRestart => runsOn_pllRestart
  | .dllLockAchieved die_ => runsOn_dllLockAchieved die_
  | .dllUnlock die_ => runsOn_dllUnlock die_
  | .syncEdge => runsOn_syncEdge
  | .syncLoadTick phase_ => runsOn_syncLoadTick phase_
  | .frameStart phase_ => runsOn_frameStart phase_
  | .corrDataWrite route_ data_ => runsOn_corrDataWrite route_ data_
  | .tcuConvertHit receiver_ => runsOn_tcuConvertHit receiver_
  | .evbAcceptHit full_ => runsOn_evbAcceptHit full_
  | .hitRelease full_ => runsOn_hitRelease full_
  | .frameHeaderQueue => runsOn_frameHeaderQueue
  | .alignmentRecordQueue => runsOn_alignmentRecordQueue
  | .lateRecordTimeout => runsOn_lateRecordTimeout
  | .frameContextRetry => runsOn_frameContextRetry
  | .contextRelease index_ => runsOn_contextRelease index_
  | .quotaWrite cls_ data_ => runsOn_quotaWrite cls_ data_
  | .ctxDataRead => runsOn_ctxDataRead
  | .tableStagingWrite table_ high_ data_ => runsOn_tableStagingWrite table_ high_ data_
  | .fmtCommit => runsOn_fmtCommit
  | .condCommit => runsOn_condCommit
  | .conditionEvaluation => runsOn_conditionEvaluation
  | .swTrigWrite data_ => runsOn_swTrigWrite data_
  | .trigInEdge line_ rising_ hold_ => runsOn_trigInEdge line_ rising_ hold_
  | .triggerDecision => runsOn_triggerDecision
  | .rearmExpire cond_ => runsOn_rearmExpire cond_
  | .trigOutPulseEnd => runsOn_trigOutPulseEnd
  | .triggerWindowClose => runsOn_triggerWindowClose
  | .captureDone => runsOn_captureDone
  | .maskTestInterval test_ => runsOn_maskTestInterval test_
  | .maskRelease => runsOn_maskRelease
  | .feCtrlWrite route_ die_ data_ => runsOn_feCtrlWrite route_ die_ data_
  | .vthWrite die_ data_ => runsOn_vthWrite die_ data_
  | .gainLgWrite die_ word_ data_ => runsOn_gainLgWrite die_ word_ data_
  | .gainApply die_ region_ => runsOn_gainApply die_ region_
  | .gainTransitionEnd die_ region_ => runsOn_gainTransitionEnd die_ region_
  | .tblDataWrite route_ die_ data_ => runsOn_tblDataWrite route_ die_ data_
  | .tblDataRead die_ => runsOn_tblDataRead die_
  | .statDataRead die_ => runsOn_statDataRead die_
  | .trimApply pix_ => runsOn_trimApply pix_
  | .tblFillGo route_ die_ data_ => runsOn_tblFillGo route_ die_ data_
  | .tblFillDone die_ => runsOn_tblFillDone die_
  | .injStart die_ => runsOn_injStart die_
  | .injStop die_ => runsOn_injStop die_
  | .injPulse die_ => runsOn_injPulse die_
  | .injSenseSample die_ codeA_ codeB_ => runsOn_injSenseSample die_ codeA_ codeB_
  | .checkSlotStart die_ => runsOn_checkSlotStart die_
  | .checkPixelReconnect pix_ => runsOn_checkPixelReconnect pix_
  | .checkSlotEnd die_ found_ => runsOn_checkSlotEnd die_ found_
  | .clearStatus die_ => runsOn_clearStatus die_
  | .adcSample die_ adc_ raw_ parity_ => runsOn_adcSample die_ adc_ raw_ parity_
  | .wadcSeqStart die_ adc_ => runsOn_wadcSeqStart die_ adc_
  | .wadcEntryEnd die_ adc_ => runsOn_wadcEntryEnd die_ adc_
  | .wadcInjRequest die_ adc_ data_ => runsOn_wadcInjRequest die_ adc_ data_
  | .wadcTriggerStart line_ => runsOn_wadcTriggerStart line_
  | .wadcCalSelf die_ adc_ data_ => runsOn_wadcCalSelf die_ adc_ data_
  | .wadcCalSysZero die_ adc_ data_ => runsOn_wadcCalSysZero die_ adc_ data_
  | .wadcCalSysFull die_ adc_ data_ => runsOn_wadcCalSysFull die_ adc_ data_
  | .wadcCalDone die_ adc_ => runsOn_wadcCalDone die_ adc_
  | .monCtrlWrite data_ => runsOn_monCtrlWrite data_
  | .monLeadTimeEnd => runsOn_monLeadTimeEnd
  | .monScanStart => runsOn_monScanStart
  | .monScanTimer => runsOn_monScanTimer
  | .monConversionDone codesA_ codesB_ => runsOn_monConversionDone codesA_ codesB_
  | .monCalSelf data_ => runsOn_monCalSelf data_
  | .monCalSysZero data_ => runsOn_monCalSysZero data_
  | .monCalSysFull data_ => runsOn_monCalSysFull data_
  | .coefDataWrite route_ data_ => runsOn_coefDataWrite route_ data_
  | .hisTrain => runsOn_hisTrain
  | .hisTrainingDone failedStep_ => runsOn_hisTrainingDone failedStep_
  | .dqsDriftCheck drifted_ retrained_ => runsOn_dqsDriftCheck drifted_ retrained_
  | .ddrRefresh => runsOn_ddrRefresh
  | .refreshRatePoll hot_ => runsOn_refreshRatePoll hot_
  | .scrubBurst lines_ findings_ => runsOn_scrubBurst lines_ findings_
  | .readbackRequest => runsOn_readbackRequest
  | .captureRead number_ => runsOn_captureRead number_
  | .captureRelease number_ => runsOn_captureRelease number_
  | .readbackStart findings_ => runsOn_readbackStart findings_
  | .readbackDone => runsOn_readbackDone
  | .dspNop core_ => runsOn_dspNop core_
  | .dspMov core_ dst_ src_ => runsOn_dspMov core_ dst_ src_
  | .dspLpush core_ => runsOn_dspLpush core_
  | .dspLpop core_ => runsOn_dspLpop core_
  | .dspTrig core_ line_ ac_ => runsOn_dspTrig core_ line_ ac_
  | .dspEi core_ => runsOn_dspEi core_
  | .dspDi core_ => runsOn_dspDi core_
  | .dspClrs core_ sat_ ov_ => runsOn_dspClrs core_ sat_ ov_
  | .dspWait core_ => runsOn_dspWait core_
  | .dspTrap core_ n_ => runsOn_dspTrap core_ n_
  | .dspHalt core_ => runsOn_dspHalt core_
  | .dspMul core_ sat_ ac_ dx_ dy_ slot1_ slot2_ => runsOn_dspMul core_ sat_ ac_ dx_ dy_ slot1_ slot2_
  | .dspMac core_ sat_ ac_ dx_ dy_ slot1_ slot2_ => runsOn_dspMac core_ sat_ ac_ dx_ dy_ slot1_ slot2_
  | .dspMacn core_ sat_ ac_ dx_ dy_ slot1_ slot2_ => runsOn_dspMacn core_ sat_ ac_ dx_ dy_ slot1_ slot2_
  | .dspMacrn core_ sat_ ac_ dx_ dy_ slot1_ slot2_ => runsOn_dspMacrn core_ sat_ ac_ dx_ dy_ slot1_ slot2_
  | .dspMulx core_ sat_ ac_ dx_ dy_ slot1_ slot2_ => runsOn_dspMulx core_ sat_ ac_ dx_ dy_ slot1_ slot2_
  | .dspMacx core_ sat_ ac_ dx_ dy_ slot1_ slot2_ => runsOn_dspMacx core_ sat_ ac_ dx_ dy_ slot1_ slot2_
  | .dspAdd core_ sat_ ac_ src_ slot_ => runsOn_dspAdd core_ sat_ ac_ src_ slot_
  | .dspSub core_ sat_ ac_ src_ slot_ => runsOn_dspSub core_ sat_ ac_ src_ slot_
  | .dspNeg core_ sat_ ac_ src_ slot_ => runsOn_dspNeg core_ sat_ ac_ src_ slot_
  | .dspAbs core_ sat_ ac_ src_ slot_ => runsOn_dspAbs core_ sat_ ac_ src_ slot_
  | .dspClr core_ sat_ ac_ slot_ => runsOn_dspClr core_ sat_ ac_ slot_
  | .dspMova core_ sat_ ac_ src_ slot_ => runsOn_dspMova core_ sat_ ac_ src_ slot_
  | .dspCmp core_ sat_ ac_ src_ slot_ => runsOn_dspCmp core_ sat_ ac_ src_ slot_
  | .dspRnd core_ sat_ ac_ slot_ => runsOn_dspRnd core_ sat_ ac_ slot_
  | .dspAnd core_ sat_ ac_ src_ slot_ => runsOn_dspAnd core_ sat_ ac_ src_ slot_
  | .dspOr core_ sat_ ac_ src_ slot_ => runsOn_dspOr core_ sat_ ac_ src_ slot_
  | .dspXor core_ sat_ ac_ src_ slot_ => runsOn_dspXor core_ sat_ ac_ src_ slot_
  | .dspAsl core_ sat_ ac_ count_ slot_ => runsOn_dspAsl core_ sat_ ac_ count_ slot_
  | .dspAsr core_ sat_ ac_ count_ slot_ => runsOn_dspAsr core_ sat_ ac_ count_ slot_
  | .dspLsr core_ sat_ ac_ count_ slot_ => runsOn_dspLsr core_ sat_ ac_ count_ slot_
  | .dspMax core_ sat_ ac_ src_ slot_ => runsOn_dspMax core_ sat_ ac_ src_ slot_
  | .dspMin core_ sat_ ac_ src_ slot_ => runsOn_dspMin core_ sat_ ac_ src_ slot_
  | .dspAddh core_ sat_ ac_ dn_ slot_ => runsOn_dspAddh core_ sat_ ac_ dn_ slot_
  | .dspSubh core_ sat_ ac_ dn_ slot_ => runsOn_dspSubh core_ sat_ ac_ dn_ slot_
  | .dspMovh core_ sat_ ac_ dn_ slot_ => runsOn_dspMovh core_ sat_ ac_ dn_ slot_
  | .dspExtr core_ sat_ dst_ ac_ count_ slot_ => runsOn_dspExtr core_ sat_ dst_ ac_ count_ slot_
  | .dspExp core_ dst_ ac_ slot_ => runsOn_dspExp core_ dst_ ac_ slot_
  | .dspSata core_ sat_ ac_ slot_ => runsOn_dspSata core_ sat_ ac_ slot_
  | .dspLoad core_ dst_ ptr_ mode_ disp_ => runsOn_dspLoad core_ dst_ ptr_ mode_ disp_
  | .dspStore core_ src_ ptr_ mode_ disp_ => runsOn_dspStore core_ src_ ptr_ mode_ disp_
  | .dspLdi core_ dst_ value_ => runsOn_dspLdi core_ dst_ value_
  | .dspBra core_ cc_ target_ => runsOn_dspBra core_ cc_ target_
  | .dspCall core_ target_ => runsOn_dspCall core_ target_
  | .dspJmp core_ ptr_ => runsOn_dspJmp core_ ptr_
  | .dspRts core_ => runsOn_dspRts core_
  | .dspRti core_ => runsOn_dspRti core_
  | .dspLoopImmediate core_ count_ length_ => runsOn_dspLoopImmediate core_ count_ length_
  | .dspLoopRegister core_ count_ length_ => runsOn_dspLoopRegister core_ count_ length_
  | .illegalInstruction core_ => runsOn_illegalInstruction core_
  | .interruptEntry core_ => runsOn_interruptEntry core_
  | .dspTimerExpire core_ => runsOn_dspTimerExpire core_
  | .fabRead core_ => runsOn_fabRead core_
  | .fabWrite core_ => runsOn_fabWrite core_
  | .fabAccessDone core_ timedOut_ => runsOn_fabAccessDone core_ timedOut_
  | .resPush core_ data_ => runsOn_resPush core_ data_
  | .mbxPop core_ => runsOn_mbxPop core_
  | .resDataRead core_ => runsOn_resDataRead core_
  | .mbxWrite core_ data_ => runsOn_mbxWrite core_ data_
  | .waveformRequest core_ => runsOn_waveformRequest core_
  | .waveformRecordDone core_ => runsOn_waveformRecordDone core_
  | .dspRun core_ => runsOn_dspRun core_
  | .dspHaltRequest core_ => runsOn_dspHaltRequest core_
  | .dspStep core_ => runsOn_dspStep core_
  | .dspResetPc core_ => runsOn_dspResetPc core_
  | .dspBreakpoint core_ => runsOn_dspBreakpoint core_
  | .dspPmemWrite core_ index_ data_ => runsOn_dspPmemWrite core_ index_ data_
  | .dspRegDataWrite core_ pc_ data_ => runsOn_dspRegDataWrite core_ pc_ data_
  | .dspMemScrub core_ corrected_ uncorrectable_ => runsOn_dspMemScrub core_ corrected_ uncorrectable_
  | .dspDrainTimeout core_ => runsOn_dspDrainTimeout core_
  | .staRunStart => runsOn_staRunStart
  | .staRunStop => runsOn_staRunStop
  | .staRunDone => runsOn_staRunDone
  | .staPushValue data_ => runsOn_staPushValue data_
  | .svcStart data_ => runsOn_svcStart data_
  | .svcDriftCheck => runsOn_svcDriftCheck
  | .svcPeriodicStart seq_ => runsOn_svcPeriodicStart seq_
  | .seqCommit => runsOn_seqCommit
  | .seqEnd => runsOn_seqEnd
  | .seqWrite => runsOn_seqWrite
  | .seqWait => runsOn_seqWait
  | .seqWaitExpire => runsOn_seqWaitExpire
  | .seqPoll => runsOn_seqPoll
  | .seqRun => runsOn_seqRun
  | .seqDsp => runsOn_seqDsp
  | .seqBranch => runsOn_seqBranch
  | .seqFail => runsOn_seqFail
  | .svcClaimGranted => runsOn_svcClaimGranted
  | .svcClaimTimeout => runsOn_svcClaimTimeout
  | .dlcalDone => runsOn_dlcalDone
  | .theqDone => runsOn_theqDone
  | .bscanDone => runsOn_bscanDone
  | .streamEnWrite ctx_ data_ => runsOn_streamEnWrite ctx_ data_
  | .blockWaitExpire ctx_ => runsOn_blockWaitExpire ctx_
  | .coderContextReset ctxs_ => runsOn_coderContextReset ctxs_
  | .coderCtxDataWrite data_ => runsOn_coderCtxDataWrite data_
  | .coderCtxDataRead => runsOn_coderCtxDataRead
  | .loopbackPush data_ => runsOn_loopbackPush data_
  | .loopbackPop => runsOn_loopbackPop
  | .loopbackFlush => runsOn_loopbackFlush
  | .laneEnable lane_ => runsOn_laneEnable lane_
  | .laneDisable lane_ => runsOn_laneDisable lane_
  | .laneRetrain lane_ => runsOn_laneRetrain lane_
  | .trainingControlWord lane_ word_ => runsOn_trainingControlWord lane_ word_
  | .prbsWindowEnd lane_ errors_ => runsOn_prbsWindowEnd lane_ errors_
  | .laneActive lane_ => runsOn_laneActive lane_
  | .openLoopTrainingEnd lane_ => runsOn_openLoopTrainingEnd lane_
  | .trainingAttemptTimeout lane_ => runsOn_trainingAttemptTimeout lane_
  | .backoffEnd lane_ => runsOn_backoffEnd lane_
  | .laneStable lane_ => runsOn_laneStable lane_
  | .lanePermanent lane_ => runsOn_lanePermanent lane_
  | .codewordReceive lane_ word_ slip_ => runsOn_codewordReceive lane_ word_ slip_
  | .rxLossOfLock lane_ cause_ => runsOn_rxLossOfLock lane_ cause_
  | .txLossOfLock lane_ cause_ => runsOn_txLossOfLock lane_ cause_
  | .restripeDone => runsOn_restripeDone
  | .eqCommit => runsOn_eqCommit
  | .eqSave => runsOn_eqSave
  | .ackTimeout => runsOn_ackTimeout
  | .retainExpire => runsOn_retainExpire
  | .dataFrameSend stream_ => runsOn_dataFrameSend stream_
  | .alignReceive lane_ => runsOn_alignReceive lane_
  | .dataBlockReceive => runsOn_dataBlockReceive
  | .dframeReceive => runsOn_dframeReceive
  | .ackReceive => runsOn_ackReceive
  | .ackRepeat => runsOn_ackRepeat
  | .lstatusReceive => runsOn_lstatusReceive
  | .lstatusPeriodic => runsOn_lstatusPeriodic
  | .rdCommand => runsOn_rdCommand
  | .wrCommand => runsOn_wrCommand
  | .authWr => runsOn_authWr
  | .authLockoutEnd => runsOn_authLockoutEnd
  | .trigMessage => runsOn_trigMessage
  | .tsyncMessage => runsOn_tsyncMessage
  | .tsyncLoadTick phase_ => runsOn_tsyncLoadTick phase_
  | .ringTailWrite ring_ tail_ => runsOn_ringTailWrite ring_ tail_
  | .descriptorFetch ring_ desc_ => runsOn_descriptorFetch ring_ desc_
  | .readoutDescriptorComplete ring_ => runsOn_readoutDescriptorComplete ring_
  | .readoutTimeout ring_ => runsOn_readoutTimeout ring_
  | .h2dDescriptorComplete ring_ words_ failAt_ => runsOn_h2dDescriptorComplete ring_ words_ failAt_
  | .ringEnable ring_ => runsOn_ringEnable ring_
  | .ringDisable ring_ => runsOn_ringDisable ring_
  | .ringAbort ring_ => runsOn_ringAbort ring_
  | .ringReset ring_ => runsOn_ringReset ring_
  | .endpointReset => runsOn_endpointReset
  | .pcieLinkDown => runsOn_pcieLinkDown
  | .pcieLinkChange speed_ width_ => runsOn_pcieLinkChange speed_ width_
  | .barPartialWrite addr_ data_ enables_ => runsOn_barPartialWrite addr_ data_ enables_
  | .vecEoi vector_ => runsOn_vecEoi vector_
  | .msixUnmask vector_ => runsOn_msixUnmask vector_
  | .eventLogRead => runsOn_eventLogRead
  | .srcTestWrite word_ bits_ => runsOn_srcTestWrite word_ bits_
  | .sealCommand route_ => runsOn_sealCommand route_
  | .sealComplete => runsOn_sealComplete
  | .sealSave => runsOn_sealSave
  | .unseal route_ slot_ data_ => runsOn_unseal route_ slot_ data_
  | .unsealComplete => runsOn_unsealComplete
  | .trimRefresh trimUpsets_ cfgUpsets_ => runsOn_trimRefresh trimUpsets_ cfgUpsets_
  | .keyProgram => runsOn_keyProgram
  | .keyProgramDone ok_ => runsOn_keyProgramDone ok_
  | .keyRevoke route_ slot_ data_ => runsOn_keyRevoke route_ slot_ data_
  | .authWriteSubmit route_ => runsOn_authWriteSubmit route_
  | .debugUnlock route_ slot_ data_ => runsOn_debugUnlock route_ slot_ data_
  | .erasureDone => runsOn_erasureDone
  | .auditEntryClose => runsOn_auditEntryClose
  | .auditWrite => runsOn_auditWrite
  | .testPortAuthCmd block_ => runsOn_testPortAuthCmd block_
  | .testPortLockedInstruction => runsOn_testPortLockedInstruction
  | .railGood rail_ => runsOn_railGood rail_
  | .railFault rail_ => runsOn_railFault rail_
  | .railOk rail_ => runsOn_railOk rail_
  | .powerOnResetEnd => runsOn_powerOnResetEnd
  | .startupStepDone dose_ => runsOn_startupStepDone dose_
  | .startStall => runsOn_startStall
  | .levelRequestWrite data_ => runsOn_levelRequestWrite data_
  | .deviceSoftReset data_ => runsOn_deviceSoftReset data_
  | .resetPin => runsOn_resetPin
  | .domainRequestWrite high_ data_ => runsOn_domainRequestWrite high_ data_
  | .domainSwitchOnDone => runsOn_domainSwitchOnDone
  | .domainSwitchTimeout => runsOn_domainSwitchTimeout
  | .domainSwitchOff => runsOn_domainSwitchOff
  | .domainDrainTimeout => runsOn_domainDrainTimeout
  | .sensorReading sensor_ raw_ => runsOn_sensorReading sensor_ raw_
  | .sensorNoReading sensor_ => runsOn_sensorNoReading sensor_
  | .sensorAutoClear sensor_ => runsOn_sensorAutoClear sensor_
  | .sensorClearWrite word_ bits_ => runsOn_sensorClearWrite word_ bits_
  | .diodeMeasure lowUv_ highUv_ => runsOn_diodeMeasure lowUv_ highUv_
  | .throttleUpdate => runsOn_throttleUpdate
  | .pauseEnd kind_ => runsOn_pauseEnd kind_
  | .curveCommit => runsOn_curveCommit
  | .curveSave => runsOn_curveSave
  | .quenchLimitWrite data_ => runsOn_quenchLimitWrite data_
  | .quenchRestart => runsOn_quenchRestart
  | .journalCommit => runsOn_journalCommit
  | .journalWriteDone ok_ => runsOn_journalWriteDone ok_
  | .nvsPatrolRead page_ finding_ => runsOn_nvsPatrolRead page_ finding_
  | .maskSave => runsOn_maskSave
  | .failedClustersUpdate => runsOn_failedClustersUpdate
  | .replaceCauseClear bits_ => runsOn_replaceCauseClear bits_
  | .replaceEventRepeat => runsOn_replaceEventRepeat
  | .doseRead doses_ => runsOn_doseRead doses_
  | .upsetHour => runsOn_upsetHour
  | .healthLogWrite => runsOn_healthLogWrite
  | .refclkLoss => runsOn_refclkLoss
  | .codewordTransmit => runsOn_codewordTransmit
  | .dmaWriteRequest ring_ => runsOn_dmaWriteRequest ring_
  | .pcieLinkUp speed_ width_ => runsOn_pcieLinkUp speed_ width_
  | .configSpaceWrite cfg_ => runsOn_configSpaceWrite cfg_
  | .aerError correctable_ => runsOn_aerError correctable_
  | .healthLogEntryClose => runsOn_healthLogEntryClose
  | .sramScrub findings_ => runsOn_sramScrub findings_
  | .tmrVoteCorrection page_ => runsOn_tmrVoteCorrection page_

theorem exec_eq_run (c : Instr) (s : State) : ∃ f, exec c s = run f s := runsOn c s

end Sys2Proof.Machine
end

