-- ==== Sys2Proof/Laws/Pages.lean ====
section
/-! SUPPORT. The pages lie at different addresses. -/

namespace Sys2Proof.Machine

/-- The page found at the base of a page is that page. -/
theorem pageAt_pageBase (p : Page) : pageAt (pageBase p) = some p := by
  cases p with
  | reg d n =>
    fin_cases d <;> fin_cases n <;> rfl
  | dsp c => fin_cases c <;> rfl
  | die d => fin_cases d <;> rfl
  | pix d => fin_cases d <;> rfl
  | conv d => fin_cases d <;> rfl
  | _ => rfl

theorem pageBase_inj {p q : Page} (h : pageBase p = pageBase q) : p = q := by
  have := congrArg pageAt h
  simpa [pageAt_pageBase] using this

end Sys2Proof.Machine
end

