-- ==== Sys2Proof/Laws/SMap.lean ====
section
/-! SUPPORT. What the operations on sparse tables do: reading after writing, and the canonical form, which every one of them keeps. -/

namespace Sys2Proof.Machine

variable {α : Type}

@[simp] theorem SMap.get_nil (dflt : Nat → α) (k : Nat) : SMap.get dflt [] k = dflt k := rfl

theorem SMap.get_erase_self (dflt : Nat → α) (m : List (Nat × α)) (k : Nat) : SMap.get dflt (SMap.erase m k) k = dflt k := by
  induction m with
  | nil => rfl
  | cons p m ih => obtain ⟨a, v⟩ := p; simp only [SMap.erase]; split <;> simp_all [SMap.get]

theorem SMap.get_erase_ne (dflt : Nat → α) (m : List (Nat × α)) {k j : Nat} (h : j ≠ k) :
    SMap.get dflt (SMap.erase m k) j = SMap.get dflt m j := by
  induction m with
  | nil => rfl
  | cons p m ih =>
    obtain ⟨a, v⟩ := p
    simp only [SMap.erase, SMap.get]
    split
    · next e => rw [if_neg (by omega), ih]
    · simp only [SMap.get, ih]

theorem SMap.get_insert_self (dflt : Nat → α) (m : List (Nat × α)) (k : Nat) (v : α) (h : ∀ p ∈ m, p.1 ≠ k) :
    SMap.get dflt (SMap.insert k v m) k = v := by
  induction m with
  | nil => simp [SMap.insert, SMap.get]
  | cons p m ih =>
    obtain ⟨a, w⟩ := p
    simp only [SMap.insert]
    split
    · simp [SMap.get]
    · have ha : a ≠ k := h (a, w) (by simp)
      simp only [SMap.get, if_neg ha]
      exact ih fun p hp => h p (by simp [hp])

theorem SMap.get_insert_ne (dflt : Nat → α) (m : List (Nat × α)) {k j : Nat} (v : α) (h : j ≠ k) :
    SMap.get dflt (SMap.insert k v m) j = SMap.get dflt m j := by
  induction m with
  | nil => simp [SMap.insert, SMap.get, Ne.symm h]
  | cons p m ih =>
    obtain ⟨a, w⟩ := p
    simp only [SMap.insert]
    split
    · simp [SMap.get, Ne.symm h]
    · simp only [SMap.get, ih]

theorem SMap.erase_ne (m : List (Nat × α)) (k : Nat) : ∀ p ∈ SMap.erase m k, p.1 ≠ k := by
  induction m with
  | nil => simp [SMap.erase]
  | cons p m ih =>
    obtain ⟨a, v⟩ := p
    simp only [SMap.erase]
    split
    · exact ih
    · next ha =>
      intro q hq
      rcases List.mem_cons.mp hq with h | h
      · subst h; exact ha
      · exact ih q h

/-- Reading a key after it was set gives the value set. -/
@[simp] theorem SMap.get_set_self [DecidableEq α] (dflt : Nat → α) (m : List (Nat × α)) (k : Nat) (v : α) :
    SMap.get dflt (SMap.set dflt m k v) k = v := by
  unfold SMap.set
  split
  · next h => rw [SMap.get_erase_self, h]
  · exact SMap.get_insert_self _ _ _ _ (SMap.erase_ne m k)

/-- Setting one key leaves every other as it was. -/
theorem SMap.get_set_ne [DecidableEq α] (dflt : Nat → α) (m : List (Nat × α)) {k j : Nat} (v : α) (h : j ≠ k) :
    SMap.get dflt (SMap.set dflt m k v) j = SMap.get dflt m j := by
  unfold SMap.set
  split
  · exact SMap.get_erase_ne _ _ h
  · rw [SMap.get_insert_ne _ _ _ h, SMap.get_erase_ne _ _ h]

theorem SMap.get_set [DecidableEq α] (dflt : Nat → α) (m : List (Nat × α)) (k j : Nat) (v : α) :
    SMap.get dflt (SMap.set dflt m k v) j = if j = k then v else SMap.get dflt m j := by
  split
  · next h => subst h; exact SMap.get_set_self _ _ _ _
  · next h => exact SMap.get_set_ne _ _ _ h

@[simp] theorem SMap.get_upd_self [DecidableEq α] (dflt : Nat → α) (m : List (Nat × α)) (k : Nat) (f : α → α) :
    SMap.get dflt (SMap.upd dflt m k f) k = f (SMap.get dflt m k) := SMap.get_set_self _ _ _ _

theorem SMap.get_upd_ne [DecidableEq α] (dflt : Nat → α) (m : List (Nat × α)) {k j : Nat} (f : α → α) (h : j ≠ k) :
    SMap.get dflt (SMap.upd dflt m k f) j = SMap.get dflt m j := SMap.get_set_ne _ _ _ h

theorem SMap.get_upd [DecidableEq α] (dflt : Nat → α) (m : List (Nat × α)) (k j : Nat) (f : α → α) :
    SMap.get dflt (SMap.upd dflt m k f) j = if j = k then f (SMap.get dflt m k) else SMap.get dflt m j := SMap.get_set _ _ _ _ _

theorem SMap.get_clear (dflt : Nat → α) (m : List (Nat × α)) (lo hi k : Nat) :
    SMap.get dflt (SMap.clear m lo hi) k = if lo ≤ k ∧ k < hi then dflt k else SMap.get dflt m k := by
  induction m with
  | nil => simp [SMap.clear]
  | cons p m ih =>
    obtain ⟨a, v⟩ := p
    simp only [SMap.clear, List.filter_cons] at ih ⊢
    by_cases h : (decide (a < lo) || decide (hi ≤ a)) = true
    · rw [if_pos h]
      simp only [SMap.get]
      split
      · next e => subst e; rw [if_neg]; simp only [Bool.or_eq_true, decide_eq_true_eq] at h; omega
      · exact ih
    · rw [if_neg h, ih]
      simp only [SMap.get]
      simp only [Bool.or_eq_true, decide_eq_true_eq] at h
      by_cases hk : lo ≤ k ∧ k < hi
      · simp [hk]
      · rw [if_neg hk, if_neg hk, if_neg (by omega)]

/-! ### The canonical form -/

section
variable [DecidableEq α]

theorem SMap.wfFrom_cons (dflt : Nat → α) (lo : Option Nat) (a : Nat) (v : α) (m : List (Nat × α)) :
    SMap.wfFrom dflt lo ((a, v) :: m) = true ↔ (∀ l, lo = some l → l < a) ∧ v ≠ dflt a ∧ SMap.wfFrom dflt (some a) m = true := by
  cases lo <;> simp [SMap.wfFrom, and_assoc]

/-- A table in canonical form after a key is so after any smaller one. -/
theorem SMap.wfFrom_mono (dflt : Nat → α) {lo lo' : Option Nat} (h : ∀ l, lo' = some l → ∃ l', lo = some l' ∧ l ≤ l') {m : List (Nat × α)}
    (hm : SMap.wfFrom dflt lo m = true) : SMap.wfFrom dflt lo' m = true := by
  cases m with
  | nil => rfl
  | cons p m =>
    obtain ⟨a, v⟩ := p
    rw [SMap.wfFrom_cons] at hm ⊢
    refine ⟨fun l hl => ?_, hm.2⟩
    obtain ⟨l', h1, h2⟩ := h l hl
    have := hm.1 l' h1
    omega

theorem SMap.wfFrom_erase (dflt : Nat → α) (k : Nat) {lo : Option Nat} {m : List (Nat × α)} (h : SMap.wfFrom dflt lo m = true) :
    SMap.wfFrom dflt lo (SMap.erase m k) = true := by
  induction m generalizing lo with
  | nil => rfl
  | cons p m ih =>
    obtain ⟨a, v⟩ := p
    rw [SMap.wfFrom_cons] at h
    simp only [SMap.erase]
    split
    · exact SMap.wfFrom_mono dflt (fun l hl => ⟨a, rfl, Nat.le_of_lt (h.1 l hl)⟩) (ih h.2.2)
    · rw [SMap.wfFrom_cons]; exact ⟨h.1, h.2.1, ih h.2.2⟩

theorem SMap.wfFrom_insert (dflt : Nat → α) {k : Nat} {v : α} (hv : v ≠ dflt k) {lo : Option Nat} {m : List (Nat × α)}
    (h : SMap.wfFrom dflt lo m = true) (hk : ∀ p ∈ m, p.1 ≠ k) (hl : ∀ l, lo = some l → l < k) :
    SMap.wfFrom dflt lo (SMap.insert k v m) = true := by
  induction m generalizing lo with
  | nil => simp only [SMap.insert]; rw [SMap.wfFrom_cons]; exact ⟨hl, hv, rfl⟩
  | cons p m ih =>
    obtain ⟨a, w⟩ := p
    have hw := (SMap.wfFrom_cons dflt lo a w m).mp h
    simp only [SMap.insert]
    split
    · next hka => rw [SMap.wfFrom_cons, SMap.wfFrom_cons]; exact ⟨hl, hv, fun l e => by cases e; exact hka, hw.2.1, hw.2.2⟩
    · next hka =>
      have ha : a ≠ k := hk (a, w) (by simp)
      rw [SMap.wfFrom_cons]
      exact ⟨hw.1, hw.2.1, ih hw.2.2 (fun p hp => hk p (by simp [hp])) (fun l e => by cases e; omega)⟩

/-- Setting a key keeps the canonical form. -/
theorem SMap.wf_set (dflt : Nat → α) (k : Nat) (v : α) {m : List (Nat × α)} (h : SMap.wf dflt m = true) : SMap.wf dflt (SMap.set dflt m k v) = true := by
  unfold SMap.set
  have he := SMap.wfFrom_erase dflt k h
  split
  · exact he
  · next hv => exact SMap.wfFrom_insert dflt hv he (SMap.erase_ne m k) (fun l e => by cases e)

/-- Changing what a key holds keeps the canonical form. -/
theorem SMap.wf_upd (dflt : Nat → α) (k : Nat) (f : α → α) {m : List (Nat × α)} (h : SMap.wf dflt m = true) :
    SMap.wf dflt (SMap.upd dflt m k f) = true := SMap.wf_set _ _ _ h

/-- Setting a row of keys keeps the canonical form. -/
theorem SMap.wf_setAll (dflt : Nat → α) (lo : Nat) (vs : List α) {m : List (Nat × α)} (h : SMap.wf dflt m = true) :
    SMap.wf dflt (SMap.setAll dflt m lo vs) = true := by
  induction vs generalizing lo m with
  | nil => exact h
  | cons v vs ih => exact ih (lo + 1) (SMap.wf_set _ _ _ h)

theorem SMap.wfFrom_filter (dflt : Nat → α) (keep : Nat × α → Bool) {lo : Option Nat} {m : List (Nat × α)} (h : SMap.wfFrom dflt lo m = true) :
    SMap.wfFrom dflt lo (m.filter keep) = true := by
  induction m generalizing lo with
  | nil => rfl
  | cons p m ih =>
    obtain ⟨a, v⟩ := p
    rw [SMap.wfFrom_cons] at h
    rw [List.filter_cons]
    split
    · rw [SMap.wfFrom_cons]; exact ⟨h.1, h.2.1, ih h.2.2⟩
    · exact SMap.wfFrom_mono dflt (fun l hl => ⟨a, rfl, Nat.le_of_lt (h.1 l hl)⟩) (ih h.2.2)

/-- Clearing a range keeps the canonical form. -/
theorem SMap.wf_clear (dflt : Nat → α) (lo hi : Nat) {m : List (Nat × α)} (h : SMap.wf dflt m = true) : SMap.wf dflt (SMap.clear m lo hi) = true :=
  SMap.wfFrom_filter dflt _ h

end

end Sys2Proof.Machine
end

