-- ==== Sys2Proof/Laws/Register.lean ====
section
/-! SUPPORT. Reading registers and fields after writing them. -/

namespace Sys2Proof.Machine

/-- Bit `i` of a word whose field was replaced. -/
theorem Fld.getLsbD_put (f : Fld) (w : W32) (v i : Nat) (hi : i < 32) :
    (f.put w v).getLsbD i = if f.lsb ≤ i ∧ i < f.lsb + f.width then v.testBit (i - f.lsb) else w.getLsbD i := by
  simp only [Fld.put, BitVec.getLsbD_or, BitVec.getLsbD_and, BitVec.getLsbD_not, BitVec.getLsbD_ofNat, hi, decide_true,
    Bool.true_and, Nat.testBit_mul_two_pow, Nat.testBit_two_pow_sub_one, Nat.testBit_mod_two_pow]
  by_cases h1 : f.lsb ≤ i
  · by_cases h2 : i < f.lsb + f.width
    · have : i - f.lsb < f.width := by omega
      simp [h1, h2, this]
    · have : ¬ i - f.lsb < f.width := by omega
      simp [h1, h2, this]
  · simp [h1]

/-- Bit `i` of a field. -/
theorem Fld.testBit_of (f : Fld) (w : W32) (i : Nat) : (f.of w).testBit i = (decide (i < f.width) && w.getLsbD (f.lsb + i)) := by
  simp only [Fld.of, Nat.testBit_mod_two_pow, Nat.testBit_div_two_pow, BitVec.getLsbD, Nat.add_comm]

/-- A field reads the low bits of what was put into it. -/
theorem Fld.of_put (f : Fld) (w : W32) (v : Nat) (h : f.lsb + f.width ≤ 32) : f.of (f.put w v) = v % 2 ^ f.width := by
  apply Nat.eq_of_testBit_eq
  intro i
  rw [Fld.testBit_of, Nat.testBit_mod_two_pow]
  by_cases hi : i < f.width
  · rw [Fld.getLsbD_put f w v _ (by omega), if_pos (by omega)]
    simp [hi]
  · simp [hi]

/-- A field that does not overlap the one that was put keeps its value. -/
theorem Fld.of_put_other (f g : Fld) (w : W32) (v : Nat) (hg : g.lsb + g.width ≤ 32)
    (hd : g.lsb + g.width ≤ f.lsb ∨ f.lsb + f.width ≤ g.lsb) : g.of (f.put w v) = g.of w := by
  apply Nat.eq_of_testBit_eq
  intro i
  rw [Fld.testBit_of, Fld.testBit_of]
  by_cases hi : i < g.width
  · rw [Fld.getLsbD_put f w v _ (by omega), if_neg (by omega)]
  · simp [hi]

theorem Fld.of_lt (f : Fld) (w : W32) : f.of w < 2 ^ f.width := Nat.mod_lt _ (Nat.two_pow_pos _)

/-! ### Registers -/

@[simp] theorem Device.word_setWord_self (d : Device) (a : Nat) (w : W32) : (d.setWord a w).word a = w := SMap.get_set_self _ _ _ _

theorem Device.word_setWord_ne (d : Device) {a b : Nat} (w : W32) (h : b ≠ a) : (d.setWord a w).word b = d.word b := SMap.get_set_ne _ _ _ h

theorem Device.word_setWord (d : Device) (a b : Nat) (w : W32) : (d.setWord a w).word b = if b = a then w else d.word b := SMap.get_set _ _ _ _ _

theorem Device.word_setFld (d : Device) (f : Fld) (v b : Nat) : (d.setFld f v).word b = if b = f.addr then f.put (d.word f.addr) v else d.word b :=
  Device.word_setWord _ _ _ _

theorem Device.word_setFlag (d : Device) (f : Fld) (v : Bool) (b : Nat) :
    (d.setFlag f v).word b = if b = f.addr then f.put (d.word f.addr) v.toNat else d.word b := Device.word_setFld _ _ _ _

theorem Device.word_count (d : Device) (a n b : Nat) :
    (d.count a n).word b = if b = a then BitVec.ofNat 32 (min ((d.word a).toNat + n) 0xFFFFFFFF) else d.word b := Device.word_setWord _ _ _ _

/-- A field reads what was put into it. -/
theorem Device.fld_setFld_self (d : Device) (f : Fld) (v : Nat) (h : f.lsb + f.width ≤ 32) : (d.setFld f v).fld f = v % 2 ^ f.width := by
  simp only [Device.fld, Device.setFld, Device.word_setWord_self]
  exact Fld.of_put f _ v h

/-- A field of another register, or one that does not overlap, keeps its value. -/
theorem Device.fld_setFld_other (d : Device) (f g : Fld) (v : Nat)
    (h : g.addr ≠ f.addr ∨ (g.lsb + g.width ≤ 32 ∧ (g.lsb + g.width ≤ f.lsb ∨ f.lsb + f.width ≤ g.lsb))) : (d.setFld f v).fld g = d.fld g := by
  simp only [Device.fld, Device.setFld]
  by_cases ha : g.addr = f.addr
  · rw [ha, Device.word_setWord_self]
    rcases h with h | h
    · exact absurd ha h
    · exact Fld.of_put_other f g _ v h.1 h.2
  · rw [Device.word_setWord_ne _ _ ha]

theorem Device.flag_setFlag_self (d : Device) (f : Fld) (b : Bool) (h : f.lsb + f.width ≤ 32) (hw : 0 < f.width) : (d.setFlag f b).flag f = b := by
  simp only [Device.flag, Device.setFlag, Device.fld_setFld_self d f _ h]
  have : (1 : Nat) < 2 ^ f.width := Nat.one_lt_two_pow (by omega)
  cases b
  · simp
  · simp only [Bool.toNat_true, Nat.mod_eq_of_lt this]; rfl

theorem Device.flag_setFlag_other (d : Device) (f g : Fld) (b : Bool)
    (h : g.addr ≠ f.addr ∨ (g.lsb + g.width ≤ 32 ∧ (g.lsb + g.width ≤ f.lsb ∨ f.lsb + f.width ≤ g.lsb))) : (d.setFlag f b).flag g = d.flag g := by
  simp only [Device.flag, Device.setFlag, Device.fld_setFld_other d f g _ h]

/-- The value of a counter after an occurrence: one more, up to its greatest value. -/
theorem Device.count_toNat (d : Device) (a n : Nat) : ((d.count a n).word a).toNat = min ((d.word a).toNat + n) 0xFFFFFFFF := by
  rw [Device.word_count, if_pos rfl, BitVec.toNat_ofNat]
  omega

end Sys2Proof.Machine
end

