-- ==== Sys2Proof/Laws/State.lean ====
section
/-! SUPPORT. What each update of the state leaves as it was: one lemma for each field and each update, true by unfolding. -/

namespace Sys2Proof.Machine

@[simp] theorem Device.setWord_part (d : Device) (a : Nat) (w : W32) : (d.setWord a w).part = d.part := rfl
@[simp] theorem Device.setWord_clock (d : Device) (a : Nat) (w : W32) : (d.setWord a w).clock = d.clock := rfl
@[simp] theorem Device.setWord_free (d : Device) (a : Nat) (w : W32) : (d.setWord a w).free = d.free := rfl
@[simp] theorem Device.setWord_evSticky (d : Device) (a : Nat) (w : W32) : (d.setWord a w).evSticky = d.evSticky := rfl
@[simp] theorem Device.setWord_evEnable (d : Device) (a : Nat) (w : W32) : (d.setWord a w).evEnable = d.evEnable := rfl
@[simp] theorem Device.setWord_out (d : Device) (a : Nat) (w : W32) : (d.setWord a w).out = d.out := rfl
@[simp] theorem Device.setWord_rdata (d : Device) (a : Nat) (w : W32) : (d.setWord a w).rdata = d.rdata := rfl
@[simp] theorem Device.setWord_wrRefused (d : Device) (a : Nat) (w : W32) : (d.setWord a w).wrRefused = d.wrRefused := rfl
@[simp] theorem Device.setWord_pwr (d : Device) (a : Nat) (w : W32) : (d.setWord a w).pwr = d.pwr := rfl
@[simp] theorem Device.setWord_thm (d : Device) (a : Nat) (w : W32) : (d.setWord a w).thm = d.thm := rfl
@[simp] theorem Device.setWord_hlt (d : Device) (a : Nat) (w : W32) : (d.setWord a w).hlt = d.hlt := rfl
@[simp] theorem Device.setWord_nvs (d : Device) (a : Nat) (w : W32) : (d.setWord a w).nvs = d.nvs := rfl
@[simp] theorem Device.setWord_tim (d : Device) (a : Nat) (w : W32) : (d.setWord a w).tim = d.tim := rfl
@[simp] theorem Device.setWord_evb (d : Device) (a : Nat) (w : W32) : (d.setWord a w).evb = d.evb := rfl
@[simp] theorem Device.setWord_cores (d : Device) (a : Nat) (w : W32) : (d.setWord a w).cores = d.cores := rfl
@[simp] theorem Device.setWord_pci (d : Device) (a : Nat) (w : W32) : (d.setWord a w).pci = d.pci := rfl
@[simp] theorem Device.setWord_evc (d : Device) (a : Nat) (w : W32) : (d.setWord a w).evc = d.evc := rfl
@[simp] theorem Device.setWord_sea (d : Device) (a : Nat) (w : W32) : (d.setWord a w).sea = d.sea := rfl
@[simp] theorem Device.setWord_sec (d : Device) (a : Nat) (w : W32) : (d.setWord a w).sec = d.sec := rfl
@[simp] theorem Device.setWord_arr (d : Device) (a : Nat) (w : W32) : (d.setWord a w).arr = d.arr := rfl
@[simp] theorem Device.setWord_wadcs (d : Device) (a : Nat) (w : W32) : (d.setWord a w).wadcs = d.wadcs := rfl
@[simp] theorem Device.setWord_mon (d : Device) (a : Nat) (w : W32) : (d.setWord a w).mon = d.mon := rfl
@[simp] theorem Device.setWord_cdr (d : Device) (a : Nat) (w : W32) : (d.setWord a w).cdr = d.cdr := rfl
@[simp] theorem Device.setWord_trg (d : Device) (a : Nat) (w : W32) : (d.setWord a w).trg = d.trg := rfl
@[simp] theorem Device.setWord_his (d : Device) (a : Nat) (w : W32) : (d.setWord a w).his = d.his := rfl
@[simp] theorem Device.setWord_sta (d : Device) (a : Nat) (w : W32) : (d.setWord a w).sta = d.sta := rfl
@[simp] theorem Device.setWord_lnk (d : Device) (a : Nat) (w : W32) : (d.setWord a w).lnk = d.lnk := rfl
@[simp] theorem Device.setWord_zvl (d : Device) (a : Nat) (w : W32) : (d.setWord a w).zvl = d.zvl := rfl
@[simp] theorem Device.setWord_staging (d : Device) (a : Nat) (w : W32) : (d.setWord a w).staging = d.staging := rfl
@[simp] theorem Device.setWord_dspTrig (d : Device) (a : Nat) (w : W32) : (d.setWord a w).dspTrig = d.dspTrig := rfl
@[simp] theorem Device.setWord_eventQ (d : Device) (a : Nat) (w : W32) : (d.setWord a w).eventQ = d.eventQ := rfl
@[simp] theorem Device.setWord_eventLost (d : Device) (a : Nat) (w : W32) : (d.setWord a w).eventLost = d.eventLost := rfl

@[simp] theorem Device.setFld_part (d : Device) (f : Fld) (v : Nat) : (d.setFld f v).part = d.part := rfl
@[simp] theorem Device.setFld_clock (d : Device) (f : Fld) (v : Nat) : (d.setFld f v).clock = d.clock := rfl
@[simp] theorem Device.setFld_free (d : Device) (f : Fld) (v : Nat) : (d.setFld f v).free = d.free := rfl
@[simp] theorem Device.setFld_evSticky (d : Device) (f : Fld) (v : Nat) : (d.setFld f v).evSticky = d.evSticky := rfl
@[simp] theorem Device.setFld_evEnable (d : Device) (f : Fld) (v : Nat) : (d.setFld f v).evEnable = d.evEnable := rfl
@[simp] theorem Device.setFld_out (d : Device) (f : Fld) (v : Nat) : (d.setFld f v).out = d.out := rfl
@[simp] theorem Device.setFld_rdata (d : Device) (f : Fld) (v : Nat) : (d.setFld f v).rdata = d.rdata := rfl
@[simp] theorem Device.setFld_wrRefused (d : Device) (f : Fld) (v : Nat) : (d.setFld f v).wrRefused = d.wrRefused := rfl
@[simp] theorem Device.setFld_pwr (d : Device) (f : Fld) (v : Nat) : (d.setFld f v).pwr = d.pwr := rfl
@[simp] theorem Device.setFld_thm (d : Device) (f : Fld) (v : Nat) : (d.setFld f v).thm = d.thm := rfl
@[simp] theorem Device.setFld_hlt (d : Device) (f : Fld) (v : Nat) : (d.setFld f v).hlt = d.hlt := rfl
@[simp] theorem Device.setFld_nvs (d : Device) (f : Fld) (v : Nat) : (d.setFld f v).nvs = d.nvs := rfl
@[simp] theorem Device.setFld_tim (d : Device) (f : Fld) (v : Nat) : (d.setFld f v).tim = d.tim := rfl
@[simp] theorem Device.setFld_evb (d : Device) (f : Fld) (v : Nat) : (d.setFld f v).evb = d.evb := rfl
@[simp] theorem Device.setFld_cores (d : Device) (f : Fld) (v : Nat) : (d.setFld f v).cores = d.cores := rfl
@[simp] theorem Device.setFld_pci (d : Device) (f : Fld) (v : Nat) : (d.setFld f v).pci = d.pci := rfl
@[simp] theorem Device.setFld_evc (d : Device) (f : Fld) (v : Nat) : (d.setFld f v).evc = d.evc := rfl
@[simp] theorem Device.setFld_sea (d : Device) (f : Fld) (v : Nat) : (d.setFld f v).sea = d.sea := rfl
@[simp] theorem Device.setFld_sec (d : Device) (f : Fld) (v : Nat) : (d.setFld f v).sec = d.sec := rfl
@[simp] theorem Device.setFld_arr (d : Device) (f : Fld) (v : Nat) : (d.setFld f v).arr = d.arr := rfl
@[simp] theorem Device.setFld_wadcs (d : Device) (f : Fld) (v : Nat) : (d.setFld f v).wadcs = d.wadcs := rfl
@[simp] theorem Device.setFld_mon (d : Device) (f : Fld) (v : Nat) : (d.setFld f v).mon = d.mon := rfl
@[simp] theorem Device.setFld_cdr (d : Device) (f : Fld) (v : Nat) : (d.setFld f v).cdr = d.cdr := rfl
@[simp] theorem Device.setFld_trg (d : Device) (f : Fld) (v : Nat) : (d.setFld f v).trg = d.trg := rfl
@[simp] theorem Device.setFld_his (d : Device) (f : Fld) (v : Nat) : (d.setFld f v).his = d.his := rfl
@[simp] theorem Device.setFld_sta (d : Device) (f : Fld) (v : Nat) : (d.setFld f v).sta = d.sta := rfl
@[simp] theorem Device.setFld_lnk (d : Device) (f : Fld) (v : Nat) : (d.setFld f v).lnk = d.lnk := rfl
@[simp] theorem Device.setFld_zvl (d : Device) (f : Fld) (v : Nat) : (d.setFld f v).zvl = d.zvl := rfl
@[simp] theorem Device.setFld_staging (d : Device) (f : Fld) (v : Nat) : (d.setFld f v).staging = d.staging := rfl
@[simp] theorem Device.setFld_dspTrig (d : Device) (f : Fld) (v : Nat) : (d.setFld f v).dspTrig = d.dspTrig := rfl
@[simp] theorem Device.setFld_eventQ (d : Device) (f : Fld) (v : Nat) : (d.setFld f v).eventQ = d.eventQ := rfl
@[simp] theorem Device.setFld_eventLost (d : Device) (f : Fld) (v : Nat) : (d.setFld f v).eventLost = d.eventLost := rfl

@[simp] theorem Device.setFlag_part (d : Device) (f : Fld) (b : Bool) : (d.setFlag f b).part = d.part := rfl
@[simp] theorem Device.setFlag_clock (d : Device) (f : Fld) (b : Bool) : (d.setFlag f b).clock = d.clock := rfl
@[simp] theorem Device.setFlag_free (d : Device) (f : Fld) (b : Bool) : (d.setFlag f b).free = d.free := rfl
@[simp] theorem Device.setFlag_evSticky (d : Device) (f : Fld) (b : Bool) : (d.setFlag f b).evSticky = d.evSticky := rfl
@[simp] theorem Device.setFlag_evEnable (d : Device) (f : Fld) (b : Bool) : (d.setFlag f b).evEnable = d.evEnable := rfl
@[simp] theorem Device.setFlag_out (d : Device) (f : Fld) (b : Bool) : (d.setFlag f b).out = d.out := rfl
@[simp] theorem Device.setFlag_rdata (d : Device) (f : Fld) (b : Bool) : (d.setFlag f b).rdata = d.rdata := rfl
@[simp] theorem Device.setFlag_wrRefused (d : Device) (f : Fld) (b : Bool) : (d.setFlag f b).wrRefused = d.wrRefused := rfl
@[simp] theorem Device.setFlag_pwr (d : Device) (f : Fld) (b : Bool) : (d.setFlag f b).pwr = d.pwr := rfl
@[simp] theorem Device.setFlag_thm (d : Device) (f : Fld) (b : Bool) : (d.setFlag f b).thm = d.thm := rfl
@[simp] theorem Device.setFlag_hlt (d : Device) (f : Fld) (b : Bool) : (d.setFlag f b).hlt = d.hlt := rfl
@[simp] theorem Device.setFlag_nvs (d : Device) (f : Fld) (b : Bool) : (d.setFlag f b).nvs = d.nvs := rfl
@[simp] theorem Device.setFlag_tim (d : Device) (f : Fld) (b : Bool) : (d.setFlag f b).tim = d.tim := rfl
@[simp] theorem Device.setFlag_evb (d : Device) (f : Fld) (b : Bool) : (d.setFlag f b).evb = d.evb := rfl
@[simp] theorem Device.setFlag_cores (d : Device) (f : Fld) (b : Bool) : (d.setFlag f b).cores = d.cores := rfl
@[simp] theorem Device.setFlag_pci (d : Device) (f : Fld) (b : Bool) : (d.setFlag f b).pci = d.pci := rfl
@[simp] theorem Device.setFlag_evc (d : Device) (f : Fld) (b : Bool) : (d.setFlag f b).evc = d.evc := rfl
@[simp] theorem Device.setFlag_sea (d : Device) (f : Fld) (b : Bool) : (d.setFlag f b).sea = d.sea := rfl
@[simp] theorem Device.setFlag_sec (d : Device) (f : Fld) (b : Bool) : (d.setFlag f b).sec = d.sec := rfl
@[simp] theorem Device.setFlag_arr (d : Device) (f : Fld) (b : Bool) : (d.setFlag f b).arr = d.arr := rfl
@[simp] theorem Device.setFlag_wadcs (d : Device) (f : Fld) (b : Bool) : (d.setFlag f b).wadcs = d.wadcs := rfl
@[simp] theorem Device.setFlag_mon (d : Device) (f : Fld) (b : Bool) : (d.setFlag f b).mon = d.mon := rfl
@[simp] theorem Device.setFlag_cdr (d : Device) (f : Fld) (b : Bool) : (d.setFlag f b).cdr = d.cdr := rfl
@[simp] theorem Device.setFlag_trg (d : Device) (f : Fld) (b : Bool) : (d.setFlag f b).trg = d.trg := rfl
@[simp] theorem Device.setFlag_his (d : Device) (f : Fld) (b : Bool) : (d.setFlag f b).his = d.his := rfl
@[simp] theorem Device.setFlag_sta (d : Device) (f : Fld) (b : Bool) : (d.setFlag f b).sta = d.sta := rfl
@[simp] theorem Device.setFlag_lnk (d : Device) (f : Fld) (b : Bool) : (d.setFlag f b).lnk = d.lnk := rfl
@[simp] theorem Device.setFlag_zvl (d : Device) (f : Fld) (b : Bool) : (d.setFlag f b).zvl = d.zvl := rfl
@[simp] theorem Device.setFlag_staging (d : Device) (f : Fld) (b : Bool) : (d.setFlag f b).staging = d.staging := rfl
@[simp] theorem Device.setFlag_dspTrig (d : Device) (f : Fld) (b : Bool) : (d.setFlag f b).dspTrig = d.dspTrig := rfl
@[simp] theorem Device.setFlag_eventQ (d : Device) (f : Fld) (b : Bool) : (d.setFlag f b).eventQ = d.eventQ := rfl
@[simp] theorem Device.setFlag_eventLost (d : Device) (f : Fld) (b : Bool) : (d.setFlag f b).eventLost = d.eventLost := rfl

@[simp] theorem Device.count_part (d : Device) (a n : Nat) : (d.count a n).part = d.part := rfl
@[simp] theorem Device.count_clock (d : Device) (a n : Nat) : (d.count a n).clock = d.clock := rfl
@[simp] theorem Device.count_free (d : Device) (a n : Nat) : (d.count a n).free = d.free := rfl
@[simp] theorem Device.count_evSticky (d : Device) (a n : Nat) : (d.count a n).evSticky = d.evSticky := rfl
@[simp] theorem Device.count_evEnable (d : Device) (a n : Nat) : (d.count a n).evEnable = d.evEnable := rfl
@[simp] theorem Device.count_out (d : Device) (a n : Nat) : (d.count a n).out = d.out := rfl
@[simp] theorem Device.count_rdata (d : Device) (a n : Nat) : (d.count a n).rdata = d.rdata := rfl
@[simp] theorem Device.count_wrRefused (d : Device) (a n : Nat) : (d.count a n).wrRefused = d.wrRefused := rfl
@[simp] theorem Device.count_pwr (d : Device) (a n : Nat) : (d.count a n).pwr = d.pwr := rfl
@[simp] theorem Device.count_thm (d : Device) (a n : Nat) : (d.count a n).thm = d.thm := rfl
@[simp] theorem Device.count_hlt (d : Device) (a n : Nat) : (d.count a n).hlt = d.hlt := rfl
@[simp] theorem Device.count_nvs (d : Device) (a n : Nat) : (d.count a n).nvs = d.nvs := rfl
@[simp] theorem Device.count_tim (d : Device) (a n : Nat) : (d.count a n).tim = d.tim := rfl
@[simp] theorem Device.count_evb (d : Device) (a n : Nat) : (d.count a n).evb = d.evb := rfl
@[simp] theorem Device.count_cores (d : Device) (a n : Nat) : (d.count a n).cores = d.cores := rfl
@[simp] theorem Device.count_pci (d : Device) (a n : Nat) : (d.count a n).pci = d.pci := rfl
@[simp] theorem Device.count_evc (d : Device) (a n : Nat) : (d.count a n).evc = d.evc := rfl
@[simp] theorem Device.count_sea (d : Device) (a n : Nat) : (d.count a n).sea = d.sea := rfl
@[simp] theorem Device.count_sec (d : Device) (a n : Nat) : (d.count a n).sec = d.sec := rfl
@[simp] theorem Device.count_arr (d : Device) (a n : Nat) : (d.count a n).arr = d.arr := rfl
@[simp] theorem Device.count_wadcs (d : Device) (a n : Nat) : (d.count a n).wadcs = d.wadcs := rfl
@[simp] theorem Device.count_mon (d : Device) (a n : Nat) : (d.count a n).mon = d.mon := rfl
@[simp] theorem Device.count_cdr (d : Device) (a n : Nat) : (d.count a n).cdr = d.cdr := rfl
@[simp] theorem Device.count_trg (d : Device) (a n : Nat) : (d.count a n).trg = d.trg := rfl
@[simp] theorem Device.count_his (d : Device) (a n : Nat) : (d.count a n).his = d.his := rfl
@[simp] theorem Device.count_sta (d : Device) (a n : Nat) : (d.count a n).sta = d.sta := rfl
@[simp] theorem Device.count_lnk (d : Device) (a n : Nat) : (d.count a n).lnk = d.lnk := rfl
@[simp] theorem Device.count_zvl (d : Device) (a n : Nat) : (d.count a n).zvl = d.zvl := rfl
@[simp] theorem Device.count_staging (d : Device) (a n : Nat) : (d.count a n).staging = d.staging := rfl
@[simp] theorem Device.count_dspTrig (d : Device) (a n : Nat) : (d.count a n).dspTrig = d.dspTrig := rfl
@[simp] theorem Device.count_eventQ (d : Device) (a n : Nat) : (d.count a n).eventQ = d.eventQ := rfl
@[simp] theorem Device.count_eventLost (d : Device) (a n : Nat) : (d.count a n).eventLost = d.eventLost := rfl

@[simp] theorem Device.resetRange_part (d : Device) (lo hi : Nat) : (d.resetRange lo hi).part = d.part := rfl
@[simp] theorem Device.resetRange_clock (d : Device) (lo hi : Nat) : (d.resetRange lo hi).clock = d.clock := rfl
@[simp] theorem Device.resetRange_free (d : Device) (lo hi : Nat) : (d.resetRange lo hi).free = d.free := rfl
@[simp] theorem Device.resetRange_evSticky (d : Device) (lo hi : Nat) : (d.resetRange lo hi).evSticky = d.evSticky := rfl
@[simp] theorem Device.resetRange_evEnable (d : Device) (lo hi : Nat) : (d.resetRange lo hi).evEnable = d.evEnable := rfl
@[simp] theorem Device.resetRange_out (d : Device) (lo hi : Nat) : (d.resetRange lo hi).out = d.out := rfl
@[simp] theorem Device.resetRange_rdata (d : Device) (lo hi : Nat) : (d.resetRange lo hi).rdata = d.rdata := rfl
@[simp] theorem Device.resetRange_wrRefused (d : Device) (lo hi : Nat) : (d.resetRange lo hi).wrRefused = d.wrRefused := rfl
@[simp] theorem Device.resetRange_pwr (d : Device) (lo hi : Nat) : (d.resetRange lo hi).pwr = d.pwr := rfl
@[simp] theorem Device.resetRange_thm (d : Device) (lo hi : Nat) : (d.resetRange lo hi).thm = d.thm := rfl
@[simp] theorem Device.resetRange_hlt (d : Device) (lo hi : Nat) : (d.resetRange lo hi).hlt = d.hlt := rfl
@[simp] theorem Device.resetRange_nvs (d : Device) (lo hi : Nat) : (d.resetRange lo hi).nvs = d.nvs := rfl
@[simp] theorem Device.resetRange_tim (d : Device) (lo hi : Nat) : (d.resetRange lo hi).tim = d.tim := rfl
@[simp] theorem Device.resetRange_evb (d : Device) (lo hi : Nat) : (d.resetRange lo hi).evb = d.evb := rfl
@[simp] theorem Device.resetRange_cores (d : Device) (lo hi : Nat) : (d.resetRange lo hi).cores = d.cores := rfl
@[simp] theorem Device.resetRange_pci (d : Device) (lo hi : Nat) : (d.resetRange lo hi).pci = d.pci := rfl
@[simp] theorem Device.resetRange_evc (d : Device) (lo hi : Nat) : (d.resetRange lo hi).evc = d.evc := rfl
@[simp] theorem Device.resetRange_sea (d : Device) (lo hi : Nat) : (d.resetRange lo hi).sea = d.sea := rfl
@[simp] theorem Device.resetRange_sec (d : Device) (lo hi : Nat) : (d.resetRange lo hi).sec = d.sec := rfl
@[simp] theorem Device.resetRange_arr (d : Device) (lo hi : Nat) : (d.resetRange lo hi).arr = d.arr := rfl
@[simp] theorem Device.resetRange_wadcs (d : Device) (lo hi : Nat) : (d.resetRange lo hi).wadcs = d.wadcs := rfl
@[simp] theorem Device.resetRange_mon (d : Device) (lo hi : Nat) : (d.resetRange lo hi).mon = d.mon := rfl
@[simp] theorem Device.resetRange_cdr (d : Device) (lo hi : Nat) : (d.resetRange lo hi).cdr = d.cdr := rfl
@[simp] theorem Device.resetRange_trg (d : Device) (lo hi : Nat) : (d.resetRange lo hi).trg = d.trg := rfl
@[simp] theorem Device.resetRange_his (d : Device) (lo hi : Nat) : (d.resetRange lo hi).his = d.his := rfl
@[simp] theorem Device.resetRange_sta (d : Device) (lo hi : Nat) : (d.resetRange lo hi).sta = d.sta := rfl
@[simp] theorem Device.resetRange_lnk (d : Device) (lo hi : Nat) : (d.resetRange lo hi).lnk = d.lnk := rfl
@[simp] theorem Device.resetRange_zvl (d : Device) (lo hi : Nat) : (d.resetRange lo hi).zvl = d.zvl := rfl
@[simp] theorem Device.resetRange_staging (d : Device) (lo hi : Nat) : (d.resetRange lo hi).staging = d.staging := rfl
@[simp] theorem Device.resetRange_dspTrig (d : Device) (lo hi : Nat) : (d.resetRange lo hi).dspTrig = d.dspTrig := rfl
@[simp] theorem Device.resetRange_eventQ (d : Device) (lo hi : Nat) : (d.resetRange lo hi).eventQ = d.eventQ := rfl
@[simp] theorem Device.resetRange_eventLost (d : Device) (lo hi : Nat) : (d.resetRange lo hi).eventLost = d.eventLost := rfl

@[simp] theorem Device.setSticky_part (d : Device) (p : Page) (w : W32) : (d.setSticky p w).part = d.part := rfl
@[simp] theorem Device.setSticky_clock (d : Device) (p : Page) (w : W32) : (d.setSticky p w).clock = d.clock := rfl
@[simp] theorem Device.setSticky_free (d : Device) (p : Page) (w : W32) : (d.setSticky p w).free = d.free := rfl
@[simp] theorem Device.setSticky_regs (d : Device) (p : Page) (w : W32) : (d.setSticky p w).regs = d.regs := rfl
@[simp] theorem Device.setSticky_evEnable (d : Device) (p : Page) (w : W32) : (d.setSticky p w).evEnable = d.evEnable := rfl
@[simp] theorem Device.setSticky_out (d : Device) (p : Page) (w : W32) : (d.setSticky p w).out = d.out := rfl
@[simp] theorem Device.setSticky_rdata (d : Device) (p : Page) (w : W32) : (d.setSticky p w).rdata = d.rdata := rfl
@[simp] theorem Device.setSticky_wrRefused (d : Device) (p : Page) (w : W32) : (d.setSticky p w).wrRefused = d.wrRefused := rfl
@[simp] theorem Device.setSticky_pwr (d : Device) (p : Page) (w : W32) : (d.setSticky p w).pwr = d.pwr := rfl
@[simp] theorem Device.setSticky_thm (d : Device) (p : Page) (w : W32) : (d.setSticky p w).thm = d.thm := rfl
@[simp] theorem Device.setSticky_hlt (d : Device) (p : Page) (w : W32) : (d.setSticky p w).hlt = d.hlt := rfl
@[simp] theorem Device.setSticky_nvs (d : Device) (p : Page) (w : W32) : (d.setSticky p w).nvs = d.nvs := rfl
@[simp] theorem Device.setSticky_tim (d : Device) (p : Page) (w : W32) : (d.setSticky p w).tim = d.tim := rfl
@[simp] theorem Device.setSticky_evb (d : Device) (p : Page) (w : W32) : (d.setSticky p w).evb = d.evb := rfl
@[simp] theorem Device.setSticky_cores (d : Device) (p : Page) (w : W32) : (d.setSticky p w).cores = d.cores := rfl
@[simp] theorem Device.setSticky_pci (d : Device) (p : Page) (w : W32) : (d.setSticky p w).pci = d.pci := rfl
@[simp] theorem Device.setSticky_evc (d : Device) (p : Page) (w : W32) : (d.setSticky p w).evc = d.evc := rfl
@[simp] theorem Device.setSticky_sea (d : Device) (p : Page) (w : W32) : (d.setSticky p w).sea = d.sea := rfl
@[simp] theorem Device.setSticky_sec (d : Device) (p : Page) (w : W32) : (d.setSticky p w).sec = d.sec := rfl
@[simp] theorem Device.setSticky_arr (d : Device) (p : Page) (w : W32) : (d.setSticky p w).arr = d.arr := rfl
@[simp] theorem Device.setSticky_wadcs (d : Device) (p : Page) (w : W32) : (d.setSticky p w).wadcs = d.wadcs := rfl
@[simp] theorem Device.setSticky_mon (d : Device) (p : Page) (w : W32) : (d.setSticky p w).mon = d.mon := rfl
@[simp] theorem Device.setSticky_cdr (d : Device) (p : Page) (w : W32) : (d.setSticky p w).cdr = d.cdr := rfl
@[simp] theorem Device.setSticky_trg (d : Device) (p : Page) (w : W32) : (d.setSticky p w).trg = d.trg := rfl
@[simp] theorem Device.setSticky_his (d : Device) (p : Page) (w : W32) : (d.setSticky p w).his = d.his := rfl
@[simp] theorem Device.setSticky_sta (d : Device) (p : Page) (w : W32) : (d.setSticky p w).sta = d.sta := rfl
@[simp] theorem Device.setSticky_lnk (d : Device) (p : Page) (w : W32) : (d.setSticky p w).lnk = d.lnk := rfl
@[simp] theorem Device.setSticky_zvl (d : Device) (p : Page) (w : W32) : (d.setSticky p w).zvl = d.zvl := rfl
@[simp] theorem Device.setSticky_staging (d : Device) (p : Page) (w : W32) : (d.setSticky p w).staging = d.staging := rfl
@[simp] theorem Device.setSticky_dspTrig (d : Device) (p : Page) (w : W32) : (d.setSticky p w).dspTrig = d.dspTrig := rfl
@[simp] theorem Device.setSticky_eventQ (d : Device) (p : Page) (w : W32) : (d.setSticky p w).eventQ = d.eventQ := rfl
@[simp] theorem Device.setSticky_eventLost (d : Device) (p : Page) (w : W32) : (d.setSticky p w).eventLost = d.eventLost := rfl

@[simp] theorem Device.setEvEn_part (d : Device) (p : Page) (w : W32) : (d.setEvEn p w).part = d.part := rfl
@[simp] theorem Device.setEvEn_clock (d : Device) (p : Page) (w : W32) : (d.setEvEn p w).clock = d.clock := rfl
@[simp] theorem Device.setEvEn_free (d : Device) (p : Page) (w : W32) : (d.setEvEn p w).free = d.free := rfl
@[simp] theorem Device.setEvEn_regs (d : Device) (p : Page) (w : W32) : (d.setEvEn p w).regs = d.regs := rfl
@[simp] theorem Device.setEvEn_evSticky (d : Device) (p : Page) (w : W32) : (d.setEvEn p w).evSticky = d.evSticky := rfl
@[simp] theorem Device.setEvEn_out (d : Device) (p : Page) (w : W32) : (d.setEvEn p w).out = d.out := rfl
@[simp] theorem Device.setEvEn_rdata (d : Device) (p : Page) (w : W32) : (d.setEvEn p w).rdata = d.rdata := rfl
@[simp] theorem Device.setEvEn_wrRefused (d : Device) (p : Page) (w : W32) : (d.setEvEn p w).wrRefused = d.wrRefused := rfl
@[simp] theorem Device.setEvEn_pwr (d : Device) (p : Page) (w : W32) : (d.setEvEn p w).pwr = d.pwr := rfl
@[simp] theorem Device.setEvEn_thm (d : Device) (p : Page) (w : W32) : (d.setEvEn p w).thm = d.thm := rfl
@[simp] theorem Device.setEvEn_hlt (d : Device) (p : Page) (w : W32) : (d.setEvEn p w).hlt = d.hlt := rfl
@[simp] theorem Device.setEvEn_nvs (d : Device) (p : Page) (w : W32) : (d.setEvEn p w).nvs = d.nvs := rfl
@[simp] theorem Device.setEvEn_tim (d : Device) (p : Page) (w : W32) : (d.setEvEn p w).tim = d.tim := rfl
@[simp] theorem Device.setEvEn_evb (d : Device) (p : Page) (w : W32) : (d.setEvEn p w).evb = d.evb := rfl
@[simp] theorem Device.setEvEn_cores (d : Device) (p : Page) (w : W32) : (d.setEvEn p w).cores = d.cores := rfl
@[simp] theorem Device.setEvEn_pci (d : Device) (p : Page) (w : W32) : (d.setEvEn p w).pci = d.pci := rfl
@[simp] theorem Device.setEvEn_evc (d : Device) (p : Page) (w : W32) : (d.setEvEn p w).evc = d.evc := rfl
@[simp] theorem Device.setEvEn_sea (d : Device) (p : Page) (w : W32) : (d.setEvEn p w).sea = d.sea := rfl
@[simp] theorem Device.setEvEn_sec (d : Device) (p : Page) (w : W32) : (d.setEvEn p w).sec = d.sec := rfl
@[simp] theorem Device.setEvEn_arr (d : Device) (p : Page) (w : W32) : (d.setEvEn p w).arr = d.arr := rfl
@[simp] theorem Device.setEvEn_wadcs (d : Device) (p : Page) (w : W32) : (d.setEvEn p w).wadcs = d.wadcs := rfl
@[simp] theorem Device.setEvEn_mon (d : Device) (p : Page) (w : W32) : (d.setEvEn p w).mon = d.mon := rfl
@[simp] theorem Device.setEvEn_cdr (d : Device) (p : Page) (w : W32) : (d.setEvEn p w).cdr = d.cdr := rfl
@[simp] theorem Device.setEvEn_trg (d : Device) (p : Page) (w : W32) : (d.setEvEn p w).trg = d.trg := rfl
@[simp] theorem Device.setEvEn_his (d : Device) (p : Page) (w : W32) : (d.setEvEn p w).his = d.his := rfl
@[simp] theorem Device.setEvEn_sta (d : Device) (p : Page) (w : W32) : (d.setEvEn p w).sta = d.sta := rfl
@[simp] theorem Device.setEvEn_lnk (d : Device) (p : Page) (w : W32) : (d.setEvEn p w).lnk = d.lnk := rfl
@[simp] theorem Device.setEvEn_zvl (d : Device) (p : Page) (w : W32) : (d.setEvEn p w).zvl = d.zvl := rfl
@[simp] theorem Device.setEvEn_staging (d : Device) (p : Page) (w : W32) : (d.setEvEn p w).staging = d.staging := rfl
@[simp] theorem Device.setEvEn_dspTrig (d : Device) (p : Page) (w : W32) : (d.setEvEn p w).dspTrig = d.dspTrig := rfl
@[simp] theorem Device.setEvEn_eventQ (d : Device) (p : Page) (w : W32) : (d.setEvEn p w).eventQ = d.eventQ := rfl
@[simp] theorem Device.setEvEn_eventLost (d : Device) (p : Page) (w : W32) : (d.setEvEn p w).eventLost = d.eventLost := rfl

@[simp] theorem Device.draw_part (d : Device) : (d.draw).part = d.part := rfl
@[simp] theorem Device.draw_clock (d : Device) : (d.draw).clock = d.clock := rfl
@[simp] theorem Device.draw_regs (d : Device) : (d.draw).regs = d.regs := rfl
@[simp] theorem Device.draw_evSticky (d : Device) : (d.draw).evSticky = d.evSticky := rfl
@[simp] theorem Device.draw_evEnable (d : Device) : (d.draw).evEnable = d.evEnable := rfl
@[simp] theorem Device.draw_out (d : Device) : (d.draw).out = d.out := rfl
@[simp] theorem Device.draw_rdata (d : Device) : (d.draw).rdata = d.rdata := rfl
@[simp] theorem Device.draw_wrRefused (d : Device) : (d.draw).wrRefused = d.wrRefused := rfl
@[simp] theorem Device.draw_pwr (d : Device) : (d.draw).pwr = d.pwr := rfl
@[simp] theorem Device.draw_thm (d : Device) : (d.draw).thm = d.thm := rfl
@[simp] theorem Device.draw_hlt (d : Device) : (d.draw).hlt = d.hlt := rfl
@[simp] theorem Device.draw_nvs (d : Device) : (d.draw).nvs = d.nvs := rfl
@[simp] theorem Device.draw_tim (d : Device) : (d.draw).tim = d.tim := rfl
@[simp] theorem Device.draw_evb (d : Device) : (d.draw).evb = d.evb := rfl
@[simp] theorem Device.draw_cores (d : Device) : (d.draw).cores = d.cores := rfl
@[simp] theorem Device.draw_pci (d : Device) : (d.draw).pci = d.pci := rfl
@[simp] theorem Device.draw_evc (d : Device) : (d.draw).evc = d.evc := rfl
@[simp] theorem Device.draw_sea (d : Device) : (d.draw).sea = d.sea := rfl
@[simp] theorem Device.draw_sec (d : Device) : (d.draw).sec = d.sec := rfl
@[simp] theorem Device.draw_arr (d : Device) : (d.draw).arr = d.arr := rfl
@[simp] theorem Device.draw_wadcs (d : Device) : (d.draw).wadcs = d.wadcs := rfl
@[simp] theorem Device.draw_mon (d : Device) : (d.draw).mon = d.mon := rfl
@[simp] theorem Device.draw_cdr (d : Device) : (d.draw).cdr = d.cdr := rfl
@[simp] theorem Device.draw_trg (d : Device) : (d.draw).trg = d.trg := rfl
@[simp] theorem Device.draw_his (d : Device) : (d.draw).his = d.his := rfl
@[simp] theorem Device.draw_sta (d : Device) : (d.draw).sta = d.sta := rfl
@[simp] theorem Device.draw_lnk (d : Device) : (d.draw).lnk = d.lnk := rfl
@[simp] theorem Device.draw_zvl (d : Device) : (d.draw).zvl = d.zvl := rfl
@[simp] theorem Device.draw_staging (d : Device) : (d.draw).staging = d.staging := rfl
@[simp] theorem Device.draw_dspTrig (d : Device) : (d.draw).dspTrig = d.dspTrig := rfl
@[simp] theorem Device.draw_eventQ (d : Device) : (d.draw).eventQ = d.eventQ := rfl
@[simp] theorem Device.draw_eventLost (d : Device) : (d.draw).eventLost = d.eventLost := rfl

@[simp] theorem Device.send_part (d : Device) (e : OutEvent) : (d.send e).part = d.part := rfl
@[simp] theorem Device.send_clock (d : Device) (e : OutEvent) : (d.send e).clock = d.clock := rfl
@[simp] theorem Device.send_free (d : Device) (e : OutEvent) : (d.send e).free = d.free := rfl
@[simp] theorem Device.send_regs (d : Device) (e : OutEvent) : (d.send e).regs = d.regs := rfl
@[simp] theorem Device.send_evSticky (d : Device) (e : OutEvent) : (d.send e).evSticky = d.evSticky := rfl
@[simp] theorem Device.send_evEnable (d : Device) (e : OutEvent) : (d.send e).evEnable = d.evEnable := rfl
@[simp] theorem Device.send_rdata (d : Device) (e : OutEvent) : (d.send e).rdata = d.rdata := rfl
@[simp] theorem Device.send_wrRefused (d : Device) (e : OutEvent) : (d.send e).wrRefused = d.wrRefused := rfl
@[simp] theorem Device.send_pwr (d : Device) (e : OutEvent) : (d.send e).pwr = d.pwr := rfl
@[simp] theorem Device.send_thm (d : Device) (e : OutEvent) : (d.send e).thm = d.thm := rfl
@[simp] theorem Device.send_hlt (d : Device) (e : OutEvent) : (d.send e).hlt = d.hlt := rfl
@[simp] theorem Device.send_nvs (d : Device) (e : OutEvent) : (d.send e).nvs = d.nvs := rfl
@[simp] theorem Device.send_tim (d : Device) (e : OutEvent) : (d.send e).tim = d.tim := rfl
@[simp] theorem Device.send_evb (d : Device) (e : OutEvent) : (d.send e).evb = d.evb := rfl
@[simp] theorem Device.send_cores (d : Device) (e : OutEvent) : (d.send e).cores = d.cores := rfl
@[simp] theorem Device.send_pci (d : Device) (e : OutEvent) : (d.send e).pci = d.pci := rfl
@[simp] theorem Device.send_evc (d : Device) (e : OutEvent) : (d.send e).evc = d.evc := rfl
@[simp] theorem Device.send_sea (d : Device) (e : OutEvent) : (d.send e).sea = d.sea := rfl
@[simp] theorem Device.send_sec (d : Device) (e : OutEvent) : (d.send e).sec = d.sec := rfl
@[simp] theorem Device.send_arr (d : Device) (e : OutEvent) : (d.send e).arr = d.arr := rfl
@[simp] theorem Device.send_wadcs (d : Device) (e : OutEvent) : (d.send e).wadcs = d.wadcs := rfl
@[simp] theorem Device.send_mon (d : Device) (e : OutEvent) : (d.send e).mon = d.mon := rfl
@[simp] theorem Device.send_cdr (d : Device) (e : OutEvent) : (d.send e).cdr = d.cdr := rfl
@[simp] theorem Device.send_trg (d : Device) (e : OutEvent) : (d.send e).trg = d.trg := rfl
@[simp] theorem Device.send_his (d : Device) (e : OutEvent) : (d.send e).his = d.his := rfl
@[simp] theorem Device.send_sta (d : Device) (e : OutEvent) : (d.send e).sta = d.sta := rfl
@[simp] theorem Device.send_lnk (d : Device) (e : OutEvent) : (d.send e).lnk = d.lnk := rfl
@[simp] theorem Device.send_zvl (d : Device) (e : OutEvent) : (d.send e).zvl = d.zvl := rfl
@[simp] theorem Device.send_staging (d : Device) (e : OutEvent) : (d.send e).staging = d.staging := rfl
@[simp] theorem Device.send_dspTrig (d : Device) (e : OutEvent) : (d.send e).dspTrig = d.dspTrig := rfl
@[simp] theorem Device.send_eventQ (d : Device) (e : OutEvent) : (d.send e).eventQ = d.eventQ := rfl
@[simp] theorem Device.send_eventLost (d : Device) (e : OutEvent) : (d.send e).eventLost = d.eventLost := rfl

@[simp] theorem Device.tick_part (d : Device) : (d.tick).part = d.part := rfl
@[simp] theorem Device.tick_free (d : Device) : (d.tick).free = d.free := rfl
@[simp] theorem Device.tick_regs (d : Device) : (d.tick).regs = d.regs := rfl
@[simp] theorem Device.tick_evSticky (d : Device) : (d.tick).evSticky = d.evSticky := rfl
@[simp] theorem Device.tick_evEnable (d : Device) : (d.tick).evEnable = d.evEnable := rfl
@[simp] theorem Device.tick_out (d : Device) : (d.tick).out = d.out := rfl
@[simp] theorem Device.tick_rdata (d : Device) : (d.tick).rdata = d.rdata := rfl
@[simp] theorem Device.tick_wrRefused (d : Device) : (d.tick).wrRefused = d.wrRefused := rfl
@[simp] theorem Device.tick_pwr (d : Device) : (d.tick).pwr = d.pwr := rfl
@[simp] theorem Device.tick_thm (d : Device) : (d.tick).thm = d.thm := rfl
@[simp] theorem Device.tick_hlt (d : Device) : (d.tick).hlt = d.hlt := rfl
@[simp] theorem Device.tick_nvs (d : Device) : (d.tick).nvs = d.nvs := rfl
@[simp] theorem Device.tick_evb (d : Device) : (d.tick).evb = d.evb := rfl
@[simp] theorem Device.tick_cores (d : Device) : (d.tick).cores = d.cores := rfl
@[simp] theorem Device.tick_pci (d : Device) : (d.tick).pci = d.pci := rfl
@[simp] theorem Device.tick_evc (d : Device) : (d.tick).evc = d.evc := rfl
@[simp] theorem Device.tick_sea (d : Device) : (d.tick).sea = d.sea := rfl
@[simp] theorem Device.tick_sec (d : Device) : (d.tick).sec = d.sec := rfl
@[simp] theorem Device.tick_arr (d : Device) : (d.tick).arr = d.arr := rfl
@[simp] theorem Device.tick_wadcs (d : Device) : (d.tick).wadcs = d.wadcs := rfl
@[simp] theorem Device.tick_mon (d : Device) : (d.tick).mon = d.mon := rfl
@[simp] theorem Device.tick_cdr (d : Device) : (d.tick).cdr = d.cdr := rfl
@[simp] theorem Device.tick_trg (d : Device) : (d.tick).trg = d.trg := rfl
@[simp] theorem Device.tick_his (d : Device) : (d.tick).his = d.his := rfl
@[simp] theorem Device.tick_sta (d : Device) : (d.tick).sta = d.sta := rfl
@[simp] theorem Device.tick_lnk (d : Device) : (d.tick).lnk = d.lnk := rfl
@[simp] theorem Device.tick_zvl (d : Device) : (d.tick).zvl = d.zvl := rfl
@[simp] theorem Device.tick_staging (d : Device) : (d.tick).staging = d.staging := rfl
@[simp] theorem Device.tick_dspTrig (d : Device) : (d.tick).dspTrig = d.dspTrig := rfl
@[simp] theorem Device.tick_eventQ (d : Device) : (d.tick).eventQ = d.eventQ := rfl
@[simp] theorem Device.tick_eventLost (d : Device) : (d.tick).eventLost = d.eventLost := rfl

@[simp] theorem Device.draw_free (d : Device) : d.draw.free = d.free + 1 := rfl
@[simp] theorem Device.send_out (d : Device) (e : OutEvent) : (d.send e).out = d.out ++ [e] := rfl
@[simp] theorem Device.tick_clock (d : Device) : d.tick.clock = d.clock + 1 := rfl

/-! The reads that see only some fields. -/

theorem Device.word_congr {d e : Device} (h : e.regs = d.regs) (a : Nat) : e.word a = d.word a := by simp only [Device.word, h]
theorem Device.fld_congr {d e : Device} (h : e.regs = d.regs) (f : Fld) : e.fld f = d.fld f := by simp only [Device.fld, Device.word, h]
theorem Device.flag_congr {d e : Device} (h : e.regs = d.regs) (f : Fld) : e.flag f = d.flag f := by simp only [Device.flag, Device.fld, Device.word, h]
theorem Device.sticky_congr {d e : Device} (h : e.evSticky = d.evSticky) (p : Page) : e.sticky p = d.sticky p := by simp only [Device.sticky, h]
@[simp] theorem Device.sticky_setWord (d : Device) (a : Nat) (w : W32) (p : Page) : (d.setWord a w).sticky p = d.sticky p := rfl
@[simp] theorem Device.sticky_setFld (d : Device) (f : Fld) (v : Nat) (p : Page) : (d.setFld f v).sticky p = d.sticky p := rfl
@[simp] theorem Device.sticky_setFlag (d : Device) (f : Fld) (b : Bool) (p : Page) : (d.setFlag f b).sticky p = d.sticky p := rfl
@[simp] theorem Device.sticky_count (d : Device) (a n : Nat) (p : Page) : (d.count a n).sticky p = d.sticky p := rfl
@[simp] theorem Device.word_setSticky (d : Device) (p : Page) (w : W32) (a : Nat) : (d.setSticky p w).word a = d.word a := rfl
@[simp] theorem Device.word_send (d : Device) (e : OutEvent) (a : Nat) : (d.send e).word a = d.word a := rfl
@[simp] theorem Device.word_draw (d : Device) (a : Nat) : d.draw.word a = d.word a := rfl
@[simp] theorem Device.word_pwr (d : Device) (x : PwrSt) (a : Nat) : Device.word { d with pwr := x } a = d.word a := rfl
@[simp] theorem Device.sticky_pwr (d : Device) (x : PwrSt) (p : Page) : Device.sticky { d with pwr := x } p = d.sticky p := rfl
@[simp] theorem Device.word_thm (d : Device) (x : ThmSt) (a : Nat) : Device.word { d with thm := x } a = d.word a := rfl
@[simp] theorem Device.sticky_thm (d : Device) (x : ThmSt) (p : Page) : Device.sticky { d with thm := x } p = d.sticky p := rfl
@[simp] theorem Device.word_hlt (d : Device) (x : HltSt) (a : Nat) : Device.word { d with hlt := x } a = d.word a := rfl
@[simp] theorem Device.sticky_hlt (d : Device) (x : HltSt) (p : Page) : Device.sticky { d with hlt := x } p = d.sticky p := rfl
@[simp] theorem Device.word_nvs (d : Device) (x : NvsSt) (a : Nat) : Device.word { d with nvs := x } a = d.word a := rfl
@[simp] theorem Device.sticky_nvs (d : Device) (x : NvsSt) (p : Page) : Device.sticky { d with nvs := x } p = d.sticky p := rfl
@[simp] theorem Device.word_tim (d : Device) (x : TimSt) (a : Nat) : Device.word { d with tim := x } a = d.word a := rfl
@[simp] theorem Device.sticky_tim (d : Device) (x : TimSt) (p : Page) : Device.sticky { d with tim := x } p = d.sticky p := rfl
@[simp] theorem Device.word_evb (d : Device) (x : EvbSt) (a : Nat) : Device.word { d with evb := x } a = d.word a := rfl
@[simp] theorem Device.sticky_evb (d : Device) (x : EvbSt) (p : Page) : Device.sticky { d with evb := x } p = d.sticky p := rfl
@[simp] theorem Device.word_cores (d : Device) (x : List (Nat × DspCore)) (a : Nat) : Device.word { d with cores := x } a = d.word a := rfl
@[simp] theorem Device.sticky_cores (d : Device) (x : List (Nat × DspCore)) (p : Page) : Device.sticky { d with cores := x } p = d.sticky p := rfl
@[simp] theorem Device.word_pci (d : Device) (x : PciSt) (a : Nat) : Device.word { d with pci := x } a = d.word a := rfl
@[simp] theorem Device.sticky_pci (d : Device) (x : PciSt) (p : Page) : Device.sticky { d with pci := x } p = d.sticky p := rfl
@[simp] theorem Device.word_evc (d : Device) (x : EvcSt) (a : Nat) : Device.word { d with evc := x } a = d.word a := rfl
@[simp] theorem Device.sticky_evc (d : Device) (x : EvcSt) (p : Page) : Device.sticky { d with evc := x } p = d.sticky p := rfl
@[simp] theorem Device.word_sea (d : Device) (x : SeaSt) (a : Nat) : Device.word { d with sea := x } a = d.word a := rfl
@[simp] theorem Device.sticky_sea (d : Device) (x : SeaSt) (p : Page) : Device.sticky { d with sea := x } p = d.sticky p := rfl
@[simp] theorem Device.word_sec (d : Device) (x : SecSt) (a : Nat) : Device.word { d with sec := x } a = d.word a := rfl
@[simp] theorem Device.sticky_sec (d : Device) (x : SecSt) (p : Page) : Device.sticky { d with sec := x } p = d.sticky p := rfl
@[simp] theorem Device.word_arr (d : Device) (x : ArrSt) (a : Nat) : Device.word { d with arr := x } a = d.word a := rfl
@[simp] theorem Device.sticky_arr (d : Device) (x : ArrSt) (p : Page) : Device.sticky { d with arr := x } p = d.sticky p := rfl
@[simp] theorem Device.word_wadcs (d : Device) (x : List (Nat × WadcSt)) (a : Nat) : Device.word { d with wadcs := x } a = d.word a := rfl
@[simp] theorem Device.sticky_wadcs (d : Device) (x : List (Nat × WadcSt)) (p : Page) : Device.sticky { d with wadcs := x } p = d.sticky p := rfl
@[simp] theorem Device.word_mon (d : Device) (x : MonSt) (a : Nat) : Device.word { d with mon := x } a = d.word a := rfl
@[simp] theorem Device.sticky_mon (d : Device) (x : MonSt) (p : Page) : Device.sticky { d with mon := x } p = d.sticky p := rfl
@[simp] theorem Device.word_cdr (d : Device) (x : CdrSt) (a : Nat) : Device.word { d with cdr := x } a = d.word a := rfl
@[simp] theorem Device.sticky_cdr (d : Device) (x : CdrSt) (p : Page) : Device.sticky { d with cdr := x } p = d.sticky p := rfl
@[simp] theorem Device.word_trg (d : Device) (x : TrgSt) (a : Nat) : Device.word { d with trg := x } a = d.word a := rfl
@[simp] theorem Device.sticky_trg (d : Device) (x : TrgSt) (p : Page) : Device.sticky { d with trg := x } p = d.sticky p := rfl
@[simp] theorem Device.word_his (d : Device) (x : HisSt) (a : Nat) : Device.word { d with his := x } a = d.word a := rfl
@[simp] theorem Device.sticky_his (d : Device) (x : HisSt) (p : Page) : Device.sticky { d with his := x } p = d.sticky p := rfl
@[simp] theorem Device.word_sta (d : Device) (x : StaSt) (a : Nat) : Device.word { d with sta := x } a = d.word a := rfl
@[simp] theorem Device.sticky_sta (d : Device) (x : StaSt) (p : Page) : Device.sticky { d with sta := x } p = d.sticky p := rfl
@[simp] theorem Device.word_lnk (d : Device) (x : LnkSt) (a : Nat) : Device.word { d with lnk := x } a = d.word a := rfl
@[simp] theorem Device.sticky_lnk (d : Device) (x : LnkSt) (p : Page) : Device.sticky { d with lnk := x } p = d.sticky p := rfl
@[simp] theorem Device.word_zvl (d : Device) (x : ZvlSt) (a : Nat) : Device.word { d with zvl := x } a = d.word a := rfl
@[simp] theorem Device.sticky_zvl (d : Device) (x : ZvlSt) (p : Page) : Device.sticky { d with zvl := x } p = d.sticky p := rfl
@[simp] theorem Device.word_staging (d : Device) (x : List (Nat × W64)) (a : Nat) : Device.word { d with staging := x } a = d.word a := rfl
@[simp] theorem Device.sticky_staging (d : Device) (x : List (Nat × W64)) (p : Page) : Device.sticky { d with staging := x } p = d.sticky p := rfl
@[simp] theorem Device.word_dspTrig (d : Device) (x : List DspTrigger) (a : Nat) : Device.word { d with dspTrig := x } a = d.word a := rfl
@[simp] theorem Device.sticky_dspTrig (d : Device) (x : List DspTrigger) (p : Page) : Device.sticky { d with dspTrig := x } p = d.sticky p := rfl
@[simp] theorem Device.word_eventQ (d : Device) (x : List EventMsg) (a : Nat) : Device.word { d with eventQ := x } a = d.word a := rfl
@[simp] theorem Device.sticky_eventQ (d : Device) (x : List EventMsg) (p : Page) : Device.sticky { d with eventQ := x } p = d.sticky p := rfl

end Sys2Proof.Machine
end

