-- ==== Sys2Proof/Laws/Frame.lean ====
section
/-! SUPPORT. How frames are built: one lemma for each shared operation says what it may change. A frame of a command is put together by applying the
lemmas to its operations, the last one first. -/

namespace Sys2Proof.Machine

variable {bs : List Block} {rs : Nat → Bool} {ps : List Page} {d e e' : Device}

theorem Block.same_refl (b : Block) (d : Device) : b.same d d := by
  cases b <;> simp [Block.same]

theorem Frame.refl : Frame bs rs ps d d :=
  ⟨rfl, fun b _ => b.same_refl d, fun _ _ _ => rfl, fun _ _ _ => rfl, fun _ _ _ h => h⟩

/-- One operation more. -/
theorem Frame.step (h : Frame bs rs ps d e) (part : e'.part = e.part) (blocks : ∀ b, b ∉ bs → b.same d e → b.same d e')
    (words : ∀ a, rs a = false → sharedReg a = false → e'.word a = e.word a)
    (events : ∀ p, p ∉ ps → sharedPage p = false → e'.sticky p = e.sticky p)
    (kept : ∀ p, p ∉ ps → ∀ b, (e.sticky p).getLsbD b = true → (e'.sticky p).getLsbD b = true) : Frame bs rs ps d e' :=
  ⟨part.trans h.part, fun b hb => blocks b hb (h.blocks b hb), fun a h1 h2 => (words a h1 h2).trans (h.words a h1 h2),
   fun p h1 h2 => (events p h1 h2).trans (h.events p h1 h2), fun p h1 b h2 => kept p h1 b (h.kept p h1 b h2)⟩

/-- A change that touches neither registers nor events. -/
theorem Frame.silent (h : Frame bs rs ps d e) (part : e'.part = e.part) (regs : e'.regs = e.regs) (sticky : e'.evSticky = e.evSticky)
    (blocks : ∀ b, b ∉ bs → b.same d e → b.same d e') : Frame bs rs ps d e' :=
  h.step part blocks (fun a _ _ => Device.word_congr regs a) (fun p _ _ => Device.sticky_congr sticky p)
    (fun p _ b hb => by rw [Device.sticky_congr sticky p]; exact hb)

theorem Frame.clock (h : Frame bs rs ps d e) {x : Nat} (hb : Block.clock ∈ bs) : Frame bs rs ps d { e with clock := x } :=
  h.silent rfl rfl rfl fun b h1 h2 => by cases b <;> first | exact h2 | exact absurd hb h1
theorem Frame.free (h : Frame bs rs ps d e) {x : Nat} (hb : Block.free ∈ bs) : Frame bs rs ps d { e with free := x } :=
  h.silent rfl rfl rfl fun b h1 h2 => by cases b <;> first | exact h2 | exact absurd hb h1
theorem Frame.evEnable (h : Frame bs rs ps d e) {x : List (Nat × W32)} (hb : Block.evEnable ∈ bs) : Frame bs rs ps d { e with evEnable := x } :=
  h.silent rfl rfl rfl fun b h1 h2 => by cases b <;> first | exact h2 | exact absurd hb h1
theorem Frame.out (h : Frame bs rs ps d e) {x : List OutEvent} (hb : Block.out ∈ bs) : Frame bs rs ps d { e with out := x } :=
  h.silent rfl rfl rfl fun b h1 h2 => by cases b <;> first | exact h2 | exact absurd hb h1
theorem Frame.pwr (h : Frame bs rs ps d e) {x : PwrSt} (hb : Block.pwr ∈ bs) : Frame bs rs ps d { e with pwr := x } :=
  h.silent rfl rfl rfl fun b h1 h2 => by cases b <;> first | exact h2 | exact absurd hb h1
theorem Frame.thm (h : Frame bs rs ps d e) {x : ThmSt} (hb : Block.thm ∈ bs) : Frame bs rs ps d { e with thm := x } :=
  h.silent rfl rfl rfl fun b h1 h2 => by cases b <;> first | exact h2 | exact absurd hb h1
theorem Frame.hlt (h : Frame bs rs ps d e) {x : HltSt} (hb : Block.hlt ∈ bs) : Frame bs rs ps d { e with hlt := x } :=
  h.silent rfl rfl rfl fun b h1 h2 => by cases b <;> first | exact h2 | exact absurd hb h1
theorem Frame.nvs (h : Frame bs rs ps d e) {x : NvsSt} (hb : Block.nvs ∈ bs) : Frame bs rs ps d { e with nvs := x } :=
  h.silent rfl rfl rfl fun b h1 h2 => by cases b <;> first | exact h2 | exact absurd hb h1
theorem Frame.tim (h : Frame bs rs ps d e) {x : TimSt} (hb : Block.tim ∈ bs) : Frame bs rs ps d { e with tim := x } :=
  h.silent rfl rfl rfl fun b h1 h2 => by cases b <;> first | exact h2 | exact absurd hb h1
theorem Frame.evb (h : Frame bs rs ps d e) {x : EvbSt} (hb : Block.evb ∈ bs) : Frame bs rs ps d { e with evb := x } :=
  h.silent rfl rfl rfl fun b h1 h2 => by cases b <;> first | exact h2 | exact absurd hb h1
theorem Frame.cores (h : Frame bs rs ps d e) {x : List (Nat × DspCore)} (hb : Block.cores ∈ bs) : Frame bs rs ps d { e with cores := x } :=
  h.silent rfl rfl rfl fun b h1 h2 => by cases b <;> first | exact h2 | exact absurd hb h1
theorem Frame.pci (h : Frame bs rs ps d e) {x : PciSt} (hb : Block.pci ∈ bs) : Frame bs rs ps d { e with pci := x } :=
  h.silent rfl rfl rfl fun b h1 h2 => by cases b <;> first | exact h2 | exact absurd hb h1
theorem Frame.evc (h : Frame bs rs ps d e) {x : EvcSt} (hb : Block.evc ∈ bs) : Frame bs rs ps d { e with evc := x } :=
  h.silent rfl rfl rfl fun b h1 h2 => by cases b <;> first | exact h2 | exact absurd hb h1
theorem Frame.sea (h : Frame bs rs ps d e) {x : SeaSt} (hb : Block.sea ∈ bs) : Frame bs rs ps d { e with sea := x } :=
  h.silent rfl rfl rfl fun b h1 h2 => by cases b <;> first | exact h2 | exact absurd hb h1
theorem Frame.sec (h : Frame bs rs ps d e) {x : SecSt} (hb : Block.sec ∈ bs) (ha : Block.alarms ∈ bs) : Frame bs rs ps d { e with sec := x } :=
  h.silent rfl rfl rfl fun b h1 h2 => by cases b <;> first | exact h2 | exact absurd hb h1 | exact absurd ha h1
theorem Frame.arr (h : Frame bs rs ps d e) {x : ArrSt} (hb : Block.arr ∈ bs) : Frame bs rs ps d { e with arr := x } :=
  h.silent rfl rfl rfl fun b h1 h2 => by cases b <;> first | exact h2 | exact absurd hb h1
theorem Frame.wadcs (h : Frame bs rs ps d e) {x : List (Nat × WadcSt)} (hb : Block.wadcs ∈ bs) : Frame bs rs ps d { e with wadcs := x } :=
  h.silent rfl rfl rfl fun b h1 h2 => by cases b <;> first | exact h2 | exact absurd hb h1
theorem Frame.mon (h : Frame bs rs ps d e) {x : MonSt} (hb : Block.mon ∈ bs) : Frame bs rs ps d { e with mon := x } :=
  h.silent rfl rfl rfl fun b h1 h2 => by cases b <;> first | exact h2 | exact absurd hb h1
theorem Frame.cdr (h : Frame bs rs ps d e) {x : CdrSt} (hb : Block.cdr ∈ bs) : Frame bs rs ps d { e with cdr := x } :=
  h.silent rfl rfl rfl fun b h1 h2 => by cases b <;> first | exact h2 | exact absurd hb h1
theorem Frame.trg (h : Frame bs rs ps d e) {x : TrgSt} (hb : Block.trg ∈ bs) : Frame bs rs ps d { e with trg := x } :=
  h.silent rfl rfl rfl fun b h1 h2 => by cases b <;> first | exact h2 | exact absurd hb h1
theorem Frame.his (h : Frame bs rs ps d e) {x : HisSt} (hb : Block.his ∈ bs) : Frame bs rs ps d { e with his := x } :=
  h.silent rfl rfl rfl fun b h1 h2 => by cases b <;> first | exact h2 | exact absurd hb h1
theorem Frame.sta (h : Frame bs rs ps d e) {x : StaSt} (hb : Block.sta ∈ bs) : Frame bs rs ps d { e with sta := x } :=
  h.silent rfl rfl rfl fun b h1 h2 => by cases b <;> first | exact h2 | exact absurd hb h1
theorem Frame.lnk (h : Frame bs rs ps d e) {x : LnkSt} (hb : Block.lnk ∈ bs) : Frame bs rs ps d { e with lnk := x } :=
  h.silent rfl rfl rfl fun b h1 h2 => by cases b <;> first | exact h2 | exact absurd hb h1
theorem Frame.zvl (h : Frame bs rs ps d e) {x : ZvlSt} (hb : Block.zvl ∈ bs) : Frame bs rs ps d { e with zvl := x } :=
  h.silent rfl rfl rfl fun b h1 h2 => by cases b <;> first | exact h2 | exact absurd hb h1
theorem Frame.staging (h : Frame bs rs ps d e) {x : List (Nat × W64)} (hb : Block.staging ∈ bs) : Frame bs rs ps d { e with staging := x } :=
  h.silent rfl rfl rfl fun b h1 h2 => by cases b <;> first | exact h2 | exact absurd hb h1
theorem Frame.dspTrig (h : Frame bs rs ps d e) {x : List DspTrigger} (hb : Block.dspTrig ∈ bs) : Frame bs rs ps d { e with dspTrig := x } :=
  h.silent rfl rfl rfl fun b h1 h2 => by cases b <;> first | exact h2 | exact absurd hb h1
theorem Frame.eventQ (h : Frame bs rs ps d e) {x : List EventMsg} (hb : Block.eventQ ∈ bs) : Frame bs rs ps d { e with eventQ := x } :=
  h.silent rfl rfl rfl fun b h1 h2 => by cases b <;> first | exact h2 | exact absurd hb h1
theorem Frame.rdata (h : Frame bs rs ps d e) {x : W32} (hb : Block.rdata ∈ bs) : Frame bs rs ps d { e with rdata := x } :=
  h.silent rfl rfl rfl fun b h1 h2 => by cases b <;> first | exact h2 | exact absurd hb h1
theorem Frame.wrRefused (h : Frame bs rs ps d e) {x : Bool} (hb : Block.rdata ∈ bs) : Frame bs rs ps d { e with wrRefused := x } :=
  h.silent rfl rfl rfl fun b h1 h2 => by cases b <;> first | exact h2 | exact absurd hb h1
theorem Frame.eventLost (h : Frame bs rs ps d e) {x : Bool} : Frame bs rs ps d { e with eventLost := x } :=
  h.silent rfl rfl rfl fun b _ h2 => by cases b <;> exact h2

theorem Frame.setWord (h : Frame bs rs ps d e) {a : Nat} {w : W32} (ha : rs a = true ∨ sharedReg a = true) : Frame bs rs ps d (e.setWord a w) :=
  h.step rfl (fun b _ h2 => by cases b <;> exact h2)
    (fun b h1 h2 => Device.word_setWord_ne e w (by rintro rfl; rcases ha with ha | ha <;> simp_all)) (fun _ _ _ => rfl) (fun _ _ _ hb => hb)
theorem Frame.setFld (h : Frame bs rs ps d e) {f : Fld} {v : Nat} (ha : rs f.addr = true ∨ sharedReg f.addr = true) :
    Frame bs rs ps d (e.setFld f v) := h.setWord ha
theorem Frame.setFlag (h : Frame bs rs ps d e) {f : Fld} {v : Bool} (ha : rs f.addr = true ∨ sharedReg f.addr = true) :
    Frame bs rs ps d (e.setFlag f v) := h.setWord ha
theorem Frame.count (h : Frame bs rs ps d e) {a n : Nat} (ha : rs a = true ∨ sharedReg a = true) : Frame bs rs ps d (e.count a n) := h.setWord ha

theorem Device.sticky_setSticky (d : Device) (p q : Page) (w : W32) : (d.setSticky p w).sticky q = if q = p then w else d.sticky q := by
  simp only [Device.sticky, Device.setSticky, SMap.get_set]
  by_cases h : q = p
  · simp [h]
  · rw [if_neg (fun e => h (pageBase_inj e)), if_neg h]

theorem Frame.setSticky_or (h : Frame bs rs ps d e) {p : Page} {w : W32} (hp : p ∈ ps ∨ sharedPage p = true) :
    Frame bs rs ps d (e.setSticky p (e.sticky p ||| w)) :=
  h.step rfl (fun b _ h2 => by cases b <;> exact h2) (fun _ _ _ => rfl)
    (fun q h1 h2 => by
      rw [Device.sticky_setSticky, if_neg]
      rintro rfl
      rcases hp with hp | hp
      · exact h1 hp
      · simp_all)
    (fun q _ b hb => by
      rw [Device.sticky_setSticky]
      split
      · next hq => subst hq; simp [hb]
      · exact hb)

theorem Frame.send (h : Frame bs rs ps d e) {x : OutEvent} : Frame bs rs ps d (e.send x) :=
  h.silent rfl rfl rfl fun b _ h2 => by
    cases b <;> first | exact h2 | exact List.IsPrefix.trans h2 (List.prefix_append _ _)

theorem Frame.draw (h : Frame bs rs ps d e) (hb : Block.free ∈ bs) : Frame bs rs ps d e.draw := h.free hb

theorem Frame.foldl {α : Type} {f : Device → α → Device} (l : List α) (h : Frame bs rs ps d e)
    (hf : ∀ e x, Frame bs rs ps d e → Frame bs rs ps d (f e x)) : Frame bs rs ps d (l.foldl f e) := by
  induction l generalizing e with
  | nil => exact h
  | cons x l ih => exact ih (hf e x h)

/-- A choice of two. -/
theorem Frame.ite {c : Prop} [Decidable c] {x y : Device} (hx : c → Frame bs rs ps d x) (hy : ¬c → Frame bs rs ps d y) :
    Frame bs rs ps d (if c then x else y) := by
  by_cases hc : c
  · rw [if_pos hc]; exact hx hc
  · rw [if_neg hc]; exact hy hc

/-- A change of the parts of the builder that move with the output. -/
theorem Frame.evbMove (h : Frame bs rs ps d e) {x : EvbSt}
    (hx : x = { x with sort := e.evb.sort, sortFull := e.evb.sortFull, lastNum := e.evb.lastNum, lateRaised := e.evb.lateRaised,
                       late := e.evb.late, streamOn := e.evb.streamOn, lateCount := e.evb.lateCount, lost := e.evb.lost,
                       fmt := e.evb.fmt, fmtNext := e.evb.fmtNext }) : Frame bs rs ps d { e with evb := x } :=
  h.silent rfl rfl rfl fun b _ h2 => by
    cases b <;> first | exact h2 | (simp only [Block.same] at h2 ⊢; rw [hx, h2])

theorem Frame.enqueue (h : Frame bs rs ps d e) {r : Rec} : Frame bs rs ps d (e.enqueue r) := by
  unfold Device.enqueue
  split <;> exact h.evbMove rfl

theorem Frame.closePacked (h : Frame bs rs ps d e) : Frame bs rs ps d e.closePacked := by
  unfold Device.closePacked
  split
  · exact h
  · exact Frame.enqueue (h.evbMove rfl)

theorem Frame.statusOf (h : Frame bs rs ps d e) {s c x : Nat} : Frame bs rs ps d (e.statusOf s c x) := by
  unfold Device.statusOf
  split
  · exact h.closePacked.enqueue
  · exact h

theorem Frame.eventMessage (h : Frame bs rs ps d e) {s c x : Nat} : Frame bs rs ps d (e.eventMessage s c x) := by
  unfold Device.eventMessage
  split
  · exact h
  split
  · exact h
  split
  · exact h.silent rfl rfl rfl fun b _ h2 => by cases b <;> first | exact h2 | exact List.IsPrefix.trans h2 (List.prefix_append _ _)
  · have h2 : Frame bs rs ps d { e.count Reg.ZVL.CNT_EV_LOST with eventLost := true } := (h.count (.inr rfl)).eventLost
    dsimp only
    split
    · exact h2
    · exact (h2.setSticky_or (.inr rfl)).statusOf

theorem Frame.announce (h : Frame bs rs ps d e) {p : Page} {b x : Nat} : Frame bs rs ps d (e.announce p b x) := by
  unfold Device.announce
  split
  · exact h
  · dsimp only
    split
    · exact h.statusOf.eventMessage
    · exact h.statusOf

theorem Frame.raise (h : Frame bs rs ps d e) {p : Page} {b x : Nat} (hp : p ∈ ps ∨ sharedPage p = true) : Frame bs rs ps d (e.raise p b x) := by
  unfold Device.raise
  split
  · split
    · exact h
    · exact (h.setSticky_or hp).announce
  · exact h

theorem Frame.raiseAll (h : Frame bs rs ps d e) {p : Page} {l : List Nat} (hp : p ∈ ps ∨ sharedPage p = true) : Frame bs rs ps d (e.raiseAll p l) :=
  h.foldl l fun _ _ h => h.raise hp

theorem Frame.healthLog (h : Frame bs rs ps d e) {k : Nat} {w : W64} : Frame bs rs ps d (e.healthLog k w) := by
  unfold Device.healthLog
  dsimp only
  have h2 : ∀ q, Frame bs rs ps d { e with hlt := { e.hlt with log := q } } := fun q =>
    h.silent rfl rfl rfl fun b _ h2 => by cases b <;> first | exact h2 | (simp only [Block.same] at h2 ⊢; rw [h2])
  exact Frame.ite (fun _ => h2 _) fun _ => ((h2 _).count (.inr rfl)).raise (.inr rfl)

theorem Frame.audit (h : Frame bs rs ps d e) {k r a y x : Nat} {w : W32} : Frame bs rs ps d (e.audit k r a y x w) := by
  unfold Device.audit
  dsimp only
  have h2 : ∀ q, Frame bs rs ps d { e with sec := { e.sec with audit := q } } := fun q =>
    h.silent rfl rfl rfl fun b _ h2 => by cases b <;> first | exact h2 | (simp only [Block.same] at h2 ⊢; rw [h2])
  exact Frame.ite (fun _ => h2 _) fun _ => ((h2 _).count (.inr rfl)).raise (.inr rfl)

theorem Frame.alarm (h : Frame bs rs ps d e) {b : Fin 5} (ha : Block.alarms ∈ bs) : Frame bs rs ps d (e.alarm b) := by
  unfold Device.alarm
  exact ((h.count (.inr rfl)).raise (.inr rfl)).silent rfl rfl rfl fun b h1 h2 => by
    cases b <;> first | exact h2 | exact absurd ha h1 | (simp only [Block.same] at h2 ⊢; rw [h2])

end Sys2Proof.Machine
end

