-- ==== Sys2Proof/Laws/Settle.lean ====
section
/-! SUPPORT. What follows every command changes only what `Block.same`, `sharedReg` and `sharedPage` name, as long as no service step ends in it. -/

namespace Sys2Proof.Machine

variable {bs : List Block} {rs : Nat → Bool} {ps : List Page} {d e e' : Device}

theorem Frame.updCtx (h : Frame bs rs ps d e) {i : Nat} {f : Ctx → Ctx} : Frame bs rs ps d (e.updCtx i f) := h.evbMove rfl
theorem Frame.freeCtxAt (h : Frame bs rs ps d e) {i : Nat} : Frame bs rs ps d (e.freeCtxAt i) := h.updCtx
theorem Frame.closeCtx (h : Frame bs rs ps d e) {i : Nat} : Frame bs rs ps d (e.closeCtx i) := h.updCtx

theorem Frame.oqLevel (h : Frame bs rs ps d e) : Frame bs rs ps d e.oqLevel :=
  Frame.ite (fun _ => h) fun _ => (h.setFlag (.inr rfl)).raise (.inr rfl)

theorem Frame.ctxRecord (h : Frame bs rs ps d e) {r : Rec} {b : Bool} : Frame bs rs ps d (e.ctxRecord r b) := by
  unfold Device.ctxRecord
  split
  · exact h
  · exact Frame.ite (fun _ => h.updCtx) fun _ => Frame.ite (fun _ => h.updCtx.freeCtxAt) fun _ => h.updCtx.updCtx

theorem Frame.ringMove (h : Frame bs rs ps d e) {k : Nat} {f : RingSt → RingSt} (hf : ∀ q, (f q).descs = q.descs ∧ (f q).bytes = q.bytes) :
    Frame bs rs ps d { e with pci := { e.pci with rings := SMap.upd (fun _ => {}) e.pci.rings k f } } :=
  h.silent rfl rfl rfl fun b _ h2 => by
    cases b <;> first
      | exact h2
      | (refine ⟨h2.1, h2.2.1, h2.2.2.1, fun r => ?_⟩
         have h3 := h2.2.2.2 r
         simp only [Device.ring, SMap.get_upd] at h3 ⊢
         split
         · next hr => subst hr; exact ⟨(hf _).1.trans h3.1, (hf _).2.trans h3.2⟩
         · exact h3)

theorem Frame.updRingMove (h : Frame bs rs ps d e) {k : Nat} {f : RingSt → RingSt} (hf : ∀ q, (f q).descs = q.descs ∧ (f q).bytes = q.bytes) :
    Frame bs rs ps d (e.updRing k f) := h.ringMove hf

theorem Frame.delivered (h : Frame bs rs ps d e) {c : Nat} : Frame bs rs ps d (e.delivered c) := h.evbMove rfl

theorem Frame.letIn (h : Frame bs rs ps d e) {r : Rec} : Frame bs rs ps d (e.letIn r) := by
  unfold Device.letIn
  have h1 : Frame bs rs ps d (e.recDelivered r) := by
    unfold Device.recDelivered
    split
    · exact h.delivered
    · exact h
  dsimp only
  generalize e.recDelivered r = x at h1
  refine Frame.ite (fun _ => (h1.count (.inr rfl)).ctxRecord) fun _ => ?_
  refine Frame.oqLevel (Frame.ctxRecord (Frame.foldl _ (h1.evbMove rfl) fun e k h =>
    h.ringMove (f := fun q => { q with todo := q.todo ++ [x.evb.serial] }) fun q => ⟨rfl, rfl⟩))

theorem Frame.pumpN (n : Nat) (h : Frame bs rs ps d e) : Frame bs rs ps d (e.pumpN n) := by
  induction n generalizing e with
  | zero => exact h
  | succ n ih =>
    unfold Device.pumpN
    split
    · exact h
    · exact Frame.ite (fun _ => ih (Frame.letIn (h.evbMove rfl))) fun _ => h

theorem Frame.pump (h : Frame bs rs ps d e) : Frame bs rs ps d e.pump := Frame.pumpN _ h

theorem Frame.oqSweep (h : Frame bs rs ps d e) : Frame bs rs ps d e.oqSweep := Frame.oqLevel (h.evbMove rfl)

theorem Frame.releaseRing (h : Frame bs rs ps d e) {r n : Nat} : Frame bs rs ps d (e.releaseRing r n) :=
  Frame.pump (Frame.oqSweep (h.evbMove rfl))

theorem Frame.releaseLane (h : Frame bs rs ps d e) {n : Nat} : Frame bs rs ps d (e.releaseLane n) := Frame.pump (Frame.oqSweep (h.evbMove rfl))

theorem Frame.coderMove (h : Frame bs rs ps d e) {c : Nat} {f : CoderCtx → CoderCtx} (hc : 2 ≤ c ∧ c ≤ 9) : Frame bs rs ps d (e.updCoder c f) :=
  h.silent rfl rfl rfl fun b _ h2 => by
    cases b <;> first
      | exact h2
      | (refine ⟨by rw [Device.updCoder, h2.1], fun k hk => ?_⟩
         have h3 := h2.2 k hk
         simp only [Device.coder, Device.updCoder] at h3 ⊢
         rw [SMap.get_upd_ne _ _ _ (by omega)]
         exact h3)

theorem sharedReg_cntOut {r : Nat} (hr : r < 8) : sharedReg (Reg.CDR.CNT_OUT (2 + r)) = true := by
  interval_cases r <;> rfl

theorem Frame.takeWords (h : Frame bs rs ps d e) {r n : Nat} (hr : r < 8) : Frame bs rs ps d (e.takeWords (2 + r) n).1 := by
  unfold Device.takeWords
  exact (h.coderMove (by omega)).count (.inr (sharedReg_cntOut hr))

theorem Frame.takeReadback (h : Frame bs rs ps d e) {n : Nat} : Frame bs rs ps d (e.takeReadback n).1 :=
  h.silent rfl rfl rfl fun b _ h2 => by cases b <;> first | exact h2 | (simp only [Block.same, Device.takeReadback] at h2 ⊢; rw [h2])

theorem Frame.countDiscarded (h : Frame bs rs ps d e) {n : Nat} : Frame bs rs ps d (e.countDiscarded n) := by
  unfold Device.countDiscarded
  refine Frame.count ?_ (.inr rfl)
  exact h.silent rfl rfl rfl fun b _ h2 => by cases b <;> exact h2

theorem Frame.discardRing (h : Frame bs rs ps d e) {r : Nat} (hr : r < 8) : Frame bs rs ps d (e.discardRing r) := by
  unfold Device.discardRing
  dsimp only
  refine Frame.foldl _ (Frame.countDiscarded ?_) fun _ _ h => h.releaseRing
  have h1 := (h.takeWords hr (n := (e.coder (2 + r)).emit.length)).updRingMove (k := r) (f := fun q =>
    { q with todo := [], inside := if (e.takeWords (2 + r) (e.coder (2 + r)).emit.length).2.1.isEmpty = true then q.inside else false }) fun q => ⟨rfl, rfl⟩
  generalize (Device.updRing _ r _) = x at h1 ⊢
  by_cases hc : x.readbackTo r = true
  · simp only [hc, if_true]; exact h1.takeReadback
  · simp only [hc]; exact h1

theorem Frame.discardRings (h : Frame bs rs ps d e) : Frame bs rs ps d e.discardRings := by
  unfold Device.discardRings
  refine Frame.ite (fun _ => h) fun _ => ?_
  have : ∀ l : List Nat, (∀ r ∈ l, r < 8) → ∀ e, Frame bs rs ps d e → Frame bs rs ps d (l.foldl (fun d r =>
      let q := d.ring r
      if d.ringReady r || (q.todo.isEmpty && (d.coder (2 + r)).emit.isEmpty && !d.readbackTo r) then d else d.discardRing r) e) := by
    intro l hl
    induction l with
    | nil => exact fun _ h => h
    | cons r l ih =>
      intro e h
      exact ih (fun x hx => hl x (by simp [hx])) _ (Frame.ite (fun _ => h) fun _ => h.discardRing (hl r (by simp)))
  exact this _ (fun r hr => List.mem_range.mp hr) e h

theorem sharedReg_forCnt (g : Nat) : sharedReg (Reg.REG.FOR_CNT (forRegion g).1.val (forRegion g).2.val) = true := by
  generalize (forRegion g).1 = n
  generalize (forRegion g).2 = r
  have h1 := n.isLt
  have h2 := r.isLt
  have h3 : 0x500000 ≤ Reg.REG.FOR_CNT n.val r.val ∧ Reg.REG.FOR_CNT n.val r.val < 0x1800000 ∧ Reg.REG.FOR_CNT n.val r.val % 0x1000 = 0x108 := by
    unfold Reg.REG.FOR_CNT Reg.REG.base
    omega
  simp only [sharedReg, h3.1, h3.2.1, h3.2.2, decide_true, Bool.and_self, beq_self_eq_true, Bool.or_true]

theorem Frame.trackFastOr (h : Frame bs rs ps d e) : Frame bs rs ps d e.trackFastOr := by
  unfold Device.trackFastOr
  dsimp only
  have h1 := Frame.foldl (f := fun d g => d.count (Reg.REG.FOR_CNT (forRegion g).1.val (forRegion g).2.val))
    ((e.forCandidates.filter fun g => e.forLevelOf g).filter fun g => !e.trg.forHigh.contains g) h
    fun e g h => h.count (.inr (sharedReg_forCnt g))
  exact h1.silent rfl rfl rfl fun b _ h2 => by cases b <;> first | exact h2 | (simp only [Block.same] at h2 ⊢; rw [h2])

theorem Frame.markFrame (h : Frame bs rs ps d e) : Frame bs rs ps d e.markFrame := h.evbMove rfl

theorem Frame.advanceFront (h : Frame bs rs ps d e) : Frame bs rs ps d e.advanceFront := by
  unfold Device.advanceFront
  refine Frame.ite (fun _ => h) fun _ => ?_
  dsimp only
  split
  · exact h.evbMove rfl
  · exact Frame.ite (fun _ => ((h.evbMove rfl).setFlag (.inr rfl)).raise (.inr rfl)) fun _ => h.evbMove rfl

theorem Frame.pushLog (h : Frame bs rs ps d e) {s : Nat} : Frame bs rs ps d (e.pushLog s) := by
  unfold Device.pushLog
  refine Frame.ite (fun _ => h) fun _ => Frame.ite (fun _ => ?_) fun _ => (h.setFlag (.inr rfl)).raise (.inr rfl)
  exact h.silent rfl rfl rfl fun b _ h2 => by
    cases b <;> first | exact h2 | exact ⟨h2.1.trans (List.prefix_append _ _), h2.2⟩

theorem insvc_grows (a b c : BitVec 64) (h : a &&& ~~~b = 0) : a &&& ~~~(b ||| c) = 0 := by
  apply BitVec.eq_of_getLsbD_eq
  intro i hi
  have h1 := congrArg (·.getLsbD i) h
  simp only [BitVec.getLsbD_and, BitVec.getLsbD_not, BitVec.getLsbD_or, hi, decide_true, Bool.true_and] at h1 ⊢
  cases ha : a.getLsbD i <;> cases hb : b.getLsbD i <;> simp_all

theorem Frame.sendVector (h : Frame bs rs ps d e) {v : Nat} : Frame bs rs ps d (e.sendVector v) := by
  unfold Device.sendVector
  refine Frame.ite (fun _ => h) fun _ => Frame.ite (fun _ => ?_) fun _ => Frame.send ?_
  · exact h.silent rfl rfl rfl fun b _ h2 => by cases b <;> exact h2
  · exact h.silent rfl rfl rfl fun b _ h2 => by
      cases b <;> first | exact h2 | exact ⟨h2.1, insvc_grows _ _ _ h2.2⟩

theorem Frame.asserted (h : Frame bs rs ps d e) {x : BitVec 256} : Frame bs rs ps d { e with evc := { e.evc with asserted := x } } :=
  h.silent rfl rfl rfl fun b _ h2 => by cases b <;> exact h2

theorem Frame.pba (h : Frame bs rs ps d e) {x : BitVec 64} : Frame bs rs ps d { e with pci := { e.pci with pba := x } } :=
  h.silent rfl rfl rfl fun b _ h2 => by cases b <;> exact h2

theorem Frame.pins (h : Frame bs rs ps d e) {x y : Bool} : Frame bs rs ps d { e with evc := { e.evc with irqLow := x, inta := y } } :=
  h.silent rfl rfl rfl fun b _ h2 => by cases b <;> exact h2

theorem Frame.deliver (h : Frame bs rs ps d e) : Frame bs rs ps d e.deliver := by
  unfold Device.deliver
  extract_lets on x now src y vs src2 z w src3 src4
  have h1 : Frame bs rs ps d x := Frame.ite (fun _ => Frame.foldl _ h fun _ _ h => h.pushLog) fun _ => h
  have h2 : Frame bs rs ps d y := h1.asserted
  refine Frame.ite (fun _ => ?_) fun _ => h2.pins
  have h3 : Frame bs rs ps d z := h2.pba
  clear_value z
  have h4 : Frame bs rs ps d w := Frame.foldl _ h3 fun _ _ h => h.sendVector
  exact h4.pins

theorem Frame.setLevel (h : Frame bs rs ps d e) {n : Nat} (hl : rs Reg.HLT.SERVICE_LEVEL = true) : Frame bs rs ps d (e.setLevel n) :=
  Frame.ite (fun _ => h) fun _ => ((h.setFld (.inl hl)).raise (.inr rfl)).healthLog

theorem Frame.settleLevel (h : Frame bs rs ps d e) (hl : rs Reg.HLT.SERVICE_LEVEL = true) : Frame bs rs ps d e.settleLevel :=
  Frame.ite (fun _ => h) fun _ => Frame.ite (fun _ => h.setLevel hl) fun _ => h.setLevel hl

theorem Frame.secMove (h : Frame bs rs ps d e) {x : SecSt} (ha : Block.alarms ∈ bs)
    (hx : x = { e.sec with audit := x.audit, alarms := x.alarms, erasing := x.erasing, lockedEntered := x.lockedEntered }) :
    Frame bs rs ps d { e with sec := x } :=
  h.silent rfl rfl rfl fun b h1 h2 => by
    cases b <;> first | exact h2 | exact absurd ha h1 | (simp only [Block.same] at h2 ⊢; rw [hx, h2])

theorem Frame.applyPolicies (h : Frame bs rs ps d e) (ha : Block.alarms ∈ bs) (hl : rs Reg.SEC.SUMMARY = true) :
    Frame bs rs ps d e.applyPolicies := by
  unfold Device.applyPolicies
  split
  · exact h
  · dsimp only
    refine Frame.ite (fun _ => h.secMove ha rfl) fun _ => Frame.ite (fun _ => Frame.ite (fun _ => ?_) fun _ => ?_) fun _ => h.secMove ha rfl
    · exact (h.secMove ha rfl).setFlag (.inl hl)
    · exact ((h.secMove ha rfl).setFlag (.inl hl)).audit.secMove ha rfl

theorem Device.wadc_halt (d : Device) (which : Nat → Bool) (lost : Bool) (a : Nat) :
    (d.haltAdcs which lost).wadc a = d.wadc a ∨ (d.haltAdcs which lost).wadc a = { d.wadc a with running := false, lost := lost } := by
  simp only [Device.wadc, Device.haltAdcs]
  generalize d.wadcs = m
  induction m with
  | nil => exact .inl rfl
  | cons p m ih =>
    obtain ⟨k, v⟩ := p
    simp only [List.map_cons]
    by_cases hw : (which k && v.running) = true
    · rw [if_pos hw]
      simp only [SMap.get]
      split
      · exact .inr rfl
      · exact ih
    · rw [if_neg hw]
      simp only [SMap.get]
      split
      · exact .inl rfl
      · exact ih

theorem Frame.haltAdcs (h : Frame bs rs ps d e) {which : Nat → Bool} : Frame bs rs ps d (e.haltAdcs which false) :=
  h.silent rfl rfl rfl fun b _ h2 => by
    cases b <;> first
      | exact h2
      | (intro a
         rcases Device.wadc_halt e which false a with h3 | h3 <;> rcases h2 a with h4 | h4 <;> simp [h3, h4])

/-- A service step is under way: the sequencer holds the resources of a RUN step. -/
theorem Device.watchService_idle (h : e.serviceRun = none) : e.watchService = e := by
  unfold Device.serviceRun at h
  unfold Device.watchService
  split
  · next r hr =>
    rw [hr] at h
    split
    · next s hs => simp [hs] at h
    · next s hs => simp [hs] at h
    · rfl
  · rfl

/-- The part of `settle` that comes after the service level is settled. -/
def Device.settleOut (d : Device) : Device :=
  (d.regionEventDies.foldl (fun d n => d.raise (.die n) 0) d).trackFastOr.markFrame.pump.advanceFront.discardRings.deliver

theorem Device.settle_eq (d : Device) : d.settle =
    (let l := d.watchService.applyPolicies.settleLevel; (l.haltAdcs (fun a => !l.wadcRuns a) false).settleOut) := rfl

theorem Frame.settleOut (h : Frame bs rs ps d e) : Frame bs rs ps d e.settleOut :=
  (Frame.foldl _ h fun _ _ h => h.raise (.inr rfl)).trackFastOr.markFrame.pump.advanceFront.discardRings.deliver

/-- What follows every command keeps the frame of the command, unless it ends a service step. -/
theorem Frame.settle (h : Frame bs rs ps d e) (hs : e.serviceRun = none) (ha : Block.alarms ∈ bs) (hl : rs Reg.HLT.SERVICE_LEVEL = true)
    (hm : rs Reg.SEC.SUMMARY = true) : Frame bs rs ps d e.settle := by
  rw [Device.settle_eq, Device.watchService_idle hs]
  exact ((h.applyPolicies ha hm).settleLevel hl).haltAdcs.settleOut

end Sys2Proof.Machine
end

