-- ==== Sys2Proof/Laws/Run.lean ====
section
/-! SUPPORT. From the effect of a command on the device to what the command answers. -/

namespace Sys2Proof.Machine

variable {bs : List Block} {rs : Nat → Bool} {ps : List Page} {d e : Device}

/-- A command completes with what its effect on the device, followed by `settle`, gives. -/
theorem Completes.of_run {c : Instr} {s : State} {f : Device → Device} {post : Device → Prop} (h : exec c s = run f s)
    (hp : post (f s.dev).settle) : Completes c s post := ⟨_, h, rfl, hp⟩

theorem Device.serviceRun_congr (h : e.sta = d.sta) : e.serviceRun = d.serviceRun := by simp only [Device.serviceRun, h]

/-- The frame of a command that does not touch the sequencer, from the frame of its effect. -/
theorem Frame.leaves (h : Frame (.alarms :: bs) (fun a => rs a || a == Reg.HLT.SERVICE_LEVEL || a == Reg.SEC.SUMMARY) ps d e)
    (hd : d.serviceRun = none) (hb : Block.sta ∉ bs) : Leaves bs rs ps d e.settle :=
  h.settle ((Device.serviceRun_congr (h.blocks .sta (by simp [hb]))).trans hd) (by simp) (by simp) (by simp)

theorem Leaves.word (h : Leaves bs rs ps d e) {a : Nat} (h1 : rs a = false) (h2 : sharedReg a = false)
    (h3 : a ≠ Reg.HLT.SERVICE_LEVEL) (h4 : a ≠ Reg.SEC.SUMMARY) : e.word a = d.word a :=
  h.words a (by simp [h1, h3, h4]) h2

theorem Leaves.block (h : Leaves bs rs ps d e) (b : Block) (hb : b ∉ bs) (ha : b ≠ .alarms) : b.same d e :=
  h.blocks b (by simp [hb, ha])

/-- A register that neither a command's follow-up nor the service level moves. -/
def plainReg (a : Nat) : Bool := !sharedReg a && a != Reg.HLT.SERVICE_LEVEL && a != Reg.SEC.SUMMARY

theorem Leaves.plain (h : Leaves bs rs ps d e) {a : Nat} (h1 : rs a = false) (h2 : plainReg a = true) : e.word a = d.word a := by
  simp only [plainReg, Bool.and_eq_true, Bool.not_eq_true', bne_iff_ne, ne_eq] at h2
  exact h.word h1 h2.1.1 h2.1.2 h2.2

theorem Leaves.fld (h : Leaves bs rs ps d e) (f : Fld) (h1 : rs f.addr = false) (h2 : plainReg f.addr = true) : e.fld f = d.fld f := by
  simp only [Device.fld, h.plain h1 h2]

theorem Leaves.flag (h : Leaves bs rs ps d e) (f : Fld) (h1 : rs f.addr = false) (h2 : plainReg f.addr = true) : e.flag f = d.flag f := by
  simp only [Device.flag, h.fld f h1 h2]

/-- What follows a command, as a frame of its own. -/
theorem Device.settle_leaves (hs : e.serviceRun = none) : Leaves [] (fun _ => false) [] e e.settle :=
  Frame.settle Frame.refl hs (by simp) (by simp) (by simp)

/-- What follows a command whose frame leaves the sequencer alone. -/
theorem Frame.settled (h : Frame (.alarms :: bs) rs ps d e) (hd : d.serviceRun = none) (hb : Block.sta ∉ bs) :
    Leaves [] (fun _ => false) [] e e.settle :=
  Device.settle_leaves ((Device.serviceRun_congr (h.blocks .sta (by simp [hb]))).trans hd)

/-- A command completes: the frame of its effect, and what holds of every device that the follow-up can make of it. -/
theorem Completes.framed {c : Instr} {s : State} {f : Device → Device} {post : Device → Prop} (bs : List Block) (rs : Nat → Bool) (ps : List Page)
    (h : exec c s = run f s) (hq : s.dev.serviceRun = none) (hb : Block.sta ∉ bs)
    (F : Frame (.alarms :: bs) (fun a => rs a || a == Reg.HLT.SERVICE_LEVEL || a == Reg.SEC.SUMMARY) ps s.dev (f s.dev))
    (hp : ∀ t, Leaves [] (fun _ => false) [] (f s.dev) t → Leaves bs rs ps s.dev t → post t) : Completes c s post :=
  Completes.of_run h (hp _ (F.settled hq hb) (F.leaves hq hb))

/-- A register that what follows a command does not move. -/
theorem Device.word_settle (hs : e.serviceRun = none) {a : Nat} (h2 : sharedReg a = false)
    (h3 : a ≠ Reg.HLT.SERVICE_LEVEL) (h4 : a ≠ Reg.SEC.SUMMARY) : e.settle.word a = e.word a :=
  (Device.settle_leaves hs).word rfl h2 h3 h4

/-- An event that is set stays set in what follows a command. -/
theorem Device.sticky_settle (hs : e.serviceRun = none) (p : Page) (b : Nat) (h : (e.sticky p).getLsbD b = true) : (e.settle.sticky p).getLsbD b = true :=
  (Device.settle_leaves hs).kept p (by simp) b h

/-- An event raised on a page with power is set. -/
theorem Device.sticky_raise_self {d : Device} {p : Page} {b x : Nat} (hp : d.pageOn p = true) (hb : b < 32) : ((d.raise p b x).sticky p).getLsbD b = true := by
  unfold Device.raise
  rw [if_pos hp]
  split
  · assumption
  · have h : ((d.setSticky p (d.sticky p ||| BitVec.ofNat 32 (2 ^ b))).sticky p).getLsbD b = true := by
      rw [Device.sticky_setSticky, if_pos rfl]
      rw [BitVec.getLsbD_or, BitVec.getLsbD_ofNat, Nat.testBit_two_pow_self]
      simp [hb]
    exact (Frame.announce (bs := []) (rs := fun _ => false) (ps := []) Frame.refl).kept p (by simp) b h

/-- Raising one event keeps the others. -/
theorem Device.sticky_raise_kept {d : Device} {p q : Page} {b c x : Nat} (h : (d.sticky q).getLsbD c = true) : ((d.raise p b x).sticky q).getLsbD c = true := by
  unfold Device.raise
  split
  · split
    · exact h
    · exact ((Frame.refl (bs := []) (rs := fun _ => false) (ps := [])).announce).kept q (by simp) c
        (by rw [Device.sticky_setSticky]; split <;> [(next hq => subst hq; simp [h]); exact h])
  · exact h

/-- Raising an event moves no register but those that lost entries count in. -/
theorem Device.word_raise {d : Device} {p : Page} {b x a : Nat} (h : sharedReg a = false) : (d.raise p b x).word a = d.word a :=
  (Frame.raise (bs := []) (rs := fun _ => false) (ps := [p]) Frame.refl (.inl (by simp))).words a rfl h

/-- Raising an event leaves a block as `Block.same` says. -/
theorem Device.same_raise {d : Device} {p : Page} {b x : Nat} (k : Block) : k.same d (d.raise p b x) :=
  (Frame.raise (bs := []) (rs := fun _ => false) (ps := [p]) Frame.refl (.inl (by simp))).blocks k (by simp)

end Sys2Proof.Machine
end

