-- ==== Sys2Proof/Laws/Power.lean ====
section
/-! SUPPORT. Which domains and pages are on does not depend on most updates. -/

namespace Sys2Proof.Machine

variable {bs : List Block} {rs : Nat → Bool} {ps : List Page} {d e : Device}

/-- The registers that show which domains are on (R537). -/
def domReg (a : Nat) : Bool := a == Reg.PWRD.DOM_ON0 || a == Reg.PWRD.DOM_ON1

theorem Device.domOn_congr (h1 : e.pwr.por = d.pwr.por) (h2 : e.word Reg.PWRD.DOM_ON0 = d.word Reg.PWRD.DOM_ON0)
    (h3 : e.word Reg.PWRD.DOM_ON1 = d.word Reg.PWRD.DOM_ON1) (i : Nat) : e.domOn i = d.domOn i := by
  simp only [Device.domOn, h1, h2, h3]

theorem Device.pageOn_congr (h0 : e.part = d.part) (h1 : e.pwr.por = d.pwr.por) (h2 : e.word Reg.PWRD.DOM_ON0 = d.word Reg.PWRD.DOM_ON0)
    (h3 : e.word Reg.PWRD.DOM_ON1 = d.word Reg.PWRD.DOM_ON1) (p : Page) : e.pageOn p = d.pageOn p := by
  simp only [Device.pageOn, Device.hasPage, Device.hasDie, h0, Device.domOn_congr h1 h2 h3]

theorem Frame.domOn (h : Frame bs rs ps d e) (hb : Block.pwr ∉ bs) (h0 : rs Reg.PWRD.DOM_ON0 = false) (h1 : rs Reg.PWRD.DOM_ON1 = false) (i : Nat) :
    e.domOn i = d.domOn i :=
  Device.domOn_congr (congrArg PwrSt.por (h.blocks .pwr hb)) (h.words _ h0 rfl) (h.words _ h1 rfl) i

theorem Frame.pageOn (h : Frame bs rs ps d e) (hb : Block.pwr ∉ bs) (h0 : rs Reg.PWRD.DOM_ON0 = false) (h1 : rs Reg.PWRD.DOM_ON1 = false) (p : Page) :
    e.pageOn p = d.pageOn p :=
  Device.pageOn_congr h.part (congrArg PwrSt.por (h.blocks .pwr hb)) (h.words _ h0 rfl) (h.words _ h1 rfl) p

/-- An event raised after other effects is set, if its page had power before them. -/
theorem Frame.raised (h : Frame bs rs ps d e) (hb : Block.pwr ∉ bs) (h0 : rs Reg.PWRD.DOM_ON0 = false) (h1 : rs Reg.PWRD.DOM_ON1 = false)
    {p : Page} {b x : Nat} (hp : d.pageOn p = true) (hn : b < 32) : ((e.raise p b x).sticky p).getLsbD b = true :=
  Device.sticky_raise_self ((h.pageOn hb h0 h1 p).trans hp) hn

theorem Device.domOn_setWord {d : Device} {a : Nat} {w : W32} (h : domReg a = false) (i : Nat) : (d.setWord a w).domOn i = d.domOn i := by
  simp only [domReg, Bool.or_eq_false_iff, beq_eq_false_iff_ne, ne_eq] at h
  exact Device.domOn_congr (e := d.setWord a w) (d := d) rfl (Device.word_setWord_ne d w (Ne.symm h.1)) (Device.word_setWord_ne d w (Ne.symm h.2)) i
theorem Device.domOn_setFld {d : Device} {f : Fld} {v : Nat} (h : domReg f.addr = false) (i : Nat) : (d.setFld f v).domOn i = d.domOn i := Device.domOn_setWord h i
theorem Device.domOn_setFlag {d : Device} {f : Fld} {v : Bool} (h : domReg f.addr = false) (i : Nat) : (d.setFlag f v).domOn i = d.domOn i := Device.domOn_setWord h i
theorem Device.domOn_count {d : Device} {a n : Nat} (h : domReg a = false) (i : Nat) : (d.count a n).domOn i = d.domOn i := Device.domOn_setWord h i
theorem Device.pageOn_setWord {d : Device} {a : Nat} {w : W32} (h : domReg a = false) (p : Page) : (d.setWord a w).pageOn p = d.pageOn p := by
  simp only [Device.pageOn, Device.domOn_setWord h]; rfl
theorem Device.pageOn_setFld {d : Device} {f : Fld} {v : Nat} (h : domReg f.addr = false) (p : Page) : (d.setFld f v).pageOn p = d.pageOn p := Device.pageOn_setWord h p
theorem Device.pageOn_setFlag {d : Device} {f : Fld} {v : Bool} (h : domReg f.addr = false) (p : Page) : (d.setFlag f v).pageOn p = d.pageOn p := Device.pageOn_setWord h p
theorem Device.pageOn_count {d : Device} {a n : Nat} (h : domReg a = false) (p : Page) : (d.count a n).pageOn p = d.pageOn p := Device.pageOn_setWord h p
@[simp] theorem Device.domOn_raise (d : Device) (q : Page) (b x i : Nat) : (d.raise q b x).domOn i = d.domOn i :=
  (Frame.raise (bs := []) (rs := fun _ => false) (ps := [q]) Frame.refl (.inl (by simp))).domOn (by simp) rfl rfl i
@[simp] theorem Device.pageOn_raise (d : Device) (q : Page) (b x : Nat) (p : Page) : (d.raise q b x).pageOn p = d.pageOn p :=
  (Frame.raise (bs := []) (rs := fun _ => false) (ps := [q]) Frame.refl (.inl (by simp))).pageOn (by simp) rfl rfl p
@[simp] theorem Device.domOn_healthLog (d : Device) (k : Nat) (w : W64) (i : Nat) : (d.healthLog k w).domOn i = d.domOn i :=
  (Frame.healthLog (bs := []) (rs := fun _ => false) (ps := []) Frame.refl).domOn (by simp) rfl rfl i
@[simp] theorem Device.pageOn_healthLog (d : Device) (k : Nat) (w : W64) (p : Page) : (d.healthLog k w).pageOn p = d.pageOn p :=
  (Frame.healthLog (bs := []) (rs := fun _ => false) (ps := []) Frame.refl).pageOn (by simp) rfl rfl p
@[simp] theorem Device.domOn_audit (d : Device) (k r a y x : Nat) (w : W32) (i : Nat) : (d.audit k r a y x w).domOn i = d.domOn i :=
  (Frame.audit (bs := []) (rs := fun _ => false) (ps := []) Frame.refl).domOn (by simp) rfl rfl i
@[simp] theorem Device.pageOn_audit (d : Device) (k r a y x : Nat) (w : W32) (p : Page) : (d.audit k r a y x w).pageOn p = d.pageOn p :=
  (Frame.audit (bs := []) (rs := fun _ => false) (ps := []) Frame.refl).pageOn (by simp) rfl rfl p
@[simp] theorem Device.domOn_alarm (d : Device) (b : Fin 5) (i : Nat) : (d.alarm b).domOn i = d.domOn i :=
  (Frame.alarm (bs := [.alarms]) (rs := fun _ => false) (ps := []) Frame.refl (by simp)).domOn (by simp) rfl rfl i
@[simp] theorem Device.pageOn_alarm (d : Device) (b : Fin 5) (p : Page) : (d.alarm b).pageOn p = d.pageOn p :=
  (Frame.alarm (bs := [.alarms]) (rs := fun _ => false) (ps := []) Frame.refl (by simp)).pageOn (by simp) rfl rfl p
@[simp] theorem Device.pageOn_setSticky (d : Device) (q : Page) (w : W32) (p : Page) : (d.setSticky q w).pageOn p = d.pageOn p := rfl
@[simp] theorem Device.domOn_clock (d : Device) (x : Nat) (i : Nat) : Device.domOn { d with clock := x } i = d.domOn i := rfl
@[simp] theorem Device.pageOn_clock (d : Device) (x : Nat) (p : Page) : Device.pageOn { d with clock := x } p = d.pageOn p := rfl
@[simp] theorem Device.domOn_free (d : Device) (x : Nat) (i : Nat) : Device.domOn { d with free := x } i = d.domOn i := rfl
@[simp] theorem Device.pageOn_free (d : Device) (x : Nat) (p : Page) : Device.pageOn { d with free := x } p = d.pageOn p := rfl
@[simp] theorem Device.domOn_evSticky (d : Device) (x : List (Nat × W32)) (i : Nat) : Device.domOn { d with evSticky := x } i = d.domOn i := rfl
@[simp] theorem Device.pageOn_evSticky (d : Device) (x : List (Nat × W32)) (p : Page) : Device.pageOn { d with evSticky := x } p = d.pageOn p := rfl
@[simp] theorem Device.domOn_evEnable (d : Device) (x : List (Nat × W32)) (i : Nat) : Device.domOn { d with evEnable := x } i = d.domOn i := rfl
@[simp] theorem Device.pageOn_evEnable (d : Device) (x : List (Nat × W32)) (p : Page) : Device.pageOn { d with evEnable := x } p = d.pageOn p := rfl
@[simp] theorem Device.domOn_out (d : Device) (x : List OutEvent) (i : Nat) : Device.domOn { d with out := x } i = d.domOn i := rfl
@[simp] theorem Device.pageOn_out (d : Device) (x : List OutEvent) (p : Page) : Device.pageOn { d with out := x } p = d.pageOn p := rfl
@[simp] theorem Device.domOn_rdata (d : Device) (x : W32) (i : Nat) : Device.domOn { d with rdata := x } i = d.domOn i := rfl
@[simp] theorem Device.pageOn_rdata (d : Device) (x : W32) (p : Page) : Device.pageOn { d with rdata := x } p = d.pageOn p := rfl
@[simp] theorem Device.domOn_wrRefused (d : Device) (x : Bool) (i : Nat) : Device.domOn { d with wrRefused := x } i = d.domOn i := rfl
@[simp] theorem Device.pageOn_wrRefused (d : Device) (x : Bool) (p : Page) : Device.pageOn { d with wrRefused := x } p = d.pageOn p := rfl
@[simp] theorem Device.domOn_thm (d : Device) (x : ThmSt) (i : Nat) : Device.domOn { d with thm := x } i = d.domOn i := rfl
@[simp] theorem Device.pageOn_thm (d : Device) (x : ThmSt) (p : Page) : Device.pageOn { d with thm := x } p = d.pageOn p := rfl
@[simp] theorem Device.domOn_hlt (d : Device) (x : HltSt) (i : Nat) : Device.domOn { d with hlt := x } i = d.domOn i := rfl
@[simp] theorem Device.pageOn_hlt (d : Device) (x : HltSt) (p : Page) : Device.pageOn { d with hlt := x } p = d.pageOn p := rfl
@[simp] theorem Device.domOn_nvs (d : Device) (x : NvsSt) (i : Nat) : Device.domOn { d with nvs := x } i = d.domOn i := rfl
@[simp] theorem Device.pageOn_nvs (d : Device) (x : NvsSt) (p : Page) : Device.pageOn { d with nvs := x } p = d.pageOn p := rfl
@[simp] theorem Device.domOn_tim (d : Device) (x : TimSt) (i : Nat) : Device.domOn { d with tim := x } i = d.domOn i := rfl
@[simp] theorem Device.pageOn_tim (d : Device) (x : TimSt) (p : Page) : Device.pageOn { d with tim := x } p = d.pageOn p := rfl
@[simp] theorem Device.domOn_evb (d : Device) (x : EvbSt) (i : Nat) : Device.domOn { d with evb := x } i = d.domOn i := rfl
@[simp] theorem Device.pageOn_evb (d : Device) (x : EvbSt) (p : Page) : Device.pageOn { d with evb := x } p = d.pageOn p := rfl
@[simp] theorem Device.domOn_cores (d : Device) (x : List (Nat × DspCore)) (i : Nat) : Device.domOn { d with cores := x } i = d.domOn i := rfl
@[simp] theorem Device.pageOn_cores (d : Device) (x : List (Nat × DspCore)) (p : Page) : Device.pageOn { d with cores := x } p = d.pageOn p := rfl
@[simp] theorem Device.domOn_pci (d : Device) (x : PciSt) (i : Nat) : Device.domOn { d with pci := x } i = d.domOn i := rfl
@[simp] theorem Device.pageOn_pci (d : Device) (x : PciSt) (p : Page) : Device.pageOn { d with pci := x } p = d.pageOn p := rfl
@[simp] theorem Device.domOn_evc (d : Device) (x : EvcSt) (i : Nat) : Device.domOn { d with evc := x } i = d.domOn i := rfl
@[simp] theorem Device.pageOn_evc (d : Device) (x : EvcSt) (p : Page) : Device.pageOn { d with evc := x } p = d.pageOn p := rfl
@[simp] theorem Device.domOn_sea (d : Device) (x : SeaSt) (i : Nat) : Device.domOn { d with sea := x } i = d.domOn i := rfl
@[simp] theorem Device.pageOn_sea (d : Device) (x : SeaSt) (p : Page) : Device.pageOn { d with sea := x } p = d.pageOn p := rfl
@[simp] theorem Device.domOn_sec (d : Device) (x : SecSt) (i : Nat) : Device.domOn { d with sec := x } i = d.domOn i := rfl
@[simp] theorem Device.pageOn_sec (d : Device) (x : SecSt) (p : Page) : Device.pageOn { d with sec := x } p = d.pageOn p := rfl
@[simp] theorem Device.domOn_arr (d : Device) (x : ArrSt) (i : Nat) : Device.domOn { d with arr := x } i = d.domOn i := rfl
@[simp] theorem Device.pageOn_arr (d : Device) (x : ArrSt) (p : Page) : Device.pageOn { d with arr := x } p = d.pageOn p := rfl
@[simp] theorem Device.domOn_wadcs (d : Device) (x : List (Nat × WadcSt)) (i : Nat) : Device.domOn { d with wadcs := x } i = d.domOn i := rfl
@[simp] theorem Device.pageOn_wadcs (d : Device) (x : List (Nat × WadcSt)) (p : Page) : Device.pageOn { d with wadcs := x } p = d.pageOn p := rfl
@[simp] theorem Device.domOn_mon (d : Device) (x : MonSt) (i : Nat) : Device.domOn { d with mon := x } i = d.domOn i := rfl
@[simp] theorem Device.pageOn_mon (d : Device) (x : MonSt) (p : Page) : Device.pageOn { d with mon := x } p = d.pageOn p := rfl
@[simp] theorem Device.domOn_cdr (d : Device) (x : CdrSt) (i : Nat) : Device.domOn { d with cdr := x } i = d.domOn i := rfl
@[simp] theorem Device.pageOn_cdr (d : Device) (x : CdrSt) (p : Page) : Device.pageOn { d with cdr := x } p = d.pageOn p := rfl
@[simp] theorem Device.domOn_trg (d : Device) (x : TrgSt) (i : Nat) : Device.domOn { d with trg := x } i = d.domOn i := rfl
@[simp] theorem Device.pageOn_trg (d : Device) (x : TrgSt) (p : Page) : Device.pageOn { d with trg := x } p = d.pageOn p := rfl
@[simp] theorem Device.domOn_his (d : Device) (x : HisSt) (i : Nat) : Device.domOn { d with his := x } i = d.domOn i := rfl
@[simp] theorem Device.pageOn_his (d : Device) (x : HisSt) (p : Page) : Device.pageOn { d with his := x } p = d.pageOn p := rfl
@[simp] theorem Device.domOn_sta (d : Device) (x : StaSt) (i : Nat) : Device.domOn { d with sta := x } i = d.domOn i := rfl
@[simp] theorem Device.pageOn_sta (d : Device) (x : StaSt) (p : Page) : Device.pageOn { d with sta := x } p = d.pageOn p := rfl
@[simp] theorem Device.domOn_lnk (d : Device) (x : LnkSt) (i : Nat) : Device.domOn { d with lnk := x } i = d.domOn i := rfl
@[simp] theorem Device.pageOn_lnk (d : Device) (x : LnkSt) (p : Page) : Device.pageOn { d with lnk := x } p = d.pageOn p := rfl
@[simp] theorem Device.domOn_zvl (d : Device) (x : ZvlSt) (i : Nat) : Device.domOn { d with zvl := x } i = d.domOn i := rfl
@[simp] theorem Device.pageOn_zvl (d : Device) (x : ZvlSt) (p : Page) : Device.pageOn { d with zvl := x } p = d.pageOn p := rfl
@[simp] theorem Device.domOn_staging (d : Device) (x : List (Nat × W64)) (i : Nat) : Device.domOn { d with staging := x } i = d.domOn i := rfl
@[simp] theorem Device.pageOn_staging (d : Device) (x : List (Nat × W64)) (p : Page) : Device.pageOn { d with staging := x } p = d.pageOn p := rfl
@[simp] theorem Device.domOn_dspTrig (d : Device) (x : List DspTrigger) (i : Nat) : Device.domOn { d with dspTrig := x } i = d.domOn i := rfl
@[simp] theorem Device.pageOn_dspTrig (d : Device) (x : List DspTrigger) (p : Page) : Device.pageOn { d with dspTrig := x } p = d.pageOn p := rfl
@[simp] theorem Device.domOn_eventQ (d : Device) (x : List EventMsg) (i : Nat) : Device.domOn { d with eventQ := x } i = d.domOn i := rfl
@[simp] theorem Device.pageOn_eventQ (d : Device) (x : List EventMsg) (p : Page) : Device.pageOn { d with eventQ := x } p = d.pageOn p := rfl
@[simp] theorem Device.domOn_eventLost (d : Device) (x : Bool) (i : Nat) : Device.domOn { d with eventLost := x } i = d.domOn i := rfl
@[simp] theorem Device.pageOn_eventLost (d : Device) (x : Bool) (p : Page) : Device.pageOn { d with eventLost := x } p = d.pageOn p := rfl

/-! Reading fields after other updates: the side conditions are decidable for registers at fixed addresses. -/

theorem Device.fld_setWord_ne {d : Device} {a : Nat} {w : W32} {g : Fld} (h : g.addr ≠ a) : (d.setWord a w).fld g = d.fld g := by
  simp only [Device.fld, Device.word_setWord_ne d w h]
theorem Device.flag_setWord_ne {d : Device} {a : Nat} {w : W32} {g : Fld} (h : g.addr ≠ a) : (d.setWord a w).flag g = d.flag g := by
  simp only [Device.flag, Device.fld_setWord_ne h]
theorem Device.word_setFld_ne {d : Device} {f : Fld} {v a : Nat} (h : a ≠ f.addr) : (d.setFld f v).word a = d.word a := Device.word_setWord_ne d _ h
theorem Device.word_setFlag_ne {d : Device} {f : Fld} {v : Bool} {a : Nat} (h : a ≠ f.addr) : (d.setFlag f v).word a = d.word a := Device.word_setWord_ne d _ h
theorem Device.word_count_ne {d : Device} {b n a : Nat} (h : a ≠ b) : (d.count b n).word a = d.word a := Device.word_setWord_ne d _ h
theorem Device.fld_setFld_ne {d : Device} {f : Fld} {v : Nat} {g : Fld} (h : g.addr ≠ f.addr) : (d.setFld f v).fld g = d.fld g := Device.fld_setWord_ne h
theorem Device.fld_setFlag_ne {d : Device} {f : Fld} {v : Bool} {g : Fld} (h : g.addr ≠ f.addr) : (d.setFlag f v).fld g = d.fld g := Device.fld_setWord_ne h
theorem Device.fld_count_ne {d : Device} {b n : Nat} {g : Fld} (h : g.addr ≠ b) : (d.count b n).fld g = d.fld g := Device.fld_setWord_ne h
theorem Device.flag_setFld_ne {d : Device} {f : Fld} {v : Nat} {g : Fld} (h : g.addr ≠ f.addr) : (d.setFld f v).flag g = d.flag g := Device.flag_setWord_ne h
theorem Device.flag_setFlag_ne {d : Device} {f : Fld} {v : Bool} {g : Fld} (h : g.addr ≠ f.addr) : (d.setFlag f v).flag g = d.flag g := Device.flag_setWord_ne h
theorem Device.flag_count_ne {d : Device} {b n : Nat} {g : Fld} (h : g.addr ≠ b) : (d.count b n).flag g = d.flag g := Device.flag_setWord_ne h
theorem Device.fld_raise {d : Device} {q : Page} {b x : Nat} {g : Fld} (h : sharedReg g.addr = false) : (d.raise q b x).fld g = d.fld g := by
  simp only [Device.fld, Device.word_raise h]
theorem Device.flag_raise {d : Device} {q : Page} {b x : Nat} {g : Fld} (h : sharedReg g.addr = false) : (d.raise q b x).flag g = d.flag g := by
  simp only [Device.flag, Device.fld_raise h]
theorem Device.word_healthLog {d : Device} {k : Nat} {w : W64} {a : Nat} (h : sharedReg a = false) : (d.healthLog k w).word a = d.word a :=
  (Frame.healthLog (bs := []) (rs := fun _ => false) (ps := []) Frame.refl).words a rfl h
theorem Device.word_audit {d : Device} {k r y z x : Nat} {w : W32} {a : Nat} (h : sharedReg a = false) : (d.audit k r y z x w).word a = d.word a :=
  (Frame.audit (bs := []) (rs := fun _ => false) (ps := []) Frame.refl).words a rfl h
theorem Device.word_alarm {d : Device} {b : Fin 5} {a : Nat} (h : sharedReg a = false) : (d.alarm b).word a = d.word a :=
  (Frame.alarm (bs := [.alarms]) (rs := fun _ => false) (ps := []) Frame.refl (by simp)).words a rfl h
theorem Device.fld_healthLog {d : Device} {k : Nat} {w : W64} {g : Fld} (h : sharedReg g.addr = false) : (d.healthLog k w).fld g = d.fld g := by
  simp only [Device.fld, Device.word_healthLog h]
theorem Device.flag_healthLog {d : Device} {k : Nat} {w : W64} {g : Fld} (h : sharedReg g.addr = false) : (d.healthLog k w).flag g = d.flag g := by
  simp only [Device.flag, Device.fld_healthLog h]
theorem Device.fld_audit {d : Device} {k r y z x : Nat} {w : W32} {g : Fld} (h : sharedReg g.addr = false) : (d.audit k r y z x w).fld g = d.fld g := by
  simp only [Device.fld, Device.word_audit h]
theorem Device.flag_audit {d : Device} {k r y z x : Nat} {w : W32} {g : Fld} (h : sharedReg g.addr = false) : (d.audit k r y z x w).flag g = d.flag g := by
  simp only [Device.flag, Device.fld_audit h]
theorem Device.fld_alarm {d : Device} {b : Fin 5} {g : Fld} (h : sharedReg g.addr = false) : (d.alarm b).fld g = d.fld g := by
  simp only [Device.fld, Device.word_alarm h]
theorem Device.flag_alarm {d : Device} {b : Fin 5} {g : Fld} (h : sharedReg g.addr = false) : (d.alarm b).flag g = d.flag g := by
  simp only [Device.flag, Device.fld_alarm h]
theorem Device.fld_setFlag_self {d : Device} {f : Fld} {b : Bool} (h : f.lsb + f.width ≤ 32) : (d.setFlag f b).fld f = b.toNat % 2 ^ f.width :=
  Device.fld_setFld_self d f _ h
theorem Device.sticky_raise_other {d : Device} {p q : Page} {b x : Nat} (h : q ≠ p) (hs : sharedPage q = false) : (d.raise p b x).sticky q = d.sticky q :=
  (Frame.raise (bs := []) (rs := fun _ => false) (ps := [p]) Frame.refl (.inl (by simp))).events q (by simp [h]) hs
@[simp] theorem Device.fld_clock (d : Device) (x : Nat) (f : Fld) : Device.fld { d with clock := x } f = d.fld f := rfl
@[simp] theorem Device.flag_clock (d : Device) (x : Nat) (f : Fld) : Device.flag { d with clock := x } f = d.flag f := rfl
@[simp] theorem Device.fld_free (d : Device) (x : Nat) (f : Fld) : Device.fld { d with free := x } f = d.fld f := rfl
@[simp] theorem Device.flag_free (d : Device) (x : Nat) (f : Fld) : Device.flag { d with free := x } f = d.flag f := rfl
@[simp] theorem Device.fld_evSticky (d : Device) (x : List (Nat × W32)) (f : Fld) : Device.fld { d with evSticky := x } f = d.fld f := rfl
@[simp] theorem Device.flag_evSticky (d : Device) (x : List (Nat × W32)) (f : Fld) : Device.flag { d with evSticky := x } f = d.flag f := rfl
@[simp] theorem Device.fld_evEnable (d : Device) (x : List (Nat × W32)) (f : Fld) : Device.fld { d with evEnable := x } f = d.fld f := rfl
@[simp] theorem Device.flag_evEnable (d : Device) (x : List (Nat × W32)) (f : Fld) : Device.flag { d with evEnable := x } f = d.flag f := rfl
@[simp] theorem Device.fld_out (d : Device) (x : List OutEvent) (f : Fld) : Device.fld { d with out := x } f = d.fld f := rfl
@[simp] theorem Device.flag_out (d : Device) (x : List OutEvent) (f : Fld) : Device.flag { d with out := x } f = d.flag f := rfl
@[simp] theorem Device.fld_rdata (d : Device) (x : W32) (f : Fld) : Device.fld { d with rdata := x } f = d.fld f := rfl
@[simp] theorem Device.flag_rdata (d : Device) (x : W32) (f : Fld) : Device.flag { d with rdata := x } f = d.flag f := rfl
@[simp] theorem Device.fld_wrRefused (d : Device) (x : Bool) (f : Fld) : Device.fld { d with wrRefused := x } f = d.fld f := rfl
@[simp] theorem Device.flag_wrRefused (d : Device) (x : Bool) (f : Fld) : Device.flag { d with wrRefused := x } f = d.flag f := rfl
@[simp] theorem Device.fld_pwr (d : Device) (x : PwrSt) (f : Fld) : Device.fld { d with pwr := x } f = d.fld f := rfl
@[simp] theorem Device.flag_pwr (d : Device) (x : PwrSt) (f : Fld) : Device.flag { d with pwr := x } f = d.flag f := rfl
@[simp] theorem Device.fld_thm (d : Device) (x : ThmSt) (f : Fld) : Device.fld { d with thm := x } f = d.fld f := rfl
@[simp] theorem Device.flag_thm (d : Device) (x : ThmSt) (f : Fld) : Device.flag { d with thm := x } f = d.flag f := rfl
@[simp] theorem Device.fld_hlt (d : Device) (x : HltSt) (f : Fld) : Device.fld { d with hlt := x } f = d.fld f := rfl
@[simp] theorem Device.flag_hlt (d : Device) (x : HltSt) (f : Fld) : Device.flag { d with hlt := x } f = d.flag f := rfl
@[simp] theorem Device.fld_nvs (d : Device) (x : NvsSt) (f : Fld) : Device.fld { d with nvs := x } f = d.fld f := rfl
@[simp] theorem Device.flag_nvs (d : Device) (x : NvsSt) (f : Fld) : Device.flag { d with nvs := x } f = d.flag f := rfl
@[simp] theorem Device.fld_tim (d : Device) (x : TimSt) (f : Fld) : Device.fld { d with tim := x } f = d.fld f := rfl
@[simp] theorem Device.flag_tim (d : Device) (x : TimSt) (f : Fld) : Device.flag { d with tim := x } f = d.flag f := rfl
@[simp] theorem Device.fld_evb (d : Device) (x : EvbSt) (f : Fld) : Device.fld { d with evb := x } f = d.fld f := rfl
@[simp] theorem Device.flag_evb (d : Device) (x : EvbSt) (f : Fld) : Device.flag { d with evb := x } f = d.flag f := rfl
@[simp] theorem Device.fld_cores (d : Device) (x : List (Nat × DspCore)) (f : Fld) : Device.fld { d with cores := x } f = d.fld f := rfl
@[simp] theorem Device.flag_cores (d : Device) (x : List (Nat × DspCore)) (f : Fld) : Device.flag { d with cores := x } f = d.flag f := rfl
@[simp] theorem Device.fld_pci (d : Device) (x : PciSt) (f : Fld) : Device.fld { d with pci := x } f = d.fld f := rfl
@[simp] theorem Device.flag_pci (d : Device) (x : PciSt) (f : Fld) : Device.flag { d with pci := x } f = d.flag f := rfl
@[simp] theorem Device.fld_evc (d : Device) (x : EvcSt) (f : Fld) : Device.fld { d with evc := x } f = d.fld f := rfl
@[simp] theorem Device.flag_evc (d : Device) (x : EvcSt) (f : Fld) : Device.flag { d with evc := x } f = d.flag f := rfl
@[simp] theorem Device.fld_sea (d : Device) (x : SeaSt) (f : Fld) : Device.fld { d with sea := x } f = d.fld f := rfl
@[simp] theorem Device.flag_sea (d : Device) (x : SeaSt) (f : Fld) : Device.flag { d with sea := x } f = d.flag f := rfl
@[simp] theorem Device.fld_sec (d : Device) (x : SecSt) (f : Fld) : Device.fld { d with sec := x } f = d.fld f := rfl
@[simp] theorem Device.flag_sec (d : Device) (x : SecSt) (f : Fld) : Device.flag { d with sec := x } f = d.flag f := rfl
@[simp] theorem Device.fld_arr (d : Device) (x : ArrSt) (f : Fld) : Device.fld { d with arr := x } f = d.fld f := rfl
@[simp] theorem Device.flag_arr (d : Device) (x : ArrSt) (f : Fld) : Device.flag { d with arr := x } f = d.flag f := rfl
@[simp] theorem Device.fld_wadcs (d : Device) (x : List (Nat × WadcSt)) (f : Fld) : Device.fld { d with wadcs := x } f = d.fld f := rfl
@[simp] theorem Device.flag_wadcs (d : Device) (x : List (Nat × WadcSt)) (f : Fld) : Device.flag { d with wadcs := x } f = d.flag f := rfl
@[simp] theorem Device.fld_mon (d : Device) (x : MonSt) (f : Fld) : Device.fld { d with mon := x } f = d.fld f := rfl
@[simp] theorem Device.flag_mon (d : Device) (x : MonSt) (f : Fld) : Device.flag { d with mon := x } f = d.flag f := rfl
@[simp] theorem Device.fld_cdr (d : Device) (x : CdrSt) (f : Fld) : Device.fld { d with cdr := x } f = d.fld f := rfl
@[simp] theorem Device.flag_cdr (d : Device) (x : CdrSt) (f : Fld) : Device.flag { d with cdr := x } f = d.flag f := rfl
@[simp] theorem Device.fld_trg (d : Device) (x : TrgSt) (f : Fld) : Device.fld { d with trg := x } f = d.fld f := rfl
@[simp] theorem Device.flag_trg (d : Device) (x : TrgSt) (f : Fld) : Device.flag { d with trg := x } f = d.flag f := rfl
@[simp] theorem Device.fld_his (d : Device) (x : HisSt) (f : Fld) : Device.fld { d with his := x } f = d.fld f := rfl
@[simp] theorem Device.flag_his (d : Device) (x : HisSt) (f : Fld) : Device.flag { d with his := x } f = d.flag f := rfl
@[simp] theorem Device.fld_sta (d : Device) (x : StaSt) (f : Fld) : Device.fld { d with sta := x } f = d.fld f := rfl
@[simp] theorem Device.flag_sta (d : Device) (x : StaSt) (f : Fld) : Device.flag { d with sta := x } f = d.flag f := rfl
@[simp] theorem Device.fld_lnk (d : Device) (x : LnkSt) (f : Fld) : Device.fld { d with lnk := x } f = d.fld f := rfl
@[simp] theorem Device.flag_lnk (d : Device) (x : LnkSt) (f : Fld) : Device.flag { d with lnk := x } f = d.flag f := rfl
@[simp] theorem Device.fld_zvl (d : Device) (x : ZvlSt) (f : Fld) : Device.fld { d with zvl := x } f = d.fld f := rfl
@[simp] theorem Device.flag_zvl (d : Device) (x : ZvlSt) (f : Fld) : Device.flag { d with zvl := x } f = d.flag f := rfl
@[simp] theorem Device.fld_staging (d : Device) (x : List (Nat × W64)) (f : Fld) : Device.fld { d with staging := x } f = d.fld f := rfl
@[simp] theorem Device.flag_staging (d : Device) (x : List (Nat × W64)) (f : Fld) : Device.flag { d with staging := x } f = d.flag f := rfl
@[simp] theorem Device.fld_dspTrig (d : Device) (x : List DspTrigger) (f : Fld) : Device.fld { d with dspTrig := x } f = d.fld f := rfl
@[simp] theorem Device.flag_dspTrig (d : Device) (x : List DspTrigger) (f : Fld) : Device.flag { d with dspTrig := x } f = d.flag f := rfl
@[simp] theorem Device.fld_eventQ (d : Device) (x : List EventMsg) (f : Fld) : Device.fld { d with eventQ := x } f = d.fld f := rfl
@[simp] theorem Device.flag_eventQ (d : Device) (x : List EventMsg) (f : Fld) : Device.flag { d with eventQ := x } f = d.flag f := rfl
@[simp] theorem Device.fld_eventLost (d : Device) (x : Bool) (f : Fld) : Device.fld { d with eventLost := x } f = d.fld f := rfl
@[simp] theorem Device.flag_eventLost (d : Device) (x : Bool) (f : Fld) : Device.flag { d with eventLost := x } f = d.flag f := rfl

end Sys2Proof.Machine
end

