-- ==== Sys2Proof/Laws/Deliver.lean ====
section
/-! SUPPORT. What the delivery of events and the settling of the service level and of the ADCs leave behind them, from any device. -/

namespace Sys2Proof.Machine


/-- One bit of a vector word. -/
theorem bit_two_pow (v u : Nat) (h : v < 64) : (BitVec.ofNat 64 (2 ^ v)).getLsbD u = decide (u = v) := by
  rw [BitVec.getLsbD_ofNat, Nat.testBit_two_pow]
  by_cases e : v = u
  · subst e; simp only [h, decide_true, Bool.and_self]
  · simp only [e, Ne.symm e, decide_false, Bool.and_false]

/-- Two devices agree in everything that decides which sources and vectors are asserted, and in who may send. -/
structure SameFor (d e : Device) : Prop where
  regs : e.regs = d.regs
  st : e.evSticky = d.evSticky
  en : e.evEnable = d.evEnable
  part : e.part = d.part
  pwr : e.pwr = d.pwr
  asserted : e.evc.asserted = d.evc.asserted
  cfg : e.pci.cfg = d.pci.cfg
  up : e.pci.up = d.pci.up
  msix : e.pci.msix = d.pci.msix

/-- Sending a message changes only the in-service and pending bits and the output. -/
theorem Device.sendVector_same (d : Device) (v : Nat) : SameFor d (d.sendVector v) := by
  unfold Device.sendVector
  split
  · exact ⟨rfl, rfl, rfl, rfl, rfl, rfl, rfl, rfl, rfl⟩
  · split <;> exact ⟨rfl, rfl, rfl, rfl, rfl, rfl, rfl, rfl, rfl⟩

theorem SameFor.trans {a b c : Device} (h : SameFor a b) (k : SameFor b c) : SameFor a c := ⟨k.regs.trans h.regs, k.st.trans h.st, k.en.trans h.en, k.part.trans h.part, k.pwr.trans h.pwr, k.asserted.trans h.asserted, k.cfg.trans h.cfg, k.up.trans h.up, k.msix.trans h.msix⟩

theorem Device.sendVectors_same (l : List Nat) (d : Device) : SameFor d (l.foldl (fun d v => d.sendVector v) d) := by
  induction l generalizing d with
  | nil => exact ⟨rfl, rfl, rfl, rfl, rfl, rfl, rfl, rfl, rfl⟩
  | cons x l ih => exact (Device.sendVector_same d x).trans (ih _)

theorem SameFor.flag {d e : Device} (h : SameFor d e) (f : Fld) : e.flag f = d.flag f := by simp only [Device.flag, Device.fld, Device.word, h.regs]

theorem SameFor.fld {d e : Device} (h : SameFor d e) (f : Fld) : e.fld f = d.fld f := by simp only [Device.fld, Device.word, h.regs]

theorem SameFor.domOn {d e : Device} (h : SameFor d e) (i : Nat) : e.domOn i = d.domOn i := by simp only [Device.domOn, Device.word, h.regs, h.pwr]

theorem SameFor.pageOn {d e : Device} (h : SameFor d e) (p) : e.pageOn p = d.pageOn p := by simp only [Device.pageOn, Device.hasPage, Device.hasDie, h.domOn, h.part]

theorem SameFor.now {d e : Device} (h : SameFor d e) : e.assertedNow = d.assertedNow := by simp only [Device.assertedNow, h.st, Device.evEn, h.en, h.pageOn]; rfl

theorem SameFor.vectors {d e : Device} (h : SameFor d e) (w) : e.vectors w = d.vectors w := by simp only [Device.vectors, h.flag, h.fld]

theorem SameFor.ready {d e : Device} (h : SameFor d e) : e.msixReady = d.msixReady := by simp only [Device.msixReady, h.domOn, h.up, h.cfg]

/-- A vector is in service, or it waits masked in its pending bit. -/
def Served (d : Device) (v : Nat) : Prop := d.evc.insvc.getLsbD v = true ∨ ((d.pci.cfg.functionMask = true ∨ (d.msixEntry v).mask = true) ∧ d.pci.pba.getLsbD v = true)

/-- An endpoint that is ready serves the vector. -/
theorem Device.sendVector_serves (d : Device) (v : Nat) (hv : v < 64) (hr : d.msixReady = true) : Served (d.sendVector v) v := by
  unfold Device.sendVector
  by_cases h1 : d.evc.insvc.getLsbD v = true
  · rw [if_pos (by simp [h1])]; exact .inl h1
  · rw [if_neg (by simp [h1, hr])]
    by_cases h2 : (d.pci.cfg.functionMask || (d.msixEntry v).mask) = true
    · rw [if_pos h2]; refine .inr ⟨by rw [Bool.or_eq_true] at h2; exact h2, ?_⟩
      simp only [BitVec.getLsbD_or, bit_two_pow v v hv]; simp
    · rw [if_neg h2]; refine .inl ?_
      simp only [Device.send, BitVec.getLsbD_or, bit_two_pow v v hv]; simp

/-- Serving one vector leaves another served. -/
theorem Device.sendVector_keeps (d : Device) (v w : Nat) (hw : w < 64) (hne : v ≠ w) (h : Served d v) : Served (d.sendVector w) v := by
  unfold Device.sendVector
  split
  · exact h
  · split
    · rcases h with h | ⟨h1, h2⟩
      · exact .inl h
      · refine .inr ⟨h1, ?_⟩
        simp only [BitVec.getLsbD_or, h2, Bool.true_or]
    · rcases h with h | ⟨h1, h2⟩
      · refine .inl ?_; simp only [Device.send, BitVec.getLsbD_or, h, Bool.true_or]
      · refine .inr ⟨h1, ?_⟩
        have hl : v < 64 := BitVec.lt_of_getLsbD h2
        simp only [Device.send, BitVec.getLsbD_and, h2, BitVec.getLsbD_not, bit_two_pow w v hw]; simp [hne, hl]

/-- Every vector of a list ends up served. -/
theorem Device.sendVectors_serve (l : List Nat) (d : Device) (hl : ∀ x ∈ l, x < 64) (hr : d.msixReady = true) (v : Nat) (h : v ∈ l ∨ Served d v) :
    Served (l.foldl (fun d v => d.sendVector v) d) v := by
  induction l generalizing d with
  | nil => rcases h with h | h
           · cases h
           · exact h
  | cons x l ih =>
    have hx := hl x (by simp)
    refine ih _ (fun y hy => hl y (by simp [hy])) ((Device.sendVector_same d x).ready.trans hr) ?_
    by_cases e : v = x
    · subst e; exact .inr (Device.sendVector_serves d v hx hr)
    · rcases h with h | h
      · rcases List.mem_cons.1 h with h | h
        · exact absurd h e
        · exact .inl h
      · exact .inr (Device.sendVector_keeps d v x hx e h)

/-- Pending bits lie within the vectors that were asserted. -/
theorem Device.sendVectors_pba (l : List Nat) (d : Device) (vs : BitVec 64) (hl : ∀ x ∈ l, x < 64 ∧ vs.getLsbD x = true) (h : d.pci.pba &&& ~~~vs = 0) :
    (l.foldl (fun d v => d.sendVector v) d).pci.pba &&& ~~~vs = 0 := by
  induction l generalizing d with
  | nil => exact h
  | cons x l ih =>
    obtain ⟨hx, hv⟩ := hl x (by simp)
    refine ih _ (fun y hy => hl y (by simp [hy])) ?_
    show (d.sendVector x).pci.pba &&& ~~~vs = 0
    have hb : ∀ i, (d.pci.pba).getLsbD i = true → vs.getLsbD i = true := by
      intro i hi
      have := congrArg (fun w => w.getLsbD i) h
      simp only [BitVec.getLsbD_and, hi, BitVec.getLsbD_not] at this
      have hl : i < 64 := BitVec.lt_of_getLsbD hi
      simpa [hl] using this
    have fin : ∀ w : BitVec 64, (∀ i, w.getLsbD i = true → vs.getLsbD i = true) → w &&& ~~~vs = 0 := by
      intro w hw
      apply BitVec.eq_of_getLsbD_eq
      intro i hi
      have := hw i
      simp only [BitVec.getLsbD_and, BitVec.getLsbD_not]
      cases hwi : w.getLsbD i
      · simp
      · simp [this hwi]
    unfold Device.sendVector
    split
    · exact h
    · split
      · refine fin _ fun i hi => ?_
        simp only [BitVec.getLsbD_or, bit_two_pow x i hx, Bool.or_eq_true, decide_eq_true_eq] at hi
        rcases hi with hi | hi
        · exact hb i hi
        · exact hi ▸ hv
      · refine fin _ fun i hi => ?_
        simp only [Device.send, BitVec.getLsbD_and, Bool.and_eq_true] at hi
        exact hb i hi.1

theorem mem_vectorsIn (w : BitVec 64) (v : Nat) (h : w.getLsbD v = true) : v ∈ vectorsIn w := by
  have : w ≠ 0 := by rintro rfl; simp at h
  simp only [vectorsIn, this, if_false, List.mem_filter, List.mem_range]
  exact ⟨BitVec.lt_of_getLsbD h, h⟩

theorem vectorsIn_lt (w : BitVec 64) (v : Nat) (h : v ∈ vectorsIn w) : v < 64 ∧ w.getLsbD v = true := by
  simp only [vectorsIn] at h
  split at h
  · cases h
  · simpa using h

/-- What `deliver` sees to. -/
structure Delivered (t : Device) : Prop where
  sources : t.evc.asserted = t.assertedNow
  irq : t.evc.irqLow = (t.flag (fEnable .evc) && (sourcesIn t.evc.asserted).any fun s => t.flag (Reg.EVC.ROUTE_IRQ_EN s))
  inta : t.evc.inta = (t.flag (fEnable .evc) && (t.domOn 11 && !t.pci.cfg.msixEnable && !t.pci.cfg.interruptDisable && t.vectors t.evc.asserted != 0))
  messages : t.flag (fEnable .evc) = true → t.msixReady = true → ∀ v, (t.vectors t.evc.asserted).getLsbD v = true → Served t v
  pendingBits : t.flag (fEnable .evc) = true → t.pci.pba &&& ~~~t.vectors t.evc.asserted = 0

/-- The delivery with the event controller's page enabled, once the sources are known. -/
theorem Device.deliver_on (x : Device) (hon : x.flag (fEnable .evc) = true) :
    let now := x.assertedNow
    let y : Device := { x with evc := { x.evc with asserted := now } }
    let vs := y.vectors now
    let z : Device := { y with pci := { y.pci with pba := y.pci.pba &&& vs } }
    let w := (vectorsIn vs).foldl (fun d v => d.sendVector v) z
    let t : Device := { w with evc := { w.evc with
      irqLow := (sourcesIn now).any fun s => w.flag (Reg.EVC.ROUTE_IRQ_EN s)
      inta := w.domOn 11 && !w.pci.cfg.msixEnable && !w.pci.cfg.interruptDisable && vs != 0 } }
    Delivered t := by
  intro now y vs z w t
  have yz : SameFor y z := ⟨rfl, rfl, rfl, rfl, rfl, rfl, rfl, rfl, rfl⟩
  have zw : SameFor z w := Device.sendVectors_same (vectorsIn vs) z
  have wt : SameFor w t := ⟨rfl, rfl, rfl, rfl, rfl, rfl, rfl, rfl, rfl⟩
  have yt := (yz.trans zw).trans wt
  have en : t.flag (fEnable .evc) = true := (yt.flag _).trans hon
  have as : t.evc.asserted = now := yt.asserted
  have vt : t.vectors now = vs := yt.vectors now
  refine ⟨?_, ?_, ?_, ?_, ?_⟩
  · rw [as, yt.now]; rfl
  · rw [en, as, Bool.true_and]; simp only [wt.flag]; rfl
  · rw [en, as, Bool.true_and, vt, wt.domOn, wt.cfg]
  · intro _ hr v hv
    rw [as, vt] at hv
    have hz : z.msixReady = true := ((zw.trans wt).ready).symm.trans hr
    exact Device.sendVectors_serve (vectorsIn vs) z (fun v hv => (vectorsIn_lt _ v hv).1) hz v (.inl (mem_vectorsIn _ v hv))
  · intro _
    rw [as, vt]
    exact Device.sendVectors_pba (vectorsIn vs) z vs (fun v hv => vectorsIn_lt _ v hv) (by
      show (y.pci.pba &&& vs) &&& ~~~vs = 0
      ext i; simp)

/-- What `deliver` leaves, from any device. -/
theorem Device.deliver_delivered (d : Device) : Delivered d.deliver := by
  unfold Device.deliver
  extract_lets on x now src y vs src2 z w
  have F : Frame [] (fun _ => false) [] d x := Frame.ite (fun _ => Frame.foldl _ Frame.refl fun _ _ h => h.pushLog) fun _ => Frame.refl
  have hx : x.flag (fEnable .evc) = on := by
    have := F.words (fEnable .evc).addr rfl (by decide)
    simp only [Device.flag, Device.fld] at *
    rw [this]; rfl
  clear_value x
  by_cases hon : on = true
  · rw [if_pos hon]
    exact Device.deliver_on x (hx.trans hon)
  · rw [if_neg hon]
    have e : ∀ (z : Device), z.regs = x.regs → z.flag (fEnable .evc) = false := by
      intro z hz
      have : z.flag (fEnable .evc) = x.flag (fEnable .evc) := by simp only [Device.flag, Device.fld, Device.word, hz]
      rw [this, hx]; simpa using hon
    have ee := e { y with evc := { y.evc with irqLow := false, inta := false } } rfl
    refine ⟨rfl, ?_, ?_, ?_, ?_⟩
    · rw [ee]; rfl
    · rw [ee]; rfl
    · intro h; rw [ee] at h; cases h
    · intro h; rw [ee] at h; cases h

/-- What follows every command does not move the enables of an ADC. -/
theorem sharedReg_wadc : ∀ c : Nat, c < 32 → sharedReg (Reg.WADC.WADC_ENABLE (c / 8)) = false ∧ sharedReg (fEnable (convPage c)).addr = false ∧ sharedReg (fDraining (convPage c)).addr = false := by decide +kernel

/-- The conditions of S2 depend on registers, the part and the power only. -/
theorem Device.missing_congr {d e : Device} (h : ∀ a, sharedReg a = false → a ≠ Reg.HLT.SERVICE_LEVEL → e.word a = d.word a) (h0 : e.part = d.part) (hp : e.pwr = d.pwr) : e.missing = d.missing := by
  have hd : ∀ i, e.domOn i = d.domOn i := Device.domOn_congr (congrArg PwrSt.por hp) (h _ rfl (by decide)) (h _ rfl (by decide))
  have hl : e.liveDies = d.liveDies := by simp only [Device.liveDies, Device.hasDie, h0, hd]
  have cal : ∀ n, n < 4 → sharedReg (Reg.STA1.CAL_TEMP_VALID n).addr = false ∧ (Reg.STA1.CAL_TEMP_VALID n).addr ≠ Reg.HLT.SERVICE_LEVEL := by decide +kernel
  have hc : (d.liveDies.all fun n => e.flag (Reg.STA1.CAL_TEMP_VALID n)) = d.liveDies.all fun n => d.flag (Reg.STA1.CAL_TEMP_VALID n) := by
    rw [Bool.eq_iff_iff, List.all_eq_true, List.all_eq_true]
    have : ∀ n ∈ d.liveDies, e.flag (Reg.STA1.CAL_TEMP_VALID n) = d.flag (Reg.STA1.CAL_TEMP_VALID n) := by
      intro n hn
      have : n < 4 := by simp [Device.liveDies] at hn; exact hn.1
      simp only [Device.flag, Device.fld, h _ (cal n this).1 (cal n this).2]
    constructor
    · intro k n hn; rw [← this n hn]; exact k n hn
    · intro k n hn; rw [this n hn]; exact k n hn
  have w1 : e.word Reg.TIM0.STATUS = d.word Reg.TIM0.STATUS := h _ (by decide) (by decide)
  have f (g : Fld) (hg : sharedReg g.addr = false ∧ g.addr ≠ Reg.HLT.SERVICE_LEVEL) : e.fld g = d.fld g := by simp only [Device.fld, h _ hg.1 hg.2]
  have fl (g : Fld) (hg : sharedReg g.addr = false ∧ g.addr ≠ Reg.HLT.SERVICE_LEVEL) : e.flag g = d.flag g := by simp only [Device.flag, f g hg]
  simp only [Device.missing, hd, hl, hc, w1, fl Reg.TIM0.STATUS_LOCK (by decide), fl Reg.TIM0.CTRL_FINE_EN (by decide), fl Reg.LNK.SUMMARY_EQ_LOADED (by decide), f Reg.HIS.STATUS_STATE (by decide), f Reg.SEA0.STATUS_STATE (by decide)]

/-- The level takes its value, and the conditions of S2 stay. -/
theorem Device.setLevel_spec (d : Device) (n : Nat) (hn : n < 3) : (d.setLevel n).fld Reg.HLT.SERVICE_LEVEL_LEVEL = n ∧ (d.setLevel n).missing = d.missing := by
  unfold Device.setLevel
  split
  · exact ⟨by assumption, rfl⟩
  · have F : Frame [] (fun a => a == Reg.HLT.SERVICE_LEVEL) [] d (d.setFld Reg.HLT.SERVICE_LEVEL_LEVEL n) := Frame.refl.setFld (.inl rfl)
    have G : Frame [] (fun _ => false) [] (d.setFld Reg.HLT.SERVICE_LEVEL_LEVEL n) (((d.setFld Reg.HLT.SERVICE_LEVEL_LEVEL n).raise .hlt 0).healthLog 0x02 (BitVec.ofNat 64 (n + ((d.setFld Reg.HLT.SERVICE_LEVEL_LEVEL n).raise .hlt 0).missing.toNat * 256))) :=
      (Frame.refl.raise (.inr rfl)).healthLog
    refine ⟨?_, ?_⟩
    · show Fld.of _ (Device.word _ Reg.HLT.SERVICE_LEVEL) = n
      have := G.words Reg.HLT.SERVICE_LEVEL rfl (by decide)
      rw [this]
      show (d.setFld Reg.HLT.SERVICE_LEVEL_LEVEL n).fld Reg.HLT.SERVICE_LEVEL_LEVEL = n
      refine (Device.fld_setFld_self _ _ _ (by decide)).trans ?_
      exact Nat.mod_eq_of_lt (by simp [Reg.HLT.SERVICE_LEVEL_LEVEL]; omega)
    · have M := Device.missing_congr (d := d.setFld Reg.HLT.SERVICE_LEVEL_LEVEL n) (fun a ha _ => G.words a rfl ha) G.part (G.blocks .pwr (by simp))
      refine M.trans (Device.missing_congr (fun a ha h2 => F.words a (by simpa using h2) ha) F.part (F.blocks .pwr (by simp)))

/-- An ADC that still runs after the halt may run. -/
theorem Device.wadcRuns_of_halted (l : Device) (a : Nat) (h : ((l.haltAdcs (fun a => !l.wadcRuns a) false).wadc a).running = true) : l.wadcRuns a = true := by
  generalize hf : (fun a => !l.wadcRuns a) = f at h
  have : f a = false := by
    unfold Device.wadc Device.haltAdcs at h
    dsimp only at h
    revert h
    generalize l.wadcs = m
    induction m with
    | nil => intro h; cases h
    | cons p m ih =>
      obtain ⟨k, v⟩ := p
      intro h
      simp only [List.map_cons] at h
      by_cases hw : (f k && v.running) = true
      · rw [if_pos hw] at h
        simp only [SMap.get] at h
        split at h
        · cases h
        · exact ih h
      · rw [if_neg hw] at h
        simp only [SMap.get] at h
        split at h
        · next e =>
          rw [h, Bool.and_true] at hw
          have e' : k = a := by simpa using e
          rw [← e']; simpa using hw
        · exact ih h
  rw [← hf] at this
  simpa using this
end Sys2Proof.Machine
end

