-- ==== Sys2Proof/Laws/TimeOps.lean ====
section
/-! SUPPORT. The shared operations on time: what they leave as it was, and the clock and the coarse count after them. -/

namespace Sys2Proof.Machine

variable {bs : List Block} {rs : Nat → Bool} {ps : List Page} {d e : Device}

theorem Frame.clockTim (h : Frame bs rs ps d e) {x : Nat} {y : TimSt} (hc : Block.clock ∈ bs) (ht : Block.tim ∈ bs) :
    Frame bs rs ps d { e with clock := x, tim := y } :=
  h.silent rfl rfl rfl fun b h1 h2 => by cases b <;> first | exact h2 | exact absurd hc h1 | exact absurd ht h1

theorem Frame.tick (h : Frame bs rs ps d e) (hc : Block.clock ∈ bs) (ht : Block.tim ∈ bs) : Frame bs rs ps d e.tick := h.clockTim hc ht

theorem Frame.waitUntil (h : Frame bs rs ps d e) {t : Nat} (hc : Block.clock ∈ bs) (ht : Block.tim ∈ bs) : Frame bs rs ps d (e.waitUntil t) :=
  h.clockTim hc ht

theorem Frame.advanceTo (h : Frame bs rs ps d e) {t : BitVec 58} (hc : Block.clock ∈ bs) (ht : Block.tim ∈ bs) : Frame bs rs ps d (e.advanceTo t) :=
  Frame.ite (fun _ => h.clockTim hc ht) fun _ => h

@[simp] theorem Device.waitUntil_clock (d : Device) (t : Nat) : (d.waitUntil t).clock = max d.clock t := by
  simp only [Device.waitUntil]; omega

theorem Device.waitUntil_regs (d : Device) (t : Nat) : (d.waitUntil t).regs = d.regs := rfl
@[simp] theorem Device.word_waitUntil (d : Device) (t a : Nat) : (d.waitUntil t).word a = d.word a := rfl
@[simp] theorem Device.sticky_waitUntil (d : Device) (t : Nat) (p : Page) : (d.waitUntil t).sticky p = d.sticky p := rfl
@[simp] theorem Device.pageOn_waitUntil (d : Device) (t : Nat) (p : Page) : (d.waitUntil t).pageOn p = d.pageOn p := rfl
@[simp] theorem Device.domOn_waitUntil (d : Device) (t i : Nat) : (d.waitUntil t).domOn i = d.domOn i := rfl

/-- Time passes up to a coarse count that lies ahead. -/
theorem Device.advanceTo_count (d : Device) (t : BitVec 58) (h : (t - d.tim.count).toNat < 2 ^ 57) : (d.advanceTo t).tim.count = t := by
  simp only [Device.advanceTo, h, if_true]

theorem Device.tick_count (d : Device) (h : d.counting = true) : d.tick.tim.count = d.tim.count + 1 := by
  simp only [Device.tick, h, if_true]

end Sys2Proof.Machine
end

