-- ==== Sys2Proof/WellFormed.lean ====
section
/-! DEFINITION. Which terms of Instr are commands: the operands that the types do not bound already. `exec` gives every term a meaning; a term that is not
well-formed spells no occurrence that the spec knows. -/

namespace Sys2Proof

/-- No element twice. -/
def distinct {α : Type} [BEq α] : List α → Bool
  | [] => true
  | x :: xs => !xs.contains x && distinct xs

/-- A word address of BAR0 or BAR2: 32-bit words, 32 MiB and 1 MiB (R457, R458). -/
def wordAddr (a : RegAddr) : Bool := a.toNat % 4 == 0 && decide (a.toNat < 0x2100000)

/-- The conversions of one monitor result: 1, 4, 16 or 64 of them, 1,024 of a calibration, or none, of 16 bits (R173, R174, R180). -/
def codesFit (codes : List Nat) : Bool := [0, 1, 4, 16, 64, 1024].contains codes.length && codes.all fun c => decide (c < 65536)

/-- Dose readings: at most one for each die and one for the concentrator, in kGy, 0 to 10 MGy (R568). -/
def dosesFit (doses : List Nat) : Bool := decide (doses.length ≤ 5) && doses.all fun x => decide (x ≤ 10000)

/-- A link speed of 2.5 to 16 GT/s and a width of 1, 2 or 4 lanes (R455). -/
def linkShape (speed : BitVec 4) (width : BitVec 5) : Bool := decide (1 ≤ speed.toNat ∧ speed.toNat ≤ 4) && [1, 2, 4].contains width.toNat

/-- The command is well-formed. -/
def Instr.wf (i : Instr) : Bool :=
  match i with
  | .registerWrite _ addr _ => wordAddr addr
  | .rwaWrite _ _ addr _ => wordAddr addr
  | .latchedPairRead _ addr => wordAddr addr
  | .pageEnableClear _ => true
  | .pageEnableSet _ => true
  | .pageDrainDone _ => true
  | .pageAbort _ => true
  | .pageAbortDone _ => true
  | .pageSoftReset _ => true
  | .evSetWrite _ _ => true
  | .discriminatorLeadingEdge _ _ _ _ => true
  | .discriminatorTrailingEdge _ _ _ => true
  | .totSaturation _ => true
  | .converterFree _ _ => true
  | .pixelRearm _ => true
  | .regionAcceptHit _ _ => true
  | .flowControlPinUpdate => true
  | .watermarkWrite _ _ => true
  | .testHitOffer _ _ _ => true
  | .bandGrant _ _ => true
  | .channelMerge _ _ _ => true
  | .d2dWordReceive _ _ _ _ => true
  | .handshakeWatchdogReset _ => true
  | .concentratorWatchdogReset _ _ => true
  | .regionFlush _ _ => true
  | .channelFlush _ _ => true
  | .channelFlushDone _ _ _ => true
  | .channelRestart _ _ => true
  | .channelRestartCheck _ _ => true
  | .bandEnableWrite _ _ => true
  | .trefFreqMeasure _ => true
  | .trefEdgeResume => true
  | .trefGap => true
  | .lockAcquired _ => true
  | .pllLossOfLock _ => true
  | .voteError _ => true
  | .pllRestart => true
  | .dllLockAchieved _ => true
  | .dllUnlock _ => true
  | .syncEdge => true
  | .syncLoadTick _ => true
  | .frameStart _ => true
  | .corrDataWrite _ _ => true
  | .tcuConvertHit _ => true
  | .evbAcceptHit _ => true
  | .hitRelease _ => true
  | .frameHeaderQueue => true
  | .alignmentRecordQueue => true
  | .lateRecordTimeout => true
  | .frameContextRetry => true
  | .contextRelease _ => true
  | .quotaWrite _ _ => true
  | .ctxDataRead => true
  | .tableStagingWrite _ _ _ => true
  | .fmtCommit => true
  | .condCommit => true
  | .conditionEvaluation => true
  | .swTrigWrite _ => true
  | .trigInEdge _ _ _ => true
  | .triggerDecision => true
  | .rearmExpire _ => true
  | .trigOutPulseEnd => true
  | .triggerWindowClose => true
  | .captureDone => true
  | .maskTestInterval _ => true
  | .maskRelease => true
  | .feCtrlWrite _ _ _ => true
  | .vthWrite _ _ => true
  | .gainLgWrite _ _ _ => true
  | .gainApply _ _ => true
  | .gainTransitionEnd _ _ => true
  | .tblDataWrite _ _ _ => true
  | .tblDataRead _ => true
  | .statDataRead _ => true
  | .trimApply _ => true
  | .tblFillGo _ _ _ => true
  | .tblFillDone _ => true
  | .injStart _ => true
  | .injStop _ => true
  | .injPulse _ => true
  | .injSenseSample _ _ _ => true
  | .checkSlotStart _ => true
  | .checkPixelReconnect _ => true
  | .checkSlotEnd die found => found.all (fun f => f.1.die == die) && distinct (found.map Prod.fst)
  | .clearStatus _ => true
  | .adcSample _ _ _ _ => true
  | .wadcSeqStart _ _ => true
  | .wadcEntryEnd _ _ => true
  | .wadcInjRequest _ _ _ => true
  | .wadcTriggerStart _ => true
  | .wadcCalSelf _ _ _ => true
  | .wadcCalSysZero _ _ _ => true
  | .wadcCalSysFull _ _ _ => true
  | .wadcCalDone _ _ => true
  | .monCtrlWrite _ => true
  | .monLeadTimeEnd => true
  | .monScanStart => true
  | .monScanTimer => true
  | .monConversionDone codesA codesB => codesFit codesA && codesFit codesB
  | .monCalSelf _ => true
  | .monCalSysZero _ => true
  | .monCalSysFull _ => true
  | .coefDataWrite _ _ => true
  | .hisTrain => true
  | .hisTrainingDone _ => true
  | .dqsDriftCheck _ _ => true
  | .ddrRefresh => true
  | .refreshRatePoll _ => true
  | .scrubBurst lines findings => decide (0 < lines) && distinct (findings.map fun f => (f.line, f.index))
  | .readbackRequest => true
  | .captureRead _ => true
  | .captureRelease _ => true
  | .readbackStart findings => distinct (findings.map fun f => (f.line, f.index))
  | .readbackDone => true
  | .dspNop _ => true
  | .dspMov _ _ _ => true
  | .dspLpush _ => true
  | .dspLpop _ => true
  | .dspTrig _ _ _ => true
  | .dspEi _ => true
  | .dspDi _ => true
  | .dspClrs _ _ _ => true
  | .dspWait _ => true
  | .dspTrap _ _ => true
  | .dspHalt _ => true
  | .dspMul _ _ _ _ _ _ _ => true
  | .dspMac _ _ _ _ _ _ _ => true
  | .dspMacn _ _ _ _ _ _ _ => true
  | .dspMacrn _ _ _ _ _ _ _ => true
  | .dspMulx _ _ _ _ _ _ _ => true
  | .dspMacx _ _ _ _ _ _ _ => true
  | .dspAdd _ _ _ _ _ => true
  | .dspSub _ _ _ _ _ => true
  | .dspNeg _ _ _ _ _ => true
  | .dspAbs _ _ _ _ _ => true
  | .dspClr _ _ _ _ => true
  | .dspMova _ _ _ _ _ => true
  | .dspCmp _ _ _ _ _ => true
  | .dspRnd _ _ _ _ => true
  | .dspAnd _ _ _ _ _ => true
  | .dspOr _ _ _ _ _ => true
  | .dspXor _ _ _ _ _ => true
  | .dspAsl _ _ _ _ _ => true
  | .dspAsr _ _ _ _ _ => true
  | .dspLsr _ _ _ _ _ => true
  | .dspMax _ _ _ _ _ => true
  | .dspMin _ _ _ _ _ => true
  | .dspAddh _ _ _ _ _ => true
  | .dspSubh _ _ _ _ _ => true
  | .dspMovh _ _ _ _ _ => true
  | .dspExtr _ _ _ _ _ _ => true
  | .dspExp _ _ _ _ => true
  | .dspSata _ _ _ _ => true
  | .dspLoad _ _ _ _ _ => true
  | .dspStore _ _ _ _ _ => true
  | .dspLdi _ _ _ => true
  | .dspBra _ _ _ => true
  | .dspCall _ _ => true
  | .dspJmp _ _ => true
  | .dspRts _ => true
  | .dspRti _ => true
  | .dspLoopImmediate _ _ length => length != 0
  | .dspLoopRegister _ _ length => length != 0
  | .illegalInstruction _ => true
  | .interruptEntry _ => true
  | .dspTimerExpire _ => true
  | .fabRead _ => true
  | .fabWrite _ => true
  | .fabAccessDone _ _ => true
  | .resPush _ _ => true
  | .mbxPop _ => true
  | .resDataRead _ => true
  | .mbxWrite _ _ => true
  | .waveformRequest _ => true
  | .waveformRecordDone _ => true
  | .dspRun _ => true
  | .dspHaltRequest _ => true
  | .dspStep _ => true
  | .dspResetPc _ => true
  | .dspBreakpoint _ => true
  | .dspPmemWrite _ _ _ => true
  | .dspRegDataWrite _ _ _ => true
  | .dspMemScrub _ corrected uncorrectable => distinct (corrected ++ uncorrectable)
  | .dspDrainTimeout _ => true
  | .staRunStart => true
  | .staRunStop => true
  | .staRunDone => true
  | .staPushValue _ => true
  | .svcStart _ => true
  | .svcDriftCheck => true
  | .svcPeriodicStart _ => true
  | .seqCommit => true
  | .seqEnd => true
  | .seqWrite => true
  | .seqWait => true
  | .seqWaitExpire => true
  | .seqPoll => true
  | .seqRun => true
  | .seqDsp => true
  | .seqBranch => true
  | .seqFail => true
  | .svcClaimGranted => true
  | .svcClaimTimeout => true
  | .dlcalDone => true
  | .theqDone => true
  | .bscanDone => true
  | .streamEnWrite _ _ => true
  | .blockWaitExpire _ => true
  | .coderContextReset _ => true
  | .coderCtxDataWrite _ => true
  | .coderCtxDataRead => true
  | .loopbackPush _ => true
  | .loopbackPop => true
  | .loopbackFlush => true
  | .laneEnable _ => true
  | .laneDisable _ => true
  | .laneRetrain _ => true
  | .trainingControlWord _ _ => true
  | .prbsWindowEnd _ errors => decide (errors < 2 ^ 21)
  | .laneActive _ => true
  | .openLoopTrainingEnd _ => true
  | .trainingAttemptTimeout _ => true
  | .backoffEnd _ => true
  | .laneStable _ => true
  | .lanePermanent _ => true
  | .codewordReceive _ _ slip => decide (-1 ≤ slip ∧ slip ≤ 1)
  | .rxLossOfLock _ _ => true
  | .txLossOfLock _ _ => true
  | .restripeDone => true
  | .eqCommit => true
  | .eqSave => true
  | .ackTimeout => true
  | .retainExpire => true
  | .dataFrameSend _ => true
  | .alignReceive _ => true
  | .dataBlockReceive => true
  | .dframeReceive => true
  | .ackReceive => true
  | .ackRepeat => true
  | .lstatusReceive => true
  | .lstatusPeriodic => true
  | .rdCommand => true
  | .wrCommand => true
  | .authWr => true
  | .authLockoutEnd => true
  | .trigMessage => true
  | .tsyncMessage => true
  | .tsyncLoadTick _ => true
  | .ringTailWrite _ _ => true
  | .descriptorFetch _ _ => true
  | .readoutDescriptorComplete _ => true
  | .readoutTimeout _ => true
  | .h2dDescriptorComplete _ words failAt => match failAt with | some k => decide (k < words.length) | none => true
  | .ringEnable _ => true
  | .ringDisable _ => true
  | .ringAbort _ => true
  | .ringReset _ => true
  | .endpointReset => true
  | .pcieLinkDown => true
  | .pcieLinkChange speed width => linkShape speed width
  | .barPartialWrite addr _ enables => wordAddr addr && enables != 15#4
  | .vecEoi _ => true
  | .msixUnmask _ => true
  | .eventLogRead => true
  | .srcTestWrite _ _ => true
  | .sealCommand _ => true
  | .sealComplete => true
  | .sealSave => true
  | .unseal _ _ _ => true
  | .unsealComplete => true
  | .trimRefresh trimUpsets _ => distinct trimUpsets
  | .keyProgram => true
  | .keyProgramDone _ => true
  | .keyRevoke _ _ _ => true
  | .authWriteSubmit _ => true
  | .debugUnlock _ _ _ => true
  | .erasureDone => true
  | .auditEntryClose => true
  | .auditWrite => true
  | .testPortAuthCmd _ => true
  | .testPortLockedInstruction => true
  | .railGood _ => true
  | .railFault _ => true
  | .railOk _ => true
  | .powerOnResetEnd => true
  | .startupStepDone dose => dosesFit dose
  | .startStall => true
  | .levelRequestWrite _ => true
  | .deviceSoftReset _ => true
  | .resetPin => true
  | .domainRequestWrite _ _ => true
  | .domainSwitchOnDone => true
  | .domainSwitchTimeout => true
  | .domainSwitchOff => true
  | .domainDrainTimeout => true
  | .sensorReading _ _ => true
  | .sensorNoReading _ => true
  | .sensorAutoClear _ => true
  | .sensorClearWrite _ _ => true
  | .diodeMeasure lowUv highUv => decide (lowUv ≤ highUv)
  | .throttleUpdate => true
  | .pauseEnd _ => true
  | .curveCommit => true
  | .curveSave => true
  | .quenchLimitWrite _ => true
  | .quenchRestart => true
  | .journalCommit => true
  | .journalWriteDone _ => true
  | .nvsPatrolRead _ _ => true
  | .maskSave => true
  | .failedClustersUpdate => true
  | .replaceCauseClear _ => true
  | .replaceEventRepeat => true
  | .doseRead doses => dosesFit doses
  | .upsetHour => true
  | .healthLogWrite => true
  | .refclkLoss => true
  | .codewordTransmit => true
  | .dmaWriteRequest _ => true
  | .pcieLinkUp speed width => linkShape speed width
  | .configSpaceWrite cfg => [128, 256, 512, 1024, 2048, 4096].contains cfg.maxPayload && [128, 256, 512, 1024, 2048, 4096].contains cfg.maxReadRequest
  | .aerError _ => true
  | .healthLogEntryClose => true
  | .sramScrub findings => distinct (findings.map ScrubFinding.place) || findings.all fun f => f.place == .other
  | .tmrVoteCorrection _ => true

end Sys2Proof
end

