-- ==== Sys2Proof/Tests/Slice0.lean ====
section
/-! SUPPORT. Tests: an ill-formed term for each check of WellFormed, the spec's worked examples on the model, one command or two of each family on
a powered device, and a state and operands that meet the hypotheses of each statement's clauses. -/

set_option Elab.async false

namespace Sys2Proof.Tests

open Sys2Proof Sys2Proof.Machine

/-- A powered EZN-8640: every rail good, every domain on, every register else at its reset value. -/
def P : Device :=
  let d : Device := { State.reset.dev with pwr := { por := false } }
  ((d.setWord Reg.PWRD.DOM_ON0 0xFFFFFFFF).setWord Reg.PWRD.DOM_ON1 0x0FFFFFFF).setWord Reg.PWRD.RAIL_STATUS 0x7F

/-- The device after a command. -/
def after (c : Instr) (d : Device) : Device :=
  match exec c ⟨d, []⟩ with
  | .next t => t.dev
  | _ => d

/-- An authenticated write to COND_BASE under a key of zeros, with its counter and MAC, as AW_BLOCK holds it. -/
def authWords : List W32 := [0x55470000#32, 0xe6505348#32, 0x2c2a50a8#32, 0x0be55d32#32, 0x000019da#32, 0x20000000#32, 0x00040000#32, 0]

/-! ### Terms that are not well-formed -/

theorem test_wf_address : Instr.wf (.registerWrite .pcie 2 0) = false ∧ Instr.wf (.rwaWrite .slow none 0x2100000 0) = false
    ∧ Instr.wf (.latchedPairRead .pcie 1) = false ∧ Instr.wf (.barPartialWrite 3 0 1) = false ∧ Instr.wf (.barPartialWrite 4 0 15) = false := by decide

theorem test_wf_check : Instr.wf (.checkSlotEnd 0 [(⟨1, 0, 0⟩, none)]) = false ∧ Instr.wf (.checkSlotEnd 0 [(⟨0, 0, 0⟩, none), (⟨0, 0, 0⟩, some 3)]) = false := by decide

theorem test_wf_monitor : Instr.wf (.monConversionDone [1, 2] []) = false ∧ Instr.wf (.monConversionDone [] [65536]) = false := by decide

theorem test_wf_history : Instr.wf (.scrubBurst 0 []) = false ∧ Instr.wf (.scrubBurst 1 [⟨5, 0, 5, 1⟩, ⟨5, 0, 5, 2⟩]) = false
    ∧ Instr.wf (.readbackStart [⟨5, 0, 5, 1⟩, ⟨5, 0, 5, 2⟩]) = false := by decide

theorem test_wf_dsp : Instr.wf (.dspLoopImmediate 0 1 0) = false ∧ Instr.wf (.dspLoopRegister 0 1 0) = false ∧ Instr.wf (.dspMemScrub 0 [7] [7]) = false := by decide

theorem test_wf_lanes : Instr.wf (.prbsWindowEnd 0 2097152) = false ∧ Instr.wf (.codewordReceive 0 0 2) = false := by decide

theorem test_wf_host : Instr.wf (.h2dDescriptorComplete 0 [1] (some 1)) = false ∧ Instr.wf (.pcieLinkChange 5 1) = false ∧ Instr.wf (.pcieLinkUp 1 3) = false
    ∧ Instr.wf (.configSpaceWrite ⟨true, false, true, false, false, 100, 512⟩) = false := by decide

theorem test_wf_health : Instr.wf (.trimRefresh [⟨0, 0, 0⟩, ⟨0, 0, 0⟩] 0) = false ∧ Instr.wf (.startupStepDone [10001]) = false ∧ Instr.wf (.doseRead [0, 0, 0, 0, 0, 0]) = false
    ∧ Instr.wf (.diodeMeasure 2 1) = false ∧ Instr.wf (.sramScrub [⟨.coefWord 3, false⟩, ⟨.coefWord 3, true⟩]) = false := by decide

/-! ### The spec's worked examples -/

def hitA : Hit := ⟨64024, 1, 37, 329, 26, 0⟩
def hitB : Hit := ⟨64030, 0, 10, 5, 40, 0x20⟩

/-- The region and the cluster of the examples of R29 and R203. -/
theorem test_example_places : pixRegion (pixNo ⟨0, 200, 300⟩) = 105 ∧ pixCluster (pixNo ⟨1, 37, 329⟩) = 9426 := by decide +kernel

/-- The hit record of R203. -/
theorem test_example_hit_record : hitWord 0 hitA = 0x125A4807D0C00680#64 := by decide +kernel

/-- The frame header of R204. -/
theorem test_example_frame_header :
    (FrameSt.headerRec ⟨0, 0, 0, 0, 0, 0xF, true, 7, true, 1, 0, none, none, false, false, false, false, false, false, false, false, none, false, false, 0⟩).words
      = [0xC1010000000000F2#64, 0x0000000700010200#64] := by decide +kernel

/-- The header of six packed hits of R212. -/
theorem test_example_packed_header :
    (Device.closePacked { P with evb.packed := some ⟨0, 0x1E, List.replicate 6 hitA⟩ }).evb.inq.map (fun r => r.words.head?) = [some 0xC8063C3600060000#64] := by decide +kernel

/-- The record and the hit of the worked conversion (R104). -/
def workedRecord : Device :=
  let d := ((P.setCorr 9426 25 1690).setCorr 9426 26 1756).setCorr 9426 38 2470
  let d := ((d.setCorr 9426 39 2534).setCorr 9426 64 45).setCorr 9426 65 0x8000
  { d.setFld ⟨Reg.TIM0.STATUS, 8, 4⟩ 15 with tim.count := 2000 }

theorem test_example_conversion :
    workedRecord.convert 1 9426 { RawHit.blank with c1 := 1000, c2 := 0x3EB, s := 39, p := 26, granted := true } = { toa := 64024, tot := 26, invalid := false } := by
  decide +kernel

/-- The code-density rule's narrow pulses need nominal taps: D(n) = 64 n. -/
def nominalTaps : Device :=
  let d := (List.range 64).foldl (fun (d : Device) k => d.setCorr 0 k (BitVec.ofNat 16 (64 * (k + 1)))) P
  { (d.setCorr 0 65 0x8000).setFld ⟨Reg.TIM0.STATUS, 8, 4⟩ 15 with tim.count := 600 }

/-- The four cases of the example after R108. -/
theorem test_example_narrow_pulses :
    nominalTaps.convert 0 0 { RawHit.blank with c1 := 500, c2 := 500, s := 20, p := 16, granted := true } = { toa := 32044, tot := 1, invalid := false }
    ∧ (nominalTaps.convert 0 0 { RawHit.blank with c1 := 500, c2 := 500, s := 20, p := 20, granted := true }).short = true
    ∧ nominalTaps.convert 0 0 { RawHit.blank with c1 := 500, c2 := 500, s := 20, p := 21, granted := true } = { toa := 32032, tot := 0, invalid := true, inverted := true }
    ∧ nominalTaps.convert 0 0 { RawHit.blank with c1 := 500, c2 := 500, s := 0, p := 80, granted := true } = { toa := 32032, tot := 0, invalid := true, short := true } := by
  decide +kernel

/-- The self calibration of R167 and the sample after it. -/
theorem test_example_self_calibration : gainWord (29491 * 16384) (29316 - 56) = 16513#16 ∧ ((P.setCoef 0 56).setCoef 1 16513).stage 0 7232 = 7233 := by decide +kernel

/-- The moment cell of R336. -/
theorem test_example_cell : (([100, 102, 101, 105] : List Int).foldl Cell.take {}).mean = 26112 ∧ (([100, 102, 101, 105] : List Int).foldl Cell.take {}).sd = 553 := by decide +kernel

/-- The trim search of R352: counts 192, 82, 139, 110 and 124 of 256 pulses. -/
theorem test_example_trim_search :
    (([192, 82, 139, 110, 124] : List Nat).zipIdx.foldl (fun t x => eqNext x.2 t (decide (128 ≤ x.1))) 16) = 20 := by decide +kernel

/-- The coder's example: 198 bits up to hit A, 244 in all, a RAW block of five words. -/
theorem test_example_coder :
    (([0xC101000000000000#64, 0, hitWord 0 hitA] : List W64).foldl codeWord { pred := {} }).bits.len = 198
    ∧ (([0xC101000000000000#64, 0, hitWord 0 hitA, hitWord 0 hitB] : List W64).foldl codeWord { pred := {} }).bits.len = 244
    ∧ (codeBlock 2 {} true 0 [0xC101000000000000#64, 0, hitWord 0 hitA, hitWord 0 hitB]).1.map (fun w => w.toNat / 2 ^ 32) = [0x99018100, 0xC1010000, 0, 0x125A4807, 0x00A02807] := by
  decide +kernel

/-- The fixed-ratio record's payload (R378). -/
theorem test_example_fixed_ratio : frPayload 8 [0x80050000#32, 0x80050028#32, 0x80050064#32, 0x8005005A#32] = ([0x10014FF000000000#64], 1) := by decide +kernel

/-- The equalisation entry of the example after R400 passes. -/
theorem test_example_equalisation_entry : eqEntryOk 0x03AC38FE4CF41800#64 = true := by decide +kernel

/-- The lanes of the striping example after R433. -/
theorem test_example_striping :
    let d := P.setFld Reg.LNK.BUNDLE_STATUS_TX_SET 0xFF
    let e := P.setFld Reg.LNK.BUNDLE_STATUS_TX_SET 0xDF
    Device.blockLane { d with lnk.setBsn := 1000 } 1013 = 5 ∧ Device.blockLane { d with lnk.setBsn := 1000 } 4999 = 7
      ∧ Device.blockLane { e with lnk.setBsn := 5000 } 5005 = 6 ∧ Device.blockLane { e with lnk.setBsn := 5000 } 5013 = 7 := by decide +kernel

/-- The read of TRG.COND_BASE of the example after R445: answered with its tag, STATUS 0 and DONE 1. -/
theorem test_example_read_command :
    let d := (P.setFlag (fEnable .zvl) true).setFlag Reg.ZVL.CTRL_CMD_EN true
    (after .rdCommand { d with zvl.queue := [some ((1#1 : BitVec 1) ++ (0x1100042005022100#64 : BitVec 64) ++ (0 : BitVec 192))] }).zvl.resps.map (fun b => b.extractLsb' 205 23)
      = [(0x42#16 : BitVec 16) ++ (0#4 : BitVec 4) ++ (1#3 : BitVec 3)] := by decide +kernel

/-- The throttle curve's values in the example after R548. -/
theorem test_example_curve : builtinCurve.at 832 = 27852 ∧ builtinCurve.at 860 = 49151 ∧ builtinCurve.at 784 = 4915 ∧ builtinCurve.at 800 = 8192 := by decide +kernel

/-- The instruction words of the example after R311. -/
theorem test_example_dsp_words :
    decodeDsp 0x24030118#32 = .mac .mac false 0 0 1 (.load 0 0) (.load 1 4) ∧ decodeDsp 0xAA001002#32 = .loopImm 8 2
      ∧ decodeDsp 0x6025FFF0#32 = .load (.d 0) 4 .postDisp 0xFFF0#16 ∧ decodeDsp 0x5382000E#32 = .extr true 1 0 14 .none ∧ decodeDsp 0x043C0000#32 = .trig 3 3 := by
  decide +kernel

/-- A core about to execute, with D0 = D1 = 0x40_0000 and AC0 = 2⁵⁵ - 2⁴⁴. -/
def macCore : Device :=
  let f : RegFile := [(0, 0x400000), (1, 0x400000), (0x20, 0x7FF00000000000)]
  P.updCore 0 fun k => { k with run := .running, rf := f, rf1 := f, rf2 := f }

/-- MAC and MAC.S of the example after R298: the accumulator, V, N and X, and the sticky bit. -/
theorem test_example_mac :
    (((after (.dspMac 0 false 0 0 1 .none .none) macCore).core 0).rf.get 0x20 = 0x80000000000000#56
      ∧ (((after (.dspMac 0 false 0 0 1 .none .none) macCore).core 0).rf.get 0x2C).setWidth 6 = 0b011110#6)
    ∧ ((after (.dspMac 0 true 0 0 1 .none .none) macCore).core 0).rf.get 0x20 = 0x7FFFFFFFFFFFFF#56
    ∧ (((after (.dspMac 0 true 0 0 1 .none .none) macCore).core 0).rf.get 0x2C).setWidth 6 = 0b101100#6 := by decide +kernel

/-! ### A command or two of each family -/

/-- R51: VTH takes its code. -/
theorem test_vth : (after (.vthWrite 1 0x2A5) P).fld (Reg.PIX.VTH_CODE 1) = 0x2A5 := by decide +kernel

/-- R91, R95: a leading edge at a free converter latches the count and takes the converter. -/
theorem test_leading_edge :
    let d := { (P.updPixel 9 fun k => { k with entry := 0x90 }).setFlag Reg.TIM0.CTRL_FE_INHIBIT false with tim.count := 77 }
    let e := after (.discriminatorLeadingEdge ⟨0, 0, 9⟩ false false 39) d
    (e.pixel 9).run = .firing ∧ (e.pixel 9).hit.c1 = 77 ∧ (e.conv 2).holder = some 9 := by decide +kernel

/-- R98: the codes of a start register with taps 0 to 38 and 40 at 1, and of a stop register whose first 1 is tap 26. -/
theorem test_codes : startCode (BitVec.ofNat 80 (2 ^ 39 - 1 + 2 ^ 40)) = 41 ∧ stopCode (BitVec.ofNat 80 (2 ^ 80 - 2 ^ 26)) = 26 ∧ startCode 0 = 0 ∧ stopCode 0 = 80 := by decide +kernel

/-- R388: the syndromes of a 1 in symbol 43 and a 2 in symbol 536 point to those two errors. -/
theorem test_codeword : rsErrors ((List.range 30).map fun j => Nat.xor (gfAlpha (500 * j % 1023)) (gfMul 2 (gfAlpha (7 * j)))) = some [(43, 1), (536, 2)] := by
  decide +kernel

/-- R262: a changed bit of a stored word is corrected, two are not, and a word of another line fails its CRC. -/
theorem test_history_ecc : (P.readWord ⟨5, 1, 5, 4⟩).error = some .corrected ∧ (P.readWord ⟨5, 1, 5, 6⟩).error = some .uncorrectable ∧ (P.readWord ⟨5, 1, 6, 0⟩).error = some .wrongAddress := by
  decide +kernel

/-- R456: the identity of the two parts. -/
theorem test_identity : P.identity.device = 0x8640 ∧ ({ P with part := .ezn8620 }).identity.device = 0x8620 := by decide +kernel

/-- R82: TREF at 147.999 MHz is lost, at 148 MHz it is not. -/
theorem test_tref_window :
    let d := P.setFlag Reg.TIM0.STATUS_TREF_PRESENT true
    (after (.trefFreqMeasure 147999) d).flag Reg.TIM0.STATUS_TREF_PRESENT = false ∧ (after (.trefFreqMeasure 148000) d).flag Reg.TIM0.STATUS_TREF_PRESENT = true := by
  decide +kernel

/-- R476: a test write sets the event's sticky bit. -/
theorem test_ev_set : (after (.evSetWrite .trg 8) P).sticky .trg = 8 := by decide +kernel

/-- R9, R477: a write to a page without power changes nothing. -/
theorem test_write_without_power :
    (after (.registerWrite .pcie 0x3000 1) (P.setFlag (domOnBit 0) false)).regs = (P.setFlag (domOnBit 0) false).regs := by decide +kernel

/-- R462: a TAIL beyond the ring sets TAIL_ERR and is not stored. -/
theorem test_tail_error :
    let d := P.setFld (Reg.RING.RING_SIZE_LOG2 8) 4
    (after (.ringTailWrite 8 17) d).word (Reg.RING.TAIL 8) = 0 ∧ (after (.ringTailWrite 8 16) d).word (Reg.RING.TAIL 8) = 16 := by decide +kernel

/-- R183: a coefficient is written in UNSEALED and INDEX steps with AUTOINC. -/
theorem test_coefficient : (after (.coefDataWrite .slow 0x1234) P).coef 0 = 0x1234#16
    ∧ (after (.coefDataWrite .slow 0x1234) P).fld Reg.COEF.COEF_ADDR_INDEX = 1 := by decide +kernel

/-- R326: the host's word joins the mailbox of the core. -/
theorem test_mailbox : ((after (.mbxWrite 2 0xABCDEF) P).core 2).mbx = [0xABCDEF#24] := by decide +kernel

/-- R404: an enabled lane with REFCLK begins to train. -/
theorem test_lane : (after (.laneEnable 0) P).laneState 0 = 1 := by decide +kernel

/-- R528: the loss of rail 0 is a power-on reset. -/
theorem test_rail : (after (.railFault 0) P).pwr.por = true := by decide +kernel

/-- R539: the raw count of 25 °C, 200 eighths of a degree, under a blank calibration. -/
theorem test_sensor : ((after (.sensorReading 5 20000) (P.setFld Reg.THM.QUENCH_QUENCH_C 115)).sensorSt 5).own = 200 := by decide +kernel

/-- R551: QUENCH_C keeps its limits, and RESTART_C stays 10 °C below it. -/
theorem test_quench_limits : (after (.quenchLimitWrite 0xFFFF) P).fld Reg.THM.QUENCH_QUENCH_C = 125
    ∧ (after (.quenchLimitWrite 0xFF00) P).fld Reg.THM.QUENCH_RESTART_C = 50 := by decide +kernel

/-- R259: training starts. -/
theorem test_training : (after .hisTrain P).hisState = 1 := by decide +kernel


/-! ### Witnesses: states and operands that meet the hypotheses of each clause of the statements -/

theorem witness_TriggerTableAndPrimitives :
  (∃ (s : State), s.dev.serviceRun = none ∧ s.dev.pageOn .trg = true ∧ s.dev.stagedOk .condition 0x5443 64 = true) ∧
  (∃ (s : State), s.dev.serviceRun = none ∧ s.dev.pageOn .trg = true ∧ s.dev.stagedOk .condition 0x5443 64 = false) ∧
  (∃ (s : State), s.dev.serviceRun = none ∧ s.dev.pageOn .trg = true) ∧
  (∃ (s : State) (line : Fin 2) (hold : Nat), s.dev.serviceRun = none ∧ s.dev.pageOn .trg = true ∧ s.dev.trg.pins.getLsbD line.val = false ∧ 2 ≤ hold ∧ SMap.get (fun _ => 0) s.dev.trg.pinSeen line.val ≤ max s.dev.clock (SMap.get (fun _ => 0) s.dev.trg.pinHold line.val)) ∧
  (∃ (s : State) (line : Fin 2) (hold : Nat), s.dev.serviceRun = none ∧ s.dev.trg.pins.getLsbD line.val = false ∧ (hold < 2 ∨ max s.dev.clock (SMap.get (fun _ => 0) s.dev.trg.pinHold line.val) < SMap.get (fun _ => 0) s.dev.trg.pinSeen line.val)) ∧
  (∃ (s : State) (line : Fin 2), s.dev.serviceRun = none ∧ s.dev.trg.pins.getLsbD line.val = true) :=
  ⟨⟨⟨P.setStaged .condition 0 0x54430140efb5af2e#64, []⟩, by set_option maxRecDepth 100000 in decide +kernel⟩,
   ⟨⟨P, []⟩, by decide +kernel⟩,
   ⟨⟨P, []⟩, by decide +kernel⟩,
   ⟨⟨P, []⟩, (0 : Fin 2), (2 : Nat), by decide +kernel⟩,
   ⟨⟨P, []⟩, (0 : Fin 2), (0 : Nat), by decide +kernel⟩,
   ⟨⟨{ P with trg.pins := 3 }, []⟩, (0 : Fin 2), by decide +kernel⟩⟩

theorem witness_TriggerTickDecisionAndTimers :
  (∃ (s : State), s.dev.serviceRun = none ∧ s.dev.pageOn .trg = true ∧ s.dev.counting = true) ∧
  (∃ (s : State), s.dev.serviceRun = none ∧ s.dev.pageOn .trg = true ∧ s.dev.counting = true ∧ (∀ t ∈ s.dev.trg.opens, t.stoppedAt = none)) ∧
  (∃ (s : State) (c : Candidate) (rest : List Candidate), s.dev.serviceRun = none ∧ s.dev.pageOn .trg = true ∧ s.dev.trgReady = true ∧ s.dev.trg.decisions = c :: rest ∧ 64 ≤ c.primary ∧ c.trigOut = true ∧ c.tick + 6 < 2 ^ 58 ∧ (BitVec.ofNat 58 (c.tick + 6) - s.dev.tim.count).toNat < 2 ^ 57 ∧ (∀ t ∈ s.dev.trg.opens, t.stoppedAt = none)) ∧
  (∃ (s : State) (c : Candidate) (rest : List Candidate) (d : Device), s.dev.pageOn .trg = true ∧ s.dev.trg.decisions = c :: rest ∧ d = (Device.advanceTo { s.dev with trg := { s.dev.trg with decisions := rest } } (BitVec.ofNat 58 (c.tick + 6))).finishStopped.advanceFront ∧ d.trgReady = true ∧ 64 ≤ c.primary) ∧
  (∃ (s : State) (c : Candidate) (rest : List Candidate) (d : Device) (e : Device) (k : Nat), s.dev.pageOn .trg = true ∧ s.dev.trg.decisions = c :: rest ∧ d = ((Device.advanceTo { s.dev with trg := { s.dev.trg with decisions := rest } } (BitVec.ofNat 58 (c.tick + 6))).finishStopped.advanceFront).assertOutputs c ∧ d.trgReady = true ∧ c.primary < 64 ∧ c.capture = false ∧ (d.presentFrame.map (·.mode)) ≠ some 1 ∧ ((d.trg.armAt.toNat * 64 : Nat) : Int) ≤ (c.time : Int) - 64 * (c.pre : Int) ∧ d.allocCtx 1 (BitVec.ofNat 24 (d.fld Reg.TRG.TRIG_NUM_NEXT)) = (e, some k)) ∧
  (∃ (s : State), s.dev.serviceRun = none) ∧
  (∃ (s : State) (t : Nat), s.dev.serviceRun = none ∧ s.dev.trg.outUntil = some t) :=
  ⟨⟨⟨P, []⟩, by decide +kernel⟩,
   ⟨⟨P, []⟩, by decide +kernel⟩,
   ⟨⟨(({ P with trg.decisions := (⟨0, 0, 64, 0, 0, 0, false, true, 0⟩ : Candidate) :: ([]) }).setFlag (fEnable .trg) true).setFld Reg.HLT.SERVICE_LEVEL_LEVEL 2, []⟩, (⟨0, 0, 64, 0, 0, 0, false, true, 0⟩ : Candidate), [], by decide +kernel⟩,
   ⟨⟨(({ P with trg.decisions := (⟨0, 0, 64, 0, 0, 0, false, true, 0⟩ : Candidate) :: ([]) }).setFlag (fEnable .trg) true).setFld Reg.HLT.SERVICE_LEVEL_LEVEL 2, []⟩, (⟨0, 0, 64, 0, 0, 0, false, true, 0⟩ : Candidate), [], _, by decide +kernel, by decide +kernel, rfl, by decide +kernel, by decide +kernel⟩,
   ⟨⟨((({ P with trg.decisions := (⟨0, 0, 1, 0, 0, 0, false, true, 0⟩ : Candidate) :: ([]) }).setFlag (fEnable .trg) true).setFld Reg.HLT.SERVICE_LEVEL_LEVEL 2).setFld (Reg.EVB.QUOTA_QUOTA 1) 4, []⟩, (⟨0, 0, 1, 0, 0, 0, false, true, 0⟩ : Candidate), [], _, _, (0 : Nat), by decide +kernel, by decide +kernel, rfl, by decide +kernel, by decide +kernel, by decide +kernel, by decide +kernel, by decide +kernel, Prod.ext rfl (by decide +kernel)⟩,
   ⟨⟨P, []⟩, by decide +kernel⟩,
   ⟨⟨{ P with trg.outUntil := some (0 : Nat) }, []⟩, (0 : Nat), by decide +kernel⟩⟩

theorem witness_TriggerWindowsAndMaskTests :
  (∃ (s : State) (t : Trigger) (d : Device), d = s.dev.finishStopped.advanceFront ∧ (d.trg.opens.find? fun t => t.capture.isNone && d.windowPassed t) = some t ∧ t.capture = none) ∧
  (∃ (s : State) (t : Trigger) (d : Device), d = s.dev.finishStopped.advanceFront ∧ (d.capturing.find? fun t => d.captureWritten t) = some t) ∧
  (∃ (s : State) (test : Fin 8) (d : Device) (k : Nat) (n : Nat), d = s.dev.advanceFront ∧ d.pageOn .trg = true ∧ d.flag (Reg.TRG.MT_CTRL_EN test.val) = true ∧ d.flag (Reg.TRG.MT_CTRL_KIND test.val) = false ∧ SMap.get (fun _ => 0) d.trg.maskDone test.val = k ∧ ((k * 2 ^ d.maskIvl test.val * 64 : Nat) : Int) ≤ d.evb.front ∧ (∀ h ∈ d.evb.sort, k * 2 ^ d.maskIvl test.val * 64 ≤ h.toa) ∧ SMap.get (fun _ => 0) d.trg.maskHits ((k - 1) * 8 + test.val) = n ∧ d.fld (Reg.TRG.MT_LOW_LOW test.val) ≤ n ∧ n ≤ d.fld (Reg.TRG.MT_HIGH_HIGH test.val)) ∧
  (∃ (s : State) (test : Fin 8) (d : Device) (k : Nat) (n : Nat), d = s.dev.advanceFront ∧ d.pageOn .trg = true ∧ d.flag (Reg.TRG.MT_CTRL_EN test.val) = true ∧ d.flag (Reg.TRG.MT_CTRL_KIND test.val) = false ∧ SMap.get (fun _ => 0) d.trg.maskDone test.val = k ∧ ((k * 2 ^ d.maskIvl test.val * 64 : Nat) : Int) ≤ d.evb.front ∧ (∀ h ∈ d.evb.sort, k * 2 ^ d.maskIvl test.val * 64 ≤ h.toa) ∧ SMap.get (fun _ => 0) d.trg.maskHits ((k - 1) * 8 + test.val) = n ∧ (n < d.fld (Reg.TRG.MT_LOW_LOW test.val) ∨ d.fld (Reg.TRG.MT_HIGH_HIGH test.val) < n) ∧ d.fld (Reg.TRG.MT_CONSEC_RUN test.val) + 1 < d.fld (Reg.TRG.MT_CONSEC_CONSEC test.val)) ∧
  (∃ (s : State), s.dev.serviceRun = none ∧ s.dev.pageOn .trg = true ∧ s.dev.his.frozen = true) ∧
  (∃ (s : State), s.dev.serviceRun = none ∧ s.dev.pageOn .trg = true ∧ s.dev.his.frozen = false) :=
  ⟨⟨⟨{ P with trg.opens := [({ num := 0, ctx := 0, capture := none, retro := false, primary := 0, conds := 0, time := 0, pre := 0, post := 0, decided := 0 } : Trigger)] }, []⟩, ({ num := 0, ctx := 0, capture := none, retro := false, primary := 0, conds := 0, time := 0, pre := 0, post := 0, decided := 0 } : Trigger), _, rfl, by decide +kernel, by decide +kernel⟩,
   ⟨⟨{ P with trg.opens := [({ num := 0, ctx := 0, capture := some 0, retro := false, primary := 0, conds := 0, time := 0, pre := 0, post := 0, decided := 0 } : Trigger)] }, []⟩, ({ num := 0, ctx := 0, capture := some 0, retro := false, primary := 0, conds := 0, time := 0, pre := 0, post := 0, decided := 0 } : Trigger), _, rfl, by decide +kernel⟩,
   ⟨⟨{ (P.setFlag (Reg.TRG.MT_CTRL_EN 0) true) with trg.maskDone := [(0, 1)], tim.count := 262144 }, []⟩, (0 : Fin 8), _, (1 : Nat), (0 : Nat), rfl, by decide +kernel, by decide +kernel, by decide +kernel, by decide +kernel, by decide +kernel, by decide +kernel, by decide +kernel, by decide +kernel, by decide +kernel⟩,
   ⟨⟨((P.setFlag (Reg.TRG.MT_CTRL_EN 0) true).setFld (Reg.TRG.MT_LOW_LOW 0) 1).setFld (Reg.TRG.MT_CONSEC_CONSEC 0) 5, []⟩, (0 : Fin 8), _, (0 : Nat), (0 : Nat), rfl, by decide +kernel, by decide +kernel, by decide +kernel, by decide +kernel, by decide +kernel, by decide +kernel, by decide +kernel, by decide +kernel, by decide +kernel⟩,
   ⟨⟨{ P with his.frozen := true }, []⟩, by decide +kernel⟩,
   ⟨⟨{ P with his.frozen := false }, []⟩, by decide +kernel⟩⟩

theorem witness_PixelEdgesAndHits :
  (∃ (s : State) (pix : Pix), s.dev.serviceRun = none ∧ s.dev.pageOn (pixPage (pixNo pix)) = true ∧ (s.dev.pixel (pixNo pix)).high = false ∧ (s.dev.pixel (pixNo pix)).run = .armed ∧ (s.dev.pixel (pixNo pix)).checking = false ∧ s.dev.masked (pixNo pix) = false ∧ s.dev.feInhibit = false ∧ (s.dev.conv (pixCluster (pixNo pix))).holder = none) ∧
  (∃ (s : State) (pix : Pix), s.dev.serviceRun = none ∧ s.dev.pageOn (pixPage (pixNo pix)) = true ∧ (s.dev.pixel (pixNo pix)).high = false ∧ (s.dev.pixel (pixNo pix)).run = .armed ∧ (s.dev.pixel (pixNo pix)).checking = false ∧ s.dev.masked (pixNo pix) = false ∧ s.dev.feInhibit = false ∧ (s.dev.conv (pixCluster (pixNo pix))).holder.isSome = true) ∧
  (∃ (s : State) (pix : Pix), s.dev.serviceRun = none ∧ s.dev.pageOn (pixPage (pixNo pix)) = true ∧ s.dev.masked (pixNo pix) = true) ∧
  (∃ (s : State) (pix : Pix), s.dev.serviceRun = none ∧ s.dev.pageOn (pixPage (pixNo pix)) = true ∧ (s.dev.pixel (pixNo pix)).high = true ∧ (s.dev.pixel (pixNo pix)).run = .firing ∧ (s.dev.conv (pixCluster (pixNo pix))).holder = some (pixNo pix)) :=
  ⟨⟨⟨(((((P.updPixel (pixNo (⟨0, 0, 0⟩ : Pix)) fun k => { k with high := false }).updPixel (pixNo (⟨0, 0, 0⟩ : Pix)) fun k => { k with run := .armed }).updPixel (pixNo (⟨0, 0, 0⟩ : Pix)) fun k => { k with checking := false }).updConv (pixCluster (pixNo (⟨0, 0, 0⟩ : Pix))) fun k => { k with holder := none }).updPixel 0 fun k => { k with entry := 0x90 }).setFlag Reg.TIM0.CTRL_FE_INHIBIT false, []⟩, (⟨0, 0, 0⟩ : Pix), by decide +kernel⟩,
   ⟨⟨(((((P.updPixel (pixNo (⟨0, 0, 0⟩ : Pix)) fun k => { k with high := false }).updPixel (pixNo (⟨0, 0, 0⟩ : Pix)) fun k => { k with run := .armed }).updPixel (pixNo (⟨0, 0, 0⟩ : Pix)) fun k => { k with checking := false }).updPixel 0 fun k => { k with entry := 0x90 }).setFlag Reg.TIM0.CTRL_FE_INHIBIT false).updConv 0 fun k => { k with holder := some 5 }, []⟩, (⟨0, 0, 0⟩ : Pix), by decide +kernel⟩,
   ⟨⟨P, []⟩, (⟨0, 0, 0⟩ : Pix), by decide +kernel⟩,
   ⟨⟨((P.updPixel (pixNo (⟨0, 0, 0⟩ : Pix)) fun k => { k with high := true }).updPixel (pixNo (⟨0, 0, 0⟩ : Pix)) fun k => { k with run := .firing }).updConv (pixCluster (pixNo (⟨0, 0, 0⟩ : Pix))) fun k => { k with holder := some (pixNo (⟨0, 0, 0⟩ : Pix)) }, []⟩, (⟨0, 0, 0⟩ : Pix), by decide +kernel⟩⟩

theorem witness_PixelRecoveryTrimAndGain :
  (∃ (s : State) (pix : Pix), s.dev.serviceRun = none ∧ s.dev.pageOn (pixPage (pixNo pix)) = true ∧ (s.dev.pixel (pixNo pix)).run = .firing ∧ ((s.dev.pixel (pixNo pix)).hit.c1 + 1024 - s.dev.tim.count.setWidth 24).toNat < 2 ^ 23 ∧ (s.dev.conv (pixCluster (pixNo pix))).holder = some (pixNo pix)) ∧
  (∃ (s : State) (die : Die) (cluster : Fin 8192), s.dev.serviceRun = none ∧ (s.dev.conv (die.val * 8192 + cluster.val)).holder.isSome = true ∧ (s.dev.conv (die.val * 8192 + cluster.val)).stopped = true) ∧
  (∃ (s : State) (pix : Pix), s.dev.serviceRun = none ∧ (s.dev.pixel (pixNo pix)).run = .resting) ∧
  (∃ (s : State) (pix : Pix), s.dev.serviceRun = none ∧ (s.dev.pixel (pixNo pix)).run = .armed ∧ (s.dev.pixel (pixNo pix)).high = false) ∧
  (∃ (s : State) (die : Die) (region : Region), s.dev.pageOn (.pix die) = true ∧ (s.dev.word (Reg.PIX.GAIN_PEND die.val (region.val / 32))).getLsbD (region.val % 32) = true ∧ s.dev.pixelOr die region = false ∧ (s.dev.arr.pixels.any fun p => p.2.checking && pixDie p.1 == die && pixRegion p.1 == region) = false) ∧
  (∃ (s : State) (die : Die) (region : Region), s.dev.serviceRun = none ∧ (s.dev.region (regNo die region)).transition = true) :=
  ⟨⟨⟨(P.updPixel (pixNo (⟨0, 0, 0⟩ : Pix)) fun k => { k with run := .firing }).updConv (pixCluster (pixNo (⟨0, 0, 0⟩ : Pix))) fun k => { k with holder := some (pixNo (⟨0, 0, 0⟩ : Pix)) }, []⟩, (⟨0, 0, 0⟩ : Pix), by decide +kernel⟩,
   ⟨⟨(P.updConv ((0 : Die).val * 8192 + (0 : Fin 8192).val) fun k => { k with stopped := true }).updConv 0 fun k => { k with holder := some 0 }, []⟩, (0 : Die), (0 : Fin 8192), by decide +kernel⟩,
   ⟨⟨P.updPixel (pixNo (⟨0, 0, 0⟩ : Pix)) fun k => { k with run := .resting }, []⟩, (⟨0, 0, 0⟩ : Pix), by decide +kernel⟩,
   ⟨⟨(P.updPixel (pixNo (⟨0, 0, 0⟩ : Pix)) fun k => { k with run := .armed }).updPixel (pixNo (⟨0, 0, 0⟩ : Pix)) fun k => { k with high := false }, []⟩, (⟨0, 0, 0⟩ : Pix), by decide +kernel⟩,
   ⟨⟨P.setFlag ⟨(Reg.PIX.GAIN_PEND (0 : Die).val ((0 : Region).val / 32)), ((0 : Region).val % 32), 1⟩ true, []⟩, (0 : Die), (0 : Region), by decide +kernel⟩,
   ⟨⟨P.updRegion (regNo (0 : Die) (0 : Region)) fun k => { k with transition := true }, []⟩, (0 : Die), (0 : Region), by decide +kernel⟩⟩

theorem witness_FrontEndWritesAndFills :
  (∃ (s : State) (die : Die), s.dev.pageOn (.pix die) = true ∧ s.dev.pixClaimed die.val = false ∧ s.dev.feInhibit = true) ∧
  (∃ (s : State) (die : Die), s.dev.pageOn (.pix die) = true ∧ s.dev.pixClaimed die.val = false ∧ s.dev.feInhibit = false) ∧
  (∃ (s : State) (die : Die), s.dev.serviceRun = none ∧ s.dev.pageOn (.pix die) = true ∧ s.dev.pixClaimed die.val = false) ∧
  (∃ (s : State) (die : Die), s.dev.serviceRun = none ∧ s.dev.pageOn (.pix die) = true) ∧
  (∃ (s : State) (die : Die) (data : W32), s.dev.serviceRun = none ∧ s.dev.pageOn (.pix die) = true ∧ s.dev.pixClaimed die.val = false ∧ s.dev.flag (Reg.PIX.TBL_FILL_BUSY die.val) = false ∧ data.getLsbD 31 = true) ∧
  (∃ (s : State) (die : Die) (f : FillSt), s.dev.pageOn (.pix die) = true ∧ s.dev.unsealed = true ∧ s.dev.arr.fills.lookup die.val = some f) :=
  ⟨⟨⟨P.setFlag Reg.TIM0.CTRL_FE_INHIBIT true, []⟩, (0 : Die), by decide +kernel⟩,
   ⟨⟨P.setFlag Reg.TIM0.CTRL_FE_INHIBIT false, []⟩, (0 : Die), by decide +kernel⟩,
   ⟨⟨P, []⟩, (0 : Die), by decide +kernel⟩,
   ⟨⟨P, []⟩, (0 : Die), by decide +kernel⟩,
   ⟨⟨P.setFlag (Reg.PIX.TBL_FILL_BUSY (0 : Die).val) false, []⟩, (0 : Die), 0x80000000#32, by decide +kernel⟩,
   ⟨⟨{ (P.setSealState 0) with arr.fills := [(0, (⟨0, 0, none, 0, 0⟩ : FillSt))] }, []⟩, (0 : Die), (⟨0, 0, none, 0, 0⟩ : FillSt), by decide +kernel⟩⟩

theorem witness_PixelTableWindow :
  (∃ (s : State) (die : Die), s.dev.pageOn (.pix die) = true ∧ s.dev.pixClaimed die.val = false ∧ s.dev.flag (Reg.PIX.TBL_FILL_BUSY die.val) = false ∧ s.dev.unsealed = true) ∧
  (∃ (s : State) (die : Die), s.dev.serviceRun = none ∧ s.dev.pageOn (.pix die) = true ∧ s.dev.flag (Reg.PIX.TBL_FILL_BUSY die.val) = false) ∧
  (∃ (s : State) (die : Die), s.dev.serviceRun = none ∧ s.dev.pageOn (.pix die) = true) ∧
  (∃ (s : State) (die : Die), s.dev.pageOn (.pix die) = true ∧ s.dev.pixClaimed die.val = false) ∧
  (∃ (d : Device) (die : Die), d.flag (Reg.PIX.TBL_ADDR_AUTOINC die.val) = false) ∧
  (∃ (d : Device) (die : Die) (n : Nat), d.flag (Reg.PIX.TBL_ADDR_AUTOINC die.val) = true ∧ d.fld (Reg.PIX.TBL_ADDR_COL die.val) + n < 512) ∧
  (∃ (d : Device) (die : Die) (n : Nat), d.flag (Reg.PIX.TBL_ADDR_AUTOINC die.val) = true ∧ 512 ≤ d.fld (Reg.PIX.TBL_ADDR_COL die.val) + n) :=
  ⟨⟨⟨(P.setFlag (Reg.PIX.TBL_FILL_BUSY (0 : Die).val) false).setSealState 0, []⟩, (0 : Die), by decide +kernel⟩,
   ⟨⟨P.setFlag (Reg.PIX.TBL_FILL_BUSY (0 : Die).val) false, []⟩, (0 : Die), by decide +kernel⟩,
   ⟨⟨P, []⟩, (0 : Die), by decide +kernel⟩,
   ⟨⟨P, []⟩, (0 : Die), by decide +kernel⟩,
   ⟨P.setFlag (Reg.PIX.TBL_ADDR_AUTOINC 0) false, (0 : Die), by decide +kernel⟩,
   ⟨P, (0 : Die), (0 : Nat), by decide +kernel⟩,
   ⟨P.setFlag (Reg.PIX.TBL_ADDR_AUTOINC 0) true, (0 : Die), (512 : Nat), by decide +kernel⟩⟩

theorem witness_InjectionAndBackgroundCheck :
  (∃ (s : State) (die : Die), s.dev.pageOn (.pix die) = true ∧ s.dev.pixClaimed die.val = false ∧ s.dev.enabled (.pix die) = true ∧ s.dev.flag (Reg.PIX.INJ_CTRL_BUSY die.val) = false ∧ s.dev.fld Reg.HLT.SERVICE_LEVEL_LEVEL ≠ 0) ∧
  (∃ (s : State) (die : Die), s.dev.serviceRun = none ∧ s.dev.pageOn (.pix die) = true ∧ s.dev.pixClaimed die.val = false ∧ s.dev.flag (Reg.PIX.INJ_CTRL_BUSY die.val) = true) ∧
  (∃ (s : State) (die : Die), s.dev.pageOn (.pix die) = true ∧ s.dev.flag (Reg.PIX.INJ_CTRL_BUSY die.val) = true ∧ (s.dev.injOf die).service = none) ∧
  (∃ (s : State) (die : Die) (r : Region), s.dev.scanOf die.val = none ∧ r = Fin.ofNat 128 (s.dev.fld (Reg.PIX.CHECK_POS_REGION die.val)) ∧ s.dev.checkRuns die = true ∧ (s.dev.region (regNo die r)).transition = false ∧ (s.dev.checkOf die).delayed = false) ∧
  (∃ (s : State) (pix : Pix), s.dev.serviceRun = none ∧ (s.dev.pixel (pixNo pix)).checking = true) ∧
  (∃ (s : State) (die : Die), s.dev.serviceRun = none ∧ s.dev.scanOf die.val = none ∧ s.dev.pageOn (.pix die) = true ∧ (s.dev.checkOf die).inSlot = true ∧ (s.dev.checkOf die).pausedAt = none) ∧
  (∃ (s : State) (die : Die), s.dev.pageOn (.pix die) = true ∧ s.dev.scanOf die.val = none ∧ (s.dev.checkOf die).inSlot = true ∧ (s.dev.checkOf die).pausedAt = none ∧ (s.dev.checkOf die).checked = [] ∧ s.dev.fld (Reg.PIX.CHECK_POS_REGION die.val) < 127) :=
  ⟨⟨⟨((P.setFlag (fEnable (.pix (0 : Die))) true).setFlag (Reg.PIX.INJ_CTRL_BUSY (0 : Die).val) false).setFld Reg.HLT.SERVICE_LEVEL_LEVEL 1, []⟩, (0 : Die), by decide +kernel⟩,
   ⟨⟨P.setFlag (Reg.PIX.INJ_CTRL_BUSY (0 : Die).val) true, []⟩, (0 : Die), by decide +kernel⟩,
   ⟨⟨{ (P.setFlag (Reg.PIX.INJ_CTRL_BUSY (0 : Die).val) true) with arr.inj := [(0, { async := true })] }, []⟩, (0 : Die), by decide +kernel⟩,
   ⟨⟨((((P.updRegion (regNo (0 : Die) (0 : Region)) fun k => { k with transition := false }).setFlag (fEnable (.pix 0)) true).setFlag (Reg.PIX.CHECK_CTRL_RUN 0) true).setFld Reg.HLT.SERVICE_LEVEL_LEVEL 2).setFlag Reg.TIM0.STATUS_LOCK true, []⟩, (0 : Die), (0 : Region), by decide +kernel⟩,
   ⟨⟨P.updPixel (pixNo (⟨0, 0, 0⟩ : Pix)) fun k => { k with checking := true }, []⟩, (⟨0, 0, 0⟩ : Pix), by decide +kernel⟩,
   ⟨⟨{ P with arr.check := [(0, { inSlot := true })] }, []⟩, (0 : Die), by decide +kernel⟩,
   ⟨⟨{ P with arr.check := [(0, { inSlot := true })] }, []⟩, (0 : Die), by decide +kernel⟩⟩

theorem witness_RegionAndBandFlow_1 :
  (∃ (s : State) (die : Die) (region : Region) (prio : BitVec 2048) (w : Waiter), s.dev.served die region = (prio, some w) ∧ s.dev.regionTakes die region = true ∧ s.dev.fld (Reg.REG.SKIM_MIN_CT die.val region.val) ≤ coarseTot (s.dev.waiterHit die region w) ∧ (s.dev.region (regNo die region)).fifo.length < 15) ∧
  (∃ (s : State) (die : Die) (region : Region) (prio : BitVec 2048) (w : Waiter), s.dev.served die region = (prio, some w) ∧ s.dev.regionTakes die region = true ∧ s.dev.fld (Reg.REG.SKIM_MIN_CT die.val region.val) ≤ coarseTot (s.dev.waiterHit die region w) ∧ (s.dev.region (regNo die region)).fifo.length = 15) ∧
  (∃ (s : State) (die : Die) (region : Region) (prio : BitVec 2048) (w : Waiter), s.dev.served die region = (prio, some w) ∧ s.dev.regionTakes die region = true ∧ coarseTot (s.dev.waiterHit die region w) < s.dev.fld (Reg.REG.SKIM_MIN_CT die.val region.val)) ∧
  (∃ (s : State), s.dev.serviceRun = none ∧ s.dev.pageOn .evb = true) ∧
  (∃ (s : State) (die : Die), s.dev.pageOn (.die die) = true) ∧
  (∃ (s : State) (die : Die) (region : Region), s.dev.pageOn (.reg die region) = true) :=
  ⟨⟨⟨(P.setFlag (fEnable (.reg 0 0)) true).updRegion (regNo 0 0) fun k => { k with test := some RawHit.blank }, []⟩, (0 : Die), (0 : Region), (Device.served ((P.setFlag (fEnable (.reg 0 0)) true).updRegion (regNo 0 0) fun k => { k with test := some RawHit.blank }) 0 0).1, Waiter.test, by decide +kernel⟩,
   ⟨⟨(P.setFlag (fEnable (.reg 0 0)) true).updRegion (regNo 0 0) fun k => { k with test := some RawHit.blank, fifo := List.replicate 15 RawHit.blank }, []⟩, (0 : Die), (0 : Region), (Device.served ((P.setFlag (fEnable (.reg 0 0)) true).updRegion (regNo 0 0) fun k => { k with test := some RawHit.blank, fifo := List.replicate 15 RawHit.blank }) 0 0).1, Waiter.test, by decide +kernel⟩,
   ⟨⟨((P.setFlag (fEnable (.reg 0 0)) true).updRegion (regNo 0 0) fun k => { k with test := some RawHit.blank }).setFld (Reg.REG.SKIM_MIN_CT 0 0) 5, []⟩, (0 : Die), (0 : Region), (Device.served (((P.setFlag (fEnable (.reg 0 0)) true).updRegion (regNo 0 0) fun k => { k with test := some RawHit.blank }).setFld (Reg.REG.SKIM_MIN_CT 0 0) 5) 0 0).1, Waiter.test, by decide +kernel⟩,
   ⟨⟨P, []⟩, by decide +kernel⟩,
   ⟨⟨P, []⟩, (0 : Die), by decide +kernel⟩,
   ⟨⟨P, []⟩, (0 : Die), (0 : Region), by decide +kernel⟩⟩

theorem witness_RegionAndBandFlow_2 :
  (∃ (cap : Nat), 1 ≤ cap) ∧
  (∃ (s : State) (die : Die) (region : Region), s.dev.pageOn (.reg die region) = true ∧ s.dev.flag (fTest (.reg die region)) = true ∧ (s.dev.region (regNo die region)).test = none) ∧
  (∃ (s : State) (die : Die) (band : Fin 8) (region : Region) (h : RawHit) (rest : List RawHit), s.dev.enabled (.die die) = true ∧ (s.dev.word (Reg.DIE.BAND_CTRL die.val)).getLsbD band.val = true ∧ (s.dev.band (bandNo die band)).out = none ∧ (s.dev.band (bandNo die band)).owed = [] ∧ s.dev.nextRegion die band = some region ∧ (s.dev.region (regNo die region)).owed = [] ∧ (s.dev.region (regNo die region)).fifo = h :: rest) ∧
  (∃ (s : State) (die : Die) (band : Fin 8) (region : Region) (l : Nat) (rest : List Nat), s.dev.enabled (.die die) = true ∧ (s.dev.word (Reg.DIE.BAND_CTRL die.val)).getLsbD band.val = true ∧ (s.dev.band (bandNo die band)).out = none ∧ (s.dev.band (bandNo die band)).owed = [] ∧ s.dev.nextRegion die band = some region ∧ (s.dev.region (regNo die region)).owed = l :: rest) ∧
  (∃ (s : State) (die : Die) (band : Fin 8) (region : Nat) (rest : List Nat), s.dev.enabled (.die die) = true ∧ (s.dev.word (Reg.DIE.BAND_CTRL die.val)).getLsbD band.val = true ∧ (s.dev.band (bandNo die band)).out = none ∧ (s.dev.band (bandNo die band)).owed = region :: rest) :=
  ⟨⟨(1 : Nat), by decide +kernel⟩,
   ⟨⟨(P.setFlag (fTest (.reg (0 : Die) (0 : Region))) true).updRegion (regNo (0 : Die) (0 : Region)) fun k => { k with test := none }, []⟩, (0 : Die), (0 : Region), by decide +kernel⟩,
   ⟨⟨(((((P.setFlag (fEnable (.die (0 : Die))) true).setFlag ⟨(Reg.DIE.BAND_CTRL (0 : Die).val), (0 : Fin 8).val, 1⟩ true).updBand (bandNo (0 : Die) (0 : Fin 8)) fun k => { k with out := none }).updBand (bandNo (0 : Die) (0 : Fin 8)) fun k => { k with owed := [] }).updRegion (regNo (0 : Die) (0 : Region)) fun k => { k with owed := [] }).updRegion (regNo (0 : Die) (0 : Region)) fun k => { k with fifo := RawHit.blank :: ([]) }, []⟩, (0 : Die), (0 : Fin 8), (0 : Region), RawHit.blank, [], by decide +kernel⟩,
   ⟨⟨((((P.setFlag (fEnable (.die (0 : Die))) true).setFlag ⟨(Reg.DIE.BAND_CTRL (0 : Die).val), (0 : Fin 8).val, 1⟩ true).updBand (bandNo (0 : Die) (0 : Fin 8)) fun k => { k with out := none }).updBand (bandNo (0 : Die) (0 : Fin 8)) fun k => { k with owed := [] }).updRegion (regNo (0 : Die) (0 : Region)) fun k => { k with owed := (0 : Nat) :: ([]) }, []⟩, (0 : Die), (0 : Fin 8), (0 : Region), (0 : Nat), [], by decide +kernel⟩,
   ⟨⟨(((P.setFlag (fEnable (.die (0 : Die))) true).setFlag ⟨(Reg.DIE.BAND_CTRL (0 : Die).val), (0 : Fin 8).val, 1⟩ true).updBand (bandNo (0 : Die) (0 : Fin 8)) fun k => { k with out := none }).updBand (bandNo (0 : Die) (0 : Fin 8)) fun k => { k with owed := (0 : Nat) :: ([]) }, []⟩, (0 : Die), (0 : Fin 8), (0 : Nat), [], by decide +kernel⟩⟩

theorem witness_ChannelsAndFlowControl_1 :
  (∃ (s : State) (die : Die) (chan : Fin 4) (b : Nat) (it : Item), s.dev.mergeRoom die chan.val it = true ∧ s.dev.nextBand die chan.val = some b ∧ (s.dev.band (die.val * 8 + b)).out = some it) ∧
  (∃ (s : State) (die : Die) (chan : Fin 4) (w : BitVec 42) (rest : List (BitVec 42)), s.dev.domOn 15 = true ∧ s.dev.domOn (25 + 11 * die.val) = true ∧ s.dev.hasDie die.val = true ∧ s.dev.chanUp die chan.val = true ∧ rxWords (s.dev.rx (chanNo die chan.val)) < 64 ∧ (s.dev.chan (chanNo die chan.val)).queue = w :: rest ∧ wordLast w = true) ∧
  (∃ (s : State) (die : Die) (chan : Fin 4) (w : BitVec 42) (rest : List (BitVec 42)), s.dev.domOn 15 = true ∧ s.dev.domOn (25 + 11 * die.val) = true ∧ s.dev.hasDie die.val = true ∧ s.dev.chanUp die chan.val = true ∧ rxWords (s.dev.rx (chanNo die chan.val)) < 64 ∧ (s.dev.chan (chanNo die chan.val)).queue = w :: rest ∧ wordLast w = false) ∧
  (∃ (s : State) (die : Die) (chan : Fin 4) (w : BitVec 42) (rest : List (BitVec 42)), s.dev.domOn 15 = true ∧ s.dev.domOn (25 + 11 * die.val) = true ∧ s.dev.hasDie die.val = true ∧ s.dev.chanUp die chan.val = true ∧ rxWords (s.dev.rx (chanNo die chan.val)) < 64 ∧ (s.dev.chan (chanNo die chan.val)).queue = w :: rest ∧ wordLast w = false ∧ (s.dev.rx (chanNo die chan.val)).skipping = false) ∧
  (∃ (s : State) (die : Die), s.dev.pageOn (.die die) = true ∧ (s.dev.word (Reg.DIE.CH_STATUS die.val)).getLsbD 16 = false ∧ s.dev.chanUp die 0 = false) ∧
  (∃ (s : State) (die : Die), s.dev.pageOn (.die die) = true) ∧
  (∃ (s : State) (die : Die) (chan : Fin 4), s.dev.pageOn (.die die) = true ∧ (s.dev.word (Reg.DIE.CH_STATUS die.val)).getLsbD (16 + chan.val) = true ∧ (s.dev.chan (chanNo die chan.val)).queue = [] ∧ (s.dev.chan (chanNo die chan.val)).merging = []) :=
  ⟨⟨⟨P.updBand ((0 : Die).val * 8 + (0 : Nat)) fun k => { k with out := some (.loss 0 0 : Item) }, []⟩, (0 : Die), (0 : Fin 4), (0 : Nat), (.loss 0 0 : Item), by decide +kernel⟩,
   ⟨⟨P.updChan (chanNo (0 : Die) (0 : Fin 4).val) fun k => { k with queue := (BitVec.allOnes 42) :: ([]) }, []⟩, (0 : Die), (0 : Fin 4), (BitVec.allOnes 42), [], by decide +kernel⟩,
   ⟨⟨P.updChan (chanNo (0 : Die) (0 : Fin 4).val) fun k => { k with queue := (0 : BitVec 42) :: ([]) }, []⟩, (0 : Die), (0 : Fin 4), (0 : BitVec 42), [], by decide +kernel⟩,
   ⟨⟨(P.updChan (chanNo (0 : Die) (0 : Fin 4).val) fun k => { k with queue := (0 : BitVec 42) :: ([]) }).updRx (chanNo (0 : Die) (0 : Fin 4).val) fun k => { k with skipping := false }, []⟩, (0 : Die), (0 : Fin 4), (0 : BitVec 42), [], by decide +kernel⟩,
   ⟨⟨(P.setFlag ⟨(Reg.DIE.CH_STATUS (0 : Die).val), 16, 1⟩ false).setFlag ⟨Reg.DIE.CH_STATUS 0, 0, 1⟩ false, []⟩, (0 : Die), by decide +kernel⟩,
   ⟨⟨P, []⟩, (0 : Die), by decide +kernel⟩,
   ⟨⟨((P.setFlag ⟨(Reg.DIE.CH_STATUS (0 : Die).val), (16 + (0 : Fin 4).val), 1⟩ true).updChan (chanNo (0 : Die) (0 : Fin 4).val) fun k => { k with queue := [] }).updChan (chanNo (0 : Die) (0 : Fin 4).val) fun k => { k with merging := [] }, []⟩, (0 : Die), (0 : Fin 4), by decide +kernel⟩⟩

theorem witness_ChannelsAndFlowControl_2 :
  (∃ (s : State) (die : Die) (chan : Fin 4), s.dev.pageOn (.die die) = true ∧ (s.dev.word (Reg.DIE.CH_STATUS die.val)).getLsbD (16 + chan.val) = true ∧ (s.dev.chan (chanNo die chan.val)).queue = [] ∧ (s.dev.chan (chanNo die chan.val)).merging ≠ []) ∧
  (∃ (s : State) (die : Die), s.dev.pageOn (.die die) = true ∧ s.dev.chanUp die 0 = false) ∧
  (∃ (s : State) (die : Die) (chan : Fin 4) (t : Nat), (s.dev.chan (chanNo die chan.val)).restart = some t ∧ ((s.dev.chan (chanNo die chan.val)).offered = false ∨ (s.dev.chan (chanNo die chan.val)).delivered = true ∨ s.dev.domOn 15 = false)) ∧
  (∃ (s : State) (die : Die) (chan : Fin 4) (t : Nat), (s.dev.chan (chanNo die chan.val)).restart = some t ∧ (s.dev.chan (chanNo die chan.val)).offered = true ∧ (s.dev.chan (chanNo die chan.val)).delivered = false ∧ s.dev.domOn 15 = true) ∧
  (∃ (s : State) (die : Die), s.dev.serviceRun = none ∧ s.dev.pageOn (.die die) = true) ∧
  (∃ (s : State) (pix : Pix), s.dev.pageOn (pixPage (pixNo pix)) = true ∧ (s.dev.pixel (pixNo pix)).run = .firing ∧ (s.dev.conv (pixCluster (pixNo pix))).holder = some (pixNo pix)) ∧
  (∃ (s : State) (pix : Pix), s.dev.regionTakes pix.die (pixRegion (pixNo pix)) = true ∧ (s.dev.pixel (pixNo pix)).run = .waiting ∧ (s.dev.pixel (pixNo pix)).stuck < 7 ∧ (s.dev.region (regNo pix.die (pixRegion (pixNo pix)))).fifo.length < 16) :=
  ⟨⟨⟨((P.setFlag ⟨(Reg.DIE.CH_STATUS (0 : Die).val), (16 + (0 : Fin 4).val), 1⟩ true).updChan (chanNo (0 : Die) (0 : Fin 4).val) fun k => { k with queue := [] }).updChan (chanNo 0 0) fun k => { k with merging := [0] }, []⟩, (0 : Die), (0 : Fin 4), by decide +kernel⟩,
   ⟨⟨P.setFlag ⟨Reg.DIE.CH_STATUS 0, 0, 1⟩ false, []⟩, (0 : Die), by decide +kernel⟩,
   ⟨⟨P.updChan (chanNo 0 0) fun k => { k with restart := some 0, offered := false }, []⟩, (0 : Die), (0 : Fin 4), (0 : Nat), by decide +kernel⟩,
   ⟨⟨((P.updChan (chanNo (0 : Die) (0 : Fin 4).val) fun k => { k with restart := some (0 : Nat) }).updChan (chanNo (0 : Die) (0 : Fin 4).val) fun k => { k with offered := true }).updChan (chanNo (0 : Die) (0 : Fin 4).val) fun k => { k with delivered := false }, []⟩, (0 : Die), (0 : Fin 4), (0 : Nat), by decide +kernel⟩,
   ⟨⟨P, []⟩, (0 : Die), by decide +kernel⟩,
   ⟨⟨(P.updPixel (pixNo (⟨0, 0, 0⟩ : Pix)) fun k => { k with run := .firing }).updConv (pixCluster (pixNo (⟨0, 0, 0⟩ : Pix))) fun k => { k with holder := some (pixNo (⟨0, 0, 0⟩ : Pix)) }, []⟩, (⟨0, 0, 0⟩ : Pix), by decide +kernel⟩,
   ⟨⟨P.updPixel (pixNo (⟨0, 0, 0⟩ : Pix)) fun k => { k with run := .waiting }, []⟩, (⟨0, 0, 0⟩ : Pix), by decide +kernel⟩⟩

theorem witness_ChannelsAndFlowControl_3 :
  (∃ (s : State) (die : Die) (region : Region) (e : Fin 16), s.dev.pageOn (.reg die region) = true ∧ e.val < (s.dev.region (regNo die region)).fifo.length ∧ (s.dev.region (regNo die region)).fifo.length < 16 ∧ (s.dev.region (regNo die region)).wd < 7) ∧
  (∃ (s : State) (die : Die) (band : Fin 8) (h : RawHit), s.dev.pageOn (.die die) = true ∧ (s.dev.band (bandNo die band)).out = some (.hit h) ∧ s.dev.busRoom die band.val (.hit h) = true ∧ (s.dev.band (bandNo die band)).wd < 7) ∧
  (∃ (s : State) (die : Die) (chan : Fin 4), s.dev.pageOn (.die die) = true ∧ s.dev.domOn 15 = true ∧ s.dev.chanUp die chan.val = true ∧ rxWords (s.dev.rx (chanNo die chan.val)) < 64 ∧ (s.dev.chan (chanNo die chan.val)).queue ≠ [] ∧ (headItem (s.dev.chan (chanNo die chan.val)).queue).any (fun w => wordLast w) = true ∧ (s.dev.chan (chanNo die chan.val)).wd < 7) ∧
  (∃ (s : State), s.dev.serviceRun = none ∧ (s.dev.fld Reg.HLT.SERVICE_LEVEL_LEVEL = 0 ∨ s.dev.domOn 4 = false)) ∧
  (∃ (s : State), s.dev.serviceRun = none ∧ s.dev.fld Reg.HLT.SERVICE_LEVEL_LEVEL ≠ 0 ∧ s.dev.domOn 4 = true) :=
  ⟨⟨⟨P.updRegion (regNo 0 0) fun k => { k with fifo := [RawHit.blank] }, []⟩, (0 : Die), (0 : Region), (0 : Fin 16), by decide +kernel⟩,
   ⟨⟨P.updBand (bandNo (0 : Die) (0 : Fin 8)) fun k => { k with out := some (.hit RawHit.blank) }, []⟩, (0 : Die), (0 : Fin 8), RawHit.blank, by decide +kernel⟩,
   ⟨⟨P.updChan (chanNo 0 0) fun k => { k with queue := [BitVec.allOnes 42] }, []⟩, (0 : Die), (0 : Fin 4), by decide +kernel⟩,
   ⟨⟨P, []⟩, by decide +kernel⟩,
   ⟨⟨P.setFld Reg.HLT.SERVICE_LEVEL_LEVEL 1, []⟩, by decide +kernel⟩⟩

theorem witness_TrefAndPllCommands_1 :
  (∃ (s : State) (khz : BitVec 18), s.dev.serviceRun = none ∧ s.dev.domOn 1 = true ∧ trefInWindow khz.toNat = true) ∧
  (∃ (s : State) (khz : BitVec 18), s.dev.serviceRun = none ∧ s.dev.domOn 1 = true ∧ (s.dev.tim.refclk = true ∨ khz ≠ 0) ∧ trefInWindow khz.toNat = false ∧ s.dev.flag Reg.TIM0.STATUS_TREF_PRESENT = true) ∧
  (∃ (s : State) (khz : BitVec 18), s.dev.serviceRun = none ∧ s.dev.domOn 1 = true ∧ (s.dev.tim.refclk = true ∨ khz ≠ 0) ∧ trefInWindow khz.toNat = false ∧ s.dev.flag Reg.TIM0.STATUS_TREF_PRESENT = false) ∧
  (∃ (s : State), s.dev.serviceRun = none ∧ s.dev.domOn 1 = true) ∧
  (∃ (s : State), s.dev.serviceRun = none ∧ s.dev.domOn 1 = true ∧ s.dev.flag Reg.TIM0.STATUS_TREF_PRESENT = true) ∧
  (∃ (s : State), s.dev.serviceRun = none ∧ s.dev.domOn 1 = true ∧ s.dev.flag Reg.TIM0.STATUS_LOCK = true) :=
  ⟨⟨⟨P, []⟩, (160000#18 : BitVec 18), by decide +kernel⟩,
   ⟨⟨(P.setFlag Reg.TIM0.STATUS_TREF_PRESENT true).setFlag Reg.TIM0.STATUS_TREF_PRESENT true, []⟩, (1#18 : BitVec 18), by decide +kernel⟩,
   ⟨⟨P.setFlag Reg.TIM0.STATUS_TREF_PRESENT false, []⟩, (0 : BitVec 18), by decide +kernel⟩,
   ⟨⟨P, []⟩, by decide +kernel⟩,
   ⟨⟨P.setFlag Reg.TIM0.STATUS_TREF_PRESENT true, []⟩, by decide +kernel⟩,
   ⟨⟨P.setFlag Reg.TIM0.STATUS_LOCK true, []⟩, by decide +kernel⟩⟩

theorem witness_TrefAndPllCommands_2 :
  (∃ (s : State), s.dev.serviceRun = none ∧ s.dev.domOn 1 = true ∧ s.dev.flag Reg.TIM0.STATUS_LOCK = false ∧ (s.dev.flag Reg.TIM0.STATUS_TREF_PRESENT = false ∨ ones3 s.dev.pllLocks < 2)) ∧
  (∃ (s : State) (pll : Fin 3), s.dev.serviceRun = none ∧ s.dev.domOn 1 = true ∧ s.dev.pageOn .tim0 = true ∧ s.dev.pllLocks.getLsbD pll.val = true) ∧
  (∃ (s : State) (pll : Fin 3), s.dev.pllLocks.getLsbD pll.val = false) ∧
  (∃ (s : State) (die : Die), s.dev.serviceRun = none ∧ s.dev.domOn 1 = true ∧ s.dev.hasDie die.val = true ∧ s.dev.domOn (25 + 11 * die.val) = true ∧ s.dev.tim.hadLock = true) ∧
  (∃ (s : State) (die : Die), s.dev.serviceRun = none ∧ s.dev.pageOn .tim0 = true ∧ s.dev.flag ⟨Reg.TIM0.STATUS, 8 + die.val, 1⟩ = true) :=
  ⟨⟨⟨P.setFlag Reg.TIM0.STATUS_LOCK false, []⟩, by decide +kernel⟩,
   ⟨⟨P.setFld Reg.TIM0.STATUS_PLL_LOCK 7, []⟩, (0 : Fin 3), by decide +kernel⟩,
   ⟨⟨P, []⟩, (0 : Fin 3), by decide +kernel⟩,
   ⟨⟨{ P with tim.hadLock := true }, []⟩, (0 : Die), by decide +kernel⟩,
   ⟨⟨P.setFlag ⟨Reg.TIM0.STATUS, 8 + (0 : Die).val, 1⟩ true, []⟩, (0 : Die), by decide +kernel⟩⟩

theorem witness_SyncAndCorrectionUnit_1 :
  (∃ (s : State), s.dev.serviceRun = none ∧ s.dev.domOn 1 = true ∧ s.dev.pageOn .tim0 = true ∧ s.dev.flag Reg.TIM0.STATUS_LOCK = true ∧ s.dev.fld Reg.TIM0.SYNC_CTRL_MODE ≠ 0) ∧
  (∃ (s : State), s.dev.serviceRun = none ∧ s.dev.domOn 1 = true ∧ s.dev.pageOn .tim0 = true ∧ s.dev.flag Reg.TIM0.STATUS_LOCK = true ∧ s.dev.fld Reg.TIM0.SYNC_CTRL_MODE = 0) ∧
  (∃ (s : State) (e : SyncEdge) (rest : List SyncEdge), s.dev.serviceRun = none ∧ s.dev.domOn 1 = true ∧ s.dev.tim.sync = e :: rest ∧ e.mode = 0 ∧ (e.loadAt - s.dev.tim.count).toNat < 2 ^ 57) ∧
  (∃ (s : State) (e : SyncEdge) (rest : List SyncEdge), s.dev.domOn 1 = true ∧ s.dev.tim.sync = e :: rest ∧ e.mode = 2) ∧
  (∃ (s : State) (e : SyncEdge) (rest : List SyncEdge) (d : Device), s.dev.domOn 1 = true ∧ s.dev.tim.sync = e :: rest ∧ d = Device.advanceTo { s.dev with tim := { s.dev.tim with sync := rest } } e.loadAt ∧ e.mode = 1 ∧ d.mayLoad = true) ∧
  (∃ (s : State) (e : SyncEdge) (rest : List SyncEdge) (d : Device), s.dev.domOn 1 = true ∧ s.dev.tim.sync = e :: rest ∧ d = Device.advanceTo { s.dev with tim := { s.dev.tim with sync := rest } } e.loadAt ∧ e.mode = 3 ∧ d.mayLoad = true) ∧
  (∃ (s : State) (e : SyncEdge) (rest : List SyncEdge) (d : Device), s.dev.domOn 1 = true ∧ s.dev.tim.sync = e :: rest ∧ d = Device.advanceTo { s.dev with tim := { s.dev.tim with sync := rest } } e.loadAt ∧ (e.mode = 1 ∨ e.mode = 3) ∧ d.mayLoad = false) :=
  ⟨⟨⟨(P.setFlag Reg.TIM0.STATUS_LOCK true).setFld Reg.TIM0.SYNC_CTRL_MODE 1, []⟩, by decide +kernel⟩,
   ⟨⟨(P.setFlag Reg.TIM0.STATUS_LOCK true).setFld Reg.TIM0.SYNC_CTRL_MODE 0, []⟩, by decide +kernel⟩,
   ⟨⟨{ P with tim.sync := (⟨0, 0, 0, 0⟩) :: ([]) }, []⟩, ⟨0, 0, 0, 0⟩, [], by decide +kernel⟩,
   ⟨⟨{ P with tim.sync := (⟨2, 0, 0, 0⟩ : SyncEdge) :: ([]) }, []⟩, (⟨2, 0, 0, 0⟩ : SyncEdge), [], by decide +kernel⟩,
   ⟨⟨({ ({ P with tim.sync := (⟨1, 0, 0, 0⟩ : SyncEdge) :: ([]) }) with tim.inhibitSince := some 0, clock := 20000 }).setFlag Reg.TIM0.CTRL_FE_INHIBIT true, []⟩, (⟨1, 0, 0, 0⟩ : SyncEdge), [], _, by decide +kernel, by decide +kernel, rfl, by decide +kernel, by decide +kernel⟩,
   ⟨⟨({ ({ P with tim.sync := (⟨3, 0, 0, 0⟩ : SyncEdge) :: ([]) }) with tim.inhibitSince := some 0, clock := 20000 }).setFlag Reg.TIM0.CTRL_FE_INHIBIT true, []⟩, (⟨3, 0, 0, 0⟩ : SyncEdge), [], _, by decide +kernel, by decide +kernel, rfl, by decide +kernel, by decide +kernel⟩,
   ⟨⟨{ P with tim.sync := (⟨1, 0, 0, 0⟩ : SyncEdge) :: ([]) }, []⟩, (⟨1, 0, 0, 0⟩ : SyncEdge), [], _, by decide +kernel, by decide +kernel, rfl, by decide +kernel, by decide +kernel⟩⟩

theorem witness_SyncAndCorrectionUnit_2 :
  (∃ (s : State) (cluster : Nat) (k : Nat), s.dev.pageOn .tim1 = true ∧ s.dev.unsealed = true ∧ s.dev.fld Reg.TIM1.CORR_ADDR_WORD = k ∧ k ≤ 65 ∧ s.dev.fld Reg.TIM1.CORR_ADDR_CLUSTER = cluster ∧ cluster < 8192 * s.dev.part.dies) ∧
  (∃ (s : State) (cluster : Nat) (k : Nat), s.dev.serviceRun = none ∧ s.dev.pageOn .tim1 = true ∧ s.dev.unsealed = true ∧ s.dev.fld Reg.TIM1.CORR_ADDR_WORD = k ∧ k < 65 ∧ s.dev.fld Reg.TIM1.CORR_ADDR_CLUSTER = cluster ∧ cluster < 8192 * s.dev.part.dies) ∧
  (∃ (s : State) (data : W32) (cluster : Nat), s.dev.serviceRun = none ∧ s.dev.pageOn .tim1 = true ∧ s.dev.unsealed = true ∧ s.dev.fld Reg.TIM1.CORR_ADDR_WORD = 65 ∧ s.dev.fld Reg.TIM1.CORR_ADDR_CLUSTER = cluster ∧ cluster < 8192 * s.dev.part.dies ∧ data.getLsbD 15 = true ∧ s.dev.corrGood cluster = true) ∧
  (∃ (s : State) (data : W32) (cluster : Nat), s.dev.serviceRun = none ∧ s.dev.pageOn .tim1 = true ∧ s.dev.unsealed = true ∧ s.dev.fld Reg.TIM1.CORR_ADDR_WORD = 65 ∧ s.dev.fld Reg.TIM1.CORR_ADDR_CLUSTER = cluster ∧ cluster < 8192 * s.dev.part.dies ∧ data.getLsbD 15 = true ∧ s.dev.corrGood cluster = false) ∧
  (∃ (s : State) (receiver : Fin 16) (h : RawHit) (rest : List Item), s.dev.domOn 2 = true ∧ s.dev.domOn 4 = true ∧ s.dev.domOn 15 = true ∧ s.dev.arr.tcuOut = [] ∧ (s.dev.rx receiver.val).queue = .hit h :: rest ∧ h.tb = s.dev.flag Reg.TIM0.STATUS_TIME_BASE) ∧
  (∃ (s : State) (receiver : Fin 16) (h : RawHit) (rest : List Item), s.dev.domOn 2 = true ∧ s.dev.domOn 4 = true ∧ s.dev.domOn 15 = true ∧ s.dev.arr.tcuOut = [] ∧ (s.dev.rx receiver.val).queue = .hit h :: rest ∧ h.tb = (!s.dev.flag Reg.TIM0.STATUS_TIME_BASE)) ∧
  (∃ (s : State) (receiver : Fin 16) (level : Nat) (n : Nat) (rest : List Item), s.dev.serviceRun = none ∧ s.dev.domOn 2 = true ∧ s.dev.domOn 4 = true ∧ s.dev.domOn 15 = true ∧ s.dev.arr.tcuOut = [] ∧ (s.dev.rx receiver.val).queue = .loss level n :: rest) :=
  ⟨⟨⟨P.setSealState 0, []⟩, (0 : Nat), (0 : Nat), by decide +kernel⟩,
   ⟨⟨P.setSealState 0, []⟩, (0 : Nat), (0 : Nat), by decide +kernel⟩,
   ⟨⟨(List.range 64).foldl (fun d i => d.setCorr 0 i (BitVec.ofNat 16 (64 * (i + 1)))) ((P.setSealState 0).setFld Reg.TIM1.CORR_ADDR_WORD 65), []⟩, 0x8000#32, (0 : Nat), by decide +kernel⟩,
   ⟨⟨(P.setSealState 0).setFld Reg.TIM1.CORR_ADDR_WORD 65, []⟩, 0x8000#32, (0 : Nat), by decide +kernel⟩,
   ⟨⟨({ P with arr.tcuOut := [] }).updRx (0 : Fin 16).val fun k => { k with queue := .hit RawHit.blank :: ([]) }, []⟩, (0 : Fin 16), RawHit.blank, [], by decide +kernel⟩,
   ⟨⟨(({ P with arr.tcuOut := [] }).updRx (0 : Fin 16).val fun k => { k with queue := .hit RawHit.blank :: ([]) }).setFlag Reg.TIM0.STATUS_TIME_BASE true, []⟩, (0 : Fin 16), RawHit.blank, [], by decide +kernel⟩,
   ⟨⟨(({ P with arr.tcuOut := [] }).updRx (0 : Fin 16).val fun k => { k with queue := .loss (0 : Nat) (0 : Nat) :: ([]) }).setFlag Reg.TIM0.STATUS_TIME_BASE true, []⟩, (0 : Fin 16), (0 : Nat), (0 : Nat), [], by decide +kernel⟩⟩

theorem witness_BuilderHitsAndFrames_1 :
  (∃ (s : State) (h : Hit) (rest : List Hit), s.dev.serviceRun = none ∧ s.dev.enabled .evb = true ∧ s.dev.evb.sort.length < 65535 ∧ s.dev.arr.tcuOut = h :: rest ∧ s.dev.isLate h = false) ∧
  (∃ (s : State) (h : Hit) (rest : List Hit), s.dev.serviceRun = none ∧ s.dev.enabled .evb = true ∧ s.dev.evb.sort.length = 65535 ∧ s.dev.arr.tcuOut = h :: rest ∧ s.dev.isLate h = false) ∧
  (∃ (s : State) (h : Hit) (rest : List Hit), s.dev.enabled .evb = true ∧ s.dev.evb.sort.length < 65536 ∧ s.dev.arr.tcuOut = h :: rest ∧ s.dev.isLate h = true) ∧
  (∃ (s : State) (h : Hit), s.dev.domOn 4 = true ∧ s.dev.releasable = some h) ∧
  (∃ (s : State), s.dev.counting = true ∧ s.dev.pageOn .evb = true ∧ s.dev.nextFrameNum ≠ 0) ∧
  (∃ (s : State) (f : FrameSt), s.dev.advanceFront.headerDue = some f) ∧
  (∃ (s : State) (f : FrameSt), s.dev.advanceFront.alignDue = some f) ∧
  (∃ (s : State) (l : LateSt), s.dev.evb.late = some l) :=
  ⟨⟨⟨{ (P.setFlag (fEnable .evb) true) with arr.tcuOut := (⟨64, 0, 0, 0, 0, 0⟩ : Hit) :: ([]) }, []⟩, (⟨64, 0, 0, 0, 0, 0⟩ : Hit), [], by decide +kernel⟩,
   ⟨⟨{ (P.setFlag (fEnable .evb) true) with evb.sort := List.replicate 65535 (⟨64, 0, 0, 0, 0, 0⟩ : Hit), arr.tcuOut := [(⟨64, 0, 0, 0, 0, 0⟩ : Hit)] }, []⟩, (⟨64, 0, 0, 0, 0, 0⟩ : Hit), [], by decide +kernel⟩,
   ⟨⟨{ (P.setFlag (fEnable .evb) true) with arr.tcuOut := (⟨0, 0, 0, 0, 0, 0⟩) :: ([]) }, []⟩, ⟨0, 0, 0, 0, 0, 0⟩, [], by decide +kernel⟩,
   ⟨⟨{ P with evb.sort := [(⟨64, 0, 0, 0, 0, 0⟩ : Hit)], evb.front := 64, evb.frames := [({ num := 0, start := 0, entry := 0, fmt := 0, mode := 0, dieMask := 0, timeBase := false, sealCounter := 0, isSealed := false, epoch := 0, phase := 0, ringPos := none, ctx := none, ended := none, header := true, waiting := false } : FrameSt)] }, []⟩, (⟨64, 0, 0, 0, 0, 0⟩ : Hit), by decide +kernel⟩,
   ⟨⟨P, []⟩, by decide +kernel⟩,
   ⟨⟨{ P with evb.frames := [({ num := 0, start := 0, entry := 0, fmt := 0, mode := 0, dieMask := 0, timeBase := false, sealCounter := 0, isSealed := false, epoch := 0, phase := 0, ringPos := none, ctx := none, ended := none, header := false, waiting := false } : FrameSt)] }, []⟩, ({ num := 0, start := 0, entry := 0, fmt := 0, mode := 0, dieMask := 0, timeBase := false, sealCounter := 0, isSealed := false, epoch := 0, phase := 0, ringPos := none, ctx := none, ended := none, header := false, waiting := false } : FrameSt), by decide +kernel⟩,
   ⟨⟨{ P with evb.frames := [(({ num := 0, start := 0, entry := 0, fmt := 0, mode := 0, dieMask := 0, timeBase := false, sealCounter := 0, isSealed := false, epoch := 0, phase := 0, ringPos := none, ctx := none, ended := some (0, 0), header := true, waiting := false } : FrameSt))], evb.front := 2 ^ 24 }, []⟩, ({ num := 0, start := 0, entry := 0, fmt := 0, mode := 0, dieMask := 0, timeBase := false, sealCounter := 0, isSealed := false, epoch := 0, phase := 0, ringPos := none, ctx := none, ended := some (0, 0), header := true, waiting := false } : FrameSt), by decide +kernel⟩,
   ⟨⟨{ P with evb.late := some ({ frame := 0, hits := [], since := 0 } : LateSt) }, []⟩, ({ frame := 0, hits := [], since := 0 } : LateSt), by decide +kernel⟩⟩

theorem witness_BuilderHitsAndFrames_2 :
  (∃ (s : State) (chan : Fin 8), s.dev.serviceRun = none ∧ s.dev.pageOn .evb = true ∧ s.dev.stageFull chan.val = false ∧ (chan = 5 ∨ chan = 6) ∧ SMap.get (fun _ => 0) s.dev.evb.wdRuns chan.val ≠ 7) ∧
  (∃ (s : State) (chan : Fin 8), s.dev.serviceRun = none ∧ s.dev.pageOn .evb = true ∧ s.dev.stageFull chan.val = false ∧ (chan = 5 ∨ chan = 6) ∧ SMap.get (fun _ => 0) s.dev.evb.wdRuns chan.val = 7) ∧
  (∃ (s : State) (receiver : Fin 16) (h : RawHit) (rest : List Item), s.dev.serviceRun = none ∧ s.dev.pageOn .evb = true ∧ s.dev.stageFull 0 = false ∧ (s.dev.rx receiver.val).queue = .hit h :: rest) ∧
  (∃ (s : State) (h : Hit) (rest : List Hit), s.dev.serviceRun = none ∧ s.dev.pageOn .evb = true ∧ s.dev.stageFull 1 = false ∧ s.dev.arr.tcuOut = h :: rest) ∧
  (∃ (s : State) (h : Hit), s.dev.pageOn .evb = true ∧ s.dev.stageFull 2 = false ∧ s.dev.releasable = some h) ∧
  (∃ (s : State) (r : Rec) (rest : List Rec), s.dev.pageOn .evb = true ∧ s.dev.stageFull 3 = false ∧ s.dev.evb.inq = r :: rest ∧ recChannel r.kind = some 3 ∧ r.fmt.isSome = true) ∧
  (∃ (s : State), s.dev.pageOn .evb = true) ∧
  (∃ (s : State) (r : Rec) (rest : List Rec), s.dev.pageOn .evb = true ∧ s.dev.stageFull 7 = false ∧ s.dev.evb.inq = r :: rest ∧ recChannel r.kind = some 7 ∧ r.fmt.isSome = true) :=
  ⟨⟨⟨P, []⟩, (5 : Fin 8), by decide +kernel⟩,
   ⟨⟨{ P with evb.wdRuns := [(5, 7)] }, []⟩, (5 : Fin 8), by decide +kernel⟩,
   ⟨⟨P.updRx (0 : Fin 16).val fun k => { k with queue := .hit RawHit.blank :: ([]) }, []⟩, (0 : Fin 16), RawHit.blank, [], by decide +kernel⟩,
   ⟨⟨{ P with arr.tcuOut := (⟨0, 0, 0, 0, 0, 0⟩) :: ([]) }, []⟩, ⟨0, 0, 0, 0, 0, 0⟩, [], by decide +kernel⟩,
   ⟨⟨{ P with evb.sort := [(⟨64, 0, 0, 0, 0, 0⟩ : Hit)], evb.front := 64, evb.frames := [({ num := 0, start := 0, entry := 0, fmt := 0, mode := 0, dieMask := 0, timeBase := false, sealCounter := 0, isSealed := false, epoch := 0, phase := 0, ringPos := none, ctx := none, ended := none, header := true, waiting := false } : FrameSt)] }, []⟩, (⟨64, 0, 0, 0, 0, 0⟩ : Hit), by decide +kernel⟩,
   ⟨⟨{ P with evb.inq := ({ kind := .packed, words := [], fmt := some 0 } : Rec) :: ([]) }, []⟩, ({ kind := .packed, words := [], fmt := some 0 } : Rec), [], by decide +kernel⟩,
   ⟨⟨P, []⟩, by decide +kernel⟩,
   ⟨⟨{ P with evb.inq := ({ kind := .status, words := [], fmt := some 0 } : Rec) :: ([]) }, []⟩, ({ kind := .status, words := [], fmt := some 0 } : Rec), [], by decide +kernel⟩⟩

theorem witness_BuilderContextsAndTables :
  (∃ (s : State) (f : FrameSt) (i : Nat), (s.dev.evb.frames.find? fun f => f.waiting) = some f ∧ s.dev.ctxUsed 0 < s.dev.fld (Reg.EVB.QUOTA_QUOTA 0) ∧ s.dev.freeCtx = some i ∧ f.ended = none) ∧
  (∃ (s : State) (index : BitVec 10), s.dev.serviceRun = none ∧ (s.dev.ctxOf index.toNat).state = .queued ∧ (s.dev.ctxOf index.toNat).cls ≠ 2 ∧ (∀ e ∈ s.dev.evb.oq, e.record.ctx ≠ some index.toNat)) ∧
  (∃ (s : State), s.dev.serviceRun = none ∧ s.dev.pageOn .evb = true) ∧
  (∃ (s : State), s.dev.serviceRun = none ∧ s.dev.pageOn .evb = true ∧ s.dev.fld Reg.EVB.FMT_ADDR_WORD < 17) ∧
  (∃ (s : State), s.dev.serviceRun = none ∧ s.dev.pageOn .evb = true ∧ s.dev.fld Reg.EVB.FMT_ADDR_WORD < 17 ∧ s.dev.flag Reg.EVB.FMT_ADDR_AUTOINC = true) ∧
  (∃ (s : State), s.dev.serviceRun = none ∧ s.dev.pageOn .evb = true ∧ s.dev.stagedOk .format 0x4F46 16 = true) ∧
  (∃ (s : State), s.dev.serviceRun = none ∧ s.dev.pageOn .evb = true ∧ s.dev.stagedOk .format 0x4F46 16 = false) :=
  ⟨⟨⟨({ P with evb.frames := [({ num := 0, start := 0, entry := 0, fmt := 0, mode := 0, dieMask := 0, timeBase := false, sealCounter := 0, isSealed := false, epoch := 0, phase := 0, ringPos := none, ctx := none, ended := none, header := false, waiting := true } : FrameSt)] }).setFld (Reg.EVB.QUOTA_QUOTA 0) 4, []⟩, ({ num := 0, start := 0, entry := 0, fmt := 0, mode := 0, dieMask := 0, timeBase := false, sealCounter := 0, isSealed := false, epoch := 0, phase := 0, ringPos := none, ctx := none, ended := none, header := false, waiting := true } : FrameSt), (0 : Nat), by decide +kernel⟩,
   ⟨⟨P.updCtx (0 : BitVec 10).toNat fun k => { k with state := .queued }, []⟩, (0 : BitVec 10), by decide +kernel⟩,
   ⟨⟨P, []⟩, by decide +kernel⟩,
   ⟨⟨P, []⟩, by decide +kernel⟩,
   ⟨⟨P.setFlag Reg.EVB.FMT_ADDR_AUTOINC true, []⟩, by decide +kernel⟩,
   ⟨⟨P.setStaged .format 0 0x4f460110c2a8fa9d#64, []⟩, by decide +kernel⟩,
   ⟨⟨P, []⟩, by decide +kernel⟩⟩

theorem witness_WaveformAdcSamplesAndStarts :
  (∃ (s : State) (die : Die) (adc : Fin 8), s.dev.hasDie (adcNo die adc / 8) = true ∧ s.dev.wadcRuns (adcNo die adc) = true) ∧
  (∃ (s : State) (die : Die) (adc : Fin 8), s.dev.hasDie (adcNo die adc / 8) = true ∧ s.dev.wadcRuns (adcNo die adc) = false) ∧
  (∃ (s : State) (die : Die) (adc : Fin 8), ((s.dev.wadcBegin (adcNo die adc)).wadc (adcNo die adc)).running = true ∧ ((s.dev.wadcBegin (adcNo die adc)).wadc (adcNo die adc)).ended = true ∧ (s.dev.wadcBegin (adcNo die adc)).wadcOnce (adcNo die adc) = true) ∧
  (∃ (s : State) (die : Die) (adc : Fin 8), (s.dev.wadc (adcNo die adc)).running = true ∧ (s.dev.wadc (adcNo die adc)).ended = false ∧ (s.dev.wadc (adcNo die adc)).dwell = 0) ∧
  (∃ (s : State) (die : Die) (data : W32), s.dev.pageOn (.conv die) = true ∧ data.getLsbD 31 = false) ∧
  (∃ (s : State) (die : Die) (adc : Fin 8) (data : W32) (d : Device), d = s.dev.setWord (Reg.WADC.WADC_INJ die.val adc.val) (data &&& 0x00FF031F#32) ∧ s.dev.pageOn (.conv die) = true ∧ data.getLsbD 31 = true ∧ d.enabled (.conv die) = true ∧ (d.wadc (adcNo die adc)).inj = none) ∧
  (∃ (s : State) (die : Die) (adc : Fin 8) (data : W32) (d : Device), d = s.dev.setWord (Reg.WADC.WADC_INJ die.val adc.val) (data &&& 0x00FF031F#32) ∧ s.dev.pageOn (.conv die) = true ∧ data.getLsbD 31 = true ∧ d.enabled (.conv die) = true ∧ (d.wadc (adcNo die adc)).inj.isSome = true) ∧
  (∃ (s : State) (line : Fin 4) (l : Fin 4 × Nat), (s.dev.trg.lines.find? fun l => l.1 = line) = some l) :=
  ⟨⟨⟨(((P.setFlag ⟨Reg.WADC.WADC_ENABLE 0, 0, 1⟩ true).setFlag (fEnable (.conv 0)) true).setFld Reg.HLT.SERVICE_LEVEL_LEVEL 2).setFlag Reg.TIM0.STATUS_TREF_PRESENT true, []⟩, (0 : Die), (0 : Fin 8), by decide +kernel⟩,
   ⟨⟨P, []⟩, (0 : Die), (0 : Fin 8), by decide +kernel⟩,
   ⟨⟨(P.updWadc 0 fun k => { k with running := true, ended := true }).setFld (Reg.WADC.WADC_CTRL_MODE 0 0) 1, []⟩, (0 : Die), (0 : Fin 8), by decide +kernel⟩,
   ⟨⟨((P.updWadc (adcNo (0 : Die) (0 : Fin 8)) fun k => { k with running := true }).updWadc (adcNo (0 : Die) (0 : Fin 8)) fun k => { k with ended := false }).updWadc (adcNo (0 : Die) (0 : Fin 8)) fun k => { k with dwell := 0 }, []⟩, (0 : Die), (0 : Fin 8), by decide +kernel⟩,
   ⟨⟨{ P with trg.lines := [(0, 0)] }, []⟩, (0 : Die), (0 : W32), by decide +kernel⟩,
   ⟨⟨P.setFlag (fEnable (.conv 0)) true, []⟩, (0 : Die), (0 : Fin 8), 0x80000000#32, _, rfl, by decide +kernel, by decide +kernel, by decide +kernel, by decide +kernel⟩,
   ⟨⟨(P.setFlag (fEnable (.conv 0)) true).updWadc 0 fun k => { k with inj := some ⟨0, 0, 0, false, false⟩ }, []⟩, (0 : Die), (0 : Fin 8), 0x80000000#32, _, rfl, by decide +kernel, by decide +kernel, by decide +kernel, by decide +kernel⟩,
   ⟨⟨{ P with trg.lines := [(0, 0)] }, []⟩, (0 : Fin 4), ((0, 0) : Fin 4 × Nat), by decide +kernel⟩⟩

theorem witness_WaveformAdcCalibrations :
  (∃ (s : State) (die : Die) (adc : Fin 8) (data : W32) (d : Device), d = (s.dev.setWord (Reg.WADC.WADC_CAL die.val adc.val) (data &&& 0x1F1F0300#32)).calOutcome (adcNo die adc) ∧ s.dev.pageOn (.conv die) = true ∧ (s.dev.setWord (Reg.WADC.WADC_CAL die.val adc.val) (data &&& 0x1F1F0300#32)).enabled (.conv die) = true ∧ (d.wadc (adcNo die adc)).cal = none) ∧
  (∃ (s : State) (die : Die) (adc : Fin 8) (data : W32) (d : Device), d = (s.dev.setWord (Reg.WADC.WADC_CAL die.val adc.val) (data &&& 0x1F1F0300#32)).calOutcome (adcNo die adc) ∧ s.dev.pageOn (.conv die) = true ∧ (s.dev.setWord (Reg.WADC.WADC_CAL die.val adc.val) (data &&& 0x1F1F0300#32)).enabled (.conv die) = true ∧ (d.wadc (adcNo die adc)).cal = none ∧ d.fld (Reg.WADC.WADC_CAL_CHAN (adcNo die adc / 8) (adcNo die adc % 8)) ≤ 16) ∧
  (∃ (s : State) (die : Die) (adc : Fin 8) (data : W32) (d : Device), d = (s.dev.setWord (Reg.WADC.WADC_CAL die.val adc.val) (data &&& 0x1F1F0300#32)).calOutcome (adcNo die adc) ∧ s.dev.pageOn (.conv die) = true ∧ (s.dev.setWord (Reg.WADC.WADC_CAL die.val adc.val) (data &&& 0x1F1F0300#32)).enabled (.conv die) = true ∧ (d.wadc (adcNo die adc)).cal = none ∧ d.fld (Reg.WADC.WADC_CAL_CHAN (adcNo die adc / 8) (adcNo die adc % 8)) ≤ 16 ∧ ((d.wadc (adcNo die adc)).zero.any fun z => z.1 = d.fld (Reg.WADC.WADC_CAL_GAIN (adcNo die adc / 8) (adcNo die adc % 8)) && z.2.1 = d.fld (Reg.WADC.WADC_CAL_CHAN (adcNo die adc / 8) (adcNo die adc % 8))) = true) ∧
  (∃ (s : State) (die : Die) (adc : Fin 8) (data : W32) (d : Device), d = (s.dev.setWord (Reg.WADC.WADC_CAL die.val adc.val) (data &&& 0x1F1F0300#32)).calOutcome (adcNo die adc) ∧ s.dev.pageOn (.conv die) = true ∧ (s.dev.setWord (Reg.WADC.WADC_CAL die.val adc.val) (data &&& 0x1F1F0300#32)).enabled (.conv die) = true ∧ (d.wadc (adcNo die adc)).cal.isSome = true) ∧
  (∃ (s : State) (die : Die) (adc : Fin 8) (c : WadcCal), (s.dev.wadc (adcNo die adc)).calDone = some c ∧ c.fail ≠ 0) ∧
  (∃ (s : State) (die : Die) (adc : Fin 8) (c : WadcCal), (s.dev.wadc (adcNo die adc)).calDone = some c ∧ c.fail = 0 ∧ c.cmd = 2) ∧
  (∃ (s : State) (die : Die) (adc : Fin 8) (c : WadcCal), (s.dev.wadc (adcNo die adc)).calDone = some c ∧ c.fail = 0 ∧ c.cmd = 1) ∧
  (∃ (s : State) (die : Die) (adc : Fin 8) (c : WadcCal) (gain : Nat) (chan : Nat) (s0 : Int) (n0 : Nat), (s.dev.wadc (adcNo die adc)).calDone = some c ∧ c.fail = 0 ∧ c.cmd = 3 ∧ (s.dev.wadc (adcNo die adc)).zero = some (gain, chan, s0, n0)) ∧
  (∃ (s : State), s.dev.serviceRun = none ∧ s.dev.pageOn .coef = true ∧ coefUsed (s.dev.fld Reg.COEF.COEF_ADDR_INDEX) = true ∧ s.dev.unsealed = true) :=
  ⟨⟨⟨P.setFlag (fEnable (.conv 0)) true, []⟩, (0 : Die), (0 : Fin 8), (0 : W32), _, rfl, by decide +kernel, by decide +kernel, by decide +kernel⟩,
   ⟨⟨P.setFlag (fEnable (.conv 0)) true, []⟩, (0 : Die), (0 : Fin 8), (0 : W32), _, rfl, by decide +kernel, by decide +kernel, by decide +kernel, by decide +kernel⟩,
   ⟨⟨(P.setFlag (fEnable (.conv 0)) true).updWadc 0 fun k => { k with zero := some (0, 0, 0, 1024) }, []⟩, (0 : Die), (0 : Fin 8), (0 : W32), _, rfl, by decide +kernel, by decide +kernel, by decide +kernel, by decide +kernel, by decide +kernel⟩,
   ⟨⟨(P.setFlag (fEnable (.conv 0)) true).updWadc 0 fun k => { k with cal := some { cmd := 1, gain := 0, chan := 0, n := 10, peak := false, started := true } }, []⟩, (0 : Die), (0 : Fin 8), (0 : W32), _, rfl, by decide +kernel, by decide +kernel, by decide +kernel⟩,
   ⟨⟨P.updWadc (adcNo (0 : Die) (0 : Fin 8)) fun k => { k with calDone := some ({ cmd := 1, gain := 0, chan := 0, n := 10, peak := false, started := true, fail := 2 } : WadcCal) }, []⟩, (0 : Die), (0 : Fin 8), ({ cmd := 1, gain := 0, chan := 0, n := 10, peak := false, started := true, fail := 2 } : WadcCal), by decide +kernel⟩,
   ⟨⟨P.updWadc (adcNo (0 : Die) (0 : Fin 8)) fun k => { k with calDone := some ({ cmd := 2, gain := 0, chan := 0, n := 1024, peak := false, started := true } : WadcCal) }, []⟩, (0 : Die), (0 : Fin 8), ({ cmd := 2, gain := 0, chan := 0, n := 1024, peak := false, started := true } : WadcCal), by decide +kernel⟩,
   ⟨⟨P.updWadc (adcNo (0 : Die) (0 : Fin 8)) fun k => { k with calDone := some ({ cmd := 1, gain := 0, chan := 0, n := 10, peak := false, started := true } : WadcCal) }, []⟩, (0 : Die), (0 : Fin 8), ({ cmd := 1, gain := 0, chan := 0, n := 10, peak := false, started := true } : WadcCal), by decide +kernel⟩,
   ⟨⟨P.updWadc 0 fun k => { k with calDone := some (⟨3, 0, 0, 10, false, true, 0, 4, 0, 0, [], false, [], 0, 0⟩ : WadcCal), zero := some (0, 0, 0, 1024) }, []⟩, (0 : Die), (0 : Fin 8), (⟨3, 0, 0, 10, false, true, 0, 4, 0, 0, [], false, [], 0, 0⟩ : WadcCal), (0 : Nat), (0 : Nat), (0 : Int), (1024 : Nat), by decide +kernel⟩,
   ⟨⟨P.setSealState 0, []⟩, by decide +kernel⟩⟩

theorem witness_MonitorAdcCommands_1 :
  (∃ (s : State) (data : W32), s.dev.serviceRun = none ∧ data.getLsbD 4 = false) ∧
  (∃ (s : State) (data : W32), s.dev.serviceRun = none ∧ data.getLsbD 4 = true ∧ s.dev.enabled .pwrMon = true ∧ s.dev.mon.scan = none) ∧
  (∃ (s : State), s.dev.serviceRun = none) ∧
  (∃ (s : State), s.dev.serviceRun = none ∧ s.dev.enabled .pwrMon = true ∧ s.dev.mon.scan = none) ∧
  (∃ (s : State), s.dev.serviceRun = none ∧ s.dev.enabled .pwrMon = true ∧ s.dev.pageOn .pwrMon = true ∧ s.dev.mon.scan.isSome = true) ∧
  (∃ (s : State), s.dev.flag Reg.MON.MON_CTRL_TIMER_EN = true) ∧
  (∃ (s : State) (e : Nat) (codesA : List Nat) (codesB : List Nat), s.dev.mon.cal = none ∧ s.dev.mon.scan = some e ∧ s.dev.flag Reg.MON.MON_CTRL_PAIRED = true ∧ s.dev.monAbsent (s.dev.fld (Reg.MON.MON_SCAN_A_INPUT e)) = false ∧ codesA.length = 4 ^ s.dev.fld (Reg.MON.MON_SCAN_A_AVG e) ∧ codesB.length = codesA.length) ∧
  (∃ (s : State) (e : Nat) (codesA : List Nat) (codesB : List Nat), s.dev.mon.cal = none ∧ s.dev.mon.scan = some e ∧ s.dev.flag Reg.MON.MON_CTRL_PAIRED = false ∧ e ≤ s.dev.fld Reg.MON.MON_CTRL_LAST_A ∧ e ≤ s.dev.fld Reg.MON.MON_CTRL_LAST_B ∧ codesA.length = 4 ^ s.dev.fld (Reg.MON.MON_SCAN_A_AVG e) ∧ codesB.length = 4 ^ s.dev.fld (Reg.MON.MON_SCAN_B_AVG e)) :=
  ⟨⟨⟨P, []⟩, (0 : W32), by decide +kernel⟩,
   ⟨⟨{ (P.setFlag (fEnable .pwrMon) true) with mon.scan := none }, []⟩, 0x10#32, by decide +kernel⟩,
   ⟨⟨P, []⟩, by decide +kernel⟩,
   ⟨⟨{ (P.setFlag (fEnable .pwrMon) true) with mon.scan := none }, []⟩, by decide +kernel⟩,
   ⟨⟨{ (P.setFlag (fEnable .pwrMon) true) with mon.scan := some 0 }, []⟩, by decide +kernel⟩,
   ⟨⟨P.setFlag Reg.MON.MON_CTRL_TIMER_EN true, []⟩, by decide +kernel⟩,
   ⟨⟨({ ({ P with mon.cal := none }) with mon.scan := some (0 : Nat) }).setFlag Reg.MON.MON_CTRL_PAIRED true, []⟩, (0 : Nat), [0], [0], by decide +kernel⟩,
   ⟨⟨({ ({ P with mon.cal := none }) with mon.scan := some (0 : Nat) }).setFlag Reg.MON.MON_CTRL_PAIRED false, []⟩, (0 : Nat), [0], [0], by decide +kernel⟩⟩

theorem witness_MonitorAdcCommands_2 :
  (∃ (s : State) (k : MonCal) (codesA : List Nat), s.dev.mon.cal = some k ∧ k.adcs = [0] ∧ codesA.length = 1024 ∧ k.cmd = 1 ∧ k.zeros = none) ∧
  (∃ (s : State) (k : MonCal) (codesA : List Nat) (zero : Int), s.dev.mon.cal = some k ∧ k.adcs = [0] ∧ codesA.length = 1024 ∧ k.cmd = 1 ∧ k.zeros = some [(0, zero)]) ∧
  (∃ (s : State) (data : W32) (d : Device), d = s.dev.setWord Reg.MON.MON_CAL (data &&& 0xFFFF1F10#32) ∧ d.enabled .pwrMon = true ∧ s.dev.mon.cal = none) ∧
  (∃ (s : State) (data : W32) (d : Device), d = s.dev.setWord Reg.MON.MON_CAL (data &&& 0xFFFF1F10#32) ∧ d.enabled .pwrMon = true ∧ s.dev.mon.cal = none ∧ (∀ m ∈ d.monCalAdcs, ∃ z ∈ s.dev.mon.zero, z.1 = 32 * m + d.fld Reg.MON.MON_CAL_INPUT)) ∧
  (∃ (s : State) (data : W32) (d : Device), d = s.dev.setWord Reg.MON.MON_CAL (data &&& 0xFFFF1F10#32) ∧ d.enabled .pwrMon = true ∧ s.dev.mon.cal = none ∧ s.dev.mon.zero = []) ∧
  (∃ (s : State) (die : Die), s.dev.mon.sense.contains die.val = false) ∧
  (∃ (s : State) (die : Die) (w : Device), w = s.dev.waitUntil s.dev.mon.leadUntil ∧ s.dev.mon.sense.contains die.val = true) :=
  ⟨⟨⟨{ P with mon.cal := some ({ cmd := 1, adcs := [0], input := 0, expect := 0 } : MonCal) }, []⟩, ({ cmd := 1, adcs := [0], input := 0, expect := 0 } : MonCal), (List.replicate 1024 0), by decide +kernel⟩,
   ⟨⟨{ P with mon.cal := some (({ cmd := 1, adcs := [0], input := 0, expect := 0, zeros := some [(0, 0)] } : MonCal)) }, []⟩, ({ cmd := 1, adcs := [0], input := 0, expect := 0, zeros := some [(0, 0)] } : MonCal), (List.replicate 1024 0), (0 : Int), by decide +kernel⟩,
   ⟨⟨{ P with mon.cal := none }, []⟩, (0 : W32), _, rfl, by decide +kernel, by decide +kernel⟩,
   ⟨⟨{ ((P.setFlag (fEnable .pwrMon) true).setFlag Reg.MON.MON_CTRL_PAIRED false) with mon.zero := [(0, 0)] }, []⟩, (0 : W32), _, rfl, by decide +kernel, by decide +kernel, by decide +kernel⟩,
   ⟨⟨(({ ({ P with mon.cal := none }) with mon.zero := [] }).setFlag (fEnable .pwrMon) true).setFlag Reg.MON.MON_CTRL_PAIRED false, []⟩, (0 : W32), _, rfl, by decide +kernel, by decide +kernel, by decide +kernel⟩,
   ⟨⟨P, []⟩, (0 : Die), by decide +kernel⟩,
   ⟨⟨{ P with mon.sense := [0] }, []⟩, (0 : Die), _, rfl, by decide +kernel⟩⟩

theorem witness_HistoryController_1 :
  (∃ (s : State), s.dev.pageOn .his = true ∧ s.dev.hisState ≠ 1 ∧ s.dev.domOn 10 = true ∧ s.dev.emptyRing.geomOk = true) ∧
  (∃ (s : State), s.dev.pageOn .his = true ∧ s.dev.hisState ≠ 1 ∧ s.dev.domOn 10 = true ∧ s.dev.emptyRing.geomOk = false) ∧
  (∃ (s : State), s.dev.serviceRun = none ∧ s.dev.pageOn .his = true ∧ s.dev.hisState = 1) ∧
  (∃ (s : State) (step : Fin 8), step.val ≠ 0 ∧ s.dev.hisState = 1) ∧
  (∃ (s : State), s.dev.serviceRun = none ∧ s.dev.hisState = 2) ∧
  (∃ (s : State), s.dev.hisState = 2) :=
  ⟨⟨⟨P, []⟩, by decide +kernel⟩,
   ⟨⟨P.setFld Reg.HIS.GEOM_DENSITY 3, []⟩, by decide +kernel⟩,
   ⟨⟨P.setFld Reg.HIS.STATUS_STATE 1, []⟩, by decide +kernel⟩,
   ⟨⟨P.setFld Reg.HIS.STATUS_STATE 1, []⟩, (1 : Fin 8), by decide +kernel⟩,
   ⟨⟨P.setFld Reg.HIS.STATUS_STATE 2, []⟩, by decide +kernel⟩,
   ⟨⟨P.setFld Reg.HIS.STATUS_STATE 2, []⟩, by decide +kernel⟩⟩

theorem witness_HistoryController_2 :
  (∃ (s : State), s.dev.serviceRun = none ∧ s.dev.pageOn .his = true ∧ s.dev.hisState = 2 ∧ s.dev.flag Reg.HIS.STATUS_HOT = false) ∧
  (∃ (s : State) (lines : Nat), s.dev.serviceRun = none ∧ s.dev.hisState = 2 ∧ s.dev.flag Reg.HIS.CTRL_SCRUB_EN = true ∧ s.dev.pausing .scrub = false ∧ s.dev.hlt.step = 0 ∧ s.dev.his.scrubLine + lines < 16384 * s.dev.hisSegments) ∧
  (∃ (s : State) (lines : Nat), s.dev.serviceRun = none ∧ s.dev.hisState = 2 ∧ s.dev.flag Reg.HIS.CTRL_SCRUB_EN = true ∧ s.dev.pausing .scrub = false ∧ s.dev.hlt.step = 0 ∧ s.dev.pageOn .his = true ∧ 16384 * s.dev.hisSegments ≤ s.dev.his.scrubLine + lines ∧ s.dev.hisSegments ≠ 0) ∧
  (∃ (s : State) (lines : Nat) (findings : List LineFinding), s.dev.hisState = 2 ∧ s.dev.flag Reg.HIS.CTRL_SCRUB_EN = true ∧ s.dev.pausing .scrub = false ∧ s.dev.hlt.step = 0 ∧ (findings.foldl (fun (d : Device) f => d.lineError f) s.dev).his.scrubLine + lines < 16384 * s.dev.hisSegments ∧ (findings.foldl (fun (d : Device) f => d.lineError f) s.dev).hisSegments = s.dev.hisSegments ∧ (findings.foldl (fun (d : Device) f => d.lineError f) s.dev).hlt.step = 0) ∧
  (∃ (d : Device) (f : LineFinding), (d.readWord f).error = some .corrected) ∧
  (∃ (f : LineFinding), f.line = f.source ∧ f.flips = 0) :=
  ⟨⟨⟨(P.setFld Reg.HIS.STATUS_STATE 2).setFlag Reg.HIS.STATUS_HOT false, []⟩, by decide +kernel⟩,
   ⟨⟨{ ((P.setFld Reg.HIS.STATUS_STATE 2).setFlag Reg.HIS.CTRL_SCRUB_EN true) with hlt.step := 0 }, []⟩, (0 : Nat), by decide +kernel⟩,
   ⟨⟨({ ((P.setFld Reg.HIS.STATUS_STATE 2).setFlag Reg.HIS.CTRL_SCRUB_EN true) with hlt.step := 0 }).setFld Reg.HIS.GEOM_DENSITY 3, []⟩, (2 ^ 40), by decide +kernel⟩,
   ⟨⟨{ ((P.setFld Reg.HIS.STATUS_STATE 2).setFlag Reg.HIS.CTRL_SCRUB_EN true) with hlt.step := 0 }, []⟩, (0 : Nat), [], by decide +kernel⟩,
   ⟨P, (⟨0, 0, 0, 1⟩ : LineFinding), by decide +kernel⟩,
   ⟨(⟨0, 0, 0, 0⟩ : LineFinding), by decide +kernel⟩⟩

theorem witness_HistoryReadbacks :
  (∃ (s : State) (n : Nat) (d : Device) (e : Device) (c : Nat) (a : Nat) (b : Nat), s.dev.enabled .his = true ∧ n = (s.dev.his.number + 1) % 65536 ∧ d = Device.setFld { s.dev with his := { s.dev.his with number := n } } Reg.HIS.RB_STATUS_NUMBER n ∧ d.hisState = 2 ∧ a = s.dev.fld Reg.HIS.RB_START_LO_FU + s.dev.fld Reg.HIS.RB_START_HI_FU * 2 ^ 32 ∧ b = s.dev.fld Reg.HIS.RB_END_LO_FU + s.dev.fld Reg.HIS.RB_END_HI_FU * 2 ^ 32 ∧ d.allocCtx 4 (BitVec.ofNat 24 n) = (e, some c) ∧ (e.segmentsOf (max a (e.oldest.getD e.writePoint)) (min b e.writePoint)).length ≤ e.pinLimit) ∧
  (∃ (s : State), s.dev.enabled .his = true ∧ s.dev.hisState ≠ 2 ∧ (Device.setFld { s.dev with his := { s.dev.his with number := (s.dev.his.number + 1) % 65536 } } Reg.HIS.RB_STATUS_NUMBER ((s.dev.his.number + 1) % 65536)).hisState ≠ 2) ∧
  (∃ (s : State) (number : BitVec 24) (c : CaptureSet), s.dev.pageOn .his = true ∧ s.dev.retained number = some c ∧ c.moved = false) ∧
  (∃ (s : State) (number : BitVec 24) (c : CaptureSet), s.dev.pageOn .his = true ∧ s.dev.retained number = some c ∧ c.moved = true) ∧
  (∃ (s : State) (number : BitVec 24) (c : CaptureSet), s.dev.pageOn .his = true ∧ s.dev.retained number = some c) ∧
  (∃ (s : State) (r : Readback) (rest : List Readback), s.dev.his.running = none ∧ s.dev.his.readbacks = r :: rest ∧ r.ended = false ∧ s.dev.enabled .his = true) ∧
  (∃ (s : State) (r : Readback) (rest : List Readback), s.dev.his.running = none ∧ s.dev.his.readbacks = r :: rest ∧ r.ended = true) ∧
  (∃ (s : State) (r : Readback), s.dev.his.running = some r ∧ s.dev.his.sending = [] ∧ r.ended = false ∧ (r.kind ≠ 2 ∨ s.dev.flag Reg.HIS.CTRL_AUTO_RELEASE = false) ∧ r.ctx = none) ∧
  (∃ (s : State) (r : Readback) (c : Nat), s.dev.his.running = some r ∧ s.dev.his.sending = [] ∧ r.ended = false ∧ r.kind ≠ 2 ∧ r.ctx = some c) :=
  ⟨(set_option maxRecDepth 20000 in ⟨⟨((P.setFlag (fEnable .his) true).setFld Reg.HIS.STATUS_STATE 2).setFld (Reg.EVB.QUOTA_QUOTA 4) 4, []⟩, (1 : Nat), _, _, (0 : Nat), (0 : Nat), (0 : Nat), by decide +kernel, by decide +kernel, rfl, by decide +kernel, by decide +kernel, by decide +kernel, Prod.ext rfl (by decide +kernel), by decide +kernel⟩),
   ⟨⟨P.setFlag (fEnable .his) true, []⟩, by decide +kernel⟩,
   ⟨⟨{ P with his.captures := [({ num := 0, ctx := 0, decided := 0, start := 0, stop := 0, segs := [], done := true } : CaptureSet)] }, []⟩, (0 : BitVec 24), ({ num := 0, ctx := 0, decided := 0, start := 0, stop := 0, segs := [], done := true } : CaptureSet), by decide +kernel⟩,
   ⟨⟨{ P with his.captures := [({ num := 0, ctx := 0, decided := 0, start := 0, stop := 0, segs := [], done := true, moved := true } : CaptureSet)] }, []⟩, (0 : BitVec 24), ({ num := 0, ctx := 0, decided := 0, start := 0, stop := 0, segs := [], done := true, moved := true } : CaptureSet), by decide +kernel⟩,
   ⟨⟨{ P with his.captures := [({ num := 0, ctx := 0, decided := 0, start := 0, stop := 0, segs := [], done := true } : CaptureSet)] }, []⟩, (0 : BitVec 24), ({ num := 0, ctx := 0, decided := 0, start := 0, stop := 0, segs := [], done := true } : CaptureSet), by decide +kernel⟩,
   ⟨⟨({ ({ P with his.running := none }) with his.readbacks := ({ kind := 0, number := 0, start := 0, stop := 0, ctx := none, segs := [], status := 0, lanes := false, ring := 0 } : Readback) :: ([]) }).setFlag (fEnable .his) true, []⟩, ({ kind := 0, number := 0, start := 0, stop := 0, ctx := none, segs := [], status := 0, lanes := false, ring := 0 } : Readback), [], by decide +kernel⟩,
   ⟨⟨{ ({ P with his.running := none }) with his.readbacks := ({ kind := 0, number := 0, start := 0, stop := 0, ctx := none, segs := [], status := 0, lanes := false, ring := 0, ended := true } : Readback) :: ([]) }, []⟩, ({ kind := 0, number := 0, start := 0, stop := 0, ctx := none, segs := [], status := 0, lanes := false, ring := 0, ended := true } : Readback), [], by decide +kernel⟩,
   ⟨⟨{ ({ P with his.running := some ({ kind := 0, number := 0, start := 0, stop := 0, ctx := none, segs := [], status := 0, lanes := false, ring := 0 } : Readback) }) with his.sending := [] }, []⟩, ({ kind := 0, number := 0, start := 0, stop := 0, ctx := none, segs := [], status := 0, lanes := false, ring := 0 } : Readback), by decide +kernel⟩,
   ⟨⟨{ ({ P with his.running := some ({ kind := 0, number := 0, start := 0, stop := 0, ctx := some 0, segs := [], status := 0, lanes := false, ring := 0, ended := false } : Readback) }) with his.sending := [] }, []⟩, ({ kind := 0, number := 0, start := 0, stop := 0, ctx := some 0, segs := [], status := 0, lanes := false, ring := 0, ended := false } : Readback), (0 : Nat), by decide +kernel⟩⟩

theorem witness_CoderCommands_1 :
  (∃ (s : State) (ctx : Fin 16), s.dev.serviceRun = none ∧ s.dev.pageOn .cdr = true ∧ 2 ≤ ctx.val ∧ ctx.val < 10) ∧
  (∃ (s : State), s.dev.serviceRun = none ∧ s.dev.pageOn .cdr = true) ∧
  (∃ (s : State) (ctx : Fin 16), s.dev.serviceRun = none ∧ s.dev.pageOn .cdr = true ∧ (ctx.val = 0 ∨ 10 ≤ ctx.val)) ∧
  (∃ (s : State) (ctx : Fin 16), ctx.val ≠ 0 ∧ (s.dev.coder ctx.val).block.isEmpty = false ∧ (s.dev.coder ctx.val).remain = 0) ∧
  (∃ (s : State) (ctx : Fin 16), ctx.val ≠ 0 ∧ (s.dev.coder ctx.val).block.isEmpty = false ∧ (s.dev.coder ctx.val).remain ≠ 0) ∧
  (∃ (s : State), (s.dev.coder 0).block.isEmpty = false) ∧
  (∃ (s : State), s.dev.serviceRun = none ∧ s.dev.pageOn .cdr = true ∧ (s.dev.coder 1).block = []) :=
  ⟨⟨⟨P, []⟩, (2 : Fin 16), by decide +kernel⟩,
   ⟨⟨P, []⟩, by decide +kernel⟩,
   ⟨⟨P, []⟩, (0 : Fin 16), by decide +kernel⟩,
   ⟨⟨(P.updCoder (1 : Fin 16).val fun k => { k with remain := 0 }).updCoder 1 fun k => { k with block := [0] }, []⟩, (1 : Fin 16), by decide +kernel⟩,
   ⟨⟨P.updCoder 1 fun k => { k with block := [0], remain := 1 }, []⟩, (1 : Fin 16), by decide +kernel⟩,
   ⟨⟨P.updCoder 0 fun k => { k with block := [0] }, []⟩, by decide +kernel⟩,
   ⟨⟨P.updCoder 1 fun k => { k with block := [] }, []⟩, by decide +kernel⟩⟩

theorem witness_CoderCommands_2 :
  (∃ (s : State), s.dev.pageOn .cdr = true ∧ (s.dev.coder 1).block ≠ []) ∧
  (∃ (s : State), s.dev.pageOn .cdr = true) ∧
  (∃ (s : State), s.dev.pageOn .cdr = true ∧ (10 ≤ s.dev.fld Reg.CDR.CTX_ADDR_CTX ∨ s.dev.flag (fIdle .cdr) = true) ∧ (s.dev.coder (s.dev.fld Reg.CDR.CTX_ADDR_CTX)).block = [] ∧ (s.dev.coder (s.dev.fld Reg.CDR.CTX_ADDR_CTX)).emit = []) ∧
  (∃ (s : State), s.dev.serviceRun = none ∧ s.dev.pageOn .cdr = true ∧ s.dev.flag Reg.CDR.CTX_ADDR_AUTOINC = false ∧ (s.dev.coder (s.dev.fld Reg.CDR.CTX_ADDR_CTX)).block ≠ []) ∧
  (∃ (s : State), s.dev.serviceRun = none ∧ s.dev.pageOn .cdr = true ∧ s.dev.fld Reg.CDR.CTX_ADDR_WORD = 0) ∧
  (∃ (s : State), s.dev.serviceRun = none ∧ s.dev.pageOn .cdr = true ∧ s.dev.fld Reg.CDR.CTX_ADDR_WORD ≠ 0) ∧
  (∃ (s : State), s.dev.pageOn .cdr = true ∧ s.dev.cdr.lbIn.length < 64) :=
  ⟨⟨⟨P.updCoder 1 fun k => { k with block := [0] }, []⟩, by decide +kernel⟩,
   ⟨⟨P, []⟩, by decide +kernel⟩,
   ⟨⟨P.setFld Reg.CDR.CTX_ADDR_CTX 10, []⟩, by decide +kernel⟩,
   ⟨⟨((P.setFld Reg.CDR.CTX_ADDR_CTX 10).updCoder 10 fun k => { k with block := [0] }).setFlag Reg.CDR.CTX_ADDR_AUTOINC false, []⟩, by decide +kernel⟩,
   ⟨⟨P.setFld Reg.CDR.CTX_ADDR_WORD 0, []⟩, by decide +kernel⟩,
   ⟨⟨P.setFld Reg.CDR.CTX_ADDR_WORD 1, []⟩, by decide +kernel⟩,
   ⟨⟨P, []⟩, by decide +kernel⟩⟩

theorem witness_CoderCommands_3 :
  (∃ (s : State), s.dev.serviceRun = none ∧ s.dev.pageOn .cdr = true ∧ 64 ≤ s.dev.cdr.lbIn.length) ∧
  (∃ (s : State) (w : W64) (rest : List W64), s.dev.pageOn .cdr = true ∧ s.dev.cdr.lbOut = w :: rest) ∧
  (∃ (s : State), s.dev.pageOn .cdr = true ∧ s.dev.cdr.lbOut = []) ∧
  (∃ (s : State), s.dev.pageOn .cdr = true ∧ (s.dev.coder s.dev.loopCtx).remain = 0) ∧
  (∃ (s : State), s.dev.pageOn .cdr = true ∧ (s.dev.coder s.dev.loopCtx).remain ≠ 0) :=
  ⟨⟨⟨{ P with cdr.lbIn := List.replicate 64 (0, 0) }, []⟩, by decide +kernel⟩,
   ⟨⟨{ P with cdr.lbOut := (0 : W64) :: ([]) }, []⟩, (0 : W64), [], by decide +kernel⟩,
   ⟨⟨{ P with cdr.lbOut := [] }, []⟩, by decide +kernel⟩,
   ⟨⟨P, []⟩, by decide +kernel⟩,
   ⟨⟨P.updCoder 10 fun k => { k with remain := 1 }, []⟩, by decide +kernel⟩⟩

theorem witness_LaneTraining_1 :
  (∃ (s : State) (lane : Lane), s.dev.lanePowered lane.val = true ∧ (s.dev.setFlag (Reg.LNK.LANE_CTRL_EN lane.val) true).laneAllowed lane.val = true ∧ (s.dev.setFlag (Reg.LNK.LANE_CTRL_EN lane.val) true).laneState lane.val = 0) ∧
  (∃ (s : State) (lane : Lane), s.dev.lanePowered lane.val = true ∧ (s.dev.setFlag (Reg.LNK.LANE_CTRL_EN lane.val) true).laneAllowed lane.val = true ∧ (s.dev.setFlag (Reg.LNK.LANE_CTRL_EN lane.val) true).laneState lane.val ≠ 0 ∧ (s.dev.lane lane.val).leaving.isSome = true) ∧
  (∃ (s : State) (lane : Lane), s.dev.lanePowered lane.val = true ∧ (s.dev.setFlag (Reg.LNK.LANE_CTRL_EN lane.val) false).laneAllowed lane.val = false ∧ (s.dev.setFlag (Reg.LNK.LANE_CTRL_EN lane.val) false).laneState lane.val ≠ 0) ∧
  (∃ (s : State) (lane : Lane), s.dev.lanePowered lane.val = true ∧ (s.dev.setFlag (Reg.LNK.LANE_CTRL_EN lane.val) false).laneAllowed lane.val = false ∧ (s.dev.setFlag (Reg.LNK.LANE_CTRL_EN lane.val) false).laneState lane.val = 0) ∧
  (∃ (s : State) (lane : Fin 8), s.dev.lanePowered lane.val = true ∧ s.dev.laneState lane.val = 3 ∧ (s.dev.updLane lane.val fun x => { x with leaving := some true }).wantSet ≠ 0) ∧
  (∃ (s : State) (lane : Fin 2), s.dev.lanePowered (8 + lane.val) = true ∧ s.dev.laneState (8 + lane.val) = 3) ∧
  (∃ (s : State) (lane : Lane), s.dev.lanePowered lane.val = true ∧ (s.dev.laneState lane.val = 1 ∨ s.dev.laneState lane.val = 2 ∨ s.dev.laneState lane.val = 4)) ∧
  (∃ (s : State) (lane : Fin 2) (word : BitVec 128), s.dev.laneState (8 + lane.val) = 1 ∧ controlWordOk word = true ∧ (s.dev.lane (8 + lane.val)).good = 3 ∧ word.extractLsb' 32 16 = (s.dev.lane (8 + lane.val)).seq + 1) ∧
  (∃ (s : State) (lane : Fin 2) (word : BitVec 128), s.dev.laneState (8 + lane.val) = 2 ∧ controlWordOk word = true ∧ word.getLsbD 115 = (s.dev.lane (8 + lane.val)).precode) :=
  ⟨⟨⟨P, []⟩, (0 : Lane), by decide +kernel⟩,
   ⟨⟨((P.setFlag Reg.LNK.SUMMARY_EQ_LOADED true).setLaneState 0 3).updLane 0 fun k => { k with leaving := some true }, []⟩, (0 : Lane), by decide +kernel⟩,
   ⟨⟨P.setLaneState 0 3, []⟩, (0 : Lane), by decide +kernel⟩,
   ⟨⟨P, []⟩, (0 : Lane), by decide +kernel⟩,
   ⟨⟨(P.setLaneState 0 3).setLaneState 1 3, []⟩, (0 : Fin 8), by decide +kernel⟩,
   ⟨⟨P.setLaneState (8 + (0 : Fin 2).val) 3, []⟩, (0 : Fin 2), by decide +kernel⟩,
   ⟨⟨P.setLaneState 0 1, []⟩, (0 : Lane), by decide +kernel⟩,
   ⟨⟨((P.setLaneState (8 + (0 : Fin 2).val) 1).updLane (8 + (0 : Fin 2).val) fun k => { k with good := 3 }).updLane 8 fun k => { k with good := 3, seq := 0 }, []⟩, (0 : Fin 2), (212676479325586539664609129649150121195#128 : BitVec 128), by decide +kernel⟩,
   ⟨⟨P.setLaneState 8 2, []⟩, (0 : Fin 2), (212676479325586539664609129649150121195#128 : BitVec 128), by decide +kernel⟩⟩

theorem witness_LaneTraining_2 :
  (∃ (s : State) (lane : Fin 2) (errors : Nat), s.dev.serviceRun = none ∧ s.dev.laneState (8 + lane.val) = 2 ∧ errors ≤ 100) ∧
  (∃ (s : State) (lane : Fin 2) (errors : Nat), s.dev.serviceRun = none ∧ s.dev.laneState (8 + lane.val) = 2 ∧ 100 < errors) ∧
  (∃ (s : State) (lane : Lane), s.dev.laneState lane.val = 2 ∧ (s.dev.lane lane.val).final = true ∧ s.dev.tim.refclk = true) ∧
  (∃ (s : State) (lane : Fin 8), s.dev.serviceRun = none ∧ s.dev.laneState lane.val = 2 ∧ s.dev.flag (Reg.LNK.LANE_CTRL_OPEN_LOOP lane.val) = true) ∧
  (∃ (s : State) (lane : Lane), (s.dev.laneState lane.val = 1 ∨ s.dev.laneState lane.val = 2)) ∧
  (∃ (s : State) (lane : Lane), s.dev.laneState lane.val = 4) ∧
  (∃ (s : State) (lane : Lane), s.dev.serviceRun = none ∧ s.dev.laneState lane.val = 3) ∧
  (∃ (s : State) (lane : Lane) (t : Nat), (s.dev.lane lane.val).downSince = some t ∧ s.dev.flag (Reg.LNK.LANE_STATUS_DOWN lane.val) = true ∧ s.dev.flag (Reg.LNK.LANE_STATUS_PERMANENT lane.val) = false) :=
  ⟨⟨⟨P.setLaneState (8 + (0 : Fin 2).val) 2, []⟩, (0 : Fin 2), (0 : Nat), by decide +kernel⟩,
   ⟨⟨P.setLaneState (8 + (0 : Fin 2).val) 2, []⟩, (0 : Fin 2), (101 : Nat), by decide +kernel⟩,
   ⟨⟨{ ((P.setLaneState (0 : Lane).val 2).updLane (0 : Lane).val fun k => { k with final := true }) with tim.refclk := true }, []⟩, (0 : Lane), by decide +kernel⟩,
   ⟨⟨(P.setLaneState (0 : Fin 8).val 2).setFlag (Reg.LNK.LANE_CTRL_OPEN_LOOP (0 : Fin 8).val) true, []⟩, (0 : Fin 8), by decide +kernel⟩,
   ⟨⟨P.setLaneState 0 1, []⟩, (0 : Lane), by decide +kernel⟩,
   ⟨⟨P.setLaneState (0 : Lane).val 4, []⟩, (0 : Lane), by decide +kernel⟩,
   ⟨⟨P.setLaneState (0 : Lane).val 3, []⟩, (0 : Lane), by decide +kernel⟩,
   ⟨⟨((P.updLane (0 : Lane).val fun k => { k with downSince := some (0 : Nat) }).setFlag (Reg.LNK.LANE_STATUS_DOWN (0 : Lane).val) true).setFlag (Reg.LNK.LANE_STATUS_PERMANENT (0 : Lane).val) false, []⟩, (0 : Lane), (0 : Nat), by decide +kernel⟩⟩

theorem witness_LanePathAndRetention_1 :
  (∃ (s : State) (lane : Fin 2), s.dev.laneState (8 + lane.val) = 3) ∧
  (∃ (s : State) (lane : Fin 2) (word : BitVec 5440) (n : Nat) (blocks : List (BitVec 257)), s.dev.serviceRun = none ∧ s.dev.laneState (8 + lane.val) = 3 ∧ rsDecode word = some (n, blocks)) :=
  ⟨⟨⟨P.setLaneState (8 + (0 : Fin 2).val) 3, []⟩, (0 : Fin 2), by decide +kernel⟩,
   ⟨⟨P.setLaneState 8 3, []⟩, (0 : Fin 2), (0 : BitVec 5440), ((rsDecode 0).getD (0, [])).1, ((rsDecode 0).getD (0, [])).2, by set_option maxRecDepth 100000 in decide +kernel⟩⟩

theorem witness_LanePathAndRetention_2 :
  (∃ (s : State) (lane : Fin 2) (word : BitVec 5440), s.dev.serviceRun = none ∧ s.dev.laneState (8 + lane.val) = 3 ∧ rsDecode word = none ∧ s.dev.pageOn .lnk = true) ∧
  (∃ (s : State) (lane : Fin 2), s.dev.serviceRun = none ∧ s.dev.laneState (8 + lane.val) = 3 ∧ s.dev.pageOn .lnk = true) :=
  ⟨⟨⟨P.setLaneState 8 3, []⟩, (0 : Fin 2), (BitVec.ofNat 5440 (2 ^ 200 - 1)), by set_option maxRecDepth 100000 in decide +kernel⟩,
   ⟨⟨P.setLaneState (8 + (0 : Fin 2).val) 3, []⟩, (0 : Fin 2), by decide +kernel⟩⟩

theorem witness_LanePathAndRetention_3 :
  (∃ (s : State) (lane : Fin 8) (cause : TxLoss), s.dev.serviceRun = none ∧ s.dev.laneState lane.val = 3 ∧ s.dev.pageOn .lnk = true ∧ (cause = .remote → s.dev.flag (Reg.LNK.LANE_CTRL_OPEN_LOOP lane.val) = false)) ∧
  (∃ (s : State) (lane : Fin 2), s.dev.laneState (8 + lane.val) = 3 ∧ (s.dev.lane (8 + lane.val)).losses = []) :=
  ⟨⟨⟨P.setLaneState (0 : Fin 8).val 3, []⟩, (0 : Fin 8), TxLoss.pll, by decide +kernel⟩,
   ⟨⟨(P.setLaneState (8 + (0 : Fin 2).val) 3).updLane (8 + (0 : Fin 2).val) fun k => { k with losses := [] }, []⟩, (0 : Fin 2), by decide +kernel⟩⟩

theorem witness_LanePathAndRetention_4 :
  (∃ (s : State) (lane : Fin 8), s.dev.laneState lane.val = 3 ∧ (s.dev.lane lane.val).losses = []) ∧
  (∃ (s : State), s.dev.flag Reg.LNK.BUNDLE_STATUS_RESTRIPING = true ∧ s.dev.lnk.setNext = none ∧ s.dev.lnk.resend0 = [] ∧ s.dev.lnk.resend1 ≤ s.dev.lnk.unit1 ∧ s.dev.lnk.sending = []) :=
  ⟨⟨⟨(P.setLaneState (0 : Fin 8).val 3).updLane (0 : Fin 8).val fun k => { k with losses := [] }, []⟩, (0 : Fin 8), by decide +kernel⟩,
   ⟨⟨{ ({ ({ (P.setFlag Reg.LNK.BUNDLE_STATUS_RESTRIPING true) with lnk.setNext := none }) with lnk.resend0 := [] }) with lnk.sending := [] }, []⟩, by decide +kernel⟩⟩

theorem witness_LanePathAndRetention_5 :
  (∃ (s : State), s.dev.lnk.slot % 20 ≠ 0) ∧
  (∃ (s : State), s.dev.serviceRun = none) :=
  ⟨⟨⟨{ P with lnk.slot := 1 }, []⟩, by decide +kernel⟩,
   ⟨⟨P, []⟩, by decide +kernel⟩⟩

theorem witness_LanePathAndRetention_6 :
  (∃ (s : State), s.dev.serviceRun = none ∧ s.dev.pageOn .lnk = true ∧ eqImageOk (s.dev.stagedImage .equalisation) = true) ∧
  (∃ (s : State), s.dev.serviceRun = none ∧ s.dev.pageOn .lnk = true ∧ eqImageOk (s.dev.stagedImage .equalisation) = false) :=
  ⟨⟨⟨((4994774634168367605#64) :: List.replicate 16 0x03AC38FE4CF41800#64 ++ [0, 0]).zipIdx.foldl (fun (d : Device) (x : W64 × Nat) => d.setStaged .equalisation x.2 x.1) P, []⟩, by set_option maxRecDepth 100000 in decide +kernel⟩,
   ⟨⟨P, []⟩, by decide +kernel⟩⟩

theorem witness_LanePathAndRetention_7 :
  (∃ (s : State), s.dev.flag Reg.LNK.EQ_CTRL_SAVE_BUSY = false ∧ s.dev.eqLoaded = true) ∧
  (∃ (s : State), s.dev.flag Reg.LNK.CTRL_ACK_EN = true ∧ s.dev.lnk.frames ≠ [] ∧ s.dev.flag Reg.LNK.SUMMARY_TX_BUNDLE_UP = true) :=
  ⟨⟨⟨(P.setFlag Reg.LNK.EQ_CTRL_SAVE_BUSY false).setFlag Reg.LNK.SUMMARY_EQ_LOADED true, []⟩, by decide +kernel⟩,
   ⟨⟨{ ((P.setFlag Reg.LNK.CTRL_ACK_EN true).setFlag Reg.LNK.SUMMARY_TX_BUNDLE_UP true) with lnk.frames := [{ seq := 0 }] }, []⟩, by decide +kernel⟩⟩

theorem witness_LanePathAndRetention_8 :
  (∃ (s : State) (f : SentFrame) (rest : List SentFrame) (t : Nat), s.dev.lnk.frames = f :: rest ∧ f.sentAt = some t ∧ s.dev.flag Reg.LNK.CTRL_ACK_EN = false) ∧
  (∃ (s : State), s.dev.flag Reg.LNK.SUMMARY_TX_BUNDLE_UP = true ∧ s.dev.lnk.sending = []) :=
  ⟨⟨⟨({ P with lnk.frames := ({ seq := 0, sentAt := some 0 } : SentFrame) :: ([]) }).setFlag Reg.LNK.CTRL_ACK_EN false, []⟩, ({ seq := 0, sentAt := some 0 } : SentFrame), [], (0 : Nat), by decide +kernel⟩,
   ⟨⟨{ (P.setFlag Reg.LNK.SUMMARY_TX_BUNDLE_UP true) with lnk.sending := [] }, []⟩, by decide +kernel⟩⟩

theorem witness_LinkMessages_1 :
  (∃ (s : State) (lane : Fin 2) (w : BitVec 257) (rest : List RxBlock) (e : BitVec 16), s.dev.deskew (8 + lane.val) = .align w :: rest ∧ s.dev.zvl.epoch = some e ∧ w.extractLsb' 224 16 = e) ∧
  (∃ (s : State) (lane : Fin 2) (w : BitVec 257) (rest : List RxBlock), s.dev.deskew (8 + lane.val) = .align w :: rest ∧ s.dev.zvl.epoch = none) ∧
  (∃ (s : State) (w : BitVec 257) (rest : List (Option (BitVec 257))), s.dev.zvl.queue = some w :: rest ∧ w.getLsbD 256 = true ∧ msgOf w = 1) ∧
  (∃ (s : State) (w : BitVec 257) (rest : List (Option (BitVec 257))), s.dev.zvl.queue = some w :: rest ∧ w.getLsbD 256 = true ∧ msgOf w = 2) ∧
  (∃ (s : State), s.dev.serviceRun = none ∧ s.dev.zvl.accepted.isSome = true ∧ s.dev.flag Reg.LNK.SUMMARY_RX_BUNDLE_UP = true) ∧
  (∃ (s : State) (w : BitVec 257) (rest : List (Option (BitVec 257))), s.dev.zvl.queue = some w :: rest ∧ w.getLsbD 256 = true ∧ msgOf w = 3) ∧
  (∃ (s : State), s.dev.serviceRun = none ∧ s.dev.flag Reg.LNK.SUMMARY_TX_BUNDLE_UP = true ∧ s.dev.domOn 14 = true) :=
  ⟨⟨⟨{ ({ P with zvl.epoch := some (0 : BitVec 16) }) with zvl.buffers := [(8, [.align 0])], zvl.epoch := some 0 }, []⟩, (0 : Fin 2), (0 : BitVec 257), [], (0 : BitVec 16), by decide +kernel⟩,
   ⟨⟨{ ({ P with zvl.epoch := none }) with zvl.buffers := [(8, [.align 0])] }, []⟩, (0 : Fin 2), (0 : BitVec 257), [], by decide +kernel⟩,
   ⟨⟨{ P with zvl.queue := some ((BitVec.ofNat 257 (1 * 2 ^ 256 + 1 * 2 ^ 244))) :: ([]) }, []⟩, (BitVec.ofNat 257 (1 * 2 ^ 256 + 1 * 2 ^ 244)), [], by decide +kernel⟩,
   ⟨⟨{ P with zvl.queue := some ((BitVec.ofNat 257 (1 * 2 ^ 256 + 2 * 2 ^ 244))) :: ([]) }, []⟩, (BitVec.ofNat 257 (1 * 2 ^ 256 + 2 * 2 ^ 244)), [], by decide +kernel⟩,
   ⟨⟨{ (P.setFlag Reg.LNK.SUMMARY_RX_BUNDLE_UP true) with zvl.accepted := some 0 }, []⟩, by decide +kernel⟩,
   ⟨⟨{ P with zvl.queue := some ((BitVec.ofNat 257 (1 * 2 ^ 256 + 3 * 2 ^ 244))) :: ([]) }, []⟩, (BitVec.ofNat 257 (1 * 2 ^ 256 + 3 * 2 ^ 244)), [], by decide +kernel⟩,
   ⟨⟨P.setFlag Reg.LNK.SUMMARY_TX_BUNDLE_UP true, []⟩, by decide +kernel⟩⟩

theorem witness_LinkMessages_2 :
  (∃ (s : State) (w : BitVec 257), s.dev.serviceRun = none ∧ s.dev.zvl.queue = [some w] ∧ w.getLsbD 256 = true ∧ msgOf w = 0x20 ∧ s.dev.flag Reg.ZVL.CTRL_TRIG_EN = true ∧ s.dev.pageOn .trg = true) ∧
  (∃ (s : State) (w : BitVec 257) (rest : List (Option (BitVec 257))), s.dev.zvl.queue = some w :: rest ∧ w.getLsbD 256 = true ∧ msgOf w = 0x20) ∧
  (∃ (s : State) (w : BitVec 257) (rest : List (Option (BitVec 257))), s.dev.zvl.queue = some w :: rest ∧ w.getLsbD 256 = true ∧ msgOf w = 0x21 ∧ s.dev.flag Reg.ZVL.CTRL_TSYNC_EN = true ∧ s.dev.domOn 1 = true ∧ s.dev.flag Reg.TIM0.STATUS_LOCK = true) ∧
  (∃ (s : State) (w : BitVec 257), s.dev.serviceRun = none ∧ s.dev.zvl.queue = [some w] ∧ w.getLsbD 256 = true ∧ msgOf w = 0x21 ∧ s.dev.flag Reg.ZVL.CTRL_TSYNC_EN = false) ∧
  (∃ (s : State) (e : SyncEdge) (rest : List SyncEdge), s.dev.domOn 1 = true ∧ s.dev.tim.tsync = e :: rest ∧ e.mode = 2) ∧
  (∃ (s : State) (e : SyncEdge) (rest : List SyncEdge) (d : Device), s.dev.domOn 1 = true ∧ s.dev.tim.tsync = e :: rest ∧ e.mode = 3 ∧ d = Device.advanceTo { s.dev with tim := { s.dev.tim with tsync := rest } } e.loadAt ∧ (d.tim.sync.any fun x => x.loadAt == e.loadAt && (x.mode == 1 || x.mode == 3)) = false ∧ d.mayLoad = true) ∧
  (∃ (s : State) (e : SyncEdge) (rest : List SyncEdge) (d : Device), s.dev.domOn 1 = true ∧ s.dev.tim.tsync = e :: rest ∧ e.mode = 3 ∧ d = Device.advanceTo { s.dev with tim := { s.dev.tim with tsync := rest } } e.loadAt ∧ (d.tim.sync.any fun x => x.loadAt == e.loadAt && (x.mode == 1 || x.mode == 3)) = false ∧ d.mayLoad = false) :=
  ⟨⟨⟨({ P with zvl.queue := [some ((BitVec.ofNat 257 (1 * 2 ^ 256 + 32 * 2 ^ 244)))] }).setFlag Reg.ZVL.CTRL_TRIG_EN true, []⟩, (BitVec.ofNat 257 (1 * 2 ^ 256 + 32 * 2 ^ 244)), by decide +kernel⟩,
   ⟨⟨{ P with zvl.queue := some ((BitVec.ofNat 257 (1 * 2 ^ 256 + 32 * 2 ^ 244))) :: ([]) }, []⟩, (BitVec.ofNat 257 (1 * 2 ^ 256 + 32 * 2 ^ 244)), [], by decide +kernel⟩,
   ⟨⟨(({ P with zvl.queue := some ((BitVec.ofNat 257 (1 * 2 ^ 256 + 33 * 2 ^ 244))) :: ([]) }).setFlag Reg.ZVL.CTRL_TSYNC_EN true).setFlag Reg.TIM0.STATUS_LOCK true, []⟩, (BitVec.ofNat 257 (1 * 2 ^ 256 + 33 * 2 ^ 244)), [], by decide +kernel⟩,
   ⟨⟨({ P with zvl.queue := [some ((BitVec.ofNat 257 (1 * 2 ^ 256 + 33 * 2 ^ 244)))] }).setFlag Reg.ZVL.CTRL_TSYNC_EN false, []⟩, (BitVec.ofNat 257 (1 * 2 ^ 256 + 33 * 2 ^ 244)), by decide +kernel⟩,
   ⟨⟨{ P with tim.tsync := (⟨2, 0, 0, 0⟩ : SyncEdge) :: ([]) }, []⟩, (⟨2, 0, 0, 0⟩ : SyncEdge), [], by decide +kernel⟩,
   ⟨⟨({ ({ P with tim.tsync := (⟨3, 0, 0, 0⟩ : SyncEdge) :: ([]) }) with tim.inhibitSince := some 0, clock := 20000 }).setFlag Reg.TIM0.CTRL_FE_INHIBIT true, []⟩, (⟨3, 0, 0, 0⟩ : SyncEdge), [], _, by decide +kernel, by decide +kernel, by decide +kernel, rfl, by decide +kernel, by decide +kernel⟩,
   ⟨⟨{ P with tim.tsync := (⟨3, 0, 0, 0⟩ : SyncEdge) :: ([]) }, []⟩, (⟨3, 0, 0, 0⟩ : SyncEdge), [], _, by decide +kernel, by decide +kernel, by decide +kernel, rfl, by decide +kernel, by decide +kernel⟩⟩

theorem witness_RegisterReadsAndWrites_1 :
  (∃ (s : State) (route : Route), s.dev.serviceRun = none ∧ s.dev.routeOpen route = true ∧ s.dev.pageOn .hlt = true) ∧
  (∃ (s : State) (route : Route), s.dev.serviceRun = none ∧ s.dev.routeOpen route = true ∧ s.dev.pageOn .trg = true) ∧
  (∃ (s : State) (route : Route), s.dev.routeOpen route = true ∧ s.dev.pageOn .trg = false) ∧
  (∃ (s : State) (route : Route) (addr : RegAddr), s.dev.routeOpen route = true ∧ routeReaches addr.toNat route = true ∧ addr.toNat % 4 ≠ 0) ∧
  (∃ (addr : RegAddr), dspReaches addr.toNat = false) ∧
  (∃ (s : State) (route : Route) (data : W32), s.dev.serviceRun = none ∧ s.dev.routeOpen route = true ∧ s.dev.pageOn .sea1 = true ∧ s.dev.unsealed = false ∧ data ≠ s.dev.word (Reg.SEA1.INJCAL 0)) :=
  ⟨⟨⟨P, []⟩, .pcie, by decide +kernel⟩,
   ⟨⟨P, []⟩, .pcie, by decide +kernel⟩,
   ⟨⟨P.setFlag (domOnBit 5) false, []⟩, .pcie, by decide +kernel⟩,
   ⟨⟨P, []⟩, .pcie, (1#26 : RegAddr), by decide +kernel⟩,
   ⟨0x1C00000#26, by decide +kernel⟩,
   ⟨⟨P.setSealState 2, []⟩, .pcie, (1#32 : W32), by decide +kernel⟩⟩

theorem witness_RegisterReadsAndWrites_2 :
  (∃ (s : State) (route : Route), s.dev.routeOpen route = true ∧ s.dev.pageOn .sea0 = true) ∧
  (∃ (s : State) (route : Route), s.dev.serviceRun = none ∧ s.dev.routeOpen route = true ∧ s.dev.pageOn .evb = true) ∧
  (∃ (s : State), s.dev.domOn 11 = true) ∧
  (∃ (s : State) (enables : BitVec 4), s.dev.serviceRun = none ∧ s.dev.domOn 11 = true ∧ enables ≠ 0xF#4) ∧
  (∃ (s : State), s.dev.pageOn .hlt = true ∧ s.dev.pageOn .nvs = true ∧ s.dev.flag Reg.HLT.MASK_SAVE_BUSY = false) :=
  ⟨⟨⟨P, []⟩, .pcie, by decide +kernel⟩,
   ⟨⟨P, []⟩, .pcie, by decide +kernel⟩,
   ⟨⟨P, []⟩, by decide +kernel⟩,
   ⟨⟨P, []⟩, (0 : BitVec 4), by decide +kernel⟩,
   ⟨⟨P.setFlag Reg.HLT.MASK_SAVE_BUSY false, []⟩, by decide +kernel⟩⟩

theorem witness_PcieRings_1 :
  (∃ (s : State) (ring : Ring) (tail : W32), s.dev.pageOn .pci = true ∧ (tail - s.dev.word (Reg.RING.HEAD ring.val)).toNat ≤ s.dev.ringSize ring.val ∧ (s.dev.word (Reg.RING.TAIL ring.val) - s.dev.word (Reg.RING.HEAD ring.val)).toNat ≤ (tail - s.dev.word (Reg.RING.HEAD ring.val)).toNat) ∧
  (∃ (s : State) (ring : Ring) (tail : W32), s.dev.pageOn .pci = true ∧ s.dev.ringSize ring.val < (tail - s.dev.word (Reg.RING.HEAD ring.val)).toNat) ∧
  (∃ (s : State) (ring : Ring), s.dev.mayFetch ring.val = true) ∧
  (∃ (s : State) (ring : ReadRing) (x : Desc) (rest : List Desc) (status : Nat), (s.dev.ring ring.val).descs = x :: rest ∧ s.dev.readoutStatus ring.val x = some status ∧ s.dev.dmaReady = true) ∧
  (∃ (s : State) (ring : ReadRing) (x : Desc) (rest : List Desc), (s.dev.ring ring.val).descs = x :: rest ∧ s.dev.readoutStatus ring.val x = none ∧ s.dev.dmaReady = true ∧ x.used ≠ 0 ∧ s.dev.fld (Reg.RING.TIMEOUT_US ring.val) ≠ 0) ∧
  (∃ (s : State) (ring : ReadRing) (x : Desc) (rest : List Desc), (s.dev.ring ring.val).descs = x :: rest ∧ s.dev.ringReady ring.val = true ∧ s.dev.readoutStatus ring.val x = none ∧ s.dev.readbackTo ring.val = true ∧ (s.dev.takeReadback (s.dev.requestWords x)).2 ≠ []) ∧
  (∃ (s : State) (ring : ReadRing) (x : Desc) (rest : List Desc) (e : Device) (words : List W64) (serials : List Nat) (y : Desc), (s.dev.ring ring.val).descs = x :: rest ∧ s.dev.ringReady ring.val = true ∧ s.dev.readoutStatus ring.val x = none ∧ s.dev.readbackTo ring.val = false ∧ s.dev.gather ring.val ((s.dev.ring ring.val).todo.length + 1) (s.dev.requestWords x) x [] [] = (e, words, serials, y) ∧ words ≠ []) :=
  ⟨⟨⟨P, []⟩, (8 : Ring), (0 : W32), by decide +kernel⟩,
   ⟨⟨P, []⟩, (8 : Ring), 0x10000000#32, by decide +kernel⟩,
   ⟨⟨((({ P with pci.up := true, pci.cfg.busMaster := true }).setFlag (fEnable .pci) true).setFlag (Reg.RING.RING_CTRL_EN 8) true).setWord (Reg.RING.TAIL 8) 1, []⟩, (8 : Ring), by decide +kernel⟩,
   ⟨⟨({ (P.updRing (0 : ReadRing).val fun k => { k with descs := ({ index := 0, word0 := 128, word1 := 0 } : Desc) :: ([]) }) with pci.up := true, pci.cfg.busMaster := true }).setFlag (Reg.RING.RING_CTRL_ABORT 0) true, []⟩, (0 : ReadRing), ({ index := 0, word0 := 128, word1 := 0 } : Desc), [], (4 : Nat), by decide +kernel⟩,
   ⟨⟨(({ ((P.updRing (0 : ReadRing).val fun k => { k with descs := ({ index := 0, word0 := 0, word1 := 128, used := 8 } : Desc) :: ([]) }).setFld (Reg.RING.TIMEOUT_US (0 : ReadRing).val) 1) with pci.up := true, pci.cfg.busMaster := true }).setFlag (fEnable .pci) true).setFlag (Reg.RING.RING_CTRL_EN 0) true, []⟩, (0 : ReadRing), ({ index := 0, word0 := 0, word1 := 128, used := 8 } : Desc), [], by decide +kernel⟩,
   ⟨⟨{ ((({ (P.updRing (0 : ReadRing).val fun k => { k with descs := ({ index := 0, word0 := 0, word1 := 128, used := 0 } : Desc) :: ([]) }) with pci.up := true, pci.cfg.busMaster := true }).setFlag (fEnable .pci) true).setFlag (Reg.RING.RING_CTRL_EN 0) true) with his.running := some ⟨0, 0, 0, 0, none, [], 0, false, 0, false⟩, his.sending := [0] }, []⟩, (0 : ReadRing), ({ index := 0, word0 := 0, word1 := 128, used := 0 } : Desc), [], by decide +kernel⟩,
   (set_option maxRecDepth 20000 in ⟨⟨({ ((({ (P.updRing (0 : ReadRing).val fun k => { k with descs := ({ index := 0, word0 := 0, word1 := 128, used := 0 } : Desc) :: ([]) }) with pci.up := true, pci.cfg.busMaster := true }).setFlag (fEnable .pci) true).setFlag (Reg.RING.RING_CTRL_EN 0) true) with evb.oq := [⟨0, ⟨.header, [0, 0], none, false, none⟩, false, [0]⟩] }).updRing 0 fun k => { k with todo := [0] }, []⟩, (0 : ReadRing), ({ index := 0, word0 := 0, word1 := 128, used := 0 } : Desc), [], _, _, _, _, by decide +kernel, by decide +kernel, by decide +kernel, by decide +kernel, Prod.ext rfl (Prod.ext rfl (Prod.ext rfl rfl)), by decide +kernel⟩)⟩

theorem witness_PcieRings_2 :
  (∃ (s : State), s.dev.pageOn .pci = true) ∧
  (∃ (s : State) (ring : Ring), s.dev.pageOn .pci = true ∧ (s.dev.ring ring.val).descs = []) ∧
  (∃ (s : State) (ring : Ring) (x : Desc) (rest : List Desc), s.dev.pageOn .pci = true ∧ (s.dev.ring ring.val).descs = x :: rest) ∧
  (∃ (s : State) (ring : Ring), s.dev.pageOn .pci = true ∧ s.dev.flag (Reg.RING.RING_CTRL_EN ring.val) = false ∧ s.dev.flag (Reg.RING.RING_STATUS_ACTIVE ring.val) = false) ∧
  (∃ (s : State) (ring : H2dRing) (x : Desc) (rest : List Desc), (s.dev.ring (8 + ring.val)).descs = x :: rest ∧ s.dev.dmaReady = true ∧ s.dev.flag (Reg.RING.RING_CTRL_ABORT (8 + ring.val)) = true) ∧
  (∃ (s : State) (ring : H2dRing) (words : List W32) (x : Desc) (rest : List Desc) (d : Device) (n : Nat × Nat), (s.dev.ring (8 + ring.val)).descs = x :: rest ∧ s.dev.dmaReady = true ∧ s.dev.flag (Reg.RING.RING_CTRL_ABORT (8 + ring.val)) = false ∧ x.badH2d = false ∧ words.length = x.len / 4 ∧ ((s.dev.readBuffer x.buf x.len).countMoved (8 + ring.val) x.len).h2dWrites (x.writes words 0) (0, 0) = (d, n) ∧ (d.ring (8 + ring.val)).descs = x :: rest) ∧
  (∃ (s : State) (ring : H2dRing) (words : List W32) (k : Nat) (x : Desc) (rest : List Desc) (d : Device) (n : Nat × Nat), (s.dev.ring (8 + ring.val)).descs = x :: rest ∧ s.dev.dmaReady = true ∧ s.dev.flag (Reg.RING.RING_CTRL_ABORT (8 + ring.val)) = false ∧ x.badH2d = false ∧ words.length = x.len / 4 ∧ k < x.len / 4 ∧ ((s.dev.readBuffer x.buf x.len).countMoved (8 + ring.val) (4 * k)).h2dWrites (x.writes (words.take k) 0) (0, 0) = (d, n) ∧ (d.ring (8 + ring.val)).descs = x :: rest) :=
  ⟨⟨⟨P, []⟩, by decide +kernel⟩,
   ⟨⟨P.updRing (8 : Ring).val fun k => { k with descs := [] }, []⟩, (8 : Ring), by decide +kernel⟩,
   ⟨⟨P.updRing (8 : Ring).val fun k => { k with descs := ({ index := 0, word0 := 128, word1 := 0 } : Desc) :: ([]) }, []⟩, (8 : Ring), ({ index := 0, word0 := 128, word1 := 0 } : Desc), [], by decide +kernel⟩,
   ⟨⟨(P.setFlag (Reg.RING.RING_CTRL_EN (8 : Ring).val) false).setFlag (Reg.RING.RING_STATUS_ACTIVE (8 : Ring).val) false, []⟩, (8 : Ring), by decide +kernel⟩,
   ⟨⟨{ ((P.updRing (8 + (0 : H2dRing).val) fun k => { k with descs := ({ index := 0, word0 := 128, word1 := 0 } : Desc) :: ([]) }).setFlag (Reg.RING.RING_CTRL_ABORT (8 + (0 : H2dRing).val)) true) with pci.up := true, pci.cfg.busMaster := true }, []⟩, (0 : H2dRing), ({ index := 0, word0 := 128, word1 := 0 } : Desc), [], by decide +kernel⟩,
   ⟨⟨(({ ((P.updRing (8 + (0 : H2dRing).val) fun k => { k with descs := ({ index := 0, word0 := 0, word1 := 8 } : Desc) :: ([]) }).setFlag (Reg.RING.RING_CTRL_ABORT (8 + (0 : H2dRing).val)) false) with pci.up := true, pci.cfg.busMaster := true }).setFlag (fEnable .pci) true).setFlag (Reg.RING.RING_CTRL_EN 8) true, []⟩, (0 : H2dRing), [0, 0], ({ index := 0, word0 := 0, word1 := 8 } : Desc), [], _, _, by decide +kernel, by decide +kernel, by decide +kernel, by decide +kernel, by decide +kernel, rfl, by decide +kernel⟩,
   ⟨⟨(({ ((P.updRing (8 + (0 : H2dRing).val) fun k => { k with descs := ({ index := 0, word0 := 0, word1 := 8 } : Desc) :: ([]) }).setFlag (Reg.RING.RING_CTRL_ABORT (8 + (0 : H2dRing).val)) false) with pci.up := true, pci.cfg.busMaster := true }).setFlag (fEnable .pci) true).setFlag (Reg.RING.RING_CTRL_EN 8) true, []⟩, (0 : H2dRing), [0, 0], (1 : Nat), ({ index := 0, word0 := 0, word1 := 8 } : Desc), [], _, _, by decide +kernel, by decide +kernel, by decide +kernel, by decide +kernel, by decide +kernel, by decide +kernel, rfl, by decide +kernel⟩⟩

theorem witness_EndpointAndEventController :
  (∃ (s : State), s.dev.pageOn .pci = true) ∧
  (∃ (s : State), s.dev.serviceRun = none ∧ s.dev.pageOn .pci = true) ∧
  (∃ (s : State), s.dev.serviceRun = none ∧ s.dev.pageOn .pci = true ∧ s.dev.pci.up = true) ∧
  (∃ (s : State) (speed : BitVec 4) (width : BitVec 5), s.dev.serviceRun = none ∧ s.dev.pageOn .pci = true ∧ s.dev.pci.up = true ∧ (s.dev.fld Reg.PCI.LINK_STATUS_SPEED ≠ speed.toNat ∨ s.dev.fld Reg.PCI.LINK_STATUS_WIDTH ≠ width.toNat) ∧ pciLinkOk speed.toNat width.toNat = true) ∧
  (∃ (s : State) (speed : BitVec 4) (width : BitVec 5), s.dev.serviceRun = none ∧ s.dev.pageOn .pci = true ∧ s.dev.pci.up = false ∧ pciLinkOk speed.toNat width.toNat = true) ∧
  (∃ (s : State) (source : BitVec 8) (frame : BitVec 16) (rest : List (BitVec 8 × BitVec 16)), s.dev.serviceRun = none ∧ s.dev.evc.log = (source, frame) :: rest) ∧
  (∃ (s : State), s.dev.serviceRun = none ∧ s.dev.evc.log = []) :=
  ⟨⟨⟨P, []⟩, by decide +kernel⟩,
   ⟨⟨P, []⟩, by decide +kernel⟩,
   ⟨⟨{ P with pci.up := true }, []⟩, by decide +kernel⟩,
   ⟨⟨{ P with pci.up := true }, []⟩, (1#4 : BitVec 4), (1#5 : BitVec 5), by decide +kernel⟩,
   ⟨⟨{ P with pci.up := false }, []⟩, (1#4 : BitVec 4), (1#5 : BitVec 5), by decide +kernel⟩,
   ⟨⟨{ P with evc.log := ((0 : BitVec 8), (0 : BitVec 16)) :: ([]) }, []⟩, (0 : BitVec 8), (0 : BitVec 16), [], by decide +kernel⟩,
   ⟨⟨{ P with evc.log := [] }, []⟩, by decide +kernel⟩⟩

theorem witness_AccessesForOthers_1 :
  (∃ (s : State) (core : Core), (s.dev.core core.val).fab = some true ∧ s.dev.pageOn (.dsp core) = true ∧ (s.dev.core core.val).stopAsked = false) ∧
  (∃ (s : State) (core : Core) (a : Nat) (n : Nat) (d : Device) (e : Device) (w : W32), (s.dev.core core.val).fab = some false ∧ s.dev.pageOn (.dsp core) = true ∧ a = s.dev.fld (Reg.DSPIO.FAB_ADDR_LO_ADDR core.val) + 65536 * s.dev.fld (Reg.DSPIO.FAB_ADDR_HI_ADDR core.val) ∧ dspReaches a = true ∧ n = (s.dev.clock - (s.dev.core core.val).fabSince) / 2 ∧ d = ((s.dev.count (Reg.DSP.CNT_FAB_STALL core.val) n).countRun core.val n).updCore core.val (fun k => { k with fab := none }) ∧ d.regRead a = (e, w) ∧ (((e.fabData core.val w).fabResult core.val false false).core core.val).stopAsked = false) ∧
  (∃ (s : State) (core : Core) (a : Nat) (data : BitVec 32) (n : Nat) (d : Device), (s.dev.core core.val).fab = some true ∧ s.dev.pageOn (.dsp core) = true ∧ a = s.dev.fld (Reg.DSPIO.FAB_ADDR_LO_ADDR core.val) + 65536 * s.dev.fld (Reg.DSPIO.FAB_ADDR_HI_ADDR core.val) ∧ dspReaches a = true ∧ data = BitVec.ofNat 32 (s.dev.fld (Reg.DSPIO.FAB_WDATA_LO_DATA core.val) + 65536 * s.dev.fld (Reg.DSPIO.FAB_WDATA_HI_DATA core.val)) ∧ n = (s.dev.clock - (s.dev.core core.val).fabSince) / 2 ∧ d = (((s.dev.count (Reg.DSP.CNT_FAB_STALL core.val) n).countRun core.val n).updCore core.val (fun k => { k with fab := none })).regWrite (.dsp core) none a data ∧ ((d.fabResult core.val false d.wrRefused).core core.val).stopAsked = false) ∧
  (∃ (s : State) (r : SeqRun), s.dev.sta.run = some r ∧ s.dev.pageOn .sta1 = true ∧ r.phase = .ready ∧ ((s.dev.seqStep r).extractLsb' 60 4).toNat = 1 ∧ dspReaches (stepOffset (s.dev.seqStep r)) = false) ∧
  (∃ (s : State) (r : SeqRun) (d : Device) (r' : SeqRun), s.dev.sta.run = some r ∧ s.dev.pageOn .sta1 = true ∧ r.phase = .ready ∧ ((s.dev.seqStep r).extractLsb' 60 4).toNat = 1 ∧ dspReaches (stepOffset (s.dev.seqStep r)) = true ∧ d = s.dev.regWrite (.dsp 0) none (stepOffset (s.dev.seqStep r)) ((s.dev.seqStep r).extractLsb' 0 32) ∧ d.sta.run = some r' ∧ r'.seq = r.seq) ∧
  (∃ (s : State) (r : SeqRun) (d : Device) (v : W32) (r' : SeqRun), s.dev.sta.run = some r ∧ s.dev.pageOn .sta1 = true ∧ r.phase = .ready ∧ ((s.dev.seqStep r).extractLsb' 60 4).toNat = 3 ∧ dspReaches (stepOffset (s.dev.seqStep r)) = true ∧ s.dev.regRead (stepOffset (s.dev.seqStep r)) = (d, v) ∧ d.sta.run = some r' ∧ r'.seq = r.seq) ∧
  (∃ (s : State) (r : SeqRun) (since : Nat), s.dev.sta.run = some r ∧ r.phase = .poll since) ∧
  (∃ (s : State) (r : SeqRun), s.dev.sta.run = some r ∧ s.dev.pageOn .sta1 = true ∧ r.phase = .ready ∧ ((s.dev.seqStep r).extractLsb' 60 4).toNat = 5) :=
  ⟨⟨⟨(P.updCore (0 : Core).val fun k => { k with fab := some true }).updCore (0 : Core).val fun k => { k with stopAsked := false }, []⟩, (0 : Core), by decide +kernel⟩,
   ⟨⟨P.updCore 0 fun k => { k with fab := some false }, []⟩, (0 : Core), (0 : Nat), (0 : Nat), _, _, _, by decide +kernel, by decide +kernel, by decide +kernel, by decide +kernel, by decide +kernel, rfl, rfl, by decide +kernel⟩,
   ⟨⟨P.updCore (0 : Core).val fun k => { k with fab := some true }, []⟩, (0 : Core), (0 : Nat), (0 : BitVec 32), (0 : Nat), _, by decide +kernel, by decide +kernel, by decide +kernel, by decide +kernel, by decide +kernel, by decide +kernel, rfl, by decide +kernel⟩,
   ⟨⟨{ P with sta.run := some (({ seq := 0, cause := 0, lastWarn := false, table := [(17, 0x11c0000000000000#64)], phase := .ready } : SeqRun)) }, []⟩, ({ seq := 0, cause := 0, lastWarn := false, table := [(17, 0x11c0000000000000#64)], phase := .ready } : SeqRun), by decide +kernel⟩,
   ⟨⟨{ P with sta.run := some (({ seq := 0, cause := 0, lastWarn := false, table := [(17, 0x1000000000000000#64)], phase := .ready } : SeqRun)) }, []⟩, ({ seq := 0, cause := 0, lastWarn := false, table := [(17, 0x1000000000000000#64)], phase := .ready } : SeqRun), _, ({ seq := 0, cause := 0, lastWarn := false, table := [(17, 0x1000000000000000#64)], phase := .ready } : SeqRun), by decide +kernel, by decide +kernel, by decide +kernel, by decide +kernel, by decide +kernel, rfl, by decide +kernel, by decide +kernel⟩,
   ⟨⟨{ P with sta.run := some (({ seq := 0, cause := 0, lastWarn := false, table := [(17, 0x3000000000000000#64)], phase := .ready } : SeqRun)) }, []⟩, ({ seq := 0, cause := 0, lastWarn := false, table := [(17, 0x3000000000000000#64)], phase := .ready } : SeqRun), _, _, ({ seq := 0, cause := 0, lastWarn := false, table := [(17, 0x3000000000000000#64)], phase := .ready } : SeqRun), by decide +kernel, by decide +kernel, by decide +kernel, by decide +kernel, by decide +kernel, Prod.ext rfl rfl, by decide +kernel, by decide +kernel⟩,
   ⟨⟨{ P with sta.run := some (({ seq := 0, cause := 0, lastWarn := false, table := [(17, 0x0#64)], phase := .poll 0 } : SeqRun)) }, []⟩, ({ seq := 0, cause := 0, lastWarn := false, table := [(17, 0x0#64)], phase := .poll 0 } : SeqRun), (0 : Nat), by decide +kernel⟩,
   ⟨⟨{ P with sta.run := some (({ seq := 0, cause := 0, lastWarn := false, table := [(17, 0x5000000000000000#64)], phase := .ready } : SeqRun)) }, []⟩, ({ seq := 0, cause := 0, lastWarn := false, table := [(17, 0x5000000000000000#64)], phase := .ready } : SeqRun), by decide +kernel⟩⟩

theorem witness_AccessesForOthers_2 :
  (∃ (s : State) (r : SeqRun) (c : Nat) (since : Nat), s.dev.sta.run = some r ∧ r.phase = .dsp c since ∧ (s.dev.core c).run = .halted ∧ (s.dev.core c).cause = 1) ∧
  (∃ (s : State) (w : BitVec 257) (rest : List (Option (BitVec 257))), s.dev.zvl.queue = some w :: rest ∧ w.getLsbD 256 = false ∧ s.dev.pageOn .zvl = true ∧ s.dev.zvl.frame = none) ∧
  (∃ (s : State) (w : BitVec 257) (rest : List (Option (BitVec 257))) (f : RxFrame), s.dev.zvl.queue = some w :: rest ∧ w.getLsbD 256 = false ∧ s.dev.pageOn .zvl = true ∧ s.dev.zvl.frame = some f ∧ f.nblk ≠ 1 ∧ f.nblk ≠ 0) ∧
  (∃ (s : State) (w : BitVec 257) (rest : List (Option (BitVec 257))) (f : RxFrame) (d : Device), s.dev.zvl.queue = some w :: rest ∧ w.getLsbD 256 = false ∧ s.dev.pageOn .zvl = true ∧ s.dev.zvl.frame = some f ∧ f.nblk = 1 ∧ d = Device.frameDone { s.dev with zvl := { s.dev.zvl with queue := rest } } { f with nblk := 0, got := f.got ++ [w.extractLsb' 192 64, w.extractLsb' 128 64, w.extractLsb' 64 64, w.extractLsb' 0 64] }) ∧
  (∃ (s : State) (w : BitVec 257) (rest : List (Option (BitVec 257))) (d : Device), s.dev.zvl.queue = some w :: rest ∧ w.getLsbD 256 = true ∧ msgOf w = 0x10 ∧ s.dev.pageOn .zvl = true ∧ s.dev.enabled .zvl = false ∧ d = Device.answer { s.dev with zvl := { s.dev.zvl with queue := rest } } w 7) ∧
  (∃ (s : State) (w : BitVec 257) (rest : List (Option (BitVec 257))), s.dev.zvl.queue = some w :: rest ∧ w.getLsbD 256 = true ∧ msgOf w = 0x10 ∧ s.dev.pageOn .zvl = true ∧ s.dev.enabled .zvl = true ∧ s.dev.flag Reg.ZVL.CTRL_CMD_EN = true ∧ s.dev.zvl.cmds.length < 16) ∧
  (∃ (s : State) (w : BitVec 257) (rest : List (Option (BitVec 257))), s.dev.zvl.queue = some w :: rest ∧ w.getLsbD 256 = true ∧ msgOf w = 0x11 ∧ s.dev.pageOn .zvl = true ∧ s.dev.enabled .zvl = true ∧ s.dev.flag Reg.ZVL.CTRL_CMD_EN = true ∧ s.dev.zvl.cmds.length < 16) ∧
  (∃ (s : State) (w : BitVec 257) (rest : List (Option (BitVec 257))), s.dev.zvl.queue = some w :: rest ∧ w.getLsbD 256 = true ∧ msgOf w = 0x12 ∧ s.dev.pageOn .zvl = true ∧ s.dev.enabled .zvl = true ∧ s.dev.flag Reg.ZVL.CTRL_AUTH_EN = true ∧ s.dev.zvl.cmds.length < 16) :=
  ⟨⟨⟨(({ P with sta.run := some (({ seq := 0, cause := 0, lastWarn := false, table := [(17, 0x0#64)], phase := .dsp 0 0 } : SeqRun)) }).updCore (0 : Nat) fun k => { k with run := .halted }).updCore (0 : Nat) fun k => { k with cause := 1 }, []⟩, ({ seq := 0, cause := 0, lastWarn := false, table := [(17, 0x0#64)], phase := .dsp 0 0 } : SeqRun), (0 : Nat), (0 : Nat), by decide +kernel⟩,
   ⟨⟨{ ({ P with zvl.queue := some (0 : BitVec 257) :: ([]) }) with zvl.frame := none }, []⟩, (0 : BitVec 257), [], by decide +kernel⟩,
   ⟨⟨{ ({ P with zvl.queue := some (0 : BitVec 257) :: ([]) }) with zvl.frame := some ({ seq := 0, nblk := 2, stream := 0, resend := false, first := 0, words := 8, take := true } : RxFrame) }, []⟩, (0 : BitVec 257), [], ({ seq := 0, nblk := 2, stream := 0, resend := false, first := 0, words := 8, take := true } : RxFrame), by decide +kernel⟩,
   ⟨⟨{ ({ P with zvl.queue := some (0 : BitVec 257) :: ([]) }) with zvl.frame := some ({ seq := 0, nblk := 1, stream := 0, resend := false, first := 0, words := 8, take := true } : RxFrame) }, []⟩, (0 : BitVec 257), [], ({ seq := 0, nblk := 1, stream := 0, resend := false, first := 0, words := 8, take := true } : RxFrame), _, by decide +kernel, by decide +kernel, by decide +kernel, by decide +kernel, by decide +kernel, rfl⟩,
   ⟨⟨({ P with zvl.queue := some ((BitVec.ofNat 257 (1 * 2 ^ 256 + 16 * 2 ^ 244))) :: ([]) }).setFlag (fEnable .zvl) false, []⟩, (BitVec.ofNat 257 (1 * 2 ^ 256 + 16 * 2 ^ 244)), [], _, by decide +kernel, by decide +kernel, by decide +kernel, by decide +kernel, by decide +kernel, rfl⟩,
   ⟨⟨(({ P with zvl.queue := some ((BitVec.ofNat 257 (1 * 2 ^ 256 + 16 * 2 ^ 244))) :: ([]) }).setFlag (fEnable .zvl) true).setFlag Reg.ZVL.CTRL_CMD_EN true, []⟩, (BitVec.ofNat 257 (1 * 2 ^ 256 + 16 * 2 ^ 244)), [], by decide +kernel⟩,
   ⟨⟨(({ P with zvl.queue := some ((BitVec.ofNat 257 (1 * 2 ^ 256 + 17 * 2 ^ 244))) :: ([]) }).setFlag (fEnable .zvl) true).setFlag Reg.ZVL.CTRL_CMD_EN true, []⟩, (BitVec.ofNat 257 (1 * 2 ^ 256 + 17 * 2 ^ 244)), [], by decide +kernel⟩,
   ⟨⟨(({ P with zvl.queue := some ((BitVec.ofNat 257 (1 * 2 ^ 256 + 18 * 2 ^ 244))) :: ([]) }).setFlag (fEnable .zvl) true).setFlag Reg.ZVL.CTRL_AUTH_EN true, []⟩, (BitVec.ofNat 257 (1 * 2 ^ 256 + 18 * 2 ^ 244)), [], by decide +kernel⟩⟩

theorem witness_PageControlCommands_1 :
  (∃ (s : State) (p : Page), (∀ n, p ≠ .conv n) ∧ s.dev.pageOn p = true ∧ s.dev.flag (fEnable p) = true ∧ (s.dev.setFlag (fEnable p) false).flag (fAbort p) = false) ∧
  (∃ (s : State) (n : Die), s.dev.pageOn (.conv n) = true ∧ s.dev.flag (fEnable (.conv n)) = true ∧ (s.dev.setFlag (fEnable (.conv n)) false).flag (fAbort (.conv n)) = false) ∧
  (∃ (s : State) (p : Page), s.dev.pageOn p = true ∧ s.dev.flag (fEnable p) = false) ∧
  (∃ (s : State) (p : Page), p ≠ .lnk ∧ s.dev.flag (fDraining p) = true) ∧
  (∃ (s : State), s.dev.flag (fDraining .lnk) = true) ∧
  (∃ (s : State) (p : Page), s.dev.pageOn p = true ∧ p ≠ .hlt ∧ p ≠ .thm ∧ p ≠ .evc) :=
  ⟨⟨⟨P.setFlag (fEnable .trg) true, []⟩, .trg, by decide +kernel⟩,
   ⟨⟨P.setFlag (fEnable (.conv (0 : Die))) true, []⟩, (0 : Die), by decide +kernel⟩,
   ⟨⟨P.setFlag (fEnable .trg) false, []⟩, .trg, by decide +kernel⟩,
   ⟨⟨P.setFlag (fDraining .trg) true, []⟩, .trg, by decide +kernel⟩,
   ⟨⟨P.setFlag (fDraining .lnk) true, []⟩, by decide +kernel⟩,
   ⟨⟨P, []⟩, .trg, by decide +kernel⟩⟩

theorem witness_PageControlCommands_2 :
  (∃ (s : State) (p : Page), s.dev.pageOn p = true ∧ (p = .hlt ∨ p = .thm ∨ p = .evc)) ∧
  (∃ (s : State) (p : Page), s.dev.flag (fAbort p) = true ∧ s.dev.abortPending p = false ∧ s.dev.flag (fSoft p) = false ∧ ((s.dev.setFlag (fAbort p) false).setFlag (fSoft p) false).flag (fEnable p) = true) ∧
  (∃ (s : State) (p : Page), s.dev.flag (fAbort p) = true ∧ s.dev.abortPending p = false ∧ s.dev.flag (fSoft p) = true ∧ ((s.dev.setFlag (fAbort p) false).setFlag (fSoft p) false).flag (fEnable p) = false) ∧
  (∃ (s : State) (p : Page), s.dev.pageOn p = true ∧ s.dev.flag (fAbort p) = false) ∧
  (∃ (s : State), s.dev.serviceRun = none ∧ s.dev.pageOn .trg = true ∧ s.dev.flag (fAbort .trg) = false) ∧
  (∃ (s : State) (p : Page), s.dev.pageOn p = true ∧ s.dev.flag (fAbort p) = true) :=
  ⟨⟨⟨P, []⟩, .hlt, by decide +kernel⟩,
   ⟨⟨(P.setFlag (fAbort .trg) true).setFlag (fSoft .trg) false, []⟩, .trg, by decide +kernel⟩,
   ⟨⟨((P.setFlag (fAbort .trg) true).setFlag (fSoft .trg) true).setFlag (fEnable .trg) false, []⟩, .trg, by decide +kernel⟩,
   ⟨⟨P.setFlag (fAbort .trg) false, []⟩, .trg, by decide +kernel⟩,
   ⟨⟨P.setFlag (fAbort .trg) false, []⟩, by decide +kernel⟩,
   ⟨⟨P.setFlag (fAbort .trg) true, []⟩, .trg, by decide +kernel⟩⟩

theorem witness_RailsAndDomains_1 :
  (∃ (s : State), s.dev.serviceRun = none) ∧
  (∃ (s : State) (rail : Rail), s.dev.railGood rail.val = true ∧ (rail.val = 0 ∨ rail.val = 6) ∧ s.dev.pwr.por = false) ∧
  (∃ (s : State) (rail : Rail), s.dev.railGood rail.val = true ∧ s.dev.pwr.por = true) ∧
  (∃ (s : State) (rail : Rail), s.dev.railGood rail.val = true ∧ s.dev.pwr.por = false ∧ rail.val ≠ 0 ∧ rail.val ≠ 6) ∧
  (∃ (s : State) (rail : Rail), s.dev.railGood rail.val = true ∧ rail.val ≠ 0 ∧ rail.val ≠ 6 ∧ s.dev.pwr.por = false) ∧
  (∃ (s : State), s.dev.pageOn .pwrDom = true) ∧
  (∃ (s : State) (w : Switch), s.dev.pwr.sw = some w ∧ w.on = true ∧ s.dev.railsGood w.dom = true ∧ (domNeeds w.dom).all (fun n => s.dev.domOn n) = true) :=
  ⟨⟨⟨P, []⟩, by decide +kernel⟩,
   ⟨⟨P, []⟩, (0 : Rail), by decide +kernel⟩,
   ⟨⟨{ P with pwr.por := true }, []⟩, (1 : Rail), by decide +kernel⟩,
   ⟨⟨P, []⟩, (1 : Rail), by decide +kernel⟩,
   ⟨⟨P, []⟩, (1 : Rail), by decide +kernel⟩,
   ⟨⟨P, []⟩, by decide +kernel⟩,
   ⟨⟨{ P with pwr.sw := some (⟨5, true, 0⟩) }, []⟩, ⟨5, true, 0⟩, by decide +kernel⟩⟩

theorem witness_RailsAndDomains_2 :
  (∃ (s : State) (w : Switch), s.dev.pwr.sw = some w ∧ w.on = true) ∧
  (∃ (s : State) (w : Switch), s.dev.pwr.sw = some w ∧ w.on = false ∧ s.dev.domainIdle w.dom = true) ∧
  (∃ (s : State) (w : Switch), s.dev.pwr.sw = some w ∧ w.on = false ∧ (domPages w.dom).filter (fun p => s.dev.flag (fDraining p)) ≠ []) ∧
  (∃ (d : Device), d.railGood 6 = false) ∧
  (∃ (d : Device), d.railGood 6 = true ∧ d.pwr.por = true) ∧
  (∃ (d : Device), d.railGood 6 = true ∧ d.pwr.por = false ∧ d.fld Reg.HLT.SERVICE_LEVEL_LEVEL = 0) :=
  ⟨⟨⟨{ ({ P with pwr.sw := some (⟨5, true, 0⟩ : Switch) }) with pwr.faultOff := [5] }, []⟩, (⟨5, true, 0⟩ : Switch), by decide +kernel⟩,
   ⟨⟨({ P with pwr.sw := some (⟨5, false, 0⟩ : Switch) }).setFlag (fIdle .trg) true, []⟩, (⟨5, false, 0⟩ : Switch), by decide +kernel⟩,
   ⟨⟨({ P with pwr.sw := some (⟨5, false, 0⟩ : Switch) }).setFlag (fDraining .trg) true, []⟩, (⟨5, false, 0⟩ : Switch), by decide +kernel⟩,
   ⟨(P.setFlag ⟨Reg.PWRD.RAIL_STATUS, 6, 1⟩ false), by decide +kernel⟩,
   ⟨{ P with pwr.por := true }, by decide +kernel⟩,
   ⟨(P.setFld Reg.HLT.SERVICE_LEVEL_LEVEL 0), by decide +kernel⟩⟩

theorem witness_StartUpAndResets_1 :
  (∃ (s : State), s.dev.pwr.por = true ∧ s.dev.railGood 0 = true ∧ s.dev.railGood 6 = true) ∧
  (∃ (s : State), s.dev.pwr.por = false ∧ s.dev.hlt.step = 2) ∧
  (∃ (s : State), s.dev.pwr.por = false ∧ s.dev.hlt.step = 3) ∧
  (∃ (s : State), s.dev.pwr.por = false ∧ s.dev.hlt.step = 4) ∧
  (∃ (s : State), s.dev.pwr.por = false ∧ s.dev.hlt.step = 5 ∧ s.dev.hlt.todo = []) ∧
  (∃ (s : State) (k : Nat), s.dev.pwr.por = false ∧ s.dev.hlt.step = k ∧ 7 ≤ k ∧ k ≤ 9 ∧ s.dev.hlt.todo = [] ∧ s.dev.fld Reg.HLT.CTRL_LEVEL_REQ ≠ 0) ∧
  (∃ (s : State), s.dev.pwr.por = false ∧ s.dev.hlt.step = 10) :=
  ⟨⟨⟨{ P with pwr.por := true }, []⟩, by decide +kernel⟩,
   ⟨⟨{ P with hlt.step := 2 }, []⟩, by decide +kernel⟩,
   ⟨⟨{ P with hlt.step := 3 }, []⟩, by decide +kernel⟩,
   ⟨⟨{ P with hlt.step := 4 }, []⟩, by decide +kernel⟩,
   ⟨⟨{ ({ P with hlt.step := 5 }) with hlt.todo := [] }, []⟩, by decide +kernel⟩,
   ⟨⟨({ ({ P with hlt.step := (7 : Nat) }) with hlt.todo := [] }).setFld Reg.HLT.CTRL_LEVEL_REQ 1, []⟩, (7 : Nat), by decide +kernel⟩,
   ⟨⟨{ P with hlt.step := 10 }, []⟩, by decide +kernel⟩⟩

theorem witness_StartUpAndResets_2 :
  (∃ (s : State), s.dev.pwr.por = false ∧ s.dev.hlt.step = 6 ∧ s.dev.hlt.todo = [] ∧ s.dev.domOn 1 = true ∧ s.dev.flag Reg.TIM0.STATUS_LOCK = true ∧ s.dev.fld Reg.HLT.CTRL_LEVEL_REQ ≠ 0) ∧
  (∃ (s : State), s.dev.serviceRun = none ∧ s.dev.pageOn .hlt = true ∧ s.dev.hlt.step = 6 ∧ s.dev.domOn 1 = true ∧ s.dev.flag Reg.TIM0.STATUS_LOCK = false ∧ s.dev.hlt.stallRaised = false) ∧
  (∃ (s : State) (data : W32), s.dev.pageOn .hlt = true ∧ ((s.dev.setFld Reg.HLT.CTRL_LEVEL_REQ data.toNat).storeReg Reg.HLT.CTRL).fld Reg.HLT.CTRL_LEVEL_REQ ≠ 0) ∧
  (∃ (s : State) (data : W32), s.dev.pageOn .hlt = true ∧ ((s.dev.setFld Reg.HLT.CTRL_LEVEL_REQ data.toNat).storeReg Reg.HLT.CTRL).fld Reg.HLT.CTRL_LEVEL_REQ = 0 ∧ ((s.dev.setFld Reg.HLT.CTRL_LEVEL_REQ data.toNat).storeReg Reg.HLT.CTRL).hlt.step = 0 ∧ ((s.dev.setFld Reg.HLT.CTRL_LEVEL_REQ data.toNat).storeReg Reg.HLT.CTRL).hlt.stopping = false ∧ ((s.dev.setFld Reg.HLT.CTRL_LEVEL_REQ data.toNat).storeReg Reg.HLT.CTRL).fld Reg.HLT.SERVICE_LEVEL_LEVEL ≠ 0) ∧
  (∃ (s : State), s.dev.pageOn .hlt = true) ∧
  (∃ (data : BitVec 32), data ≠ 0x5A5A0F0F#32) ∧
  (∃ (s : State), s.dev.pwr.por = false) :=
  ⟨⟨⟨(({ ({ P with hlt.step := 6 }) with hlt.todo := [] }).setFlag Reg.TIM0.STATUS_LOCK true).setFld Reg.HLT.CTRL_LEVEL_REQ 1, []⟩, by decide +kernel⟩,
   ⟨⟨{ (({ P with hlt.step := 6 }).setFlag Reg.TIM0.STATUS_LOCK false) with hlt.stallRaised := false }, []⟩, by decide +kernel⟩,
   ⟨⟨P, []⟩, (1#32 : W32), by decide +kernel⟩,
   ⟨⟨{ (P.setFld Reg.HLT.SERVICE_LEVEL_LEVEL 2) with hlt.step := 0 }, []⟩, (0 : W32), by decide +kernel⟩,
   ⟨⟨P, []⟩, by decide +kernel⟩,
   ⟨(0 : BitVec 32), by decide +kernel⟩,
   ⟨⟨P, []⟩, by decide +kernel⟩⟩

theorem witness_HealthAndStore_1 :
  (∃ (s : State), s.dev.pwr.por = false ∧ s.dev.failedClusters = s.dev.fld Reg.HLT.FAILED_CLUSTERS_COUNT) ∧
  (∃ (s : State), s.dev.pwr.por = false ∧ s.dev.failedClusters ≠ s.dev.fld Reg.HLT.FAILED_CLUSTERS_COUNT) ∧
  (∃ (s : State) (bits : W32), s.dev.pageOn .hlt = true ∧ s.dev.fld Reg.HLT.REPLACE_CAUSE &&& (bits.toNat % 64 &&& (63 ^^^ s.dev.fld Reg.HLT.REPLACE_NOW)) ≠ 0) ∧
  (∃ (s : State), s.dev.flag Reg.HLT.REPLACE_REQ = true) ∧
  (∃ (s : State), s.dev.pwr.por = false) ∧
  (∃ (s : State), s.dev.serviceRun = none ∧ s.dev.pwr.por = false ∧ s.dev.hlt.hourUpsets ≤ s.dev.fld Reg.HLT.UPSET_LIMIT_COUNT ∧ s.dev.hlt.hourUpsets ≤ 0xFFFFFFFF) ∧
  (∃ (s : State), s.dev.serviceRun = none ∧ s.dev.pwr.por = false ∧ s.dev.pageOn .hlt = true ∧ s.dev.fld Reg.HLT.UPSET_LIMIT_COUNT < min s.dev.hlt.hourUpsets 0xFFFFFFFF) ∧
  (∃ (s : State) (d : Device), s.dev.domOn 1 = false ∧ d = s.dev.presentLanes.foldl (fun (d : Device) l => d.loseLane l 5) { s.dev with tim := { s.dev.tim with refclk := false, freqLost := false } }) ∧
  (∃ (s : State) (d : Device), s.dev.domOn 1 = true ∧ s.dev.tim.freqLost = false ∧ d = s.dev.presentLanes.foldl (fun (d : Device) l => d.loseLane l 5) (Device.setFld { s.dev with tim := { s.dev.tim with refclk := false, freqLost := false } } Reg.TIM0.TREF_FREQ_KHZ 0)) :=
  ⟨⟨⟨(P.setFld Reg.THM.STATUS_BLIND 15).setFld Reg.HLT.FAILED_CLUSTERS_COUNT 32768, []⟩, by decide +kernel⟩,
   ⟨⟨P.setFld Reg.THM.STATUS_BLIND 15, []⟩, by decide +kernel⟩,
   ⟨⟨P.setFld Reg.HLT.REPLACE_CAUSE 1, []⟩, (1#32 : W32), by decide +kernel⟩,
   ⟨⟨P.setFlag Reg.HLT.REPLACE_REQ true, []⟩, by decide +kernel⟩,
   ⟨⟨P, []⟩, by decide +kernel⟩,
   ⟨⟨P, []⟩, by decide +kernel⟩,
   ⟨⟨{ (P.setFld Reg.HLT.UPSET_LIMIT_COUNT 0) with hlt.hourUpsets := 1 }, []⟩, by decide +kernel⟩,
   ⟨⟨P.setFlag (domOnBit 1) false, []⟩, _, by decide +kernel, rfl⟩,
   ⟨⟨{ P with tim.freqLost := false }, []⟩, _, by decide +kernel, by decide +kernel, rfl⟩⟩

theorem witness_HealthAndStore_2 :
  (∃ (s : State) (d : Device), s.dev.domOn 1 = true ∧ s.dev.tim.freqLost = true ∧ d = s.dev.presentLanes.foldl (fun (d : Device) l => d.loseLane l 5) ((Device.setFld { s.dev with tim := { s.dev.tim with refclk := false, freqLost := false } } Reg.TIM0.TREF_FREQ_KHZ 0).setFlag Reg.TIM0.STATUS_TREF_PRESENT true).evalLock) ∧
  (∃ (s : State), s.dev.serviceRun = none ∧ s.dev.pwr.por = false) ∧
  (∃ (s : State) (page : Page), s.dev.serviceRun = none ∧ s.dev.pageOn page = true) ∧
  (∃ (s : State) (w : StoreWrite), s.dev.nvs.prog = some w ∧ s.dev.pageOn .nvs = true ∧ s.dev.nvs.committed = false ∧ (s.dev.markCommitted.ownerDone w).authOf w = none) ∧
  (∃ (s : State) (w : StoreWrite) (a : AuthWork), s.dev.nvs.prog = some w ∧ s.dev.pageOn .nvs = true ∧ s.dev.nvs.committed = false ∧ (s.dev.markCommitted.ownerDone w).authOf w = some a) ∧
  (∃ (s : State) (w : StoreWrite), s.dev.nvs.prog = some w ∧ s.dev.pageOn .nvs = true ∧ s.dev.nvs.committed = true) ∧
  (∃ (s : State) (w : StoreWrite), s.dev.nvs.prog = some w ∧ s.dev.pageOn .nvs = true) ∧
  (∃ (s : State), s.dev.pageOn .nvs = true) :=
  ⟨⟨⟨{ P with tim.freqLost := true }, []⟩, _, by decide +kernel, by decide +kernel, rfl⟩,
   ⟨⟨P, []⟩, by decide +kernel⟩,
   ⟨⟨P, []⟩, .trg, by decide +kernel⟩,
   ⟨⟨{ ({ P with nvs.prog := some ({ page := 0, words := [], owner := .audit } : StoreWrite) }) with nvs.committed := false }, []⟩, ({ page := 0, words := [], owner := .audit } : StoreWrite), by decide +kernel⟩,
   ⟨⟨{ ({ ({ P with nvs.prog := some (({ page := 33, words := [(0, 0)], owner := .authCounter 0 } : StoreWrite)) }) with nvs.committed := false }) with sec.auth := [({ route := .testPort, slot := 0, ctr := 0, addr := 0, data := 0, tag := 0 } : AuthWork)] }, []⟩, ({ page := 33, words := [(0, 0)], owner := .authCounter 0 } : StoreWrite), ({ route := .testPort, slot := 0, ctr := 0, addr := 0, data := 0, tag := 0 } : AuthWork), by decide +kernel⟩,
   ⟨⟨{ P with nvs.prog := some ({ page := 0, words := [], owner := .audit } : StoreWrite), nvs.committed := true }, []⟩, ({ page := 0, words := [], owner := .audit } : StoreWrite), by decide +kernel⟩,
   ⟨⟨{ P with nvs.prog := some ({ page := 0, words := [], owner := .audit } : StoreWrite) }, []⟩, ({ page := 0, words := [], owner := .audit } : StoreWrite), by decide +kernel⟩,
   ⟨⟨P, []⟩, by decide +kernel⟩⟩

theorem witness_SensorsAndDiode :
  (∃ (s : State) (sensor : Sensor) (raw : BitVec 16), s.dev.hasSensor sensor.val = true ∧ s.dev.pwr.por = false ∧ s.dev.sensorLost sensor.val = false ∧ sensorInRange (s.dev.sensorTemp sensor.val raw) = true ∧ ((s.dev.sensorSt sensor.val).valid = true → ((s.dev.sensorTemp sensor.val raw) - (s.dev.sensorSt sensor.val).own).natAbs ≤ 16) ∧ s.dev.sensorTemp sensor.val raw < s.dev.quenchLimit) ∧
  (∃ (s : State) (sensor : Sensor) (raw : BitVec 16), s.dev.hasSensor sensor.val = true ∧ s.dev.pwr.por = false ∧ s.dev.sensorLost sensor.val = false ∧ sensorInRange (s.dev.sensorTemp sensor.val raw) = false ∧ s.dev.sensorTemp sensor.val raw < s.dev.quenchLimit) ∧
  (∃ (s : State) (sensor : Sensor) (raw : BitVec 16), s.dev.hasSensor sensor.val = true ∧ s.dev.pwr.por = false ∧ s.dev.sensorLost sensor.val = false ∧ sensorInRange (s.dev.sensorTemp sensor.val raw) = true ∧ ((s.dev.sensorSt sensor.val).valid = true → ((s.dev.sensorTemp sensor.val raw) - (s.dev.sensorSt sensor.val).own).natAbs ≤ 16) ∧ s.dev.quenchLimit ≤ s.dev.sensorTemp sensor.val raw ∧ (s.dev.sensorSt sensor.val).hot ≠ 0) ∧
  (∃ (s : State) (sensor : Sensor), s.dev.hasSensor sensor.val = true ∧ s.dev.pwr.por = false ∧ s.dev.sensorLost sensor.val = false) ∧
  (∃ (s : State) (sensor : Sensor) (t : Nat), (s.dev.sensorSt sensor.val).goodSince = some t ∧ (s.dev.sensorSt sensor.val).failed = true ∧ s.dev.sensorOff sensor.val = false) ∧
  (∃ (s : State) (sensor : Sensor) (word : Fin 3), s.dev.pageOn .thm = true ∧ s.dev.hasSensor sensor.val = true ∧ (s.dev.sensorSt sensor.val).failed = true ∧ s.dev.sensorOff sensor.val = false ∧ (s.dev.sensorSt sensor.val).valid = true ∧ sensorInRange (s.dev.sensorSt sensor.val).own = true ∧ word.val = sensor.val / 32) ∧
  (∃ (s : State) (low : Nat) (high : Nat), s.dev.serviceRun = none ∧ s.dev.pwr.por = false ∧ s.dev.groupLost 4 = true ∧ diodeTemp low high < s.dev.quenchLimit) :=
  ⟨⟨⟨P.setFld Reg.THM.QUENCH_QUENCH_C 115, []⟩, (0 : Sensor), (20000#16 : BitVec 16), by decide +kernel⟩,
   ⟨⟨P.setFld Reg.THM.QUENCH_QUENCH_C 115, []⟩, (0 : Sensor), (0#16 : BitVec 16), by decide +kernel⟩,
   ⟨⟨(P.setFld Reg.THM.QUENCH_QUENCH_C 115).updSensor 0 fun k => { k with hot := 1 }, []⟩, (0 : Sensor), (29000#16 : BitVec 16), by decide +kernel⟩,
   ⟨⟨P, []⟩, (0 : Sensor), by decide +kernel⟩,
   ⟨⟨(P.updSensor (0 : Sensor).val fun k => { k with goodSince := some (0 : Nat) }).updSensor (0 : Sensor).val fun k => { k with failed := true }, []⟩, (0 : Sensor), (0 : Nat), by decide +kernel⟩,
   ⟨⟨(P.updSensor (0 : Sensor).val fun k => { k with failed := true }).updSensor (0 : Sensor).val fun k => { k with valid := true }, []⟩, (0 : Sensor), (0 : Fin 3), by decide +kernel⟩,
   ⟨⟨(List.range 8).foldl (fun d i => d.updSensor (64 + i) fun k => { k with failed := true }) P, []⟩, (0 : Nat), (0 : Nat), by decide +kernel⟩⟩

theorem witness_ThrottlingAndRestart_1 :
  (∃ (s : State) (t : Int) (n : Nat) (d : Device) (duty : Nat), s.dev.pwr.por = false ∧ d = s.dev.applyCurve ∧ d.throttleTemp = some (t, n) ∧ d.fld Reg.THM.STATUS_DUTY ≤ duty ∧ d.curveNow.at t = duty) ∧
  (∃ (s : State) (t : Int) (n : Nat) (d : Device) (duty : Nat), s.dev.pwr.por = false ∧ d = s.dev.applyCurve ∧ d.throttleTemp = some (t, n) ∧ d.fld Reg.THM.STATUS_DUTY = duty ∧ d.curveNow.at t ≤ duty ∧ duty ≤ d.curveNow.at (t + d.curveNow.hyst)) ∧
  (∃ (s : State) (t : Int) (n : Nat) (d : Device) (duty : Nat), s.dev.pwr.por = false ∧ d = s.dev.applyCurve ∧ d.throttleTemp = some (t, n) ∧ duty < d.fld Reg.THM.STATUS_DUTY ∧ d.curveNow.at t < d.fld Reg.THM.STATUS_DUTY ∧ d.curveNow.at (t + d.curveNow.hyst) = duty ∧ d.flag Reg.THM.STATUS_HOLD = false) ∧
  (∃ (s : State) (t : Int) (n : Nat) (d : Device) (duty : Nat), s.dev.pwr.por = false ∧ d = s.dev.applyCurve ∧ d.throttleTemp = some (t, n) ∧ d.fld Reg.THM.STATUS_DUTY = duty ∧ d.curveNow.at t < duty ∧ d.curveNow.at (t + d.curveNow.hyst) < duty ∧ d.flag Reg.THM.STATUS_HOLD = true) ∧
  (∃ (s : State) (kind : PacedKind) (start : Nat) (stop : Nat), s.dev.thm.pauses.find? (fun p => p.1 == kind) = some (kind, start, stop)) ∧
  (∃ (s : State), s.dev.serviceRun = none ∧ s.dev.pageOn .thm = true ∧ curveImageOk (s.dev.stagedImage .curve) = false) :=
  ⟨⟨⟨({ P with thm.sensors := [(0, { valid := true, own := 840 })], thm.lastT := 840 }).setFld Reg.THM.STATUS_DUTY 0, []⟩, (840 : Int), (0 : Nat), _, (32768 : Nat), by decide +kernel, rfl, by decide +kernel, by decide +kernel, by decide +kernel⟩,
   ⟨⟨({ P with thm.sensors := [(0, { valid := true, own := 840 })], thm.lastT := 840 }).setFld Reg.THM.STATUS_DUTY 33000, []⟩, (840 : Int), (0 : Nat), _, (33000 : Nat), by decide +kernel, rfl, by decide +kernel, by decide +kernel, by decide +kernel, by decide +kernel⟩,
   ⟨⟨({ P with thm.sensors := [(0, { valid := true, own := 840 })], thm.lastT := 840 }).setFld Reg.THM.STATUS_DUTY 60000, []⟩, (840 : Int), (0 : Nat), _, _, by decide +kernel, rfl, by decide +kernel, by decide +kernel, by decide +kernel, rfl, by decide +kernel⟩,
   ⟨⟨(({ P with thm.sensors := [(0, { valid := true, own := 840 })], thm.lastT := 840 }).setFld Reg.THM.STATUS_DUTY 60000).setFlag Reg.THM.STATUS_HOLD true, []⟩, (840 : Int), (0 : Nat), _, (60000 : Nat), by decide +kernel, rfl, by decide +kernel, by decide +kernel, by decide +kernel, by decide +kernel, by decide +kernel⟩,
   ⟨⟨{ P with thm.pauses := [(.injection, 0, 0)] }, []⟩, .injection, (0 : Nat), (0 : Nat), by decide +kernel⟩,
   ⟨⟨P, []⟩, by decide +kernel⟩⟩

theorem witness_ThrottlingAndRestart_2 :
  (∃ (s : State), s.dev.serviceRun = none ∧ s.dev.pageOn .thm = true ∧ curveImageOk (s.dev.stagedImage .curve) = true) ∧
  (∃ (s : State) (c : Curve), s.dev.pageOn .thm = true ∧ s.dev.pageOn .nvs = true ∧ s.dev.flag Reg.THM.CURVE_CTRL_SAVE_BUSY = false ∧ s.dev.thm.curve = some c) ∧
  (∃ (s : State), s.dev.pageOn .thm = true ∧ s.dev.pageOn .nvs = true ∧ s.dev.flag Reg.THM.CURVE_CTRL_SAVE_BUSY = false ∧ s.dev.thm.curve = none) ∧
  (∃ (s : State), s.dev.pageOn .thm = true ∧ s.dev.thm.shutdown = false) ∧
  (∃ (s : State) (t : Nat), s.dev.thm.coolSince = some t ∧ s.dev.thm.shutdown = true) :=
  ⟨⟨⟨builtinImage.zipIdx.foldl (fun d x => d.setStaged .curve x.2 x.1) P, []⟩, by decide +kernel⟩,
   ⟨⟨{ (P.setFlag Reg.THM.CURVE_CTRL_SAVE_BUSY false) with thm.curve := some builtinCurve }, []⟩, builtinCurve, by decide +kernel⟩,
   ⟨⟨{ (P.setFlag Reg.THM.CURVE_CTRL_SAVE_BUSY false) with thm.curve := none }, []⟩, by decide +kernel⟩,
   ⟨⟨{ P with thm.shutdown := false }, []⟩, by decide +kernel⟩,
   ⟨⟨{ ({ P with thm.coolSince := some (0 : Nat) }) with thm.shutdown := true }, []⟩, (0 : Nat), by decide +kernel⟩⟩

theorem witness_SealCommands_1 :
  (∃ (s : State) (key : BitVec 256), s.dev.pageOn .sea0 = true ∧ s.dev.sealReason true = 0 ∧ s.dev.sealKey = some key) ∧
  (∃ (s : State) (reason : Nat), s.dev.pageOn .sea0 = true ∧ s.dev.sealReason true = reason ∧ reason ≠ 0) ∧
  (∃ (s : State), s.dev.pageOn .sea0 = true ∧ s.dev.enabled .sea0 = false) ∧
  (∃ (s : State), s.dev.pageOn .sea0 = true ∧ s.dev.sealReason false = 0) ∧
  (∃ (s : State), s.dev.serviceRun = none ∧ s.dev.pageOn .sea0 = true ∧ s.dev.enabled .sea0 = true ∧ s.dev.unsealed = false) ∧
  (∃ (s : State) (w : SealWork), s.dev.sea.work = some w ∧ w.kind = .seal ∧ w.phase = .done) :=
  ⟨⟨⟨{ (P.setFlag (fEnable .sea0) true) with sec.otp.keys := [(0, { programmed := true, usage := 1 })] }, []⟩, (0 : BitVec 256), by decide +kernel⟩,
   ⟨⟨P.setFlag (fEnable .sea0) false, []⟩, (4 : Nat), by decide +kernel⟩,
   ⟨⟨P.setFlag (fEnable .sea0) false, []⟩, by decide +kernel⟩,
   ⟨⟨P.setFlag (fEnable .sea0) true, []⟩, by decide +kernel⟩,
   ⟨⟨(P.setFlag (fEnable .sea0) true).setSealState 2, []⟩, by decide +kernel⟩,
   ⟨⟨{ P with sea.work := some ({ kind := .seal, phase := .done, frame := 0, ct := 0, counter := 0 } : SealWork) }, []⟩, ({ kind := .seal, phase := .done, frame := 0, ct := 0, counter := 0 } : SealWork), by decide +kernel⟩⟩

theorem witness_SealCommands_2 :
  (∃ (s : State) (w : SealWork), s.dev.sea.work = some w ∧ w.kind = .reseal ∧ w.phase = .done) ∧
  (∃ (s : State) (data : W32), s.dev.pageOn .sea0 = true ∧ s.dev.enabled .sea0 = true ∧ s.dev.fld Reg.SEA0.STATUS_STATE = 2 ∧ s.dev.sea.work = none ∧ s.dev.sea.window = false ∧ s.dev.flag Reg.SEA0.STATUS_STORE_BUSY = false ∧ data = s.dev.word Reg.SEA0.COUNTER) ∧
  (∃ (s : State) (data : W32), s.dev.pageOn .sea0 = true ∧ s.dev.enabled .sea0 = true ∧ s.dev.fld Reg.SEA0.STATUS_STATE = 2 ∧ s.dev.sea.work = none ∧ s.dev.sea.window = false ∧ s.dev.flag Reg.SEA0.STATUS_STORE_BUSY = false ∧ data ≠ s.dev.word Reg.SEA0.COUNTER) ∧
  (∃ (s : State) (w : SealWork), s.dev.sea.work = some w ∧ w.kind = .unseal ∧ w.phase = .done) ∧
  (∃ (s : State) (w : SealWork), s.dev.sea.work = some w ∧ w.kind = .erase ∧ w.phase = .done) ∧
  (∃ (s : State), s.dev.pageOn .sea1 = true ∧ s.dev.fld Reg.SEA1.TRIM_REFRESH_SECONDS ≠ 0) :=
  ⟨⟨⟨{ P with sea.work := some ({ kind := .reseal, phase := .done, frame := 0, ct := 0, counter := 0 } : SealWork) }, []⟩, ({ kind := .reseal, phase := .done, frame := 0, ct := 0, counter := 0 } : SealWork), by decide +kernel⟩,
   ⟨⟨({ ({ ((P.setFlag (fEnable .sea0) true).setFld Reg.SEA0.STATUS_STATE 2) with sea.work := none }) with sea.window := false }).setFlag Reg.SEA0.STATUS_STORE_BUSY false, []⟩, (0 : W32), by decide +kernel⟩,
   ⟨⟨({ ({ ((P.setFlag (fEnable .sea0) true).setFld Reg.SEA0.STATUS_STATE 2) with sea.work := none }) with sea.window := false }).setFlag Reg.SEA0.STATUS_STORE_BUSY false, []⟩, (1#32 : W32), by decide +kernel⟩,
   ⟨⟨{ P with sea.work := some ({ kind := .unseal, phase := .done, frame := 0, ct := 0, counter := 0 } : SealWork) }, []⟩, ({ kind := .unseal, phase := .done, frame := 0, ct := 0, counter := 0 } : SealWork), by decide +kernel⟩,
   ⟨⟨{ P with sea.work := some ({ kind := .erase, phase := .done, frame := 0, ct := 0, counter := 0 } : SealWork) }, []⟩, ({ kind := .erase, phase := .done, frame := 0, ct := 0, counter := 0 } : SealWork), by decide +kernel⟩,
   ⟨⟨P.setFld Reg.SEA1.TRIM_REFRESH_SECONDS 1, []⟩, by decide +kernel⟩⟩

theorem witness_KeysAndErasure :
  (∃ (s : State), s.dev.serviceRun = none ∧ s.dev.pageOn .sec = true ∧ s.dev.sec.keyProg = none ∧ s.dev.fld Reg.HLT.SERVICE_LEVEL_LEVEL ≠ 0) ∧
  (∃ (s : State), s.dev.pageOn .sec = true ∧ s.dev.sec.keyProg = none ∧ s.dev.fld Reg.HLT.SERVICE_LEVEL_LEVEL = 0 ∧ (s.dev.keySlot (s.dev.fld Reg.SEC.KEY_PROG_SLOT)).programmed = false ∧ s.dev.fld Reg.SEC.KEY_PROG_USAGE ≠ 0 ∧ s.dev.enabled .sec = true ∧ s.dev.flag Reg.SEC.SUMMARY_LOCKED = false ∧ s.dev.flag Reg.SEC.SUMMARY_ERASED = false) ∧
  (∃ (s : State) (k : Nat) (use : BitVec 3) (key : BitVec 256), s.dev.sec.keyProg = some (k, use, key)) ∧
  (∃ (s : State) (k : Nat) (use : BitVec 3) (key : BitVec 256), s.dev.serviceRun = none ∧ s.dev.sec.keyProg = some (k, use, key)) ∧
  (∃ (s : State), s.dev.pageOn .sec = true) ∧
  (∃ (s : State) (slot : Fin 4), s.dev.pageOn .sec = true ∧ (s.dev.keySlot slot.val).serves 2 = true ∧ s.dev.flag Reg.SEC.SUMMARY_LOCKED = false) ∧
  (∃ (s : State) (slot : Fin 4) (data : W32), s.dev.pageOn .sec = true ∧ (data ≠ 1 ∨ (s.dev.keySlot slot.val).serves 2 = false ∨ s.dev.flag Reg.SEC.SUMMARY_LOCKED = true)) ∧
  (∃ (s : State), s.dev.sec.erasing = true ∧ s.dev.sta.run = none ∧ s.dev.sea.work = none ∧ s.dev.domOn 2 = false) ∧
  (∃ (s : State), s.dev.sec.erasing = true ∧ s.dev.sta.run = none ∧ s.dev.sea.work = none ∧ s.dev.domOn 2 = true ∧ s.dev.fld Reg.SEA0.STATUS_STATE = 2) :=
  ⟨⟨⟨({ P with sec.keyProg := none }).setFld Reg.HLT.SERVICE_LEVEL_LEVEL 1, []⟩, by decide +kernel⟩,
   ⟨⟨((((({ P with sec.keyProg := none }).setFld Reg.HLT.SERVICE_LEVEL_LEVEL 0).setFld Reg.SEC.KEY_PROG_USAGE 1).setFlag (fEnable .sec) true).setFlag Reg.SEC.SUMMARY_LOCKED false).setFlag Reg.SEC.SUMMARY_ERASED false, []⟩, by decide +kernel⟩,
   ⟨⟨{ P with sec.keyProg := some ((0 : Nat), (0 : BitVec 3), (0 : BitVec 256)) }, []⟩, (0 : Nat), (0 : BitVec 3), (0 : BitVec 256), by decide +kernel⟩,
   ⟨⟨{ P with sec.keyProg := some ((0 : Nat), (0 : BitVec 3), (0 : BitVec 256)) }, []⟩, (0 : Nat), (0 : BitVec 3), (0 : BitVec 256), by decide +kernel⟩,
   ⟨⟨P, []⟩, by decide +kernel⟩,
   ⟨⟨{ (P.setFlag Reg.SEC.SUMMARY_LOCKED false) with sec.otp.keys := [(0, { programmed := true, usage := 4 })] }, []⟩, (0 : Fin 4), by decide +kernel⟩,
   ⟨⟨P, []⟩, (0 : Fin 4), (0 : W32), by decide +kernel⟩,
   ⟨⟨({ ({ ({ P with sec.erasing := true }) with sta.run := none }) with sea.work := none }).setFlag (domOnBit 2) false, []⟩, by decide +kernel⟩,
   ⟨⟨({ ({ ({ P with sec.erasing := true }) with sta.run := none }) with sea.work := none }).setFld Reg.SEA0.STATUS_STATE 2, []⟩, by decide +kernel⟩⟩

theorem witness_AuthenticatedWrites_1 :
  (∃ (s : State), s.dev.serviceRun = none ∧ s.dev.pageOn .sec = true ∧ s.dev.flag Reg.SEC.AW_CTRL_BUSY = false ∧ s.dev.enabled .sec = false) ∧
  (∃ (s : State) (route : Route), s.dev.pageOn .sec = true ∧ s.dev.flag Reg.SEC.AW_CTRL_BUSY = false ∧ s.dev.authCheck (.register route) s.dev.awBlock = some 4 ∧ (s.dev.sec.failures.filter fun t => s.dev.clock < t + Config.secondCt).length < 7) ∧
  (∃ (s : State) (route : Route), s.dev.pageOn .sec = true ∧ s.dev.flag Reg.SEC.AW_CTRL_BUSY = false ∧ s.dev.authCheck (.register route) s.dev.awBlock = none) ∧
  (∃ (s : State) (route : Route) (recent : List Nat), s.dev.pageOn .sec = true ∧ s.dev.flag Reg.SEC.AW_CTRL_BUSY = false ∧ s.dev.authCheck (.register route) s.dev.awBlock = some 4 ∧ recent = (s.dev.sec.failures.filter fun t => s.dev.clock < t + Config.secondCt) ∧ 7 ≤ recent.length) ∧
  (∃ (s : State) (t : Nat), s.dev.serviceRun = none ∧ s.dev.sec.lockout = some t) :=
  ⟨⟨⟨(P.setFlag Reg.SEC.AW_CTRL_BUSY false).setFlag (fEnable .sec) false, []⟩, by decide +kernel⟩,
   ⟨⟨P.setFlag Reg.SEC.AW_CTRL_BUSY false, []⟩, .pcie, by decide +kernel⟩,
   ⟨⟨authWords.zipIdx.foldl (fun d x => d.setWord (Reg.SEC.AW_BLOCK x.2) x.1) ({ (P.setFlag Reg.SEC.AW_CTRL_BUSY false) with sec.otp.keys := [(0, { programmed := true, usage := 2 })] }), []⟩, .pcie, by decide +kernel⟩,
   ⟨⟨{ P with sec.failures := List.replicate 7 0 }, []⟩, .pcie, (List.replicate 7 (0 : Nat)), by decide +kernel⟩,
   ⟨⟨{ P with sec.lockout := some (0 : Nat) }, []⟩, (0 : Nat), by decide +kernel⟩⟩

theorem witness_AuthenticatedWrites_2 :
  (∃ (s : State), s.dev.pageOn .sec = true ∧ s.dev.sec.portBusy = false ∧ s.dev.enabled .sec = false) ∧
  (∃ (s : State) (block : BitVec 256), s.dev.pageOn .sec = true ∧ s.dev.sec.portBusy = false ∧ s.dev.authCheck .testPort block = none) ∧
  (∃ (s : State), s.dev.sec.portBusy = true) ∧
  (∃ (s : State), s.dev.pageOn .sec = true ∧ s.dev.debugOpen = false) ∧
  (∃ (s : State), s.dev.debugOpen = true) :=
  ⟨⟨⟨({ P with sec.portBusy := false }).setFlag (fEnable .sec) false, []⟩, by decide +kernel⟩,
   ⟨⟨{ P with sec.otp.keys := [(0, { programmed := true, usage := 2 })] }, []⟩, 0x4000020000000000019da0be55d322c2a50a8e650534855470000#256, by decide +kernel⟩,
   ⟨⟨{ P with sec.portBusy := true }, []⟩, by decide +kernel⟩,
   ⟨⟨{ P with sec.otp.keys := [(0, { programmed := true })] }, []⟩, by decide +kernel⟩,
   ⟨⟨P, []⟩, by decide +kernel⟩⟩

theorem witness_AuditTrailAndHealthLog :
  (∃ (s : State) (e : LogEntry), s.dev.sec.audit.entry = some e ∧ s.dev.sec.audit.lost = 0 ∧ s.dev.sec.audit.queue.length < 16) ∧
  (∃ (s : State) (e : LogEntry), s.dev.sec.audit.entry = some e ∧ 16 ≤ s.dev.sec.audit.queue.length) ∧
  (∃ (s : State) (q : LogQ) (n : Nat), s.dev.sec.audit.close s.dev.auditLostEntry = (q, n) ∧ n ≠ 0) ∧
  (∃ (s : State) (e : LogEntry) (rest : List LogEntry), s.dev.sec.audit.queue = e :: rest ∧ s.dev.sec.audit.writing = false ∧ s.dev.pageOn .nvs = true ∧ s.dev.sec.audit.last = none) ∧
  (∃ (s : State) (e : LogEntry) (rest : List LogEntry) (t : Nat), s.dev.sec.audit.queue = e :: rest ∧ s.dev.sec.audit.writing = false ∧ s.dev.pageOn .nvs = true ∧ s.dev.sec.audit.last = some t) ∧
  (∃ (s : State) (e : LogEntry), s.dev.hlt.log.entry = some e ∧ s.dev.hlt.log.lost = 0 ∧ s.dev.hlt.log.queue.length < 16) ∧
  (∃ (s : State) (e : LogEntry) (rest : List LogEntry), s.dev.hlt.log.queue = e :: rest ∧ s.dev.hlt.log.writing = false ∧ s.dev.pageOn .nvs = true ∧ s.dev.hlt.log.last = none) ∧
  (∃ (s : State) (e : LogEntry) (rest : List LogEntry) (t : Nat), s.dev.hlt.log.queue = e :: rest ∧ s.dev.hlt.log.writing = false ∧ s.dev.pageOn .nvs = true ∧ s.dev.hlt.log.last = some t) :=
  ⟨⟨⟨{ ({ P with sec.audit.entry := some ({ kind := 0, merge := 0, word0 := 0, word1 := 0, word2 := 0, word3 := 0, count := 0 } : LogEntry) }) with sec.audit.lost := 0 }, []⟩, ({ kind := 0, merge := 0, word0 := 0, word1 := 0, word2 := 0, word3 := 0, count := 0 } : LogEntry), by decide +kernel⟩,
   ⟨⟨{ ({ P with sec.audit.entry := some ({ kind := 0, merge := 0, word0 := 0, word1 := 0, word2 := 0, word3 := 0, count := 0 } : LogEntry) }) with sec.audit.queue := List.replicate 16 ({ kind := 0, merge := 0, word0 := 0, word1 := 0, word2 := 0, word3 := 0, count := 0 } : LogEntry) }, []⟩, ({ kind := 0, merge := 0, word0 := 0, word1 := 0, word2 := 0, word3 := 0, count := 0 } : LogEntry), by decide +kernel⟩,
   ⟨⟨{ P with sec.audit.entry := some { kind := 0, merge := 0, word0 := 0, word1 := 0, word2 := 0, word3 := 0, count := 2 }, sec.audit.queue := List.replicate 16 { kind := 0, merge := 0, word0 := 0, word1 := 0, word2 := 0, word3 := 0, count := 2 } }, []⟩, _, _, rfl, by decide +kernel⟩,
   ⟨⟨{ ({ ({ P with sec.audit.queue := ({ kind := 0, merge := 0, word0 := 0, word1 := 0, word2 := 0, word3 := 0, count := 0 } : LogEntry) :: ([]) }) with sec.audit.writing := false }) with sec.audit.last := none }, []⟩, ({ kind := 0, merge := 0, word0 := 0, word1 := 0, word2 := 0, word3 := 0, count := 0 } : LogEntry), [], by decide +kernel⟩,
   ⟨⟨{ ({ ({ P with sec.audit.queue := ({ kind := 0, merge := 0, word0 := 0, word1 := 0, word2 := 0, word3 := 0, count := 0 } : LogEntry) :: ([]) }) with sec.audit.writing := false }) with sec.audit.last := some (0 : Nat) }, []⟩, ({ kind := 0, merge := 0, word0 := 0, word1 := 0, word2 := 0, word3 := 0, count := 0 } : LogEntry), [], (0 : Nat), by decide +kernel⟩,
   ⟨⟨{ ({ P with hlt.log.entry := some ({ kind := 0, merge := 0, word0 := 0, word1 := 0, word2 := 0, word3 := 0, count := 0 } : LogEntry) }) with hlt.log.lost := 0 }, []⟩, ({ kind := 0, merge := 0, word0 := 0, word1 := 0, word2 := 0, word3 := 0, count := 0 } : LogEntry), by decide +kernel⟩,
   ⟨⟨{ ({ ({ P with hlt.log.queue := ({ kind := 0, merge := 0, word0 := 0, word1 := 0, word2 := 0, word3 := 0, count := 0 } : LogEntry) :: ([]) }) with hlt.log.writing := false }) with hlt.log.last := none }, []⟩, ({ kind := 0, merge := 0, word0 := 0, word1 := 0, word2 := 0, word3 := 0, count := 0 } : LogEntry), [], by decide +kernel⟩,
   ⟨⟨{ ({ ({ P with hlt.log.queue := ({ kind := 0, merge := 0, word0 := 0, word1 := 0, word2 := 0, word3 := 0, count := 0 } : LogEntry) :: ([]) }) with hlt.log.writing := false }) with hlt.log.last := some (0 : Nat) }, []⟩, ({ kind := 0, merge := 0, word0 := 0, word1 := 0, word2 := 0, word3 := 0, count := 0 } : LogEntry), [], (0 : Nat), by decide +kernel⟩⟩

theorem witness_StatisticsEngine_1 :
  (∃ (s : State), s.dev.staClaimed = false ∧ s.dev.enabled .sta0 = true) ∧
  (∃ (s : State), s.dev.pageOn .sta0 = true ∧ s.dev.staClaimed = false ∧ s.dev.enabled .sta0 = false) ∧
  (∃ (s : State), s.dev.staClaimed = false ∧ s.dev.serviceRun = none ∧ s.dev.pageOn .sta0 = true ∧ s.dev.fld Reg.STA0.STATUS_STATE = 1) ∧
  (∃ (s : State), s.dev.staClaimed = false ∧ s.dev.pageOn .sta0 = true ∧ s.dev.fld Reg.STA0.STATUS_STATE = 1) ∧
  (∃ (s : State), s.dev.pageOn .sta0 = true ∧ s.dev.staClaimed = false ∧ s.dev.fld Reg.STA0.STATUS_STATE ≠ 1) ∧
  (∃ (s : State) (v : ServiceRun), s.dev.pageOn .sta0 = true ∧ s.dev.serviceRun = some v ∧ (v.svc ≠ .bumpScan ∨ v.params.getLsbD 42 = true)) :=
  ⟨⟨⟨P.setFlag (fEnable .sta0) true, []⟩, by decide +kernel⟩,
   ⟨⟨P.setFlag (fEnable .sta0) false, []⟩, by decide +kernel⟩,
   ⟨⟨P.setFld Reg.STA0.STATUS_STATE 1, []⟩, by decide +kernel⟩,
   ⟨⟨P.setFld Reg.STA0.STATUS_STATE 1, []⟩, by decide +kernel⟩,
   ⟨⟨P, []⟩, by decide +kernel⟩,
   ⟨⟨{ P with sta.run := some ({ seq := 0, cause := 0, table := [], phase := .service ({ svc := .delayLine, dies := [0], todo := [0], commit := false, params := 0, ctx := 0 } : ServiceRun) } : SeqRun) }, []⟩, ({ svc := .delayLine, dies := [0], todo := [0], commit := false, params := 0, ctx := 0 } : ServiceRun), by decide +kernel⟩⟩

theorem witness_StatisticsEngine_2 :
  (∃ (s : State), s.dev.pageOn .sta0 = true ∧ s.dev.fld Reg.STA0.STATUS_STATE = 1 ∧ s.dev.flag Reg.STA0.CFG_HIST = false ∧ s.dev.boundCells ≤ s.dev.fld Reg.STA0.STATUS_AT_N) ∧
  (∃ (s : State), s.dev.pageOn .sta0 = true ∧ s.dev.fld Reg.STA0.STATUS_STATE = 1 ∧ s.dev.flag Reg.STA0.CFG_HIST = true ∧ (∀ j, j < 8192 → s.dev.fld Reg.STA0.BASE_INDEX + j < s.dev.staUnits 1 → s.dev.staN ≤ s.dev.binSum j)) ∧
  (∃ (s : State), s.dev.flag Reg.STA0.CFG_HIST = false ∧ s.dev.fld Reg.STA0.STATUS_AT_N < s.dev.boundCells) ∧
  (∃ (s : State) (j : Nat), s.dev.flag Reg.STA0.CFG_HIST = true ∧ j < 8192 ∧ s.dev.fld Reg.STA0.BASE_INDEX + j < s.dev.staUnits 1 ∧ s.dev.binSum j < s.dev.staN) ∧
  (∃ (s : State), s.dev.pageOn .sta0 = true ∧ s.dev.staClaimed = false ∧ s.dev.fld Reg.STA0.STATUS_STATE = 1 ∧ 5 ≤ s.dev.fld Reg.STA0.CFG_SOURCE ∧ s.dev.flag Reg.STA0.CFG_HIST = false) ∧
  (∃ (s : State), s.dev.pageOn .sta0 = true ∧ s.dev.staClaimed = false ∧ (s.dev.fld Reg.STA0.CFG_SOURCE < 5 ∨ s.dev.flag Reg.STA0.CFG_HIST = true ∨ s.dev.fld Reg.STA0.STATUS_STATE ≠ 1)) :=
  ⟨⟨⟨((P.setFld Reg.STA0.STATUS_STATE 1).setFlag Reg.STA0.CFG_HIST false).setFld Reg.STA0.STATUS_AT_N 4096, []⟩, by decide +kernel⟩,
   ⟨⟨((P.setFld Reg.STA0.STATUS_STATE 1).setFlag Reg.STA0.CFG_HIST true).setFld Reg.STA0.BASE_INDEX 50000, []⟩, ⟨by decide +kernel, by decide +kernel, by decide +kernel, fun j _ h => absurd (Nat.lt_of_le_of_lt (Nat.le_add_right _ j) h) (by decide +kernel)⟩⟩,
   ⟨⟨P.setFlag Reg.STA0.CFG_HIST false, []⟩, by decide +kernel⟩,
   ⟨⟨P.setFlag Reg.STA0.CFG_HIST true, []⟩, (0 : Nat), by decide +kernel⟩,
   ⟨⟨((P.setFld Reg.STA0.STATUS_STATE 1).setFlag Reg.STA0.CFG_HIST false).setFld Reg.STA0.CFG_SOURCE 5, []⟩, by decide +kernel⟩,
   ⟨⟨P, []⟩, by decide +kernel⟩⟩

theorem witness_MomentCells_1 :
  (∃ (d : Device), d.valuesWaiting < 1024) ∧
  (∃ (d : Device), 1024 ≤ d.valuesWaiting) ∧
  (∃ (d : Device) (n : Nat) (c : Nat), n ≤ (d.cell c).n) ∧
  (∃ (d : Device) (n : Nat) (c : Nat), (d.cell c).n < n ∧ (d.cell c).n ≠ 0) ∧
  (∃ (d : Device) (n : Nat) (c : Nat), (d.cell c).n < n ∧ (d.cell c).n = 0) ∧
  (∃ (d : Device) (n : Nat) (c : Nat), (d.cell c).n < n) ∧
  (∃ (c : Nat) (k : Nat), c ≠ k) ∧
  (∃ (d : Device) (c : Nat), d.valuesWaiting < 1024 ∧ d.staN ≤ (d.cell c).n) :=
  ⟨⟨P, by decide +kernel⟩,
   ⟨{ P with sta.backlog := 1024 }, by decide +kernel⟩,
   ⟨{ P with sta.cells := [(0, ⟨1, 0, 0, 0, 0⟩)] }, (0 : Nat), (0 : Nat), by decide +kernel⟩,
   ⟨{ P with sta.cells := [(0, ⟨1, 0, 0, 0, 0⟩)] }, (2 : Nat), (0 : Nat), by decide +kernel⟩,
   ⟨P, (1 : Nat), (0 : Nat), by decide +kernel⟩,
   ⟨P, (1 : Nat), (0 : Nat), by decide +kernel⟩,
   ⟨(0 : Nat), (1 : Nat), by decide +kernel⟩,
   ⟨{ P with sta.cells := [(0, ⟨65535, 0, 0, 0, 0⟩)] }, (0 : Nat), by decide +kernel⟩⟩

theorem witness_MomentCells_2 :
  (∃ (d : Device) (c : Nat), d.valuesWaiting < 1024 ∧ (d.cell c).n + 1 < d.staN) ∧
  (∃ (d : Device) (c : Nat), d.valuesWaiting < 1024 ∧ (d.cell c).n + 1 = d.staN) ∧
  (∃ (c : Cell), c.n = 0) ∧
  (∃ (c : Cell), c.n = 1) ∧
  (∃ (d : Device) (j : Nat) (n : Nat), d.valuesWaiting < 1024 ∧ n ≤ d.binSum j) ∧
  (∃ (d : Device) (die : Nat) (h : RawHit), (d.pixel (die * 131072 + h.row.toNat * 512 + h.col.toNat)).entry.getLsbD 6 = false) ∧
  (∃ (d : Device) (v : ServiceRun) (die : Nat) (h : RawHit), (d.pixel (die * 131072 + h.row.toNat * 512 + h.col.toNat)).entry.getLsbD 6 = true ∧ v.stage = .codes ∧ v.todo.head? = some die ∧ h.granted = true ∧ h.contested = false) ∧
  (∃ (d : Device) (v : ServiceRun) (die : Nat) (h : RawHit) (group : Nat) (round : Nat) (t : Nat), (d.pixel (die * 131072 + h.row.toNat * 512 + h.col.toNat)).entry.getLsbD 6 = true ∧ v.stage = .trims group round ∧ die ∈ v.dies ∧ d.lastPulse die = some t ∧ t ≤ d.fullCount h.c1 ∧ d.fullCount h.c1 < t + 256) :=
  ⟨⟨P, (0 : Nat), by decide +kernel⟩,
   ⟨{ P with sta.cells := [(0, ⟨65534, 0, 0, 0, 0⟩)] }, (0 : Nat), by decide +kernel⟩,
   ⟨{}, by decide +kernel⟩,
   ⟨({ n := 1 } : Cell), by decide +kernel⟩,
   ⟨P, (0 : Nat), (0 : Nat), by decide +kernel⟩,
   ⟨P, (0 : Nat), RawHit.blank, by decide +kernel⟩,
   ⟨P.updPixel 0 fun k => { k with entry := 0x40 }, ({ svc := .delayLine, dies := [0], todo := [0], commit := false, params := 0, ctx := 0, stage := .codes } : ServiceRun), (0 : Nat), { RawHit.blank with granted := true }, by decide +kernel⟩,
   ⟨{ (P.updPixel 0 fun k => { k with entry := 0x40 }) with arr.inj := [(0, { pulse := some 0 })] }, ({ svc := .threshold, dies := [0], todo := [0], commit := false, params := 0, ctx := 0, stage := .trims 0 0 } : ServiceRun), (0 : Nat), RawHit.blank, (0 : Nat), (0 : Nat), (0 : Nat), by decide +kernel⟩⟩

theorem witness_ServiceStartsAndTable :
  (∃ (s : State) (data : W32), s.dev.pageOn .sta1 = true ∧ data.getLsbD 8 = true) ∧
  (∃ (s : State) (data : W32), s.dev.serviceRun = none ∧ s.dev.pageOn .sta1 = true ∧ data.getLsbD 8 = false) ∧
  (∃ (d : Device) (n : Nat), d.pageOn .sta1 = true ∧ (d.seqDesc n).getLsbD 63 = false) ∧
  (∃ (s : State), s.dev.pageOn .sta1 = true ∧ (∀ n, n < 4 → s.dev.flag (Reg.STA1.CAL_TEMP_VALID n) = false)) ∧
  (∃ (s : State), s.dev.pageOn .sta1 = true) ∧
  (∃ (s : State) (seq : Fin 16) (t : Nat), s.dev.sta.s1Since = some t ∧ s.dev.pageOn .sta1 = true ∧ seqKind (s.dev.seqDesc seq.val) = 3) ∧
  (∃ (s : State), s.dev.serviceRun = none ∧ s.dev.pageOn .sta1 = true ∧ s.dev.seqImageOk = false) ∧
  (∃ (s : State), s.dev.pageOn .sta1 = true ∧ s.dev.seqImageOk = true) ∧
  (∃ (d : Device), (∀ n, n < 16 → (d.word Reg.STA1.SVC_PENDING).getLsbD n = true → (d.seqDesc n).getLsbD 63 = false)) :=
  ⟨⟨⟨P, []⟩, 0x100#32, by decide +kernel⟩,
   ⟨⟨P, []⟩, (0 : W32), by decide +kernel⟩,
   ⟨{ P with sta.table := [(1, 0)] }, (0 : Nat), by decide +kernel⟩,
   ⟨⟨P, []⟩, by decide +kernel⟩,
   ⟨⟨P, []⟩, by decide +kernel⟩,
   ⟨⟨{ ({ P with sta.s1Since := some (0 : Nat) }) with sta.table := [(1, 0x3000000000000000#64)] }, []⟩, (0 : Fin 16), (0 : Nat), by decide +kernel⟩,
   ⟨⟨P, []⟩, by decide +kernel⟩,
   ⟨⟨P.setStaged .sequence 0 0x53511001773333e6#64, []⟩, by decide +kernel⟩,
   ⟨P, by decide +kernel⟩⟩

theorem witness_SequenceSteps_1 :
  (∃ (s : State) (r : SeqRun), s.dev.sta.run = some r ∧ s.dev.pageOn .sta1 = true ∧ r.phase = .ready ∧ ((s.dev.seqStep r).extractLsb' 60 4).toNat = 0) ∧
  (∃ (s : State) (r : SeqRun), s.dev.sta.run = some r ∧ s.dev.pageOn .sta1 = true ∧ r.phase = .ready ∧ ((s.dev.seqStep r).extractLsb' 60 4).toNat = 2) ∧
  (∃ (s : State) (r : SeqRun) (t : Nat), s.dev.sta.run = some r ∧ r.phase = .wait t) ∧
  (∃ (s : State) (r : SeqRun), s.dev.sta.run = some r ∧ s.dev.pageOn .sta1 = true ∧ r.phase = .ready ∧ ((s.dev.seqStep r).extractLsb' 60 4).toNat = 6 ∧ ((s.dev.seqStep r).getLsbD 59 = false ∨ r.lastWarn = true)) ∧
  (∃ (s : State) (r : SeqRun), s.dev.sta.run = some r ∧ s.dev.pageOn .sta1 = true ∧ r.phase = .ready ∧ ((s.dev.seqStep r).extractLsb' 60 4).toNat = 6 ∧ (s.dev.seqStep r).getLsbD 59 = true ∧ r.lastWarn = false) ∧
  (∃ (s : State) (r : SeqRun), s.dev.sta.run = some r ∧ s.dev.pageOn .sta1 = true ∧ r.phase = .ready ∧ ((s.dev.seqStep r).extractLsb' 60 4).toNat = 7) ∧
  (∃ (s : State) (r : SeqRun) (svc : Service), s.dev.sta.run = some r ∧ s.dev.pageOn .sta1 = true ∧ r.phase = .ready ∧ ((s.dev.seqStep r).extractLsb' 60 4).toNat = 4 ∧ stepService (s.dev.seqStep r) = some svc ∧ s.dev.serviceCond (s.dev.stepDies r (s.dev.seqStep r)) = false) ∧
  (∃ (s : State) (r : SeqRun) (svc : Service), s.dev.sta.run = some r ∧ s.dev.pageOn .sta1 = true ∧ r.phase = .ready ∧ ((s.dev.seqStep r).extractLsb' 60 4).toNat = 4 ∧ stepService (s.dev.seqStep r) = some svc ∧ s.dev.serviceCond (s.dev.stepDies r (s.dev.seqStep r)) = true ∧ s.dev.sealSays svc ((s.dev.seqStep r).getLsbD 51) = 2) :=
  ⟨⟨⟨{ P with sta.run := some (({ seq := 0, cause := 0, lastWarn := false, table := [(17, 0x0#64)], phase := .ready } : SeqRun)) }, []⟩, ({ seq := 0, cause := 0, lastWarn := false, table := [(17, 0x0#64)], phase := .ready } : SeqRun), by decide +kernel⟩,
   ⟨⟨{ P with sta.run := some (({ seq := 0, cause := 0, lastWarn := false, table := [(17, 0x2000000000000000#64)], phase := .ready } : SeqRun)) }, []⟩, ({ seq := 0, cause := 0, lastWarn := false, table := [(17, 0x2000000000000000#64)], phase := .ready } : SeqRun), by decide +kernel⟩,
   ⟨⟨{ P with sta.run := some (({ seq := 0, cause := 0, lastWarn := false, table := [(17, 0x0#64)], phase := .wait 0 } : SeqRun)) }, []⟩, ({ seq := 0, cause := 0, lastWarn := false, table := [(17, 0x0#64)], phase := .wait 0 } : SeqRun), (0 : Nat), by decide +kernel⟩,
   ⟨⟨{ P with sta.run := some (({ seq := 0, cause := 0, lastWarn := false, table := [(17, 0x6000000000000000#64)], phase := .ready } : SeqRun)) }, []⟩, ({ seq := 0, cause := 0, lastWarn := false, table := [(17, 0x6000000000000000#64)], phase := .ready } : SeqRun), by decide +kernel⟩,
   ⟨⟨{ P with sta.run := some (({ seq := 0, cause := 0, lastWarn := false, table := [(17, 0x6800000000000000#64)], phase := .ready } : SeqRun)) }, []⟩, ({ seq := 0, cause := 0, lastWarn := false, table := [(17, 0x6800000000000000#64)], phase := .ready } : SeqRun), by decide +kernel⟩,
   ⟨⟨{ P with sta.run := some (({ seq := 0, cause := 0, lastWarn := false, table := [(17, 0x7000000000000000#64)], phase := .ready } : SeqRun)) }, []⟩, ({ seq := 0, cause := 0, lastWarn := false, table := [(17, 0x7000000000000000#64)], phase := .ready } : SeqRun), by decide +kernel⟩,
   ⟨⟨{ P with sta.run := some (({ seq := 0, cause := 0, lastWarn := false, table := [(17, 0x4000000000000000#64)], phase := .ready } : SeqRun)) }, []⟩, ({ seq := 0, cause := 0, lastWarn := false, table := [(17, 0x4000000000000000#64)], phase := .ready } : SeqRun), .delayLine, by decide +kernel⟩,
   ⟨⟨(((({ P with sta.run := some (({ seq := 0, cause := 0, lastWarn := false, table := [(17, 0x4100000000000000#64)], phase := .ready } : SeqRun)) }).setFld Reg.HLT.SERVICE_LEVEL_LEVEL 2).setFlag Reg.TIM0.STATUS_LOCK true).setFld ⟨Reg.TIM0.STATUS, 8, 4⟩ 15).setSealState 2, []⟩, ({ seq := 0, cause := 0, lastWarn := false, table := [(17, 0x4100000000000000#64)], phase := .ready } : SeqRun), .threshold, by decide +kernel⟩⟩

theorem witness_SequenceSteps_2 :
  (∃ (s : State) (r : SeqRun) (svc : Service), s.dev.sta.run = some r ∧ s.dev.pageOn .sta1 = true ∧ r.phase = .ready ∧ ((s.dev.seqStep r).extractLsb' 60 4).toNat = 4 ∧ stepService (s.dev.seqStep r) = some svc ∧ s.dev.serviceCond (s.dev.stepDies r (s.dev.seqStep r)) = true ∧ s.dev.sealSays svc ((s.dev.seqStep r).getLsbD 51) ≠ 2) ∧
  (∃ (s : State) (r : SeqRun), s.dev.sta.run = some r ∧ s.dev.pageOn .sta1 = true ∧ r.phase = .ready ∧ ((s.dev.seqStep r).extractLsb' 60 4).toNat = 4 ∧ stepService (s.dev.seqStep r) = none) ∧
  (∃ (d : Device), d.unsealed = true) ∧
  (∃ (d : Device), d.unsealed = false) ∧
  (∃ (s : State) (r : SeqRun) (t : Nat), s.dev.sta.run = some r ∧ r.phase = .claim t) ∧
  (∃ (s : State) (r : SeqRun) (t : Nat) (c : Nat), s.dev.sta.run = some r ∧ r.phase = .claim t ∧ ((s.dev.seqStep r).extractLsb' 60 4).toNat = 5 ∧ s.dev.freeCore = some c) ∧
  (∃ (s : State) (r : SeqRun) (t : Nat), s.dev.sta.run = some r ∧ r.phase = .claim t ∧ ((s.dev.seqStep r).extractLsb' 60 4).toNat = 5 ∧ s.dev.freeCore = none) ∧
  (∃ (s : State) (r : SeqRun) (t : Nat) (svc : Service), s.dev.sta.run = some r ∧ r.phase = .claim t ∧ ((s.dev.seqStep r).extractLsb' 60 4).toNat = 4 ∧ stepService (s.dev.seqStep r) = some svc) :=
  ⟨⟨⟨((({ P with sta.run := some (({ seq := 0, cause := 0, lastWarn := false, table := [(17, 0x4000000000000000#64)], phase := .ready } : SeqRun)) }).setFld Reg.HLT.SERVICE_LEVEL_LEVEL 2).setFlag Reg.TIM0.STATUS_LOCK true).setFld ⟨Reg.TIM0.STATUS, 8, 4⟩ 15, []⟩, ({ seq := 0, cause := 0, lastWarn := false, table := [(17, 0x4000000000000000#64)], phase := .ready } : SeqRun), .delayLine, by decide +kernel⟩,
   ⟨⟨{ P with sta.run := some (({ seq := 0, cause := 0, lastWarn := false, table := [(17, 0x4500000000000000#64)], phase := .ready } : SeqRun)) }, []⟩, ({ seq := 0, cause := 0, lastWarn := false, table := [(17, 0x4500000000000000#64)], phase := .ready } : SeqRun), by decide +kernel⟩,
   ⟨P, by decide +kernel⟩,
   ⟨P.setSealState 2, by decide +kernel⟩,
   ⟨⟨{ P with sta.run := some (({ seq := 0, cause := 0, lastWarn := false, table := [(17, 0x0#64)], phase := .claim 0 } : SeqRun)) }, []⟩, ({ seq := 0, cause := 0, lastWarn := false, table := [(17, 0x0#64)], phase := .claim 0 } : SeqRun), (0 : Nat), by decide +kernel⟩,
   ⟨⟨{ (({ P with sta.run := some (({ seq := 0, cause := 0, lastWarn := false, table := [(17, 0x5000000000000000#64)], phase := .claim 0 } : SeqRun)) }).setFlag (fEnable (.dsp 0)) true) with tim.dspClock := true }, []⟩, ({ seq := 0, cause := 0, lastWarn := false, table := [(17, 0x5000000000000000#64)], phase := .claim 0 } : SeqRun), (0 : Nat), (0 : Nat), by decide +kernel⟩,
   ⟨⟨{ P with sta.run := some (({ seq := 0, cause := 0, lastWarn := false, table := [(17, 0x5000000000000000#64)], phase := .claim 0 } : SeqRun)) }, []⟩, ({ seq := 0, cause := 0, lastWarn := false, table := [(17, 0x5000000000000000#64)], phase := .claim 0 } : SeqRun), (0 : Nat), by decide +kernel⟩,
   ⟨⟨{ P with sta.run := some (({ seq := 0, cause := 0, lastWarn := false, table := [(17, 0x4000000000000000#64)], phase := .claim 0 } : SeqRun)) }, []⟩, ({ seq := 0, cause := 0, lastWarn := false, table := [(17, 0x4000000000000000#64)], phase := .claim 0 } : SeqRun), (0 : Nat), .delayLine, by decide +kernel⟩⟩

theorem witness_BuiltInServices_1 :
  (∃ (s : State) (r : SeqRun) (v : ServiceRun) (n : Nat) (rest : List Nat), s.dev.sta.run = some r ∧ r.phase = .service v ∧ v.svc = .delayLine ∧ v.todo = n :: rest ∧ v.stage = .codes ∧ (s.dev.flag (Reg.PIX.INJ_CTRL_BUSY n) = false ∨ (∀ j, j < 8192 → calHits v.params ≤ s.dev.binSum j))) ∧
  (∃ (s : State) (r : SeqRun) (v : ServiceRun) (n : Nat) (rest : List Nat), s.dev.sta.run = some r ∧ r.phase = .service v ∧ v.svc = .delayLine ∧ v.todo = n :: rest ∧ v.stage = .offsets 0 ∧ s.dev.flag (Reg.PIX.INJ_CTRL_BUSY n) = false) ∧
  (∃ (s : State) (r : SeqRun) (v : ServiceRun) (n : Nat) (rest : List Nat), s.dev.sta.run = some r ∧ r.phase = .service v ∧ v.svc = .delayLine ∧ v.todo = n :: rest ∧ v.stage = .offsets 1 ∧ s.dev.flag (Reg.PIX.INJ_CTRL_BUSY n) = false) ∧
  (∃ (s : State) (r : SeqRun) (v : ServiceRun) (n : Nat) (rest : List Nat), s.dev.sta.run = some r ∧ r.phase = .service v ∧ v.svc = .delayLine ∧ v.todo = n :: rest ∧ s.dev.dieMeasured n v = false) ∧
  (∃ (s : State) (r : SeqRun) (v : ServiceRun) (group : Nat) (round : Nat), s.dev.sta.run = some r ∧ r.phase = .service v ∧ v.svc = .threshold ∧ v.stage = .trims group round ∧ (∀ n ∈ v.dies, s.dev.flag (Reg.PIX.INJ_CTRL_BUSY n) = false)) ∧
  (∃ (s : State) (r : SeqRun) (v : ServiceRun) (n : Nat), s.dev.sta.run = some r ∧ r.phase = .service v ∧ v.svc = .threshold ∧ n ∈ v.dies ∧ s.dev.flag (Reg.PIX.INJ_CTRL_BUSY n) = true) :=
  ⟨⟨⟨{ P with sta.run := some (({ seq := 0, cause := 0, table := [], phase := .service ({ svc := .delayLine, dies := [0], todo := [0], commit := false, params := 0, ctx := 0, stage := .codes } : ServiceRun) } : SeqRun)) }, []⟩, ({ seq := 0, cause := 0, table := [], phase := .service ({ svc := .delayLine, dies := [0], todo := [0], commit := false, params := 0, ctx := 0, stage := .codes } : ServiceRun) } : SeqRun), ({ svc := .delayLine, dies := [0], todo := [0], commit := false, params := 0, ctx := 0, stage := .codes } : ServiceRun), (0 : Nat), [], by decide +kernel⟩,
   ⟨⟨({ P with sta.run := some (({ seq := 0, cause := 0, table := [], phase := .service ({ svc := .delayLine, dies := [0], todo := [0], commit := false, params := 0, ctx := 0, stage := .offsets 0 } : ServiceRun) } : SeqRun)) }).setFlag (Reg.PIX.INJ_CTRL_BUSY (0 : Nat)) false, []⟩, ({ seq := 0, cause := 0, table := [], phase := .service ({ svc := .delayLine, dies := [0], todo := [0], commit := false, params := 0, ctx := 0, stage := .offsets 0 } : ServiceRun) } : SeqRun), ({ svc := .delayLine, dies := [0], todo := [0], commit := false, params := 0, ctx := 0, stage := .offsets 0 } : ServiceRun), (0 : Nat), [], by decide +kernel⟩,
   ⟨⟨({ P with sta.run := some (({ seq := 0, cause := 0, table := [], phase := .service ({ svc := .delayLine, dies := [0], todo := [0], commit := false, params := 0, ctx := 0, stage := .offsets 1 } : ServiceRun) } : SeqRun)) }).setFlag (Reg.PIX.INJ_CTRL_BUSY (0 : Nat)) false, []⟩, ({ seq := 0, cause := 0, table := [], phase := .service ({ svc := .delayLine, dies := [0], todo := [0], commit := false, params := 0, ctx := 0, stage := .offsets 1 } : ServiceRun) } : SeqRun), ({ svc := .delayLine, dies := [0], todo := [0], commit := false, params := 0, ctx := 0, stage := .offsets 1 } : ServiceRun), (0 : Nat), [], by decide +kernel⟩,
   ⟨⟨({ P with sta.run := some (({ seq := 0, cause := 0, table := [], phase := .service ({ svc := .delayLine, dies := [0], todo := [0], commit := false, params := 0, ctx := 0, stage := .offsets 1 } : ServiceRun) } : SeqRun)) }).setFlag (Reg.PIX.INJ_CTRL_BUSY 0) true, []⟩, ({ seq := 0, cause := 0, table := [], phase := .service ({ svc := .delayLine, dies := [0], todo := [0], commit := false, params := 0, ctx := 0, stage := .offsets 1 } : ServiceRun) } : SeqRun), ({ svc := .delayLine, dies := [0], todo := [0], commit := false, params := 0, ctx := 0, stage := .offsets 1 } : ServiceRun), (0 : Nat), [], by decide +kernel⟩,
   ⟨⟨{ P with sta.run := some (({ seq := 0, cause := 0, table := [], phase := .service ({ svc := .threshold, dies := [0], todo := [0], commit := false, params := 0, ctx := 0, stage := .trims 0 0 } : ServiceRun) } : SeqRun)) }, []⟩, ({ seq := 0, cause := 0, table := [], phase := .service ({ svc := .threshold, dies := [0], todo := [0], commit := false, params := 0, ctx := 0, stage := .trims 0 0 } : ServiceRun) } : SeqRun), ({ svc := .threshold, dies := [0], todo := [0], commit := false, params := 0, ctx := 0, stage := .trims 0 0 } : ServiceRun), (0 : Nat), (0 : Nat), by decide +kernel⟩,
   ⟨⟨(({ P with sta.run := some (({ seq := 0, cause := 0, table := [], phase := .service ({ svc := .threshold, dies := [0], todo := [0], commit := false, params := 0, ctx := 0, stage := .trims 0 0 } : ServiceRun) } : SeqRun)) }).setFlag (Reg.PIX.INJ_CTRL_BUSY (0 : Nat)) true).setFlag (Reg.PIX.INJ_CTRL_BUSY 0) true, []⟩, ({ seq := 0, cause := 0, table := [], phase := .service ({ svc := .threshold, dies := [0], todo := [0], commit := false, params := 0, ctx := 0, stage := .trims 0 0 } : ServiceRun) } : SeqRun), ({ svc := .threshold, dies := [0], todo := [0], commit := false, params := 0, ctx := 0, stage := .trims 0 0 } : ServiceRun), (0 : Nat), by decide +kernel⟩⟩

theorem witness_BuiltInServices_2 :
  (∃ (s : State) (r : SeqRun) (v : ServiceRun), s.dev.sta.run = some r ∧ r.phase = .service v ∧ v.svc = .bumpScan ∧ (∀ n ∈ v.dies, (SMap.get (fun _ => ({} : ScanSt)) v.scans n).busy = false ∧ (SMap.get (fun _ => ({} : ScanSt)) v.scans n).reps = scanReps v.params)) ∧
  (∃ (s : State) (r : SeqRun) (v : ServiceRun) (n : Nat), s.dev.sta.run = some r ∧ r.phase = .service v ∧ v.svc = .bumpScan ∧ n ∈ v.dies ∧ ((SMap.get (fun _ => ({} : ScanSt)) v.scans n).busy = true ∨ (SMap.get (fun _ => ({} : ScanSt)) v.scans n).reps ≠ scanReps v.params)) ∧
  (∃ (h : Nat → Nat), 0 < ((List.range 80).map h).sum ∧ (∃ k, k < 56 ∧ h k = 0)) ∧
  (∃ (rs : List (BitVec 2)), rs ≠ [] ∧ (∀ x ∈ rs, x ≠ 0)) ∧
  (∃ (cs : List (Option Nat)), cs ≠ [] ∧ (∀ c ∈ cs, c = none)) :=
  ⟨⟨⟨{ P with sta.run := some (({ seq := 0, cause := 0, table := [], phase := .service ({ svc := .bumpScan, dies := [0], todo := [0], commit := false, params := 0, ctx := 0, scans := [(0, { reps := 16 })] } : ServiceRun) } : SeqRun)) }, []⟩, ({ seq := 0, cause := 0, table := [], phase := .service ({ svc := .bumpScan, dies := [0], todo := [0], commit := false, params := 0, ctx := 0, scans := [(0, { reps := 16 })] } : ServiceRun) } : SeqRun), ({ svc := .bumpScan, dies := [0], todo := [0], commit := false, params := 0, ctx := 0, scans := [(0, { reps := 16 })] } : ServiceRun), by decide +kernel⟩,
   ⟨⟨{ P with sta.run := some (({ seq := 0, cause := 0, table := [], phase := .service ({ svc := .bumpScan, dies := [0], todo := [0], commit := false, params := 0, ctx := 0 } : ServiceRun) } : SeqRun)) }, []⟩, ({ seq := 0, cause := 0, table := [], phase := .service ({ svc := .bumpScan, dies := [0], todo := [0], commit := false, params := 0, ctx := 0 } : ServiceRun) } : SeqRun), ({ svc := .bumpScan, dies := [0], todo := [0], commit := false, params := 0, ctx := 0 } : ServiceRun), (0 : Nat), by decide +kernel⟩,
   ⟨(fun k => if k = 60 then 1 else 0), ⟨by decide +kernel, 0, by decide +kernel⟩⟩,
   ⟨[1#2], by decide +kernel⟩,
   ⟨[none], by decide +kernel⟩⟩

theorem witness_DspAluInstructions :
  ∃ (s : State) (core : Core) (slot : DspSlot), Straight s.dev core.val ∧ SlotSound (s.dev.core core.val) slot :=
  ⟨⟨P.updCore 0 fun k => { k with run := .running }, []⟩, (0 : Core), .none, by unfold Straight CoreExecutes SlotSound; decide +kernel⟩

theorem witness_DspShiftsAndExtracts :
  ∃ (s : State) (core : Core) (slot : DspSlot), Straight s.dev core.val ∧ SlotSound (s.dev.core core.val) slot :=
  ⟨⟨P.updCore 0 fun k => { k with run := .running }, []⟩, (0 : Core), .none, by unfold Straight CoreExecutes SlotSound; decide +kernel⟩

theorem witness_DspMacInstructions :
  ∃ (s : State) (core : Core) (slot1 : DspSlot) (slot2 : DspSlot), Straight s.dev core.val ∧ SlotSound (s.dev.core core.val) slot1 ∧ SlotSound (s.dev.core core.val) slot2 :=
  ⟨⟨P.updCore 0 fun k => { k with run := .running }, []⟩, (0 : Core), .none, .none, by unfold Straight CoreExecutes SlotSound; decide +kernel⟩

theorem witness_DspMovesAndAccesses_1 :
  (∃ (s : State) (core : Core), Straight s.dev core.val) ∧
  (∃ (s : State) (core : Core) (ptr : Fin 8) (mode : DspMode) (disp : BitVec 16), Straight s.dev core.val ∧ dispOk mode disp = true ∧ (s.dev.core core.val).badAt ((s.dev.core core.val).address ptr mode disp).1 = false) ∧
  (∃ (s : State) (core : Core) (mode : DspMode) (disp : BitVec 16), Straight s.dev core.val ∧ dispOk mode disp = true) ∧
  (∃ (s : State) (core : Core) (dst : DspReg) (value : BitVec 24), Straight s.dev core.val ∧ (regCode dst < 8 ∨ regCode dst < 0x20 ∧ value.toNat < 65536)) ∧
  (∃ (s : State) (core : Core) (dst : DspReg) (value : BitVec 24), CoreExecutes s.dev core.val ∧ (0x20 ≤ regCode dst ∨ 8 ≤ regCode dst ∧ 65536 ≤ value.toNat)) ∧
  (∃ (s : State) (core : Core) (mode : DspMode) (disp : BitVec 16), CoreExecutes s.dev core.val ∧ dispOk mode disp = false) :=
  ⟨⟨⟨P.updCore 0 fun k => { k with run := .running }, []⟩, (0 : Core), by unfold Straight CoreExecutes; decide +kernel⟩,
   ⟨⟨P.updCore 0 fun k => { k with run := .running }, []⟩, (0 : Core), (0 : Fin 8), .ptr, (0 : BitVec 16), by unfold Straight CoreExecutes; decide +kernel⟩,
   ⟨⟨P.updCore 0 fun k => { k with run := .running }, []⟩, (0 : Core), .ptr, (0 : BitVec 16), by unfold Straight CoreExecutes; decide +kernel⟩,
   ⟨⟨P.updCore 0 fun k => { k with run := .running }, []⟩, (0 : Core), .d 0, (0 : BitVec 24), by unfold Straight CoreExecutes; decide +kernel⟩,
   ⟨⟨P.updCore 0 fun k => { k with run := .running }, []⟩, (0 : Core), (.acT 0), (0 : BitVec 24), by unfold CoreExecutes; decide +kernel⟩,
   ⟨⟨P.updCore 0 fun k => { k with run := .running }, []⟩, (0 : Core), .ptr, (1#16 : BitVec 16), by unfold CoreExecutes; decide +kernel⟩⟩

theorem witness_DspMovesAndAccesses_2 :
  (∃ (s : State) (core : Core) (ptr : Fin 8) (mode : DspMode) (disp : BitVec 16), Straight s.dev core.val ∧ dispOk mode disp = true ∧ (s.dev.core core.val).badAt ((s.dev.core core.val).address ptr mode disp).1 = true) ∧
  (∃ (s : State) (core : Core), (s.dev.core core.val).run = .halted) ∧
  (∃ (d : Device) (c : Nat), ((d.core c).run = .halted ∨ (d.core c).run = .fault ∨ d.pageOn (corePage c) = false ∧ (d.core c).run ≠ .waiting ∨ (d.core c).run ≠ .waiting ∧ (d.core c).fab.isSome = true)) ∧
  (∃ (s : State) (core : Core), s.dev.pageOn (.dsp core) = true ∧ ((s.dev.core core.val).run = .running ∨ (s.dev.core core.val).run = .draining) ∧ (s.dev.core core.val).fab = none ∧ s.dev.breaks core.val = true) ∧
  (∃ (d : Device) (c : Nat), d.pageOn (corePage c) = true ∧ ((d.core c).run = .running ∨ (d.core c).run = .draining) ∧ (d.core c).fab = none ∧ d.breaks c = false ∧ (d.core c).bad.contains (pmemAt (d.core c).pc.toNat) = true) ∧
  (∃ (d : Device) (c : Nat) (op : DspOp), CoreExecutes d c ∧ (d.core c).illegalHere op = false ∧ (d.core c).loopError op = false ∧ ((d.core c).loads op).any (d.core c).badAt = false ∧ (∀ n, op ≠ .trap n)) :=
  ⟨⟨⟨P.updCore 0 fun k => { k with run := .running, bad := [dmemAt 0] }, []⟩, (0 : Core), (0 : Fin 8), .ptr, (0 : BitVec 16), by unfold Straight CoreExecutes; decide +kernel⟩,
   ⟨⟨P.updCore (0 : Core).val fun k => { k with run := .halted }, []⟩, (0 : Core), by decide +kernel⟩,
   ⟨P, (0 : Nat), by decide +kernel⟩,
   ⟨⟨((P.setFlag (Reg.DSP.CTRL_BRK_EN 0) true).setFld (Reg.DSP.BRK_ADDR 0) 0).updCore 0 fun k => { k with run := .running }, []⟩, (0 : Core), by decide +kernel⟩,
   ⟨P.updCore 0 fun k => { k with run := .running, bad := [pmemAt 0] }, (0 : Nat), by decide +kernel⟩,
   ⟨P.updCore 0 fun k => { k with run := .running }, (0 : Nat), DspOp.nop, by unfold CoreExecutes; decide +kernel⟩⟩

theorem witness_DspControlAndLoops_1 :
  (∃ (s : State) (core : Core), Straight s.dev core.val) ∧
  (∃ (s : State) (core : Core) (b : BitVec 14) (target : Option (BitVec 14)), CoreExecutes s.dev core.val ∧ (s.dev.core core.val).slot = some ⟨b, target, none⟩ ∧ (s.dev.core core.val).detecting = false) ∧
  (∃ (s : State) (core : Core) (b : BitVec 14) (target : BitVec 14) (ssr : BitVec 12), CoreExecutes s.dev core.val ∧ (s.dev.core core.val).slot = some ⟨b, some target, some ssr⟩ ∧ (s.dev.core core.val).detecting = false) ∧
  (∃ (d : Device) (c : Nat) (t : DelaySlot), (d.core c).slot = some t) ∧
  (∃ (d : Device) (c : Nat), (d.core c).slot = none ∧ (d.core c).atLoopEnd = true ∧ 1 < (d.core c).level.lc.toNat) ∧
  (∃ (d : Device) (c : Nat) (op : DspOp), (d.core c).slot = none ∧ ((d.core c).atLoopEnd = false ∨ (d.core c).level.lc.toNat ≤ 1) ∧ (∀ n, (d.core c).loopCount op ≠ some (0, n))) :=
  ⟨⟨⟨P.updCore 0 fun k => { k with run := .running }, []⟩, (0 : Core), by unfold Straight CoreExecutes; decide +kernel⟩,
   ⟨⟨(P.updCore 0 fun k => { k with run := .running }).updCore (0 : Core).val fun k => { k with slot := some ⟨(0 : BitVec 14), (some 5), none⟩ }, []⟩, (0 : Core), (0 : BitVec 14), some 5, by unfold CoreExecutes; decide +kernel⟩,
   ⟨⟨(P.updCore 0 fun k => { k with run := .running }).updCore (0 : Core).val fun k => { k with slot := some ⟨(0 : BitVec 14), some (0 : BitVec 14), some (0 : BitVec 12)⟩ }, []⟩, (0 : Core), (0 : BitVec 14), (0 : BitVec 14), (0 : BitVec 12), by unfold CoreExecutes; decide +kernel⟩,
   ⟨P.updCore 0 fun k => { k with slot := some ⟨0, none, none⟩ }, (0 : Nat), (⟨0, none, none⟩ : DelaySlot), by decide +kernel⟩,
   ⟨P.updCore 0 fun k => { k with ld := 1, rf2 := [(0x2D, 2)] }, (0 : Nat), by decide +kernel⟩,
   ⟨P, (0 : Nat), DspOp.nop, by decide +kernel⟩⟩

theorem witness_DspControlAndLoops_2 :
  (∃ (s : State) (core : Core) (count : BitVec 16), Straight s.dev core.val ∧ count ≠ 0 ∧ (s.dev.core core.val).ld < 4) ∧
  (∃ (s : State) (core : Core) (count : Fin 8), Straight s.dev core.val ∧ (BitVec.ofInt 16 ((s.dev.core core.val).data count)) ≠ 0 ∧ (s.dev.core core.val).ld < 4) ∧
  (∃ (s : State) (core : Core), CoreExecutes s.dev core.val ∧ (s.dev.core core.val).slot = none ∧ (s.dev.core core.val).atLoopEnd = true ∧ 1 < (s.dev.core core.val).level.lc.toNat) ∧
  (∃ (s : State) (core : Core), CoreExecutes s.dev core.val ∧ (s.dev.core core.val).slot = none ∧ (s.dev.core core.val).atLoopEnd = true ∧ (s.dev.core core.val).level.lc = 1) ∧
  (∃ (s : State) (core : Core), Straight s.dev core.val ∧ (s.dev.core core.val).ld < 4) :=
  ⟨⟨⟨P.updCore 0 fun k => { k with run := .running }, []⟩, (0 : Core), (1#16 : BitVec 16), by unfold Straight CoreExecutes; decide +kernel⟩,
   ⟨⟨(P.updCore 0 fun k => { k with run := .running }).updCore 0 fun k => { k with rf := [(0, 1)], rf1 := [(0, 1)], rf2 := [(0, 1)] }, []⟩, (0 : Core), (0 : Fin 8), by unfold Straight CoreExecutes; decide +kernel⟩,
   ⟨⟨((P.updCore 0 fun k => { k with run := .running }).updCore (0 : Core).val fun k => { k with slot := none }).updCore 0 fun k => { k with ld := 1, rf2 := [(0x2D, 2)] }, []⟩, (0 : Core), by unfold CoreExecutes; decide +kernel⟩,
   ⟨⟨((P.updCore 0 fun k => { k with run := .running }).updCore (0 : Core).val fun k => { k with slot := none }).updCore 0 fun k => { k with ld := 1, rf2 := [(0x2D, 1)] }, []⟩, (0 : Core), by unfold CoreExecutes; decide +kernel⟩,
   ⟨⟨P.updCore 0 fun k => { k with run := .running }, []⟩, (0 : Core), by unfold Straight CoreExecutes; decide +kernel⟩⟩

theorem witness_DspExceptionsAndHalts_1 :
  (∃ (s : State) (core : Core), CoreExecutes s.dev core.val ∧ (s.dev.core core.val).slot = none ∧ (s.dev.core core.val).exc = false) ∧
  (∃ (s : State) (core : Core) (count : BitVec 16), CoreExecutes s.dev core.val ∧ (s.dev.core core.val).slot = none ∧ (s.dev.core core.val).detecting = false ∧ count ≠ 0 ∧ (s.dev.core core.val).ld = 4 ∧ (s.dev.core core.val).exc = false) ∧
  (∃ (s : State) (core : Core) (t : DelaySlot), CoreExecutes s.dev core.val ∧ (s.dev.core core.val).slot = some t ∧ (s.dev.core core.val).exc = false) ∧
  (∃ (s : State) (core : Core), Straight s.dev core.val ∧ (s.dev.core core.val).ld = 4 ∧ (s.dev.core core.val).exc = false) ∧
  (∃ (s : State) (core : Core), Straight s.dev core.val ∧ (s.dev.core core.val).exc = true) ∧
  (∃ (s : State) (core : Core), Straight s.dev core.val ∧ (s.dev.core core.val).exc = false) ∧
  (∃ (s : State) (core : Core), CoreExecutes s.dev core.val ∧ (s.dev.core core.val).exc = true) ∧
  (∃ (k : DspCore), k.run = .running) ∧
  (∃ (s : State) (core : Core) (n : Nat) (rest : List Nat), s.dev.pageOn (.dsp core) = true ∧ (s.dev.core core.val).run = .waiting ∧ s.dev.wanted core.val = n :: rest ∧ (s.dev.core core.val).slot = none ∧ (s.dev.core core.val).fab = none ∧ (s.dev.core core.val).rf1.srBit 6 = true) :=
  ⟨⟨⟨((P.updCore 0 fun k => { k with run := .running }).updCore (0 : Core).val fun k => { k with slot := none }).updCore (0 : Core).val fun k => { k with exc := false }, []⟩, (0 : Core), by unfold CoreExecutes; decide +kernel⟩,
   ⟨⟨((((P.updCore 0 fun k => { k with run := .running }).updCore (0 : Core).val fun k => { k with slot := none }).updCore (0 : Core).val fun k => { k with ld := 4 }).updCore (0 : Core).val fun k => { k with exc := false }).updCore 0 fun k => { k with ld := 4, rf2 := [(0x2C, 0x80)] }, []⟩, (0 : Core), (1#16 : BitVec 16), by unfold CoreExecutes; decide +kernel⟩,
   ⟨⟨((P.updCore 0 fun k => { k with run := .running }).updCore (0 : Core).val fun k => { k with slot := some (⟨0, none, none⟩ : DelaySlot) }).updCore (0 : Core).val fun k => { k with exc := false }, []⟩, (0 : Core), (⟨0, none, none⟩ : DelaySlot), by unfold CoreExecutes; decide +kernel⟩,
   ⟨⟨P.updCore 0 fun k => { k with run := .running, ld := 4, rf2 := [(0x2C, 0x80)] }, []⟩, (0 : Core), by unfold Straight CoreExecutes; decide +kernel⟩,
   ⟨⟨(P.updCore 0 fun k => { k with run := .running }).updCore (0 : Core).val fun k => { k with exc := true }, []⟩, (0 : Core), by unfold Straight CoreExecutes; decide +kernel⟩,
   ⟨⟨(P.updCore 0 fun k => { k with run := .running }).updCore (0 : Core).val fun k => { k with exc := false }, []⟩, (0 : Core), by unfold Straight CoreExecutes; decide +kernel⟩,
   ⟨⟨((P.updCore 0 fun k => { k with run := .running }).updCore (0 : Core).val fun k => { k with exc := true }).updCore 0 fun k => { k with exc := true }, []⟩, (0 : Core), by unfold CoreExecutes; decide +kernel⟩,
   ⟨({ run := .running } : DspCore), by decide +kernel⟩,
   ⟨⟨(((((P.updCore (0 : Core).val fun k => { k with run := .waiting }).updCore (0 : Core).val fun k => { k with slot := none }).updCore (0 : Core).val fun k => { k with fab := none }).setFlag (Reg.DSPIO.IPEND_TIMER 0) true).setFld (Reg.DSPIO.IMASK_MASK 0) 15).updCore 0 fun k => { k with rf1 := [(0x2C, 0x40)] }, []⟩, (0 : Core), (5 : Nat), [], by decide +kernel⟩⟩

theorem witness_DspExceptionsAndHalts_2 :
  (∃ (s : State) (core : Core), s.dev.pageOn (.dsp core) = true ∧ ((s.dev.core core.val).slot ≠ none ∨ (s.dev.core core.val).fab ≠ none ∨ (s.dev.core core.val).rf1.srBit 6 = false)) ∧
  (∃ (s : State) (core : Core) (n : Nat) (rest : List Nat), s.dev.pageOn (.dsp core) = true ∧ ((s.dev.core core.val).run = .running ∨ (s.dev.core core.val).run = .draining) ∧ s.dev.wanted core.val = n :: rest ∧ (s.dev.core core.val).slot = none ∧ (s.dev.core core.val).fab = none ∧ (s.dev.core core.val).rf1.srBit 6 = true) ∧
  (∃ (s : State) (core : Core), s.dev.wanted core.val = []) ∧
  (∃ (s : State) (core : Core), Straight s.dev core.val ∧ (s.dev.core core.val).run = .running ∧ (s.dev.begins core.val).wanted core.val ≠ []) ∧
  (∃ (s : State) (core : Core), Straight s.dev core.val ∧ (s.dev.core core.val).run = .draining) ∧
  (∃ (s : State) (core : Core), Straight s.dev core.val ∧ (s.dev.core core.val).run = .running ∧ (s.dev.begins core.val).wanted core.val = []) ∧
  (∃ (s : State) (core : Core), Straight s.dev core.val ∧ (s.dev.core core.val).run = .running) ∧
  (∃ (s : State) (core : Core) (t : Nat), (s.dev.core core.val).run = .draining ∧ (s.dev.core core.val).drainAt = some t) ∧
  (∃ (s : State) (core : Core), (s.dev.core core.val).run ≠ .draining) :=
  ⟨⟨⟨P, []⟩, (0 : Core), by decide +kernel⟩,
   ⟨⟨((P.setFlag (Reg.DSPIO.IPEND_TIMER 0) true).setFld (Reg.DSPIO.IMASK_MASK 0) 15).updCore 0 fun k => { k with run := .running, rf1 := [(0x2C, 0x40)] }, []⟩, (0 : Core), (5 : Nat), [], by decide +kernel⟩,
   ⟨⟨P, []⟩, (0 : Core), by decide +kernel⟩,
   ⟨⟨((P.setFlag (Reg.DSPIO.IPEND_TIMER 0) true).setFld (Reg.DSPIO.IMASK_MASK 0) 15).updCore 0 fun k => { k with run := .running }, []⟩, (0 : Core), by unfold Straight CoreExecutes; decide +kernel⟩,
   ⟨⟨(P.updCore 0 fun k => { k with run := .running }).updCore (0 : Core).val fun k => { k with run := .draining }, []⟩, (0 : Core), by unfold Straight CoreExecutes; decide +kernel⟩,
   ⟨⟨(P.updCore 0 fun k => { k with run := .running }).updCore (0 : Core).val fun k => { k with run := .running }, []⟩, (0 : Core), by unfold Straight CoreExecutes; decide +kernel⟩,
   ⟨⟨(P.updCore 0 fun k => { k with run := .running }).updCore (0 : Core).val fun k => { k with run := .running }, []⟩, (0 : Core), by unfold Straight CoreExecutes; decide +kernel⟩,
   ⟨⟨(P.updCore (0 : Core).val fun k => { k with run := .draining }).updCore (0 : Core).val fun k => { k with drainAt := some (0 : Nat) }, []⟩, (0 : Core), (0 : Nat), by decide +kernel⟩,
   ⟨⟨P, []⟩, (0 : Core), by decide +kernel⟩⟩

theorem witness_DspQueuesAndPorts_1 :
  (∃ (s : State) (core : Core), s.dev.pageOn (.dsp core) = true ∧ (s.dev.core core.val).res.length < 256) ∧
  (∃ (s : State) (core : Core), s.dev.pageOn (.dsp core) = true ∧ 256 ≤ (s.dev.core core.val).res.length) ∧
  (∃ (s : State) (core : Core) (v : BitVec 24) (rest : List (BitVec 24)), s.dev.pageOn (.dsp core) = true ∧ (s.dev.core core.val).mbx = v :: rest) ∧
  (∃ (s : State) (core : Core), (s.dev.core core.val).mbx = []) ∧
  (∃ (s : State) (core : Core) (tag : BitVec 7) (v : BitVec 24) (rest : List (BitVec 7 × BitVec 24)), s.dev.pageOn (.dsp core) = true ∧ (s.dev.core core.val).res = (tag, v) :: rest) ∧
  (∃ (s : State) (core : Core), (s.dev.core core.val).res = []) ∧
  (∃ (s : State) (core : Core), s.dev.pageOn (.dsp core) = true ∧ (s.dev.core core.val).mbx.length < 256) ∧
  (∃ (s : State) (core : Core), s.dev.pageOn (.dsp core) = true ∧ 256 ≤ (s.dev.core core.val).mbx.length) :=
  ⟨⟨⟨P, []⟩, (0 : Core), by decide +kernel⟩,
   ⟨⟨P.updCore 0 fun k => { k with res := List.replicate 256 (0, 0) }, []⟩, (0 : Core), by decide +kernel⟩,
   ⟨⟨P.updCore (0 : Core).val fun k => { k with mbx := (0 : BitVec 24) :: ([]) }, []⟩, (0 : Core), (0 : BitVec 24), [], by decide +kernel⟩,
   ⟨⟨P.updCore (0 : Core).val fun k => { k with mbx := [] }, []⟩, (0 : Core), by decide +kernel⟩,
   ⟨⟨P.updCore (0 : Core).val fun k => { k with res := ((0 : BitVec 7), (0 : BitVec 24)) :: ([]) }, []⟩, (0 : Core), (0 : BitVec 7), (0 : BitVec 24), [], by decide +kernel⟩,
   ⟨⟨P.updCore (0 : Core).val fun k => { k with res := [] }, []⟩, (0 : Core), by decide +kernel⟩,
   ⟨⟨P, []⟩, (0 : Core), by decide +kernel⟩,
   ⟨⟨P.updCore 0 fun k => { k with mbx := List.replicate 256 0 }, []⟩, (0 : Core), by decide +kernel⟩⟩

theorem witness_DspQueuesAndPorts_2 :
  (∃ (d : Device) (c : Nat), (d.core c).run = .waiting ∧ (d.core c).rf1.srBit 6 = false ∧ d.wanted c ≠ []) ∧
  (∃ (d : Device) (c : Nat), ((d.core c).run ≠ .waiting ∨ (d.core c).rf1.srBit 6 = true ∨ d.wanted c = [])) ∧
  (∃ (s : State) (core : Core), s.dev.pageOn (.dsp core) = true ∧ s.dev.tim.dspClock = true ∧ s.dev.fld (Reg.DSPIO.TMR_PERIOD_CYCLES core.val) ≠ 0) ∧
  (∃ (s : State) (core : Core), (s.dev.tim.dspClock = false ∨ s.dev.fld (Reg.DSPIO.TMR_PERIOD_CYCLES core.val) = 0)) ∧
  (∃ (s : State) (core : Core), (s.dev.core core.val).fab.isSome = true) ∧
  (∃ (s : State) (core : Core), s.dev.pageOn (.dsp core) = true ∧ (s.dev.core core.val).fab = none) ∧
  (∃ (s : State) (core : Core), s.dev.pageOn (.dsp core) = true ∧ 4 ≤ (s.dev.core core.val).waves.length) ∧
  (∃ (s : State) (core : Core), s.dev.pageOn (.dsp core) = true ∧ (s.dev.core core.val).waves.length < 4) :=
  ⟨⟨((P.setFlag (Reg.DSPIO.IPEND_TIMER 0) true).setFld (Reg.DSPIO.IMASK_MASK 0) 15).updCore 0 fun k => { k with run := .waiting }, (0 : Nat), by decide +kernel⟩,
   ⟨P, (0 : Nat), by decide +kernel⟩,
   ⟨⟨({ P with tim.dspClock := true }).setFld (Reg.DSPIO.TMR_PERIOD_CYCLES (0 : Core).val) 1, []⟩, (0 : Core), by decide +kernel⟩,
   ⟨⟨P, []⟩, (0 : Core), by decide +kernel⟩,
   ⟨⟨P.updCore 0 fun k => { k with fab := some true }, []⟩, (0 : Core), by decide +kernel⟩,
   ⟨⟨P.updCore (0 : Core).val fun k => { k with fab := none }, []⟩, (0 : Core), by decide +kernel⟩,
   ⟨⟨P.updCore 0 fun k => { k with waves := List.replicate 4 ⟨0, 0, 0, 0, none⟩ }, []⟩, (0 : Core), by decide +kernel⟩,
   ⟨⟨P.setFlag (domOnBit 4) false, []⟩, (0 : Core), by decide +kernel⟩⟩

theorem witness_DspQueuesAndPorts_3 :
  (∃ (s : State) (core : Core), (s.dev.core core.val).waves = []) ∧
  (∃ (s : State) (core : Core) (w : WaveReq) (rest : List WaveReq), (s.dev.core core.val).waves = w :: rest ∧ s.dev.enabled (.dsp core) = true ∧ ((s.dev.core core.val).stream w.stream).total + 2048 < w.first + w.n) ∧
  (∃ (s : State) (core : Core) (w : WaveReq) (rest : List WaveReq), s.dev.pageOn (.dsp core) = true ∧ (s.dev.core core.val).waves = w :: rest ∧ s.dev.enabled (.dsp core) = false ∧ ((s.dev.core core.val).stream w.stream).total + 2048 < w.first + w.n) ∧
  (∃ (s : State) (core : Core) (w : WaveReq) (rest : List WaveReq), s.dev.pageOn (.dsp core) = true ∧ (s.dev.core core.val).waves = w :: rest ∧ w.first + w.n ≤ ((s.dev.core core.val).stream w.stream).total + 2048 ∧ s.dev.waveOutcome core.val w ≠ 0) ∧
  (∃ (s : State) (core : Core) (w : WaveReq) (rest : List WaveReq) (i : Nat), s.dev.pageOn (.dsp core) = true ∧ s.dev.pageOn .evb = true ∧ (s.dev.core core.val).waves = w :: rest ∧ w.first + w.n ≤ ((s.dev.core core.val).stream w.stream).total + 2048 ∧ s.dev.waveOutcome core.val w = 0 ∧ w.ctx = some i) ∧
  (∃ (w : WaveReq), w.n = 0) ∧
  (∃ (d : Device) (w : WaveReq), w.n ≠ 0 ∧ (waveKeep (d.fmtEntry (d.fld Reg.EVB.OUT_FORMAT_ACTIVE)) = 0xFF → w.n ≤ 508) ∧ w.ctx = none) ∧
  (∃ (d : Device) (c : Nat) (w : WaveReq) (i : Nat), w.n ≠ 0 ∧ (waveKeep (d.fmtEntry (d.fld Reg.EVB.OUT_FORMAT_ACTIVE)) = 0xFF → w.n ≤ 508) ∧ w.ctx = some i ∧ w.first + 2048 < ((d.core c).stream w.stream).total + 2048) :=
  ⟨⟨⟨P.updCore (0 : Core).val fun k => { k with waves := [] }, []⟩, (0 : Core), by decide +kernel⟩,
   ⟨⟨(P.updCore (0 : Core).val fun k => { k with waves := (⟨0, 0, 3000, 1, none⟩ : WaveReq) :: ([]) }).setFlag (fEnable (.dsp (0 : Core))) true, []⟩, (0 : Core), (⟨0, 0, 3000, 1, none⟩ : WaveReq), [], by decide +kernel⟩,
   ⟨⟨(P.updCore (0 : Core).val fun k => { k with waves := (⟨0, 0, 3000, 1, none⟩ : WaveReq) :: ([]) }).setFlag (fEnable (.dsp (0 : Core))) false, []⟩, (0 : Core), (⟨0, 0, 3000, 1, none⟩ : WaveReq), [], by decide +kernel⟩,
   ⟨⟨P.updCore (0 : Core).val fun k => { k with waves := (⟨0, 0, 0, 0, none⟩) :: ([]) }, []⟩, (0 : Core), ⟨0, 0, 0, 0, none⟩, [], by decide +kernel⟩,
   ⟨⟨P.updCore (0 : Core).val fun k => { k with waves := (⟨0, 0, 0, 1, some 0⟩ : WaveReq) :: ([]) }, []⟩, (0 : Core), (⟨0, 0, 0, 1, some 0⟩ : WaveReq), [], (0 : Nat), by decide +kernel⟩,
   ⟨⟨0, 0, 0, 0, none⟩, by decide +kernel⟩,
   ⟨P, (⟨0, 0, 0, 1, none⟩ : WaveReq), by decide +kernel⟩,
   ⟨P.updCore 0 fun k => { k with streams := [(0, { total := 2000 })] }, (0 : Nat), (⟨0, 0, 0, 1, some 0⟩ : WaveReq), (0 : Nat), by decide +kernel⟩⟩

theorem witness_DspHostAccess_1 :
  (∃ (s : State) (core : Core), s.dev.pageOn (.dsp core) = true ∧ s.dev.enabled (.dsp core) = true ∧ (s.dev.core core.val).claimed = false ∧ s.dev.tim.dspClock = true ∧ (s.dev.core core.val).run = .halted) ∧
  (∃ (s : State) (core : Core), s.dev.pageOn (.dsp core) = true ∧ (s.dev.core core.val).claimed = false ∧ s.dev.tim.dspClock = true ∧ ((s.dev.core core.val).run ≠ .halted ∨ s.dev.enabled (.dsp core) = false)) ∧
  (∃ (s : State) (core : Core), s.dev.pageOn (.dsp core) = true ∧ s.dev.tim.dspClock = false) ∧
  (∃ (s : State) (core : Core), s.dev.pageOn (.dsp core) = true ∧ (s.dev.core core.val).claimed = true) ∧
  (∃ (s : State) (core : Core), s.dev.pageOn (.dsp core) = true ∧ (s.dev.core core.val).claimed = false ∧ ((s.dev.core core.val).run = .running ∨ (s.dev.core core.val).run = .waiting ∨ (s.dev.core core.val).run = .draining) ∧ (s.dev.core core.val).fab = none) ∧
  (∃ (s : State) (core : Core), s.dev.pageOn (.dsp core) = true ∧ (s.dev.core core.val).claimed = false ∧ (s.dev.core core.val).run = .running ∧ (s.dev.core core.val).fab.isSome = true) ∧
  (∃ (s : State) (core : Core), s.dev.pageOn (.dsp core) = true ∧ (s.dev.core core.val).claimed = false ∧ ((s.dev.core core.val).run = .halted ∨ (s.dev.core core.val).run = .fault)) ∧
  (∃ (s : State) (core : Core), s.dev.pageOn (.dsp core) = true ∧ (s.dev.core core.val).claimed = false ∧ s.dev.tim.dspClock = true ∧ (s.dev.core core.val).run = .halted ∧ (s.dev.core core.val).fab = none) :=
  ⟨⟨⟨({ ((P.setFlag (fEnable (.dsp (0 : Core))) true).updCore (0 : Core).val fun k => { k with claimed := false }) with tim.dspClock := true }).updCore (0 : Core).val fun k => { k with run := .halted }, []⟩, (0 : Core), by decide +kernel⟩,
   ⟨⟨({ P with tim.dspClock := true }).setFlag (fEnable (.dsp 0)) false, []⟩, (0 : Core), by decide +kernel⟩,
   ⟨⟨{ P with tim.dspClock := false }, []⟩, (0 : Core), by decide +kernel⟩,
   ⟨⟨P.updCore (0 : Core).val fun k => { k with claimed := true }, []⟩, (0 : Core), by decide +kernel⟩,
   ⟨⟨P.updCore 0 fun k => { k with run := .running }, []⟩, (0 : Core), by decide +kernel⟩,
   ⟨⟨P.updCore 0 fun k => { k with run := .running, fab := some true }, []⟩, (0 : Core), by decide +kernel⟩,
   ⟨⟨P, []⟩, (0 : Core), by decide +kernel⟩,
   ⟨⟨(({ (P.updCore (0 : Core).val fun k => { k with claimed := false }) with tim.dspClock := true }).updCore (0 : Core).val fun k => { k with run := .halted }).updCore (0 : Core).val fun k => { k with fab := none }, []⟩, (0 : Core), by decide +kernel⟩⟩

theorem witness_DspHostAccess_2 :
  (∃ (s : State) (core : Core), s.dev.pageOn (.dsp core) = true ∧ (s.dev.core core.val).claimed = false ∧ (s.dev.core core.val).run = .halted) ∧
  (∃ (s : State) (core : Core), s.dev.pageOn (.dsp core) = true ∧ (s.dev.core core.val).run = .running ∧ (s.dev.core core.val).fab = none ∧ s.dev.breaks core.val = true) ∧
  (∃ (s : State) (core : Core), s.dev.pageOn (.dsp core) = true ∧ (s.dev.core core.val).run = .halted) ∧
  (∃ (s : State) (core : Core), s.dev.pageOn (.dsp core) = true ∧ (s.dev.core core.val).run ≠ .halted) ∧
  (∃ (s : State) (core : Core) (r : DspReg), s.dev.pageOn (.dsp core) = true ∧ (s.dev.core core.val).claimed = false ∧ (s.dev.core core.val).run = .halted ∧ regOfCode (s.dev.fld (Reg.DSP.REG_ADDR_CODE core.val)) = some r) ∧
  (∃ (s : State) (core : Core), s.dev.pageOn (.dsp core) = true ∧ (s.dev.core core.val).claimed = false ∧ (s.dev.core core.val).run = .halted ∧ regOfCode (s.dev.fld (Reg.DSP.REG_ADDR_CODE core.val)) = none) ∧
  (∃ (s : State) (core : Core), s.dev.pageOn (.dsp core) = true ∧ ((s.dev.core core.val).claimed = true ∨ (s.dev.core core.val).run ≠ .halted)) ∧
  (∃ (s : State) (core : Core), s.dev.pageOn (.dsp core) = true) :=
  ⟨⟨⟨(P.updCore (0 : Core).val fun k => { k with claimed := false }).updCore (0 : Core).val fun k => { k with run := .halted }, []⟩, (0 : Core), by decide +kernel⟩,
   ⟨⟨((P.updCore (0 : Core).val fun k => { k with run := .running }).updCore (0 : Core).val fun k => { k with fab := none }).setFlag (Reg.DSP.CTRL_BRK_EN 0) true, []⟩, (0 : Core), by decide +kernel⟩,
   ⟨⟨P.updCore (0 : Core).val fun k => { k with run := .halted }, []⟩, (0 : Core), by decide +kernel⟩,
   ⟨⟨P.updCore 0 fun k => { k with run := .running }, []⟩, (0 : Core), by decide +kernel⟩,
   ⟨⟨(P.updCore (0 : Core).val fun k => { k with claimed := false }).updCore (0 : Core).val fun k => { k with run := .halted }, []⟩, (0 : Core), .d 0, by decide +kernel⟩,
   ⟨⟨P.setFld (Reg.DSP.REG_ADDR_CODE 0) 63, []⟩, (0 : Core), by decide +kernel⟩,
   ⟨⟨P.updCore 0 fun k => { k with run := .running }, []⟩, (0 : Core), by decide +kernel⟩,
   ⟨⟨P, []⟩, (0 : Core), by decide +kernel⟩⟩

theorem witness_StepTakesTheFrontCommand :
  (∃ (c : Instr) (s : State) (rest : List Instr), s.pending = c :: rest) ∧
  (∃ (s : State), s.pending = []) :=
  ⟨⟨.fmtCommit, ⟨P, [.fmtCommit]⟩, [], rfl⟩,
   ⟨⟨P, []⟩, by decide +kernel⟩⟩

theorem witness_WhatFollowsACommand :
  ∃ (d : Device) (r : SeqRun) (v : ServiceRun), d.sta.run = some r ∧ r.phase = .service v ∧ d.serviceCond v.dies = false :=
  ⟨{ P with sta.run := some ({ seq := 0, cause := 0, table := [], phase := .service ({ svc := .delayLine, dies := [0], todo := [0], commit := false, params := 0, ctx := 0 } : ServiceRun) } : SeqRun) }, ({ seq := 0, cause := 0, table := [], phase := .service ({ svc := .delayLine, dies := [0], todo := [0], commit := false, params := 0, ctx := 0 } : ServiceRun) } : SeqRun), ({ svc := .delayLine, dies := [0], todo := [0], commit := false, params := 0, ctx := 0 } : ServiceRun), by decide +kernel⟩

theorem witness_ResetState :
  ∃ (k : Nat), k < 4 :=
  ⟨(0 : Nat), by decide +kernel⟩

theorem witness_CoreRegisterFile :
  ∃ (r : DspReg) (q : DspReg), q ≠ r :=
  ⟨(.d 0 : DspReg), (.d 1 : DspReg), by decide +kernel⟩

theorem witness_StreamMemoryViews :
  (∃ (d : Device) (c : Nat) (i : Nat), i < 0x4000 ∧ ((d.core c).smemWord i).getLsbD 31 = true) ∧
  (∃ (d : Device) (c : Nat) (i : Nat), i < 0x4000 ∧ ((d.core c).smemWord i).getLsbD 31 = false) ∧
  (∃ (i : Nat), i < 0x4000) :=
  ⟨⟨P.updCore 0 fun k => { k with smem := [(0, 0x80000000#32)] }, (0 : Nat), (0 : Nat), by decide +kernel⟩,
   ⟨P, (0 : Nat), (0 : Nat), by decide +kernel⟩,
   ⟨(0 : Nat), by decide +kernel⟩⟩

theorem witness_DelaysOfARecord :
  (∃ (n : Nat), 1 ≤ n ∧ n ≤ 64) ∧
  (∃ (n : Nat), 65 ≤ n ∧ n ≤ 80) :=
  ⟨⟨(1 : Nat), by decide +kernel⟩,
   ⟨(65 : Nat), by decide +kernel⟩⟩

theorem witness_SealedFieldsKeepTheirValues :
  (∃ (fields : List FieldD) (f : FieldD), fields.Pairwise (fun a b => a.lsb + a.width ≤ b.lsb ∨ b.lsb + b.width ≤ a.lsb) ∧ (∀ g ∈ fields, g.lsb + g.width ≤ 32) ∧ f ∈ fields) ∧
  (∃ (d : Device) (addr : Nat) (fields : List FieldD) (data : W32), d.unsealed = false ∧ (∀ f ∈ fields, f.acc = .rws → f.of data = f.of (d.word addr))) ∧
  (∃ (d : Device) (addr : Nat) (fields : List FieldD) (data : W32) (f : FieldD), d.unsealed = false ∧ f ∈ fields ∧ f.acc = .rws ∧ f.of data ≠ f.of (d.word addr) ∧ addr ≠ Reg.SEA0.CNT_REFUSED_WRITE) ∧
  (∃ (d : Device), d.unsealed = true) :=
  ⟨⟨[({ lsb := 0, width := 1, acc := .rws } : FieldD)], ({ lsb := 0, width := 1, acc := .rws } : FieldD), by decide +kernel⟩,
   ⟨P.setSealState 2, 0x1800000, [({ lsb := 0, width := 1, acc := .rws } : FieldD)], (0#32 : W32), by decide +kernel⟩,
   ⟨P.setSealState 2, 0x1800000, [({ lsb := 0, width := 1, acc := .rws } : FieldD)], (1#32 : W32), ({ lsb := 0, width := 1, acc := .rws } : FieldD), by decide +kernel⟩,
   ⟨P, by decide +kernel⟩⟩

theorem witness_CoreArithmetic :
  (∃ (x : Int), -(2 ^ 55 : Int) ≤ x ∧ x < 2 ^ 55) ∧
  (∃ (x : Int), (x < -(2 ^ 55 : Int) ∨ (2 ^ 55 : Int) ≤ x)) ∧
  (∃ (x : Int), (2 ^ 55 : Int) ≤ x) ∧
  (∃ (x : Int), x < -(2 ^ 55 : Int)) ∧
  (∃ (b : BitVec 16), (b.toNat / 2 ^ 14 = 0 ∨ b.toNat / 2 ^ 14 = 3)) ∧
  (∃ (b : BitVec 16), b.toNat / 2 ^ 14 = 1 ∧ b.toNat % 2 ^ 14 ≠ 0) :=
  ⟨⟨(0 : Int), by decide +kernel⟩,
   ⟨(2 ^ 60 : Int), by decide +kernel⟩,
   ⟨(2 ^ 60 : Int), by decide +kernel⟩,
   ⟨(-(2 ^ 60) : Int), by decide +kernel⟩,
   ⟨(0 : BitVec 16), by decide +kernel⟩,
   ⟨0x4001#16, by decide +kernel⟩⟩

theorem witness_PixelEdgesAndHits_codes : ∃ r : BitVec 80, r ≠ 0 := ⟨1, by decide⟩

theorem witness_MomentCells_codes : ∃ (d : Device) (j n : Nat), d.valuesWaiting < 1024 ∧ d.binSum j < n := ⟨P, 0, 1, by decide +kernel⟩

theorem witness_WhatFollowsACommand_effect : ∃ (c : Instr) (s : State) (e : Device), Effect c s e ∧ e.serviceRun = none := ⟨.fmtCommit, State.reset, State.reset.dev, rfl, rfl⟩

theorem witness_EveryStepSettles : ∃ (s t : State), step s = .next t := ⟨State.reset, _, rfl⟩

end Sys2Proof.Tests
end

section
/-! PROOFS. Every command and every step answers a next state (O52). -/

namespace Sys2Proof.Machine

/-- A command answers a next state and leaves the commands that wait behind it. -/
theorem exec_next (c : Instr) (s : State) : ∃ t, exec c s = .next t ∧ t.pending = s.pending := by
  obtain ⟨f, hf⟩ := exec_eq_run c s
  exact ⟨_, hf, rfl⟩

/-- A step answers a next state and takes the front command, if one waits, off the queue. -/
theorem step_next (s : State) : ∃ t, step s = .next t ∧ t.pending = s.pending.tail := by
  unfold step
  cases hq : s.pending with
  | nil => exact ⟨_, rfl, hq⟩
  | cons c rest => exact exec_next c { s with pending := rest }

/-- Settles O52: every command is an effect on the device, and a step is the front command or a tick. -/
theorem everyCommandAnswers : Obligations.EveryCommandAnswers :=
  ⟨exec_next, step_next⟩

end Sys2Proof.Machine
end

section
/-! PROOFS. What a register access by a route does, place by place, and the frames of its parts. -/

namespace Sys2Proof.Machine

variable {bs : List Block} {rs : Nat → Bool} {ps : List Page} {d e : Device}

/-! ### From effects to completions -/

/-- A command with a known effect completes: the frame of the effect, and what holds of every device that the follow-up can make of it. -/
theorem Effect.completes {c : Instr} {s : State} {post : Device → Prop} (bs : List Block) (rs : Nat → Bool) (ps : List Page)
    (h : Effect c s e) (hq : s.dev.serviceRun = none) (hb : Block.sta ∉ bs)
    (F : Frame (.alarms :: bs) (fun a => rs a || a == Reg.HLT.SERVICE_LEVEL || a == Reg.SEC.SUMMARY) ps s.dev e)
    (hp : ∀ t, Leaves [] (fun _ => false) [] e t → Leaves bs rs ps s.dev t → post t) : Completes c s post :=
  Completes.framed (f := fun _ => e) bs rs ps h hq hb F hp

theorem Leaves.wrRefused (h : Leaves bs rs ps d e) (hb : Block.rdata ∉ bs) : e.wrRefused = d.wrRefused :=
  (h.block .rdata hb (by decide)).2

theorem Leaves.rdata (h : Leaves bs rs ps d e) (hb : Block.rdata ∉ bs) : e.rdata = d.rdata :=
  (h.block .rdata hb (by decide)).1

theorem Leaves.evEn (h : Leaves bs rs ps d e) (hb : Block.evEnable ∉ bs) (p : Page) : e.evEn p = d.evEn p :=
  congrArg (fun m => SMap.get (fun _ => 0) m (pageBase p)) (h.block .evEnable hb (by decide))

/-! ### Event enables, event bits, and registers written with their own word -/

theorem Device.evEn_setEvEn (d : Device) (p q : Page) (w : W32) : (d.setEvEn p w).evEn q = if q = p then w else d.evEn q := by
  simp only [Device.evEn, Device.setEvEn, SMap.get_set]
  by_cases h : q = p
  · rw [if_pos (congrArg pageBase h), if_pos h]
  · rw [if_neg fun k => h (pageBase_inj k), if_neg h]

theorem Frame.setEvEn (h : Frame bs rs ps d e) {p : Page} {w : W32} (hb : Block.evEnable ∈ bs) : Frame bs rs ps d (e.setEvEn p w) :=
  h.evEnable hb

/-- The event bits of a named page take any value. -/
theorem Frame.setSticky (h : Frame bs rs ps d e) {p : Page} {w : W32} (hp : p ∈ ps) : Frame bs rs ps d (e.setSticky p w) := by
  have other : ∀ q, q ∉ ps → (e.setSticky p w).sticky q = e.sticky q := fun q hq => by
    rw [Device.sticky_setSticky, if_neg fun k : q = p => hq (k ▸ hp)]
  exact h.step rfl (fun b _ h2 => by cases b <;> exact h2) (fun _ _ _ => rfl) (fun q h1 _ => other q h1)
    (fun q h1 b hb => by rw [other q h1]; exact hb)

/-- A register that is written with the word it holds. -/
theorem Frame.setWord_same (h : Frame bs rs ps d e) {a : Nat} {w : W32} (hw : w = e.word a) : Frame bs rs ps d (e.setWord a w) :=
  h.step rfl (fun b _ h2 => by cases b <;> exact h2)
    (fun b _ _ => by
      rw [Device.word_setWord]
      split
      · next hb => rw [hb, hw]
      · rfl) (fun _ _ _ => rfl) (fun _ _ _ hb => hb)

/-! ### Where a register access goes -/

theorem routeReaches_of_lt {a : Nat} (h : a < 0x1C00000) (route : Route) : routeReaches a route = true := by
  cases route with
  | pcie => rfl
  | slow => exact decide_eq_true (by omega)
  | dsp c => exact decide_eq_true h

/-- The registers of BAR0 lie below the memory window and fit an address. -/
theorem regAddr_toNat {a : Nat} (h : a < 0x1C00000) : (BitVec.ofNat 26 a).toNat = a :=
  Nat.mod_eq_of_lt (by omega)

variable {s : State} {route : Route} {a k : Nat} {mark : Option Nat} {data : W32}

theorem Effect.registerWrite (addr : RegAddr) : Effect (.registerWrite route addr data) s
    (if s.dev.routeOpen route && routeReaches addr.toNat route then s.dev.regWrite route none addr.toNat data else s.dev) := rfl

theorem Effect.rwaWrite (slot : Option (Fin 4)) (addr : RegAddr) : Effect (.rwaWrite route slot addr data) s
    (if s.dev.routeOpen route && routeReaches addr.toNat route then s.dev.regWrite route (slot.map Fin.val) addr.toNat data else s.dev) := rfl

theorem Effect.latchedPairRead (addr : RegAddr) : Effect (.latchedPairRead route addr) s
    (if !s.dev.routeOpen route then s.dev
     else if routeReaches addr.toNat route then { (s.dev.regRead addr.toNat).1 with rdata := (s.dev.regRead addr.toNat).2 }
     else { s.dev with rdata := 0 }) := rfl

/-- A write of a register of BAR0 that the route carries. -/
theorem Effect.registerWrite_at (ho : s.dev.routeOpen route = true) (ha : a < 0x1C00000) :
    Effect (.registerWrite route (BitVec.ofNat _ a) data) s (s.dev.regWrite route none a data) := by
  have h := Effect.registerWrite (s := s) (route := route) (data := data) (BitVec.ofNat 26 a)
  rwa [regAddr_toNat ha, ho, routeReaches_of_lt ha, Bool.and_self, if_pos rfl] at h

/-- A write of a register of BAR0 that the route carries, with an authenticated mark or without one. -/
theorem Effect.rwaWrite_at (slot : Option (Fin 4)) (ho : s.dev.routeOpen route = true) (ha : a < 0x1C00000) :
    Effect (.rwaWrite route slot (BitVec.ofNat _ a) data) s (s.dev.regWrite route (slot.map Fin.val) a data) := by
  have h := Effect.rwaWrite (s := s) (route := route) (data := data) slot (BitVec.ofNat 26 a)
  rwa [regAddr_toNat ha, ho, routeReaches_of_lt ha, Bool.and_self, if_pos rfl] at h

/-- A read of a register of BAR0 that the route carries keeps the word read. -/
theorem Effect.latchedPairRead_at (ho : s.dev.routeOpen route = true) (ha : a < 0x1C00000) :
    Effect (.latchedPairRead route (BitVec.ofNat _ a)) s { (s.dev.regRead a).1 with rdata := (s.dev.regRead a).2 } := by
  have h := Effect.latchedPairRead (s := s) (route := route) (BitVec.ofNat 26 a)
  rwa [regAddr_toNat ha, ho, routeReaches_of_lt ha, Bool.not_true, if_neg Bool.false_ne_true, if_pos rfl] at h

/-! ### What the write of a register does -/

/-- An unaligned write changes nothing (R9). -/
theorem Device.regWrite_unaligned (h : a % 4 ≠ 0) : d.regWrite route mark a data = { d with wrRefused := false } := by
  simp only [Device.regWrite, Device.regWriteAs, h, ne_eq, not_false_eq_true, if_true]

/-- A write to one of the RWA registers (R494). -/
theorem Device.regWrite_rwa (ha : a % 4 = 0) (h : isRwa a = true) :
    d.regWrite route mark a data = Device.writeRwa { d with wrRefused := false } (routeCode route) mark a data := by
  simp only [Device.regWrite, Device.regWriteAs, ha, h, ne_eq, not_true_eq_false, if_false, if_true]

/-- The write of a register in a page is that of the page, if it has power (R477). -/
theorem Device.regWrite_page {p : Page} (ha : a % 4 = 0) (hr : isRwa a = false) (hm : a < 0x1C00000) (hp : pageAt a = some p) :
    d.regWrite route mark a data =
      if !d.pageOn p then { d with wrRefused := false }
      else if a - pageBase p < 0x20 then Device.writeHeader { d with wrRefused := false } p (a - pageBase p) data
      else Device.writeBlock { d with wrRefused := false } route (routeCode route) p a (a - pageBase p) data := by
  have h1 : ¬ 0x2000000 ≤ a := by omega
  have h2 : ¬ 0x1C00000 ≤ a := by omega
  simp only [Device.regWrite, Device.regWriteAs, ha, hr, h1, h2, hp, ne_eq, not_true_eq_false, if_false, Bool.false_eq_true]
  rfl

/-- The read of a block register in a page that has power. -/
theorem Device.regRead_block {p : Page} (ha : a % 4 = 0) (hm : a < 0x1C00000) (hp : pageAt a = some p) (hon : d.pageOn p = true)
    (ho : ¬ a - pageBase p < 0x20) : d.regRead a = d.readBlock p (a - pageBase p) (d.plainRead a (a - pageBase p) (pageTable p)) := by
  have h1 : ¬ 0x2000000 ≤ a := by omega
  have h2 : ¬ 0x1C00000 ≤ a := by omega
  simp only [Device.regRead, ha, h1, h2, hp, hon, ho, ne_eq, not_true_eq_false, if_false, Bool.not_true, Bool.false_eq_true]

/-! ### Sealed content -/

/-- Outside UNSEALED a write changes no register whose fields are all sealed (R493). -/
theorem writeWord_sealed {fields : List FieldD} (h : ∀ f ∈ fields, f.acc = .rws) (old data : W32) : writeWord false fields old data = old := by
  unfold writeWord
  induction fields with
  | nil => rfl
  | cons f fs ih =>
    have hf : writeField false data old f = old := by simp [writeField, h f (by simp)]
    rw [List.foldl_cons, hf]
    exact ih fun g hg => h g (by simp [hg])

/-- Outside UNSEALED a write that differs from a register of sealed fields is a refused write (R493). -/
theorem Device.writeReg_sealed {fields : List FieldD} (hf : ∀ f ∈ fields, f.acc = .rws) (hu : d.unsealed = false)
    (hd : rwsDiffers fields (d.word a) data = true) : d.writeReg k a fields data = (d.setWord a (d.word a)).refuseSealed k a data := by
  simp only [Device.writeReg, hu, hd, writeWord_sealed hf, Bool.not_false, Bool.and_self, if_true]

/-- A refused write is counted, audited and raises its alarm, and nothing else (R493). -/
theorem Frame.refuseSealed (h : Frame bs rs ps d e) (hr : rs Reg.SEA0.CNT_REFUSED_WRITE = true) (hb : Block.rdata ∈ bs) (ha : Block.alarms ∈ bs) :
    Frame bs rs ps d (e.refuseSealed k a data) :=
  ((h.audit.count (.inl hr)).alarm ha).wrRefused hb

/-- The registers after a refused write: the counter of refused writes has advanced. -/
theorem Device.word_refuseSealed {b : Nat} (h : sharedReg b = false) :
    (d.refuseSealed k a data).word b =
      if b = Reg.SEA0.CNT_REFUSED_WRITE then counted (d.word Reg.SEA0.CNT_REFUSED_WRITE) 1 else d.word b := by
  have hc : sharedReg Reg.SEA0.CNT_REFUSED_WRITE = false := by decide
  have h1 : (d.refuseSealed k a data).word b = (((d.audit 0x01 k (d.alarmPolicy 0) 0 a data).count Reg.SEA0.CNT_REFUSED_WRITE).alarm 0).word b := rfl
  rw [h1, Device.word_alarm h, Device.word_count, Device.word_audit h, Device.word_audit hc]
  rfl

/-- Two words that differ do so in one of their halves. -/
theorem rwsDiffers_halves {old data : W32} (h : data ≠ old) : rwsDiffers [⟨0, 16, .rws⟩, ⟨16, 16, .rws⟩] old data = true := by
  by_contra hn
  simp only [rwsDiffers, List.any_cons, List.any_nil, FieldD.of, beq_self_eq_true, Bool.true_and, Bool.or_false, Bool.or_eq_true, bne_iff_ne,
    ne_eq, not_or, not_not] at hn
  obtain ⟨hlo, hhi⟩ := hn
  exact h (BitVec.eq_of_toNat_eq (by omega))

end Sys2Proof.Machine
end

section
/-! PROOFS. Registers read and written by every route (O24). -/

namespace Sys2Proof.Machine

variable {s : State} {route : Route} {data : W32}

/-! ### The page header -/

/-- A write of EV_ENABLE takes the word (R476). -/
theorem effect_writeEvEnable_hlt (ho : s.dev.routeOpen route = true) (hp : s.dev.pageOn .hlt = true) :
    Effect (.registerWrite route (BitVec.ofNat _ (pageBase .hlt + 0x18)) data) s (Device.setEvEn { s.dev with wrRefused := false } .hlt data) := by
  have h := Effect.registerWrite_at (a := pageBase .hlt + 0x18) (data := data) ho (by decide)
  rw [Device.regWrite_page (p := .hlt) (by decide) (by decide) (by decide) (by decide), hp] at h
  exact h

/-- A write of EV_STICKY clears the bits written 1 (R476). -/
theorem effect_writeEvSticky_trg (ho : s.dev.routeOpen route = true) (hp : s.dev.pageOn .trg = true) :
    Effect (.registerWrite route (BitVec.ofNat _ (pageBase .trg + 0x14)) data) s
      (Device.setSticky { s.dev with wrRefused := false } .trg (s.dev.sticky .trg &&& ~~~data)) := by
  have h := Effect.registerWrite_at (a := pageBase .trg + 0x14) (data := data) ho (by decide)
  rw [Device.regWrite_page (p := .trg) (by decide) (by decide) (by decide) (by decide), hp] at h
  exact h

theorem writeEvEnable_hlt_completes (hq : s.dev.serviceRun = none) (ho : s.dev.routeOpen route = true) (hp : s.dev.pageOn .hlt = true) :
    Completes (.registerWrite route (BitVec.ofNat _ (pageBase .hlt + 0x18)) data) s fun d => Leaves [.rdata, .evEnable] (regs []) [] s.dev d
      ∧ d.evEn .hlt = data ∧ d.wrRefused = false ∧ ∀ p, p ≠ .hlt → d.evEn p = s.dev.evEn p := by
  refine (effect_writeEvEnable_hlt ho hp).completes [.rdata, .evEnable] (regs []) [] hq (by decide)
    ((Frame.refl.wrRefused (by decide)).setEvEn (by decide)) fun t hs hl => ⟨hl, ?_, ?_, fun p hne => ?_⟩
  · rw [hs.evEn (by decide), Device.evEn_setEvEn, if_pos rfl]
  · exact hs.wrRefused (by decide)
  · rw [hs.evEn (by decide), Device.evEn_setEvEn, if_neg hne]; rfl

theorem writeEvSticky_trg_completes (hq : s.dev.serviceRun = none) (ho : s.dev.routeOpen route = true) (hp : s.dev.pageOn .trg = true) :
    Completes (.registerWrite route (BitVec.ofNat _ (pageBase .trg + 0x14)) data) s fun d => Leaves [.rdata] (regs []) [.trg] s.dev d
      ∧ d.sticky .trg = s.dev.sticky .trg &&& ~~~data ∧ d.wrRefused = false := by
  refine (effect_writeEvSticky_trg ho hp).completes [.rdata] (regs []) [.trg] hq (by decide)
    ((Frame.refl.wrRefused (by decide)).setSticky (by decide)) fun t hs hl => ⟨hl, ?_, hs.wrRefused (by decide)⟩
  rw [hs.events .trg (by decide) rfl, Device.sticky_setSticky, if_pos rfl]

/-! ### Writes that change nothing -/

/-- A page without power takes no write (R477). -/
theorem effect_write_noPower (ho : s.dev.routeOpen route = true) (hp : s.dev.pageOn .trg = false) :
    Effect (.registerWrite route (BitVec.ofNat _ Reg.TRG.COND_CTRL) data) s { s.dev with wrRefused := false } := by
  have h := Effect.registerWrite_at (a := Reg.TRG.COND_CTRL) (data := data) ho (by decide)
  rw [Device.regWrite_page (p := .trg) (by decide) (by decide) (by decide) (by decide), hp] at h
  exact h

/-- An unaligned write is ignored (R9). -/
theorem effect_write_unaligned {addr : RegAddr} (ho : s.dev.routeOpen route = true) (hr : routeReaches addr.toNat route = true)
    (ha : addr.toNat % 4 ≠ 0) : Effect (.registerWrite route addr data) s { s.dev with wrRefused := false } := by
  have h := Effect.registerWrite (s := s) (route := route) (data := data) addr
  rwa [ho, hr, Bool.and_self, if_pos rfl, Device.regWrite_unaligned ha] at h

/-- A core reaches no register past the map of BAR0's (R30). -/
theorem effect_write_beyond {core : Core} {addr : RegAddr} (hr : dspReaches addr.toNat = false) :
    Effect (.registerWrite (.dsp core) addr data) s s.dev := by
  have h := Effect.registerWrite (s := s) (route := .dsp core) (data := data) addr
  rwa [routeReaches, hr, Bool.and_false, if_neg Bool.false_ne_true] at h

/-! ### Sealed content and the authenticated mark -/

/-- A write of INJCAL that differs, outside UNSEALED, is a refused write (R493). -/
theorem effect_writeInjcal_sealed (ho : s.dev.routeOpen route = true) (hp : s.dev.pageOn .sea1 = true) (hu : s.dev.unsealed = false)
    (hne : data ≠ s.dev.word (Reg.SEA1.INJCAL 0)) :
    Effect (.registerWrite route (BitVec.ofNat _ (Reg.SEA1.INJCAL 0)) data) s
      ((Device.setWord { s.dev with wrRefused := false } (Reg.SEA1.INJCAL 0) (s.dev.word (Reg.SEA1.INJCAL 0))).refuseSealed
        (routeCode route) (Reg.SEA1.INJCAL 0) data) := by
  have h := Effect.registerWrite_at (a := Reg.SEA1.INJCAL 0) (data := data) ho (by decide)
  rw [Device.regWrite_page (p := .sea1) (by decide) (by decide) (by decide) (by decide), hp] at h
  have hw : Device.writeReg { s.dev with wrRefused := false } (routeCode route) (Reg.SEA1.INJCAL 0) [⟨0, 16, .rws⟩, ⟨16, 16, .rws⟩] data = _ :=
    Device.writeReg_sealed (by decide) hu (rwsDiffers_halves hne)
  exact hw ▸ h

theorem writeInjcal_sealed_completes (hq : s.dev.serviceRun = none) (ho : s.dev.routeOpen route = true) (hp : s.dev.pageOn .sea1 = true)
    (hu : s.dev.unsealed = false) (hne : data ≠ s.dev.word (Reg.SEA1.INJCAL 0)) :
    Completes (.registerWrite route (BitVec.ofNat _ (Reg.SEA1.INJCAL 0)) data) s fun d =>
      Leaves [.rdata] (regs [Reg.SEA0.CNT_REFUSED_WRITE]) [] s.dev d
      ∧ d.word (Reg.SEA1.INJCAL 0) = s.dev.word (Reg.SEA1.INJCAL 0) ∧ d.wrRefused = true
      ∧ d.word Reg.SEA0.CNT_REFUSED_WRITE = counted (s.dev.word Reg.SEA0.CNT_REFUSED_WRITE) 1 := by
  refine (effect_writeInjcal_sealed ho hp hu hne).completes [.rdata] (regs [Reg.SEA0.CNT_REFUSED_WRITE]) [] hq (by decide)
    (((Frame.refl.wrRefused (by decide)).setWord_same rfl).refuseSealed (by decide) (by decide) (by decide))
    fun t hs hl => ⟨hl, hl.plain (by decide) (by decide), hs.wrRefused (by decide), ?_⟩
  rw [hs.plain rfl (by decide), Device.word_refuseSealed (by decide), if_pos rfl, Device.word_setWord_ne _ _ (by decide)]
  rfl

/-- A write to UNSEAL while its page has power: refused without the mark, else the write under the mark's slot (R494). -/
theorem effect_rwaWrite_unseal (slot : Option (Fin 4)) (ho : s.dev.routeOpen route = true) (hp : s.dev.pageOn .sea0 = true) :
    Effect (.rwaWrite route slot (BitVec.ofNat _ Reg.SEA0.UNSEAL) data) s
      (match slot with
        | none => Device.refuseUnmarked { s.dev with wrRefused := false } (routeCode route) Reg.SEA0.UNSEAL data
        | some k => Device.writeUnseal { s.dev with wrRefused := false } (routeCode route) k.val data) := by
  have h := Effect.rwaWrite_at (a := Reg.SEA0.UNSEAL) (data := data) slot ho (by decide)
  have hp' : Device.pageOn { s.dev with wrRefused := false } .sea0 = true := hp
  have hpage : ¬ Reg.SEA0.UNSEAL < 0x1800000 := by decide
  rw [Device.regWrite_rwa (by decide) (by decide)] at h
  simp only [Device.writeRwa, hpage, if_false, hp', Bool.not_true, Bool.false_eq_true] at h
  cases slot <;> exact h

/-! ### Reads that latch -/

/-- A read of FRONT_LO takes the low half of FRONT and latches the high half (R458). -/
theorem Device.regRead_front {d : Device} (hp : d.pageOn .evb = true) :
    d.regRead Reg.EVB.FRONT_LO = d.latchHi Reg.EVB.FRONT_LO (BitVec.ofInt 64 d.evb.front).toNat :=
  Device.regRead_block (p := .evb) (by decide) (by decide) (by decide) hp (by decide)

/-- The two halves of a 64-bit word, as a latching pair holds them. -/
theorem halves_append (w : BitVec 64) : BitVec.ofNat 32 (w.toNat / 2 ^ 32) ++ BitVec.ofNat 32 w.toNat = w := by
  apply BitVec.eq_of_toNat_eq
  rw [BitVec.toNat_append, BitVec.toNat_ofNat, BitVec.toNat_ofNat, ← Nat.shiftLeft_add_eq_or_of_lt (Nat.mod_lt _ (by decide)), Nat.shiftLeft_eq]
  omega

/-- The byte at the lowest address of a word read through PCI Express (R12). -/
theorem Device.rdataBytes_zero (d : Device) : d.rdataBytes.getD 0 0 = d.rdata.toNat % 256 := by
  show (d.rdata.setWidth 64).toNat / 256 ^ 0 % 256 = _
  rw [BitVec.toNat_setWidth, pow_zero, Nat.div_one, Nat.mod_mod_of_dvd _ (by decide)]

theorem readFront_completes (hq : s.dev.serviceRun = none) (ho : s.dev.routeOpen route = true) (hp : s.dev.pageOn .evb = true) :
    Completes (.latchedPairRead route (BitVec.ofNat _ Reg.EVB.FRONT_LO)) s fun d => Leaves [.rdata] (regs [Reg.EVB.FRONT_HI]) [] s.dev d
      ∧ d.word Reg.EVB.FRONT_HI ++ d.rdata = BitVec.ofInt 64 s.dev.evb.front
      ∧ d.rdataBytes.getD 0 0 = (BitVec.ofInt 64 s.dev.evb.front).toNat % 256 := by
  have h := Effect.latchedPairRead_at (a := Reg.EVB.FRONT_LO) ho (by decide)
  rw [Device.regRead_front hp] at h
  refine h.completes [.rdata] (regs [Reg.EVB.FRONT_HI]) [] hq (by decide)
    ((Frame.refl.setWord (.inl (by decide))).rdata (by decide)) fun t hs hl => ⟨hl, ?_, ?_⟩
  · have hhi : t.word Reg.EVB.FRONT_HI = _ := (hs.plain rfl (by decide)).trans (Device.word_setWord_self s.dev Reg.EVB.FRONT_HI _)
    rw [hhi, hs.rdata (by decide)]
    exact halves_append _
  · rw [Device.rdataBytes_zero, hs.rdata (by decide)]
    show (BitVec.ofNat 32 _).toNat % 256 = _
    rw [BitVec.toNat_ofNat, Nat.mod_mod_of_dvd _ (by decide)]

/-! ### Partial writes, and a save of the mask -/

theorem Effect.barPartialWrite (addr : RegAddr) (enables : BitVec 4) : Effect (.barPartialWrite addr data enables) s
    (if !s.dev.domOn 11 then s.dev
     else if enables = 0xF#4 then s.dev.regWrite .pcie none addr.toNat data
     else s.dev.count Reg.PCI.CNT_BE_IGNORED) := rfl

/-- With all byte enables it is a write by the PCI Express route (R458). -/
theorem effect_barPartialWrite_whole {addr : RegAddr} (hd : s.dev.domOn 11 = true) :
    Effect (.barPartialWrite addr data 0xF#4) s (s.dev.regWrite .pcie none addr.toNat data) := by
  have h := Effect.barPartialWrite (s := s) (data := data) addr 0xF#4
  rwa [hd, Bool.not_true, if_neg Bool.false_ne_true, if_pos rfl] at h

/-- Without all of them it is ignored and counted (R458). -/
theorem effect_barPartialWrite_part {addr : RegAddr} {enables : BitVec 4} (hd : s.dev.domOn 11 = true) (he : enables ≠ 0xF#4) :
    Effect (.barPartialWrite addr data enables) s (s.dev.count Reg.PCI.CNT_BE_IGNORED) := by
  have h := Effect.barPartialWrite (s := s) (data := data) addr enables
  rwa [hd, Bool.not_true, if_neg Bool.false_ne_true, if_neg he] at h

theorem barPartialWrite_part_completes {addr : RegAddr} {enables : BitVec 4} (hq : s.dev.serviceRun = none) (hd : s.dev.domOn 11 = true)
    (he : enables ≠ 0xF#4) :
    Completes (.barPartialWrite addr data enables) s fun d => Leaves [] (regs [Reg.PCI.CNT_BE_IGNORED]) [] s.dev d
      ∧ d.word Reg.PCI.CNT_BE_IGNORED = counted (s.dev.word Reg.PCI.CNT_BE_IGNORED) 1 := by
  refine (effect_barPartialWrite_part hd he).completes [] (regs [Reg.PCI.CNT_BE_IGNORED]) [] hq (by decide)
    (Frame.refl.count (.inl (by decide))) fun t hs hl => ⟨hl, ?_⟩
  rw [hs.plain rfl (by decide), Device.word_count, if_pos rfl]
  rfl

theorem Effect.maskSave : Effect .maskSave s (if s.dev.pageOn .hlt then s.dev.saveMask else s.dev) := rfl

/-- A save of the mask begins with its first page (R562). -/
theorem effect_maskSave (hp : s.dev.pageOn .hlt = true) (hn : s.dev.pageOn .nvs = true) (hb : s.dev.flag Reg.HLT.MASK_SAVE_BUSY = false) :
    Effect .maskSave s
      (let d := Device.setFlag { s.dev with hlt := { s.dev.hlt with maskLeft := (List.range s.dev.maskPages).map (· + 272) } } Reg.HLT.MASK_SAVE_BUSY true
       d.maskNext d.nextMask) := by
  have h := Effect.maskSave (s := s)
  rwa [hp, if_pos rfl, Device.saveMask, hb, hn, Bool.not_true, Bool.or_self, if_neg Bool.false_ne_true] at h

/-- Settles O24: each clause is the effect of its access, with the frame of that effect where the clause completes. -/
theorem registerReadsAndWrites : Obligations.RegisterReadsAndWrites := by
  unfold Obligations.RegisterReadsAndWrites
  exact ⟨fun _ _ _ => writeEvEnable_hlt_completes,
    fun _ _ _ => writeEvSticky_trg_completes,
    fun _ _ _ => effect_write_noPower,
    fun _ _ _ _ => effect_write_unaligned,
    fun _ _ _ _ => effect_write_beyond,
    fun _ _ _ => writeInjcal_sealed_completes,
    fun _ _ _ => effect_rwaWrite_unseal none,
    fun _ _ slot _ => effect_rwaWrite_unseal (some slot),
    fun _ _ => readFront_completes,
    fun _ _ _ => effect_barPartialWrite_whole,
    fun _ _ _ _ => barPartialWrite_part_completes,
    fun _ => effect_maskSave⟩

end Sys2Proof.Machine
end

section
/-! PROOFS. Pixels, cluster converters, regions and receivers after each other's updates, and what a command's follow-up leaves of them. -/

namespace Sys2Proof.Machine

variable {bs : List Block} {rs : Nat → Bool} {ps : List Page} {d e : Device} {i j : Nat}

/-- A command with a known effect: what the command runs, applied to the device, is that effect. -/
theorem Effect.of_run {c : Instr} {s : State} {f : Device → Device} (h : exec c s = run f s) (he : f s.dev = e) : Effect c s e :=
  he ▸ h

/-! ### Reading a unit after an update -/

@[simp] theorem Device.pixel_updPixel_self (d : Device) (i : Nat) (f : PixelSt → PixelSt) : (d.updPixel i f).pixel i = f (d.pixel i) :=
  SMap.get_upd_self _ _ _ _
theorem Device.pixel_updPixel_ne {f : PixelSt → PixelSt} (h : j ≠ i) : (d.updPixel i f).pixel j = d.pixel j := SMap.get_upd_ne _ _ _ h
@[simp] theorem Device.pixel_updConv (d : Device) (c : Nat) (f : ConvSt → ConvSt) (i : Nat) : (d.updConv c f).pixel i = d.pixel i := rfl
@[simp] theorem Device.conv_updConv_self (d : Device) (c : Nat) (f : ConvSt → ConvSt) : (d.updConv c f).conv c = f (d.conv c) :=
  SMap.get_upd_self _ _ _ _
theorem Device.conv_updConv_ne {f : ConvSt → ConvSt} (h : j ≠ i) : (d.updConv i f).conv j = d.conv j := SMap.get_upd_ne _ _ _ h
@[simp] theorem Device.conv_updPixel (d : Device) (i : Nat) (f : PixelSt → PixelSt) (c : Nat) : (d.updPixel i f).conv c = d.conv c := rfl
@[simp] theorem Device.region_updRegion_self (d : Device) (r : Nat) (f : RegionSt → RegionSt) : (d.updRegion r f).region r = f (d.region r) :=
  SMap.get_upd_self _ _ _ _
theorem Device.region_updRegion_ne {f : RegionSt → RegionSt} (h : j ≠ i) : (d.updRegion i f).region j = d.region j := SMap.get_upd_ne _ _ _ h
@[simp] theorem Device.region_count (d : Device) (a n r : Nat) : (d.count a n).region r = d.region r := rfl

@[simp] theorem Device.pixel_noteQuiet (d : Device) (before : Bool) (n : Die) (r : Region) (i : Nat) :
    (d.noteQuiet before n r).pixel i = d.pixel i := by
  unfold Device.noteQuiet; split <;> rfl
@[simp] theorem Device.conv_noteQuiet (d : Device) (before : Bool) (n : Die) (r : Region) (c : Nat) :
    (d.noteQuiet before n r).conv c = d.conv c := by
  unfold Device.noteQuiet; split <;> rfl
@[simp] theorem Device.rx_updRx_self (d : Device) (r : Nat) (f : RxSt → RxSt) : (d.updRx r f).rx r = f (d.rx r) := SMap.get_upd_self _ _ _ _
theorem Device.rx_congr (h : e.arr = d.arr) (r : Nat) : e.rx r = d.rx r := by simp only [Device.rx, h]

@[simp] theorem Device.tim_updPixel (d : Device) (i : Nat) (f : PixelSt → PixelSt) : (d.updPixel i f).tim = d.tim := rfl
@[simp] theorem Device.tim_updConv (d : Device) (c : Nat) (f : ConvSt → ConvSt) : (d.updConv c f).tim = d.tim := rfl

/-- An output level does not bear on the mask of a pixel (R26). -/
theorem Device.masked_updPixel_high (d : Device) (i : Nat) (b : Bool) : (d.updPixel i fun p => { p with high := b }).masked i = d.masked i := by
  simp only [Device.masked, Device.pixel_updPixel_self]; rfl

/-! ### Frames -/

theorem Frame.updPixel (h : Frame bs rs ps d e) {f : PixelSt → PixelSt} (hb : Block.arr ∈ bs) : Frame bs rs ps d (e.updPixel i f) := h.arr hb
theorem Frame.updConv (h : Frame bs rs ps d e) {f : ConvSt → ConvSt} (hb : Block.arr ∈ bs) : Frame bs rs ps d (e.updConv i f) := h.arr hb
theorem Frame.updRegion (h : Frame bs rs ps d e) {f : RegionSt → RegionSt} (hb : Block.arr ∈ bs) : Frame bs rs ps d (e.updRegion i f) := h.arr hb
theorem Frame.noteQuiet (h : Frame bs rs ps d e) {before : Bool} {n : Die} {r : Region} (hb : Block.arr ∈ bs) :
    Frame bs rs ps d (e.noteQuiet before n r) :=
  Frame.ite (fun _ => h.updRegion hb) fun _ => h

/-! ### What a frame that leaves the hit path alone says of its units -/

theorem Leaves.arr (h : Leaves bs rs ps d e) (hb : Block.arr ∉ bs) : e.arr = d.arr := h.block .arr hb (by decide)
theorem Leaves.clock (h : Leaves bs rs ps d e) (hb : Block.clock ∉ bs) : e.clock = d.clock := h.block .clock hb (by decide)
theorem Leaves.tim (h : Leaves bs rs ps d e) (hb : Block.tim ∉ bs) : e.tim = d.tim := h.block .tim hb (by decide)

theorem Leaves.pixel (h : Leaves bs rs ps d e) (hb : Block.arr ∉ bs) (i : Nat) : e.pixel i = d.pixel i := by
  simp only [Device.pixel, h.arr hb]
theorem Leaves.conv (h : Leaves bs rs ps d e) (hb : Block.arr ∉ bs) (c : Nat) : e.conv c = d.conv c := by
  simp only [Device.conv, h.arr hb]
theorem Leaves.region (h : Leaves bs rs ps d e) (hb : Block.arr ∉ bs) (r : Nat) : e.region r = d.region r := by
  simp only [Device.region, h.arr hb]

end Sys2Proof.Machine
end

section
/-! PROOFS. The edges of a pixel and the hits they make (O4). -/

namespace Sys2Proof.Machine

variable {bs : List Block} {rs : Nat → Bool} {ps : List Page} {d e : Device} {i : Nat} {s : State}

/-! ### The codes of start and stop registers (R98) -/

/-- One more than the farthest tap at 1 among the first `n` taps, 0 when none is: the start code before it is cut to 7 bits. -/
def farthestTap (r : BitVec 80) (n : Nat) : Nat := (List.range n).foldl (fun m k => if r.getLsbD k then k + 1 else m) 0

theorem startCode_eq (r : BitVec 80) : startCode r = BitVec.ofNat 7 (farthestTap r 80) := rfl

theorem farthestTap_succ (r : BitVec 80) (n : Nat) : farthestTap r (n + 1) = if r.getLsbD n then n + 1 else farthestTap r n := by
  simp only [farthestTap, List.range_succ, List.foldl_append, List.foldl_cons, List.foldl_nil]

theorem farthestTap_le (r : BitVec 80) (n : Nat) : farthestTap r n ≤ n := by
  induction n with
  | zero => exact Nat.le_refl 0
  | succ n ih => rw [farthestTap_succ]; split <;> omega

/-- The tap it names is at 1. -/
theorem getLsbD_farthestTap (r : BitVec 80) (n : Nat) (h : farthestTap r n ≠ 0) : r.getLsbD (farthestTap r n - 1) = true := by
  induction n with
  | zero => exact absurd rfl h
  | succ n ih =>
    rw [farthestTap_succ] at h ⊢
    split at h
    · next hn => rw [if_pos hn]; exact hn
    · next hn => rw [if_neg hn]; exact ih h

/-- The taps past it are at 0. -/
theorem getLsbD_of_farthestTap_le (r : BitVec 80) {n k : Nat} (h : farthestTap r n ≤ k) (hk : k < n) : r.getLsbD k = false := by
  induction n with
  | zero => omega
  | succ n ih =>
    rw [farthestTap_succ] at h
    split at h
    · omega
    · next hn =>
      rcases Nat.lt_succ_iff_lt_or_eq.mp hk with hlt | rfl
      · exact ih h hlt
      · simpa using hn

/-- A register with a tap at 1 has one below its 80th. -/
theorem exists_tap {r : BitVec 80} (h : r ≠ 0) : ∃ k < 80, r.getLsbD k = true := by
  by_contra hn
  push Not at hn
  exact h (BitVec.eq_of_getLsbD_eq fun k hk => by simpa using hn k hk)

theorem startCode_toNat (r : BitVec 80) : (startCode r).toNat = farthestTap r 80 := by
  have h := farthestTap_le r 80
  rw [startCode_eq, BitVec.toNat_ofNat]
  omega

theorem startCode_zero : startCode 0 = 0 := by
  apply BitVec.eq_of_toNat_eq
  rw [startCode_toNat]
  by_contra h
  have h1 := getLsbD_farthestTap 0 80 h
  simp at h1

/-- A start code names the farthest tap at 1 (R98). -/
theorem startCode_farthest (r : BitVec 80) (hr : r ≠ 0) :
    1 ≤ (startCode r).toNat ∧ (startCode r).toNat ≤ 80 ∧ r.getLsbD ((startCode r).toNat - 1) = true
      ∧ ∀ k, (startCode r).toNat ≤ k → r.getLsbD k = false := by
  obtain ⟨k, hk, hbit⟩ := exists_tap hr
  rw [startCode_toNat]
  have hpos : farthestTap r 80 ≠ 0 := fun h0 => by
    have := getLsbD_of_farthestTap_le r (n := 80) (k := k) (by omega) hk
    simp_all
  refine ⟨Nat.pos_of_ne_zero hpos, farthestTap_le r 80, getLsbD_farthestTap r 80 hpos, fun j hj => ?_⟩
  by_cases h80 : j < 80
  · exact getLsbD_of_farthestTap_le r hj h80
  · exact BitVec.getLsbD_of_ge r j (by omega)

theorem stopCode_zero : stopCode 0 = 80 := by
  have h : ((List.range 80).find? fun k => (0 : BitVec 80).getLsbD k) = none := by simp
  rw [stopCode, h]; rfl

/-- A stop code names the first tap at 1 (R98). -/
theorem stopCode_first (r : BitVec 80) (hr : r ≠ 0) : r.getLsbD (stopCode r).toNat = true ∧ ∀ k, k < (stopCode r).toNat → r.getLsbD k = false := by
  obtain ⟨k, hk, hbit⟩ := exists_tap hr
  obtain ⟨m, hm⟩ : ∃ m, ((List.range 80).find? fun k => r.getLsbD k) = some m :=
    Option.isSome_iff_exists.mp (List.find?_isSome.mpr ⟨k, List.mem_range.mpr hk, hbit⟩)
  obtain ⟨hset, hlt, hbelow⟩ := List.find?_range_eq_some.mp hm
  have hcode : (stopCode r).toNat = m := by
    rw [stopCode, hm, Option.getD_some, BitVec.toNat_ofNat]
    exact Nat.mod_eq_of_lt (by have := List.mem_range.mp hlt; omega)
  rw [hcode]
  exact ⟨hset, fun j hj => by simpa using hbelow j hj⟩

/-! ### Leading edges -/

/-- The hit that a pixel latches at a leading edge outside a contest (R91, R95, R133). -/
def Device.edgeHit (d : Device) (i : Nat) (granted : Bool) : RawHit :=
  { row := BitVec.ofNat 8 (pixRow i), col := BitVec.ofNat 9 (pixCol i), tb := d.flag Reg.TIM0.STATUS_TIME_BASE, c1 := d.tim.count.setWidth 24, c2 := 0
    s := 0, p := 0, granted := granted, contested := false, sat := false
    rangeHi := d.gainAct (pixDie i) (pixRegion i), rangeChanged := (d.region (regNo (pixDie i) (pixRegion i))).transition
    wdFreed := false }

/-- A pixel whose leading edge gives a hit: its output is high, and it holds the hit. -/
def Device.fires (d : Device) (i : Nat) (h : RawHit) : Device :=
  d.updPixel i fun p => { p with run := .firing, hit := h }

/-- What lets a leading edge give a hit (R25, R26, R68, R91). -/
structure Device.Ready (d : Device) (i : Nat) : Prop where
  low : (d.pixel i).high = false
  armed : (d.pixel i).run = .armed
  unchecked : (d.pixel i).checking = false
  unmasked : d.masked i = false
  free : d.feInhibit = false

theorem Device.updConv_const (d : Device) (c : Nat) (f : ConvSt → ConvSt) : d.updConv c f = d.updConv c fun _ => f (d.conv c) := rfl

/-- A leading edge that finds the converter free takes it (R95). -/
theorem Device.leading_free {contest : Bool} {start : BitVec 80} (h : d.Ready i) (hc : (d.conv (pixCluster i)).holder = none) :
    d.leading i contest false start = (((d.updPixel i fun p => { p with high := true }).updConv (pixCluster i) fun _ =>
      { holder := some i, firstClock := d.clock, firstCount := d.tim.count.setWidth 24, start := start }).fires i (d.edgeHit i true)) := by
  obtain ⟨low, armed, unchecked, unmasked, free⟩ := h
  have hfree : (d.updPixel i fun p => { p with high := true }).feInhibit = false := free
  simp only [Device.leading, low, armed, bne_self_eq_false, Bool.or_self, unchecked, Device.masked_updPixel_high, unmasked, hfree,
    Bool.false_eq_true, if_false, Device.latchCount, Device.conv_updPixel, hc, Option.isNone_none, Option.isSome_none, Bool.and_false,
    Bool.false_and, Bool.or_false, if_true, Option.isNone_iff_eq_none]
  rw [Device.updConv_const, Device.conv_updPixel, if_pos hc]
  rfl

/-- A leading edge outside a contest that finds the converter held is not granted (R95). -/
theorem Device.leading_held {start : BitVec 80} (h : d.Ready i) (hc : (d.conv (pixCluster i)).holder.isSome = true) :
    d.leading i false false start = (d.updPixel i fun p => { p with high := true }).fires i (d.edgeHit i false) := by
  obtain ⟨low, armed, unchecked, unmasked, free⟩ := h
  obtain ⟨j, hj⟩ := Option.isSome_iff_exists.mp hc
  have hfree : (d.updPixel i fun p => { p with high := true }).feInhibit = false := free
  simp only [Device.leading, low, armed, bne_self_eq_false, Bool.or_self, unchecked, Device.masked_updPixel_high, unmasked, hfree,
    Bool.false_eq_true, if_false, Device.latchCount, Device.conv_updPixel, hj, Option.isNone_some, Bool.false_and]
  rfl

/-- A leading edge at a masked pixel gives no hit (R26). -/
theorem Device.leading_masked {contest edge : Bool} {start : BitVec 80} (h : d.masked i = true) :
    d.leading i contest edge start = d.updPixel i fun p => { p with high := true } := by
  simp only [Device.leading, Device.masked_updPixel_high, h, Bool.or_true, Bool.true_or, if_true]

/-- A pixel with power takes its leading edge. -/
theorem effect_leadingEdge {pix : Pix} {contest edge : Bool} {start : BitVec 80} (hp : s.dev.pageOn (pixPage (pixNo pix)) = true) :
    Effect (.discriminatorLeadingEdge pix contest edge start) s (s.dev.leading (pixNo pix) contest edge start) :=
  Effect.of_run (show execDiscriminatorLeadingEdge pix contest edge start s = run _ s from rfl) (if_pos hp)

theorem Frame.fires (h : Frame bs rs ps d e) {x : RawHit} (hb : Block.arr ∈ bs) : Frame bs rs ps d (e.fires i x) := h.arr hb

theorem Device.pixel_fires_self (d : Device) (i : Nat) (x : RawHit) : (d.fires i x).pixel i = { d.pixel i with run := .firing, hit := x } :=
  Device.pixel_updPixel_self _ _ _
theorem Device.pixel_fires_ne {i j : Nat} {x : RawHit} (h : j ≠ i) : (d.fires i x).pixel j = d.pixel j := Device.pixel_updPixel_ne h
theorem Device.conv_fires (d : Device) (i : Nat) (x : RawHit) (c : Nat) : (d.fires i x).conv c = d.conv c := rfl

theorem leadingEdge_granted_completes {pix : Pix} {contest : Bool} {start : BitVec 80} (hq : s.dev.serviceRun = none)
    (hp : s.dev.pageOn (pixPage (pixNo pix)) = true) (h : s.dev.Ready (pixNo pix)) (hc : (s.dev.conv (pixCluster (pixNo pix))).holder = none) :
    Completes (.discriminatorLeadingEdge pix contest false start) s fun d => Leaves [.arr] (regs []) [] s.dev d
      ∧ (d.pixel (pixNo pix)).high = true ∧ (d.pixel (pixNo pix)).run = .firing
      ∧ (d.pixel (pixNo pix)).hit.c1 = s.dev.tim.count.setWidth 24 ∧ (d.pixel (pixNo pix)).hit.granted = true
      ∧ (d.pixel (pixNo pix)).hit.contested = false ∧ (d.pixel (pixNo pix)).hit.tb = s.dev.flag Reg.TIM0.STATUS_TIME_BASE
      ∧ (d.pixel (pixNo pix)).hit.rangeHi = s.dev.gainAct (pixDie (pixNo pix)) (pixRegion (pixNo pix))
      ∧ d.conv (pixCluster (pixNo pix)) = { holder := some (pixNo pix), firstClock := s.dev.clock, firstCount := s.dev.tim.count.setWidth 24, start := start }
      ∧ (∀ j, j ≠ pixNo pix → d.pixel j = s.dev.pixel j) ∧ (∀ c, c ≠ pixCluster (pixNo pix) → d.conv c = s.dev.conv c) := by
  have he := effect_leadingEdge (contest := contest) (edge := false) (start := start) hp
  rw [Device.leading_free h hc] at he
  refine he.completes [.arr] (regs []) [] hq (by decide)
    (((Frame.refl.updPixel (by decide)).updConv (by decide)).fires (by decide)) fun t hs hl => ⟨hl, ?_⟩
  simp only [hs.pixel (by decide), hs.conv (by decide), Device.pixel_fires_self, Device.conv_fires, Device.pixel_updConv,
    Device.pixel_updPixel_self, Device.conv_updConv_self, true_and]
  refine ⟨rfl, rfl, rfl, rfl, rfl, fun j hj => ?_, fun c hc => ?_⟩
  · rw [Device.pixel_fires_ne hj, Device.pixel_updConv, Device.pixel_updPixel_ne hj]
  · rw [Device.conv_updConv_ne hc, Device.conv_updPixel]

theorem leadingEdge_held_completes {pix : Pix} {start : BitVec 80} (hq : s.dev.serviceRun = none)
    (hp : s.dev.pageOn (pixPage (pixNo pix)) = true) (h : s.dev.Ready (pixNo pix)) (hc : (s.dev.conv (pixCluster (pixNo pix))).holder.isSome = true) :
    Completes (.discriminatorLeadingEdge pix false false start) s fun d => Leaves [.arr] (regs []) [] s.dev d
      ∧ (d.pixel (pixNo pix)).high = true ∧ (d.pixel (pixNo pix)).run = .firing ∧ (d.pixel (pixNo pix)).hit.c1 = s.dev.tim.count.setWidth 24
      ∧ (d.pixel (pixNo pix)).hit.granted = false ∧ (d.pixel (pixNo pix)).hit.contested = false ∧ d.arr.convs = s.dev.arr.convs
      ∧ (∀ j, j ≠ pixNo pix → d.pixel j = s.dev.pixel j) := by
  have he := effect_leadingEdge (contest := false) (edge := false) (start := start) hp
  rw [Device.leading_held h hc] at he
  refine he.completes [.arr] (regs []) [] hq (by decide) ((Frame.refl.updPixel (by decide)).fires (by decide)) fun t hs hl => ⟨hl, ?_⟩
  simp only [hs.pixel (by decide), Device.pixel_fires_self, Device.pixel_updPixel_self, hs.arr (by decide), true_and]
  refine ⟨rfl, rfl, rfl, rfl, fun j hj => ?_⟩
  rw [Device.pixel_fires_ne hj, Device.pixel_updPixel_ne hj]

theorem leadingEdge_masked_completes {pix : Pix} {contest edge : Bool} {start : BitVec 80} (hq : s.dev.serviceRun = none)
    (hp : s.dev.pageOn (pixPage (pixNo pix)) = true) (hm : s.dev.masked (pixNo pix) = true) :
    Completes (.discriminatorLeadingEdge pix contest edge start) s fun d => Leaves [.arr] (regs []) [] s.dev d
      ∧ d.pixel (pixNo pix) = { s.dev.pixel (pixNo pix) with high := true } ∧ d.arr.convs = s.dev.arr.convs
      ∧ (∀ j, j ≠ pixNo pix → d.pixel j = s.dev.pixel j) := by
  have he := effect_leadingEdge (contest := contest) (edge := edge) (start := start) hp
  rw [Device.leading_masked hm] at he
  refine he.completes [.arr] (regs []) [] hq (by decide) (Frame.refl.updPixel (by decide)) fun t hs hl => ⟨hl, ?_⟩
  simp only [hs.pixel (by decide), Device.pixel_updPixel_self, hs.arr (by decide), true_and]
  exact ⟨rfl, fun j hj => Device.pixel_updPixel_ne hj⟩

/-! ### Trailing edges -/

/-- The end of the hit of a pixel that holds its converter (R98). -/
theorem Device.complete_held {sat : Bool} {stop : BitVec 80} (hc : (d.conv (pixCluster i)).holder = some i) :
    d.complete i false sat stop = (d.updConv (pixCluster i) fun c => { c with stop := stop, stopped := true }).updPixel i fun p =>
      { p with run := .waiting, trailClock := d.clock
               hit := { p.hit with c2 := (d.tim.count.setWidth 24).setWidth 11, s := startCode (d.conv (pixCluster i)).start, p := stopCode stop, sat := sat
                                   rangeChanged := p.hit.rangeChanged || (d.region (regNo (pixDie i) (pixRegion i))).transition
                                   rangeHi := if (d.region (regNo (pixDie i) (pixRegion i))).transition then d.gainAct (pixDie i) (pixRegion i) else p.hit.rangeHi } } := by
  simp only [Device.complete, Device.latchCount, hc, Bool.false_eq_true, if_false, if_true]
  rfl

/-- The trailing edge of a pixel over threshold (R98): its hit ends, its output falls. -/
theorem Device.trailing_firing {edge : Bool} {stop : BitVec 80} (hh : (d.pixel i).high = true) (hr : (d.pixel i).run = .firing) :
    d.trailing i edge stop = ((d.complete i edge false stop).updPixel i fun p => { p with high := false }).noteQuiet
      (d.pixelOr (pixDie i) (pixRegion i)) (pixDie i) (pixRegion i) := by
  simp only [Device.trailing, hh, hr, Bool.not_true, Bool.false_eq_true, if_false, beq_self_eq_true, if_true]

theorem effect_trailingEdge {pix : Pix} {edge : Bool} {stop : BitVec 80} (hp : s.dev.pageOn (pixPage (pixNo pix)) = true) :
    Effect (.discriminatorTrailingEdge pix edge stop) s (s.dev.trailing (pixNo pix) edge stop) :=
  Effect.of_run (show execDiscriminatorTrailingEdge pix edge stop s = run _ s from rfl) (if_pos hp)

theorem trailingEdge_completes {pix : Pix} {stop : BitVec 80} (hq : s.dev.serviceRun = none)
    (hp : s.dev.pageOn (pixPage (pixNo pix)) = true) (hh : (s.dev.pixel (pixNo pix)).high = true) (hr : (s.dev.pixel (pixNo pix)).run = .firing)
    (hc : (s.dev.conv (pixCluster (pixNo pix))).holder = some (pixNo pix)) :
    Completes (.discriminatorTrailingEdge pix false stop) s fun d => Leaves [.arr] (regs []) [] s.dev d
      ∧ (d.pixel (pixNo pix)).high = false ∧ (d.pixel (pixNo pix)).run = .waiting ∧ (d.pixel (pixNo pix)).trailClock = s.dev.clock
      ∧ (d.pixel (pixNo pix)).hit.c2 = (s.dev.tim.count.setWidth 24).setWidth 11 ∧ (d.pixel (pixNo pix)).hit.p = stopCode stop
      ∧ (d.pixel (pixNo pix)).hit.s = startCode (s.dev.conv (pixCluster (pixNo pix))).start ∧ (d.pixel (pixNo pix)).hit.sat = false
      ∧ (d.conv (pixCluster (pixNo pix))).stopped = true ∧ (∀ j, j ≠ pixNo pix → d.pixel j = s.dev.pixel j) := by
  have he := effect_trailingEdge (edge := false) (stop := stop) hp
  rw [Device.trailing_firing hh hr, Device.complete_held hc] at he
  refine he.completes [.arr] (regs []) [] hq (by decide)
    ((((Frame.refl.updConv (by decide)).updPixel (by decide)).updPixel (by decide)).noteQuiet (by decide)) fun t hs hl => ⟨hl, ?_⟩
  simp only [hs.pixel (by decide), hs.conv (by decide), Device.pixel_noteQuiet, Device.conv_noteQuiet, Device.pixel_updPixel_self,
    Device.pixel_updConv, Device.conv_updPixel, Device.conv_updConv_self, true_and]
  intro j hj
  rw [Device.pixel_updPixel_ne hj, Device.pixel_updPixel_ne hj, Device.pixel_updConv]

/-- Settles O4: the effect of each edge, with its frame, and what the codes of the registers name. -/
theorem pixelEdgesAndHits : Obligations.PixelEdgesAndHits := by
  unfold Obligations.PixelEdgesAndHits
  exact ⟨fun _ _ _ _ hq hp low armed unchecked unmasked free => leadingEdge_granted_completes hq hp ⟨low, armed, unchecked, unmasked, free⟩,
    fun _ _ _ hq hp low armed unchecked unmasked free => leadingEdge_held_completes hq hp ⟨low, armed, unchecked, unmasked, free⟩,
    fun _ _ _ _ _ => leadingEdge_masked_completes,
    fun _ _ _ => trailingEdge_completes,
    startCode_zero, stopCode_zero, startCode_farthest, stopCode_first⟩

end Sys2Proof.Machine
end

section
/-! PROOFS. The ends of a pulse, trims and gain changes (O5). -/

namespace Sys2Proof.Machine

variable {bs : List Block} {rs : Nat → Bool} {ps : List Page} {d e : Device} {i : Nat} {s : State} {pix : Pix} {die : Die} {region : Region}

/-! ### Saturation (R56) -/

theorem Device.pixel_advanceTo (d : Device) (t : BitVec 58) (i : Nat) : (d.advanceTo t).pixel i = d.pixel i := by
  unfold Device.advanceTo; dsimp only; split <;> rfl
theorem Device.conv_advanceTo (d : Device) (t : BitVec 58) (c : Nat) : (d.advanceTo t).conv c = d.conv c := by
  unfold Device.advanceTo; dsimp only; split <;> rfl

/-- The coarse count reaches a latched count of 24 bits that lies less than half their range ahead. -/
theorem Device.advanceTo_latched {n : BitVec 24} (h : (n - d.tim.count.setWidth 24).toNat < 2 ^ 23) :
    (d.advanceTo (d.tim.count + (n - d.tim.count.setWidth 24).setWidth 58)).tim.count.setWidth 24 = n := by
  have hlt : (d.tim.count + (n - d.tim.count.setWidth 24).setWidth 58 - d.tim.count).toNat < 2 ^ 57 := by bv_omega
  rw [Device.advanceTo_count d _ hlt]
  bv_omega

/-- The stop register of a line that is still high gives the code 0. -/
theorem stopCode_allOnes : stopCode (BitVec.allOnes 80) = 0 := by
  have h : ((List.range 80).find? fun k => (BitVec.allOnes 80).getLsbD k) = some 0 := by decide
  rw [stopCode, h]; rfl

/-- The device as the ToT of a pixel saturates: 1,024 CT after its leading edge. -/
def Device.saturates (d : Device) (i : Nat) : Device :=
  d.advanceTo (d.tim.count + ((d.pixel i).hit.c1 + 1024 - d.tim.count.setWidth 24).setWidth 58)

theorem effect_totSaturation (hp : s.dev.pageOn (pixPage (pixNo pix)) = true) (hr : (s.dev.pixel (pixNo pix)).run = .firing)
    (hg : ((s.dev.pixel (pixNo pix)).hit.c1 + 1024 - s.dev.tim.count.setWidth 24).toNat < 2 ^ 23) :
    Effect (.totSaturation pix) s ((s.dev.saturates (pixNo pix)).complete (pixNo pix) false true (BitVec.allOnes 80)) := by
  refine Effect.of_run (show execTotSaturation pix s = run _ s from rfl) ?_
  simp only [hp, hr, beq_self_eq_true, Bool.and_self, if_true, hg]
  rfl

theorem totSaturation_completes (hq : s.dev.serviceRun = none) (hp : s.dev.pageOn (pixPage (pixNo pix)) = true)
    (hr : (s.dev.pixel (pixNo pix)).run = .firing)
    (hg : ((s.dev.pixel (pixNo pix)).hit.c1 + 1024 - s.dev.tim.count.setWidth 24).toNat < 2 ^ 23)
    (hc : (s.dev.conv (pixCluster (pixNo pix))).holder = some (pixNo pix)) :
    Completes (.totSaturation pix) s fun d => Leaves [.arr, .clock, .tim] (regs []) [] s.dev d
      ∧ (d.pixel (pixNo pix)).run = .waiting ∧ (d.pixel (pixNo pix)).hit.sat = true ∧ (d.pixel (pixNo pix)).hit.p = 0
      ∧ d.tim.count.setWidth 24 = (s.dev.pixel (pixNo pix)).hit.c1 + 1024
      ∧ (d.pixel (pixNo pix)).hit.c2 = ((s.dev.pixel (pixNo pix)).hit.c1 + 1024).setWidth 11
      ∧ (∀ j, j ≠ pixNo pix → d.pixel j = s.dev.pixel j) := by
  have he := effect_totSaturation hp hr hg
  have hcount : (s.dev.saturates (pixNo pix)).tim.count.setWidth 24 = (s.dev.pixel (pixNo pix)).hit.c1 + 1024 := by
    rw [Device.saturates, Device.advanceTo_latched hg]
  rw [Device.complete_held (by rw [Device.saturates, Device.conv_advanceTo]; exact hc)] at he
  refine he.completes [.arr, .clock, .tim] (regs []) [] hq (by decide)
    (((Frame.refl.advanceTo (by decide) (by decide)).updConv (by decide)).updPixel (by decide)) fun t hs hl => ⟨hl, ?_⟩
  simp only [hs.pixel (by decide), hs.tim (by decide), Device.pixel_updPixel_self, Device.tim_updPixel, Device.tim_updConv, stopCode_allOnes,
    hcount, true_and]
  intro j hj
  rw [Device.pixel_updPixel_ne hj, Device.pixel_updConv, Device.saturates, Device.pixel_advanceTo]

/-! ### The converter and the pixel become free again (R25, R27, R97) -/

theorem effect_converterFree {cluster : Fin 8192} (hh : (s.dev.conv (die.val * 8192 + cluster.val)).holder.isSome = true)
    (hs : (s.dev.conv (die.val * 8192 + cluster.val)).stopped = true) :
    Effect (.converterFree die cluster) s (s.dev.freeConv (die.val * 8192 + cluster.val)) := by
  refine Effect.of_run (show execConverterFree die cluster s = run _ s from rfl) ?_
  simp only [hh, hs, Bool.and_self, if_true]

theorem converterFree_completes {cluster : Fin 8192} (hq : s.dev.serviceRun = none)
    (hh : (s.dev.conv (die.val * 8192 + cluster.val)).holder.isSome = true) (hs : (s.dev.conv (die.val * 8192 + cluster.val)).stopped = true) :
    Completes (.converterFree die cluster) s fun d => Leaves [.arr] (regs []) [] s.dev d
      ∧ d.conv (die.val * 8192 + cluster.val) = {} ∧ (∀ c, c ≠ die.val * 8192 + cluster.val → d.conv c = s.dev.conv c) ∧ d.arr.pixels = s.dev.arr.pixels := by
  refine (effect_converterFree hh hs).completes [.arr] (regs []) [] hq (by decide) (Frame.refl.updConv (by decide)) fun t hs hl =>
    ⟨hl, ?_, fun c hc => ?_, ?_⟩
  · rw [hs.conv (by decide)]; exact Device.conv_updConv_self _ _ _
  · rw [hs.conv (by decide)]; exact Device.conv_updConv_ne hc
  · rw [hs.arr (by decide)]; rfl

theorem effect_pixelRearm (hr : (s.dev.pixel (pixNo pix)).run = .resting) :
    Effect (.pixelRearm pix) s ((s.dev.waitUntil ((s.dev.pixel (pixNo pix)).trailClock + 32)).updPixel (pixNo pix) fun p => { p with run := .armed }) := by
  refine Effect.of_run (show execPixelRearm pix s = run _ s from rfl) ?_
  simp only [hr, beq_self_eq_true, if_true]

theorem pixelRearm_completes (hq : s.dev.serviceRun = none) (hr : (s.dev.pixel (pixNo pix)).run = .resting) :
    Completes (.pixelRearm pix) s fun d => Leaves [.arr, .clock, .tim] (regs []) [] s.dev d
      ∧ d.pixel (pixNo pix) = { s.dev.pixel (pixNo pix) with run := .armed }
      ∧ d.clock = max s.dev.clock ((s.dev.pixel (pixNo pix)).trailClock + 32) ∧ (∀ j, j ≠ pixNo pix → d.pixel j = s.dev.pixel j) := by
  refine (effect_pixelRearm hr).completes [.arr, .clock, .tim] (regs []) [] hq (by decide)
    ((Frame.refl.waitUntil (by decide) (by decide)).updPixel (by decide)) fun t hs hl => ⟨hl, ?_, ?_, fun j hj => ?_⟩
  · rw [hs.pixel (by decide), Device.pixel_updPixel_self]; rfl
  · rw [hs.clock (by decide)]; exact Device.waitUntil_clock _ _
  · rw [hs.pixel (by decide), Device.pixel_updPixel_ne hj]; rfl

/-! ### Trims and gain changes (R52, R54, R59) -/

theorem effect_trimApply (hr : (s.dev.pixel (pixNo pix)).run = .armed) (hl : (s.dev.pixel (pixNo pix)).high = false) :
    Effect (.trimApply pix) s (s.dev.updPixel (pixNo pix) fun p => { p with trim := p.entry.extractLsb' 0 5 }) := by
  refine Effect.of_run (show execTrimApply pix s = run _ s from rfl) ?_
  simp only [hr, hl, beq_self_eq_true, Bool.not_false, Bool.and_self, if_true]

theorem trimApply_completes (hq : s.dev.serviceRun = none) (hr : (s.dev.pixel (pixNo pix)).run = .armed) (hl : (s.dev.pixel (pixNo pix)).high = false) :
    Completes (.trimApply pix) s fun d => Leaves [.arr] (regs []) [] s.dev d
      ∧ d.pixel (pixNo pix) = { s.dev.pixel (pixNo pix) with trim := (s.dev.pixel (pixNo pix)).entry.extractLsb' 0 5 }
      ∧ (∀ j, j ≠ pixNo pix → d.pixel j = s.dev.pixel j) := by
  refine (effect_trimApply hr hl).completes [.arr] (regs []) [] hq (by decide) (Frame.refl.updPixel (by decide)) fun t hs hl =>
    ⟨hl, ?_, fun j hj => ?_⟩
  · rw [hs.pixel (by decide), Device.pixel_updPixel_self]
  · rw [hs.pixel (by decide), Device.pixel_updPixel_ne hj]

/-- A pending change of a quiet region outside a check is applied (R52, R54). -/
theorem effect_gainApply (hp : s.dev.pageOn (.pix die) = true)
    (hpend : (s.dev.word (Reg.PIX.GAIN_PEND die.val (region.val / 32))).getLsbD (region.val % 32) = true) (hor : s.dev.pixelOr die region = false)
    (hcheck : (s.dev.arr.pixels.any fun p => p.2.checking && pixDie p.1 == die && pixRegion p.1 == region) = false) :
    Effect (.gainApply die region) s
      (Device.raise (Device.markRange (((((s.dev.waitUntil ((s.dev.region (regNo die region)).quietSince + 128)).setFlag
          ⟨Reg.PIX.GAIN_ACT die.val (region.val / 32), region.val % 32, 1⟩ (!(s.dev.word (Reg.PIX.GAIN_ACT die.val (region.val / 32))).getLsbD (region.val % 32))).setFlag
          ⟨Reg.PIX.GAIN_PEND die.val (region.val / 32), region.val % 32, 1⟩ false).updRegion (regNo die region) fun r => { r with transition := true }).noteRange
          (regNo die region)) die region) (.pix die) 5) := by
  refine Effect.of_run (show execGainApply die region s = run _ s from rfl) ?_
  simp only [hp, hpend, hor, hcheck, Bool.not_false, Bool.and_self, if_true, Device.word_waitUntil]

theorem effect_gainTransitionEnd (ht : (s.dev.region (regNo die region)).transition = true) :
    Effect (.gainTransitionEnd die region) s
      (s.dev.updRegion (regNo die region) fun r => { r with transition := false, settledAt := s.dev.clock }) :=
  Effect.of_run (show execGainTransitionEnd die region s = run _ s from rfl) (if_pos ht)

theorem gainTransitionEnd_completes (hq : s.dev.serviceRun = none) (ht : (s.dev.region (regNo die region)).transition = true) :
    Completes (.gainTransitionEnd die region) s fun d => Leaves [.arr] (regs []) [] s.dev d
      ∧ d.region (regNo die region) = { s.dev.region (regNo die region) with transition := false, settledAt := s.dev.clock }
      ∧ (∀ j, j ≠ regNo die region → d.region j = s.dev.region j) ∧ d.arr.pixels = s.dev.arr.pixels := by
  refine (effect_gainTransitionEnd ht).completes [.arr] (regs []) [] hq (by decide) (Frame.refl.updRegion (by decide)) fun t hs hl =>
    ⟨hl, ?_, fun j hj => ?_, ?_⟩
  · rw [hs.region (by decide), Device.region_updRegion_self]
  · rw [hs.region (by decide), Device.region_updRegion_ne hj]
  · rw [hs.arr (by decide)]; rfl

/-- Settles O5: the effect of each command, with its frame where it completes. -/
theorem pixelRecoveryTrimAndGain : Obligations.PixelRecoveryTrimAndGain := by
  unfold Obligations.PixelRecoveryTrimAndGain
  exact ⟨fun _ _ => totSaturation_completes, fun _ _ _ => converterFree_completes, fun _ _ => pixelRearm_completes,
    fun _ _ => trimApply_completes, fun _ _ _ => effect_gainApply, fun _ _ _ => gainTransitionEnd_completes⟩

end Sys2Proof.Machine
end

section
/-! PROOFS. Hits through a region and its band, marks, test hits and flushes (O9). -/

namespace Sys2Proof.Machine

variable {d e : Device} {s : State} {die : Die} {region : Region} {band : Fin 8} {data : W32}

/-! ### A hit at a region's input (R119-R121) -/

/-- A hit that the skim does not cut is written while the FIFO has room for more than it. -/
theorem Device.offer_written {h : RawHit} (ht : d.regionTakes die region = true)
    (hk : d.fld (Reg.REG.SKIM_MIN_CT die.val region.val) ≤ coarseTot h) (hf : (d.region (regNo die region)).fifo.length < 15) :
    d.offer die region h = ((((d.updRegion (regNo die region) fun r => { r with fifo := r.fifo ++ [h] }).count
      (Reg.REG.CNT_HITS die.val region.val)).regionLevel die region), true) := by
  have hlen : (((d.updRegion (regNo die region) fun r => { r with fifo := r.fifo ++ [h] }).count
      (Reg.REG.CNT_HITS die.val region.val)).region (regNo die region)).fifo.length ≠ 16 := by
    rw [Device.region_count, Device.region_updRegion_self, List.length_append, List.length_singleton]
    omega
  simp only [Device.offer, ht, Nat.not_lt.mpr hk, (by omega : (d.region (regNo die region)).fifo.length < 16), hlen, Bool.not_true,
    Bool.false_eq_true, if_false, if_true]

/-- The hit that fills the FIFO is counted as such too, and raises event 2. -/
theorem Device.offer_filled {h : RawHit} (ht : d.regionTakes die region = true)
    (hk : d.fld (Reg.REG.SKIM_MIN_CT die.val region.val) ≤ coarseTot h) (hf : (d.region (regNo die region)).fifo.length = 15) :
    d.offer die region h = ((((((d.updRegion (regNo die region) fun r => { r with fifo := r.fifo ++ [h] }).count
      (Reg.REG.CNT_HITS die.val region.val)).count (Reg.REG.CNT_FULL die.val region.val)).raise (.reg die region) 2).regionLevel die region), true) := by
  have hlen : (((d.updRegion (regNo die region) fun r => { r with fifo := r.fifo ++ [h] }).count
      (Reg.REG.CNT_HITS die.val region.val)).region (regNo die region)).fifo.length = 16 := by
    rw [Device.region_count, Device.region_updRegion_self, List.length_append, hf]
    rfl
  simp only [Device.offer, ht, Nat.not_lt.mpr hk, (by omega : (d.region (regNo die region)).fifo.length < 16), hlen, Bool.not_true,
    Bool.false_eq_true, if_false, if_true]

/-- A hit under the skim is counted only. -/
theorem Device.offer_cut {h : RawHit} (ht : d.regionTakes die region = true)
    (hk : coarseTot h < d.fld (Reg.REG.SKIM_MIN_CT die.val region.val)) :
    d.offer die region h = (d.count (Reg.REG.CNT_SKIM_CUT die.val region.val), true) := by
  simp only [Device.offer, ht, hk, Bool.not_true, Bool.false_eq_true, if_false, if_true]

/-- The waiter served is gone once its hit was accepted, and the priorities are those after its grant (R120). -/
theorem effect_regionAcceptHit {prio : BitVec 2048} {w : Waiter} (hs : s.dev.served die region = (prio, some w))
    (ho : s.dev.offer die region (s.dev.waiterHit die region w) = (e, true)) :
    Effect (.regionAcceptHit die region) s ((e.waiterGone die region w).updRegion (regNo die region) fun r => { r with arb := prio }) := by
  refine Effect.of_run (show execRegionAcceptHit die region s = run _ s from rfl) ?_
  simp only [hs, ho, if_true]

/-! ### Marks (R125) -/

theorem effect_watermarkWrite {mark : Watermark} (hp : s.dev.pageOn (markPage mark) = true) :
    Effect (.watermarkWrite mark data) s (s.dev.writeMarks mark data) :=
  Effect.of_run (show execWatermarkWrite mark data s = run _ s from rfl) (if_pos hp)

/-- What the marks of a write are limited to. -/
theorem limitMarks_bounds (cap high low : Nat) (hcap : 1 ≤ cap) :
    1 ≤ (limitMarks cap high low).1 ∧ (limitMarks cap high low).1 ≤ cap ∧ (limitMarks cap high low).2 < (limitMarks cap high low).1
      ∧ (1 ≤ high → high ≤ cap → (limitMarks cap high low).1 = high) ∧ (low < (limitMarks cap high low).1 → (limitMarks cap high low).2 = low) := by
  have h1 : (limitMarks cap high low).1 = max 1 (min cap high) := rfl
  have h2 : (limitMarks cap high low).2 = if max 1 (min cap high) ≤ low then max 1 (min cap high) - 1 else low := rfl
  rw [h1, h2]
  refine ⟨by omega, by omega, by split <;> omega, fun _ _ => by omega, fun hl => if_neg (by omega)⟩

/-- The marks of the output queue as a write leaves them. -/
def Device.setOqMarks (d : Device) (high low : Nat) : Device := (d.setFld Reg.EVB.OQ_WM_HIGH high).setFld Reg.EVB.OQ_WM_LOW low

theorem Device.fld_setOqMarks (d : Device) {high low : Nat} (hh : high ≤ 8192) (hl : low ≤ 8192) :
    (d.setOqMarks high low).fld Reg.EVB.OQ_WM_HIGH = high ∧ (d.setOqMarks high low).fld Reg.EVB.OQ_WM_LOW = low := by
  constructor
  · rw [Device.setOqMarks, Device.fld_setFld_other _ _ _ _ (.inr (by decide)), Device.fld_setFld_self _ _ _ (by decide)]
    exact Nat.mod_eq_of_lt (Nat.lt_of_le_of_lt hh (by decide))
  · rw [Device.setOqMarks, Device.fld_setFld_self _ _ _ (by decide)]
    exact Nat.mod_eq_of_lt (Nat.lt_of_le_of_lt hl (by decide))

/-- The level bit of the queue is no mark. -/
theorem Device.word_oqLevel {a : Nat} (h : sharedReg a = false) : d.oqLevel.word a = d.word a :=
  (Frame.oqLevel (bs := []) (rs := fun _ => false) (ps := []) Frame.refl).words a rfl h
theorem Device.fld_oqLevel {f : Fld} (h : sharedReg f.addr = false) : d.oqLevel.fld f = d.fld f := by
  simp only [Device.fld, Device.word_oqLevel h]

theorem oqMarksWrite_completes (hq : s.dev.serviceRun = none) (hp : s.dev.pageOn .evb = true) :
    Completes (.watermarkWrite .outputQueue data) s fun d => Leaves [] (regs [Reg.EVB.OQ_WM]) [] s.dev d
      ∧ d.fld Reg.EVB.OQ_WM_HIGH = (limitMarks 8192 (Reg.EVB.OQ_WM_HIGH.of data) (Reg.EVB.OQ_WM_LOW.of data)).1
      ∧ d.fld Reg.EVB.OQ_WM_LOW = (limitMarks 8192 (Reg.EVB.OQ_WM_HIGH.of data) (Reg.EVB.OQ_WM_LOW.of data)).2 := by
  have he : Effect (.watermarkWrite .outputQueue data) s
      (s.dev.setOqMarks (limitMarks 8192 (Reg.EVB.OQ_WM_HIGH.of data) (Reg.EVB.OQ_WM_LOW.of data)).1
        (limitMarks 8192 (Reg.EVB.OQ_WM_HIGH.of data) (Reg.EVB.OQ_WM_LOW.of data)).2).oqLevel := effect_watermarkWrite hp
  obtain ⟨_, hhigh, hlow, _⟩ := limitMarks_bounds 8192 (Reg.EVB.OQ_WM_HIGH.of data) (Reg.EVB.OQ_WM_LOW.of data) (by decide)
  obtain ⟨h1, h2⟩ := s.dev.fld_setOqMarks hhigh (hlow.le.trans hhigh)
  refine he.completes [] (regs [Reg.EVB.OQ_WM]) [] hq (by decide)
    (Frame.oqLevel ((Frame.refl.setFld (.inl (by decide))).setFld (.inl (by decide)))) fun t hs hl => ⟨hl, ?_, ?_⟩
  · rw [hs.fld _ rfl (by decide), Device.fld_oqLevel (by decide), h1]
  · rw [hs.fld _ rfl (by decide), Device.fld_oqLevel (by decide), h2]

/-! ### Test hits (R146) -/

theorem effect_testHitOffer (hp : s.dev.pageOn (.reg die region) = true) (ht : s.dev.flag (fTest (.reg die region)) = true)
    (hn : (s.dev.region (regNo die region)).test = none) :
    Effect (.testHitOffer die region data) s ((s.dev.updRegion (regNo die region) fun r => { r with test := some (s.dev.testHit die region data) }).setFlag
      (Reg.REG.FIFO_STATUS_TEST_PENDING die.val region.val) true) := by
  refine Effect.of_run (show execTestHitOffer die region data s = run _ s from rfl) ?_
  simp only [hp, Device.offerTest, ht, hn, Option.isNone_none, Bool.and_self, if_true]

/-! ### The grants of a band (R128, R134) -/

theorem Effect.bandGrant : Effect (.bandGrant die band) s (s.dev.bandGrant die band) := rfl

/-- What lets a band take an item: its die takes work, its bit is set, and its bus is free (R128). -/
structure Device.BandFree (d : Device) (die : Die) (band : Fin 8) : Prop where
  enabled : d.enabled (.die die) = true
  on : (d.word (Reg.DIE.BAND_CTRL die.val)).getLsbD band.val = true
  free : (d.band (bandNo die band)).out = none

/-- A LOSS item that the bus owes goes first (R134). -/
theorem Device.bandGrant_busLoss {n : Nat} {rest : List Nat} (h : d.BandFree die band) (ho : (d.band (bandNo die band)).owed = n :: rest) :
    d.bandGrant die band = d.updBand (bandNo die band) fun b => { b with out := some (.loss 2 n), owed := rest } := by
  obtain ⟨enabled, on, free⟩ := h
  simp only [Device.bandGrant, enabled, on, free, ho, Bool.not_true, Option.isSome_none, Bool.or_self, Bool.false_eq_true, if_false]

/-- A LOSS item that the region owes goes before its hits (R134). -/
theorem Device.bandGrant_regionLoss {l : Nat} {rest : List Nat} (h : d.BandFree die band) (hb : (d.band (bandNo die band)).owed = [])
    (hn : d.nextRegion die band = some region) (ho : (d.region (regNo die region)).owed = l :: rest) :
    d.bandGrant die band = (d.updRegion (regNo die region) fun r => { r with owed := rest }).updBand (bandNo die band)
      fun b => { b with out := some (.loss l region.val), last := region.val % 16 } := by
  obtain ⟨enabled, on, free⟩ := h
  simp only [Device.bandGrant, enabled, on, free, hb, hn, ho, Bool.not_true, Option.isSome_none, Bool.or_self, Bool.false_eq_true, if_false]

/-- The hit at the output of the next region's FIFO (R128). -/
theorem Device.bandGrant_hit {x : RawHit} {rest : List RawHit} (h : d.BandFree die band) (hb : (d.band (bandNo die band)).owed = [])
    (hn : d.nextRegion die band = some region) (ho : (d.region (regNo die region)).owed = [])
    (hf : (d.region (regNo die region)).fifo = x :: rest) :
    d.bandGrant die band = ((d.updRegion (regNo die region) fun r => { r with fifo := rest, wd := 0 }).updBand (bandNo die band)
      fun b => { b with out := some (.hit x), last := region.val % 16 }).regionLevel die region := by
  obtain ⟨enabled, on, free⟩ := h
  simp only [Device.bandGrant, enabled, on, free, hb, hn, ho, hf, Bool.not_true, Option.isSome_none, Bool.or_self, Bool.false_eq_true, if_false]

/-! ### Flushes (R137) -/

theorem effect_regionFlush (hp : s.dev.pageOn (.reg die region) = true) :
    Effect (.regionFlush die region) s ((((((((s.dev.waitingPixels die region).foldl (fun d i => d.acceptFrom i) s.dev)).updRegion (regNo die region) fun r => { r with fifo := [], test := none }).setFlag
      (Reg.REG.FIFO_STATUS_TEST_PENDING die.val region.val) false).count (Reg.REG.CNT_FLUSH die.val region.val)
        ((s.dev.region (regNo die region)).fifo.length + (s.dev.waitingPixels die region).length + (s.dev.region (regNo die region)).test.toList.length)).regionLevel
      die region).raise (.reg die region) 4) := by
  refine Effect.of_run (show execRegionFlush die region s = run _ s from rfl) ?_
  simp only [Device.flushRegion, hp, Bool.not_true, Bool.false_eq_true, if_false]

/-- Settles O9: the effect of each command where its hypotheses hold, and the bounds of the marks. -/
theorem regionAndBandFlow : Obligations.RegionAndBandFlow := by
  unfold Obligations.RegionAndBandFlow
  exact ⟨fun _ _ _ _ _ hs ht hk hf => effect_regionAcceptHit hs (Device.offer_written ht hk hf),
    fun _ _ _ _ _ hs ht hk hf => effect_regionAcceptHit hs (Device.offer_filled ht hk hf),
    fun _ _ _ _ _ hs ht hk => effect_regionAcceptHit hs (Device.offer_cut ht hk),
    fun _ _ => oqMarksWrite_completes,
    fun _ die _ hp => effect_watermarkWrite (mark := .channels die) hp,
    fun _ die region _ hp => effect_watermarkWrite (mark := .region die region) hp,
    limitMarks_bounds,
    fun _ _ _ _ => effect_testHitOffer,
    fun _ _ _ _ _ _ enabled on free hb hn ho hf => Device.bandGrant_hit ⟨enabled, on, free⟩ hb hn ho hf ▸ Effect.bandGrant,
    fun _ _ _ _ _ _ enabled on free hb hn ho => Device.bandGrant_regionLoss ⟨enabled, on, free⟩ hb hn ho ▸ Effect.bandGrant,
    fun _ _ _ _ _ enabled on free ho => Device.bandGrant_busLoss ⟨enabled, on, free⟩ ho ▸ Effect.bandGrant,
    fun _ _ _ => effect_regionFlush⟩

end Sys2Proof.Machine
end

section
/-! PROOFS. Hits, frames and the watchdogs of the event builder (O13). -/

namespace Sys2Proof.Machine

variable {bs : List Block} {rs : Nat → Bool} {ps : List Page} {d e : Device} {s : State} {full : Bool} {h : Hit} {rest : List Hit}

/-! ### What a frame that leaves the builder alone says of its parts -/

theorem Block.sort_same (hs : Block.evb.same d e) : e.evb.sort = d.evb.sort := by
  simp only [Block.same] at hs
  rw [hs]
theorem Block.lost_same (hs : Block.evb.same d e) : e.evb.lost = d.evb.lost := by
  simp only [Block.same] at hs
  rw [hs]

theorem Leaves.sort (hl : Leaves bs rs ps d e) (hb : Block.evb ∉ bs) : e.evb.sort = d.evb.sort := Block.sort_same (hl.block .evb hb (by decide))
theorem Leaves.lost (hl : Leaves bs rs ps d e) (hb : Block.evb ∉ bs) : e.evb.lost = d.evb.lost := Block.lost_same (hl.block .evb hb (by decide))

theorem sharedReg_of_plainReg {a : Nat} (ha : plainReg a = true) : sharedReg a = false := by
  simp only [plainReg, Bool.and_eq_true, Bool.not_eq_true'] at ha
  exact ha.1.1

/-! ### Hits into the sort buffer (R186, R187) -/

theorem length_insertHit (h : Hit) (l : List Hit) : (insertHit h l).length = l.length + 1 := by
  induction l with
  | nil => rfl
  | cons x l ih =>
    unfold insertHit
    split
    · rfl
    · rw [List.length_cons, ih, List.length_cons]

/-- The converted hit leaves the correction unit. -/
def Device.takeConverted (d : Device) (rest : List Hit) : Device :=
  Device.delivered { d with arr := { d.arr with tcuOut := rest, tcuRaw := none } } 1

/-- A hit has its place in the sort buffer. -/
def Device.sorted (d : Device) (h : Hit) (filled : Bool) : Device :=
  { d.count Reg.EVB.CNT_HITS_IN with evb := { d.evb with sort := insertHit h d.evb.sort, sortFull := filled } }

theorem Device.acceptHit_sorted (he : d.enabled .evb = true) (hr : d.evb.sort.length < 65536) (ht : d.arr.tcuOut = h :: rest)
    (hl : d.isLate h = false) : d.acceptHit full = (d.takeConverted rest).acceptSorted h := by
  have hl' : (d.takeConverted rest).isLate h = false := hl
  simp only [Device.acceptHit, he, Nat.not_le.mpr hr, ht, Bool.not_true, decide_false, Bool.or_self, Bool.false_eq_true, if_false]
  exact if_neg (Bool.eq_false_iff.mp hl')

theorem Device.acceptHit_late (he : d.enabled .evb = true) (hr : d.evb.sort.length < 65536) (ht : d.arr.tcuOut = h :: rest)
    (hl : d.isLate h = true) : d.acceptHit full = (d.takeConverted rest).acceptLate h full := by
  have hl' : (d.takeConverted rest).isLate h = true := hl
  simp only [Device.acceptHit, he, Nat.not_le.mpr hr, ht, Bool.not_true, decide_false, Bool.or_self, Bool.false_eq_true, if_false]
  exact if_pos hl'

/-- A hit that leaves room. -/
theorem Device.acceptSorted_room (hr : d.evb.sort.length < 65535) : d.acceptSorted h = d.sorted h false := by
  have hlen : ¬ 65536 ≤ (insertHit h d.evb.sort).length := by rw [length_insertHit]; omega
  simp only [Device.acceptSorted, Device.count_evb, hlen, decide_false, Bool.false_eq_true, if_false]
  rfl

/-- A hit that fills the buffer is counted as such and raises event 7. -/
theorem Device.acceptSorted_fills (hr : d.evb.sort.length = 65535) :
    d.acceptSorted h = ((d.sorted h true).count Reg.EVB.CNT_SORT_FULL).raise .evb 7 := by
  have hlen : 65536 ≤ (insertHit h d.evb.sort).length := by rw [length_insertHit]; omega
  simp only [Device.acceptSorted, Device.count_evb, hlen, decide_true, if_true]
  rfl

theorem Device.pageOn_sorted {b : Bool} {p : Page} : (d.sorted h b).pageOn p = d.pageOn p := by
  rw [Device.sorted, Device.pageOn_evb, Device.pageOn_count (by decide)]

/-- A block that takes work has power (R473). -/
theorem Device.pageOn_of_enabled {p : Page} (he : d.enabled p = true) : d.pageOn p = true := by
  simp only [Device.enabled, Bool.and_eq_true] at he
  obtain ⟨⟨hp, _⟩, _⟩ := he
  exact hp

theorem Effect.evbAcceptHit : Effect (.evbAcceptHit full) s (s.dev.acceptHit full) := rfl

theorem Frame.takeConverted (hf : Frame bs rs ps d e) (ha : Block.arr ∈ bs) : Frame bs rs ps d (e.takeConverted rest) :=
  Frame.delivered (hf.arr ha)

theorem Frame.sorted (hf : Frame bs rs ps d e) {b : Bool} (hb : Block.evb ∈ bs) (hr : rs Reg.EVB.CNT_HITS_IN = true) :
    Frame bs rs ps d (e.sorted h b) :=
  (hf.count (.inl hr)).evb hb

theorem acceptHit_room_completes (hq : s.dev.serviceRun = none) (he : s.dev.enabled .evb = true) (hr : s.dev.evb.sort.length < 65535)
    (ht : s.dev.arr.tcuOut = h :: rest) (hn : s.dev.isLate h = false) :
    Completes (.evbAcceptHit full) s fun d => Leaves [.arr, .evb] (regs [Reg.EVB.CNT_HITS_IN]) [] s.dev d
      ∧ d.word Reg.EVB.CNT_HITS_IN = counted (s.dev.word Reg.EVB.CNT_HITS_IN) 1 ∧ d.arr.tcuOut = rest ∧ d.evb.sort = insertHit h s.dev.evb.sort := by
  have hx := Effect.evbAcceptHit (full := full) (s := s)
  rw [Device.acceptHit_sorted he (by omega) ht hn, Device.acceptSorted_room (d := s.dev.takeConverted rest) hr] at hx
  refine hx.completes [.arr, .evb] (regs [Reg.EVB.CNT_HITS_IN]) [] hq (by decide)
    ((Frame.refl.takeConverted (by decide)).sorted (by decide) (by decide)) fun t hs hl => ⟨hl, ?_, ?_, ?_⟩
  · rw [hs.plain rfl (by decide)]; exact Device.word_setWord_self _ _ _
  · rw [hs.arr (by decide)]; rfl
  · rw [hs.sort (by decide)]; rfl

theorem acceptHit_fills_completes (hq : s.dev.serviceRun = none) (he : s.dev.enabled .evb = true) (hr : s.dev.evb.sort.length = 65535)
    (ht : s.dev.arr.tcuOut = h :: rest) (hn : s.dev.isLate h = false) :
    Completes (.evbAcceptHit full) s fun d => Leaves [.arr, .evb] (regs [Reg.EVB.CNT_HITS_IN, Reg.EVB.CNT_SORT_FULL]) [.evb] s.dev d
      ∧ d.word Reg.EVB.CNT_SORT_FULL = counted (s.dev.word Reg.EVB.CNT_SORT_FULL) 1 ∧ d.arr.tcuOut = rest ∧ d.evb.sort = insertHit h s.dev.evb.sort
      ∧ (d.sticky .evb).getLsbD 7 = true := by
  have hx := Effect.evbAcceptHit (full := full) (s := s)
  rw [Device.acceptHit_sorted he (by omega) ht hn, Device.acceptSorted_fills (d := s.dev.takeConverted rest) hr] at hx
  have hp : (((s.dev.takeConverted rest).sorted h true).count Reg.EVB.CNT_SORT_FULL).pageOn .evb = true := by
    rw [Device.pageOn_count (by decide), Device.pageOn_sorted]
    exact Device.pageOn_of_enabled he
  have R := Device.same_raise (d := ((s.dev.takeConverted rest).sorted h true).count Reg.EVB.CNT_SORT_FULL) (p := .evb) (b := 7) (x := 0)
  refine hx.completes [.arr, .evb] (regs [Reg.EVB.CNT_HITS_IN, Reg.EVB.CNT_SORT_FULL]) [.evb] hq (by decide)
    ((((Frame.refl.takeConverted (by decide)).sorted (by decide) (by decide)).count (.inl (by decide))).raise (.inl (by decide))) fun t hs hl => ⟨hl, ?_, ?_, ?_, ?_⟩
  · rw [hs.plain rfl (by decide), Device.word_raise (by decide), Device.word_count, if_pos rfl]
    exact congrArg (counted · 1) (Device.word_setWord_ne s.dev _ (by decide))
  · rw [hs.arr (by decide), R .arr]; rfl
  · rw [hs.sort (by decide)]; exact Block.sort_same (R .evb)
  · exact hs.kept .evb (by decide) 7 (Device.sticky_raise_self hp (by decide))

theorem effect_acceptHit_late (he : s.dev.enabled .evb = true) (hr : s.dev.evb.sort.length < 65536) (ht : s.dev.arr.tcuOut = h :: rest)
    (hn : s.dev.isLate h = true) :
    Effect (.evbAcceptHit full) s
      (let d := Device.count (Device.delivered { s.dev with arr := { s.dev.arr with tcuOut := rest, tcuRaw := none } } 1) Reg.EVB.CNT_LATE
       let first := { d with evb := { d.evb with lateRaised := true } }
       (if d.evb.lateRaised then first else Device.raise first .evb 2).lateHit h full) := by
  have hx := Effect.evbAcceptHit (full := full) (s := s)
  rw [Device.acceptHit_late he hr ht hn, Device.acceptLate, Device.takeConverted] at hx
  cases hl : s.dev.evb.lateRaised
  all_goals
    simp only [Device.count_evb, Device.delivered, hl, Bool.not_true, Bool.not_false, Bool.false_eq_true, if_true, if_false] at hx ⊢
    exact hx

/-! ### The release of hits, frames and their records (R188-R193, R211) -/

theorem effect_hitRelease (hd : s.dev.domOn 4 = true) (hr : s.dev.releasable = some h) :
    Effect (.hitRelease full) s
      (let d := Device.maskHit { s.dev with evb := { s.dev.evb with sort := s.dev.evb.sort.drop 1, sortFull := false } } h
       let d := ((d.ringHit h full).delivered 2).delivered 4
       if d.selects h then d.emitHit h else d) := by
  refine Effect.of_run (show execHitRelease full s = run _ s from rfl) ?_
  simp only [hd, if_true, Device.releaseHit, hr]

theorem effect_frameStart {phase : BitVec 16} (hc : s.dev.counting = true) (hp : s.dev.pageOn .evb = true) (hn : s.dev.nextFrameNum ≠ 0) :
    Effect (.frameStart phase) s
      (let d := (s.dev.advanceTo (s.dev.nextFrameNum ++ (0 : BitVec 18))).advanceFront
       if d.pageOn .evb then (d.endFrame false).startFrame s.dev.nextFrameNum (s.dev.nextFrameNum ++ (0 : BitVec 18)) phase else d) := by
  refine Effect.of_run (show execFrameStart phase s = run _ s from rfl) ?_
  simp only [Device.beginFrame, hc, hp, hn, Bool.not_true, Bool.false_eq_true, if_false, if_true]

theorem effect_frameHeaderQueue {f : FrameSt} (hd : s.dev.advanceFront.headerDue = some f) :
    Effect .frameHeaderQueue s (s.dev.advanceFront.queueHeader f) := by
  refine Effect.of_run (show execFrameHeaderQueue s = run _ s from rfl) ?_
  simp only [hd]

theorem effect_alignmentRecordQueue {f : FrameSt} (hd : s.dev.advanceFront.alignDue = some f) :
    Effect .alignmentRecordQueue s (s.dev.advanceFront.queueAlign f) := by
  refine Effect.of_run (show execAlignmentRecordQueue s = run _ s from rfl) ?_
  simp only [hd]

theorem effect_lateRecordTimeout {l : LateSt} (hl : s.dev.evb.late = some l) :
    Effect .lateRecordTimeout s ((s.dev.waitUntil (l.since + Config.usCt)).endLate) := by
  refine Effect.of_run (show execLateRecordTimeout s = run _ s from rfl) ?_
  simp only [hl]

/-! ### The runs of watchdog resets do not move when an event is raised -/

theorem Device.wdRuns_enqueue (d : Device) (r : Rec) : (d.enqueue r).evb.wdRuns = d.evb.wdRuns := by
  unfold Device.enqueue; split <;> rfl
theorem Device.wdRuns_closePacked (d : Device) : d.closePacked.evb.wdRuns = d.evb.wdRuns := by
  unfold Device.closePacked
  split
  · rfl
  · exact Device.wdRuns_enqueue _ _
theorem Device.wdRuns_statusOf (d : Device) (p b x : Nat) : (d.statusOf p b x).evb.wdRuns = d.evb.wdRuns := by
  unfold Device.statusOf
  split
  · rw [Device.wdRuns_enqueue, Device.wdRuns_closePacked]
  · rfl
theorem Device.wdRuns_eventMessage (d : Device) (p b x : Nat) : (d.eventMessage p b x).evb.wdRuns = d.evb.wdRuns := by
  unfold Device.eventMessage
  split
  · rfl
  split
  · rfl
  split
  · rfl
  dsimp only
  split
  · rfl
  · exact Device.wdRuns_statusOf _ _ _ _
theorem Device.wdRuns_announce (d : Device) (p : Page) (b x : Nat) : (d.announce p b x).evb.wdRuns = d.evb.wdRuns := by
  unfold Device.announce
  split
  · rfl
  dsimp only
  split
  · rw [Device.wdRuns_eventMessage, Device.wdRuns_statusOf]
  · exact Device.wdRuns_statusOf _ _ _ _
theorem Device.wdRuns_raise (d : Device) (p : Page) (b x : Nat) : (d.raise p b x).evb.wdRuns = d.evb.wdRuns := by
  unfold Device.raise
  split
  · split
    · rfl
    · exact Device.wdRuns_announce _ _ _ _
  · rfl

/-! ### A watchdog reset of a concentrator channel (R20, R216) -/

variable {chan : Fin 8} {receiver : Fin 16}

theorem plainReg_cntWd (chan : Fin 8) : plainReg (Reg.EVB.CNT_WD chan.val) = true := by revert chan; decide
theorem domReg_cntWd (chan : Fin 8) : domReg (Reg.EVB.CNT_WD chan.val) = false := by revert chan; decide
theorem cntWd_ne_upsWd (chan : Fin 8) : Reg.EVB.CNT_WD chan.val ≠ Reg.HLT.UPS_WD := by revert chan; decide
theorem cntWd_ne_fault (chan : Fin 8) : Reg.EVB.CNT_WD chan.val ≠ (fFault .evb).addr := by revert chan; decide

/-- A reset of a channel, counted and raised, with its run one longer. -/
def Device.resetCounted (d : Device) (c : Nat) : Device :=
  let x := ((d.upset Reg.HLT.UPS_WD).count (Reg.EVB.CNT_WD c)).raise .evb 9
  { x with evb := { x.evb with wdRuns := SMap.set (fun _ => 0) x.evb.wdRuns c (SMap.get (fun _ => 0) x.evb.wdRuns c + 1) } }

/-- The run of resets of a channel, as the reset that prolongs it finds it. -/
theorem Device.wdRuns_resetting (d : Device) (c : Nat) :
    (((d.upset Reg.HLT.UPS_WD).count (Reg.EVB.CNT_WD c)).raise .evb 9).evb.wdRuns = d.evb.wdRuns := Device.wdRuns_raise _ _ _ _

theorem Device.channelReset_early {c : Nat} (hn : SMap.get (fun _ => 0) d.evb.wdRuns c ≠ 7) : d.channelReset c = d.resetCounted c := by
  have : SMap.get (fun _ => 0) d.evb.wdRuns c + 1 ≠ 8 := by omega
  simp only [Device.channelReset, Device.resetCounted, Device.wdRuns_resetting, this, if_false]

theorem Device.channelReset_eighth {c : Nat} (hn : SMap.get (fun _ => 0) d.evb.wdRuns c = 7) :
    d.channelReset c = ((d.resetCounted c).setFlag (fFault .evb) true).raise .evb 10 := by
  simp only [Device.channelReset, Device.resetCounted, Device.wdRuns_resetting, hn, if_true]

theorem Frame.upset (hf : Frame bs rs ps d e) {a n : Nat} (hb : Block.hlt ∈ bs) (ha : rs a = true) : Frame bs rs ps d (e.upset a n) :=
  (hf.hlt hb).count (.inl ha)

theorem Frame.resetCounted (hf : Frame bs rs ps d e) {c : Nat} (hb : Block.hlt ∈ bs) (hu : rs Reg.HLT.UPS_WD = true)
    (hc : rs (Reg.EVB.CNT_WD c) = true) : Frame bs rs ps d (e.resetCounted c) :=
  (((hf.upset hb hu).count (.inl hc)).raise (.inr rfl)).evbMove rfl

theorem Frame.channelReset (hf : Frame bs rs ps d e) {c : Nat} (hb : Block.hlt ∈ bs) (hu : rs Reg.HLT.UPS_WD = true)
    (hc : rs (Reg.EVB.CNT_WD c) = true) (hx : rs (fFault .evb).addr = true) : Frame bs rs ps d (e.channelReset c) := by
  by_cases hn : SMap.get (fun _ => 0) e.evb.wdRuns c = 7
  · rw [Device.channelReset_eighth hn]
    exact ((hf.resetCounted hb hu hc).setFlag (.inl hx)).raise (.inr rfl)
  · rw [Device.channelReset_early hn]
    exact hf.resetCounted hb hu hc

theorem Device.word_upset_ne {a b n : Nat} (hn : b ≠ a) : (d.upset a n).word b = d.word b := Device.word_count_ne hn

theorem Device.word_resetCounted (d : Device) (chan : Fin 8) :
    (d.resetCounted chan.val).word (Reg.EVB.CNT_WD chan.val) = counted (d.word (Reg.EVB.CNT_WD chan.val)) 1 := by
  refine (Device.word_raise (sharedReg_of_plainReg (plainReg_cntWd chan))).trans ?_
  rw [Device.word_count, if_pos rfl, Device.word_upset_ne (cntWd_ne_upsWd chan)]
  rfl

theorem Device.pageOn_resetCounted (d : Device) (chan : Fin 8) (p : Page) : (d.resetCounted chan.val).pageOn p = d.pageOn p := by
  refine (Device.pageOn_raise _ .evb 9 0 p).trans ?_
  rw [Device.pageOn_count (domReg_cntWd chan), Device.upset, Device.pageOn_count (by decide), Device.pageOn_hlt]

theorem Device.sticky_resetCounted (chan : Fin 8) (hp : d.pageOn .evb = true) : ((d.resetCounted chan.val).sticky .evb).getLsbD 9 = true := by
  refine Device.sticky_raise_self (x := 0) ?_ (by decide)
  rw [Device.pageOn_count (domReg_cntWd chan), Device.upset, Device.pageOn_count (by decide), Device.pageOn_hlt, hp]

theorem Device.fault_resetCounted (d : Device) (chan : Fin 8) : (d.resetCounted chan.val).flag (fFault .evb) = d.flag (fFault .evb) := by
  refine (Device.flag_raise (by decide)).trans ?_
  rw [Device.flag_count_ne (cntWd_ne_fault chan).symm, Device.upset, Device.flag_count_ne (by decide), Device.flag_hlt]

/-- A reset is counted on its channel. -/
theorem Device.word_channelReset (d : Device) (chan : Fin 8) :
    (d.channelReset chan.val).word (Reg.EVB.CNT_WD chan.val) = counted (d.word (Reg.EVB.CNT_WD chan.val)) 1 := by
  by_cases hn : SMap.get (fun _ => 0) d.evb.wdRuns chan.val = 7
  · rw [Device.channelReset_eighth hn, Device.word_raise (sharedReg_of_plainReg (plainReg_cntWd chan)),
      Device.word_setFlag_ne (cntWd_ne_fault chan), Device.word_resetCounted]
  · rw [Device.channelReset_early hn, Device.word_resetCounted]

/-- A reset raises event 9. -/
theorem Device.sticky_channelReset (chan : Fin 8) (hp : d.pageOn .evb = true) : ((d.channelReset chan.val).sticky .evb).getLsbD 9 = true := by
  by_cases hn : SMap.get (fun _ => 0) d.evb.wdRuns chan.val = 7
  · rw [Device.channelReset_eighth hn]
    exact Device.sticky_raise_kept (Device.sticky_resetCounted chan hp)
  · rw [Device.channelReset_early hn]
    exact Device.sticky_resetCounted chan hp

/-- The eighth reset in succession sets FAULT and raises event 10. -/
theorem Device.fault_channelReset (chan : Fin 8) (hp : d.pageOn .evb = true) (hn : SMap.get (fun _ => 0) d.evb.wdRuns chan.val = 7) :
    (d.channelReset chan.val).flag (fFault .evb) = true ∧ ((d.channelReset chan.val).sticky .evb).getLsbD 10 = true := by
  rw [Device.channelReset_eighth hn]
  constructor
  · rw [Device.flag_raise (by decide), Device.flag_setFlag_self _ _ _ (by decide) (by decide)]
  · refine Device.sticky_raise_self ?_ (by decide)
    rw [Device.pageOn_setFlag (by decide), Device.pageOn_resetCounted, hp]

/-- A watchdog reset of a channel whose receiver is not full (R20). -/
theorem effect_watchdogReset (hp : s.dev.pageOn .evb = true) (hf : s.dev.stageFull chan.val = false) :
    Effect (.concentratorWatchdogReset chan receiver) s ((s.dev.discardInFlight chan.val receiver.val).channelReset chan.val) := by
  refine Effect.of_run (show execConcentratorWatchdogReset chan receiver s = run _ s from rfl) ?_
  simp only [hp, hf, Bool.not_false, Bool.and_self, if_true]

/-- Channels 5 and 6 have no item in flight that a reset could lose. -/
theorem Device.discardInFlight_none (hc : chan = 5 ∨ chan = 6) (r : Nat) : d.discardInFlight chan.val r = d := by
  rcases hc with rfl | rfl <;> rfl

theorem watchdogReset_early_completes (hq : s.dev.serviceRun = none) (hp : s.dev.pageOn .evb = true) (hf : s.dev.stageFull chan.val = false)
    (hc : chan = 5 ∨ chan = 6) (hn : SMap.get (fun _ => 0) s.dev.evb.wdRuns chan.val ≠ 7) :
    Completes (.concentratorWatchdogReset chan receiver) s fun d => Leaves [.hlt, .evb] (regs [Reg.HLT.UPS_WD, Reg.EVB.CNT_WD chan.val]) [.evb] s.dev d
      ∧ d.word (Reg.EVB.CNT_WD chan.val) = counted (s.dev.word (Reg.EVB.CNT_WD chan.val)) 1 ∧ d.flag (fFault .evb) = s.dev.flag (fFault .evb)
      ∧ (d.sticky .evb).getLsbD 9 = true := by
  have hx := effect_watchdogReset (receiver := receiver) hp hf
  rw [Device.discardInFlight_none hc, Device.channelReset_early hn] at hx
  refine hx.completes [.hlt, .evb] (regs [Reg.HLT.UPS_WD, Reg.EVB.CNT_WD chan.val]) [.evb] hq (by decide)
    (Frame.refl.resetCounted (by decide) (by simp [regs]) (by simp [regs])) fun t hs hl => ⟨hl, ?_, ?_, ?_⟩
  · rw [hs.plain rfl (plainReg_cntWd chan), Device.word_resetCounted]
  · rw [hs.flag _ rfl (by decide), Device.fault_resetCounted]
  · exact hs.kept .evb (by decide) 9 (Device.sticky_resetCounted chan hp)

theorem watchdogReset_eighth_completes (hq : s.dev.serviceRun = none) (hp : s.dev.pageOn .evb = true) (hf : s.dev.stageFull chan.val = false)
    (hc : chan = 5 ∨ chan = 6) (hn : SMap.get (fun _ => 0) s.dev.evb.wdRuns chan.val = 7) :
    Completes (.concentratorWatchdogReset chan receiver) s fun d =>
      Leaves [.hlt, .evb] (regs [Reg.HLT.UPS_WD, Reg.EVB.CNT_WD chan.val, (fFault .evb).addr]) [.evb] s.dev d
      ∧ d.word (Reg.EVB.CNT_WD chan.val) = counted (s.dev.word (Reg.EVB.CNT_WD chan.val)) 1 ∧ d.flag (fFault .evb) = true
      ∧ (d.sticky .evb).getLsbD 9 = true ∧ (d.sticky .evb).getLsbD 10 = true := by
  have hx := effect_watchdogReset (receiver := receiver) hp hf
  rw [Device.discardInFlight_none hc] at hx
  obtain ⟨hfault, hten⟩ := Device.fault_channelReset chan hp hn
  refine hx.completes [.hlt, .evb] (regs [Reg.HLT.UPS_WD, Reg.EVB.CNT_WD chan.val, (fFault .evb).addr]) [.evb] hq (by decide)
    (Frame.refl.channelReset (by decide) (by simp [regs]) (by simp [regs]) (by simp [regs])) fun t hs hl => ⟨hl, ?_, ?_, ?_, ?_⟩
  · rw [hs.plain rfl (plainReg_cntWd chan), Device.word_channelReset]
  · rw [hs.flag _ rfl (by decide), hfault]
  · exact hs.kept .evb (by decide) 9 (Device.sticky_channelReset chan hp)
  · exact hs.kept .evb (by decide) 10 hten

/-! ### The item in flight that a reset loses (R205, R216) -/

/-- A watchdog reset that loses a hit before the sort buffer: what follows it leaves of the hit path, the hits lost and the counter. -/
theorem watchdogReset_loses_completes {x : ArrSt} {post : Device → Prop} (hq : s.dev.serviceRun = none) (hp : s.dev.pageOn .evb = true)
    (hf : s.dev.stageFull chan.val = false)
    (hd : s.dev.discardInFlight chan.val receiver.val = Device.loseHits { s.dev with arr := x } 1)
    (hpost : ∀ t : Device, t.arr = x → t.evb.lost = s.dev.evb.lost + 1 ∧ t.word (Reg.EVB.CNT_WD chan.val) = counted (s.dev.word (Reg.EVB.CNT_WD chan.val)) 1
      ∧ (t.sticky .evb).getLsbD 9 = true
      ∧ (SMap.get (fun _ => 0) s.dev.evb.wdRuns chan.val = 7 → t.flag (fFault .evb) = true ∧ (t.sticky .evb).getLsbD 10 = true) → post t) :
    Completes (.concentratorWatchdogReset chan receiver) s post := by
  have hx := effect_watchdogReset (receiver := receiver) hp hf
  rw [hd] at hx
  have hp' : (Device.loseHits { s.dev with arr := x } 1).pageOn .evb = true := hp
  have C := Frame.channelReset (bs := [.hlt]) (rs := regs [Reg.HLT.UPS_WD, Reg.EVB.CNT_WD chan.val, (fFault .evb).addr]) (ps := []) (c := chan.val)
    (Frame.refl (d := Device.loseHits { s.dev with arr := x } 1)) (by decide) (by simp [regs]) (by simp [regs]) (by simp [regs])
  refine hx.completes [.arr, .hlt, .evb] (regs [Reg.HLT.UPS_WD, Reg.EVB.CNT_WD chan.val, (fFault .evb).addr]) [.evb] hq (by decide)
    (Frame.channelReset ((Frame.refl.arr (by decide)).evb (by decide)) (by decide) (by simp [regs]) (by simp [regs]) (by simp [regs]))
    fun t hs _ => hpost t ?_ ⟨?_, ?_, ?_, fun hn => ?_⟩
  · rw [hs.arr (by decide)]; exact C.blocks .arr (by decide)
  · rw [hs.lost (by decide)]; exact Block.lost_same (C.blocks .evb (by decide))
  · rw [hs.plain rfl (plainReg_cntWd chan), Device.word_channelReset]; rfl
  · exact hs.kept .evb (by decide) 9 (Device.sticky_channelReset chan hp')
  · obtain ⟨hfault, hten⟩ := Device.fault_channelReset chan hp' hn
    exact ⟨(hs.flag _ rfl (by decide)).trans hfault, hs.kept .evb (by decide) 10 hten⟩

theorem discardInFlight_receiver {h : RawHit} {rest : List Item} (hr : (d.rx receiver.val).queue = .hit h :: rest) :
    d.discardInFlight 0 receiver.val = (d.updRx receiver.val fun r => { r with queue := rest }).loseHits 1 := by
  simp only [Device.discardInFlight, hr]

theorem watchdogReset_receiver_completes {h : RawHit} {rest : List Item} (hq : s.dev.serviceRun = none) (hp : s.dev.pageOn .evb = true)
    (hf : s.dev.stageFull 0 = false) (hr : (s.dev.rx receiver.val).queue = .hit h :: rest) :
    Completes (.concentratorWatchdogReset 0 receiver) s fun d => d.rx receiver.val = { s.dev.rx receiver.val with queue := rest }
      ∧ d.evb.lost = s.dev.evb.lost + 1
      ∧ d.word (Reg.EVB.CNT_WD 0) = counted (s.dev.word (Reg.EVB.CNT_WD 0)) 1 ∧ (d.sticky .evb).getLsbD 9 = true
      ∧ (SMap.get (fun _ => 0) s.dev.evb.wdRuns 0 = 7 → d.flag (fFault .evb) = true ∧ (d.sticky .evb).getLsbD 10 = true) :=
  watchdogReset_loses_completes (chan := 0) hq hp hf (discardInFlight_receiver hr) fun _ ha h =>
    ⟨(Device.rx_congr (d := s.dev.updRx receiver.val fun r => { r with queue := rest }) ha _).trans (Device.rx_updRx_self _ _ _), h⟩

theorem discardInFlight_converted (r : Nat) (ht : d.arr.tcuOut = h :: rest) :
    d.discardInFlight 1 r = Device.loseHits { d with arr := { d.arr with tcuOut := [], tcuRaw := none } } 1 := by
  simp only [Device.discardInFlight, ht, List.isEmpty_cons, Bool.false_eq_true, if_false]

theorem watchdogReset_converted_completes (hq : s.dev.serviceRun = none) (hp : s.dev.pageOn .evb = true) (hf : s.dev.stageFull 1 = false)
    (ht : s.dev.arr.tcuOut = h :: rest) :
    Completes (.concentratorWatchdogReset 1 receiver) s fun d => d.arr = { s.dev.arr with tcuOut := [], tcuRaw := none }
      ∧ d.evb.lost = s.dev.evb.lost + 1
      ∧ d.word (Reg.EVB.CNT_WD 1) = counted (s.dev.word (Reg.EVB.CNT_WD 1)) 1 ∧ (d.sticky .evb).getLsbD 9 = true
      ∧ (SMap.get (fun _ => 0) s.dev.evb.wdRuns 1 = 7 → d.flag (fFault .evb) = true ∧ (d.sticky .evb).getLsbD 10 = true) :=
  watchdogReset_loses_completes (chan := 1) hq hp hf (discardInFlight_converted _ ht) fun _ ha h => ⟨ha, h⟩

theorem effect_watchdogReset_release (hp : s.dev.pageOn .evb = true) (hf : s.dev.stageFull 2 = false) (hr : s.dev.releasable = some h) :
    Effect (.concentratorWatchdogReset 2 receiver) s
      (((Device.ringHit { s.dev with evb := { s.dev.evb with sort := s.dev.evb.sort.drop 1, sortFull := false } } h false).loseHits 1).channelReset 2) := by
  have hd : s.dev.discardInFlight 2 receiver.val
      = (Device.ringHit { s.dev with evb := { s.dev.evb with sort := s.dev.evb.sort.drop 1, sortFull := false } } h false).loseHits 1 := by
    simp only [Device.discardInFlight, hr]
  exact hd ▸ effect_watchdogReset (chan := 2) hp hf

theorem effect_watchdogReset_selected {r : Rec} {queued : List Rec} (hp : s.dev.pageOn .evb = true) (hf : s.dev.stageFull 3 = false)
    (hi : s.dev.evb.inq = r :: queued) (hc : recChannel r.kind = some 3) (hm : r.fmt.isSome = true) :
    Effect (.concentratorWatchdogReset 3 receiver) s (((s.dev.dropInput r queued).loseHits r.hits).channelReset 3) := by
  have hd : s.dev.discardInFlight 3 receiver.val = (s.dev.dropInput r queued).loseHits r.hits := by
    simp only [Device.discardInFlight, hi, hc, hm, decide_true, Bool.and_self, if_true]
  exact hd ▸ effect_watchdogReset (chan := 3) hp hf

theorem effect_watchdogReset_ring (hp : s.dev.pageOn .evb = true) :
    Effect (.concentratorWatchdogReset 4 receiver) s ((s.dev.releaseHit true).channelReset 4) :=
  effect_watchdogReset (chan := 4) hp rfl

theorem effect_watchdogReset_record {r : Rec} {queued : List Rec} (hp : s.dev.pageOn .evb = true) (hf : s.dev.stageFull 7 = false)
    (hi : s.dev.evb.inq = r :: queued) (hc : recChannel r.kind = some 7) (hm : r.fmt.isSome = true) :
    Effect (.concentratorWatchdogReset 7 receiver) s ((s.dev.dropInput r queued).channelReset 7) := by
  have hd : s.dev.discardInFlight 7 receiver.val = s.dev.dropInput r queued := by
    simp only [Device.discardInFlight, hi, hc, hm, decide_true, Bool.and_self, if_true]
  exact hd ▸ effect_watchdogReset (chan := 7) hp hf

/-- Settles O13: the effect of each command, with its frame where it completes. -/
theorem builderHitsAndFrames : Obligations.BuilderHitsAndFrames := by
  unfold Obligations.BuilderHitsAndFrames
  exact ⟨fun _ _ _ _ => acceptHit_room_completes,
    fun _ _ _ _ => acceptHit_fills_completes,
    fun _ _ _ _ => effect_acceptHit_late,
    fun _ _ _ => effect_hitRelease,
    fun _ _ => effect_frameStart,
    fun _ _ => effect_frameHeaderQueue,
    fun _ _ => effect_alignmentRecordQueue,
    fun _ _ => effect_lateRecordTimeout,
    fun _ _ _ => watchdogReset_early_completes,
    fun _ _ _ => watchdogReset_eighth_completes,
    fun _ _ _ _ => watchdogReset_receiver_completes,
    fun _ _ _ _ => watchdogReset_converted_completes,
    fun _ _ _ => effect_watchdogReset_release,
    fun _ _ _ _ => effect_watchdogReset_selected,
    fun _ _ => effect_watchdogReset_ring,
    fun _ _ _ _ => effect_watchdogReset_record⟩

end Sys2Proof.Machine
end

section
/-! PROOFS. The front-end page of a die: its registers, and the commands that write it. -/

namespace Sys2Proof.Machine

variable {d : Device} {die : Die}

/-! ### The registers of the page -/

/-- The registers that what follows a command may move lie below the pages of the dies, but for the fast-OR counters. -/
theorem sharedReg_bound {a : Nat} (h : sharedReg a = true) : a < 0x20000 ∨ a % 0x1000 = 0x108 := by
  simp only [sharedReg, Bool.or_eq_true, Bool.and_eq_true, List.any_eq_true, beq_iff_eq] at h
  rcases h with (h | ⟨r, hr, he⟩) | ⟨_, hf⟩
  · exact .inl ((by decide : ∀ b ∈ _, b < 0x20000) a (List.contains_iff_mem.mp h))
  · have := List.mem_range.mp hr
    unfold Reg.CDR.CNT_OUT at he
    omega
  · exact .inr hf

/-- What follows a command moves no register of the page (R79). -/
theorem plainReg_pix (die : Die) {o : Nat} (h : o < 0x108 := by decide) : plainReg (Reg.PIX.base die.val + o) = true := by
  have ha : 0x20000 ≤ Reg.PIX.base die.val + o ∧ (Reg.PIX.base die.val + o) % 0x1000 ≠ 0x108 := by unfold Reg.PIX.base; omega
  obtain ⟨hlow, hfast⟩ := ha
  have hs : sharedReg (Reg.PIX.base die.val + o) = false := Bool.eq_false_iff.mpr fun hs => by
    rcases sharedReg_bound hs with h1 | h1
    · omega
    · exact hfast h1
  have hl : Reg.PIX.base die.val + o ≠ Reg.HLT.SERVICE_LEVEL := by unfold Reg.HLT.SERVICE_LEVEL; omega
  have hm : Reg.PIX.base die.val + o ≠ Reg.SEC.SUMMARY := by unfold Reg.SEC.SUMMARY; omega
  simp only [plainReg, hs, Bool.not_false, bne_iff_ne.mpr hl, bne_iff_ne.mpr hm, Bool.and_self]

theorem sharedReg_pix (die : Die) {o : Nat} (h : o < 0x108 := by decide) : sharedReg (Reg.PIX.base die.val + o) = false :=
  sharedReg_of_plainReg (plainReg_pix die h)

/-- No register of the page shows a domain (R537). -/
theorem domReg_pix (die : Die) {o : Nat} : domReg (Reg.PIX.base die.val + o) = false := by
  have h0 : Reg.PIX.base die.val + o ≠ Reg.PWRD.DOM_ON0 := by unfold Reg.PIX.base Reg.PWRD.DOM_ON0; omega
  have h1 : Reg.PIX.base die.val + o ≠ Reg.PWRD.DOM_ON1 := by unfold Reg.PIX.base Reg.PWRD.DOM_ON1; omega
  simp only [domReg, beq_eq_false_iff_ne.mpr h0, beq_eq_false_iff_ne.mpr h1, Bool.or_self]

/-! ### The commands that write it -/

/-- A write to the page of a die with power that no service holds (R339). -/
theorem Device.pixWrite_open {f : Device → Device} (hp : d.pageOn (.pix die) = true) (hc : d.pixClaimed die.val = false) : d.pixWrite die f = f d := by
  simp only [Device.pixWrite, hp, hc, Bool.not_true, Bool.false_eq_true, if_false]

end Sys2Proof.Machine
end

section
/-! PROOFS. Front-end registers and table fills (O6). -/

namespace Sys2Proof.Machine

variable {s : State} {die : Die} {route : Route} {data : W32}

/-! ### POLARITY (R46, R49) -/

/-- A write under FE_INHIBIT takes POLARITY and stores it. -/
theorem effect_feCtrlWrite_inhibited (hp : s.dev.pageOn (.pix die) = true) (hc : s.dev.pixClaimed die.val = false) (hi : s.dev.feInhibit = true) :
    Effect (.feCtrlWrite route die data) s
      (let d := s.dev.writeReg (routeCode route) (Reg.PIX.FE_CTRL die.val) [⟨1, 1, .rw⟩, ⟨4, 2, .rws⟩] data
       let d := { d with sea := { d.sea with trimStep := SMap.set (fun _ => 1) d.sea.trimStep die.val (d.fld (Reg.PIX.FE_CTRL_TRIM_STEP die.val)) } }
       (d.setFlag (Reg.PIX.FE_CTRL_POLARITY die.val) (data.getLsbD 0)).store
         { page := nvsHome (Reg.PIX.FE_CTRL die.val), words := [(Reg.PIX.FE_CTRL die.val, (data.getLsbD 0).toNat)], owner := .config (Reg.PIX.FE_CTRL die.val) }) := by
  have h : Effect (.feCtrlWrite route die data) s (s.dev.writeFeCtrl (routeCode route) die data) :=
    Effect.of_run (show execFeCtrlWrite route die data s = run _ s from rfl) (Device.pixWrite_open hp hc)
  rwa [Device.writeFeCtrl, if_pos hi] at h

/-- A write without it raises event 6 and leaves POLARITY. -/
theorem effect_feCtrlWrite_refused (hp : s.dev.pageOn (.pix die) = true) (hc : s.dev.pixClaimed die.val = false) (hi : s.dev.feInhibit = false) :
    Effect (.feCtrlWrite route die data) s
      (let d := s.dev.writeReg (routeCode route) (Reg.PIX.FE_CTRL die.val) [⟨1, 1, .rw⟩, ⟨4, 2, .rws⟩] data
       Device.raise { d with sea := { d.sea with trimStep := SMap.set (fun _ => 1) d.sea.trimStep die.val (d.fld (Reg.PIX.FE_CTRL_TRIM_STEP die.val)) } } (.pix die) 6) := by
  have h : Effect (.feCtrlWrite route die data) s (s.dev.writeFeCtrl (routeCode route) die data) :=
    Effect.of_run (show execFeCtrlWrite route die data s = run _ s from rfl) (Device.pixWrite_open hp hc)
  rwa [Device.writeFeCtrl, if_neg (Bool.eq_false_iff.mp hi)] at h

/-! ### VTH and gain requests (R51, R52) -/

theorem vthWrite_completes (hq : s.dev.serviceRun = none) (hp : s.dev.pageOn (.pix die) = true) (hc : s.dev.pixClaimed die.val = false) :
    Completes (.vthWrite die data) s fun d => Leaves [] (regs [Reg.PIX.VTH die.val]) [] s.dev d
      ∧ d.fld (Reg.PIX.VTH_CODE die.val) = data.toNat % 2 ^ (Reg.PIX.VTH_CODE die.val).width := by
  have h : Effect (.vthWrite die data) s (s.dev.setFld (Reg.PIX.VTH_CODE die.val) data.toNat) :=
    Effect.of_run (show execVthWrite die data s = run _ s from rfl) (Device.pixWrite_open hp hc)
  refine h.completes [] (regs [Reg.PIX.VTH die.val]) [] hq (by decide) (Frame.refl.setFld (.inl (by simp [regs, Reg.PIX.VTH_CODE]))) fun t hs hl => ⟨hl, ?_⟩
  rw [hs.fld (Reg.PIX.VTH_CODE die.val) rfl (plainReg_pix die), Device.fld_setFld_self _ _ _ (show 0 + 10 ≤ 32 by decide)]

theorem gainLgWrite_completes {k : Fin 4} (hq : s.dev.serviceRun = none) (hp : s.dev.pageOn (.pix die) = true) :
    Completes (.gainLgWrite die k data) s fun d => Leaves [] (regs [Reg.PIX.GAIN_LG die.val k.val, Reg.PIX.GAIN_PEND die.val k.val]) [] s.dev d
      ∧ d.word (Reg.PIX.GAIN_LG die.val k.val) = data
      ∧ d.word (Reg.PIX.GAIN_PEND die.val k.val) = data ^^^ s.dev.word (Reg.PIX.GAIN_ACT die.val k.val) := by
  have h : Effect (.gainLgWrite die k data) s (s.dev.writeGainLg die k data) :=
    Effect.of_run (show execGainLgWrite die k data s = run _ s from rfl) (if_pos hp)
  have hne : Reg.PIX.GAIN_LG die.val k.val ≠ Reg.PIX.GAIN_PEND die.val k.val := by unfold Reg.PIX.GAIN_LG Reg.PIX.GAIN_PEND; omega
  have hlg : plainReg (Reg.PIX.GAIN_LG die.val k.val) = true := by
    rw [Reg.PIX.GAIN_LG, Nat.add_assoc]; exact plainReg_pix die (by omega)
  have hpend : plainReg (Reg.PIX.GAIN_PEND die.val k.val) = true := by
    rw [Reg.PIX.GAIN_PEND, Nat.add_assoc]; exact plainReg_pix die (by omega)
  refine h.completes [] (regs [Reg.PIX.GAIN_LG die.val k.val, Reg.PIX.GAIN_PEND die.val k.val]) [] hq (by decide)
    ((Frame.refl.setWord (.inl (by simp [regs]))).setWord (.inl (by simp [regs]))) fun t hs hl => ⟨hl, ?_, ?_⟩
  · rw [hs.plain rfl hlg, Device.writeGainLg, Device.word_setWord_ne _ _ hne, Device.word_setWord_self]
  · rw [hs.plain rfl hpend, Device.writeGainLg, Device.word_setWord_self]

/-! ### Fills (R59, R81) -/

/-- The fill that a write to TBL_FILL asks for. -/
def fillOf (route : Nat) (data : W32) : FillSt :=
  ⟨data.extractLsb' 0 8, data.extractLsb' 8 8, (if data.getLsbD 24 then none else some (data.extractLsb' 16 7).toNat), data, route⟩

/-- A write with GO while no fill runs starts one. -/
theorem Device.writeTblFill_go {d : Device} {k : Nat} (hb : d.flag (Reg.PIX.TBL_FILL_BUSY die.val) = false) (hg : data.getLsbD 31 = true) :
    d.writeTblFill k die data =
      { (d.setWord (Reg.PIX.TBL_FILL die.val) (data &&& 0x017FFFFF#32)).setFlag (Reg.PIX.TBL_FILL_BUSY die.val) true with
        arr := { d.arr with fills := SMap.insert die.val (fillOf k data) (SMap.erase d.arr.fills die.val) } } := by
  simp only [Device.writeTblFill, hb, hg, Bool.false_eq_true, if_false, if_true]
  rfl

theorem tblFillGo_completes (hq : s.dev.serviceRun = none) (hp : s.dev.pageOn (.pix die) = true) (hc : s.dev.pixClaimed die.val = false)
    (hb : s.dev.flag (Reg.PIX.TBL_FILL_BUSY die.val) = false) (hg : data.getLsbD 31 = true) :
    Completes (.tblFillGo route die data) s fun d => Leaves [.arr] (regs [Reg.PIX.TBL_FILL die.val]) [] s.dev d
      ∧ d.flag (Reg.PIX.TBL_FILL_BUSY die.val) = true
      ∧ d.arr = { s.dev.arr with fills := SMap.insert die.val (fillOf (routeCode route) data) (SMap.erase s.dev.arr.fills die.val) } := by
  have h : Effect (.tblFillGo route die data) s (s.dev.writeTblFill (routeCode route) die data) :=
    Effect.of_run (show execTblFillGo route die data s = run _ s from rfl) (Device.pixWrite_open hp hc)
  rw [Device.writeTblFill_go hb hg] at h
  refine h.completes [.arr] (regs [Reg.PIX.TBL_FILL die.val]) [] hq (by decide)
    (((Frame.refl.setWord (.inl (by simp [regs]))).setFlag (.inl (by simp [regs, Reg.PIX.TBL_FILL_BUSY]))).arr (by decide)) fun t hs hl => ⟨hl, ?_, ?_⟩
  · rw [hs.flag (Reg.PIX.TBL_FILL_BUSY die.val) rfl (plainReg_pix die), Device.flag_arr, Device.flag_setFlag_self _ _ _ (show 30 + 1 ≤ 32 by decide) Nat.one_pos]
  · rw [hs.arr (by decide)]

/-- A fill that ends in UNSEALED has changed every entry of its pixels within its mask. -/
theorem effect_tblFillDone {f : FillSt} (hp : s.dev.pageOn (.pix die) = true) (hu : s.dev.unsealed = true) (hf : s.dev.arr.fills.lookup die.val = some f) :
    Effect (.tblFillDone die) s
      (let d := (fillPixels die.val f.region).foldl (fun (d : Device) (i : Nat) =>
         d.setEntry i (d.entryAfter (d.pixel i).entry (((d.pixel i).entry &&& ~~~f.mask) ||| (f.value &&& f.mask)))) s.dev
       { d.setFlag (Reg.PIX.TBL_FILL_BUSY die.val) false with arr := { d.arr with fills := SMap.erase d.arr.fills die.val } }) := by
  have h : Effect (.tblFillDone die) s (s.dev.finishFill die) :=
    Effect.of_run (show execTblFillDone die s = run _ s from rfl) (if_pos hp)
  simp only [Device.finishFill, hf, hu, Bool.not_true, Bool.false_and, Bool.false_eq_true, if_false] at h
  exact h

/-- Settles O6: the effect of each write, with its frame where it completes, and of the end of a fill. -/
theorem frontEndWritesAndFills : Obligations.FrontEndWritesAndFills := by
  unfold Obligations.FrontEndWritesAndFills
  exact ⟨fun _ _ _ _ => effect_feCtrlWrite_inhibited,
    fun _ _ _ _ => effect_feCtrlWrite_refused,
    fun _ _ _ => vthWrite_completes,
    fun _ _ _ _ => gainLgWrite_completes,
    fun _ _ _ _ => tblFillGo_completes,
    fun _ _ _ => effect_tblFillDone⟩

end Sys2Proof.Machine
end

section
/-! PROOFS. The window of the pixel table and CLEAR_STATUS (O7). -/

namespace Sys2Proof.Machine

variable {bs : List Block} {rs : Nat → Bool} {ps : List Page} {d e : Device} {s : State} {die : Die} {route : Route} {data : W32} {n : Nat}

/-! ### The address after an access (R80) -/

/-- Without AUTOINC the address stays. -/
theorem Device.stepTable_still (ha : d.flag (Reg.PIX.TBL_ADDR_AUTOINC die.val) = false) : d.stepTable die n = d := by
  simp only [Device.stepTable, ha, Bool.not_false, if_true]

/-- With it the address moves on within its row. -/
theorem Device.stepTable_inside (ha : d.flag (Reg.PIX.TBL_ADDR_AUTOINC die.val) = true) (hc : d.fld (Reg.PIX.TBL_ADDR_COL die.val) + n < 512) :
    d.stepTable die n = d.setFld (Reg.PIX.TBL_ADDR_COL die.val) (d.fld (Reg.PIX.TBL_ADDR_COL die.val) + n) := by
  simp only [Device.stepTable, ha, hc, Bool.not_true, Bool.false_eq_true, if_false, if_true]

/-- At the end of a row it goes to the start of the next. -/
theorem Device.stepTable_wraps (ha : d.flag (Reg.PIX.TBL_ADDR_AUTOINC die.val) = true) (hc : 512 ≤ d.fld (Reg.PIX.TBL_ADDR_COL die.val) + n) :
    d.stepTable die n = (d.setFld (Reg.PIX.TBL_ADDR_COL die.val) 0).setFld (Reg.PIX.TBL_ADDR_ROW die.val) (d.fld (Reg.PIX.TBL_ADDR_ROW die.val) + 1) := by
  simp only [Device.stepTable, ha, Nat.not_lt.mpr hc, Bool.not_true, Bool.false_eq_true, if_false]

theorem Frame.stepTable (h : Frame bs rs ps d e) (hr : rs (Reg.PIX.TBL_ADDR die.val) = true) : Frame bs rs ps d (e.stepTable die n) :=
  Frame.ite (fun _ => h) fun _ => Frame.ite (fun _ => h.setFld (.inl hr)) fun _ => (h.setFld (.inl hr)).setFld (.inl hr)

/-- Column and row lie apart in TBL_ADDR. -/
theorem Device.fld_tblRow_setCol (d : Device) (die : Die) (v : Nat) :
    (d.setFld (Reg.PIX.TBL_ADDR_COL die.val) v).fld (Reg.PIX.TBL_ADDR_ROW die.val) = d.fld (Reg.PIX.TBL_ADDR_ROW die.val) :=
  Device.fld_setFld_other d _ _ v (.inr (show 16 + 8 ≤ 32 ∧ (16 + 8 ≤ 0 ∨ 0 + 9 ≤ 16) by decide))
theorem Device.fld_tblCol_setRow (d : Device) (die : Die) (v : Nat) :
    (d.setFld (Reg.PIX.TBL_ADDR_ROW die.val) v).fld (Reg.PIX.TBL_ADDR_COL die.val) = d.fld (Reg.PIX.TBL_ADDR_COL die.val) :=
  Device.fld_setFld_other d _ _ v (.inr (show 0 + 9 ≤ 32 ∧ (0 + 9 ≤ 16 ∨ 16 + 8 ≤ 0) by decide))
theorem Device.fld_tblCol_setCol (d : Device) (die : Die) (v : Nat) :
    (d.setFld (Reg.PIX.TBL_ADDR_COL die.val) v).fld (Reg.PIX.TBL_ADDR_COL die.val) = v % 512 :=
  Device.fld_setFld_self d _ v (show 0 + 9 ≤ 32 by decide)
theorem Device.fld_tblRow_setRow (d : Device) (die : Die) (v : Nat) :
    (d.setFld (Reg.PIX.TBL_ADDR_ROW die.val) v).fld (Reg.PIX.TBL_ADDR_ROW die.val) = v % 256 :=
  Device.fld_setFld_self d _ v (show 16 + 8 ≤ 32 by decide)

theorem stepTable_inside_address (ha : d.flag (Reg.PIX.TBL_ADDR_AUTOINC die.val) = true) (hc : d.fld (Reg.PIX.TBL_ADDR_COL die.val) + n < 512) :
    (d.stepTable die n).fld (Reg.PIX.TBL_ADDR_COL die.val) = d.fld (Reg.PIX.TBL_ADDR_COL die.val) + n
      ∧ (d.stepTable die n).fld (Reg.PIX.TBL_ADDR_ROW die.val) = d.fld (Reg.PIX.TBL_ADDR_ROW die.val) := by
  rw [Device.stepTable_inside ha hc, Device.fld_tblCol_setCol, Device.fld_tblRow_setCol]
  exact ⟨Nat.mod_eq_of_lt hc, rfl⟩

theorem stepTable_wraps_address (ha : d.flag (Reg.PIX.TBL_ADDR_AUTOINC die.val) = true) (hc : 512 ≤ d.fld (Reg.PIX.TBL_ADDR_COL die.val) + n) :
    (d.stepTable die n).fld (Reg.PIX.TBL_ADDR_COL die.val) = 0
      ∧ (d.stepTable die n).fld (Reg.PIX.TBL_ADDR_ROW die.val) = (d.fld (Reg.PIX.TBL_ADDR_ROW die.val) + 1) % 256 := by
  rw [Device.stepTable_wraps ha hc, Device.fld_tblCol_setRow, Device.fld_tblCol_setCol, Device.fld_tblRow_setRow]
  exact ⟨rfl, rfl⟩

/-! ### Writes and reads of the window (R59, R79, R80) -/

/-- A write in UNSEALED while no fill runs. -/
theorem effect_tblDataWrite (hp : s.dev.pageOn (.pix die) = true) (hc : s.dev.pixClaimed die.val = false)
    (hb : s.dev.flag (Reg.PIX.TBL_FILL_BUSY die.val) = false) (hu : s.dev.unsealed = true) :
    Effect (.tblDataWrite route die data) s (Device.stepTable (((s.dev.windowPixels die 4).zipIdx.map fun p => (p.1, data.extractLsb' (8 * p.2) 8)).foldl
      (fun (d : Device) (c : Nat × BitVec 8) => d.setEntry c.1 (d.entryAfter (d.pixel c.1).entry c.2)) s.dev) die 4) := by
  have h : Effect (.tblDataWrite route die data) s (s.dev.writeTblData (routeCode route) die data) :=
    Effect.of_run (show execTblDataWrite route die data s = run _ s from rfl) (Device.pixWrite_open hp hc)
  simp only [Device.writeTblData, hb, hu, Bool.not_true, Bool.false_and, Bool.false_eq_true, if_false] at h
  exact h

/-- A read that answers a word and steps the address. -/
theorem tableRead_completes {c : Instr} {w : W32} (h : Effect c s { s.dev.stepTable die n with rdata := w }) (hq : s.dev.serviceRun = none) :
    Completes c s fun d => Leaves [.rdata] (regs [Reg.PIX.TBL_ADDR die.val]) [] s.dev d
      ∧ d.word (Reg.PIX.TBL_ADDR die.val) = (s.dev.stepTable die n).word (Reg.PIX.TBL_ADDR die.val) ∧ d.rdata = w := by
  refine h.completes [.rdata] (regs [Reg.PIX.TBL_ADDR die.val]) [] hq (by decide)
    ((Frame.refl.stepTable (by simp [regs])).rdata (by decide)) fun t hs hl => ⟨hl, ?_, ?_⟩
  · exact hs.plain rfl (plainReg_pix die)
  · rw [hs.rdata (by decide)]

theorem tblDataRead_completes (hq : s.dev.serviceRun = none) (hp : s.dev.pageOn (.pix die) = true)
    (hb : s.dev.flag (Reg.PIX.TBL_FILL_BUSY die.val) = false) :
    Completes (.tblDataRead die) s fun d => Leaves [.rdata] (regs [Reg.PIX.TBL_ADDR die.val]) [] s.dev d
      ∧ d.word (Reg.PIX.TBL_ADDR die.val) = (s.dev.stepTable die 4).word (Reg.PIX.TBL_ADDR die.val)
      ∧ d.rdata = BitVec.ofNat 32 ((s.dev.windowPixels die 4).zipIdx.map fun p => (s.dev.pixel p.1).entry.toNat * 256 ^ p.2).sum := by
  have h : Effect (.tblDataRead die) s (s.dev.readTblData die) :=
    Effect.of_run (show execTblDataRead die s = run _ s from rfl) (if_pos hp)
  rw [Device.readTblData, if_neg (Bool.eq_false_iff.mp hb)] at h
  exact tableRead_completes h hq

theorem statDataRead_completes (hq : s.dev.serviceRun = none) (hp : s.dev.pageOn (.pix die) = true) :
    Completes (.statDataRead die) s fun d => Leaves [.rdata] (regs [Reg.PIX.TBL_ADDR die.val]) [] s.dev d
      ∧ d.word (Reg.PIX.TBL_ADDR die.val) = (s.dev.stepTable die 16).word (Reg.PIX.TBL_ADDR die.val)
      ∧ d.rdata = BitVec.ofNat 32 ((s.dev.windowPixels die 16).zipIdx.map fun p => (s.dev.pixel p.1).status.toNat * 4 ^ p.2).sum := by
  have h : Effect (.statDataRead die) s (s.dev.readStatData die) :=
    Effect.of_run (show execStatDataRead die s = run _ s from rfl) (if_pos hp)
  exact tableRead_completes h hq

/-! ### CLEAR_STATUS (R61) -/

theorem effect_clearStatus (hp : s.dev.pageOn (.pix die) = true) (hc : s.dev.pixClaimed die.val = false) :
    Effect (.clearStatus die) s
      ((((s.dev.arr.pixels.filter fun p => pixDie p.1 == die && p.2.status != 0).map (·.1)).foldl
        (fun (d : Device) (i : Nat) => d.updPixel i fun p => { p with status := 0 }) s.dev).countStatuses die) :=
  Effect.of_run (show execClearStatus die s = run _ s from rfl) (Device.pixWrite_open hp hc)

/-- Settles O7: the effect of each access, with its frame where it completes, and the two ways an AUTOINC address steps. -/
theorem pixelTableWindow : Obligations.PixelTableWindow := by
  unfold Obligations.PixelTableWindow
  exact ⟨fun _ _ _ _ => effect_tblDataWrite,
    fun _ _ => tblDataRead_completes,
    fun _ _ => statDataRead_completes,
    fun _ _ => effect_clearStatus,
    fun _ _ _ => Device.stepTable_still,
    fun _ _ _ => stepTable_inside_address,
    fun _ _ _ => stepTable_wraps_address⟩

end Sys2Proof.Machine
end

section
/-! PROOFS. Frames and reads of what injection, the background check and the pixel table share. -/

namespace Sys2Proof.Machine

variable {bs : List Block} {rs : Nat → Bool} {ps : List Page} {d e : Device} {die : Die} {i : Nat} {is : List Nat} {r : Region}

/-! ### Fields after a frame -/

theorem Frame.fld (h : Frame bs rs ps d e) (f : Fld) (h1 : rs f.addr = false) (h2 : sharedReg f.addr = false) : e.fld f = d.fld f := by
  simp only [Device.fld, h.words _ h1 h2]
theorem Frame.flag (h : Frame bs rs ps d e) (f : Fld) (h1 : rs f.addr = false) (h2 : sharedReg f.addr = false) : e.flag f = d.flag f := by
  simp only [Device.flag, h.fld f h1 h2]

/-! ### Pixels and their entries -/

theorem Frame.holdPixels (h : Frame bs rs ps d e) {on : Bool} (hb : Block.arr ∈ bs) : Frame bs rs ps d (e.holdPixels is on) :=
  h.foldl is fun _ _ h => h.updPixel hb

theorem Frame.dropPulse (h : Frame bs rs ps d e) (hb : Block.arr ∈ bs) : Frame bs rs ps d (e.dropPulse i) := by
  have hc : Frame bs rs ps d (if (e.conv (pixCluster i)).holder = some i then e.freeConv (pixCluster i) else e) :=
    Frame.ite (fun _ => h.updConv hb) fun _ => h
  exact Frame.ite (fun _ => hc.updPixel hb) fun _ => hc

theorem Frame.setEntry (h : Frame bs rs ps d e) {x : BitVec 8} (hb : Block.arr ∈ bs) (hs : Block.sea ∈ bs) : Frame bs rs ps d (e.setEntry i x) := by
  have hm := (h.updPixel (i := i) (f := fun p => { p with entry := x, trim := if x.getLsbD 5 then x.extractLsb' 0 5 else p.trim }) hb).sea
    (x := { e.sea with master := SMap.set (fun _ => 0x10#5) e.sea.master i (x.extractLsb' 0 5) }) hs
  exact Frame.noteQuiet (Frame.ite (fun _ => hm.dropPulse hb) fun _ => hm) hb

/-! ### The check's hold on its pixels (R68, R71) -/

theorem Frame.setCheck (h : Frame bs rs ps d e) {c : CheckSt} (hb : Block.arr ∈ bs) : Frame bs rs ps d (e.setCheck die c) := h.arr hb

theorem Frame.releaseChecked (h : Frame bs rs ps d e) (hb : Block.arr ∈ bs) : Frame bs rs ps d (e.releaseChecked die r is) :=
  Frame.ite (fun _ => (h.holdPixels hb).updRegion hb) fun _ => h.holdPixels hb

theorem Frame.resumeCheck (h : Frame bs rs ps d e) (hb : Block.arr ∈ bs) : Frame bs rs ps d (e.resumeCheck die) := by
  unfold Device.resumeCheck
  dsimp only
  split
  · exact (h.holdPixels hb).setCheck hb
  · exact h

/-- The end of the check of no pixel changes nothing. -/
theorem Device.releaseChecked_nil (d : Device) (die : Die) (r : Region) : d.releaseChecked die r [] = d := by
  simp only [Device.releaseChecked, Device.holdPixels, List.foldl_nil, List.isEmpty_nil, Bool.not_true, Bool.and_false, Bool.false_and,
    Bool.false_eq_true, if_false]

/-- The end of a check moves no pixel but those it releases. -/
theorem Device.pixel_releaseChecked (d : Device) (die : Die) (r : Region) (is : List Nat) (j : Nat) :
    (d.releaseChecked die r is).pixel j = (d.holdPixels is false).pixel j := by
  unfold Device.releaseChecked; dsimp only; split <;> rfl

theorem Device.holdPixels_singleton (d : Device) (i : Nat) (on : Bool) : d.holdPixels [i] on = d.updPixel i fun p => { p with checking := on } := rfl

@[simp] theorem Device.checkOf_setCheck_self (d : Device) (die : Die) (c : CheckSt) : (d.setCheck die c).checkOf die = c := SMap.get_set_self _ _ _ _

theorem Device.checkOf_congr (h : e.arr = d.arr) (die : Die) : e.checkOf die = d.checkOf die := by simp only [Device.checkOf, h]
theorem Leaves.checkOf (h : Leaves bs rs ps d e) (hb : Block.arr ∉ bs) (die : Die) : e.checkOf die = d.checkOf die :=
  Device.checkOf_congr (h.arr hb) die

/-! ### The end of an injection sequence (R65) -/

theorem Frame.monDoze (h : Frame bs rs ps d e) (hm : Block.mon ∈ bs) : Frame bs rs ps d e.monDoze :=
  Frame.ite (fun _ => h.mon hm) fun _ => h

theorem Frame.pulsesEnd (h : Frame bs rs ps d e) {n : Nat} (hw : Block.wadcs ∈ bs) : Frame bs rs ps d (e.pulsesEnd n) := h.wadcs hw

/-- The device as a sequence has ended, before a check that it paused goes on. -/
def Device.injOver (d : Device) (die : Die) : Device :=
  let x := ((d.setFlag (Reg.PIX.INJ_CTRL_BUSY die.val) false).raise (.pix die) 4).pulsesEnd die.val
  Device.monDoze { x with mon := { x.mon with senseWait := x.mon.senseWait.filter fun n => n != die.val } }

theorem Device.endInj_eq (d : Device) (die : Die) :
    d.endInj die = if ((d.injOver die).injOf die).service.isSome then d.injOver die else (d.injOver die).resumeCheck die := rfl

/-- What follows BUSY and event 4 at the end of a sequence: calibrations, the monitor ADCs and a paused check. -/
theorem Frame.endInj (h : Frame bs rs ps d ((e.setFlag (Reg.PIX.INJ_CTRL_BUSY die.val) false).raise (.pix die) 4)) (hw : Block.wadcs ∈ bs)
    (hm : Block.mon ∈ bs) (hb : Block.arr ∈ bs) : Frame bs rs ps d (e.endInj die) := by
  have hover : Frame bs rs ps d (e.injOver die) := Frame.monDoze ((h.pulsesEnd hw).mon hm) hm
  rw [Device.endInj_eq]
  exact Frame.ite (fun _ => hover) fun _ => hover.resumeCheck hb

end Sys2Proof.Machine
end

section
/-! PROOFS. Injection sequences and the background check (O8). -/

namespace Sys2Proof.Machine

variable {bs : List Block} {rs : Nat → Bool} {ps : List Page} {d e : Device} {s : State} {die : Die} {pix : Pix} {i : Nat} {found : List (Pix × Option Nat)}

/-! ### START and STOP (R63, R65, R71) -/

theorem effect_injStart (hp : s.dev.pageOn (.pix die) = true) (hc : s.dev.pixClaimed die.val = false) (he : s.dev.enabled (.pix die) = true)
    (hb : s.dev.flag (Reg.PIX.INJ_CTRL_BUSY die.val) = false) (hl : s.dev.fld Reg.HLT.SERVICE_LEVEL_LEVEL ≠ 0) :
    Effect (.injStart die) s
      (let n := max 1 (s.dev.fld (Reg.PIX.INJ_COUNT_COUNT die.val))
       let i : InjSt := { s.dev.injOf die with
         left := n, given := 0, next := s.dev.clock + (2 ^ 18 - s.dev.ct.toNat) + s.dev.fld (Reg.PIX.INJ_OFFSET_CT die.val)
         service := none, async := s.dev.flag (Reg.PIX.INJ_CTRL_ASYNC die.val) }
       let d := ((((s.dev.pauseCheck die).setInj die i).setFld (Reg.PIX.INJ_LEFT_COUNT die.val) n).setFlag (Reg.PIX.INJ_CTRL_BUSY die.val) true).monWake
       { d with mon := { d.mon with senseWait := d.mon.senseWait ++ [die.val] } }) := by
  have h : Effect (.injStart die) s (s.dev.startInj die) :=
    Effect.of_run (show execInjStart die s = run _ s from rfl) (Device.pixWrite_open hp hc)
  simp only [Device.startInj, hb, hl, he, Bool.not_true, Bool.false_or, decide_false, Bool.false_eq_true, if_false] at h
  exact h

theorem injStop_completes (hq : s.dev.serviceRun = none) (hp : s.dev.pageOn (.pix die) = true) (hc : s.dev.pixClaimed die.val = false)
    (hb : s.dev.flag (Reg.PIX.INJ_CTRL_BUSY die.val) = true) :
    Completes (.injStop die) s fun d => d.flag (Reg.PIX.INJ_CTRL_BUSY die.val) = false ∧ (d.sticky (.pix die)).getLsbD 4 = true
      ∧ d.fld (Reg.PIX.INJ_LEFT_COUNT die.val) = s.dev.fld (Reg.PIX.INJ_LEFT_COUNT die.val) ∧ d.clock = s.dev.clock ∧ d.tim = s.dev.tim ∧ d.sea = s.dev.sea := by
  have h : Effect (.injStop die) s (s.dev.endInj die) :=
    Effect.of_run (show execInjStop die s = run _ s from rfl) ((Device.pixWrite_open hp hc).trans (if_pos hb))
  have ended : Frame [.wadcs, .mon, .arr] (fun _ => false) [] ((s.dev.setFlag (Reg.PIX.INJ_CTRL_BUSY die.val) false).raise (.pix die) 4) (s.dev.endInj die) :=
    Frame.endInj Frame.refl (by decide) (by decide) (by decide)
  have hon : (s.dev.setFlag (Reg.PIX.INJ_CTRL_BUSY die.val) false).pageOn (.pix die) = true := by
    rw [Device.pageOn_setFlag (domReg_pix die), hp]
  refine h.completes [.wadcs, .mon, .arr] (regs [Reg.PIX.INJ_CTRL die.val]) [.pix die] hq (by decide)
    (Frame.endInj ((Frame.refl.setFlag (.inl (by simp [regs, Reg.PIX.INJ_CTRL_BUSY]))).raise (.inl (by simp))) (by decide) (by decide) (by decide))
    fun t hs hl => ⟨?_, ?_, ?_, hl.clock (by decide), hl.tim (by decide), hl.block .sea (by decide) (by decide)⟩
  · rw [hs.flag (Reg.PIX.INJ_CTRL_BUSY die.val) rfl (plainReg_pix die), ended.flag (Reg.PIX.INJ_CTRL_BUSY die.val) rfl (sharedReg_pix die),
      Device.flag_raise (g := Reg.PIX.INJ_CTRL_BUSY die.val) (sharedReg_pix die),
      Device.flag_setFlag_self _ _ _ (show 8 + 1 ≤ 32 by decide) Nat.one_pos]
  · exact hs.kept _ (by simp) 4 (ended.kept _ (by simp) 4 (Device.sticky_raise_self hon (by decide)))
  · exact hl.fld (Reg.PIX.INJ_LEFT_COUNT die.val) (by simp [regs, Reg.PIX.INJ_LEFT_COUNT, Reg.PIX.INJ_LEFT, Reg.PIX.INJ_CTRL]) (plainReg_pix die)

/-! ### Pulses (R59, R62, R64, R65) -/

/-- A pulse of a sequence that no service runs, asynchronous at once or synchronous at its time. -/
theorem effect_injPulse (hp : s.dev.pageOn (.pix die) = true) (hb : s.dev.flag (Reg.PIX.INJ_CTRL_BUSY die.val) = true)
    (hn : (s.dev.injOf die).service = none) :
    Effect (.injPulse die) s
      (let i := s.dev.injOf die
       let d := if i.async then s.dev else s.dev.waitUntil i.next
       let now := d.tim.count.toNat
       let d := d.send (.inject die.val (s.dev.fld (Reg.PIX.INJ_DAC_CODE die.val)) (s.dev.flag (Reg.PIX.FE_CTRL_POLARITY die.val)) now (now + s.dev.injPeriod die / 2) (s.dev.injected die.val))
       let d := (if i.async then d else d.pulseWindows die.val).senseDue die
       let d := (d.setInj die { i with
         left := i.left - 1, given := i.given + 1, next := i.next + s.dev.injPeriod die, pulse := if i.async then i.pulse else some now }).setFld
           (Reg.PIX.INJ_LEFT_COUNT die.val) (i.left - 1)
       if i.left ≤ 1 then d.endInj die else d) := by
  refine Effect.of_run (show execInjPulse die s = run _ s from rfl) ?_
  cases ha : (s.dev.injOf die).async
  case false =>
    simp only [hp, hb, hn, ha, Option.isSome_none, Bool.false_and, Bool.not_false, Bool.and_self, Bool.false_eq_true, if_true, if_false]
    rfl
  case true =>
    simp only [hp, hb, hn, ha, Option.isSome_none, Bool.false_and, Bool.not_false, Bool.and_self, Bool.false_eq_true, if_true, if_false]

/-! ### The start of a slot, and the pixels it holds (R67, R68) -/

theorem effect_checkSlotStart {r : Region} (hs : s.dev.scanOf die.val = none) (hr : r = Fin.ofNat 128 (s.dev.fld (Reg.PIX.CHECK_POS_REGION die.val)))
    (hc : s.dev.checkRuns die = true) (ht : (s.dev.region (regNo die r)).transition = false) (hd : (s.dev.checkOf die).delayed = false) :
    Effect (.checkSlotStart die) s
      (let taking := s.dev.takingPart die r
       let ready := taking.filter fun i => (s.dev.pixel i).run == .armed && !(s.dev.pixel i).high
       let skipped := taking.length - ready.length
       let d := (ready.foldl (fun (d : Device) (i : Nat) => d.updPixel i fun p => { p with checking := true }) s.dev).setCheck die { inSlot := true, since := s.dev.clock, checked := ready }
       if skipped = 0 then d else (d.count (Reg.PIX.CHECK_SKIPPED die.val) skipped).raise (.pix die) 2) := by
  refine Effect.of_run (show execCheckSlotStart die s = run _ s from rfl) ?_
  subst hr
  simp only [hs, hc, ht, hd, Bool.not_true, Bool.false_eq_true, if_false]
  rfl

theorem effect_checkPixelReconnect (hk : (s.dev.pixel (pixNo pix)).checking = true) :
    Effect (.checkPixelReconnect pix) s
      ((s.dev.waitUntil (s.dev.checkedSince pix.die + 5120)).releaseChecked pix.die (pixRegion (pixNo pix)) [pixNo pix]) :=
  Effect.of_run (show execCheckPixelReconnect pix s = run _ s from rfl) (if_pos hk)

theorem checkPixelReconnect_completes (hq : s.dev.serviceRun = none) (hk : (s.dev.pixel (pixNo pix)).checking = true) :
    Completes (.checkPixelReconnect pix) s fun d => Leaves [.arr, .clock, .tim] (regs []) [] s.dev d
      ∧ d.pixel (pixNo pix) = { s.dev.pixel (pixNo pix) with checking := false } ∧ d.clock = max s.dev.clock (s.dev.checkedSince pix.die + 5120)
      ∧ (∀ j, j ≠ pixNo pix → d.pixel j = s.dev.pixel j) := by
  refine (effect_checkPixelReconnect hk).completes [.arr, .clock, .tim] (regs []) [] hq (by decide)
    ((Frame.refl.waitUntil (by decide) (by decide)).releaseChecked (by decide)) fun t hs hl => ⟨hl, ?_, ?_, fun j hj => ?_⟩
  · rw [hs.pixel (by decide), Device.pixel_releaseChecked, Device.holdPixels_singleton, Device.pixel_updPixel_self]; rfl
  · rw [hs.clock (by decide), ← Device.waitUntil_clock]
    exact (Frame.releaseChecked (bs := [.arr]) (rs := fun _ => false) (ps := []) Frame.refl (by decide)).blocks .clock (by decide)
  · rw [hs.pixel (by decide), Device.pixel_releaseChecked, Device.holdPixels_singleton, Device.pixel_updPixel_ne hj]; rfl

/-! ### The end of a slot (R67, R69, R70) -/

/-- The registers of a die's page past CHECK_POS: the last change and the counts of the statuses. -/
def resultReg (die : Die) (a : Nat) : Bool := decide (Reg.PIX.LAST_CHANGE die.val ≤ a)

theorem resultReg_of_le {o : Nat} (h : 0xD0 ≤ o := by decide) : resultReg die (Reg.PIX.base die.val + o) = true :=
  decide_eq_true (Nat.add_le_add_left h _)

theorem resultReg_checkPos (die : Die) : resultReg die (Reg.PIX.CHECK_POS die.val) = false :=
  decide_eq_false (Nat.not_le.mpr (Nat.add_lt_add_left (by decide : 0xC8 < 0xD0) _))

theorem Frame.countStatuses (h : Frame bs rs ps d e) (hr : ∀ a, resultReg die a = true → rs a = true) : Frame bs rs ps d (e.countStatuses die) :=
  (((h.setFld (f := Reg.PIX.COUNT_CONNECTED_COUNT die.val) (.inl (hr _ resultReg_of_le))).setFld
    (f := Reg.PIX.COUNT_OPEN_COUNT die.val) (.inl (hr _ resultReg_of_le))).setFld
    (f := Reg.PIX.COUNT_SHORTED_COUNT die.val) (.inl (hr _ resultReg_of_le))).setFld
    (f := Reg.PIX.COUNT_UNTESTED_COUNT die.val) (.inl (hr _ resultReg_of_le))

/-- A new status changes its pixel, and AUTO_MASK its entry. -/
theorem Frame.newStatus (h : Frame bs rs ps d e) {x : BitVec 2} (hb : Block.arr ∈ bs) (hs : Block.sea ∈ bs)
    (hr : ∀ a, resultReg die a = true → rs a = true) (hp : Page.pix die ∈ ps) : Frame bs rs ps d (e.newStatus die i x) := by
  have hlast : ∀ {f : Fld}, f.addr = Reg.PIX.LAST_CHANGE die.val → rs f.addr = true := fun hf => hr _ (hf ▸ resultReg_of_le)
  have hset := (h.updPixel (i := i) (f := fun p => { p with status := x }) hb).raise (b := 0) (x := 0) (.inl hp)
  have hnew := ((hset.setFld (f := Reg.PIX.LAST_CHANGE_COL die.val) (v := pixCol i) (.inl (hlast rfl))).setFld
    (f := Reg.PIX.LAST_CHANGE_ROW die.val) (v := pixRow i) (.inl (hlast rfl))).setFld
    (f := Reg.PIX.LAST_CHANGE_STATUS die.val) (v := x.toNat) (.inl (hlast rfl))
  exact Frame.ite (fun _ => h) fun _ => Frame.ite (fun _ => (hnew.setEntry hb hs).raise (.inl hp)) fun _ => hnew

/-- The device as a slot's time is over: its pixels are connected again, and what was found became statuses. -/
def Device.slotOver (d : Device) (die : Die) (found : List (Pix × Option Nat)) : Device :=
  let c := d.checkOf die
  let x := (d.waitUntil (c.since + d.slotTicks die)).releaseChecked die (Fin.ofNat 128 (d.fld (Reg.PIX.CHECK_POS_REGION die.val)))
    (c.checked.filter fun i => (d.pixel i).checking)
  ((found.map fun f => (pixNo f.1, f.2)).filter fun f => c.checked.contains f.1).foldl (fun d f => d.newStatus die f.1 (d.checkStatus die f.2)) x

/-- The check moves to the next region, and after the last one it counts a cycle. -/
def Device.nextSlot (d : Device) (die : Die) : Device :=
  let x := d.setFld (Reg.PIX.CHECK_POS_REGION die.val) (d.fld (Reg.PIX.CHECK_POS_REGION die.val) + 1)
  if d.fld (Reg.PIX.CHECK_POS_REGION die.val) = 127 then x.setFld (Reg.PIX.CHECK_POS_CYCLES die.val) (x.fld (Reg.PIX.CHECK_POS_CYCLES die.val) + 1) else x

theorem effect_checkSlotEnd (hs : s.dev.scanOf die.val = none) (hp : s.dev.pageOn (.pix die) = true) (hi : (s.dev.checkOf die).inSlot = true)
    (hn : (s.dev.checkOf die).pausedAt = none) :
    Effect (.checkSlotEnd die found) s ((((s.dev.slotOver die found).nextSlot die).setCheck die {}).countStatuses die) := by
  refine Effect.of_run (show execCheckSlotEnd die found s = run _ s from rfl) ?_
  simp only [hs, hp, hi, hn, Option.isNone_none, Bool.and_self, if_true]
  rfl

/-- After its time, the end of a slot changes pixels, results and master trims. -/
theorem Frame.slotOver (h : Frame bs rs ps d (e.waitUntil ((e.checkOf die).since + e.slotTicks die))) (hb : Block.arr ∈ bs) (hs : Block.sea ∈ bs)
    (hr : ∀ a, resultReg die a = true → rs a = true) (hp : Page.pix die ∈ ps) : Frame bs rs ps d (e.slotOver die found) :=
  (h.releaseChecked hb).foldl _ fun _ _ h => h.newStatus hb hs hr hp

theorem Frame.nextSlot (h : Frame bs rs ps d e) (hr : rs (Reg.PIX.CHECK_POS die.val) = true) : Frame bs rs ps d (e.nextSlot die) :=
  Frame.ite (fun _ => (h.setFld (.inl hr)).setFld (.inl hr)) fun _ => h.setFld (.inl hr)

theorem Frame.slotEnd (h : Frame bs (fun _ => true) ps d (e.waitUntil ((e.checkOf die).since + e.slotTicks die))) (hb : Block.arr ∈ bs)
    (hs : Block.sea ∈ bs) (hp : Page.pix die ∈ ps) :
    Frame bs (fun _ => true) ps d ((((e.slotOver die found).nextSlot die).setCheck die {}).countStatuses die) :=
  (((h.slotOver hb hs (fun _ _ => rfl) hp).nextSlot rfl).setCheck hb).countStatuses fun _ _ => rfl

theorem Device.fld_region_nextSlot (d : Device) (die : Die) :
    (d.nextSlot die).fld (Reg.PIX.CHECK_POS_REGION die.val) = (d.fld (Reg.PIX.CHECK_POS_REGION die.val) + 1) % 128 := by
  have hset := Device.fld_setFld_self d (Reg.PIX.CHECK_POS_REGION die.val) (d.fld (Reg.PIX.CHECK_POS_REGION die.val) + 1) (show 0 + 7 ≤ 32 by decide)
  unfold Device.nextSlot
  dsimp only
  split
  · rw [Device.fld_setFld_other _ _ _ _ (.inr (show 0 + 7 ≤ 32 ∧ (0 + 7 ≤ 8 ∨ 8 + 24 ≤ 0) by decide))]
    exact hset
  · exact hset

theorem Device.fld_cycles_nextSlot (d : Device) (die : Die) :
    (d.nextSlot die).fld (Reg.PIX.CHECK_POS_CYCLES die.val)
      = (d.fld (Reg.PIX.CHECK_POS_CYCLES die.val) + if d.fld (Reg.PIX.CHECK_POS_REGION die.val) = 127 then 1 else 0)
        % 2 ^ (Reg.PIX.CHECK_POS_CYCLES die.val).width := by
  have hother := Device.fld_setFld_other d (Reg.PIX.CHECK_POS_REGION die.val) (Reg.PIX.CHECK_POS_CYCLES die.val)
    (d.fld (Reg.PIX.CHECK_POS_REGION die.val) + 1) (.inr (show 8 + 24 ≤ 32 ∧ (8 + 24 ≤ 0 ∨ 0 + 7 ≤ 8) by decide))
  unfold Device.nextSlot
  dsimp only
  split
  · rw [Device.fld_setFld_self _ _ _ (show 8 + 24 ≤ 32 by decide), hother]
  · rw [hother, Nat.add_zero]
    exact (Nat.mod_eq_of_lt (Fld.of_lt _ _)).symm

/-- Before the last region only the region moves on. -/
theorem Device.nextSlot_inside (h : d.fld (Reg.PIX.CHECK_POS_REGION die.val) < 127) :
    d.nextSlot die = d.setFld (Reg.PIX.CHECK_POS_REGION die.val) (d.fld (Reg.PIX.CHECK_POS_REGION die.val) + 1) :=
  if_neg (Nat.ne_of_lt h)

/-- A slot that checked no pixel only takes its time. -/
theorem Device.slotOver_none (h : (d.checkOf die).checked = []) : d.slotOver die [] = d.waitUntil ((d.checkOf die).since + d.slotTicks die) := by
  simp only [Device.slotOver, h, List.filter_nil, List.map_nil, List.foldl_nil, Device.releaseChecked_nil]

theorem checkSlotEnd_completes (hq : s.dev.serviceRun = none) (hs : s.dev.scanOf die.val = none) (hp : s.dev.pageOn (.pix die) = true)
    (hi : (s.dev.checkOf die).inSlot = true) (hn : (s.dev.checkOf die).pausedAt = none) :
    Completes (.checkSlotEnd die found) s fun d => d.checkOf die = {} ∧ d.clock = max s.dev.clock ((s.dev.checkOf die).since + s.dev.slotTicks die)
      ∧ d.fld (Reg.PIX.CHECK_POS_REGION die.val) = (s.dev.fld (Reg.PIX.CHECK_POS_REGION die.val) + 1) % 128
      ∧ d.fld (Reg.PIX.CHECK_POS_CYCLES die.val) = (s.dev.fld (Reg.PIX.CHECK_POS_CYCLES die.val) + if s.dev.fld (Reg.PIX.CHECK_POS_REGION die.val) = 127 then 1 else 0)
          % 2 ^ (Reg.PIX.CHECK_POS_CYCLES die.val).width := by
  have results : Frame [.arr, .sea] (resultReg die) [.pix die] _ (s.dev.slotOver die found) :=
    Frame.slotOver Frame.refl (by decide) (by decide) (fun _ h => h) (by simp)
  have region : (s.dev.slotOver die found).fld (Reg.PIX.CHECK_POS_REGION die.val) = s.dev.fld (Reg.PIX.CHECK_POS_REGION die.val) :=
    results.fld (Reg.PIX.CHECK_POS_REGION die.val) (resultReg_checkPos die) (sharedReg_pix die)
  have cycles : (s.dev.slotOver die found).fld (Reg.PIX.CHECK_POS_CYCLES die.val) = s.dev.fld (Reg.PIX.CHECK_POS_CYCLES die.val) :=
    results.fld (Reg.PIX.CHECK_POS_CYCLES die.val) (resultReg_checkPos die) (sharedReg_pix die)
  have counts : Frame [] (resultReg die) [] (((s.dev.slotOver die found).nextSlot die).setCheck die {}) _ :=
    Frame.refl.countStatuses (die := die) fun _ h => h
  have time : Frame [.arr, .sea] (fun _ => true) [.pix die] (s.dev.waitUntil ((s.dev.checkOf die).since + s.dev.slotTicks die))
      ((((s.dev.slotOver die found).nextSlot die).setCheck die {}).countStatuses die) :=
    Frame.slotEnd Frame.refl (by decide) (by decide) (by simp)
  refine (effect_checkSlotEnd hs hp hi hn).completes [.arr, .sea, .clock, .tim] (fun _ => true) [.pix die] hq (by decide)
    (Frame.slotEnd (Frame.refl.waitUntil (by decide) (by decide)) (by decide) (by decide) (by simp)) fun t hs _ => ⟨?_, ?_, ?_, ?_⟩
  · rw [hs.checkOf (by decide), Device.checkOf_congr (counts.blocks .arr (by decide)), Device.checkOf_setCheck_self]
  · calc t.clock
      _ = _ := hs.clock (by decide)
      _ = _ := time.blocks .clock (by decide)
      _ = _ := Device.waitUntil_clock _ _
  · calc t.fld (Reg.PIX.CHECK_POS_REGION die.val)
      _ = _ := hs.fld (Reg.PIX.CHECK_POS_REGION die.val) rfl (plainReg_pix die)
      _ = _ := counts.fld (Reg.PIX.CHECK_POS_REGION die.val) (resultReg_checkPos die) (sharedReg_pix die)
      _ = _ := Device.fld_region_nextSlot _ die
      _ = _ := by rw [region]
  · calc t.fld (Reg.PIX.CHECK_POS_CYCLES die.val)
      _ = _ := hs.fld (Reg.PIX.CHECK_POS_CYCLES die.val) rfl (plainReg_pix die)
      _ = _ := counts.fld (Reg.PIX.CHECK_POS_CYCLES die.val) (resultReg_checkPos die) (sharedReg_pix die)
      _ = _ := Device.fld_cycles_nextSlot _ die
      _ = _ := by rw [region, cycles]

/-- A slot that checked no pixel moves the check on within its cycle. -/
theorem effect_checkSlotEnd_empty (hp : s.dev.pageOn (.pix die) = true) (hs : s.dev.scanOf die.val = none) (hi : (s.dev.checkOf die).inSlot = true)
    (hn : (s.dev.checkOf die).pausedAt = none) (hc : (s.dev.checkOf die).checked = []) (hr : s.dev.fld (Reg.PIX.CHECK_POS_REGION die.val) < 127) :
    Effect (.checkSlotEnd die []) s (((((s.dev.waitUntil ((s.dev.checkOf die).since + s.dev.slotTicks die)).setFld (Reg.PIX.CHECK_POS_REGION die.val)
      (s.dev.fld (Reg.PIX.CHECK_POS_REGION die.val) + 1)).setCheck die {})).countStatuses die) := by
  have h := effect_checkSlotEnd (found := []) hs hp hi hn
  rwa [Device.slotOver_none hc, Device.nextSlot_inside (d := s.dev.waitUntil _) hr] at h

/-- Settles O8: the effect of each command, with its frame where it completes. -/
theorem injectionAndBackgroundCheck : Obligations.InjectionAndBackgroundCheck := by
  unfold Obligations.InjectionAndBackgroundCheck
  exact ⟨fun _ _ => effect_injStart,
    fun _ _ => injStop_completes,
    fun _ _ => effect_injPulse,
    fun _ _ _ => effect_checkSlotStart,
    fun _ _ => checkPixelReconnect_completes,
    fun _ _ _ => checkSlotEnd_completes,
    fun _ _ => effect_checkSlotEnd_empty⟩

end Sys2Proof.Machine
end

section
/-! PROOFS. The state right after power is applied (O55). -/

namespace Sys2Proof.Machine

/-- Power-on reset is in force, so that no domain is on (R528). -/
theorem domOn_reset (i : Nat) : State.reset.dev.domOn i = false := rfl

theorem pageOn_reset (p : Page) : State.reset.dev.pageOn p = false := by
  rw [Device.pageOn, domOn_reset, Bool.and_false]

/-- Every register holds its reset word (R10). -/
theorem word_reset (a : Nat) : State.reset.dev.word a = resetWord a := rfl

/-- No rail is good: RAIL_STATUS resets to 0. -/
theorem railGood_reset (r : Nat) : State.reset.dev.railGood r = false := by
  have h : State.reset.dev.word Reg.PWRD.RAIL_STATUS = 0#32 := by decide
  rw [Device.railGood, h, BitVec.getLsbD_zero]

/-- INJCAL resets to the nominal slope with no zero (R491). -/
theorem injcal_reset {k : Nat} (hk : k < 4) :
    State.reset.dev.fld (Reg.SEA1.INJCAL_SLOPE k) = 26844 ∧ State.reset.dev.fld (Reg.SEA1.INJCAL_ZERO k) = 0 :=
  (by decide : ∀ k < 4, State.reset.dev.fld (Reg.SEA1.INJCAL_SLOPE k) = 26844 ∧ State.reset.dev.fld (Reg.SEA1.INJCAL_ZERO k) = 0) k hk

/-- No source is asserted while no event is set. -/
theorem assertedNow_reset : State.reset.dev.assertedNow = 0 := rfl

theorem level_reset : State.reset.dev.fld Reg.HLT.SERVICE_LEVEL_LEVEL = 0 := by decide

/-- What holds between commands holds of a device on which nothing is asserted, no alarm waits, no ADC runs, and the service level is 0. -/
theorem settled_reset : Settled State.reset.dev where
  sources := assertedNow_reset.symm
  irq := (Bool.and_false _).symm
  inta := by decide
  messages _ hr := absurd hr (by decide)
  pendingBits _ := BitVec.zero_and
  alarms := rfl
  level := .inl level_reset
  adcs _ _ hr := absurd hr Bool.false_ne_true

/-- A register of an empty register file reads 0 (R295). -/
theorem read_nil (r : DspReg) : RegFile.read [] r = 0 := by
  cases r <;> simp [RegFile.read, RegFile.get]

/-- Settles O55: part by part, each from the empty tables of the reset state and the reset words. -/
theorem resetState : Obligations.ResetState := by
  unfold Obligations.ResetState
  exact ⟨rfl, rfl, domOn_reset, pageOn_reset, railGood_reset, fun _ => rfl, word_reset, settled_reset, fun _ => injcal_reset,
    fun _ => rfl, fun _ => rfl, fun _ => read_nil, level_reset⟩

end Sys2Proof.Machine
end

section
/-! PROOFS. The delays of a correction record (O58). -/

namespace Sys2Proof.Machine

/-- Past tap 64 a delay goes on by sixteenths of D(64) less D(48), rounded down (R101). -/
theorem delayAt_beyond (w : Nat → BitVec 16) {n : Nat} (h : 65 ≤ n) :
    delayAt w n = delayAt w 64 + Int.fdiv (((n : Int) - 64) * (delayAt w 64 - delayAt w 48)) 16 := by
  have hn : ¬ n ≤ 64 := by omega
  have hc : ((n - 64 : Nat) : Int) = (n : Int) - 64 := by omega
  rw [Int.fdiv_eq_ediv_of_nonneg _ (by decide), ← hc]
  conv_lhs => rw [delayAt, if_neg hn]
  rfl

theorem delayAt_within (w : Nat → BitVec 16) {n : Nat} (h1 : 1 ≤ n) (h2 : n ≤ 64) : delayAt w n = (w (n - 1)).toNat := by
  have h0 : n ≠ 0 := by omega
  simp only [delayAt, h2, if_true, h0, if_false]

/-- Settles O58: the three ranges of taps. -/
theorem delaysOfARecord : Obligations.DelaysOfARecord := by
  unfold Obligations.DelaysOfARecord
  exact ⟨fun _ _ => rfl, fun d c _ => delayAt_within (d.corrWord c), fun d c _ h _ => delayAt_beyond (d.corrWord c) h⟩

end Sys2Proof.Machine
end

section
/-! PROOFS. A SYNC load that a TSYNC shares its tick with (O12). -/

namespace Sys2Proof.Machine

variable {d e : Device} {s : State}

/-- A command has one effect. -/
theorem Effect.settle_unique {c : Instr} {s : State} (h1 : Effect c s d) (h2 : Effect c s e) : d.settle = e.settle := by
  have h : Host.Outcome.next { s with dev := d.settle } = (.next { s with dev := e.settle } : Res) := h1.symm.trans h2
  injection h with h
  injection h

/-- The timing island is as the effect left it. -/
theorem Device.tim_settle (h : d.serviceRun = none) : d.settle.tim = d.tim := (Device.settle_leaves h).tim (by decide)

/-- A refused load compares (R90). -/
def Device.refuseLoad (d : Device) (phase : BitVec 18) : Device := (d.raise .tim0 7).checkSync phase

theorem Frame.checkSync {bs : List Block} {rs : Nat → Bool} {ps : List Page} (h : Frame bs rs ps d e) {phase : BitVec 18}
    (hr : rs Reg.TIM0.SYNC_LAST = true) (hp : .tim0 ∈ ps) : Frame bs rs ps d (e.checkSync phase) :=
  Frame.ite (fun _ => h.setFld (.inl hr)) fun _ => (h.setFld (.inl hr)).raise (.inl hp)

/-- It moves neither the edges in flight nor the sequencer. -/
theorem refuseLoad_keeps (d : Device) (phase : BitVec 18) : (d.refuseLoad phase).tim = d.tim ∧ (d.refuseLoad phase).sta = d.sta := by
  have F : Frame [] (regs [Reg.TIM0.SYNC_LAST]) [.tim0] d (d.refuseLoad phase) :=
    (Frame.refl.raise (.inl (by decide))).checkSync (by decide) (by decide)
  exact ⟨F.blocks .tim (by decide), F.blocks .sta (by decide)⟩

/-- What follows a refused load leaves the edges in flight, while no service step runs. -/
theorem Device.tim_refuseLoad_settle (d : Device) (phase : BitVec 18) (h : d.serviceRun = none) : (d.refuseLoad phase).settle.tim = d.tim := by
  obtain ⟨ht, hs⟩ := refuseLoad_keeps d phase
  exact (Device.tim_settle ((Device.serviceRun_congr hs).trans h)).trans ht

/-- A SYNC load that R90 refuses, at its load tick: a TSYNC load of the same tick becomes a check (R450). -/
theorem Device.loadTick_refused {e : SyncEdge} (tref : BitVec 16) (he : e.mode = 1 ∨ e.mode = 3) (hm : (d.advanceTo e.loadAt).mayLoad = false) :
    d.loadTick e tref = ((d.advanceTo e.loadAt).yieldTsync e).refuseLoad e.phase := by
  have h0 : e.mode ≠ 0 := by omega
  have h2 : e.mode ≠ 2 := by omega
  simp only [Device.loadTick, Device.refuseLoad, h0, h2, hm, if_false, Bool.false_eq_true]

/-- A load in flight whose load tick is the present one. -/
def loadNow : SyncEdge := { mode := 3, frame := 0, phase := 0, loadAt := 0 }

/-- The timing island has power, FE_INHIBIT has not held, and a SYNC load and a TSYNC load fall on the same tick. -/
def tiedLoads : State :=
  { dev := { State.reset.dev.setWord Reg.PWRD.DOM_ON0 2 with
      pwr := { State.reset.dev.pwr with por := false }
      tim := { State.reset.dev.tim with sync := [loadNow], tsync := [loadNow] } }
    pending := [] }

/-- The device at that tick, the SYNC edge taken. -/
def tiedTick : Device := Device.advanceTo { tiedLoads.dev with tim := { tiedLoads.dev.tim with sync := [] } } loadNow.loadAt

/-- Refutes O12: a refused SYNC load leaves a TSYNC load of its tick a check (R450), which the clause on refused loads leaves out: in `tiedLoads`
it says that the TSYNC stays a load. -/
theorem not_syncAndCorrectionUnit : ¬ Obligations.SyncAndCorrectionUnit := by
  unfold Obligations.SyncAndCorrectionUnit
  rintro ⟨-, -, -, -, -, -, hrefused, -⟩
  have hm : tiedTick.mayLoad = false := by decide
  have claimed : Effect (.syncLoadTick 0) tiedLoads (tiedTick.refuseLoad 0) :=
    hrefused tiedLoads 0 loadNow [] tiedTick (by decide) rfl rfl (.inr rfl) hm
  have actual : Effect (.syncLoadTick 0) tiedLoads ((tiedTick.yieldTsync loadNow).refuseLoad 0) :=
    Effect.of_run (show execSyncLoadTick 0 tiedLoads = run _ tiedLoads from rfl) (Device.loadTick_refused 0 (.inr rfl) hm)
  have h : tiedTick.tim = (tiedTick.yieldTsync loadNow).tim := by
    rw [← Device.tim_refuseLoad_settle tiedTick 0 rfl, claimed.settle_unique actual, Device.tim_refuseLoad_settle _ 0 rfl]
  have modes : tiedTick.tim.tsync.map SyncEdge.mode = [3] ∧ (tiedTick.yieldTsync loadNow).tim.tsync.map SyncEdge.mode = [2] := by decide
  rw [h, modes.2] at modes
  exact absurd modes.1 (by decide)

end Sys2Proof.Machine
end

section
/-! PROOFS. The fields of STATUS, and how LOCK follows TREF and the PLLs (R84-R86). -/

namespace Sys2Proof.Machine

variable {bs : List Block} {rs : Nat → Bool} {ps : List Page} {d e : Device}

/-! ### The fields of STATUS -/

/-- A bit of PLL_LOCK in the word of STATUS. -/
theorem getLsbD_pllLocks (d : Device) {i : Nat} (h : i < 3) : d.pllLocks.getLsbD i = (d.word Reg.TIM0.STATUS).getLsbD (1 + i) := by
  rw [Device.pllLocks, BitVec.getLsbD_ofNat, Device.fld, Fld.testBit_of]
  simp [h, Reg.TIM0.STATUS_PLL_LOCK]

theorem pllLocks_congr (h : e.fld Reg.TIM0.STATUS_PLL_LOCK = d.fld Reg.TIM0.STATUS_PLL_LOCK) : e.pllLocks = d.pllLocks := by
  rw [Device.pllLocks, h, Device.pllLocks]

/-- PLL_LOCK takes a value. -/
theorem pllLocks_setFld (d : Device) (v : BitVec 3) : (d.setFld Reg.TIM0.STATUS_PLL_LOCK v.toNat).pllLocks = v := by
  rw [Device.pllLocks, Device.fld_setFld_self _ _ _ (by decide)]
  show BitVec.ofNat 3 (v.toNat % 2 ^ 3) = v
  rw [Nat.mod_eq_of_lt v.isLt, BitVec.ofNat_toNat, BitVec.setWidth_eq]

/-- One bit of PLL_LOCK clears. -/
theorem pllLocks_clear (d : Device) (pll : Fin 3) :
    (d.setFlag ⟨Reg.TIM0.STATUS, 1 + pll.val, 1⟩ false).pllLocks = d.pllLocks &&& ~~~(BitVec.ofNat 3 (2 ^ pll.val)) := by
  apply BitVec.eq_of_getLsbD_eq
  intro i hi
  have hbit : (BitVec.ofNat 3 (2 ^ pll.val)).getLsbD i = decide (pll.val = i) := by
    rw [BitVec.getLsbD_ofNat, Nat.testBit_two_pow, decide_eq_true hi, Bool.true_and]
  rw [getLsbD_pllLocks _ hi, Device.word_setFlag, if_pos rfl, Fld.getLsbD_put _ _ _ _ (by omega), BitVec.getLsbD_and, BitVec.getLsbD_not,
    hbit, getLsbD_pllLocks _ hi, decide_eq_true hi]
  by_cases hp : pll.val = i
  · rw [if_pos (by simp only; omega)]; simp [hp]
  · rw [if_neg (by simp only; omega)]; simp [hp]

theorem ones3_clear_le (b m : BitVec 3) : ones3 (b &&& m) ≤ ones3 b := by
  revert b m; decide

/-! ### LOCK -/

/-- What LOCK is to be (R84). -/
def Device.lockDue (d : Device) : Bool := d.flag Reg.TIM0.STATUS_TREF_PRESENT && decide (2 ≤ ones3 d.pllLocks)

theorem evalLock_steady (h : d.lockDue = d.flag Reg.TIM0.STATUS_LOCK) : d.evalLock = d := if_pos h

/-- LOCK falls: TREF_LOST or ISLAND_FAULT (R85). -/
theorem evalLock_falls (hl : d.flag Reg.TIM0.STATUS_LOCK = true) (h : d.lockDue = false) :
    d.evalLock = (d.setFlag Reg.TIM0.STATUS_LOCK false).raise .tim0 (if d.flag Reg.TIM0.STATUS_TREF_PRESENT then 2 else 0) := by
  have hne : d.lockDue ≠ d.flag Reg.TIM0.STATUS_LOCK := by rw [h, hl]; decide
  exact (if_neg hne).trans (if_pos hl)

/-- LOCK rises. -/
def Device.lockSet (d : Device) : Device :=
  { d.setFlag Reg.TIM0.STATUS_LOCK true with tim := { d.tim with hadLock := true, dspClock := true } }

/-- LOCK returns after a loss: LOCK_RESTORED and SYNC_STALE (R86). -/
def Device.lockReturns (d : Device) : Device :=
  let x := (d.lockSet.setFlag Reg.TIM0.STATUS_SYNC_STALE true).raise .tim0 1
  { x with trg := { x.trg with armNext := true } }

theorem evalLock_rises (hl : d.flag Reg.TIM0.STATUS_LOCK = false) (h : d.lockDue = true) :
    d.evalLock = if d.tim.hadLock then d.lockReturns else d.lockSet := by
  have hne : d.lockDue ≠ d.flag Reg.TIM0.STATUS_LOCK := by rw [h, hl]; decide
  exact (if_neg hne).trans (if_neg (Bool.eq_false_iff.mp hl))

/-- The ways of LOCK: it stays, it falls, it rises. -/
theorem evalLock_cases (d : Device) :
    d.evalLock = d ∧ d.lockDue = d.flag Reg.TIM0.STATUS_LOCK
    ∨ (d.evalLock = (d.setFlag Reg.TIM0.STATUS_LOCK false).raise .tim0 (if d.flag Reg.TIM0.STATUS_TREF_PRESENT then 2 else 0)
        ∧ d.flag Reg.TIM0.STATUS_LOCK = true ∧ d.lockDue = false)
    ∨ (d.evalLock = (if d.tim.hadLock then d.lockReturns else d.lockSet) ∧ d.flag Reg.TIM0.STATUS_LOCK = false ∧ d.lockDue = true) := by
  cases hl : d.flag Reg.TIM0.STATUS_LOCK <;> cases h : d.lockDue
  · exact .inl ⟨evalLock_steady (h.trans hl.symm), rfl⟩
  · exact .inr (.inr ⟨evalLock_rises hl h, rfl, rfl⟩)
  · exact .inr (.inl ⟨evalLock_falls hl h, rfl, rfl⟩)
  · exact .inl ⟨evalLock_steady (h.trans hl.symm), rfl⟩

/-- Registers other than those bits of STATUS, as LOCK rises. -/
theorem fld_lockSet {f : Fld} (h : f.addr ≠ Reg.TIM0.STATUS ∨ (1 ≤ f.lsb ∧ f.lsb + f.width ≤ 32)) : d.lockSet.fld f = d.fld f := by
  refine (Device.fld_tim _ _ _).trans (Device.fld_setFld_other _ _ _ _ ?_)
  rcases h with h | ⟨h1, h2⟩
  · exact .inl h
  · exact .inr ⟨h2, .inr h1⟩

/-- LOCK and SYNC_STALE are all that LOCK's change moves in STATUS: TREF_PRESENT and PLL_LOCK stay. -/
theorem fld_evalLock {f : Fld} (ha : f.addr = Reg.TIM0.STATUS) (h : 1 ≤ f.lsb ∧ f.lsb + f.width ≤ 5) : d.evalLock.fld f = d.fld f := by
  have hs : sharedReg f.addr = false := by rw [ha]; decide
  have low : f.addr ≠ Reg.TIM0.STATUS ∨ (1 ≤ f.lsb ∧ f.lsb + f.width ≤ 32) := .inr ⟨h.1, by omega⟩
  rcases evalLock_cases d with ⟨he, _⟩ | ⟨he, _⟩ | ⟨he, _⟩ <;> rw [he]
  · rw [Device.fld_raise hs]
    exact Device.fld_setFld_other _ _ _ _ (.inr ⟨by omega, .inr h.1⟩)
  · split
    · rw [Device.lockReturns, Device.fld_trg, Device.fld_raise hs]
      exact (Device.fld_setFld_other _ _ _ _ (.inr ⟨by omega, .inl h.2⟩)).trans (fld_lockSet low)
    · exact fld_lockSet low

theorem lock_lockSet (d : Device) : d.lockSet.flag Reg.TIM0.STATUS_LOCK = true :=
  (Device.flag_tim _ _ _).trans (Device.flag_setFlag_self _ _ _ (by decide) (by decide))

/-- LOCK is what R84 says. -/
theorem lock_evalLock (d : Device) : d.evalLock.flag Reg.TIM0.STATUS_LOCK = d.lockDue := by
  rcases evalLock_cases d with ⟨he, h⟩ | ⟨he, _, h⟩ | ⟨he, _, h⟩ <;> rw [he, h]
  · rw [Device.flag_raise (by decide), Device.flag_setFlag_self _ _ _ (by decide) (by decide)]
  · split
    · rw [Device.lockReturns, Device.flag_trg, Device.flag_raise (by decide), Device.flag_setFlag_other _ _ _ _ (.inr (by decide)), lock_lockSet]
    · exact lock_lockSet d

theorem pllLocks_evalLock (d : Device) : d.evalLock.pllLocks = d.pllLocks := pllLocks_congr (fld_evalLock rfl (by decide))

theorem trefPresent_evalLock (d : Device) : d.evalLock.flag Reg.TIM0.STATUS_TREF_PRESENT = d.flag Reg.TIM0.STATUS_TREF_PRESENT := by
  rw [Device.flag, fld_evalLock rfl (by decide), Device.flag]

/-- SYNC_STALE is set when a LOCK that was lost returns. -/
theorem syncStale_evalLock (hl : d.flag Reg.TIM0.STATUS_LOCK = false) (h : d.lockDue = true) (hh : d.tim.hadLock = true) :
    d.evalLock.flag Reg.TIM0.STATUS_SYNC_STALE = true := by
  rw [evalLock_rises hl h, if_pos hh, Device.lockReturns, Device.flag_trg, Device.flag_raise (by decide)]
  exact Device.flag_setFlag_self _ _ _ (by decide) (by decide)

theorem pageOn_lockSet (d : Device) (p : Page) : d.lockSet.pageOn p = d.pageOn p :=
  (Device.pageOn_tim _ _ _).trans (Device.pageOn_setFlag (by decide) p)

/-- LOCK_RESTORED is raised when it returns. -/
theorem restored_evalLock (hl : d.flag Reg.TIM0.STATUS_LOCK = false) (h : d.lockDue = true) (hh : d.tim.hadLock = true) (hp : d.pageOn .tim0 = true) :
    (d.evalLock.sticky .tim0).getLsbD 1 = true := by
  rw [evalLock_rises hl h, if_pos hh, Device.lockReturns, Device.sticky_trg]
  exact Device.sticky_raise_self ((Device.pageOn_setFlag (by decide) _).trans ((pageOn_lockSet d _).trans hp)) (by decide)

/-- TREF_LOST or ISLAND_FAULT is raised when it falls. -/
theorem lost_evalLock (hl : d.flag Reg.TIM0.STATUS_LOCK = true) (h : d.lockDue = false) (hp : d.pageOn .tim0 = true) :
    (d.evalLock.sticky .tim0).getLsbD (if d.flag Reg.TIM0.STATUS_TREF_PRESENT then 2 else 0) = true := by
  rw [evalLock_falls hl h]
  exact Device.sticky_raise_self ((Device.pageOn_setFlag (by decide) _).trans hp) (by split <;> decide)

/-- A LOCK that does not rise moves STATUS and an event of the island only. -/
theorem Frame.evalLock_noRise (h : Frame bs rs ps d e) (hn : e.lockDue = false ∨ e.flag Reg.TIM0.STATUS_LOCK = true)
    (hr : rs Reg.TIM0.STATUS = true) (hp : .tim0 ∈ ps) : Frame bs rs ps d e.evalLock := by
  rcases evalLock_cases e with ⟨he, _⟩ | ⟨he, _⟩ | ⟨_, hl, hd⟩
  · rwa [he]
  · rw [he]; exact (h.setFlag (.inl hr)).raise (.inl hp)
  · rcases hn with hn | hn
    · exact absurd (hd.symm.trans hn) (by decide)
    · exact absurd (hl.symm.trans hn) (by decide)

theorem Frame.lockSet (h : Frame bs rs ps d e) (hr : rs Reg.TIM0.STATUS = true) (ht : Block.tim ∈ bs) : Frame bs rs ps d e.lockSet :=
  (h.setFlag (.inl hr)).tim ht

theorem Frame.evalLock (h : Frame bs rs ps d e) (hr : rs Reg.TIM0.STATUS = true) (hp : .tim0 ∈ ps) (ht : Block.tim ∈ bs) (hg : Block.trg ∈ bs) :
    Frame bs rs ps d e.evalLock := by
  rcases evalLock_cases e with ⟨he, _⟩ | ⟨he, _⟩ | ⟨he, _⟩ <;> rw [he]
  · exact h
  · exact (h.setFlag (.inl hr)).raise (.inl hp)
  · exact Frame.ite (fun _ => (((h.lockSet hr ht).setFlag (.inl hr)).raise (.inl hp)).trg hg) fun _ => h.lockSet hr ht

/-- The island, when LOCK does not rise. -/
theorem tim_evalLock_noRise (hn : d.lockDue = false ∨ d.flag Reg.TIM0.STATUS_LOCK = true) : d.evalLock.tim = d.tim :=
  (Frame.evalLock_noRise (bs := []) (rs := regs [Reg.TIM0.STATUS]) (ps := [.tim0]) Frame.refl hn (by decide) (by decide)).blocks .tim (by decide)

/-- A LOCK that rises notes that it has been set, and starts the DSP clock (R286); the PLLs in restart stay. -/
theorem restarting_evalLock (d : Device) : d.evalLock.tim.restarting = d.tim.restarting := by
  rcases evalLock_cases d with ⟨he, _⟩ | ⟨he, _⟩ | ⟨he, _⟩ <;> rw [he]
  · rw [show (Device.raise _ _ _ _).tim = _ from Device.same_raise .tim]; rfl
  · split
    · show ((d.lockSet.setFlag Reg.TIM0.STATUS_SYNC_STALE true).raise .tim0 1).tim.restarting = _
      rw [show (Device.raise _ _ _ _).tim = _ from Device.same_raise .tim]; rfl
    · rfl

end Sys2Proof.Machine
end

section
/-! PROOFS. TREF, the timing PLLs and the DLLs (O11). -/

namespace Sys2Proof.Machine

variable {bs : List Block} {rs : Nat → Bool} {ps : List Page} {d e : Device} {s : State}

/-! ### Measurements of TREF (R82) -/

/-- A measurement's frequency shows, and REFCLK is there. -/
def Device.showTref (d : Device) (khz : Nat) : Device :=
  Device.setFld { d with tim := { d.tim with refclk := true } } Reg.TIM0.TREF_FREQ_KHZ khz

theorem measureTref_inside {khz : Nat} (hd : d.domOn 1 = true) (hw : trefInWindow khz = true) :
    d.measureTref khz = if d.tim.freqLost then
      Device.setFlag { d.showTref khz with tim := { d.tim with refclk := true, freqLost := false } } Reg.TIM0.STATUS_TREF_PRESENT true
      else d.showTref khz := by
  have h0 : khz ≠ 0 := by rintro rfl; exact absurd hw (by decide)
  simp only [Device.measureTref, hd, h0, hw, Bool.not_true, decide_false, Bool.and_false, Bool.or_self, Bool.false_eq_true, if_false, if_true]
  rfl

/-- A measurement outside the window, TREF not yet lost. -/
def Device.outsideTref (d : Device) (khz : Nat) : Device :=
  { d.showTref khz with tim := { d.tim with refclk := true, freqLost := decide (0 < khz) } }

theorem measureTref_outside {khz : Nat} (hd : d.domOn 1 = true) (hk : d.tim.refclk = true ∨ khz ≠ 0) (hw : trefInWindow khz = false) :
    d.measureTref khz = if d.flag Reg.TIM0.STATUS_TREF_PRESENT then (d.outsideTref khz).trefLost else d.showTref khz := by
  have hc : (!d.domOn 1 || (!d.tim.refclk && decide (khz = 0))) = false := by
    rcases hk with hk | hk <;> simp [hd, hk]
  have hf : (d.showTref khz).flag Reg.TIM0.STATUS_TREF_PRESENT = d.flag Reg.TIM0.STATUS_TREF_PRESENT :=
    (Device.flag_setFld_ne (by decide)).trans (Device.flag_tim _ _ _)
  rw [← hf]
  simp only [Device.measureTref, hc, hw, Bool.false_eq_true, if_false]
  rfl

theorem khz_showTref (d : Device) (khz : BitVec 18) : (d.showTref khz.toNat).fld Reg.TIM0.TREF_FREQ_KHZ = khz.toNat :=
  (Device.fld_setFld_self _ _ _ (by decide)).trans (Nat.mod_eq_of_lt khz.isLt)

theorem fld_showTref {khz : Nat} {f : Fld} (h : f.addr ≠ Reg.TIM0.TREF_FREQ) : (d.showTref khz).fld f = d.fld f :=
  (Device.fld_setFld_ne h).trans (Device.fld_tim _ _ _)
theorem flag_showTref {khz : Nat} {f : Fld} (h : f.addr ≠ Reg.TIM0.TREF_FREQ) : (d.showTref khz).flag f = d.flag f := by
  rw [Device.flag, fld_showTref h, Device.flag]

theorem Frame.showTref (h : Frame bs rs ps d e) {khz : Nat} (ht : Block.tim ∈ bs) (hr : rs Reg.TIM0.TREF_FREQ = true) :
    Frame bs rs ps d (e.showTref khz) := (h.tim ht).setFld (.inl hr)

theorem Effect.trefFreqMeasure (khz : BitVec 18) : Effect (.trefFreqMeasure khz) s (s.dev.measureTref khz.toNat) := rfl

theorem trefInside_completes {khz : BitVec 18} (hq : s.dev.serviceRun = none) (hd : s.dev.domOn 1 = true) (hw : trefInWindow khz.toNat = true) :
    Completes (.trefFreqMeasure khz) s fun d => Leaves [.tim] (regs [Reg.TIM0.TREF_FREQ, Reg.TIM0.STATUS]) [] s.dev d ∧ d.fld Reg.TIM0.TREF_FREQ_KHZ = khz.toNat
      ∧ d.flag Reg.TIM0.STATUS_TREF_PRESENT = (s.dev.tim.freqLost || s.dev.flag Reg.TIM0.STATUS_TREF_PRESENT)
      ∧ d.flag Reg.TIM0.STATUS_LOCK = s.dev.flag Reg.TIM0.STATUS_LOCK ∧ d.tim = { s.dev.tim with refclk := true, freqLost := false } := by
  have hx := Effect.trefFreqMeasure (s := s) khz
  rw [measureTref_inside hd hw] at hx
  have hshow : Frame (.alarms :: [.tim]) (fun a => regs [Reg.TIM0.TREF_FREQ, Reg.TIM0.STATUS] a || a == Reg.HLT.SERVICE_LEVEL || a == Reg.SEC.SUMMARY) []
      s.dev (s.dev.showTref khz.toNat) := Frame.refl.showTref (by decide) (by decide)
  cases hf : s.dev.tim.freqLost
  · rw [hf, if_neg Bool.false_ne_true] at hx
    refine hx.completes [.tim] (regs [Reg.TIM0.TREF_FREQ, Reg.TIM0.STATUS]) [] hq (by decide) hshow fun t hs hl => ⟨hl, ?_, ?_, ?_, ?_⟩
    · rw [hs.fld _ rfl (by decide)]; exact khz_showTref _ _
    · rw [hs.flag _ rfl (by decide), Bool.false_or]; exact flag_showTref (by decide)
    · rw [hs.flag _ rfl (by decide)]; exact flag_showTref (by decide)
    · rw [hs.tim (by decide), ← hf]; rfl
  · rw [hf, if_pos rfl] at hx
    refine hx.completes [.tim] (regs [Reg.TIM0.TREF_FREQ, Reg.TIM0.STATUS]) [] hq (by decide)
      ((hshow.tim (by decide)).setFlag (.inl (by decide))) fun t hs hl => ⟨hl, ?_, ?_, ?_, ?_⟩
    · rw [hs.fld _ rfl (by decide)]
      exact (Device.fld_setFlag_ne (by decide)).trans (khz_showTref _ _)
    · rw [hs.flag _ rfl (by decide), Bool.true_or]; exact Device.flag_setFlag_self _ _ _ (by decide) (by decide)
    · rw [hs.flag _ rfl (by decide)]
      exact (Device.flag_setFlag_other _ _ _ _ (.inr (by decide))).trans (flag_showTref (by decide))
    · exact hs.tim (by decide)

theorem trefOutside_absent_completes {khz : BitVec 18} (hq : s.dev.serviceRun = none) (hd : s.dev.domOn 1 = true)
    (hk : s.dev.tim.refclk = true ∨ khz ≠ 0) (hw : trefInWindow khz.toNat = false) (hp : s.dev.flag Reg.TIM0.STATUS_TREF_PRESENT = false) :
    Completes (.trefFreqMeasure khz) s fun d => Leaves [.tim] (regs [Reg.TIM0.TREF_FREQ]) [] s.dev d ∧ d.fld Reg.TIM0.TREF_FREQ_KHZ = khz.toNat
      ∧ d.tim = { s.dev.tim with refclk := true } := by
  have hx := Effect.trefFreqMeasure (s := s) khz
  rw [measureTref_outside hd (hk.imp_right fun h h0 => h (BitVec.eq_of_toNat_eq h0)) hw, hp, if_neg Bool.false_ne_true] at hx
  refine hx.completes [.tim] (regs [Reg.TIM0.TREF_FREQ]) [] hq (by decide) (Frame.refl.showTref (by decide) (by decide)) fun t hs hl => ⟨hl, ?_, hs.tim (by decide)⟩
  rw [hs.fld _ rfl (by decide)]
  exact khz_showTref _ _

/-! ### TREF is lost and comes back (R82, R85) -/

/-- TREF and the locks are lost, LOCK not yet. -/
def Device.noTref (d : Device) : Device := (d.setFlag Reg.TIM0.STATUS_TREF_PRESENT false).setFld Reg.TIM0.STATUS_PLL_LOCK 0

theorem trefPresent_noTref (d : Device) : d.noTref.flag Reg.TIM0.STATUS_TREF_PRESENT = false := by
  rw [Device.flag, Device.noTref, Device.fld_setFld_other _ _ _ _ (.inr (by decide))]
  exact Device.flag_setFlag_self _ _ _ (by decide) (by decide)

theorem lockDue_noTref (d : Device) : d.noTref.lockDue = false := by rw [Device.lockDue, trefPresent_noTref, Bool.false_and]

theorem lock_noTref (d : Device) : d.noTref.flag Reg.TIM0.STATUS_LOCK = d.flag Reg.TIM0.STATUS_LOCK := by
  rw [Device.flag, Device.noTref, Device.fld_setFld_other _ _ _ _ (.inr (by decide))]
  exact Device.flag_setFlag_other _ _ _ _ (.inr (by decide))

theorem trefLost_eq (d : Device) : d.trefLost = d.noTref.evalLock.haltAdcs (fun _ => true) true := rfl

theorem Frame.trefLost (h : Frame bs rs ps d e) (hr : rs Reg.TIM0.STATUS = true) (hp : .tim0 ∈ ps) (hw : Block.wadcs ∈ bs) :
    Frame bs rs ps d e.trefLost :=
  (Frame.evalLock_noRise (e := e.noTref) ((h.setFlag (.inl hr)).setFld (.inl hr)) (.inl (lockDue_noTref e)) hr hp).wadcs hw

/-- A register other than STATUS when TREF is lost. -/
theorem word_trefLost {a : Nat} (h : a ≠ Reg.TIM0.STATUS) (hs : sharedReg a = false) : d.trefLost.word a = d.word a :=
  (Frame.trefLost (bs := [.wadcs]) (rs := regs [Reg.TIM0.STATUS]) (ps := [.tim0]) Frame.refl (by decide) (by decide) (by decide)).words a
    (by simp [regs, h]) hs

theorem tim_trefLost (d : Device) : d.trefLost.tim = d.tim :=
  (Frame.trefLost (bs := [.wadcs]) (rs := regs [Reg.TIM0.STATUS]) (ps := [.tim0]) Frame.refl (by decide) (by decide) (by decide)).blocks .tim (by decide)

/-- What the loss of TREF leaves of STATUS. -/
theorem status_trefLost (d : Device) : d.trefLost.flag Reg.TIM0.STATUS_TREF_PRESENT = false ∧ d.trefLost.fld Reg.TIM0.STATUS_PLL_LOCK = 0
    ∧ d.trefLost.flag Reg.TIM0.STATUS_LOCK = false := by
  rw [trefLost_eq]
  refine ⟨(trefPresent_evalLock _).trans (trefPresent_noTref d), ?_, (lock_evalLock _).trans (lockDue_noTref d)⟩
  exact (fld_evalLock rfl (by decide)).trans (Device.fld_setFld_self _ _ _ (by decide))

/-- A LOCK that is lost with TREF raises TREF_LOST. -/
theorem sticky_trefLost (hl : d.flag Reg.TIM0.STATUS_LOCK = true) (hp : d.pageOn .tim0 = true) : (d.trefLost.sticky .tim0).getLsbD 0 = true := by
  have h := lost_evalLock ((lock_noTref d).trans hl) (lockDue_noTref d)
    ((Device.pageOn_setFld (by decide) _).trans ((Device.pageOn_setFlag (by decide) _).trans hp))
  rwa [trefPresent_noTref] at h

theorem trefOutside_present_completes {khz : BitVec 18} (hq : s.dev.serviceRun = none) (hd : s.dev.domOn 1 = true)
    (hk : s.dev.tim.refclk = true ∨ khz ≠ 0) (hw : trefInWindow khz.toNat = false) (hp : s.dev.flag Reg.TIM0.STATUS_TREF_PRESENT = true) :
    Completes (.trefFreqMeasure khz) s fun d => Leaves [.tim, .wadcs] (regs [Reg.TIM0.TREF_FREQ, Reg.TIM0.STATUS]) [.tim0] s.dev d
      ∧ d.fld Reg.TIM0.TREF_FREQ_KHZ = khz.toNat
      ∧ d.flag Reg.TIM0.STATUS_TREF_PRESENT = false ∧ d.fld Reg.TIM0.STATUS_PLL_LOCK = 0 ∧ d.flag Reg.TIM0.STATUS_LOCK = false
      ∧ (s.dev.flag Reg.TIM0.STATUS_LOCK = true → s.dev.pageOn .tim0 = true → (d.sticky .tim0).getLsbD 0 = true)
      ∧ d.tim = { s.dev.tim with refclk := true, freqLost := decide (0 < khz.toNat) } := by
  have hx := Effect.trefFreqMeasure (s := s) khz
  rw [measureTref_outside hd (hk.imp_right fun h h0 => h (BitVec.eq_of_toNat_eq h0)) hw, hp, if_pos rfl] at hx
  obtain ⟨htref, hpll, hnolock⟩ := status_trefLost (s.dev.outsideTref khz.toNat)
  refine hx.completes [.tim, .wadcs] (regs [Reg.TIM0.TREF_FREQ, Reg.TIM0.STATUS]) [.tim0] hq (by decide)
    (((Frame.refl.showTref (by decide) (by decide)).tim (by decide)).trefLost (by decide) (by decide) (by decide))
    fun t hs hl => ⟨hl, ?_, ?_, ?_, ?_, fun h1 h2 => ?_, ?_⟩
  · rw [hs.fld _ rfl (by decide), Device.fld, word_trefLost (by decide) (by decide)]; exact khz_showTref _ _
  · rw [hs.flag _ rfl (by decide), htref]
  · rw [hs.fld _ rfl (by decide), hpll]
  · rw [hs.flag _ rfl (by decide), hnolock]
  · exact hs.kept .tim0 (by decide) 0 (sticky_trefLost ((flag_showTref (by decide)).trans h1) ((Device.pageOn_setFld (by decide) _).trans h2))
  · rw [hs.tim (by decide), tim_trefLost, Device.outsideTref]

theorem trefGap_completes (hq : s.dev.serviceRun = none) (hd : s.dev.domOn 1 = true) :
    Completes .trefGap s fun d => Leaves [.tim, .wadcs] (regs [Reg.TIM0.STATUS]) [.tim0] s.dev d ∧ d.flag Reg.TIM0.STATUS_TREF_PRESENT = false
      ∧ d.fld Reg.TIM0.STATUS_PLL_LOCK = 0 ∧ d.flag Reg.TIM0.STATUS_LOCK = false
      ∧ (s.dev.flag Reg.TIM0.STATUS_LOCK = true → s.dev.pageOn .tim0 = true → (d.sticky .tim0).getLsbD 0 = true)
      ∧ d.tim = { s.dev.tim with freqLost := false } := by
  have hx : Effect .trefGap s (Device.trefLost { s.dev with tim := { s.dev.tim with freqLost := false } }) :=
    Effect.of_run (show execTrefGap s = run _ s from rfl) (if_pos hd)
  obtain ⟨htref, hpll, hnolock⟩ := status_trefLost { s.dev with tim := { s.dev.tim with freqLost := false } }
  refine hx.completes [.tim, .wadcs] (regs [Reg.TIM0.STATUS]) [.tim0] hq (by decide)
    (Frame.trefLost (Frame.refl.tim (by decide)) (by decide) (by decide) (by decide)) fun t hs hl => ⟨hl, ?_, ?_, ?_, fun h1 h2 => ?_, ?_⟩
  · rw [hs.flag _ rfl (by decide), htref]
  · rw [hs.fld _ rfl (by decide), hpll]
  · rw [hs.flag _ rfl (by decide), hnolock]
  · exact hs.kept .tim0 (by decide) 0 (sticky_trefLost h1 h2)
  · rw [hs.tim (by decide), tim_trefLost]

theorem trefEdgeResume_completes (hq : s.dev.serviceRun = none) (hd : s.dev.domOn 1 = true) :
    Completes .trefEdgeResume s fun d => Leaves [.tim] (regs [Reg.TIM0.STATUS]) [] s.dev d ∧ d.flag Reg.TIM0.STATUS_TREF_PRESENT = true
      ∧ d.flag Reg.TIM0.STATUS_LOCK = s.dev.flag Reg.TIM0.STATUS_LOCK ∧ d.tim = { s.dev.tim with freqLost := false } := by
  have hx : Effect .trefEdgeResume s
      (Device.setFlag { s.dev with tim := { s.dev.tim with freqLost := false } } Reg.TIM0.STATUS_TREF_PRESENT true) :=
    Effect.of_run (show execTrefEdgeResume s = run _ s from rfl) (if_pos hd)
  refine hx.completes [.tim] (regs [Reg.TIM0.STATUS]) [] hq (by decide) ((Frame.refl.tim (by decide)).setFlag (.inl (by decide)))
    fun t hs hl => ⟨hl, ?_, ?_, hs.tim (by decide)⟩
  · rw [hs.flag _ rfl (by decide), Device.flag_setFlag_self _ _ _ (by decide) (by decide)]
  · rw [hs.flag _ rfl (by decide), Device.flag_setFlag_other _ _ _ _ (.inr (by decide)), Device.flag_tim]

/-! ### PLLs lock and lose their lock (R83-R86, R116) -/

theorem Leaves.pllLocks (h : Leaves bs rs ps d e) (hr : rs Reg.TIM0.STATUS = false) : e.pllLocks = d.pllLocks :=
  pllLocks_congr (h.fld Reg.TIM0.STATUS_PLL_LOCK hr (by decide))

/-- PLLs join the locked ones, LOCK not yet. -/
def Device.pllsJoin (d : Device) (plls : BitVec 3) : Device :=
  Device.setFld { d with tim := { d.tim with restarting := d.tim.restarting &&& ~~~plls } } Reg.TIM0.STATUS_PLL_LOCK (d.pllLocks ||| plls).toNat

theorem lock_pllsJoin (d : Device) (plls : BitVec 3) : (d.pllsJoin plls).flag Reg.TIM0.STATUS_LOCK = d.flag Reg.TIM0.STATUS_LOCK := by
  rw [Device.flag, Device.pllsJoin, Device.fld_setFld_other _ _ _ _ (.inr (by decide)), Device.fld_tim, Device.flag]

theorem lockDue_pllsJoin (plls : BitVec 3) (hp : d.flag Reg.TIM0.STATUS_TREF_PRESENT = true) :
    (d.pllsJoin plls).lockDue = decide (2 ≤ ones3 (d.pllLocks ||| plls)) := by
  have h : (d.pllsJoin plls).flag Reg.TIM0.STATUS_TREF_PRESENT = true := by
    rw [Device.flag, Device.pllsJoin, Device.fld_setFld_other _ _ _ _ (.inr (by decide))]
    exact hp
  rw [Device.lockDue, h, Bool.true_and, Device.pllsJoin, pllLocks_setFld]

theorem lockAcquired_completes {plls : BitVec 3} (hq : s.dev.serviceRun = none) (hd : s.dev.domOn 1 = true)
    (hp : s.dev.flag Reg.TIM0.STATUS_TREF_PRESENT = true) :
    Completes (.lockAcquired plls) s fun d => Leaves [.tim, .trg] (regs [Reg.TIM0.STATUS]) [.tim0] s.dev d ∧ d.pllLocks = s.dev.pllLocks ||| plls
      ∧ d.flag Reg.TIM0.STATUS_LOCK = decide (2 ≤ ones3 (s.dev.pllLocks ||| plls)) ∧ d.tim.restarting = s.dev.tim.restarting &&& ~~~plls
      ∧ (s.dev.flag Reg.TIM0.STATUS_LOCK = false → 2 ≤ ones3 (s.dev.pllLocks ||| plls) → s.dev.tim.hadLock = true → d.flag Reg.TIM0.STATUS_SYNC_STALE = true)
      ∧ (s.dev.flag Reg.TIM0.STATUS_LOCK = false → 2 ≤ ones3 (s.dev.pllLocks ||| plls) → s.dev.tim.hadLock = true → s.dev.pageOn .tim0 = true →
          (d.sticky .tim0).getLsbD 1 = true) := by
  have hx : Effect (.lockAcquired plls) s (s.dev.pllsJoin plls).evalLock :=
    Effect.of_run (show execLockAcquired plls s = run _ s from rfl) (if_pos (by rw [hd, hp]; rfl))
  have due (h : 2 ≤ ones3 (s.dev.pllLocks ||| plls)) : (s.dev.pllsJoin plls).lockDue = true := (lockDue_pllsJoin plls hp).trans (decide_eq_true h)
  refine hx.completes [.tim, .trg] (regs [Reg.TIM0.STATUS]) [.tim0] hq (by decide)
    (Frame.evalLock ((Frame.refl.tim (by decide)).setFld (.inl (by decide))) (by decide) (by decide) (by decide) (by decide))
    fun t hs hl => ⟨hl, ?_, ?_, ?_, fun h1 h2 h3 => ?_, fun h1 h2 h3 h4 => ?_⟩
  · rw [hs.pllLocks rfl, pllLocks_evalLock]; exact pllLocks_setFld _ _
  · rw [hs.flag _ rfl (by decide), lock_evalLock, lockDue_pllsJoin plls hp]
  · rw [hs.tim (by decide), restarting_evalLock]; rfl
  · rw [hs.flag _ rfl (by decide), syncStale_evalLock ((lock_pllsJoin _ _).trans h1) (due h2) h3]
  · exact hs.kept .tim0 (by decide) 1
      (restored_evalLock ((lock_pllsJoin _ _).trans h1) (due h2) h3 ((Device.pageOn_setFld (by decide) _).trans h4))

/-- A PLL leaves the vote and restarts, LOCK not yet. -/
def Device.pllLeaves (d : Device) (pll : Fin 3) : Device :=
  Device.setFlag (Device.draw { d with tim := { d.tim with
    restarting := d.tim.restarting ||| BitVec.ofNat 3 (2 ^ pll.val)
    skew := SMap.set (fun _ => 0) d.tim.skew pll.val (Config.pllSkew d.free) } }) ⟨Reg.TIM0.STATUS, 1 + pll.val, 1⟩ false

theorem pllLost_eq (d : Device) (pll : Fin 3) : d.pllLost pll = (d.pllLeaves pll).evalLock := rfl

theorem pllLocks_pllLeaves (d : Device) (pll : Fin 3) : (d.pllLeaves pll).pllLocks = d.pllLocks &&& ~~~(BitVec.ofNat 3 (2 ^ pll.val)) :=
  pllLocks_clear _ pll

/-- The other fields of STATUS stay. -/
theorem flag_pllLeaves (pll : Fin 3) {f : Fld} (h : f.lsb + f.width ≤ 1 ∨ 4 ≤ f.lsb ∧ f.lsb + f.width ≤ 32) : (d.pllLeaves pll).flag f = d.flag f :=
  Device.flag_setFlag_other _ _ _ _ (.inr ⟨by omega, by simp only; omega⟩)

theorem lockDue_pllLeaves (d : Device) (pll : Fin 3) : (d.pllLeaves pll).lockDue
    = (d.flag Reg.TIM0.STATUS_TREF_PRESENT && decide (2 ≤ ones3 (d.pllLocks &&& ~~~(BitVec.ofNat 3 (2 ^ pll.val))))) := by
  rw [Device.lockDue, flag_pllLeaves pll (by decide), pllLocks_pllLeaves]

theorem Frame.pllLeaves (h : Frame bs rs ps d e) (pll : Fin 3) (hf : Block.free ∈ bs) (ht : Block.tim ∈ bs) (hr : rs Reg.TIM0.STATUS = true) :
    Frame bs rs ps d (e.pllLeaves pll) := ((h.tim ht).draw hf).setFlag (.inl hr)

theorem Effect.pllLossOfLock {pll : Fin 3} (hd : s.dev.domOn 1 = true) : Effect (.pllLossOfLock pll) s (s.dev.pllLeaves pll).evalLock :=
  Effect.of_run (show execPllLossOfLock pll s = run _ s from rfl) (if_pos hd)

theorem pllLoss_locked_completes {pll : Fin 3} (hq : s.dev.serviceRun = none) (hd : s.dev.domOn 1 = true) (hlock : s.dev.flag Reg.TIM0.STATUS_LOCK = true) :
    Completes (.pllLossOfLock pll) s fun d => Leaves [.free, .tim] (regs [Reg.TIM0.STATUS]) [.tim0] s.dev d
      ∧ d.pllLocks = s.dev.pllLocks &&& ~~~(BitVec.ofNat 3 (2 ^ pll.val))
      ∧ d.flag Reg.TIM0.STATUS_LOCK = (s.dev.flag Reg.TIM0.STATUS_TREF_PRESENT && decide (2 ≤ ones3 (s.dev.pllLocks &&& ~~~(BitVec.ofNat 3 (2 ^ pll.val)))))
      ∧ d.tim.restarting = s.dev.tim.restarting ||| BitVec.ofNat 3 (2 ^ pll.val)
      ∧ (s.dev.flag Reg.TIM0.STATUS_TREF_PRESENT = true → ones3 (s.dev.pllLocks &&& ~~~(BitVec.ofNat 3 (2 ^ pll.val))) < 2 → s.dev.pageOn .tim0 = true →
          (d.sticky .tim0).getLsbD 2 = true) := by
  have was : (s.dev.pllLeaves pll).flag Reg.TIM0.STATUS_LOCK = true := (flag_pllLeaves pll (by decide)).trans hlock
  refine (Effect.pllLossOfLock hd).completes [.free, .tim] (regs [Reg.TIM0.STATUS]) [.tim0] hq (by decide)
    (Frame.evalLock_noRise (Frame.refl.pllLeaves pll (by decide) (by decide) (by decide)) (.inr was) (by decide) (by decide))
    fun t hs hl => ⟨hl, ?_, ?_, ?_, fun h1 h2 h3 => ?_⟩
  · rw [hs.pllLocks rfl, pllLocks_evalLock, pllLocks_pllLeaves]
  · rw [hs.flag _ rfl (by decide), lock_evalLock, lockDue_pllLeaves]
  · rw [hs.tim (by decide), restarting_evalLock]; rfl
  · have due : (s.dev.pllLeaves pll).lockDue = false := by rw [lockDue_pllLeaves, decide_eq_false (Nat.not_le.mpr h2), Bool.and_false]
    have h := lost_evalLock was due ((Device.pageOn_setFlag (d := Device.draw _) rfl _).trans h3)
    rw [flag_pllLeaves pll (by decide), h1] at h
    exact hs.kept .tim0 (by decide) 2 h

theorem pllLoss_unlocked_completes {pll : Fin 3} (hq : s.dev.serviceRun = none) (hd : s.dev.domOn 1 = true)
    (hlock : s.dev.flag Reg.TIM0.STATUS_LOCK = false) (hn : s.dev.flag Reg.TIM0.STATUS_TREF_PRESENT = false ∨ ones3 s.dev.pllLocks < 2) :
    Completes (.pllLossOfLock pll) s fun d => Leaves [.free, .tim] (regs [Reg.TIM0.STATUS]) [] s.dev d
      ∧ d.pllLocks = s.dev.pllLocks &&& ~~~(BitVec.ofNat 3 (2 ^ pll.val))
      ∧ d.flag Reg.TIM0.STATUS_LOCK = false ∧ d.tim.restarting = s.dev.tim.restarting ||| BitVec.ofNat 3 (2 ^ pll.val) := by
  have was : (s.dev.pllLeaves pll).flag Reg.TIM0.STATUS_LOCK = false := (flag_pllLeaves pll (by decide)).trans hlock
  have due : (s.dev.pllLeaves pll).lockDue = false := by
    rw [lockDue_pllLeaves]
    rcases hn with hn | hn
    · rw [hn, Bool.false_and]
    · have := ones3_clear_le s.dev.pllLocks (~~~(BitVec.ofNat 3 (2 ^ pll.val)))
      rw [decide_eq_false (by omega), Bool.and_false]
  have hx := Effect.pllLossOfLock (pll := pll) hd
  rw [evalLock_steady (due.trans was.symm)] at hx
  refine hx.completes [.free, .tim] (regs [Reg.TIM0.STATUS]) [] hq (by decide) (Frame.refl.pllLeaves pll (by decide) (by decide) (by decide))
    fun t hs hl => ⟨hl, ?_, ?_, ?_⟩
  · rw [hs.pllLocks rfl, pllLocks_pllLeaves]
  · rw [hs.flag _ rfl (by decide), was]
  · rw [hs.tim (by decide)]; rfl

theorem pllRestart_completes (hq : s.dev.serviceRun = none) (hd : s.dev.domOn 1 = true) :
    Completes .pllRestart s fun d => Leaves [.tim] (regs [Reg.TIM0.STATUS]) [.tim0] s.dev d ∧ d.fld Reg.TIM0.STATUS_PLL_LOCK = 0
      ∧ d.flag Reg.TIM0.STATUS_LOCK = false ∧ d.tim = { s.dev.tim with restarting := 7 } := by
  have hx : Effect .pllRestart s s.dev.restartPlls := Effect.of_run (show execPllRestart s = run _ s from rfl) (if_pos hd)
  rw [Device.restartPlls] at hx
  generalize hm : Device.setFld { s.dev with tim := { s.dev.tim with restarting := 7 } } Reg.TIM0.STATUS_PLL_LOCK 0 = x at hx
  have hpll : x.fld Reg.TIM0.STATUS_PLL_LOCK = 0 := hm ▸ Device.fld_setFld_self _ _ _ (by decide)
  have due : x.lockDue = false := by
    rw [Device.lockDue, Device.pllLocks, hpll, show decide (2 ≤ ones3 (BitVec.ofNat 3 0)) = false by decide, Bool.and_false]
  refine hx.completes [.tim] (regs [Reg.TIM0.STATUS]) [.tim0] hq (by decide)
    (Frame.evalLock_noRise (hm ▸ (Frame.refl.tim (by decide)).setFld (.inl (by decide))) (.inl due) (by decide) (by decide))
    fun t hs hl => ⟨hl, ?_, ?_, ?_⟩
  · rw [hs.fld _ rfl (by decide), fld_evalLock rfl (by decide), hpll]
  · rw [hs.flag _ rfl (by decide), lock_evalLock, due]
  · rw [hs.tim (by decide), tim_evalLock_noRise (.inl due), ← hm]; rfl

/-! ### Vote errors (R83) -/

theorem voteError_completes {pll : Fin 3} (hq : s.dev.serviceRun = none) (hd : s.dev.domOn 1 = true) (hp : s.dev.pageOn .tim0 = true)
    (hl : s.dev.pllLocks.getLsbD pll.val = true) :
    Completes (.voteError pll) s fun d => Leaves [.tim] (regs [Reg.TIM0.VOTE_ERRORS]) [.tim0] s.dev d
      ∧ d.word Reg.TIM0.VOTE_ERRORS = counted (s.dev.word Reg.TIM0.VOTE_ERRORS) 1 ∧ (d.sticky .tim0).getLsbD 3 = true
      ∧ SMap.get (fun _ => 0) d.tim.skew pll.val = 0 := by
  have hx : Effect (.voteError pll) s (s.dev.voteError pll) :=
    Effect.of_run (show execVoteError pll s = run _ s from rfl) (if_pos (by rw [hd, hl]; rfl))
  rw [Device.voteError] at hx
  refine hx.completes [.tim] (regs [Reg.TIM0.VOTE_ERRORS]) [.tim0] hq (by decide)
    (((Frame.refl.tim (by decide)).count (.inl (by decide))).raise (.inl (by decide))) fun t hs hl => ⟨hl, ?_, ?_, ?_⟩
  · rw [hs.plain rfl (by decide), Device.word_raise (by decide), Device.word_count, if_pos rfl]; rfl
  · exact hs.kept .tim0 (by decide) 3 (Device.sticky_raise_self ((Device.pageOn_count (by decide) _).trans hp) (by decide))
  · rw [hs.tim (by decide), show (Device.raise _ _ _ _).tim = _ from Device.same_raise .tim]
    exact SMap.get_set_self (fun _ => (0 : BitVec 58)) s.dev.tim.skew pll.val 0

/-- A PLL without lock is not in the vote. -/
theorem effect_voteError_unlocked {pll : Fin 3} (h : s.dev.pllLocks.getLsbD pll.val = false) : Effect (.voteError pll) s s.dev :=
  Effect.of_run (show execVoteError pll s = run _ s from rfl) (if_neg (by rw [h, Bool.and_false]; decide))

/-! ### DLLs (R94) -/

theorem dllLock_setFlag (d : Device) (die : Die) (b : Bool) :
    (d.setFlag ⟨Reg.TIM0.STATUS, 8 + die.val, 1⟩ b).flag ⟨Reg.TIM0.STATUS, 8 + die.val, 1⟩ = b :=
  Device.flag_setFlag_self _ _ _ (by simp only; omega) Nat.one_pos

theorem Frame.setDllLock (h : Frame bs rs ps d e) {die : Die} {b : Bool} (hr : rs Reg.TIM0.STATUS = true) :
    Frame bs rs ps d (e.setFlag ⟨Reg.TIM0.STATUS, 8 + die.val, 1⟩ b) := h.setFlag (.inl hr)

theorem dllLock_completes {die : Die} (hq : s.dev.serviceRun = none) (hd : s.dev.domOn 1 = true) (hdie : s.dev.hasDie die.val = true)
    (hon : s.dev.domOn (25 + 11 * die.val) = true) (hh : s.dev.tim.hadLock = true) :
    Completes (.dllLockAchieved die) s fun d => Leaves [] (regs [Reg.TIM0.STATUS]) [] s.dev d ∧ d.flag ⟨Reg.TIM0.STATUS, 8 + die.val, 1⟩ = true := by
  have hx : Effect (.dllLockAchieved die) s (s.dev.setFlag ⟨Reg.TIM0.STATUS, 8 + die.val, 1⟩ true) :=
    Effect.of_run (show execDllLockAchieved die s = run _ s from rfl) (if_pos (by rw [hd, hdie, hon, hh]; rfl))
  refine hx.completes [] (regs [Reg.TIM0.STATUS]) [] hq (by decide) (Frame.refl.setDllLock (by decide)) fun t hs hl => ⟨hl, ?_⟩
  rw [hs.flag ⟨Reg.TIM0.STATUS, 8 + die.val, 1⟩ rfl (show plainReg Reg.TIM0.STATUS = true by decide)]
  exact dllLock_setFlag _ _ _

theorem dllUnlock_completes {die : Die} (hq : s.dev.serviceRun = none) (hp : s.dev.pageOn .tim0 = true)
    (hf : s.dev.flag ⟨Reg.TIM0.STATUS, 8 + die.val, 1⟩ = true) :
    Completes (.dllUnlock die) s fun d => Leaves [] (regs [Reg.TIM0.STATUS]) [.tim0] s.dev d ∧ d.flag ⟨Reg.TIM0.STATUS, 8 + die.val, 1⟩ = false
      ∧ (d.sticky .tim0).getLsbD 4 = true := by
  have hx : Effect (.dllUnlock die) s ((s.dev.setFlag ⟨Reg.TIM0.STATUS, 8 + die.val, 1⟩ false).raise .tim0 4 die.val) :=
    Effect.of_run (show execDllUnlock die s = run _ s from rfl) (if_pos hf)
  refine hx.completes [] (regs [Reg.TIM0.STATUS]) [.tim0] hq (by decide)
    ((Frame.refl.setDllLock (by decide)).raise (.inl (by decide))) fun t hs hl => ⟨hl, ?_, ?_⟩
  · rw [hs.flag ⟨Reg.TIM0.STATUS, 8 + die.val, 1⟩ rfl (show plainReg Reg.TIM0.STATUS = true by decide),
      Device.flag_raise (show sharedReg Reg.TIM0.STATUS = false by decide)]
    exact dllLock_setFlag _ _ _
  · exact hs.kept .tim0 (by decide) 4 (Device.sticky_raise_self ((Device.pageOn_setFlag rfl _).trans hp) (by decide))

/-- Settles O11: the effect of each command, with its frame where it completes. -/
theorem trefAndPllCommands : Obligations.TrefAndPllCommands := by
  unfold Obligations.TrefAndPllCommands
  exact ⟨fun _ _ => trefInside_completes,
    fun _ _ => trefOutside_present_completes,
    fun _ _ => trefOutside_absent_completes,
    fun _ => trefEdgeResume_completes,
    fun _ => trefGap_completes,
    fun _ _ => lockAcquired_completes,
    fun _ _ => pllLoss_locked_completes,
    fun _ _ => pllLoss_unlocked_completes,
    fun _ _ => voteError_completes,
    fun _ _ => effect_voteError_unlocked,
    fun _ => pllRestart_completes,
    fun _ _ => dllLock_completes,
    fun _ _ => dllUnlock_completes⟩

end Sys2Proof.Machine
end

section
/-! PROOFS. What each message does at the head of the received stream, and the load ticks of TSYNCs (O23). -/

namespace Sys2Proof.Machine

variable {bs : List Block} {rs : Nat → Bool} {ps : List Page} {d : Device} {s : State} {w : BitVec 257} {rest : List (Option (BitVec 257))}

theorem Leaves.zvl {e : Device} (h : Leaves bs rs ps d e) (hb : Block.zvl ∉ bs) : e.zvl = d.zvl := h.block .zvl hb (by decide)

/-! ### The head of a lane's buffer (R431, R433) -/

/-- An ALIGN that heads a lane's buffer, its set not later than the one in force. -/
theorem takeAlign_same {l : Nat} {w : BitVec 257} {blocks : List RxBlock} {e : BitVec 16} (hb : d.deskew l = .align w :: blocks) (he : d.zvl.epoch = some e)
    (hw : w.extractLsb' 224 16 = e) :
    d.takeAlign l = (let x := d.setDeskew l blocks
       Device.pumpRx { x with zvl := { x.zvl with position := SMap.insert l (w.extractLsb' 128 48) x.zvl.position } }) := by
  have hx : (d.setDeskew l blocks).zvl.epoch = some e := he
  have hz : e - e = 0 := BitVec.sub_self e
  simp only [Device.takeAlign, hb, hx, hw, hz]
  rfl

/-- The first ALIGN of a received bundle. -/
theorem takeAlign_first {l : Nat} {w : BitVec 257} {blocks : List RxBlock} (hb : d.deskew l = .align w :: blocks) (he : d.zvl.epoch = none) :
    d.takeAlign l = (let x := d.setDeskew l blocks
       Device.pumpRx { x with zvl := { x.zvl with
         position := SMap.insert l (w.extractLsb' 128 48) x.zvl.position, oldSet := x.zvl.set, oldBsn := x.zvl.setBsn, set := w.extractLsb' 240 2
         setBsn := w.extractLsb' 176 48, epoch := some (w.extractLsb' 224 16)
         next := if w.extractLsb' 126 2 = 0#2 then w.extractLsb' 128 48 else w.extractLsb' 176 48 } }) := by
  have hx : (d.setDeskew l blocks).zvl.epoch = none := he
  simp only [Device.takeAlign, hb, hx]
  rfl

theorem Effect.alignReceive (lane : Fin 2) : Effect (.alignReceive lane) s (s.dev.takeAlign (8 + lane.val)) := rfl

/-! ### The head of the de-striped stream (R434) -/

/-- A message at the head of the stream is taken. -/
theorem takeMessage_head {msg : Nat} {f : Device → BitVec 257 → Device} (hq : d.zvl.queue = some w :: rest) (hc : w.getLsbD 256 = true)
    (hm : msgOf w = msg) :
    d.takeMessage msg f = (let x := f { d with zvl := { d.zvl with queue := rest } } w; x.skipBlocks x.zvl.queue.length) := by
  simp only [Device.takeMessage, hq, hc, hm, decide_true, Bool.and_self, if_true]

/-- Nothing waits behind it. -/
theorem skipBlocks_empty (h : d.zvl.queue = []) : d.skipBlocks d.zvl.queue.length = d := by rw [h]; rfl

theorem Effect.dframeReceive : Effect .dframeReceive s (s.dev.takeMessage 1 fun d w => d.openFrame w) := rfl
theorem Effect.ackReceive : Effect .ackReceive s (s.dev.takeMessage 2 fun d w => d.acknowledge (w.extractLsb' 212 32)) := rfl
theorem Effect.lstatusReceive : Effect .lstatusReceive s
    (s.dev.takeMessage 3 fun d w => d.report (w.extractLsb' 228 16) (w.extractLsb' 212 16) (w.extractLsb' 196 16)) := rfl
theorem Effect.trigMessage : Effect .trigMessage s (s.dev.takeMessage 0x20 fun d w => d.linkTrigger w) := rfl
theorem Effect.tsyncMessage : Effect .tsyncMessage s (s.dev.takeMessage 0x21 fun d w => d.linkSync w) := rfl

theorem effect_dframeReceive (hq : s.dev.zvl.queue = some w :: rest) (hc : w.getLsbD 256 = true) (hm : msgOf w = 1) :
    Effect .dframeReceive s
      (let d := Device.openFrame { s.dev with zvl := { s.dev.zvl with queue := rest } } w
       d.skipBlocks d.zvl.queue.length) :=
  takeMessage_head (f := fun d w => d.openFrame w) hq hc hm ▸ Effect.dframeReceive

theorem effect_ackReceive (hq : s.dev.zvl.queue = some w :: rest) (hc : w.getLsbD 256 = true) (hm : msgOf w = 2) :
    Effect .ackReceive s
      (let d := Device.acknowledge { s.dev with zvl := { s.dev.zvl with queue := rest } } (w.extractLsb' 212 32)
       d.skipBlocks d.zvl.queue.length) :=
  takeMessage_head (f := fun d w => d.acknowledge (w.extractLsb' 212 32)) hq hc hm ▸ Effect.ackReceive

theorem effect_lstatusReceive (hq : s.dev.zvl.queue = some w :: rest) (hc : w.getLsbD 256 = true) (hm : msgOf w = 3) :
    Effect .lstatusReceive s
      (let d := Device.report { s.dev with zvl := { s.dev.zvl with queue := rest } } (w.extractLsb' 228 16) (w.extractLsb' 212 16) (w.extractLsb' 196 16)
       d.skipBlocks d.zvl.queue.length) :=
  takeMessage_head (f := fun d w => d.report (w.extractLsb' 228 16) (w.extractLsb' 212 16) (w.extractLsb' 196 16)) hq hc hm ▸ Effect.lstatusReceive

/-! ### Repeated acknowledgements and reports (R439, R442) -/

theorem ackRepeat_completes (hq : s.dev.serviceRun = none) (ha : s.dev.zvl.accepted.isSome = true) (hu : s.dev.flag Reg.LNK.SUMMARY_RX_BUNDLE_UP = true) :
    Completes .ackRepeat s fun d => Leaves [.clock, .tim, .zvl] (regs []) [] s.dev d
      ∧ d.clock = max s.dev.clock (s.dev.zvl.ackAt + 10 * Config.usCt) ∧ d.zvl = { s.dev.zvl with ackDue := true } := by
  have hx : Effect .ackRepeat s
      (let x := s.dev.waitUntil (s.dev.zvl.ackAt + 10 * Config.usCt); { x with zvl := { x.zvl with ackDue := true } }) :=
    Effect.of_run (show execAckRepeat s = run _ s from rfl) (if_pos (by rw [ha, hu]; rfl))
  refine hx.completes [.clock, .tim, .zvl] (regs []) [] hq (by decide)
    ((Frame.refl.waitUntil (by decide) (by decide)).zvl (by decide)) fun t hs hl => ⟨hl, ?_, hs.zvl (by decide)⟩
  exact (hs.clock (by decide)).trans (Device.waitUntil_clock _ _)

theorem lstatusPeriodic_completes (hq : s.dev.serviceRun = none) (hu : s.dev.flag Reg.LNK.SUMMARY_TX_BUNDLE_UP = true) (hd : s.dev.domOn 14 = true) :
    Completes .lstatusPeriodic s fun d => Leaves [.clock, .tim, .zvl] (regs []) [] s.dev d
      ∧ d.clock = max s.dev.clock (s.dev.zvl.statusAt + 10 * Config.usCt) ∧ d.zvl = { s.dev.zvl with statusDue := true } := by
  have hx : Effect .lstatusPeriodic s (s.dev.waitUntil (s.dev.zvl.statusAt + 10 * Config.usCt)).reportChanged :=
    Effect.of_run (show execLstatusPeriodic s = run _ s from rfl) (if_pos (by rw [hu, hd]; rfl))
  refine hx.completes [.clock, .tim, .zvl] (regs []) [] hq (by decide)
    ((Frame.refl.waitUntil (by decide) (by decide)).zvl (by decide)) fun t hs hl => ⟨hl, ?_, hs.zvl (by decide)⟩
  exact (hs.clock (by decide)).trans (Device.waitUntil_clock _ _)

/-! ### TRIG (R449) -/

/-- The trigger primitive of a TRIG message. -/
def trigPrimitive (w : BitVec 257) : Primitive := { kind := 4, sel := bodyField w 240 4, time := some (bodyField w 176 64) }

/-- A TRIG is counted, and it reaches the trigger engine while TRIG_EN is 1 and the engine has power. -/
theorem linkTrigger_eq (d : Device) (w : BitVec 257) : d.linkTrigger w =
    if d.flag Reg.ZVL.CTRL_TRIG_EN && d.pageOn .trg then
      { d.count Reg.ZVL.CNT_TRIG_RX with trg := { d.trg with prims := d.trg.prims ++ [trigPrimitive w] } }
    else d.count Reg.ZVL.CNT_TRIG_RX := by
  rw [Device.linkTrigger, Device.flag_count_ne (by decide), Device.pageOn_count (by decide)]
  rfl

theorem effect_trigMessage (hq : s.dev.zvl.queue = some w :: rest) (hc : w.getLsbD 256 = true) (hm : msgOf w = 0x20) :
    Effect .trigMessage s
      (let d := Device.count { s.dev with zvl := { s.dev.zvl with queue := rest } } Reg.ZVL.CNT_TRIG_RX
       let d := if s.dev.flag Reg.ZVL.CTRL_TRIG_EN && s.dev.pageOn .trg then
         { d with trg := { d.trg with prims := d.trg.prims ++ [{ kind := 4, sel := bodyField w 240 4, time := some (bodyField w 176 64) }] } } else d
       d.skipBlocks d.zvl.queue.length) := by
  have hx := Effect.trigMessage (s := s)
  rw [takeMessage_head hq hc hm, linkTrigger_eq, Device.flag_zvl, Device.pageOn_zvl] at hx
  exact hx

theorem trigMessage_completes (hr : s.dev.serviceRun = none) (hq : s.dev.zvl.queue = [some w]) (hc : w.getLsbD 256 = true) (hm : msgOf w = 0x20)
    (he : s.dev.flag Reg.ZVL.CTRL_TRIG_EN = true) (hp : s.dev.pageOn .trg = true) :
    Completes .trigMessage s fun d => Leaves [.zvl, .trg] (regs [Reg.ZVL.CNT_TRIG_RX]) [] s.dev d
      ∧ d.word Reg.ZVL.CNT_TRIG_RX = counted (s.dev.word Reg.ZVL.CNT_TRIG_RX) 1 ∧ d.zvl.queue = []
      ∧ d.trg.prims = s.dev.trg.prims ++ [{ kind := 4, sel := bodyField w 240 4, time := some (bodyField w 176 64) }] := by
  have hx := Effect.trigMessage (s := s)
  rw [takeMessage_head hq hc hm, linkTrigger_eq, Device.flag_zvl, Device.pageOn_zvl, he, hp, Bool.and_self, if_pos rfl, skipBlocks_empty rfl] at hx
  refine hx.completes [.zvl, .trg] (regs [Reg.ZVL.CNT_TRIG_RX]) [] hr (by decide)
    (((Frame.refl.zvl (by decide)).count (.inl (by decide))).trg (by decide)) fun t hs hl => ⟨hl, ?_, ?_, ?_⟩
  · rw [hs.plain rfl (by decide), Device.word_trg, Device.word_count, if_pos rfl]; rfl
  · rw [hs.zvl (by decide)]; rfl
  · have ht := hs.block .trg (by decide) (by decide)
    simp only [Block.same] at ht
    rw [ht]; rfl

/-! ### TSYNC (R450) -/

theorem effect_tsyncMessage (hq : s.dev.zvl.queue = some w :: rest) (hc : w.getLsbD 256 = true) (hm : msgOf w = 0x21)
    (he : s.dev.flag Reg.ZVL.CTRL_TSYNC_EN = true) (hd : s.dev.domOn 1 = true) (hl : s.dev.flag Reg.TIM0.STATUS_LOCK = true) :
    Effect .tsyncMessage s
      (let d := Device.seeSync
         { s.dev with
           zvl := { s.dev.zvl with queue := rest },
           tim := { s.dev.tim with tsync := s.dev.tim.tsync ++ [⟨if w.getLsbD 243 then 3 else 2, w.extractLsb' 203 40, w.extractLsb' 185 18,
             s.dev.tim.count + 1 + BitVec.ofNat 58 (max 64 (s.dev.fld Reg.ZVL.TSYNC_DELAY_CT))⟩] } }
         (if w.getLsbD 243 then 3 else 2)
       d.skipBlocks d.zvl.queue.length) := by
  have hx := Effect.tsyncMessage (s := s)
  have hon : (Device.flag { s.dev with zvl := { s.dev.zvl with queue := rest } } Reg.ZVL.CTRL_TSYNC_EN
      && Device.domOn { s.dev with zvl := { s.dev.zvl with queue := rest } } 1
      && Device.flag { s.dev with zvl := { s.dev.zvl with queue := rest } } Reg.TIM0.STATUS_LOCK) = true := by
    simp only [Device.flag_zvl, Device.domOn_zvl, he, hd, hl, Bool.and_self]
  rw [takeMessage_head hq hc hm, Device.linkSync, if_pos hon] at hx
  exact hx

theorem tsyncIgnored_completes (hr : s.dev.serviceRun = none) (hq : s.dev.zvl.queue = [some w]) (hc : w.getLsbD 256 = true) (hm : msgOf w = 0x21)
    (he : s.dev.flag Reg.ZVL.CTRL_TSYNC_EN = false) :
    Completes .tsyncMessage s fun d => Leaves [.zvl] (regs [Reg.ZVL.CNT_TSYNC_IGNORED]) [] s.dev d ∧ d.zvl.queue = []
      ∧ d.word Reg.ZVL.CNT_TSYNC_IGNORED = counted (s.dev.word Reg.ZVL.CNT_TSYNC_IGNORED) 1 := by
  have hx := Effect.tsyncMessage (s := s)
  have hoff : ¬ (Device.flag { s.dev with zvl := { s.dev.zvl with queue := [] } } Reg.ZVL.CTRL_TSYNC_EN
      && Device.domOn { s.dev with zvl := { s.dev.zvl with queue := [] } } 1
      && Device.flag { s.dev with zvl := { s.dev.zvl with queue := [] } } Reg.TIM0.STATUS_LOCK) = true := by
    rw [Device.flag_zvl, he, Bool.false_and, Bool.false_and]; decide
  rw [takeMessage_head hq hc hm, Device.linkSync, if_neg hoff, skipBlocks_empty rfl] at hx
  refine hx.completes [.zvl] (regs [Reg.ZVL.CNT_TSYNC_IGNORED]) [] hr (by decide)
    ((Frame.refl.zvl (by decide)).count (.inl (by decide))) fun t hs hl => ⟨hl, ?_, ?_⟩
  · rw [hs.zvl (by decide)]; rfl
  · rw [hs.plain rfl (by decide), Device.word_count, if_pos rfl]; rfl

/-! ### The load tick of a TSYNC (R90, R450) -/

section
variable {e : SyncEdge} {edges : List SyncEdge} {phase : BitVec 16}

/-- A SYNC load in flight falls on the tick of a TSYNC. -/
def Device.rivalled (d : Device) (e : SyncEdge) : Bool := d.tim.sync.any fun x => x.loadAt == e.loadAt && (x.mode == 1 || x.mode == 3)

theorem effect_tsyncLoadTick (hd : s.dev.domOn 1 = true) (ht : s.dev.tim.tsync = e :: edges) :
    Effect (.tsyncLoadTick phase) s (Device.tsyncTick { s.dev with tim := { s.dev.tim with tsync := edges } } e phase) :=
  Effect.of_run (show execTsyncLoadTick phase s = run _ s from rfl) (by rw [ht]; exact if_pos hd)

theorem effect_tsyncCheck (hd : s.dev.domOn 1 = true) (ht : s.dev.tim.tsync = e :: edges) (hm : e.mode = 2) :
    Effect (.tsyncLoadTick phase) s
      (((Device.checkTsync (Device.advanceTo { s.dev with tim := { s.dev.tim with tsync := edges } } e.loadAt) e).count Reg.ZVL.CNT_TSYNC).raise .zvl 7) := by
  have hx := effect_tsyncLoadTick (phase := phase) hd ht
  simp only [Device.tsyncTick, hm, decide_true, Bool.true_or, if_true] at hx
  exact hx

/-- A load without a rival goes by the rule of R90. -/
theorem effect_tsyncLoad (hd : s.dev.domOn 1 = true) (ht : s.dev.tim.tsync = e :: edges) (hm : e.mode = 3)
    (hx : d = Device.advanceTo { s.dev with tim := { s.dev.tim with tsync := edges } } e.loadAt) (hn : d.rivalled e = false) :
    Effect (.tsyncLoadTick phase) s
      (((if d.mayLoad then d.loadTimeBase e.frame e.phase phase else (d.raise .tim0 7).checkTsync e).count Reg.ZVL.CNT_TSYNC).raise .zvl 7) := by
  subst hx
  have h := effect_tsyncLoadTick (phase := phase) hd ht
  rw [Device.rivalled] at hn
  have h2 : e.mode ≠ 2 := by omega
  simp only [Device.tsyncTick, hn, h2, decide_false, Bool.or_self, Bool.false_eq_true, if_false] at h
  exact h

theorem effect_tsyncLoad_done (hd : s.dev.domOn 1 = true) (ht : s.dev.tim.tsync = e :: edges) (hm : e.mode = 3)
    (hx : d = Device.advanceTo { s.dev with tim := { s.dev.tim with tsync := edges } } e.loadAt) (hn : d.rivalled e = false) (ha : d.mayLoad = true) :
    Effect (.tsyncLoadTick phase) s (((d.loadTimeBase e.frame e.phase phase).count Reg.ZVL.CNT_TSYNC).raise .zvl 7) := by
  have h := effect_tsyncLoad (phase := phase) hd ht hm hx hn
  rwa [if_pos ha] at h

theorem effect_tsyncLoad_refused (hd : s.dev.domOn 1 = true) (ht : s.dev.tim.tsync = e :: edges) (hm : e.mode = 3)
    (hx : d = Device.advanceTo { s.dev with tim := { s.dev.tim with tsync := edges } } e.loadAt) (hn : d.rivalled e = false) (ha : d.mayLoad = false) :
    Effect (.tsyncLoadTick phase) s ((((d.raise .tim0 7).checkTsync e).count Reg.ZVL.CNT_TSYNC).raise .zvl 7) := by
  have h := effect_tsyncLoad (phase := phase) hd ht hm hx hn
  rwa [if_neg (Bool.eq_false_iff.mp ha)] at h

end

/-- Settles O23: the effect of each message and load tick, with its frame where it completes. -/
theorem linkMessages : Obligations.LinkMessages := by
  unfold Obligations.LinkMessages
  exact ⟨fun _ lane _ _ _ hb he hw => takeAlign_same hb he hw ▸ Effect.alignReceive lane,
    fun _ lane _ _ hb he => takeAlign_first hb he ▸ Effect.alignReceive lane,
    fun _ _ _ => effect_dframeReceive,
    fun _ _ _ => effect_ackReceive,
    fun _ => ackRepeat_completes,
    fun _ _ _ => effect_lstatusReceive,
    fun _ => lstatusPeriodic_completes,
    fun _ _ => trigMessage_completes,
    fun _ _ _ => effect_trigMessage,
    fun _ _ _ => effect_tsyncMessage,
    fun _ _ => tsyncIgnored_completes,
    fun _ _ _ _ => effect_tsyncCheck,
    fun _ _ _ _ _ => effect_tsyncLoad_done,
    fun _ _ _ _ _ => effect_tsyncLoad_refused⟩

end Sys2Proof.Machine
end

section
/-! PROOFS. The laws of the built-in services' searches and records (R110, R352, R353). -/

namespace Sys2Proof.Machine

/-! ### Histograms (R110) -/

/-- A histogram without counts fails, and its words are unstated. -/
theorem calRecord_empty (u : Nat → BitVec 16) : calRecord (fun _ => 0) u = ((List.range 64).map u, true) := by
  have hn : ((List.range 80).map fun _ => 0).sum = 0 := by decide
  unfold calRecord
  rw [if_pos hn]

/-- A code below 56 without counts fails the cluster: it lies below the last populated code, or that one lies below 56. -/
theorem calRecord_gap (h : Nat → Nat) (u : Nat → BitVec 16) (hn : 0 < ((List.range 80).map h).sum) (hk : ∃ k, k < 56 ∧ h k = 0) :
    (calRecord h u).2 = true := by
  obtain ⟨k, hk, hz⟩ := hk
  have gap (last : Nat) : (decide (last < 56) || (List.range last).any fun j => decide (h j = 0)) = true := by
    by_cases hl : last < 56
    · rw [decide_eq_true hl, Bool.true_or]
    · rw [Bool.or_eq_true]
      exact .inr (List.any_eq_true.mpr ⟨k, List.mem_range.mpr (by omega), decide_eq_true hz⟩)
  unfold calRecord
  rw [if_neg (Nat.ne_of_gt hn)]
  refine List.foldlRecOn (motive := fun acc : List Int × Nat × Bool => acc.2.2 = true) _ _ ?_ fun acc hacc j _ => ?_
  · have := gap ((List.range 81).foldl (fun m k => if h k > 0 then k else m) 0)
    grind
  · obtain ⟨ds, cum, fail⟩ := acc
    grind

/-! ### The search of threshold equalisation (R352) -/

theorem eqNext_never : eqNext 4 (eqNext 3 (eqNext 2 (eqNext 1 (eqNext 0 16 false) false) false) false) false = 0 := by decide

theorem eqNext_always : eqNext 4 (eqNext 3 (eqNext 2 (eqNext 1 (eqNext 0 16 true) true) true) true) true = 31 := by decide

/-! ### What a scan makes of its checks (R353) -/

/-- How often a status was found. -/
def found (rs : List (BitVec 2)) (x : BitVec 2) : Nat := (rs.filter fun y => y == x).length

theorem scanStatus_eq (rs : List (BitVec 2)) :
    scanStatus rs = if found rs 2 ≤ found rs 3 ∧ found rs 1 ≤ found rs 3 then 3 else if found rs 1 ≤ found rs 2 then 2 else 1 := rfl

/-- No status was found more often, and of two found as often the status is the worse. -/
theorem scanStatus_greatest (rs : List (BitVec 2)) {x : BitVec 2} (hx : x ≠ 0) :
    found rs x ≤ found rs (scanStatus rs) ∧ (found rs x = found rs (scanStatus rs) → x ≤ scanStatus rs) := by
  have status : x = 1 ∨ x = 2 ∨ x = 3 := by revert x; decide
  rw [scanStatus_eq]
  split
  · next h3 =>
    have worst : x ≤ 3 := by revert x; decide
    refine ⟨?_, fun _ => worst⟩
    rcases status with rfl | rfl | rfl <;> omega
  · split
    · rcases status with rfl | rfl | rfl
      · exact ⟨by assumption, fun _ => by decide⟩
      · exact ⟨Nat.le_refl _, fun _ => by decide⟩
      · exact ⟨by omega, fun _ => by omega⟩
    · rcases status with rfl | rfl | rfl
      · exact ⟨Nat.le_refl _, fun _ => by decide⟩
      · exact ⟨by omega, fun _ => by omega⟩
      · exact ⟨by omega, fun _ => by omega⟩

theorem found_pos {rs : List (BitVec 2)} {x : BitVec 2} : 0 < found rs x ↔ x ∈ rs := by
  rw [found, List.length_pos_iff, Ne, List.filter_eq_nil_iff]
  simp

/-- The status of a pixel that was checked is one that a check found. -/
theorem scanStatus_mem {rs : List (BitVec 2)} (hne : rs ≠ []) (h0 : ∀ x ∈ rs, x ≠ 0) : scanStatus rs ∈ rs := by
  obtain ⟨x, hx⟩ := List.exists_mem_of_ne_nil rs hne
  obtain ⟨hmost, _⟩ := scanStatus_greatest rs (h0 x hx)
  exact found_pos.mp (Nat.lt_of_lt_of_le (found_pos.mpr hx) hmost)

/-- Checks that never respond. -/
theorem scanBin_noResponse {cs : List (Option Nat)} (hne : cs ≠ []) (hn : ∀ c ∈ cs, c = none) : scanBin cs = 0xFFFF := by
  have hx : cs.filterMap id = [] := List.filterMap_eq_nil_iff.mpr hn
  simp only [scanBin, hx, List.isEmpty_eq_false_iff.mpr hne, List.isEmpty_nil, Bool.false_eq_true, if_false, if_true]

end Sys2Proof.Machine
end

section
/-! PROOFS. The built-in services: delay-line calibration, threshold equalisation and the bump scan (O42). -/

namespace Sys2Proof.Machine

variable {s : State} {r : SeqRun} {v : ServiceRun} {n : Nat} {rest : List Nat}

/-- A service is under way. -/
structure Serving (d : Device) (r : SeqRun) (v : ServiceRun) (svc : Service) : Prop where
  run : d.sta.run = some r
  phase : r.phase = .service v
  svc : v.svc = svc

theorem onService_serving {d : Device} {svc : Service} {f : SeqRun → ServiceRun → Device} (h : Serving d r v svc) : d.onService svc f = f r v := by
  simp only [Device.onService, h.run, h.phase, h.svc, beq_self_eq_true, if_true]

/-! ### Delay-line calibration (R351) -/

theorem Effect.dlcalDone (h : Serving s.dev r v .delayLine) (ht : v.todo = n :: rest) :
    Effect .dlcalDone s (if s.dev.dieMeasured n v then s.dev.calNext r v n else s.dev) :=
  Effect.of_run (show execDlcalDone s = run _ s from rfl) ((onService_serving h).trans (by rw [ht]))

theorem dieMeasured_of_idle {d : Device} (h : d.flag (Reg.PIX.INJ_CTRL_BUSY n) = false) : d.dieMeasured n v = true := by
  rw [Device.dieMeasured, h, Bool.not_false, Bool.true_or]

/-- A histogram run is over too when every cluster has its hits. -/
theorem dieMeasured_codes {d : Device} (hst : v.stage = .codes)
    (h : d.flag (Reg.PIX.INJ_CTRL_BUSY n) = false ∨ ∀ j, j < 8192 → calHits v.params ≤ d.binSum j) : d.dieMeasured n v = true := by
  rcases h with h | h
  · exact dieMeasured_of_idle h
  · have hall : ((List.range 8192).all fun j => decide (calHits v.params ≤ d.binSum j)) = true :=
      List.all_eq_true.mpr fun j hj => decide_eq_true (h j (List.mem_range.mp hj))
    rw [Device.dieMeasured, hst, hall, beq_self_eq_true, Bool.and_self, Bool.or_true]

/-- After the histogram run the records are computed, and the first offset run begins. -/
theorem calNext_codes (d : Device) (hst : v.stage = .codes) :
    d.calNext r v n = (let p := (d.endService (Fin.ofNat 4 n)).computeRecords v n; p.1.startOffsets r p.2 n 0) := by
  rw [Device.calNext, hst]

theorem effect_dlcalDone_codes (h : Serving s.dev r v .delayLine) (ht : v.todo = n :: rest) (hst : v.stage = .codes)
    (hm : s.dev.flag (Reg.PIX.INJ_CTRL_BUSY n) = false ∨ ∀ j, j < 8192 → calHits v.params ≤ s.dev.binSum j) :
    Effect .dlcalDone s (let p := (s.dev.endService (Fin.ofNat 4 n)).computeRecords v n; p.1.startOffsets r p.2 n 0) := by
  have hx := Effect.dlcalDone h ht
  rwa [if_pos (dieMeasured_codes hst hm), calNext_codes _ hst] at hx

theorem effect_dlcalDone_offsets0 (h : Serving s.dev r v .delayLine) (ht : v.todo = n :: rest) (hst : v.stage = .offsets 0)
    (hm : s.dev.flag (Reg.PIX.INJ_CTRL_BUSY n) = false) :
    Effect .dlcalDone s (let d := s.dev.endService (Fin.ofNat 4 n); d.startOffsets r { v with means := d.cellMeans } n 1) := by
  have hx := Effect.dlcalDone h ht
  rw [if_pos (dieMeasured_of_idle hm), Device.calNext, hst] at hx
  exact hx

theorem effect_dlcalDone_offsets1 (h : Serving s.dev r v .delayLine) (ht : v.todo = n :: rest) (hst : v.stage = .offsets 1)
    (hm : s.dev.flag (Reg.PIX.INJ_CTRL_BUSY n) = false) :
    Effect .dlcalDone s ((s.dev.endService (Fin.ofNat 4 n)).dieDone r v n) := by
  have hx := Effect.dlcalDone h ht
  rw [if_pos (dieMeasured_of_idle hm), Device.calNext, hst] at hx
  exact hx

theorem effect_dlcalDone_waits (h : Serving s.dev r v .delayLine) (ht : v.todo = n :: rest) (hm : s.dev.dieMeasured n v = false) :
    Effect .dlcalDone s s.dev := by
  have hx := Effect.dlcalDone h ht
  rwa [if_neg (Bool.eq_false_iff.mp hm)] at hx

/-- A die's calibration finishes: its offsets and results, then in COMMIT mode its records. -/
theorem dieDone_eq (d : Device) (r : SeqRun) (v : ServiceRun) (n : Nat) : d.dieDone r v n =
      (let temp := d.calTemp n
       let p := d.setOffsets v temp (v.means ++ d.cellMeans)
       let rs := (List.range 8192).map fun j => if v.failed.contains j then none else some ((List.range 65).map (p.1.storedRecord j))
       let dev := rs.zipIdx.foldl (fun (m : Nat) q => match q.1 with
         | some ws => max m (((ws.getD 63 0).toNat : Int) - (p.1.corrWord (n * 8192 + q.2) 63).toNat).natAbs
         | none => m) 0
       let d := (p.1.setFld (Reg.STA1.DIE_RESULT_FAILED n) v.failed.length).setFld (Reg.STA1.DIE_RESULT_MAXDEV n) (min dev 65535)
       let w := { v with warn := v.warn || !v.failed.isEmpty }
       if v.commit = false then d.nextDie r w
       else
         let d := (if v.reseals then d.openWindow else d).putRecords n temp rs
         let d := d.setFld (Reg.TIM0.INJ_DELAY_DELAY n) (p.2 % 65536).toNat
         let d := ((d.setFld (Reg.STA1.CAL_TEMP_TEMP n) temp).setFlag (Reg.STA1.CAL_TEMP_VALID n) true).raise .sta1 3
         let d := if v.reseals then d.closeWindow else d
         if d.sea.work.isSome && v.reseals then { d with sta := { d.sta with run := some { r with phase := .reseal w } } } else d.nextDie r w) := by
  unfold Device.dieDone
  dsimp only
  generalize d.setOffsets v (d.calTemp n) (v.means ++ d.cellMeans) = p
  generalize (List.range 8192).map _ = rs
  cases v.commit with
  | false => rfl
  | true => rfl

/-! ### Threshold equalisation (R352) -/

variable {group round : Nat}

/-- The search after a measurement: the generators of the dies are released, and every treated trim moves. -/
def searched (d : Device) (v : ServiceRun) (group round : Nat) : Device × ServiceRun :=
  v.dies.foldl (fun (p : Device × ServiceRun) n => p.1.searchDie p.2 group round n) (v.dies.foldl (fun (d : Device) n => d.endService (Fin.ofNat 4 n)) d, v)

theorem eqNextRun_eq (d : Device) (r : SeqRun) (v : ServiceRun) (group round : Nat) : d.eqNextRun r v group round =
    if round < 4 then (searched d v group round).1.startTrims r (searched d v group round).2 group (round + 1)
    else if group < 3 then (searched d v group round).1.startTrims r (searched d v group round).2 (group + 1) 0
    else (searched d v group round).1.eqDone r (searched d v group round).2 := rfl

/-- In MEASURE mode the entries go back to what they were. -/
theorem eqDone_measure {d : Device} (hc : v.commit = false) : d.eqDone r v =
    (let d := v.dies.foldl (fun (d : Device) n => d.equalised v n) d
     (d.raise .sta1 4).endRunStep r v (v.dies.any fun n => d.fld (Reg.STA1.THEQ_RANGE_COUNT n) != 0 || d.fld (Reg.STA1.THEQ_NOISY_COUNT n) != 0)) := by
  simp only [Device.eqDone, hc, Bool.false_eq_true, if_false]
  rfl

/-- In COMMIT mode the entries of the treated pixels go back with their final trims. -/
theorem eqDone_commit {d : Device} (hc : v.commit = true) : d.eqDone r v =
    (let done := v.dies.flatMap fun n => ([0, 1, 2, 3] : List Nat).flatMap fun g => d.treated v n g
     let kept := v.saved.map fun q => if done.contains q.1 then (q.1, (q.2 &&& 0xE0#8) ||| ((d.pixel q.1).entry &&& 0x1F#8)) else q
     let d := v.dies.foldl (fun (d : Device) n => d.equalised v n) d
     (d.raise .sta1 4).endRunStep r { v with saved := kept } (v.dies.any fun n => d.fld (Reg.STA1.THEQ_RANGE_COUNT n) != 0 || d.fld (Reg.STA1.THEQ_NOISY_COUNT n) != 0)) := by
  simp only [Device.eqDone, hc, if_true]
  rfl

theorem effect_theqDone (h : Serving s.dev r v .threshold) (hst : v.stage = .trims group round) (hm : ∀ n ∈ v.dies, s.dev.flag (Reg.PIX.INJ_CTRL_BUSY n) = false) :
    Effect .theqDone s (s.dev.eqNextRun r v group round) := by
  have ended : (v.dies.all fun n => !s.dev.flag (Reg.PIX.INJ_CTRL_BUSY n)) = true :=
    List.all_eq_true.mpr fun n hn => by rw [hm n hn, Bool.not_false]
  refine Effect.of_run (show execTheqDone s = run _ s from rfl) ((onService_serving h).trans ?_)
  rw [hst]
  exact if_pos ended

theorem effect_theqDone_waits (h : Serving s.dev r v .threshold) (hn : n ∈ v.dies) (hb : s.dev.flag (Reg.PIX.INJ_CTRL_BUSY n) = true) : Effect .theqDone s s.dev := by
  have waits : ¬ (v.dies.all fun n => !s.dev.flag (Reg.PIX.INJ_CTRL_BUSY n)) = true := fun hall => by
    have idle := List.all_eq_true.mp hall n hn
    rw [hb] at idle
    exact Bool.false_ne_true idle
  refine Effect.of_run (show execTheqDone s = run _ s from rfl) ((onService_serving h).trans ?_)
  split
  · exact if_neg waits
  · rfl

/-! ### The bump scan (R353) -/

/-- A die of a scan has had its repetitions. -/
def dieScanned (v : ServiceRun) (n : Nat) : Prop :=
  (SMap.get (fun _ => ({} : ScanSt)) v.scans n).busy = false ∧ (SMap.get (fun _ => ({} : ScanSt)) v.scans n).reps = scanReps v.params

theorem scanOver_iff : scanOver v = true ↔ ∀ n ∈ v.dies, dieScanned v n := by
  simp only [scanOver, dieScanned, List.all_eq_true, Bool.and_eq_true, Bool.not_eq_true', decide_eq_true_eq]

theorem effect_bscanDone (h : Serving s.dev r v .bumpScan) (hover : ∀ n ∈ v.dies, dieScanned v n) :
    Effect .bscanDone s
      (let p := v.dies.foldl (fun (p : Device × Bool) n => let q := p.1.scanDie v n; (q.1, p.2 || q.2)) (s.dev, false)
       (p.1.raise .sta1 5).endRunStep r v p.2) :=
  Effect.of_run (show execBscanDone s = run _ s from rfl) ((onService_serving h).trans (if_pos (scanOver_iff.mpr hover)))

theorem effect_bscanDone_waits (h : Serving s.dev r v .bumpScan) (hn : n ∈ v.dies) (hw : ¬ dieScanned v n) : Effect .bscanDone s s.dev :=
  Effect.of_run (show execBscanDone s = run _ s from rfl) ((onService_serving h).trans (if_neg fun hover => hw (scanOver_iff.mp hover n hn)))

/-- Settles O42: each service goes on, finishes or waits by what its measurement has reached, and the searches and records follow their laws. -/
theorem builtInServices : Obligations.BuiltInServices := by
  unfold Obligations.BuiltInServices
  refine ⟨?codes, ?offsets0, ?offsets1, ?calWaits, ?theq, ?theqWaits, ?scan, ?scanWaits, calRecord_empty, fun h u => calRecord_gap h u, ⟨eqNext_never, eqNext_always⟩,
    fun t => ⟨rfl, rfl⟩, ?status, fun _ => scanBin_noResponse, rfl⟩
  case codes => exact fun s r v n rest hr hp hs ht hst hm => effect_dlcalDone_codes ⟨hr, hp, hs⟩ ht hst hm
  case offsets0 => exact fun s r v n rest hr hp hs ht hst hm => effect_dlcalDone_offsets0 ⟨hr, hp, hs⟩ ht hst hm
  case offsets1 =>
    intro s r v n rest hr hp hs ht hst hm
    have done := effect_dlcalDone_offsets1 ⟨hr, hp, hs⟩ ht hst hm
    rwa [dieDone_eq] at done
  case calWaits => exact fun s r v n rest hr hp hs ht hm => effect_dlcalDone_waits ⟨hr, hp, hs⟩ ht hm
  case theq =>
    intro s r v group round hr hp hs hst hm
    have next := effect_theqDone ⟨hr, hp, hs⟩ hst hm
    rw [eqNextRun_eq] at next
    refine ⟨fun hround => ?_, fun hround hgroup => ?_, fun hround hgroup (hc : (searched s.dev v group round).2.commit = false) => ?_,
      fun hround hgroup (hc : (searched s.dev v group round).2.commit = true) => ?_⟩
    · rwa [if_pos hround] at next
    · rwa [if_neg (Nat.not_lt.mpr hround), if_pos hgroup] at next
    · rwa [if_neg (Nat.not_lt.mpr hround), if_neg (Nat.not_lt.mpr hgroup), eqDone_measure hc] at next
    · rwa [if_neg (Nat.not_lt.mpr hround), if_neg (Nat.not_lt.mpr hgroup), eqDone_commit hc] at next
  case theqWaits => exact fun s r v n hr hp hs hn hb => effect_theqDone_waits ⟨hr, hp, hs⟩ hn hb
  case scan => exact fun s r v hr hp hs hover => effect_bscanDone ⟨hr, hp, hs⟩ hover
  case scanWaits =>
    intro s r v n hr hp hs hn hw
    refine effect_bscanDone_waits ⟨hr, hp, hs⟩ hn fun ⟨hidle, hreps⟩ => ?_
    rcases hw with hbusy | hmore
    · exact Bool.false_ne_true (hidle.symm.trans hbusy)
    · exact hmore hreps
  case status => exact fun rs hne h0 => ⟨scanStatus_mem hne h0, fun x hx => scanStatus_greatest rs (h0 x hx)⟩

end Sys2Proof.Machine
end

section
/-! PROOFS. The merger, the die-to-die channels, the watchdogs of the readout and the flow-control pins (O10). -/

namespace Sys2Proof.Machine

variable {bs : List Block} {rs : Nat → Bool} {ps : List Page} {d e : Device} {s : State} {die : Die} {chan : Fin 4} {region : Region}
  {pix : Pix} {data : W32} {c : Nat}

/-! ### Reading a band, a channel and a receiver after an update -/

@[simp] theorem Device.chan_updChan_self (d : Device) (k : Nat) (f : ChanSt → ChanSt) : (d.updChan k f).chan k = f (d.chan k) :=
  SMap.get_upd_self _ _ _ _
@[simp] theorem Device.chan_waitUntil (d : Device) (t k : Nat) : (d.waitUntil t).chan k = d.chan k := rfl
@[simp] theorem Device.domOn_updChan (d : Device) (k : Nat) (f : ChanSt → ChanSt) (i : Nat) : (d.updChan k f).domOn i = d.domOn i := rfl
theorem Device.band_updBand (d : Device) (i j : Nat) (f : BandSt → BandSt) : (d.updBand i f).band j = if j = i then f (d.band i) else d.band j :=
  SMap.get_upd _ _ _ _ _
@[simp] theorem Device.band_setFld (d : Device) (f : Fld) (v i : Nat) : (d.setFld f v).band i = d.band i := rfl
@[simp] theorem Device.word_updBand (d : Device) (i : Nat) (f : BandSt → BandSt) (a : Nat) : (d.updBand i f).word a = d.word a := rfl

theorem Leaves.band (h : Leaves bs rs ps d e) (hb : Block.arr ∉ bs) (i : Nat) : e.band i = d.band i := by
  simp only [Device.band, h.arr hb]

theorem Device.arr_raise (d : Device) (p : Page) (b x : Nat) : (d.raise p b x).arr = d.arr := Device.same_raise .arr

/-- The level bit of a channel's queue and its events leave the hit path alone (R123). -/
theorem Device.arr_chanLevel (d : Device) (n : Die) (c : Nat) : (d.chanLevel n c).arr = d.arr := by
  simp only [Device.chanLevel]
  split
  · rfl
  · exact Device.arr_raise _ _ _ _

/-! ### The merger (R129, R138) -/

/-- The merger takes an item from a band: the words it writes now, and those it has still to write. -/
def Device.takeItem (d : Device) (n : Die) (c b : Nat) (it : Item) (now later : List (BitVec 42)) : Device :=
  ((d.takeFromBand (n.val * 8 + b) it).updChan (chanNo n c)
    fun x => { x with queue := x.queue ++ now, merging := later, last := b, offered := true }).chanLevel n c

/-- Room for a new item: the merger works and is outside an item. -/
theorem Device.outside_of_mergeRoom {it : Item} (h : d.mergeRoom die c it = true) :
    d.merges die c = true ∧ (d.chan (chanNo die c)).merging.isEmpty = true := by
  simp only [Device.mergeRoom, Bool.and_eq_true] at h
  obtain ⟨⟨⟨hworks, _⟩, houtside⟩, _⟩ := h
  exact ⟨hworks, houtside⟩

theorem Device.merge_takes {first : Bool} {b : Nat} {it : Item} (hr : d.mergeRoom die c it = true) (hb : d.nextBand die c = some b)
    (ho : (d.band (die.val * 8 + b)).out = some it) :
    d.merge die c first = d.takeItem die c b it (if first then (itemWords it).take 1 else itemWords it)
      ((itemWords it).drop (if first then (itemWords it).take 1 else itemWords it).length) := by
  obtain ⟨hworks, houtside⟩ := Device.outside_of_mergeRoom hr
  simp only [Device.merge, hworks, houtside, hb, ho, hr, Bool.not_true, Bool.false_eq_true, if_false, if_true]
  rfl

theorem length_take_one_itemWords (it : Item) : ((itemWords it).take 1).length = 1 := by cases it <;> rfl

theorem effect_channelMerge_whole {b : Nat} {it : Item} (hr : s.dev.mergeRoom die chan.val it = true)
    (hb : s.dev.nextBand die chan.val = some b) (ho : (s.dev.band (die.val * 8 + b)).out = some it) :
    Effect (.channelMerge die chan false) s (s.dev.takeItem die chan.val b it (itemWords it) []) := by
  refine Effect.of_run (show execChannelMerge die chan false s = run _ s from rfl) ((Device.merge_takes hr hb ho).trans ?_)
  rw [if_neg Bool.false_ne_true, List.drop_length]

theorem effect_channelMerge_first {b : Nat} {it : Item} (hr : s.dev.mergeRoom die chan.val it = true)
    (hb : s.dev.nextBand die chan.val = some b) (ho : (s.dev.band (die.val * 8 + b)).out = some it) :
    Effect (.channelMerge die chan true) s (s.dev.takeItem die chan.val b it ((itemWords it).take 1) ((itemWords it).drop 1)) := by
  refine Effect.of_run (show execChannelMerge die chan true s = run _ s from rfl) ((Device.merge_takes hr hb ho).trans ?_)
  rw [if_pos rfl, length_take_one_itemWords]

/-! ### Words that cross to the receivers (R130, R131, R135) -/

/-- What lets the word at the head of a channel's queue cross: power on both sides, the channel up, and room at the receiver. -/
structure Device.Crosses (d : Device) (n : Die) (c : Nat) (w : BitVec 42) (rest : List (BitVec 42)) : Prop where
  receivers : d.domOn 15 = true
  periphery : d.domOn (25 + 11 * n.val) = true
  present : d.hasDie n.val = true
  up : d.chanUp n c = true
  room : rxWords (d.rx (chanNo n c)) < 64
  head : (d.chan (chanNo n c)).queue = w :: rest

/-- The word at the head leaves its channel; the last of an item is counted and ends the run of watchdog resets. -/
def Device.sendWord (d : Device) (n : Die) (c : Nat) (w : BitVec 42) (rest : List (BitVec 42)) : Device :=
  let d := d.updChan (chanNo n c) fun x => { x with queue := rest, wd := if wordLast w then 0 else x.wd, delivered := x.delivered || wordLast w }
  (if wordLast w then d.count (Reg.DIE.CNT_CH_ITEMS n.val c) else d).chanLevel n c

variable {w : BitVec 42} {rest : List (BitVec 42)} {arrived : Option (BitVec 42)}

theorem Device.sendWord_last (hw : wordLast w = true) :
    d.sendWord die c w rest = ((d.updChan (chanNo die c) fun x => { x with queue := rest, wd := 0, delivered := true }).count
      (Reg.DIE.CNT_CH_ITEMS die.val c)).chanLevel die c := by
  simp only [Device.sendWord, hw, Bool.or_true, if_true]

theorem Device.sendWord_inside (hw : wordLast w = false) :
    d.sendWord die c w rest = (d.updChan (chanNo die c) fun x => { x with queue := rest }).chanLevel die c := by
  simp only [Device.sendWord, hw, Bool.or_false, Bool.false_eq_true, if_false]

theorem Device.rx_sendWord (d : Device) (n : Die) (c k : Nat) : (d.sendWord n c w rest).rx k = d.rx k := by
  refine Device.rx_congr (Device.arr_chanLevel _ _ _) k |>.trans ?_
  split <;> rfl

/-- A word reaches its receiver with the finding of its code: an uncorrectable one discards its item, and the receiver skips to the next (R135). -/
def Device.receiveWord (d : Device) (k : Nat) (w : BitVec 42) : ReadFinding → Device
  | .ok => d.rxWord k w
  | .corrected => ((d.count (Reg.EVB.RX_SEC k)).raise .evb 13).rxWord k w
  | .uncorrectable => if (d.rx k).skipping then d else (d.rxDiscard k).updRx k fun x => { x with prog := [], skipping := true }

theorem Device.crossWord_eq (h : d.Crosses die c w rest) (finding : ReadFinding) :
    d.crossWord die c arrived finding = (d.sendWord die c w rest).receiveWord (chanNo die c) (arrived.getD w) finding := by
  obtain ⟨receivers, periphery, present, up, room, head⟩ := h
  simp only [Device.crossWord, receivers, periphery, present, up, Nat.not_le.mpr room, head, Bool.not_true, decide_false, Bool.or_self,
    Bool.false_eq_true, if_false]
  cases finding <;> rfl

theorem Device.receiveWord_uncorrectable {k : Nat} (hk : (d.rx k).skipping = false) :
    d.receiveWord k w .uncorrectable = (d.rxDiscard k).updRx k fun x => { x with prog := [], skipping := true } :=
  if_neg (hk ▸ Bool.false_ne_true)

theorem effect_d2dWordReceive (h : s.dev.Crosses die chan.val w rest) (finding : ReadFinding) :
    Effect (.d2dWordReceive die chan arrived finding) s
      ((s.dev.sendWord die chan.val w rest).receiveWord (chanNo die chan.val) (arrived.getD w) finding) :=
  Effect.of_run (show execD2dWordReceive die chan arrived finding s = run _ s from rfl) (Device.crossWord_eq h finding)

theorem effect_d2dWordReceive_uncorrectable (h : s.dev.Crosses die chan.val w rest) (hk : (s.dev.rx (chanNo die chan.val)).skipping = false) :
    Effect (.d2dWordReceive die chan arrived .uncorrectable) s
      (((s.dev.sendWord die chan.val w rest).rxDiscard (chanNo die chan.val)).updRx (chanNo die chan.val)
        fun x => { x with prog := [], skipping := true }) :=
  Device.receiveWord_uncorrectable (w := arrived.getD w) ((congrArg RxSt.skipping (s.dev.rx_sendWord die chan.val _)).trans hk)
    ▸ effect_d2dWordReceive h .uncorrectable

/-! ### Flushes of channels (R138, R139) -/

theorem chansOf_one : chansOf 1 = [0] := by decide

theorem effect_channelFlush {chans : BitVec 4} (hp : s.dev.pageOn (.die die) = true) :
    Effect (.channelFlush die chans) s ((chansOf chans).foldl (fun d c => d.startFlush die c) s.dev) :=
  Effect.of_run (show execChannelFlush die chans s = run _ s from rfl) (if_pos hp)

/-- A DOWN channel keeps no item back: nothing of its head item is on the way. -/
theorem Device.startFlush_down (hf : (d.word (Reg.DIE.CH_STATUS die.val)).getLsbD (16 + c) = false) (hd : d.chanUp die c = false) :
    d.startFlush die c =
      (let d := (((d.updChan (chanNo die c) fun x => { x with queue := [], merging := [], dropping := false }).count (Reg.DIE.CNT_FLUSH_DISCARD die.val c)
         (wholeItems (d.chan (chanNo die c)).queue)).chanLevel die c)
       if d.chanUp die c then d.setChanBit die 16 c true else d.raise (.die die) 5) := by
  simp only [Device.startFlush, hf, hd, Bool.and_false, Bool.false_and, Bool.false_eq_true, if_false, List.length_nil, List.drop_zero, Nat.sub_zero]

theorem Effect.channelFlushDone {truncated : Bool} (hp : s.dev.pageOn (.die die) = true) :
    Effect (.channelFlushDone die chan truncated) s (s.dev.endFlush die chan.val truncated) :=
  Effect.of_run (show execChannelFlushDone die chan truncated s = run _ s from rfl) (if_pos hp)

/-- A flush ends outside an item with event 5 only. -/
theorem Device.endFlush_outside {truncated : Bool} (hf : (d.word (Reg.DIE.CH_STATUS die.val)).getLsbD (16 + c) = true)
    (hq : (d.chan (chanNo die c)).queue = []) (hm : (d.chan (chanNo die c)).merging = []) :
    d.endFlush die c truncated = (d.setChanBit die 16 c false).raise (.die die) 5 := by
  simp only [Device.endFlush, hf, hq, hm, List.isEmpty_nil, Bool.not_true, Bool.false_and, Bool.or_self, Bool.false_eq_true, if_false]

/-- A flush that the merger holds up inside an item discards the item's words. -/
theorem Device.endFlush_truncated (hf : (d.word (Reg.DIE.CH_STATUS die.val)).getLsbD (16 + c) = true)
    (hq : (d.chan (chanNo die c)).queue = []) (hm : (d.chan (chanNo die c)).merging ≠ []) :
    d.endFlush die c true = (((((d.updChan (chanNo die c) fun x => { x with merging := [], dropping := false }).count
      (Reg.DIE.CNT_FLUSH_TRUNC die.val c)).raise (.die die) 6).setChanBit die 16 c false).raise (.die die) 5) := by
  have inside : (d.chan (chanNo die c)).merging.isEmpty = false := List.isEmpty_eq_false_iff.mpr hm
  simp only [Device.endFlush, hf, hq, inside, List.isEmpty_nil, Bool.not_true, Bool.not_false, Bool.and_false, Bool.or_self, Bool.false_eq_true, if_false,
    if_true]

/-! ### Restarts of channels (R148) -/

theorem effect_channelRestart {chans : BitVec 4} (hp : s.dev.pageOn (.die die) = true) :
    Effect (.channelRestart die chans) s ((chansOf chans).foldl (fun d c => d.restartChan die c) s.dev) :=
  Effect.of_run (show execChannelRestart die chans s = run _ s from rfl) (if_pos hp)

theorem Device.restartChan_down (hd : d.chanUp die c = false) :
    d.restartChan die c =
      (let e := (d.setChanBit die 0 c true).updChan (chanNo die c) fun x =>
         { x with wd := 0, restart := some d.clock, offered := !x.queue.isEmpty || !x.merging.isEmpty, delivered := false }
       e.setFld (Reg.DIE.CH_STATUS_REROUTED die.val) (e.rerouted die)) :=
  if_neg (hd ▸ Bool.false_ne_true)

/-- The time of a restart's check has come: the channel is no longer under test. -/
def Device.testOver (d : Device) (n : Die) (c t : Nat) : Device :=
  (d.waitUntil (t + Config.msCt)).updChan (chanNo n c) fun x => { x with restart := none }

/-- A channel fails its test if it has had an item to send and has delivered none, with its receiver's domain on. -/
def Device.silent (d : Device) (n : Die) (c : Nat) : Bool :=
  (d.chan (chanNo n c)).offered && !(d.chan (chanNo n c)).delivered && d.domOn 15

theorem Device.domOn_testOver (d : Device) (n : Die) (c t i : Nat) : (d.testOver n c t).domOn i = d.domOn i := by
  rw [Device.testOver, Device.domOn_updChan, Device.domOn_waitUntil]

theorem Device.chan_testOver (d : Device) (n : Die) (c t : Nat) :
    (d.testOver n c t).chan (chanNo n c) = { d.chan (chanNo n c) with restart := none } := by
  rw [Device.testOver, Device.chan_updChan_self, Device.chan_waitUntil]

theorem Device.silent_testOver (d : Device) (n : Die) (c t : Nat) : (d.testOver n c t).silent n c = d.silent n c := by
  rw [Device.silent, Device.domOn_testOver, Device.chan_testOver, Device.silent]

theorem effect_channelRestartCheck {t : Nat} (ht : (s.dev.chan (chanNo die chan.val)).restart = some t) :
    Effect (.channelRestartCheck die chan) s
      (if s.dev.silent die chan.val then (s.dev.testOver die chan.val t).chanDown die chan.val else s.dev.testOver die chan.val t) := by
  refine Effect.of_run (show execChannelRestartCheck die chan s = run _ s from rfl) ?_
  simp only [ht, ← Device.silent_testOver s.dev die chan.val t]
  rfl

theorem effect_channelRestartCheck_passes {t : Nat} (ht : (s.dev.chan (chanNo die chan.val)).restart = some t)
    (h : (s.dev.chan (chanNo die chan.val)).offered = false ∨ (s.dev.chan (chanNo die chan.val)).delivered = true ∨ s.dev.domOn 15 = false) :
    Effect (.channelRestartCheck die chan) s (s.dev.testOver die chan.val t) := by
  have passes : s.dev.silent die chan.val = false := by
    rcases h with h | h | h <;> simp only [Device.silent, h, Bool.not_true, Bool.false_and, Bool.and_false]
  have checked := effect_channelRestartCheck ht
  rwa [passes, if_neg Bool.false_ne_true] at checked

theorem effect_channelRestartCheck_fails {t : Nat} (ht : (s.dev.chan (chanNo die chan.val)).restart = some t)
    (ho : (s.dev.chan (chanNo die chan.val)).offered = true) (hd : (s.dev.chan (chanNo die chan.val)).delivered = false) (hon : s.dev.domOn 15 = true) :
    Effect (.channelRestartCheck die chan) s ((s.dev.testOver die chan.val t).chanDown die chan.val) := by
  have fails : s.dev.silent die chan.val = true := by simp only [Device.silent, ho, hd, hon, Bool.not_false, Bool.and_self]
  have checked := effect_channelRestartCheck ht
  rwa [fails, if_pos rfl] at checked

/-! ### Bands that are enabled again (R142) -/

/-- What follows a command moves only registers below the pages of the dies and fast-OR counters. -/
theorem plainReg_of_ge {a : Nat} (ha : 0x20000 ≤ a) (hf : a % 0x1000 ≠ 0x108) : plainReg a = true := by
  have hs : sharedReg a = false := Bool.eq_false_iff.mpr fun hs => (sharedReg_bound hs).elim (Nat.not_lt.mpr ha) hf
  have hl : a ≠ Reg.HLT.SERVICE_LEVEL := by unfold Reg.HLT.SERVICE_LEVEL; omega
  have hm : a ≠ Reg.SEC.SUMMARY := by unfold Reg.SEC.SUMMARY; omega
  simp only [plainReg, hs, Bool.not_false, bne_iff_ne.mpr hl, bne_iff_ne.mpr hm, Bool.and_self]

theorem plainReg_bandCtrl (die : Die) : plainReg (Reg.DIE.BAND_CTRL die.val) = true := by
  unfold Reg.DIE.BAND_CTRL Reg.DIE.base
  exact plainReg_of_ge (by omega) (by omega)

/-- A band whose bit a write sets again starts with a clean watchdog. -/
def BandSt.enable (x : BandSt) (set was : Bool) : BandSt := if set && !was then { x with wd := 0, failed := false } else x

/-- The bands below `k` as a write of BAND_CTRL leaves them, the register still as it was. -/
def Device.enableBands (d : Device) (n : Die) (data : W32) (k : Nat) : Device :=
  (List.range k).foldl (fun d b => d.updBand (n.val * 8 + b) fun x => x.enable (data.getLsbD b) ((d.word (Reg.DIE.BAND_CTRL n.val)).getLsbD b)) d

theorem Device.writeBandCtrl_eq (d : Device) (n : Die) (data : W32) :
    d.writeBandCtrl n data = (d.enableBands n data 8).setFld (Reg.DIE.BAND_CTRL_EN n.val) data.toNat := rfl

theorem Device.enableBands_succ (d : Device) (n : Die) (data : W32) (k : Nat) :
    d.enableBands n data (k + 1) = (d.enableBands n data k).updBand (n.val * 8 + k)
      fun x => x.enable (data.getLsbD k) (((d.enableBands n data k).word (Reg.DIE.BAND_CTRL n.val)).getLsbD k) := by
  simp only [Device.enableBands, List.range_succ, List.foldl_append, List.foldl_cons, List.foldl_nil]

theorem Device.word_enableBands (d : Device) (n : Die) (data : W32) (k a : Nat) : (d.enableBands n data k).word a = d.word a := by
  induction k with
  | zero => rfl
  | succ k ih => rw [Device.enableBands_succ, Device.word_updBand, ih]

theorem Device.band_enableBands (d : Device) (n : Die) (data : W32) (k b : Nat) :
    (d.enableBands n data k).band (n.val * 8 + b)
      = if b < k then (d.band (n.val * 8 + b)).enable (data.getLsbD b) ((d.word (Reg.DIE.BAND_CTRL n.val)).getLsbD b) else d.band (n.val * 8 + b) := by
  induction k with
  | zero => rfl
  | succ k ih =>
    rw [Device.enableBands_succ, Device.band_updBand, Device.word_enableBands]
    rcases Nat.lt_trichotomy b k with hlt | rfl | hgt
    · rw [if_neg (by omega), ih, if_pos hlt, if_pos (by omega)]
    · rw [if_pos rfl, ih, if_neg (Nat.lt_irrefl b), if_pos (Nat.lt_succ_self b)]
    · rw [if_neg (by omega), ih, if_neg (by omega), if_neg (by omega)]

theorem Frame.enableBands (h : Frame bs rs ps d e) {n : Die} {k : Nat} (hb : Block.arr ∈ bs) : Frame bs rs ps d (e.enableBands n data k) :=
  Frame.foldl _ h fun _ _ hd => hd.arr hb

theorem bandEnableWrite_completes (hq : s.dev.serviceRun = none) (hp : s.dev.pageOn (.die die) = true) :
    Completes (.bandEnableWrite die data) s fun d => Leaves [.arr] (regs [Reg.DIE.BAND_CTRL die.val]) [] s.dev d
      ∧ d.fld (Reg.DIE.BAND_CTRL_EN die.val) = data.toNat % 2 ^ (Reg.DIE.BAND_CTRL_EN die.val).width
      ∧ ∀ b, b < 8 → d.band (die.val * 8 + b)
        = (s.dev.band (die.val * 8 + b)).enable (data.getLsbD b) ((s.dev.word (Reg.DIE.BAND_CTRL die.val)).getLsbD b) := by
  have he : Effect (.bandEnableWrite die data) s (s.dev.writeBandCtrl die data) :=
    Effect.of_run (show execBandEnableWrite die data s = run _ s from rfl) (if_pos hp)
  rw [Device.writeBandCtrl_eq] at he
  refine he.completes [.arr] (regs [Reg.DIE.BAND_CTRL die.val]) [] hq (by decide)
    ((Frame.refl.enableBands (by decide)).setFld (.inl ?_)) fun t hs hl => ⟨hl, ?_, fun b hb => ?_⟩
  · simp only [regs, Reg.DIE.BAND_CTRL_EN, List.contains_cons, beq_self_eq_true, Bool.true_or]
  · rw [hs.fld (Reg.DIE.BAND_CTRL_EN die.val) rfl (plainReg_bandCtrl die), Device.fld_setFld_self _ _ _ (show 0 + 8 ≤ 32 by decide)]
  · rw [hs.band (by decide), Device.band_setFld, Device.band_enableBands, if_pos hb]

/-! ### Watchdog resets (R134, R141) -/

theorem Effect.handshakeWatchdogReset (place : WatchdogPlace) : Effect (.handshakeWatchdogReset place) s (s.dev.watchdog place) := rfl

theorem Device.watchdog_converter (hp : d.pageOn (pixPage (pixNo pix)) = true) (hr : (d.pixel (pixNo pix)).run = .firing)
    (hh : (d.conv (pixCluster (pixNo pix))).holder = some (pixNo pix)) :
    d.watchdog (.converter pix) = ((d.freeConv (pixCluster (pixNo pix))).updPixel (pixNo pix)
      fun p => { p with hit := { p.hit with wdFreed := true } }).regionWd pix.die (pixRegion (pixNo pix)) none := by
  simp only [Device.watchdog, hp, hr, hh, beq_self_eq_true, decide_true, Bool.and_self, if_true]

theorem Device.watchdog_pixel (ht : d.regionTakes pix.die (pixRegion (pixNo pix)) = true) (hr : (d.pixel (pixNo pix)).run = .waiting)
    (hn : (d.pixel (pixNo pix)).stuck < 7) (hf : (d.region (regNo pix.die (pixRegion (pixNo pix)))).fifo.length < 16) :
    d.watchdog (.pixel pix) = ((d.acceptFrom (pixNo pix)).regionWd pix.die (pixRegion (pixNo pix)) (some 0)).updPixel (pixNo pix)
      fun p => { p with stuck := (d.pixel (pixNo pix)).stuck + 1 } := by
  simp only [Device.watchdog, ht, hr, hf, beq_self_eq_true, decide_true, Bool.and_self, if_true, Nat.succ_lt_succ hn]

theorem Device.watchdog_fifo {entry : Fin 16} (hp : d.pageOn (.reg die region) = true) (he : entry.val < (d.region (regNo die region)).fifo.length)
    (hf : (d.region (regNo die region)).fifo.length < 16) (hn : (d.region (regNo die region)).wd < 7) :
    d.watchdog (.fifo die region entry) = (((d.updRegion (regNo die region)
      fun r => { r with fifo := r.fifo.eraseIdx entry.val, wd := r.wd + 1 }).regionWd die region (some 1)).regionLevel die region) := by
  simp only [Device.watchdog, hp, he, hf, decide_true, Bool.and_self, if_true, (Nat.succ_lt_succ hn).ne, if_false]

/-- A hit that a band's bus drops is owed as a LOSS item of its region. -/
theorem Device.watchdog_band {band : Fin 8} {h : RawHit} (hp : d.pageOn (.die die) = true) (ho : (d.band (bandNo die band)).out = some (.hit h))
    (hr : d.busRoom die band.val (.hit h) = true) (hn : (d.band (bandNo die band)).wd < 7) :
    d.watchdog (.band die band) = ((((d.updBand (bandNo die band)
      fun x => { x with out := none, owed := x.owed ++ [16 * (h.row.toNat / 32) + h.col.toNat / 32], wd := x.wd + 1 }).upset
        Reg.HLT.UPS_WD).count (Reg.DIE.CNT_BAND_WD die.val band.val)).raise (.die die) 1) := by
  simp only [Device.watchdog, ho, hp, hr, Bool.not_true, Bool.or_self, Bool.false_eq_true, if_false, Nat.succ_lt_succ hn, if_true]

/-- The item at the head is whole in the queue: the merger is not inside it and goes on as it was. -/
theorem Device.watchdog_channel (hp : d.pageOn (.die die) = true) (hon : d.domOn 15 = true) (hu : d.chanUp die chan.val = true)
    (hr : rxWords (d.rx (chanNo die chan.val)) < 64) (hq : (d.chan (chanNo die chan.val)).queue ≠ [])
    (hw : (headItem (d.chan (chanNo die chan.val)).queue).any (fun w => wordLast w) = true) (hn : (d.chan (chanNo die chan.val)).wd < 7) :
    d.watchdog (.channel die chan) =
      (((((d.upset Reg.HLT.UPS_WD).updChan (chanNo die chan.val) fun x => { x with queue := x.queue.drop (headItem x.queue).length, wd := x.wd + 1 }).updRx
        (chanNo die chan.val) fun x => { x with prog := [], skipping := false }).rxDiscard (chanNo die chan.val)).chanLevel die chan.val) := by
  simp only [Device.watchdog, List.isEmpty_eq_false_iff.mpr hq, hp, hon, hu, Nat.not_le.mpr hr, hw, Nat.succ_lt_succ hn, Bool.not_true, Bool.not_false,
    Bool.and_true, decide_false, Bool.or_self, Bool.false_eq_true, if_false, if_true]

/-! ### The flow-control pins (R126, R127) -/

/-- Both pins are asserted in S0, and while the combiner has no power (log 109). -/
theorem Device.pinNow_forced (h : d.fld Reg.HLT.SERVICE_LEVEL_LEVEL = 0 ∨ d.domOn 4 = false) (src : Nat) (was : Bool) (since : Nat) :
    d.pinNow src was since = true := by
  refine if_pos ?_
  rcases h with h | h <;> simp only [h, decide_true, Bool.not_false, Bool.true_or, Bool.or_true]

/-- Otherwise a pin follows its selected sources, and stays asserted for 50 ns. -/
theorem Device.pinNow_follows (hl : d.fld Reg.HLT.SERVICE_LEVEL_LEVEL ≠ 0) (hd : d.domOn 4 = true) (src : Nat) (was : Bool) (since : Nat) :
    d.pinNow src was since = ((d.word src).toNat &&& d.flowSources != 0 || (was && decide (d.clock < since + 64))) := by
  simp only [Device.pinNow, hl, hd, decide_false, Bool.not_true, Bool.or_self, Bool.false_eq_true, if_false]
  split
  · next active => rw [bne_iff_ne.mpr active, Bool.true_or]
  · next idle => rw [Decidable.not_not.mp idle, bne_self_eq_false, Bool.false_or]

theorem flowControlPinUpdate_completes (hq : s.dev.serviceRun = none) :
    Completes .flowControlPinUpdate s fun d => Leaves [.arr] (regs []) [] s.dev d
      ∧ d.arr.busy = s.dev.pinNow Reg.EVB.FC_BUSY_SRC s.dev.arr.busy s.dev.arr.busySince
      ∧ d.arr.warn = s.dev.pinNow Reg.EVB.FC_WARN_SRC s.dev.arr.warn s.dev.arr.warnSince := by
  have he : Effect .flowControlPinUpdate s s.dev.updatePins := rfl
  refine he.completes [.arr] (regs []) [] hq (by decide) (Frame.refl.arr (by decide)) fun t hs hl => ?_
  rw [hs.arr (by decide)]
  exact ⟨hl, rfl, rfl⟩

/-- Settles O10: the effect of each command of the channels, the watchdogs and the pins where its hypotheses hold. -/
theorem channelsAndFlowControl : Obligations.ChannelsAndFlowControl := by
  unfold Obligations.ChannelsAndFlowControl
  refine ⟨fun _ _ _ _ _ => effect_channelMerge_whole, fun _ _ _ _ _ => effect_channelMerge_first, ?crossLast, ?crossInside, ?crossDamaged, ?flushDown,
    fun _ _ _ => effect_channelFlush, ?flushEnds, ?flushTruncates, ?restartDown, fun _ _ _ => effect_channelRestart,
    fun _ _ _ _ => effect_channelRestartCheck_passes, fun _ _ _ _ => effect_channelRestartCheck_fails, fun _ _ _ => bandEnableWrite_completes,
    fun _ _ hp hr hh => Device.watchdog_converter hp hr hh ▸ Effect.handshakeWatchdogReset _,
    fun _ _ ht hr hn hf => Device.watchdog_pixel ht hr hn hf ▸ Effect.handshakeWatchdogReset _,
    fun _ _ _ _ hp he hf hn => Device.watchdog_fifo hp he hf hn ▸ Effect.handshakeWatchdogReset _,
    fun _ _ _ _ hp ho hr hn => Device.watchdog_band hp ho hr hn ▸ Effect.handshakeWatchdogReset _,
    fun _ _ _ hp hon hu hr hq hw hn => Device.watchdog_channel hp hon hu hr hq hw hn ▸ Effect.handshakeWatchdogReset _, ?pinsForced, ?pinsFollow⟩
  case crossLast =>
    intro s die chan arrived w rest h15 hper hdie hup hroom hhead hw
    exact Device.sendWord_last hw ▸ effect_d2dWordReceive ⟨h15, hper, hdie, hup, hroom, hhead⟩ .ok
  case crossInside =>
    intro s die chan arrived w rest h15 hper hdie hup hroom hhead hw
    exact Device.sendWord_inside hw ▸ effect_d2dWordReceive ⟨h15, hper, hdie, hup, hroom, hhead⟩ .ok
  case crossDamaged =>
    intro s die chan arrived w rest h15 hper hdie hup hroom hhead hw hk
    exact Device.sendWord_inside hw ▸ effect_d2dWordReceive_uncorrectable ⟨h15, hper, hdie, hup, hroom, hhead⟩ hk
  case flushDown =>
    intro s die hp hf hd
    have flushed := effect_channelFlush (chans := 1) hp
    rwa [chansOf_one, List.foldl_cons, List.foldl_nil, Device.startFlush_down hf hd] at flushed
  case flushEnds => exact fun s die chan hp hf hq hm => Device.endFlush_outside hf hq hm ▸ Effect.channelFlushDone hp
  case flushTruncates => exact fun s die chan hp hf hq hm => Device.endFlush_truncated hf hq hm ▸ Effect.channelFlushDone hp
  case restartDown =>
    intro s die hp hd
    have restarted := effect_channelRestart (chans := 1) hp
    rwa [chansOf_one, List.foldl_cons, List.foldl_nil, Device.restartChan_down hd] at restarted
  case pinsForced =>
    intro s hq hforced
    have updated := flowControlPinUpdate_completes hq
    simpa only [Device.pinNow_forced hforced] using updated
  case pinsFollow =>
    intro s hq hlevel hon
    have updated := flowControlPinUpdate_completes hq
    simpa only [Device.pinNow_follows hlevel hon] using updated

end Sys2Proof.Machine
end

section
/-! PROOFS. After every step the device is settled (O54). -/

namespace Sys2Proof.Machine

variable {d e : Device} {a : Nat}

/-! ### Alarms (R517) -/

/-- An entry of the audit log leaves the alarms that wait. -/
theorem Device.alarms_audit (d : Device) (k r y z x : Nat) (w : W32) : (d.audit k r y z x w).sec.alarms = d.sec.alarms := by
  have hsame : Block.alarms.same d (d.audit k r y z x w) :=
    (Frame.audit (bs := []) (rs := fun _ => false) (ps := []) Frame.refl).blocks .alarms (by decide)
  exact hsame.1

/-- Once the policies are applied no alarm waits. -/
theorem Device.alarms_applyPolicies (d : Device) : d.applyPolicies.sec.alarms = [] := by
  unfold Device.applyPolicies
  split
  · assumption
  · dsimp only
    split
    · rfl
    · split
      · split
        · rfl
        · exact Device.alarms_audit _ _ _ _ _ _ _
      · rfl

theorem Device.alarms_settleLevel (d : Device) : d.settleLevel.sec.alarms = d.sec.alarms :=
  ((Frame.settleLevel (bs := []) (rs := fun b => b == Reg.HLT.SERVICE_LEVEL) (ps := []) Frame.refl (by decide)).blocks .alarms (by decide)).1

/-! ### The service level (R560) -/

/-- The service level is 0, or 2 exactly when no condition of S2 is missing, and 1 otherwise. -/
def LevelFits (d : Device) : Prop :=
  d.fld Reg.HLT.SERVICE_LEVEL_LEVEL = 0 ∨ d.fld Reg.HLT.SERVICE_LEVEL_LEVEL = if d.missing = 0 then 2 else 1

theorem Device.levelFits_settleLevel (d : Device) : LevelFits d.settleLevel := by
  unfold Device.settleLevel
  dsimp only
  split
  · next hzero => exact .inl hzero
  · split
    · next hmissing =>
      obtain ⟨hlevel, hsame⟩ := d.setLevel_spec 2 (by decide)
      exact .inr (by rw [hlevel, hsame, if_pos hmissing])
    · next hmissing =>
      obtain ⟨hlevel, hsame⟩ := d.setLevel_spec 1 (by decide)
      exact .inr (by rw [hlevel, hsame, if_neg hmissing])

/-- What moves only the registers of a command's follow-up leaves the service level as it should be. -/
theorem LevelFits.of_frame (h : LevelFits d) (hf : Frame [] (fun _ => false) [] d e) : LevelFits e := by
  have hl : e.fld Reg.HLT.SERVICE_LEVEL_LEVEL = d.fld Reg.HLT.SERVICE_LEVEL_LEVEL := hf.fld _ rfl (by decide)
  have hm : e.missing = d.missing := Device.missing_congr (fun a hs _ => hf.words a rfl hs) hf.part (hf.blocks .pwr List.not_mem_nil)
  unfold LevelFits
  rw [hl, hm]
  exact h

/-! ### ADCs (R155) -/

/-- Whether an ADC that goes on as it was may run does not depend on what follows a command. -/
theorem Frame.wadcRuns (hf : Frame [] (fun _ => false) [] d e) (ha : a < 32) (hw : e.wadc a = d.wadc a) : e.wadcRuns a = d.wadcRuns a := by
  obtain ⟨henable, hpage, hdrain⟩ := sharedReg_wadc a ha
  have hl : e.fld Reg.HLT.SERVICE_LEVEL_LEVEL = d.fld Reg.HLT.SERVICE_LEVEL_LEVEL := hf.fld _ rfl (by decide)
  have ht : e.flag Reg.TIM0.STATUS_TREF_PRESENT = d.flag Reg.TIM0.STATUS_TREF_PRESENT := hf.flag _ rfl (by decide)
  simp only [Device.wadcRuns, Device.wadcWanted, hw, hl, ht, hf.words _ rfl henable, hf.pageOn List.not_mem_nil rfl rfl,
    hf.flag (fEnable (convPage a)) rfl hpage, hf.flag (fAbort (convPage a)) rfl hpage, hf.flag (fDraining (convPage a)) rfl hdrain]

/-- An ADC that runs after what follows a command ran before it, with the same state. -/
theorem Frame.wadc_running (hf : Frame [] (fun _ => false) [] d e) (hr : (e.wadc a).running = true) : e.wadc a = d.wadc a := by
  rcases hf.blocks .wadcs List.not_mem_nil a with hw | hw
  · exact hw
  · rw [hw] at hr
    exact absurd hr Bool.false_ne_true

/-- After the halt and what follows it, no ADC runs that may not. -/
theorem Device.wadcRuns_settleOut {l : Device} (ha : a < 32)
    (hr : ((l.haltAdcs (fun a => !l.wadcRuns a) false).settleOut.wadc a).running = true) :
    (l.haltAdcs (fun a => !l.wadcRuns a) false).settleOut.wadcRuns a = true := by
  have hout : Frame [] (fun _ => false) [] (l.haltAdcs (fun a => !l.wadcRuns a) false) _ := Frame.refl.settleOut
  have hall : Frame [] (fun _ => false) [] l _ := (Frame.refl.haltAdcs (which := fun a => !l.wadcRuns a)).settleOut
  have hhalted : ((l.haltAdcs (fun a => !l.wadcRuns a) false).wadc a).running = true := hout.wadc_running hr ▸ hr
  rw [hall.wadcRuns ha (hall.wadc_running hr)]
  exact l.wadcRuns_of_halted a hhalted

/-! ### The device after a step -/

/-- What follows every command settles any device: the alarms and the level first, then the ADCs, and the delivery last. -/
theorem Device.settled_settle (d : Device) : Settled d.settle := by
  rw [Device.settle_eq]
  dsimp only
  have hlevel : LevelFits d.watchService.applyPolicies.settleLevel := Device.levelFits_settleLevel _
  have halarms : d.watchService.applyPolicies.settleLevel.sec.alarms = [] :=
    (Device.alarms_settleLevel _).trans (Device.alarms_applyPolicies _)
  generalize d.watchService.applyPolicies.settleLevel = l at hlevel halarms
  have hframe : Frame [] (fun _ => false) [] l (l.haltAdcs (fun a => !l.wadcRuns a) false).settleOut := Frame.refl.haltAdcs.settleOut
  obtain ⟨hsources, hirq, hinta, hmessages, hpending⟩ : Delivered (l.haltAdcs (fun a => !l.wadcRuns a) false).settleOut :=
    Device.deliver_delivered _
  exact ⟨hsources, hirq, hinta, hmessages, hpending, (hframe.blocks .alarms List.not_mem_nil).1.trans halarms, hlevel.of_frame hframe,
    fun _ => Device.wadcRuns_settleOut⟩

/-- An effect answers the device that it makes, settled. -/
theorem run_dev {f : Device → Device} {s t : State} (h : run f s = .next t) : t.dev = (f s.dev).settle := by
  rw [← Host.Outcome.next.inj h]

/-- A step answers what follows an effect: that of the front command, or a tick. -/
theorem step_settles {s t : State} (h : step s = .next t) : ∃ e : Device, t.dev = e.settle := by
  unfold step at h
  split at h
  · exact ⟨_, run_dev h⟩
  · next c rest _ =>
    obtain ⟨f, hf⟩ := exec_eq_run c { s with pending := rest }
    exact ⟨_, run_dev (hf.symm.trans h)⟩

/-- Settles O54: a step ends in `settle`, which settles any device. -/
theorem everyStepSettles : Obligations.EveryStepSettles := by
  unfold Obligations.EveryStepSettles
  intro s t hstep
  obtain ⟨e, he⟩ := step_settles hstep
  rw [he]
  exact e.settled_settle

end Sys2Proof.Machine
end

section
/-! PROOFS. Samples, sequences and injected conversions of the waveform ADCs (O15). -/

namespace Sys2Proof.Machine

variable {d : Device} {s : State} {a : Nat} {die : Die} {adc : Fin 8} {raw : BitVec 12} {data : W32}

/-! ### Samples (R155, R157) -/

theorem Effect.adcSample (parity : Bool) : Effect (.adcSample die adc raw parity) s (s.dev.adcSample (adcNo die adc) raw parity) := rfl

/-- A running ADC of the part delivers the word of its sampling edge. -/
theorem Device.adcSample_runs (hd : d.hasDie (a / 8) = true) (hr : d.wadcRuns a = true) (parity : Bool) :
    d.adcSample a raw parity = ((d.wadcBegin a).sampleEdge a raw).1.sampleArrives a ((d.wadcBegin a).sampleEdge a raw).2 parity := by
  simp only [Device.adcSample, hd, hr, Bool.not_true, Bool.false_eq_true, if_false, if_true]

/-- One that may not run stops. -/
theorem Device.adcSample_stopped (hd : d.hasDie (a / 8) = true) (hr : d.wadcRuns a = false) (parity : Bool) :
    d.adcSample a raw parity = d.updWadc a fun w => { w with running := false } := by
  simp only [Device.adcSample, hd, hr, Bool.not_true, Bool.false_eq_true, if_false]

/-- A sample word in order is tagged, streamed and tested as it is. -/
theorem Device.sampleArrives_sound (d : Device) (a : Nat) (w : W32) :
    d.sampleArrives a w false =
      ((d.tapSample a w).streamAll a w).maskSample a (w.toNat / 2 ^ 18 % 32) (w.getLsbD 31) (w.extractLsb' 0 16).toInt (d.tapSample a w).tim.count.toNat := rfl

/-- One with a parity error is counted, raises event 5 and goes on as an invalid sample of REASON 7. -/
theorem Device.sampleArrives_damaged (d : Device) (a : Nat) (w : W32) :
    d.sampleArrives a w true =
      ((d.count (Reg.WADC.WADC_CNT_LINK (a / 8))).raise (convPage a) 5).sampleArrives a (0x70000000#32 ||| (w &&& 0x0FFF0000#32)) false := rfl

/-! ### Sequences (R159, R160) -/

theorem Effect.wadcSeqStart : Effect (.wadcSeqStart die adc) s (s.dev.seqStart (adcNo die adc)) := rfl

/-- START loads entry 0 of a once-sequence that has ended. -/
theorem Device.seqStart_ended (hr : ((d.wadcBegin a).wadc a).running = true) (he : ((d.wadcBegin a).wadc a).ended = true)
    (ho : (d.wadcBegin a).wadcOnce a = true) : d.seqStart a = (d.wadcBegin a).loadEntry a 0 false := by
  simp only [Device.seqStart, hr, he, ho, Bool.and_self, if_true]

/-- An entry whose dwell is over hands on. -/
theorem effect_wadcEntryEnd (hr : (s.dev.wadc (adcNo die adc)).running = true) (he : (s.dev.wadc (adcNo die adc)).ended = false)
    (hd : (s.dev.wadc (adcNo die adc)).dwell = 0) : Effect (.wadcEntryEnd die adc) s (s.dev.entryEnd (adcNo die adc)) := by
  refine Effect.of_run (show execWadcEntryEnd die adc s = run _ s from rfl) (if_pos ?_)
  simp only [hr, he, hd, Bool.not_false, Bool.and_self, decide_true]

/-! ### Injected conversions (R161) -/

/-- A request of an ADC that has none takes the channel, gain and count of WADC_INJ. -/
theorem Device.requestInj_free (h : (d.wadc a).inj = none) (triggered : Bool) :
    d.requestInj a triggered = d.updWadc a fun w =>
      { w with inj := some { chan := d.fld (Reg.WADC.WADC_INJ_CHAN (a / 8) (a % 8)), gain := d.fld (Reg.WADC.WADC_INJ_GAIN (a / 8) (a % 8))
                             left := if d.fld (Reg.WADC.WADC_INJ_COUNT (a / 8) (a % 8)) = 0 then 256 else d.fld (Reg.WADC.WADC_INJ_COUNT (a / 8) (a % 8))
                             triggered := triggered } } := by
  simp only [Device.requestInj, h, Option.isSome_none, Bool.false_eq_true, if_false]

/-- One that finds another is counted and raises event 2. -/
theorem Device.requestInj_refused (h : (d.wadc a).inj.isSome = true) (triggered : Bool) :
    d.requestInj a triggered = (d.count (Reg.WADC.WADC_CNT_INJ_REFUSED (a / 8))).raise (convPage a) 2 := by
  simp only [Device.requestInj, h, if_true]

/-- A write of WADC_INJ keeps its fields; its START asks for a conversion of an enabled page. -/
theorem effect_wadcInjRequest (hp : s.dev.pageOn (.conv die) = true) :
    Effect (.wadcInjRequest die adc data) s (s.dev.writeInj die adc data) :=
  Effect.of_run (show execWadcInjRequest die adc data s = run _ s from rfl) (if_pos hp)

theorem Device.writeInj_idle (h : data.getLsbD 31 = false) :
    d.writeInj die adc data = d.setWord (Reg.WADC.WADC_INJ die.val adc.val) (data &&& 0x00FF031F#32) := by
  simp only [Device.writeInj, h, Bool.false_and, Bool.false_eq_true, if_false]

theorem Device.writeInj_requests (h : data.getLsbD 31 = true)
    (he : (d.setWord (Reg.WADC.WADC_INJ die.val adc.val) (data &&& 0x00FF031F#32)).enabled (.conv die) = true) :
    d.writeInj die adc data = (d.setWord (Reg.WADC.WADC_INJ die.val adc.val) (data &&& 0x00FF031F#32)).requestInj (adcNo die adc) false := by
  simp only [Device.writeInj, h, he, Bool.and_self, if_true]

/-! ### Start lines (R162, R177) -/

/-- The ADCs that a start line names are asked for an injected conversion 16 CT after it was asserted. -/
theorem effect_wadcTriggerStart {line : Fin 4} {l : Fin 4 × Nat} (h : (s.dev.trg.lines.find? fun l => l.1 = line) = some l) :
    Effect (.wadcTriggerStart line) s
      (let d := { s.dev with trg := { s.dev.trg with lines := s.dev.trg.lines.erase l } }
       let d := if s.dev.flag Reg.MON.MON_CTRL_LINE_EN && s.dev.fld Reg.MON.MON_CTRL_LINE = line.val then d.monStart else d
       let d := d.advanceTo (BitVec.ofNat 58 (l.2 + 16))
       (List.range 32).foldl (fun (d : Device) (a : Nat) =>
         if d.enabled (convPage a) && d.fld (Reg.WADC.WADC_TRIG_LINE (a / 8)) = line.val && (d.word (Reg.WADC.WADC_TRIG (a / 8))).getLsbD (a % 8) then
           d.requestInj a true
         else d) d) := by
  refine Effect.of_run (show execWadcTriggerStart line s = run _ s from rfl) ?_
  simp only [h]
  rfl

/-- Settles O15: the effect of each command where its hypotheses hold. -/
theorem waveformAdcSamplesAndStarts : Obligations.WaveformAdcSamplesAndStarts := by
  unfold Obligations.WaveformAdcSamplesAndStarts
  refine ⟨?sample, ?damaged, ?stopped, ?started, fun _ _ _ => effect_wadcEntryEnd, ?idle, ?requested, ?refused, fun _ _ _ => effect_wadcTriggerStart⟩
  case sample =>
    intro s die adc raw hd hr
    have arrives : Effect (.adcSample die adc raw false) s _ := Effect.adcSample false
    rwa [Device.adcSample_runs hd hr, Device.sampleArrives_sound] at arrives
  case damaged =>
    intro s die adc raw hd hr
    have arrives : Effect (.adcSample die adc raw true) s _ := Effect.adcSample true
    rwa [Device.adcSample_runs hd hr, Device.sampleArrives_damaged, Device.sampleArrives_sound] at arrives
  case stopped => exact fun s die adc raw parity hd hr => Device.adcSample_stopped hd hr parity ▸ Effect.adcSample parity
  case started => exact fun s die adc hr he ho => Device.seqStart_ended hr he ho ▸ Effect.wadcSeqStart
  case idle => exact fun s die adc data hp hs => Device.writeInj_idle hs ▸ effect_wadcInjRequest hp
  case requested =>
    intro s die adc data d hd hp hs he hi
    subst hd
    exact Device.requestInj_free hi false ▸ Device.writeInj_requests hs he ▸ effect_wadcInjRequest hp
  case refused =>
    intro s die adc data d hd hp hs he hi
    subst hd
    exact Device.requestInj_refused hi false ▸ Device.writeInj_requests hs he ▸ effect_wadcInjRequest hp

end Sys2Proof.Machine
end

section
/-! PROOFS. Calibrations of the waveform ADCs and the coefficient window (O16). -/

namespace Sys2Proof.Machine

variable {bs : List Block} {rs : Nat → Bool} {ps : List Page} {d e : Device} {s : State} {a i cmd : Nat} {die : Die} {adc : Fin 8}
  {route : Route} {data : W32} {c : WadcCal}

/-! ### What a calibration command asks for (R163, R167, R168) -/

/-- The calibration that WADC_CAL asks of an ADC: 2^NLOG conversions for NLOG 4 to 12, 1,024 otherwise. -/
def Device.calAsked (d : Device) (a cmd : Nat) : WadcCal :=
  { cmd := cmd
    gain := d.fld (Reg.WADC.WADC_CAL_GAIN (a / 8) (a % 8))
    chan := d.fld (Reg.WADC.WADC_CAL_CHAN (a / 8) (a % 8))
    n := 2 ^ (if 4 ≤ d.fld (Reg.WADC.WADC_CAL_NLOG (a / 8) (a % 8)) ∧ d.fld (Reg.WADC.WADC_CAL_NLOG (a / 8) (a % 8)) ≤ 12
      then d.fld (Reg.WADC.WADC_CAL_NLOG (a / 8) (a % 8)) else 10)
    peak := cmd = 3 && d.flag (Reg.WADC.WADC_CAL_PEAK (a / 8) (a % 8)) }

/-- A SYS_ZERO of this gain and channel has been taken. -/
def Device.calZeroed (d : Device) (a : Nat) (c : WadcCal) : Bool := (d.wadc a).zero.any fun z => z.1 = c.gain && z.2.1 = c.chan

/-- The step that WADC_CAL asks for can be done: SELF always, a system step on channels 0 to 16 only, SYS_FULL after its SYS_ZERO. -/
def Device.calAllowed (d : Device) (a : Nat) (c : WadcCal) : Bool := c.cmd == 1 || (decide (c.chan ≤ 16) && (c.cmd != 3 || d.calZeroed a c))

/-- A step that can be done is requested of an ADC that has none. -/
theorem Device.requestCal_free (hfree : ((d.calOutcome a).wadc a).cal = none)
    (hok : (d.calOutcome a).calAllowed a ((d.calOutcome a).calAsked a cmd) = true) :
    d.requestCal a cmd = (d.calOutcome a).updWadc a fun w => { w with cal := some ((d.calOutcome a).calAsked a cmd) } := by
  have hbusy : ¬((d.calOutcome a).wadc a).cal.isSome = true := by rw [hfree]; exact Bool.false_ne_true
  refine (if_neg hbusy).trans (if_neg fun hrefused => ?_)
  simp only [Bool.and_eq_true, Bool.or_eq_true, bne_iff_ne, ne_eq, decide_eq_true_eq, Bool.not_eq_true'] at hrefused
  simp only [Device.calAllowed, Device.calZeroed, Device.calAsked, Bool.or_eq_true, Bool.and_eq_true, beq_iff_eq, bne_iff_ne, ne_eq] at hok
  obtain ⟨hcmd, hbad⟩ := hrefused
  obtain ⟨hchan, hzero⟩ := hok.resolve_left hcmd
  rcases hbad with hhigh | ⟨hfull, hnone⟩
  · exact absurd (of_decide_eq_true hchan) (Nat.not_le.mpr hhigh)
  · exact Bool.false_ne_true (hnone.symm.trans (hzero.resolve_left fun h => h hfull))

/-- One that finds another is counted and raises event 3 (R163). -/
theorem Device.requestCal_refused (h : ((d.calOutcome a).wadc a).cal.isSome = true) :
    d.requestCal a cmd = ((d.calOutcome a).count (Reg.WADC.WADC_CNT_CAL_REFUSED (a / 8))).raise (convPage a) 3 :=
  if_pos h

/-! ### The command written to WADC_CAL (R172) -/

theorem Effect.wadcCalSelf : Effect (.wadcCalSelf die adc data) s (s.dev.calCommand die adc data 1) := rfl
theorem Effect.wadcCalSysZero : Effect (.wadcCalSysZero die adc data) s (s.dev.calCommand die adc data 2) := rfl
theorem Effect.wadcCalSysFull : Effect (.wadcCalSysFull die adc data) s (s.dev.calCommand die adc data 3) := rfl

/-- The device with the fields of a calibration command. -/
def Device.calWritten (d : Device) (die : Die) (adc : Fin 8) (data : W32) : Device :=
  d.setWord (Reg.WADC.WADC_CAL die.val adc.val) (data &&& 0x1F1F0300#32)

theorem Device.calCommand_requests (hp : d.pageOn (.conv die) = true) (he : (d.calWritten die adc data).enabled (.conv die) = true) :
    d.calCommand die adc data cmd = (d.calWritten die adc data).requestCal (adcNo die adc) cmd :=
  (if_pos hp).trans (if_pos he)

/-- A command that can be done, of an enabled page: the ADC is asked for the calibration. -/
theorem Device.calCommand_free (hp : d.pageOn (.conv die) = true) (he : (d.calWritten die adc data).enabled (.conv die) = true)
    (hc : e = (d.calWritten die adc data).calOutcome (adcNo die adc)) (hfree : (e.wadc (adcNo die adc)).cal = none)
    (hok : e.calAllowed (adcNo die adc) (e.calAsked (adcNo die adc) cmd) = true) :
    d.calCommand die adc data cmd = e.updWadc (adcNo die adc) fun w => { w with cal := some (e.calAsked (adcNo die adc) cmd) } := by
  subst hc
  rw [Device.calCommand_requests hp he, Device.requestCal_free hfree hok]

theorem Device.calCommand_refused (hp : d.pageOn (.conv die) = true) (he : (d.calWritten die adc data).enabled (.conv die) = true)
    (hc : e = (d.calWritten die adc data).calOutcome (adcNo die adc)) (hbusy : (e.wadc (adcNo die adc)).cal.isSome = true) :
    d.calCommand die adc data cmd = (e.count (Reg.WADC.WADC_CNT_CAL_REFUSED (adcNo die adc / 8))).raise (convPage (adcNo die adc)) 3 := by
  subst hc
  rw [Device.calCommand_requests hp he, Device.requestCal_refused hbusy]

/-! ### How a calibration step ends (R167-R169) -/

theorem Effect.wadcCalDone : Effect (.wadcCalDone die adc) s (s.dev.calOutcome (adcNo die adc)) := rfl

@[simp] theorem Device.wadc_updWadc_self (d : Device) (a : Nat) (f : WadcSt → WadcSt) : (d.updWadc a f).wadc a = f (d.wadc a) :=
  SMap.get_upd_self _ _ _ _

/-- The device once the outcome of an ADC's calibration is taken. -/
def Device.calTaken (d : Device) (a : Nat) : Device := d.updWadc a fun w => { w with calDone := none }

/-- A step that failed shows its code. -/
theorem Device.calOutcome_failed (h : (d.wadc a).calDone = some c) (hf : c.fail ≠ 0) : d.calOutcome a = (d.calTaken a).calStatus a c.fail false := by
  simp only [Device.calOutcome, h, bne_iff_ne.mpr hf, if_true]
  rfl

theorem Device.calOutcome_self (h : (d.wadc a).calDone = some c) (hf : c.fail = 0) (hc : c.cmd = 1) : d.calOutcome a = (d.calTaken a).selfOutcome a c := by
  simp only [Device.calOutcome, h, hf, hc, bne_self_eq_false, Bool.false_eq_true, if_false, if_true]
  rfl

/-- SYS_ZERO keeps its sum with its gain and channel, and shows its average. -/
theorem Device.calOutcome_zero (h : (d.wadc a).calDone = some c) (hf : c.fail = 0) (hc : c.cmd = 2) :
    d.calOutcome a = (((d.calTaken a).updWadc a fun w => { w with zero := some (c.gain, c.chan, c.sums.getD 0 0, c.n) }).calShow a
      (some (roundDiv (c.sums.getD 0 0) c.n)) none none).calStatus a 0 false := by
  simp only [Device.calOutcome, h, hf, hc, bne_self_eq_false, Bool.false_eq_true, if_false, if_true, OfNat.ofNat_ne_one]
  rfl

/-- SYS_FULL computes its coefficients with the sum that SYS_ZERO kept. -/
theorem Device.calOutcome_full {gain chan n0 : Nat} {s0 : Int} (h : (d.wadc a).calDone = some c) (hf : c.fail = 0) (hc : c.cmd = 3)
    (hz : (d.wadc a).zero = some (gain, chan, s0, n0)) : d.calOutcome a = (d.calTaken a).fullOutcome a c s0 n0 := by
  simp only [Device.calOutcome, h, hf, hc, hz, bne_self_eq_false, Bool.false_eq_true, if_false, Device.wadc_updWadc_self, OfNat.ofNat_ne_one,
    Nat.reduceEqDiff]
  rfl

/-! ### The coefficient window (R183, R184) -/

theorem Device.coef_setCoef_self {w : BitVec 16} (h : coefUsed i = true) : (d.setCoef i w).coef i = w := by
  simp only [Device.coef, Device.setCoef, h, if_true, SMap.get_set_self]

theorem Device.coef_setCoef_ne {w : BitVec 16} {j : Nat} (h : j ≠ i) : (d.setCoef i w).coef j = d.coef j := by
  unfold Device.setCoef
  split
  · simp only [Device.coef, SMap.get_set_ne _ _ _ h]
  · rfl

theorem Device.coef_congr (h : e.sea = d.sea) (i : Nat) : e.coef i = d.coef i := by simp only [Device.coef, h]

theorem Device.sea_stepCoef (d : Device) : d.stepCoef.sea = d.sea := by
  unfold Device.stepCoef; split <;> rfl

/-- INDEX steps by one with AUTOINC, and stays without. -/
theorem Device.fld_index_stepCoef (d : Device) :
    d.stepCoef.fld Reg.COEF.COEF_ADDR_INDEX
      = (d.fld Reg.COEF.COEF_ADDR_INDEX + (d.flag Reg.COEF.COEF_ADDR_AUTOINC).toNat) % 2 ^ Reg.COEF.COEF_ADDR_INDEX.width := by
  cases ha : d.flag Reg.COEF.COEF_ADDR_AUTOINC with
  | true =>
    rw [Device.stepCoef, if_pos ha]
    exact Device.fld_setFld_self _ _ _ (by decide)
  | false =>
    rw [Device.stepCoef, if_neg (Bool.eq_false_iff.mp ha)]
    exact (Nat.mod_eq_of_lt (Fld.of_lt _ _)).symm

theorem Frame.setCoef (h : Frame bs rs ps d e) {w : BitVec 16} (hb : Block.sea ∈ bs) : Frame bs rs ps d (e.setCoef i w) :=
  Frame.ite (fun _ => h.sea hb) fun _ => h

theorem Frame.stepCoef (h : Frame bs rs ps d e) (hr : rs Reg.COEF.COEF_ADDR = true) : Frame bs rs ps d e.stepCoef :=
  Frame.ite (fun _ => h.setFld (.inl hr)) fun _ => h

/-- The registers do not hold the coefficients. -/
theorem Device.regs_setCoef (d : Device) (i : Nat) (w : BitVec 16) : (d.setCoef i w).regs = d.regs := by
  unfold Device.setCoef; split <;> rfl

/-- In UNSEALED a write of COEF_DATA stores the coefficient at INDEX. -/
theorem Device.writeCoef_unsealed {k : Nat} (hc : coefUsed (d.fld Reg.COEF.COEF_ADDR_INDEX) = true) (hu : d.unsealed = true) :
    d.writeCoef k data = (d.setCoef (d.fld Reg.COEF.COEF_ADDR_INDEX) (data.setWidth 16)).stepCoef := by
  simp only [Device.writeCoef, hc, hu, Bool.not_true, Bool.false_eq_true, if_false, if_true]

theorem coefDataWrite_completes (hq : s.dev.serviceRun = none) (hp : s.dev.pageOn .coef = true)
    (hc : coefUsed (s.dev.fld Reg.COEF.COEF_ADDR_INDEX) = true) (hu : s.dev.unsealed = true) :
    Completes (.coefDataWrite route data) s fun d => Leaves [.sea] (regs [Reg.COEF.COEF_ADDR]) [] s.dev d
      ∧ d.fld Reg.COEF.COEF_ADDR_INDEX
        = (s.dev.fld Reg.COEF.COEF_ADDR_INDEX + (s.dev.flag Reg.COEF.COEF_ADDR_AUTOINC).toNat) % 2 ^ Reg.COEF.COEF_ADDR_INDEX.width
      ∧ d.coef (s.dev.fld Reg.COEF.COEF_ADDR_INDEX) = data.setWidth 16
      ∧ (∀ i, i ≠ s.dev.fld Reg.COEF.COEF_ADDR_INDEX → d.coef i = s.dev.coef i) := by
  have he : Effect (.coefDataWrite route data) s (s.dev.writeCoef (routeCode route) data) :=
    Effect.of_run (show execCoefDataWrite route data s = run _ s from rfl) (if_pos hp)
  rw [Device.writeCoef_unsealed hc hu] at he
  refine he.completes [.sea] (regs [Reg.COEF.COEF_ADDR]) [] hq (by decide)
    ((Frame.refl.setCoef (by decide)).stepCoef (by decide)) fun t hs hl => ?_
  have hcoef (i : Nat) : t.coef i = (s.dev.setCoef (s.dev.fld Reg.COEF.COEF_ADDR_INDEX) (data.setWidth 16)).coef i :=
    Device.coef_congr ((hs.block .sea (by decide) (by decide)).trans (Device.sea_stepCoef _)) i
  refine ⟨hl, ?_, ?_, fun i hi => ?_⟩
  · have hregs := Device.regs_setCoef s.dev (s.dev.fld Reg.COEF.COEF_ADDR_INDEX) (data.setWidth 16)
    rw [hs.fld _ rfl (by decide), Device.fld_index_stepCoef, Device.fld_congr hregs, Device.flag_congr hregs]
  · rw [hcoef, Device.coef_setCoef_self hc]
  · rw [hcoef, Device.coef_setCoef_ne hi]

/-- Settles O16: the effect of each command where its hypotheses hold, with its frame where it completes. -/
theorem waveformAdcCalibrations : Obligations.WaveformAdcCalibrations := by
  unfold Obligations.WaveformAdcCalibrations
  refine ⟨?self, ?zero, ?full, ?refused, ?failed, ?zeroDone, ?selfDone, ?fullDone, fun _ _ _ => coefDataWrite_completes⟩
  case self =>
    intro s die adc data d hd hp he hfree
    exact Device.calCommand_free (cmd := 1) hp he hd hfree rfl ▸ Effect.wadcCalSelf
  case zero =>
    intro s die adc data d hd hp he hfree hchan
    have hok : d.calAllowed (adcNo die adc) (d.calAsked (adcNo die adc) 2) = true :=
      Bool.or_eq_true_iff.mpr (.inr (Bool.and_eq_true_iff.mpr ⟨decide_eq_true hchan, rfl⟩))
    exact Device.calCommand_free hp he hd hfree hok ▸ Effect.wadcCalSysZero
  case full =>
    intro s die adc data d hd hp he hfree hchan hzero
    have hok : d.calAllowed (adcNo die adc) (d.calAsked (adcNo die adc) 3) = true :=
      Bool.or_eq_true_iff.mpr (.inr (Bool.and_eq_true_iff.mpr ⟨decide_eq_true hchan, hzero⟩))
    exact Device.calCommand_free hp he hd hfree hok ▸ Effect.wadcCalSysFull
  case refused =>
    intro s die adc data d hd hp he hbusy
    exact Device.calCommand_refused hp he hd hbusy ▸ Effect.wadcCalSelf
  case failed => exact fun s die adc c h hf => Device.calOutcome_failed h hf ▸ Effect.wadcCalDone
  case zeroDone => exact fun s die adc c h hf hc => Device.calOutcome_zero h hf hc ▸ Effect.wadcCalDone
  case selfDone => exact fun s die adc c h hf hc => Device.calOutcome_self h hf hc ▸ Effect.wadcCalDone
  case fullDone => exact fun s die adc c gain chan s0 n0 h hf hc hz => Device.calOutcome_full h hf hc hz ▸ Effect.wadcCalDone

end Sys2Proof.Machine
end

section
/-! PROOFS. The monitor ADCs: scans, lead times, results, calibrations and sense samples (O17). -/

namespace Sys2Proof.Machine

variable {bs : List Block} {rs : Nat → Bool} {ps : List Page} {d e : Device} {s : State} {a k : Nat} {die : Die} {data w : W32}
  {codesA codesB : List Nat} {c : MonCal}

/-! ### The parts of the monitor ADCs after a frame -/

theorem Leaves.mon (h : Leaves bs rs ps d e) (hb : Block.mon ∉ bs) : e.mon = d.mon := h.block .mon hb (by decide)

/-- A page is enabled or not whatever another register holds (R474). -/
theorem Device.enabled_setWord {p : Page} (hd : domReg a = false) (ha : pageCtrl p ≠ a) : (d.setWord a w).enabled p = d.enabled p := by
  have henable : (d.setWord a w).flag (fEnable p) = d.flag (fEnable p) := Device.flag_setWord_ne ha
  have habort : (d.setWord a w).flag (fAbort p) = d.flag (fAbort p) := Device.flag_setWord_ne ha
  simp only [Device.enabled, Device.pageOn_setWord hd, henable, habort]

/-! ### Waking, lead times and the start of a scan (R175, R177) -/

theorem Frame.monLead (h : Frame bs rs ps d e) (hm : Block.mon ∈ bs) : Frame bs rs ps d (e.monLead k) := h.mon hm

theorem Frame.monWake (h : Frame bs rs ps d e) (hm : Block.mon ∈ bs) : Frame bs rs ps d e.monWake :=
  Frame.ite (fun _ => (h.mon hm).monLead hm) fun _ => h

/-- Awake ADCs need no waking. -/
theorem Device.monWake_awake (h : d.mon.asleep = false) : d.monWake = d := if_neg (Bool.eq_false_iff.mp h)

/-- Waking moves only the lead time and the sleep. -/
theorem Device.monWake_mon (d : Device) : d.monWake.mon = { d.mon with asleep := false, leadUntil := d.monWake.mon.leadUntil } := by
  cases ha : d.mon.asleep with
  | true => rw [Device.monWake, if_pos ha]; rfl
  | false => rw [Device.monWake_awake ha, ← ha]

/-- The start of a scan while none is in progress begins at entry 0 and is counted. -/
theorem Device.monStart_idle (he : d.enabled .pwrMon = true) (hs : d.mon.scan = none) :
    d.monStart = { d.monWake with mon := { d.monWake.mon with scan := some 0, count := d.monWake.mon.count + 1 } } := by
  simp only [Device.monStart, he, hs, Bool.not_true, Bool.false_eq_true, if_false, Option.isSome_none]

/-- The start of one during a scan is an overrun. -/
theorem Device.monStart_overrun (he : d.enabled .pwrMon = true) (hs : d.mon.scan.isSome = true) :
    d.monStart = (Device.count { d with mon := { d.mon with again := true } } Reg.MON.MON_CNT_OVERRUN).raise .pwrMon 5 := by
  simp only [Device.monStart, he, hs, Bool.not_true, Bool.false_eq_true, if_false, if_true]

/-- What a scan that begins makes of the monitor ADCs. -/
theorem Device.monStart_mon (he : d.enabled .pwrMon = true) (hs : d.mon.scan = none) :
    d.monStart.mon = { d.mon with scan := some 0, count := d.mon.count + 1, asleep := false, leadUntil := d.monWake.mon.leadUntil } := by
  rw [Device.monStart_idle he hs]
  show ({ d.monWake.mon with scan := some 0, count := d.monWake.mon.count + 1 } : MonSt) = _
  rw [Device.monWake_mon]

theorem Frame.monStart_idle (h : Frame bs rs ps d e) (he : e.enabled .pwrMon = true) (hs : e.mon.scan = none) (hm : Block.mon ∈ bs) :
    Frame bs rs ps d e.monStart := by
  rw [Device.monStart_idle he hs]
  exact (h.monWake hm).mon hm

theorem monLeadTimeEnd_completes (hq : s.dev.serviceRun = none) :
    Completes .monLeadTimeEnd s fun d => Leaves [.clock, .tim] (regs []) [] s.dev d ∧ d.clock = max s.dev.clock s.dev.mon.leadUntil := by
  have he : Effect .monLeadTimeEnd s (s.dev.waitUntil s.dev.mon.leadUntil) := rfl
  refine he.completes [.clock, .tim] (regs []) [] hq (by decide) (Frame.refl.waitUntil (by decide) (by decide)) fun t hs hl => ⟨hl, ?_⟩
  rw [hs.clock (by decide), Device.waitUntil_clock]

theorem monScanStart_completes (hq : s.dev.serviceRun = none) (he : s.dev.enabled .pwrMon = true) (hn : s.dev.mon.scan = none) :
    Completes .monScanStart s fun d => Leaves [.mon] (regs []) [] s.dev d ∧ d.mon.scan = some 0 ∧ d.mon.count = s.dev.mon.count + 1
      ∧ d.mon.asleep = false ∧ (s.dev.mon.asleep = false → d.mon = { s.dev.mon with scan := some 0, count := s.dev.mon.count + 1 }) := by
  have h : Effect .monScanStart s s.dev.monStart := rfl
  refine h.completes [.mon] (regs []) [] hq (by decide) (Frame.refl.monStart_idle he hn (by decide)) fun t hs hl => ?_
  rw [hs.mon (by decide), Device.monStart_mon he hn]
  refine ⟨hl, rfl, rfl, rfl, fun ha => ?_⟩
  rw [Device.monWake_awake ha, ← ha]

theorem monScanStart_overrun_completes (hq : s.dev.serviceRun = none) (he : s.dev.enabled .pwrMon = true) (hp : s.dev.pageOn .pwrMon = true)
    (hn : s.dev.mon.scan.isSome = true) :
    Completes .monScanStart s fun d => Leaves [.mon] (regs [Reg.MON.MON_CNT_OVERRUN]) [.pwrMon] s.dev d ∧ d.mon = { s.dev.mon with again := true }
      ∧ d.word Reg.MON.MON_CNT_OVERRUN = counted (s.dev.word Reg.MON.MON_CNT_OVERRUN) 1 ∧ (d.sticky .pwrMon).getLsbD 5 = true := by
  have h : Effect .monScanStart s s.dev.monStart := rfl
  rw [Device.monStart_overrun he hn] at h
  have hf : Frame (.alarms :: [.mon]) (fun a => regs [Reg.MON.MON_CNT_OVERRUN] a || a == Reg.HLT.SERVICE_LEVEL || a == Reg.SEC.SUMMARY) [.pwrMon] s.dev
      (Device.count { s.dev with mon := { s.dev.mon with again := true } } Reg.MON.MON_CNT_OVERRUN) := (Frame.refl.mon (by decide)).count (.inl (by decide))
  refine h.completes [.mon] (regs [Reg.MON.MON_CNT_OVERRUN]) [.pwrMon] hq (by decide) (hf.raise (.inl (by decide))) fun t hs hl => ⟨hl, ?_, ?_, ?_⟩
  · rw [hs.mon (by decide)]
    exact Device.same_raise .mon
  · rw [hs.plain rfl (by decide), Device.word_raise (by decide), Device.word_count, if_pos rfl]
    rfl
  · exact hs.kept .pwrMon (by decide) 5 (hf.raised (by decide) (by decide) (by decide) hp (by decide))

/-- The timer expires MON_PERIOD after it last did (R177). -/
theorem effect_monScanTimer (ht : s.dev.flag Reg.MON.MON_CTRL_TIMER_EN = true) :
    Effect .monScanTimer s (Device.monStart { s.dev.waitUntil (s.dev.mon.timerAt + max 1 (s.dev.fld Reg.MON.MON_PERIOD_US) * Config.usCt) with
      mon := { s.dev.mon with timerAt := s.dev.mon.timerAt + max 1 (s.dev.fld Reg.MON.MON_PERIOD_US) * Config.usCt } }) :=
  Effect.of_run (show execMonScanTimer s = run _ s from rfl) (if_pos ht)

/-! ### MON_CTRL (R175, R177, R182) -/

/-- The device after a write of MON_CTRL, before its START: the timer that is turned on counts from now, a change of the reference has its lead time,
and ADCs that need not doze wake. -/
def Device.monCtrlSet (d : Device) (data : W32) : Device :=
  let x := if !d.flag Reg.MON.MON_CTRL_TIMER_EN && data.getLsbD 3 then { d with mon := { d.mon with timerAt := d.clock } } else d
  let x := x.setWord Reg.MON.MON_CTRL (data &&& 0x00FF070F#32)
  let x := if x.flag Reg.MON.MON_CTRL_REF_EXT = d.flag Reg.MON.MON_CTRL_REF_EXT then x else x.monLead (if x.flag Reg.MON.MON_CTRL_REF_EXT then 20 else 500)
  if x.flag Reg.MON.MON_CTRL_DOZE then x else x.monWake

theorem Device.writeMonCtrl_eq (d : Device) (data : W32) :
    d.writeMonCtrl data = if data.getLsbD 4 then (d.monCtrlSet data).monStart else d.monCtrlSet data := by
  simp only [Device.writeMonCtrl, Device.monCtrlSet, eq_comm (a := d.flag Reg.MON.MON_CTRL_REF_EXT)]

/-- `e` differs from `d` in the monitor ADCs only, and there neither in the scan nor in the count of scans. -/
def ScanKept (d e : Device) : Prop := ∃ m : MonSt, e = { d with mon := m } ∧ m.scan = d.mon.scan ∧ m.count = d.mon.count

theorem ScanKept.refl : ScanKept d d := ⟨d.mon, rfl, rfl, rfl⟩

theorem ScanKept.setWord (h : ScanKept d e) : ScanKept (d.setWord a w) (e.setWord a w) := by
  obtain ⟨m, rfl, hscan, hcount⟩ := h
  exact ⟨m, rfl, hscan, hcount⟩

theorem ScanKept.monLead (h : ScanKept d e) : ScanKept d (e.monLead k) := by
  obtain ⟨m, rfl, hscan, hcount⟩ := h
  exact ⟨_, rfl, hscan, hcount⟩

theorem ScanKept.ite {p : Prop} [Decidable p] {x y : Device} (hx : ScanKept d x) (hy : ScanKept d y) : ScanKept d (if p then x else y) := by
  split
  · exact hx
  · exact hy

theorem ScanKept.monWake (h : ScanKept d e) : ScanKept d e.monWake := by
  have awake : ScanKept d { e with mon := { e.mon with asleep := false } } := by
    obtain ⟨m, rfl, hscan, hcount⟩ := h
    exact ⟨_, rfl, hscan, hcount⟩
  unfold Device.monWake
  exact awake.monLead.ite h

theorem scanKept_monCtrlSet (d : Device) (data : W32) : ScanKept (d.setWord Reg.MON.MON_CTRL (data &&& 0x00FF070F#32)) (d.monCtrlSet data) := by
  have timer : ScanKept d (if !d.flag Reg.MON.MON_CTRL_TIMER_EN && data.getLsbD 3 then { d with mon := { d.mon with timerAt := d.clock } } else d) :=
    .ite ⟨_, rfl, rfl, rfl⟩ .refl
  unfold Device.monCtrlSet
  refine ScanKept.ite ?_ (ScanKept.monWake ?_) <;> exact timer.setWord.ite timer.setWord.monLead

/-- A write of MON_CTRL without START keeps its fields and leaves the scan. -/
theorem monCtrlWrite_completes (hq : s.dev.serviceRun = none) (hs : data.getLsbD 4 = false) :
    Completes (.monCtrlWrite data) s fun d => Leaves [.mon] (regs [Reg.MON.MON_CTRL]) [] s.dev d
      ∧ d.word Reg.MON.MON_CTRL = data &&& 0x00FF070F#32 ∧ d.mon.scan = s.dev.mon.scan := by
  have h : Effect (.monCtrlWrite data) s (s.dev.writeMonCtrl data) := rfl
  obtain ⟨m, hset, hscan, -⟩ := scanKept_monCtrlSet s.dev data
  rw [Device.writeMonCtrl_eq, if_neg (Bool.eq_false_iff.mp hs), hset] at h
  refine h.completes [.mon] (regs [Reg.MON.MON_CTRL]) [] hq (by decide) ((Frame.refl.setWord (.inl (by decide))).mon (by decide))
    fun t hs hl => ⟨hl, ?_, ?_⟩
  · rw [hs.plain rfl (by decide), Device.word_mon, Device.word_setWord_self]
  · rw [hs.mon (by decide)]
    exact hscan

/-- One with START begins a scan as well. -/
theorem monCtrlWrite_start_completes (hq : s.dev.serviceRun = none) (hs : data.getLsbD 4 = true) (he : s.dev.enabled .pwrMon = true)
    (hn : s.dev.mon.scan = none) :
    Completes (.monCtrlWrite data) s fun d => Leaves [.mon] (regs [Reg.MON.MON_CTRL]) [] s.dev d
      ∧ d.word Reg.MON.MON_CTRL = data &&& 0x00FF070F#32 ∧ d.mon.scan = some 0 ∧ d.mon.count = s.dev.mon.count + 1 := by
  have h : Effect (.monCtrlWrite data) s (s.dev.writeMonCtrl data) := rfl
  obtain ⟨m, hset, hscan, hcount⟩ := scanKept_monCtrlSet s.dev data
  rw [Device.writeMonCtrl_eq, if_pos hs, hset] at h
  have henabled : Device.enabled { s.dev.setWord Reg.MON.MON_CTRL (data &&& 0x00FF070F#32) with mon := m } .pwrMon = true :=
    (Device.enabled_setWord (by decide) (by decide)).trans he
  have hidle := hscan.trans hn
  refine h.completes [.mon] (regs [Reg.MON.MON_CTRL]) [] hq (by decide)
    (((Frame.refl.setWord (.inl (by decide))).mon (by decide)).monStart_idle henabled hidle (by decide)) fun t hs hl => ?_
  have hword : Device.word (Device.monStart { s.dev.setWord Reg.MON.MON_CTRL (data &&& 0x00FF070F#32) with mon := m }) Reg.MON.MON_CTRL
      = data &&& 0x00FF070F#32 :=
    ((Frame.refl.monStart_idle (bs := [.mon]) (rs := fun _ => false) (ps := []) henabled hidle (by decide)).words _ rfl (by decide)).trans
      (Device.word_setWord_self _ _ _)
  rw [hs.plain rfl (by decide), hword, hs.mon (by decide), Device.monStart_mon henabled hidle]
  exact ⟨hl, rfl, rfl, congrArg (· + 1) hcount⟩

/-! ### Conversions (R174, R176, R177, R180) -/

theorem Effect.monConversionDone : Effect (.monConversionDone codesA codesB) s (s.dev.monConverted codesA codesB) := rfl

/-- While no calibration is in progress the conversions are those of the scan's entry. -/
theorem Device.monConverted_scan (h : d.mon.cal = none) : d.monConverted codesA codesB = d.scanConverted codesA codesB := by
  simp only [Device.monConverted, h]

@[simp] theorem Device.fld_waitUntil (d : Device) (t : Nat) (f : Fld) : (d.waitUntil t).fld f = d.fld f := rfl
@[simp] theorem Device.flag_waitUntil (d : Device) (t : Nat) (f : Fld) : (d.waitUntil t).flag f = d.flag f := rfl
@[simp] theorem Device.monAbsent_waitUntil (d : Device) (t i : Nat) : (d.waitUntil t).monAbsent i = d.monAbsent i := rfl

/-- A paired entry gives one checked result, and the scan goes on. -/
theorem Device.scanConverted_paired {n : Nat} (hs : d.mon.scan = some n) (hp : d.flag Reg.MON.MON_CTRL_PAIRED = true)
    (ha : d.monAbsent (d.fld (Reg.MON.MON_SCAN_A_INPUT n)) = false) (hA : codesA.length = 4 ^ d.fld (Reg.MON.MON_SCAN_A_AVG n))
    (hB : codesB.length = codesA.length) :
    d.scanConverted codesA codesB =
      (let x := d.waitUntil d.mon.leadUntil
       let i := d.fld (Reg.MON.MON_SCAN_A_INPUT n)
       let r := x.monPair i (average codesA) (average codesB)
       (x.monResult i r.1 r.2).monNext n) := by
  simp only [Device.scanConverted, hs, Device.flag_waitUntil, Device.fld_waitUntil, Device.monAbsent_waitUntil, hp, ha, hA, hB, if_true,
    Bool.false_eq_true, if_false, decide_true, Bool.and_self]

/-- An entry of both ADCs gives one checked result for each, and the scan goes on. -/
theorem Device.scanConverted_both {n : Nat} (hs : d.mon.scan = some n) (hp : d.flag Reg.MON.MON_CTRL_PAIRED = false)
    (ha : n ≤ d.fld Reg.MON.MON_CTRL_LAST_A) (hb : n ≤ d.fld Reg.MON.MON_CTRL_LAST_B)
    (hA : codesA.length = 4 ^ d.fld (Reg.MON.MON_SCAN_A_AVG n)) (hB : codesB.length = 4 ^ d.fld (Reg.MON.MON_SCAN_B_AVG n)) :
    d.scanConverted codesA codesB =
      (let x := d.waitUntil d.mon.leadUntil
       let a := d.fld (Reg.MON.MON_SCAN_A_INPUT n)
       let b := d.fld (Reg.MON.MON_SCAN_B_INPUT n)
       let x := x.monResult a (x.monCorrect 0 a (average codesA)) false
       (x.monResult b (x.monCorrect 1 b (average codesB)) false).monNext n) := by
  simp only [Device.scanConverted, hs, Device.flag_waitUntil, Device.fld_waitUntil, Device.monAbsent_waitUntil, hp, ha, hb, hA, hB, if_true,
    Bool.false_eq_true, if_false, decide_true, Bool.or_true, Bool.and_self]

/-- The 1,024 conversions of a calibration with the first ADC alone. -/
theorem Device.monConverted_cal (hc : d.mon.cal = some c) (ha : c.adcs = [0]) (hA : codesA.length = 1024) :
    d.monConverted codesA codesB = (d.waitUntil d.mon.leadUntil).calConverted c fun m => if m = 0 then codesA else codesB := by
  simp only [Device.monConverted, hc, ha, List.all_cons, List.all_nil, if_true, hA, decide_true, Bool.and_self]

/-- SELF has its zero, and goes on to the full scale. -/
theorem Device.calConverted_selfZero {codes : Nat → List Nat} (ha : c.adcs = [0]) (hc : c.cmd = 1) (hz : c.zeros = none) :
    d.calConverted c codes = { d with mon := { d.mon with cal := some { c with zeros := some [(0, ((codes 0).sum : Nat))] } } } := by
  simp only [Device.calConverted, hc, hz, ha, List.map_cons, List.map_nil]

/-- SELF has both its sums, and computes the coefficients of its first stage. -/
theorem Device.calConverted_selfFull {codes : Nat → List Nat} {zero : Int} (ha : c.adcs = [0]) (hc : c.cmd = 1) (hz : c.zeros = some [(0, zero)]) :
    d.calConverted c codes =
      (d.monCommit [(4608, roundDiv zero 1024, 58982 * 16384 * 1024, (((codes 0).sum : Nat) : Int) - zero)] 1024 14746 18022).monCalOver := by
  have hsum : sumOf [(0, zero)] 0 = zero := rfl
  simp only [Device.calConverted, hc, hz, ha, List.map_cons, List.map_nil, hsum, Nat.mul_zero, Nat.add_zero]

/-! ### Calibration commands (R180) -/

theorem Effect.monCalSelf : Effect (.monCalSelf data) s (s.dev.monCalStart data 1) := rfl
theorem Effect.monCalSysZero : Effect (.monCalSysZero data) s (s.dev.monCalStart data 2) := rfl
theorem Effect.monCalSysFull : Effect (.monCalSysFull data) s (s.dev.monCalStart data 3) := rfl

/-- The calibration that MON_CAL asks for. -/
def Device.monCalAsked (d : Device) (cmd : Nat) : MonCal :=
  { cmd := cmd, adcs := d.monCalAdcs, input := d.fld Reg.MON.MON_CAL_INPUT, expect := d.fld Reg.MON.MON_CAL_EXPECT }

/-- Each ADC that MON_CAL selects has a SYS_ZERO of its input. -/
def Device.monZeroed (d : Device) : Bool := d.monCalAdcs.all fun m => d.mon.zero.any fun z => z.1 = 32 * m + d.fld Reg.MON.MON_CAL_INPUT

/-- A command of an enabled page that has what it needs, while no calibration is in progress, begins. -/
theorem Device.monCalStart_free {cmd : Nat} (hd : e = d.setWord Reg.MON.MON_CAL (data &&& 0xFFFF1F10#32)) (he : e.enabled .pwrMon = true)
    (hn : d.mon.cal = none) (hz : cmd ≠ 3 ∨ e.monZeroed = true) :
    d.monCalStart data cmd = { e.monWake with mon := { e.monWake.mon with cal := some (e.monCalAsked cmd) } } := by
  subst hd
  have hfree : (d.setWord Reg.MON.MON_CAL (data &&& 0xFFFF1F10#32)).mon.cal = none := hn
  refine (if_neg ?_).trans (if_neg fun hrefused => ?_)
  · simp only [he, hfree, Bool.not_true, Option.isSome_none, Bool.or_self, Bool.false_eq_true, not_false_eq_true]
  · rw [Bool.and_eq_true, decide_eq_true_eq, Bool.not_eq_true'] at hrefused
    obtain ⟨hfull, hnone⟩ := hrefused
    exact Bool.false_ne_true (hnone.symm.trans (hz.resolve_left fun h => h hfull))

/-- SYS_FULL without a SYS_ZERO of its input fails at once. -/
theorem Device.monCalStart_unzeroed (hd : e = d.setWord Reg.MON.MON_CAL (data &&& 0xFFFF1F10#32)) (he : e.enabled .pwrMon = true)
    (hn : d.mon.cal = none) (hz : e.monZeroed = false) : d.monCalStart data 3 = e.monCalDone 6 false := by
  subst hd
  have hfree : (d.setWord Reg.MON.MON_CAL (data &&& 0xFFFF1F10#32)).mon.cal = none := hn
  refine (if_neg ?_).trans (if_pos ?_)
  · simp only [he, hfree, Bool.not_true, Option.isSome_none, Bool.or_self, Bool.false_eq_true, not_false_eq_true]
  · exact Bool.and_eq_true_iff.mpr ⟨rfl, congrArg (!·) hz⟩

theorem Device.monZeroed_of_forall (h : ∀ m ∈ d.monCalAdcs, ∃ z ∈ d.mon.zero, z.1 = 32 * m + d.fld Reg.MON.MON_CAL_INPUT) : d.monZeroed = true := by
  simpa only [Device.monZeroed, List.all_eq_true, List.any_eq_true, decide_eq_true_eq] using h

/-- A calibration always selects an ADC: without any sum kept, one of its input is missing. -/
theorem Device.monZeroed_nil (h : d.mon.zero = []) : d.monZeroed = false := by
  unfold Device.monZeroed Device.monCalAdcs
  rw [h]
  split <;> rfl

/-! ### Sense samples (R178, R491) -/

/-- A sample of a die whose sequence expects none is not taken. -/
theorem effect_injSenseSample_unwanted {x y : BitVec 16} (h : s.dev.mon.sense.contains die.val = false) : Effect (.injSenseSample die x y) s s.dev :=
  Effect.of_run (show execInjSenseSample die x y s = run _ s from rfl) (if_neg (Bool.eq_false_iff.mp h))

/-- One that is expected waits for every lead time, and its result is checked against the limits and against what the DAC should give. -/
theorem effect_injSenseSample {x y : BitVec 16} (hw : e = s.dev.waitUntil s.dev.mon.leadUntil) (h : s.dev.mon.sense.contains die.val = true) :
    Effect (.injSenseSample die x y) s
      (let d := { e with mon := { e.mon with sense := e.mon.sense.filter fun n => n != die.val } }
       let r := if s.dev.flag Reg.MON.MON_CTRL_PAIRED then d.monPair (8 + die.val) x.toNat y.toNat else (d.monCorrect 0 (8 + die.val) x.toNat, false)
       let d := (d.monResult (8 + die.val) r.1 r.2).setFld (Reg.PIX.INJ_SENSE_CODE die.val) r.1.toNat
       let d := if 200 * d.senseExpected die.val + 262144 < 10000 * ((r.1 - d.senseExpected die.val).natAbs : Int) then d.raise (.pix die) 3 else d
       d.monDoze) := by
  subst hw
  exact Effect.of_run (show execInjSenseSample die x y s = run _ s from rfl) (if_pos h)

/-- Settles O17: the effect of each command where its hypotheses hold, with its frame where it completes. -/
theorem monitorAdcCommands : Obligations.MonitorAdcCommands := by
  unfold Obligations.MonitorAdcCommands
  refine ⟨fun _ _ => monCtrlWrite_completes, fun _ _ => monCtrlWrite_start_completes, fun _ => monLeadTimeEnd_completes,
    fun _ => monScanStart_completes, fun _ => monScanStart_overrun_completes, fun _ => effect_monScanTimer, ?paired, ?both, ?selfZero, ?selfFull,
    ?calSelf, ?calZero, ?calFull, ?calUnzeroed, fun _ _ _ _ => effect_injSenseSample_unwanted, fun _ _ _ _ _ => effect_injSenseSample⟩
  case paired =>
    intro s n codesA codesB hc hs hp ha hA hB
    have h : Effect (.monConversionDone codesA codesB) s _ := Effect.monConversionDone
    rwa [Device.monConverted_scan hc, Device.scanConverted_paired hs hp ha hA hB] at h
  case both =>
    intro s n codesA codesB hc hs hp ha hb hA hB
    have h : Effect (.monConversionDone codesA codesB) s _ := Effect.monConversionDone
    rwa [Device.monConverted_scan hc, Device.scanConverted_both hs hp ha hb hA hB] at h
  case selfZero =>
    intro s c codesA codesB hc ha hA hcmd hz
    have h : Effect (.monConversionDone codesA codesB) s _ := Effect.monConversionDone
    rwa [Device.monConverted_cal hc ha hA, Device.calConverted_selfZero ha hcmd hz] at h
  case selfFull =>
    intro s c codesA codesB zero hc ha hA hcmd hz
    have h : Effect (.monConversionDone codesA codesB) s _ := Effect.monConversionDone
    rwa [Device.monConverted_cal hc ha hA, Device.calConverted_selfFull ha hcmd hz] at h
  case calSelf => exact fun s data d hd he hn => Device.monCalStart_free (cmd := 1) hd he hn (.inl (by decide)) ▸ Effect.monCalSelf
  case calZero => exact fun s data d hd he hn => Device.monCalStart_free (cmd := 2) hd he hn (.inl (by decide)) ▸ Effect.monCalSysZero
  case calFull =>
    intro s data d hd he hn hz
    have hzero : d.mon.zero = s.dev.mon.zero := by rw [hd]; rfl
    exact Device.monCalStart_free hd he hn (.inr (Device.monZeroed_of_forall (hzero ▸ hz))) ▸ Effect.monCalSysFull
  case calUnzeroed =>
    intro s data d hd he hn hz
    have hzero : d.mon.zero = s.dev.mon.zero := by rw [hd]; rfl
    exact Device.monCalStart_unzeroed hd he hn (Device.monZeroed_nil (hzero.trans hz)) ▸ Effect.monCalSysFull

end Sys2Proof.Machine
end

section
/-! PROOFS. Contexts, context reads, table staging and the format table of the event builder (O14). -/

namespace Sys2Proof.Machine

variable {bs : List Block} {rs : Nat → Bool} {ps : List Page} {d e : Device} {s : State} {i k : Nat} {t : StagedTable} {data : W32}
  {c n : Nat} {p : Page} {word auto : Fld}

/-! ### Contexts (R196-R199) -/

/-- An allocation within the quota of its class takes the first FREE context (R197). -/
theorem Device.allocCtx_free {cls : Nat} {id : BitVec 24} (hq : d.ctxUsed cls < d.fld (Reg.EVB.QUOTA_QUOTA cls)) (hf : d.freeCtx = some i) :
    d.allocCtx cls id = (d.updCtx i fun _ => { state := .opened, cls := cls, id := id, records := 0 }, some i) := by
  simp only [Device.allocCtx, Nat.not_le.mpr hq, if_false, hf]

/-- A frame that waits takes its context on the retry, and the stall ends (R198). -/
theorem effect_frameContextRetry {f : FrameSt} (hw : (s.dev.evb.frames.find? fun f => f.waiting) = some f)
    (hq : s.dev.ctxUsed 0 < s.dev.fld (Reg.EVB.QUOTA_QUOTA 0)) (hf : s.dev.freeCtx = some i) (he : f.ended = none) :
    Effect .frameContextRetry s
      (let d := s.dev.updCtx i fun _ => { state := .opened, cls := 0, id := f.num.setWidth 24, records := 0 }
       Device.setFlag { d with evb := { d.evb with frames := d.evb.frames.map fun x =>
         if x.start = f.start ∧ x.num = f.num then { x with ctx := some i, waiting := false } else x } } Reg.EVB.SORT_STATUS_STALLED false) := by
  refine Effect.of_run (show execFrameContextRetry s = run _ s from rfl) ?_
  simp only [hw, Device.retryFrame, Device.allocCtx_free hq hf, he, Option.isSome_none, Bool.false_eq_true, if_false]

/-- A QUEUED context that is no capture set's is released once none of its records is left in the queue (R196, R275). -/
theorem Device.ctxReleased_of_gone (hs : (d.ctxOf i).state = .queued) (hc : (d.ctxOf i).cls ≠ 2) (hr : ∀ e ∈ d.evb.oq, e.record.ctx ≠ some i) :
    d.ctxReleased i = true := by
  have hgone : (d.evb.oq.any fun e => e.record.ctx == some i) = false :=
    List.any_eq_false.mpr fun e he => fun h => hr e he (beq_iff_eq.mp h)
  simp only [Device.ctxReleased, hs, bne_iff_ne.mpr hc, hgone, beq_self_eq_true, Bool.not_false, Bool.and_self]

theorem effect_contextRelease {index : BitVec 10} (hs : (s.dev.ctxOf index.toNat).state = .queued) (hc : (s.dev.ctxOf index.toNat).cls ≠ 2)
    (hr : ∀ e ∈ s.dev.evb.oq, e.record.ctx ≠ some index.toNat) :
    Effect (.contextRelease index) s (s.dev.updCtx index.toNat fun _ => {}) :=
  Effect.of_run (show execContextRelease index s = run _ s from rfl) (if_pos (Device.ctxReleased_of_gone hs hc hr))

theorem plainReg_quota (cls : Fin 8) : plainReg (Reg.EVB.QUOTA cls.val) = true := by revert cls; decide

/-- A write of QUOTA takes effect at once and releases nothing (R199). -/
theorem quotaWrite_completes {cls : Fin 8} (hq : s.dev.serviceRun = none) (hp : s.dev.pageOn .evb = true) :
    Completes (.quotaWrite cls data) s fun d => Leaves [] (regs [Reg.EVB.QUOTA cls.val]) [] s.dev d
      ∧ d.fld (Reg.EVB.QUOTA_QUOTA cls.val) = (Reg.EVB.QUOTA_QUOTA cls.val).of data := by
  have hx : Effect (.quotaWrite cls data) s (s.dev.setFld (Reg.EVB.QUOTA_QUOTA cls.val) ((Reg.EVB.QUOTA_QUOTA cls.val).of data)) :=
    Effect.of_run (show execQuotaWrite cls data s = run _ s from rfl) (if_pos hp)
  refine hx.completes [] (regs [Reg.EVB.QUOTA cls.val]) [] hq (by decide) (Frame.refl.setFld (.inl (by simp [regs, Reg.EVB.QUOTA_QUOTA])))
    fun t hs hl => ⟨hl, ?_⟩
  calc t.fld (Reg.EVB.QUOTA_QUOTA cls.val)
    _ = _ := hs.fld (Reg.EVB.QUOTA_QUOTA cls.val) rfl (plainReg_quota cls)
    _ = (Reg.EVB.QUOTA_QUOTA cls.val).of data % 2 ^ (Reg.EVB.QUOTA_QUOTA cls.val).width :=
      Device.fld_setFld_self s.dev (Reg.EVB.QUOTA_QUOTA cls.val) _ (show 0 + 11 ≤ 32 by decide)
    _ = (Reg.EVB.QUOTA_QUOTA cls.val).of data := Nat.mod_eq_of_lt (Fld.of_lt _ _)

/-! ### A read of CTX_DATA0 (R200) -/

/-- The descriptor of a context as CTX_DATA0 shows it. -/
def Ctx.descriptor (c : Ctx) : W32 := c.id ++ BitVec.ofNat 8 (ctxCode c.state + 16 * c.cls)

theorem Frame.readCtxData (h : Frame bs rs ps d e) (h0 : rs Reg.EVB.CTX_DATA0 = true) (h1 : rs Reg.EVB.CTX_DATA1 = true) (hb : Block.rdata ∈ bs) :
    Frame bs rs ps d e.readCtxData :=
  ((h.setWord (.inl h0)).setWord (.inl h1)).rdata hb

theorem Device.word_readCtxData_data0 (d : Device) :
    d.readCtxData.word Reg.EVB.CTX_DATA0 = (d.ctxOf (d.fld Reg.EVB.CTX_ADDR_INDEX)).descriptor :=
  (Device.word_setWord_ne _ _ (by decide)).trans (Device.word_setWord_self d _ _)

theorem Device.word_readCtxData_data1 (d : Device) :
    d.readCtxData.word Reg.EVB.CTX_DATA1 = BitVec.ofNat 32 (d.ctxOf (d.fld Reg.EVB.CTX_ADDR_INDEX)).records :=
  Device.word_setWord_self _ _ _

theorem ctxDataRead_completes (hq : s.dev.serviceRun = none) (hp : s.dev.pageOn .evb = true) :
    Completes .ctxDataRead s fun d => Leaves [.rdata] (regs [Reg.EVB.CTX_DATA0, Reg.EVB.CTX_DATA1]) [] s.dev d
      ∧ d.rdata = (s.dev.ctxOf (s.dev.fld Reg.EVB.CTX_ADDR_INDEX)).descriptor ∧ d.word Reg.EVB.CTX_DATA0 = d.rdata
      ∧ d.word Reg.EVB.CTX_DATA1 = BitVec.ofNat 32 (s.dev.ctxOf (s.dev.fld Reg.EVB.CTX_ADDR_INDEX)).records := by
  have hx : Effect .ctxDataRead s s.dev.readCtxData := Effect.of_run (show execCtxDataRead s = run _ s from rfl) (if_pos hp)
  refine hx.completes [.rdata] (regs [Reg.EVB.CTX_DATA0, Reg.EVB.CTX_DATA1]) [] hq (by decide)
    (Frame.refl.readCtxData (by decide) (by decide) (by decide)) fun t hs hl => ?_
  have hr : t.rdata = (s.dev.ctxOf (s.dev.fld Reg.EVB.CTX_ADDR_INDEX)).descriptor := hs.rdata (by decide)
  refine ⟨hl, hr, ?_, ?_⟩
  · rw [hr, hs.plain rfl (by decide), Device.word_readCtxData_data0]
  · rw [hs.plain rfl (by decide), Device.word_readCtxData_data1]

/-! ### Staged words (R219, R220) -/

theorem Device.staged_setStaged (d : Device) (t : StagedTable) (k j : Nat) (w : W64) :
    (d.setStaged t k w).staged t j = if j = k then w else d.staged t j := by
  simp only [Device.staged, Device.setStaged, SMap.get_set, Nat.add_left_cancel_iff]

@[simp] theorem Device.staged_setFld (d : Device) (f : Fld) (v : Nat) (t : StagedTable) (k : Nat) : (d.setFld f v).staged t k = d.staged t k := rfl

theorem Device.staged_congr (h : e.staging = d.staging) (t : StagedTable) (k : Nat) : e.staged t k = d.staged t k := by
  simp only [Device.staged, h]

theorem Leaves.staged (h : Leaves bs rs ps d e) (hb : Block.staging ∉ bs) (t : StagedTable) (k : Nat) : e.staged t k = d.staged t k :=
  Device.staged_congr (h.block .staging hb (by decide)) t k

theorem Frame.setStaged (h : Frame bs rs ps d e) {w : W64} (hb : Block.staging ∈ bs) : Frame bs rs ps d (e.setStaged t k w) := h.staging hb

/-- A write of the low half inside the image joins the high half that was there. -/
theorem Device.writeStage_low (ht : stagePlace t = (c, n, p, word, auto)) (hi : d.fld word < n) :
    d.writeStage t false data = d.setStaged t (d.fld word) ((d.staged t (d.fld word)).extractLsb' 32 32 ++ data) := by
  simp only [Device.writeStage, ht, hi, Bool.false_eq_true, if_false, if_true]

/-- A write of the high half inside the image joins the low half that was there, and with AUTOINC the address steps to the next word. -/
theorem Device.writeStage_high (ht : stagePlace t = (c, n, p, word, auto)) (hi : d.fld word < n) (ha : d.flag auto = true) :
    d.writeStage t true data
      = (d.setStaged t (d.fld word) (data ++ (d.staged t (d.fld word)).extractLsb' 0 32)).setFld word (d.fld word + 1) := by
  have ha' : (d.setStaged t (d.fld word) (data ++ (d.staged t (d.fld word)).extractLsb' 0 32)).flag auto = true := ha
  simp only [Device.writeStage, Device.stepStage, ht, hi, ha', if_true]
  rfl

theorem effect_tableStagingWrite {high : Bool} (ht : stagePlace t = (c, n, p, word, auto)) (hp : s.dev.pageOn p = true) :
    Effect (.tableStagingWrite t high data) s (s.dev.writeStage t high data) := by
  refine Effect.of_run (show execTableStagingWrite t high data s = run _ s from rfl) (if_pos ?_)
  rw [ht]
  exact hp

theorem stagePlace_format : stagePlace .format = (0, 17, .evb, Reg.EVB.FMT_ADDR_WORD, Reg.EVB.FMT_ADDR_AUTOINC) := rfl

theorem stageFormat_low_completes (hq : s.dev.serviceRun = none) (hp : s.dev.pageOn .evb = true) (hi : s.dev.fld Reg.EVB.FMT_ADDR_WORD < 17) :
    Completes (.tableStagingWrite .format false data) s fun d => Leaves [.staging] (regs []) [] s.dev d
      ∧ d.staged .format (s.dev.fld Reg.EVB.FMT_ADDR_WORD) = (s.dev.staged .format (s.dev.fld Reg.EVB.FMT_ADDR_WORD)).extractLsb' 32 32 ++ data
      ∧ ∀ k, k ≠ s.dev.fld Reg.EVB.FMT_ADDR_WORD → d.staged .format k = s.dev.staged .format k := by
  have hx := effect_tableStagingWrite (data := data) (high := false) stagePlace_format hp
  rw [Device.writeStage_low stagePlace_format hi] at hx
  refine hx.completes [.staging] (regs []) [] hq (by decide) (Frame.refl.setStaged (by decide)) fun t hs hl => ⟨hl, ?_, fun k hk => ?_⟩
  · rw [hs.staged (by decide), Device.staged_setStaged, if_pos rfl]
  · rw [hs.staged (by decide), Device.staged_setStaged, if_neg hk]

theorem stageFormat_high_completes (hq : s.dev.serviceRun = none) (hp : s.dev.pageOn .evb = true) (hi : s.dev.fld Reg.EVB.FMT_ADDR_WORD < 17)
    (ha : s.dev.flag Reg.EVB.FMT_ADDR_AUTOINC = true) :
    Completes (.tableStagingWrite .format true data) s fun d => Leaves [.staging] (regs [Reg.EVB.FMT_ADDR]) [] s.dev d
      ∧ d.staged .format (s.dev.fld Reg.EVB.FMT_ADDR_WORD) = data ++ (s.dev.staged .format (s.dev.fld Reg.EVB.FMT_ADDR_WORD)).extractLsb' 0 32
      ∧ d.fld Reg.EVB.FMT_ADDR_WORD = (s.dev.fld Reg.EVB.FMT_ADDR_WORD + 1) % 2 ^ Reg.EVB.FMT_ADDR_WORD.width := by
  have hx := effect_tableStagingWrite (data := data) (high := true) stagePlace_format hp
  rw [Device.writeStage_high stagePlace_format hi ha] at hx
  refine hx.completes [.staging] (regs [Reg.EVB.FMT_ADDR]) [] hq (by decide)
    ((Frame.refl.setStaged (by decide)).setFld (.inl (by decide))) fun t hs hl => ⟨hl, ?_, ?_⟩
  · rw [hs.staged (by decide), Device.staged_setFld, Device.staged_setStaged, if_pos rfl]
  · rw [hs.fld _ rfl (by decide)]
    exact Device.fld_setFld_self _ _ _ (by decide)

/-! ### A commit of the format table (R213, R214) -/

theorem effect_fmtCommit (hp : s.dev.pageOn .evb = true) : Effect .fmtCommit s s.dev.commitFmt :=
  Effect.of_run (show execFmtCommit s = run _ s from rfl) (if_pos hp)

theorem Block.fmtNext_same (hs : Block.evb.same d e) : e.evb.fmtNext = d.evb.fmtNext := by
  simp only [Block.same] at hs
  rw [hs]

theorem Leaves.fmtNext (hl : Leaves bs rs ps d e) (hb : Block.evb ∉ bs) : e.evb.fmtNext = d.evb.fmtNext :=
  Block.fmtNext_same (hl.block .evb hb (by decide))

theorem fmtCommit_good_completes (hq : s.dev.serviceRun = none) (hp : s.dev.pageOn .evb = true) (hok : s.dev.stagedOk .format 0x4F46 16 = true) :
    Completes .fmtCommit s fun d => Leaves [.evb] (regs [Reg.EVB.FMT_CTRL]) [] s.dev d ∧ d.flag Reg.EVB.FMT_CTRL_REJECTED = false
      ∧ d.evb.fmtNext = some (SMap.setAll (fun _ => 0x5500FF7F#64) [] 0 (s.dev.stagedImage .format).tail) := by
  have hx := effect_fmtCommit hp
  rw [Device.commitFmt, if_pos hok] at hx
  refine hx.completes [.evb] (regs [Reg.EVB.FMT_CTRL]) [] hq (by decide)
    ((Frame.refl.evb (by decide)).setFlag (.inl (by decide))) fun t hs hl => ⟨hl, ?_, hs.fmtNext (by decide)⟩
  rw [hs.flag _ rfl (by decide), Device.flag_setFlag_self _ _ _ (by decide) (by decide)]

theorem fmtCommit_rejected_completes (hq : s.dev.serviceRun = none) (hp : s.dev.pageOn .evb = true) (hbad : s.dev.stagedOk .format 0x4F46 16 = false) :
    Completes .fmtCommit s fun d => Leaves [] (regs [Reg.EVB.FMT_CTRL]) [.evb] s.dev d ∧ d.flag Reg.EVB.FMT_CTRL_REJECTED = true
      ∧ (d.sticky .evb).getLsbD 11 = true := by
  have hx := effect_fmtCommit hp
  rw [Device.commitFmt, if_neg (Bool.eq_false_iff.mp hbad)] at hx
  refine hx.completes [] (regs [Reg.EVB.FMT_CTRL]) [.evb] hq (by decide)
    ((Frame.refl.setFlag (.inl (by decide))).raise (.inl (by decide))) fun t hs hl => ⟨hl, ?_, ?_⟩
  · rw [hs.flag _ rfl (by decide), Device.flag_raise (by decide), Device.flag_setFlag_self _ _ _ (by decide) (by decide)]
  · exact hs.kept .evb (by decide) 11 (Device.sticky_raise_self ((Device.pageOn_setFlag (by decide) _).trans hp) (by decide))

/-- Settles O14: the effect of each command, with its frame where it completes. -/
theorem builderContextsAndTables : Obligations.BuilderContextsAndTables := by
  unfold Obligations.BuilderContextsAndTables
  exact ⟨fun _ _ _ => effect_frameContextRetry,
    fun _ _ _ => effect_contextRelease,
    fun _ _ _ => quotaWrite_completes,
    fun _ => ctxDataRead_completes,
    fun _ _ => stageFormat_low_completes,
    fun _ _ => stageFormat_high_completes,
    fun _ => fmtCommit_good_completes,
    fun _ => fmtCommit_rejected_completes⟩

end Sys2Proof.Machine
end

section
/-! PROOFS. A condition table's check, and the primitives that wait for a tick of the trigger engine (O1). -/

namespace Sys2Proof.Machine

variable {bs : List Block} {rs : Nat → Bool} {ps : List Page} {d e : Device} {s : State} {line : Fin 2} {hold : Nat} {data : W32}

/-- A frame that leaves the trigger engine alone moves only what tracks the fast-ORs. -/
theorem Leaves.trg (h : Leaves bs rs ps d e) (hb : Block.trg ∉ bs) : e.trg = { d.trg with forHigh := e.trg.forHigh, forFall := e.trg.forFall } :=
  h.block .trg hb (by decide)
theorem Leaves.prims (h : Leaves bs rs ps d e) (hb : Block.trg ∉ bs) : e.trg.prims = d.trg.prims := by rw [h.trg hb]
theorem Leaves.pins (h : Leaves bs rs ps d e) (hb : Block.trg ∉ bs) : e.trg.pins = d.trg.pins := by rw [h.trg hb]
theorem Leaves.opens (h : Leaves bs rs ps d e) (hb : Block.trg ∉ bs) : e.trg.opens = d.trg.opens := by rw [h.trg hb]

/-! ### A commit of the condition table (R231) -/

theorem effect_condCommit (hp : s.dev.pageOn .trg = true) : Effect .condCommit s s.dev.commitCond :=
  Effect.of_run (show execCondCommit s = run _ s from rfl) (if_pos hp)

theorem condCommit_good_completes (hq : s.dev.serviceRun = none) (hp : s.dev.pageOn .trg = true) (hok : s.dev.stagedOk .condition 0x5443 64 = true) :
    Completes .condCommit s fun d => Leaves [.trg] (regs [Reg.TRG.COND_CTRL]) [] s.dev d
      ∧ d.trg.condNext = some (SMap.setAll (fun _ => 0) [] 0 (s.dev.stagedImage .condition).tail)
      ∧ d.flag Reg.TRG.COND_CTRL_REJECTED = false := by
  have hx := effect_condCommit hp
  rw [Device.commitCond, if_pos hok] at hx
  refine hx.completes [.trg] (regs [Reg.TRG.COND_CTRL]) [] hq (by decide)
    ((Frame.refl.trg (by decide)).setFlag (.inl (by decide))) fun t hs hl => ⟨hl, congrArg TrgSt.condNext (hs.trg (by decide)), ?_⟩
  rw [hs.flag _ rfl (by decide), Device.flag_setFlag_self _ _ _ (by decide) (by decide)]

theorem condCommit_rejected_completes (hq : s.dev.serviceRun = none) (hp : s.dev.pageOn .trg = true)
    (hbad : s.dev.stagedOk .condition 0x5443 64 = false) :
    Completes .condCommit s fun d => Leaves [] (regs [Reg.TRG.COND_CTRL]) [.trg] s.dev d
      ∧ d.flag Reg.TRG.COND_CTRL_REJECTED = true ∧ (d.sticky .trg).getLsbD 8 = true := by
  have hx := effect_condCommit hp
  rw [Device.commitCond, if_neg (Bool.eq_false_iff.mp hbad)] at hx
  refine hx.completes [] (regs [Reg.TRG.COND_CTRL]) [.trg] hq (by decide)
    ((Frame.refl.setFlag (.inl (by decide))).raise (.inl (by decide))) fun t hs hl => ⟨hl, ?_, ?_⟩
  · rw [hs.flag _ rfl (by decide), Device.flag_raise (by decide), Device.flag_setFlag_self _ _ _ (by decide) (by decide)]
  · exact hs.kept .trg (by decide) 8 (Device.sticky_raise_self ((Device.pageOn_setFlag (by decide) _).trans hp) (by decide))

/-! ### Software bits (R226) -/

theorem swTrigWrite_completes (hq : s.dev.serviceRun = none) (hp : s.dev.pageOn .trg = true) :
    Completes (.swTrigWrite data) s fun d => Leaves [.trg] (regs []) [] s.dev d
      ∧ d.trg.prims = s.dev.trg.prims ++ ((List.range 16).filter fun k => data.getLsbD k).map fun k => ⟨5, k, none⟩ := by
  have hx : Effect (.swTrigWrite data) s (s.dev.softTrigger data) :=
    Effect.of_run (show execSwTrigWrite data s = run _ s from rfl) (if_pos hp)
  exact hx.completes [.trg] (regs []) [] hq (by decide) (Frame.refl.trg (by decide))
    fun t hs hl => ⟨hl, hs.prims (by decide)⟩

/-! ### The edges of a TRIG_IN pin (R226, R227) -/

/-- The pin may change: the time that its present level was stated to last is over. -/
def Device.pinDue (d : Device) (line : Fin 2) : Device := d.waitUntil (SMap.get (fun _ => 0) d.trg.pinHold line.val)

/-- The pin goes high for `hold` CT, and `prims` wait for the next tick. -/
def Device.pinRises (d : Device) (line : Fin 2) (hold : Nat) (prims : List Primitive) : Device :=
  { d.pinDue line with trg := { d.trg with
    pins := d.trg.pins ||| BitVec.ofNat 2 (2 ^ line.val)
    pinHold := SMap.set (fun _ => 0) d.trg.pinHold line.val ((d.pinDue line).clock + hold)
    prims := prims } }

/-- The pin goes low for `hold` CT; a rising edge of it is seen from 2 CT later on. -/
def Device.pinFalls (d : Device) (line : Fin 2) (hold : Nat) (prims : List Primitive) : Device :=
  { d.pinDue line with trg := { d.trg with
    pins := d.trg.pins &&& ~~~(BitVec.ofNat 2 (2 ^ line.val))
    pinHold := SMap.set (fun _ => 0) d.trg.pinHold line.val ((d.pinDue line).clock + hold)
    pinSeen := SMap.set (fun _ => 0) d.trg.pinSeen line.val ((d.pinDue line).clock + 2)
    prims := prims } }

/-- A rising edge is seen: the pulse lasts at least 2 CT, and the pin was low for at least 2 CT before it. -/
def Device.pinSeen (d : Device) (line : Fin 2) (hold : Nat) : Bool :=
  decide (2 ≤ hold) && decide (SMap.get (fun _ => 0) d.trg.pinSeen line.val ≤ (d.pinDue line).clock)

theorem Device.pinDue_clock (d : Device) (line : Fin 2) :
    (d.pinDue line).clock = max d.clock (SMap.get (fun _ => 0) d.trg.pinHold line.val) := Device.waitUntil_clock _ _

theorem Device.pinSeen_iff : d.pinSeen line hold = true ↔
    2 ≤ hold ∧ SMap.get (fun _ => 0) d.trg.pinSeen line.val ≤ max d.clock (SMap.get (fun _ => 0) d.trg.pinHold line.val) := by
  rw [Device.pinSeen, Bool.and_eq_true, decide_eq_true_eq, decide_eq_true_eq, Device.pinDue_clock]

theorem Device.trigIn_rises (hlow : d.trg.pins.getLsbD line.val = false) :
    d.trigIn line true hold = d.pinRises line hold
      (if d.pageOn .trg then d.trg.prims ++ (if d.pinSeen line hold then [⟨2, line.val, none⟩] else []) else d.trg.prims) := by
  rw [Device.trigIn, hlow, if_neg Bool.false_ne_true]
  rfl

theorem Device.trigIn_seen (hp : d.pageOn .trg = true) (hlow : d.trg.pins.getLsbD line.val = false) (h : d.pinSeen line hold = true) :
    d.trigIn line true hold = d.pinRises line hold (d.trg.prims ++ [⟨2, line.val, none⟩]) := by
  rw [Device.trigIn_rises hlow, if_pos hp, if_pos h]

theorem Device.trigIn_unseen (hlow : d.trg.pins.getLsbD line.val = false) (h : ¬ d.pinSeen line hold = true) :
    d.trigIn line true hold = d.pinRises line hold d.trg.prims := by
  rw [Device.trigIn_rises hlow, if_neg h, List.append_nil, ite_self]

theorem Device.trigIn_falls (hhigh : d.trg.pins.getLsbD line.val = true) : d.trigIn line false hold = d.pinFalls line hold d.trg.prims :=
  calc d.trigIn line false hold
    _ = d.pinFalls line hold (if d.pageOn .trg then d.trg.prims ++ [] else d.trg.prims) := by
      rw [Device.trigIn, hhigh, if_neg Bool.false_ne_true.symm]
      rfl
    _ = d.pinFalls line hold d.trg.prims := by rw [List.append_nil, ite_self]

theorem Effect.trigInEdge (rising : Bool) : Effect (.trigInEdge line rising hold) s (s.dev.trigIn line rising hold) := rfl

theorem Frame.pinDue (h : Frame bs rs ps d e) (hc : Block.clock ∈ bs) (ht : Block.tim ∈ bs) : Frame bs rs ps d (e.pinDue line) := h.waitUntil hc ht

theorem getLsbD_pin_or (w : BitVec 2) (line : Fin 2) : (w ||| BitVec.ofNat 2 (2 ^ line.val)).getLsbD line.val = true := by
  rw [BitVec.getLsbD_or, BitVec.getLsbD_ofNat, Nat.testBit_two_pow_self, decide_eq_true line.isLt, Bool.and_self, Bool.or_true]

theorem getLsbD_pin_andNot (w : BitVec 2) (line : Fin 2) : (w &&& ~~~(BitVec.ofNat 2 (2 ^ line.val))).getLsbD line.val = false := by
  rw [BitVec.getLsbD_and, BitVec.getLsbD_not, BitVec.getLsbD_ofNat, Nat.testBit_two_pow_self, decide_eq_true line.isLt, Bool.and_self,
    Bool.not_true, Bool.and_false, Bool.and_false]

theorem pinRises_completes {c : Instr} {prims : List Primitive} (hx : Effect c s (s.dev.pinRises line hold prims)) (hq : s.dev.serviceRun = none) :
    Completes c s fun d => Leaves [.clock, .tim, .trg] (regs []) [] s.dev d
      ∧ d.clock = max s.dev.clock (SMap.get (fun _ => 0) s.dev.trg.pinHold line.val)
      ∧ d.trg.pins.getLsbD line.val = true ∧ d.trg.prims = prims := by
  refine hx.completes [.clock, .tim, .trg] (regs []) [] hq (by decide) ((Frame.refl.pinDue (by decide) (by decide)).trg (by decide))
    fun t hs hl => ⟨hl, (hs.clock (by decide)).trans (s.dev.pinDue_clock line), ?_, hs.prims (by decide)⟩
  have hpins : t.trg.pins = s.dev.trg.pins ||| BitVec.ofNat 2 (2 ^ line.val) := hs.pins (by decide)
  rw [hpins, getLsbD_pin_or]

theorem trigInSeen_completes (hq : s.dev.serviceRun = none) (hp : s.dev.pageOn .trg = true) (hlow : s.dev.trg.pins.getLsbD line.val = false)
    (hlong : 2 ≤ hold)
    (hseen : SMap.get (fun _ => 0) s.dev.trg.pinSeen line.val ≤ max s.dev.clock (SMap.get (fun _ => 0) s.dev.trg.pinHold line.val)) :
    Completes (.trigInEdge line true hold) s fun d => Leaves [.clock, .tim, .trg] (regs []) [] s.dev d
      ∧ d.clock = max s.dev.clock (SMap.get (fun _ => 0) s.dev.trg.pinHold line.val)
      ∧ d.trg.pins.getLsbD line.val = true ∧ d.trg.prims = s.dev.trg.prims ++ [⟨2, line.val, none⟩] :=
  pinRises_completes (Device.trigIn_seen hp hlow (Device.pinSeen_iff.mpr ⟨hlong, hseen⟩) ▸ Effect.trigInEdge true) hq

theorem trigInUnseen_completes (hq : s.dev.serviceRun = none) (hlow : s.dev.trg.pins.getLsbD line.val = false)
    (hno : hold < 2 ∨ max s.dev.clock (SMap.get (fun _ => 0) s.dev.trg.pinHold line.val) < SMap.get (fun _ => 0) s.dev.trg.pinSeen line.val) :
    Completes (.trigInEdge line true hold) s fun d => Leaves [.clock, .tim, .trg] (regs []) [] s.dev d
      ∧ d.trg.pins.getLsbD line.val = true ∧ d.trg.prims = s.dev.trg.prims := by
  have hns : ¬ s.dev.pinSeen line hold = true := by
    rw [Device.pinSeen_iff]
    omega
  obtain ⟨t, hx, hpend, hl, -, hpin, hprims⟩ :=
    pinRises_completes (Device.trigIn_unseen hlow hns ▸ Effect.trigInEdge (line := line) (hold := hold) true) hq
  exact ⟨t, hx, hpend, hl, hpin, hprims⟩

theorem trigInFalls_completes (hq : s.dev.serviceRun = none) (hhigh : s.dev.trg.pins.getLsbD line.val = true) :
    Completes (.trigInEdge line false hold) s fun d => Leaves [.clock, .tim, .trg] (regs []) [] s.dev d
      ∧ d.trg.pins.getLsbD line.val = false ∧ d.trg.prims = s.dev.trg.prims
      ∧ SMap.get (fun _ => 0) d.trg.pinSeen line.val = d.clock + 2 := by
  have hx : Effect (.trigInEdge line false hold) s (s.dev.pinFalls line hold s.dev.trg.prims) := Device.trigIn_falls hhigh ▸ Effect.trigInEdge false
  refine hx.completes [.clock, .tim, .trg] (regs []) [] hq (by decide) ((Frame.refl.pinDue (by decide) (by decide)).trg (by decide))
    fun t hs hl => ⟨hl, ?_, hs.prims (by decide), ?_⟩
  · have hpins : t.trg.pins = s.dev.trg.pins &&& ~~~(BitVec.ofNat 2 (2 ^ line.val)) := hs.pins (by decide)
    rw [hpins, getLsbD_pin_andNot]
  · have hseen : t.trg.pinSeen = SMap.set (fun _ => 0) s.dev.trg.pinSeen line.val ((s.dev.pinDue line).clock + 2) :=
      congrArg TrgSt.pinSeen (hs.trg (by decide))
    have hclock : t.clock = (s.dev.pinDue line).clock := hs.clock (by decide)
    rw [hseen, SMap.get_set_self, hclock]

/-- Settles O1: the effect of each command, with its frame. -/
theorem triggerTableAndPrimitives : Obligations.TriggerTableAndPrimitives := by
  unfold Obligations.TriggerTableAndPrimitives
  exact ⟨fun _ => condCommit_good_completes,
    fun _ => condCommit_rejected_completes,
    fun _ _ => swTrigWrite_completes,
    fun _ _ _ => trigInSeen_completes,
    fun _ _ _ => trigInUnseen_completes,
    fun _ _ _ => trigInFalls_completes⟩

end Sys2Proof.Machine
end

section
/-! PROOFS. What an evaluated tick, its decision and the ends of the timers of the trigger engine do (O2). -/

namespace Sys2Proof.Machine

variable {bs : List Block} {rs : Nat → Bool} {ps : List Page} {d e f : Device} {s : State} {t : Trigger} {c : Candidate} {rest : List Candidate}

/-! ### The end of a trigger (R241-R243) -/

theorem Frame.emit (h : Frame bs rs ps d e) {r : Rec} : Frame bs rs ps d (e.emit r) := h.closePacked.enqueue.pump

theorem Frame.queueReadback (h : Frame bs rs ps d e) {r : Readback} (hh : Block.his ∈ bs) : Frame bs rs ps d (e.queueReadback r) := h.his hh

theorem Frame.queueCapture (h : Frame bs rs ps d e) {c : CaptureSet} (hh : Block.his ∈ bs) : Frame bs rs ps d (e.queueCapture c) :=
  Frame.ite (fun _ => h.his hh) fun _ => h.queueReadback hh

theorem Frame.endCapture (h : Frame bs rs ps d e) (hh : Block.his ∈ bs) : Frame bs rs ps d (e.endCapture t) := by
  unfold Device.endCapture
  split
  · refine Frame.ite (fun _ => (h.his hh).freeCtxAt) fun _ => ?_
    have hdone : ∀ {x : HisSt} {i : Nat} {g : Ctx → Ctx}, Frame bs rs ps d (Device.updCtx { e with his := x } i g) := (h.his hh).updCtx
    exact Frame.ite (fun _ => hdone.queueCapture hh) fun _ => hdone
  · exact h

theorem Frame.finishTrigger (h : Frame bs rs ps d e) (ht : Block.trg ∈ bs) (hh : Block.his ∈ bs) : Frame bs rs ps d (e.finishTrigger t) :=
  ((h.trg ht).endCapture hh).closeCtx.emit

theorem Frame.finishStopped (h : Frame bs rs ps d e) (ht : Block.trg ∈ bs) (hh : Block.his ∈ bs) : Frame bs rs ps d e.finishStopped :=
  Frame.foldl _ h fun _ _ h => h.finishTrigger ht hh

/-- Without a stopped capture set none completes. -/
theorem Device.finishStopped_none (h : ∀ t ∈ d.trg.opens, t.stoppedAt = none) : d.finishStopped = d := by
  have hnone : (d.trg.opens.filter fun t => t.stoppedAt.any fun c => decide (c < d.clock)) = [] :=
    List.filter_eq_nil_iff.mpr fun t ht => by simp [h t ht]
  rw [Device.finishStopped, hnone]
  rfl

/-! ### What the entries of the condition table may change (R233) -/

/-- The registers of the engine that count what its evaluations do. -/
def evalReg (a : Nat) : Bool := pageReg .trg a && a != Reg.TRG.EXT_STATUS

/-- `e` differs from `d` in what the evaluation of the entries may change: the prescalers, the ends of re-arm, the multiplicities and the decisions of the
engine, its counters and its events. -/
structure Evaluates (d e : Device) : Prop where
  engine : e.trg = { d.trg with prescale := e.trg.prescale, rearm := e.trg.rearm, mult := e.trg.mult, decisions := e.trg.decisions,
                                forHigh := e.trg.forHigh, forFall := e.trg.forFall }
  frame : ∀ {bs rs ps x}, Block.trg ∈ bs → (∀ a, evalReg a = true → rs a = true) → Page.trg ∈ ps → Frame bs rs ps x d → Frame bs rs ps x e

theorem Evaluates.refl : Evaluates d d := ⟨rfl, fun _ _ _ h => h⟩

theorem Evaluates.trans (h : Evaluates d e) (k : Evaluates e f) : Evaluates d f where
  engine := by rw [k.engine, h.engine]
  frame ht hr hp hx := k.frame ht hr hp (h.frame ht hr hp hx)

theorem Evaluates.count (h : Evaluates d e) {a n : Nat} (ha : evalReg a = true) : Evaluates d (e.count a n) where
  engine := h.engine
  frame ht hr hp hx := (h.frame ht hr hp hx).count (.inl (hr a ha))

theorem Evaluates.raise (h : Evaluates d e) {b x : Nat} : Evaluates d (e.raise .trg b x) where
  engine := by
    have hk : Block.trg.same e (e.raise .trg b x) := Device.same_raise .trg
    simp only [Block.same] at hk
    rw [hk, h.engine]
  frame ht hr hp hx := (h.frame ht hr hp hx).raise (.inl hp)

theorem Evaluates.trg (h : Evaluates d e) {x : TrgSt}
    (hx : x = { e.trg with prescale := x.prescale, rearm := x.rearm, mult := x.mult, decisions := x.decisions }) :
    Evaluates d { e with trg := x } where
  engine := by
    show x = _
    rw [hx, h.engine]
  frame ht hr hp hf := (h.frame ht hr hp hf).trg ht

theorem Evaluates.prims (h : Evaluates d e) : e.trg.prims = d.trg.prims := by rw [h.engine]
theorem Evaluates.opens (h : Evaluates d e) : e.trg.opens = d.trg.opens := by rw [h.engine]

theorem Evaluates.within (h : Evaluates d e) : Frame [.trg] evalReg [.trg] d e :=
  h.frame (by decide) (fun _ ha => ha) (by decide) Frame.refl

theorem evalReg_cntMatch : ∀ i < 64, evalReg (Reg.TRG.CNT_MATCH i) = true := by decide

/-- An enabled entry moves its own counter, its re-arm or its prescaler. -/
theorem evaluates_evalEntry {tick i : Nat} {now : List Nat} {prims : List Primitive} (hi : i < 64) :
    Evaluates d (d.evalEntry tick now prims c i).1 := by
  unfold Device.evalEntry
  dsimp only
  split
  · exact Evaluates.refl
  · have hm : Evaluates d (d.count (Reg.TRG.CNT_MATCH i)) := Evaluates.refl.count (evalReg_cntMatch i hi)
    split
    · exact (hm.count (by decide)).raise
    · split
      · dsimp only
        split
        · exact hm.trg rfl
        · exact (hm.trg rfl).trg rfl
      · exact hm.trg rfl

theorem evaluates_entries {tick : Nat} {now : List Nat} {prims : List Primitive} (l : List Nat) (hl : ∀ i ∈ l, i < 64) (c : Candidate) :
    Evaluates d (l.foldl (fun (p : Device × Candidate) i => p.1.evalEntry tick now prims p.2 i) (d, c)).1 := by
  induction l generalizing d c with
  | nil => exact Evaluates.refl
  | cons i l ih =>
    exact (evaluates_evalEntry (hl i (by simp))).trans (ih (fun j hj => hl j (by simp [hj])) _)

/-! ### An evaluated tick (R230, R233) -/

/-- The primitives that waited are taken, and of the triggers of the DSP cores the oldest of each line. -/
def Device.primsTaken (d : Device) : Device := { d with trg := { d.trg with prims := [] }, dspTrig := (splitTrig [] d.dspTrig).2 }

/-- The tick has passed: the capture sets stopped before it are complete, and the levels of the pins and the primitives are taken. -/
def Device.sampled (d : Device) : Device :=
  (d.tick.finishStopped.setFld Reg.TRG.EXT_STATUS_LEVEL d.tick.finishStopped.trg.pins.toNat).primsTaken

/-- Taking the primitives counts the times that were clamped to the tick. -/
theorem evaluates_takePrims {tick : Nat} : Evaluates d.primsTaken (d.takePrims tick).1 := by
  simp only [Device.takePrims]
  split
  · exact Evaluates.refl
  · exact (Evaluates.refl.count (by decide)).raise

/-- The entries of the table at a tick, if a trigger may be accepted, and the candidate that they form. -/
def Device.entriesTaken (d : Device) (tick : Nat) (prims : List Primitive) : Device × Candidate :=
  let now := (List.range 16).map fun g => d.multiplicity g
  let start : Candidate := ⟨tick, 0, 64, 0, 0, 0, false, false, 0⟩
  if d.trgReady then (List.range 64).foldl (fun (p : Device × Candidate) i => p.1.evalEntry tick now prims p.2 i) (d, start) else (d, start)

/-- The multiplicities are kept for the next tick, and a candidate that does anything waits for its decision. -/
def Device.tickNoted (d : Device) (now : List Nat) (c : Candidate) : Device :=
  let d := { d with trg := { d.trg with mult := SMap.setAll (fun _ => 0) [] 0 now } }
  if c.primary < 64 || c.trigOut || c.lines != 0 then { d with trg := { d.trg with decisions := d.trg.decisions ++ [c] } } else d

theorem Device.evaluate_eq (d : Device) : d.evaluate =
    (let x := d.tick.finishStopped
     let p := (x.setFld Reg.TRG.EXT_STATUS_LEVEL x.trg.pins.toNat).takePrims x.tim.count.toNat
     let q := p.1.entriesTaken x.tim.count.toNat p.2
     q.1.tickNoted ((List.range 16).map fun g => p.1.multiplicity g) q.2) := rfl

theorem evaluates_entriesTaken {tick : Nat} {prims : List Primitive} : Evaluates d (d.entriesTaken tick prims).1 := by
  unfold Device.entriesTaken
  dsimp only
  split
  · exact evaluates_entries _ (fun i hi => List.mem_range.mp hi) _
  · exact Evaluates.refl

theorem evaluates_tickNoted {now : List Nat} : Evaluates d (d.tickNoted now c) := by
  have hm : Evaluates d { d with trg := { d.trg with mult := SMap.setAll (fun _ => 0) [] 0 now } } := Evaluates.refl.trg rfl
  unfold Device.tickNoted
  dsimp only
  split
  · exact hm.trg rfl
  · exact hm

/-- An evaluation takes the tick, and then changes what the entries may change. -/
theorem evaluates_evaluate : Evaluates d.sampled d.evaluate := by
  rw [Device.evaluate_eq]
  exact (evaluates_takePrims.trans evaluates_entriesTaken).trans evaluates_tickNoted

theorem Frame.primsTaken (h : Frame bs rs ps d e) (ht : Block.trg ∈ bs) (hd : Block.dspTrig ∈ bs) : Frame bs rs ps d e.primsTaken :=
  Frame.dspTrig (h.trg (x := { e.trg with prims := [] }) ht) hd

theorem Frame.sampled (h : Frame bs rs ps d e.tick.finishStopped) (ht : Block.trg ∈ bs) (hd : Block.dspTrig ∈ bs)
    (hr : rs Reg.TRG.EXT_STATUS = true) : Frame bs rs ps d e.sampled :=
  (h.setFld (.inl hr)).primsTaken ht hd

theorem Effect.conditionEvaluation (hp : s.dev.pageOn .trg = true) (hc : s.dev.counting = true) : Effect .conditionEvaluation s s.dev.evaluate :=
  Effect.of_run (show execConditionEvaluation s = run _ s from rfl) (if_pos (by rw [hp, hc, Bool.and_self]))

theorem pageReg_of_evalReg {a : Nat} (h : evalReg a = true) : pageReg .trg a = true := by
  rw [evalReg, Bool.and_eq_true] at h
  exact h.1

/-- One tick of the clock and of the coarse count passes. -/
theorem Device.sampled_time (hc : d.counting = true) : d.sampled.clock = d.clock + 1 ∧ d.sampled.tim.count = d.tim.count + 1 := by
  have hx : Frame [.trg, .his] (fun _ => false) [] d.tick d.tick.finishStopped := Frame.refl.finishStopped (by decide) (by decide)
  have hclock : d.tick.finishStopped.clock = d.tick.clock := hx.blocks .clock (by decide)
  have htim : d.tick.finishStopped.tim = d.tick.tim := hx.blocks .tim (by decide)
  exact ⟨hclock, (congrArg TimSt.count htim).trans (Device.tick_count d hc)⟩

theorem conditionEvaluation_completes (hq : s.dev.serviceRun = none) (hp : s.dev.pageOn .trg = true) (hc : s.dev.counting = true) :
    Completes .conditionEvaluation s fun d => d.clock = s.dev.clock + 1 ∧ d.tim.count = s.dev.tim.count + 1 ∧ d.trg.prims = [] := by
  obtain ⟨hclock, hcount⟩ := Device.sampled_time hc
  have he : Evaluates s.dev.sampled s.dev.evaluate := evaluates_evaluate
  have hx : Frame [.alarms, .clock, .tim, .trg, .his, .dspTrig] (fun _ => true) [.trg] s.dev s.dev.tick.finishStopped :=
    (Frame.refl.tick (by decide) (by decide)).finishStopped (by decide) (by decide)
  refine (Effect.conditionEvaluation hp hc).completes [.clock, .tim, .trg, .his, .dspTrig] (fun _ => true) [.trg] hq (by decide)
    (he.frame (by decide) (fun _ _ => rfl) (by decide) (hx.sampled (by decide) (by decide) rfl)) fun t hs _ => ⟨?_, ?_, ?_⟩
  · exact ((hs.clock (by decide)).trans (he.within.blocks .clock (by decide))).trans hclock
  · rw [hs.tim (by decide), he.within.blocks .tim (by decide), hcount]
  · exact (hs.prims (by decide)).trans he.prims

/-- While no capture set is stopped, a tick leaves the open triggers alone and changes nothing outside the engine's page. -/
theorem conditionEvaluation_unstopped_completes (hq : s.dev.serviceRun = none) (hp : s.dev.pageOn .trg = true) (hc : s.dev.counting = true)
    (hn : ∀ t ∈ s.dev.trg.opens, t.stoppedAt = none) :
    Completes .conditionEvaluation s fun d => Leaves [.clock, .tim, .trg, .dspTrig] (pageReg .trg) [.trg] s.dev d
      ∧ d.trg.opens = s.dev.trg.opens ∧ d.fld Reg.TRG.EXT_STATUS_LEVEL = s.dev.trg.pins.toNat := by
  have hstop : s.dev.tick.finishStopped = s.dev.tick := Device.finishStopped_none hn
  have he : Evaluates s.dev.sampled s.dev.evaluate := evaluates_evaluate
  have hsampled : s.dev.sampled = (s.dev.tick.setFld Reg.TRG.EXT_STATUS_LEVEL s.dev.trg.pins.toNat).primsTaken := by
    rw [Device.sampled, hstop]
    rfl
  have hopens : s.dev.sampled.trg.opens = s.dev.trg.opens := by rw [hsampled]; rfl
  have hlevel : s.dev.sampled.fld Reg.TRG.EXT_STATUS_LEVEL = s.dev.trg.pins.toNat := by
    rw [hsampled]
    exact (Device.fld_setFld_self s.dev.tick _ _ (by decide)).trans (Nat.mod_eq_of_lt s.dev.trg.pins.isLt)
  refine (Effect.conditionEvaluation hp hc).completes [.clock, .tim, .trg, .dspTrig] (pageReg .trg) [.trg] hq (by decide)
    (he.frame (by decide) (fun a ha => by simp [pageReg_of_evalReg ha]) (by decide)
      (Frame.sampled (hstop.symm ▸ Frame.refl.tick (by decide) (by decide)) (by decide) (by decide) (by decide))) fun t hs hl => ⟨hl, ?_, ?_⟩
  · exact (hs.opens (by decide)).trans (he.opens.trans hopens)
  · rw [hs.fld _ rfl (by decide), he.within.fld _ (by decide) (by decide), hlevel]

/-! ### The decision (R234-R238, R247) -/

/-- The candidate has left the ones that wait, and time has passed up to its decision tick. -/
def Device.decisionTick (d : Device) (c : Candidate) (rest : List Candidate) : Device :=
  Device.advanceTo { d with trg := { d.trg with decisions := rest } } (BitVec.ofNat 58 (c.tick + 6))

/-- At the decision tick the capture sets stopped before it are complete, and the front has moved. -/
def Device.atDecision (d : Device) (c : Candidate) (rest : List Candidate) : Device := (d.decisionTick c rest).finishStopped.advanceFront

theorem effect_triggerDecision (hp : s.dev.pageOn .trg = true) : Effect .triggerDecision s s.dev.decideNext :=
  Effect.of_run (show execTriggerDecision s = run _ s from rfl) (if_pos hp)

/-- The outputs of a candidate assert at its decision tick, if a trigger may be accepted; then its trigger is tested. -/
theorem Device.decideNext_ready (hc : d.trg.decisions = c :: rest) (hr : (d.atDecision c rest).trgReady = true) :
    d.decideNext = if c.primary < 64 then ((d.atDecision c rest).assertOutputs c).testTrigger c else (d.atDecision c rest).assertOutputs c := by
  rw [Device.decideNext, hc]
  exact if_neg (by rw [Bool.not_eq_true', Bool.not_eq_false]; exact hr)

/-- A candidate without a trigger drives its outputs only. -/
theorem effect_triggerDecision_outputs (hp : s.dev.pageOn .trg = true) (hc : s.dev.trg.decisions = c :: rest)
    (hd : d = s.dev.atDecision c rest) (hr : d.trgReady = true) (hn : 64 ≤ c.primary) : Effect .triggerDecision s (d.assertOutputs c) := by
  subst hd
  have hx := effect_triggerDecision hp
  rwa [Device.decideNext_ready hc hr, if_neg (by omega)] at hx

/-- The tests of R235 for a trigger without a capture set that needs no readback: its window begins after the arming, and it has its context. -/
theorem Device.testTrigger_opens {k : Nat} (hcap : c.capture = false) (hmode : (d.presentFrame.map (·.mode)) ≠ some 1)
    (harm : ((d.trg.armAt.toNat * 64 : Nat) : Int) ≤ (c.time : Int) - 64 * (c.pre : Int))
    (hctx : d.allocCtx 1 (BitVec.ofNat 24 (d.fld Reg.TRG.TRIG_NUM_NEXT)) = (e, some k)) : d.testTrigger c = e.acceptTrigger c k false none := by
  have hpre : ¬ (c.time : Int) - 64 * (c.pre : Int) < ((d.trg.armAt.toNat * 64 : Nat) : Int) := not_lt.mpr harm
  simp only [Device.testTrigger, hcap, decide_eq_false hmode, decide_eq_false hpre, hctx, Bool.false_and, Bool.and_false, Bool.or_self,
    Bool.not_false, Bool.false_eq_true, if_false, if_true]

theorem Device.trgReady_assertOutputs (d : Device) (c : Candidate) : (d.assertOutputs c).trgReady = d.trgReady := by
  unfold Device.assertOutputs
  dsimp only
  split <;> rfl

theorem effect_triggerDecision_opens {k : Nat} (hp : s.dev.pageOn .trg = true) (hc : s.dev.trg.decisions = c :: rest)
    (hd : d = (s.dev.atDecision c rest).assertOutputs c) (hr : d.trgReady = true) (hn : c.primary < 64) (hcap : c.capture = false)
    (hmode : (d.presentFrame.map (·.mode)) ≠ some 1) (harm : ((d.trg.armAt.toNat * 64 : Nat) : Int) ≤ (c.time : Int) - 64 * (c.pre : Int))
    (hctx : d.allocCtx 1 (BitVec.ofNat 24 (d.fld Reg.TRG.TRIG_NUM_NEXT)) = (e, some k)) :
    Effect .triggerDecision s (e.acceptTrigger c k false none) := by
  have hr' : (s.dev.atDecision c rest).trgReady = true := by rwa [hd, Device.trgReady_assertOutputs] at hr
  have hx := effect_triggerDecision hp
  rwa [Device.decideNext_ready hc hr', if_pos hn, ← hd, Device.testTrigger_opens hcap hmode harm hctx] at hx

theorem Frame.decisionTick (h : Frame bs rs ps d e) (hc : Block.clock ∈ bs) (ht : Block.tim ∈ bs) (hg : Block.trg ∈ bs) :
    Frame bs rs ps d (e.decisionTick c rest) := (h.trg hg).advanceTo hc ht

theorem Device.trg_decisionTick (d : Device) (c : Candidate) (rest : List Candidate) :
    (d.decisionTick c rest).trg = { d.trg with decisions := rest } := by
  unfold Device.decisionTick Device.advanceTo
  dsimp only
  split <;> rfl

/-- While no capture set is stopped, only the front moves at the decision tick. -/
theorem Device.atDecision_unstopped (hn : ∀ t ∈ d.trg.opens, t.stoppedAt = none) : d.atDecision c rest = (d.decisionTick c rest).advanceFront := by
  have hn' : ∀ t ∈ (d.decisionTick c rest).trg.opens, t.stoppedAt = none := by rwa [Device.trg_decisionTick]
  exact congrArg Device.advanceFront (Device.finishStopped_none hn')

theorem Frame.atDecision (h : Frame bs rs ps d e) (hc : Block.clock ∈ bs) (ht : Block.tim ∈ bs) (hg : Block.trg ∈ bs)
    (hn : ∀ t ∈ e.trg.opens, t.stoppedAt = none) : Frame bs rs ps d (e.atDecision c rest) := by
  rw [Device.atDecision_unstopped hn]
  exact (h.decisionTick hc ht hg).advanceFront

theorem Device.atDecision_tick (hn : ∀ t ∈ d.trg.opens, t.stoppedAt = none) :
    Frame [] (fun _ => false) [] (d.decisionTick c rest) (d.atDecision c rest) := by
  rw [Device.atDecision_unstopped hn]
  exact Frame.refl.advanceFront

theorem Device.trg_atDecision (hn : ∀ t ∈ d.trg.opens, t.stoppedAt = none) :
    (d.atDecision c rest).trg = { d.trg with decisions := rest, forHigh := (d.atDecision c rest).trg.forHigh, forFall := (d.atDecision c rest).trg.forFall } := by
  have ht := (Device.atDecision_tick (c := c) (rest := rest) hn).blocks .trg (by decide)
  rwa [Block.same, Device.trg_decisionTick] at ht

/-- A decision tick that lies ahead is reached. -/
theorem Device.count_atDecision (hn : ∀ t ∈ d.trg.opens, t.stoppedAt = none) (h : (BitVec.ofNat 58 (c.tick + 6) - d.tim.count).toNat < 2 ^ 57) :
    (d.atDecision c rest).tim.count = BitVec.ofNat 58 (c.tick + 6) :=
  (congrArg TimSt.count ((Device.atDecision_tick hn).blocks .tim (by decide))).trans (Device.advanceTo_count _ _ h)

/-- Whether triggers are accepted depends on the engine's page and the service level. -/
theorem Frame.trgReady (h : Frame bs (fun _ => false) ps d e) (hb : Block.pwr ∉ bs) : e.trgReady = d.trgReady := by
  simp only [Device.trgReady, Device.enabled, h.pageOn hb rfl rfl, h.flag (fEnable .trg) rfl (by decide), h.flag (fAbort .trg) rfl (by decide),
    h.fld Reg.HLT.SERVICE_LEVEL_LEVEL rfl (by decide)]

/-- A candidate that drives TRIG_OUT starts its pulse, or extends the one that runs; the lines it names are pulsed. -/
theorem Device.assertOutputs_drives (h : c.trigOut = true) : d.assertOutputs c = { d with trg := { d.trg with
    outUntil := some (max (d.trg.outUntil.getD 0) (d.clock + max 1 (d.fld Reg.TRG.TRIG_OUT_CTRL_WIDTH)))
    lines := d.trg.lines ++ (([0, 1, 2, 3] : List (Fin 4)).filter fun n => c.lines.getLsbD n.val).map fun n => (n, c.tick + 6) } } := by
  simp only [Device.assertOutputs, h, if_true]

theorem triggerDecision_outputs_completes (hq : s.dev.serviceRun = none) (hp : s.dev.pageOn .trg = true) (hr : s.dev.trgReady = true)
    (hc : s.dev.trg.decisions = c :: rest) (hnone : 64 ≤ c.primary) (hout : c.trigOut = true) (hfits : c.tick + 6 < 2 ^ 58)
    (hahead : (BitVec.ofNat 58 (c.tick + 6) - s.dev.tim.count).toNat < 2 ^ 57) (hn : ∀ t ∈ s.dev.trg.opens, t.stoppedAt = none) :
    Completes .triggerDecision s fun d => Leaves [.clock, .tim, .trg] (regs []) [] s.dev d
      ∧ d.trg.decisions = rest ∧ d.tim.count.toNat = c.tick + 6
      ∧ d.trg.outUntil = some (max (s.dev.trg.outUntil.getD 0) (d.clock + max 1 (s.dev.fld Reg.TRG.TRIG_OUT_CTRL_WIDTH))) := by
  have F : Frame [.clock, .tim, .trg] (fun _ => false) [] s.dev (s.dev.atDecision c rest) :=
    Frame.refl.atDecision (by decide) (by decide) (by decide) hn
  have hx := effect_triggerDecision_outputs hp hc rfl ((F.trgReady (by decide)).trans hr) hnone
  rw [Device.assertOutputs_drives hout] at hx
  refine hx.completes [.clock, .tim, .trg] (regs []) [] hq (by decide)
    ((Frame.refl.atDecision (by decide) (by decide) (by decide) hn).trg (by decide)) fun t hs hl => ⟨hl, ?_, ?_, ?_⟩
  · rw [hs.trg (by decide), Device.trg_atDecision hn]
  · rw [hs.tim (by decide), Device.count_atDecision hn hahead, BitVec.toNat_ofNat, Nat.mod_eq_of_lt hfits]
  · have hclock : t.clock = (s.dev.atDecision c rest).clock := hs.clock (by decide)
    have huntil : (s.dev.atDecision c rest).trg.outUntil = s.dev.trg.outUntil := by rw [Device.trg_atDecision hn]
    have hpulse : t.trg.outUntil = some (max ((s.dev.atDecision c rest).trg.outUntil.getD 0)
        ((s.dev.atDecision c rest).clock + max 1 ((s.dev.atDecision c rest).fld Reg.TRG.TRIG_OUT_CTRL_WIDTH))) :=
      congrArg TrgSt.outUntil (hs.trg (by decide))
    rw [hpulse, huntil, hclock, F.fld Reg.TRG.TRIG_OUT_CTRL_WIDTH rfl (by decide)]

/-! ### The ends of re-arm and of the pulse (R233, R237, R247) -/

theorem rearmExpire_completes {cond : Fin 64} (hq : s.dev.serviceRun = none) :
    Completes (.rearmExpire cond) s fun d => Leaves [.clock, .tim, .trg] (regs []) [] s.dev d
      ∧ d.clock = max s.dev.clock (SMap.get (fun _ => 0) s.dev.trg.rearm cond.val) ∧ SMap.get (fun _ => 0) d.trg.rearm cond.val = 0
      ∧ ∀ j, j ≠ cond.val → SMap.get (fun _ => 0) d.trg.rearm j = SMap.get (fun _ => 0) s.dev.trg.rearm j := by
  have hx : Effect (.rearmExpire cond) s
      { s.dev.waitUntil (SMap.get (fun _ => 0) s.dev.trg.rearm cond.val) with
        trg := { s.dev.trg with rearm := SMap.set (fun _ => 0) s.dev.trg.rearm cond.val 0 } } := rfl
  refine hx.completes [.clock, .tim, .trg] (regs []) [] hq (by decide) ((Frame.refl.waitUntil (by decide) (by decide)).trg (by decide))
    fun t hs hl => ?_
  have hrearm : t.trg.rearm = SMap.set (fun _ => 0) s.dev.trg.rearm cond.val 0 := congrArg TrgSt.rearm (hs.trg (by decide))
  refine ⟨hl, (hs.clock (by decide)).trans (Device.waitUntil_clock _ _), ?_, fun j hj => ?_⟩
  · rw [hrearm, SMap.get_set_self]
  · rw [hrearm, SMap.get_set_ne _ _ _ hj]

/-- Without a pulse TRIG_OUT is asserted by FORCE alone. -/
theorem Device.trigOut_idle (h : d.trg.outUntil = none) : d.trigOut = (d.trgReady && d.flag Reg.TRG.TRIG_OUT_CTRL_FORCE) := by
  rw [Device.trigOut, h, Option.any_none, Bool.or_false]

theorem trigOutPulseEnd_completes {ends : Nat} (hq : s.dev.serviceRun = none) (hu : s.dev.trg.outUntil = some ends) :
    Completes .trigOutPulseEnd s fun d => Leaves [.clock, .tim, .trg] (regs []) [] s.dev d
      ∧ d.clock = max s.dev.clock ends ∧ d.trg.outUntil = none ∧ d.trigOut = (d.trgReady && d.flag Reg.TRG.TRIG_OUT_CTRL_FORCE)
      ∧ d.trigPin = ((d.trgReady && d.flag Reg.TRG.TRIG_OUT_CTRL_FORCE) != d.flag Reg.TRG.TRIG_OUT_CTRL_INVERT) := by
  have hx : Effect .trigOutPulseEnd s { s.dev.waitUntil ends with trg := { s.dev.trg with outUntil := none } } :=
    Effect.of_run (show execTrigOutPulseEnd s = run _ s from rfl) (by simp only [hu])
  refine hx.completes [.clock, .tim, .trg] (regs []) [] hq (by decide) ((Frame.refl.waitUntil (by decide) (by decide)).trg (by decide))
    fun t hs hl => ?_
  have hnone : t.trg.outUntil = none := congrArg TrgSt.outUntil (hs.trg (by decide))
  exact ⟨hl, (hs.clock (by decide)).trans (Device.waitUntil_clock _ _), hnone, Device.trigOut_idle hnone,
    by rw [Device.trigPin, Device.trigOut_idle hnone]⟩

/-- Settles O2: the effect of each command, with its frame where it completes. -/
theorem triggerTickDecisionAndTimers : Obligations.TriggerTickDecisionAndTimers := by
  unfold Obligations.TriggerTickDecisionAndTimers
  exact ⟨fun _ => conditionEvaluation_completes,
    fun _ => conditionEvaluation_unstopped_completes,
    fun _ _ _ => triggerDecision_outputs_completes,
    fun _ _ _ _ => effect_triggerDecision_outputs,
    fun _ _ _ _ _ _ => effect_triggerDecision_opens,
    fun _ _ => rearmExpire_completes,
    fun _ _ => trigOutPulseEnd_completes⟩

end Sys2Proof.Machine
end

section
/-! PROOFS. How open triggers and capture sets end, and the intervals and the release of the mask tests (O3). -/

namespace Sys2Proof.Machine

variable {bs : List Block} {rs : Nat → Bool} {ps : List Page} {d e : Device} {s : State} {t : Trigger} {test : Fin 8} {k n ct : Nat}

/-! ### Open triggers and capture sets (R241, R242) -/

theorem effect_triggerWindowClose (hd : d = s.dev.finishStopped.advanceFront)
    (hf : (d.trg.opens.find? fun t => t.capture.isNone && d.windowPassed t) = some t) : Effect .triggerWindowClose s (d.finishTrigger t) :=
  Effect.of_run (show execTriggerWindowClose s = run _ s from rfl) (by simp only [← hd, hf])

theorem effect_captureDone (hd : d = s.dev.finishStopped.advanceFront) (hf : (d.capturing.find? fun t => d.captureWritten t) = some t) :
    Effect .captureDone s (((d.count Reg.TRG.CNT_CAPTURES).finishTrigger t).raise .trg 6) :=
  Effect.of_run (show execCaptureDone s = run _ s from rfl) (by simp only [← hd, hf])

/-- A trigger without a capture set leaves the open ones, closes its context and queues its record. -/
theorem Device.finishTrigger_uncaptured (h : t.capture = none) :
    d.finishTrigger t = (Device.closeCtx { d with trg := { d.trg with opens := d.trg.opens.filter fun x => x.num != t.num } } t.ctx).emit t.record := by
  simp only [Device.finishTrigger, Device.endCapture, h]

/-! ### The intervals of an occupancy test (R244) -/

/-- The interval whose end the test waits for is taken: its hits are counted no longer, and the next one is awaited. -/
def Device.intervalTaken (d : Device) (test : Nat) : Device :=
  let k := SMap.get (fun _ => 0) d.trg.maskDone test
  { d with trg := { d.trg with
    maskDone := SMap.set (fun _ => 0) d.trg.maskDone test (k + 1)
    maskHits := SMap.set (fun _ => 0) d.trg.maskHits ((k - 1) * 8 + test) 0 } }

/-- An interval is evaluated once the front has passed its end and no hit before it waits in the sort buffer. -/
theorem Device.maskInterval_due {test : Nat} (hk : SMap.get (fun _ => 0) d.trg.maskDone test = k)
    (hfront : ((k * 2 ^ d.maskIvl test * 64 : Nat) : Int) ≤ d.evb.front) (hsort : ∀ h ∈ d.evb.sort, k * 2 ^ d.maskIvl test * 64 ≤ h.toa)
    (hn : SMap.get (fun _ => 0) d.trg.maskHits ((k - 1) * 8 + test) = n) :
    d.maskInterval test = (d.intervalTaken test).maskStep test (k * 2 ^ d.maskIvl test)
      (decide (n < d.fld (Reg.TRG.MT_LOW_LOW test)) || decide (d.fld (Reg.TRG.MT_HIGH_HIGH test) < n)) := by
  have hreleased : (d.evb.sort.any fun h => decide (h.toa < k * 2 ^ d.maskIvl test * 64)) = false :=
    List.any_eq_false.mpr fun h hh => by simpa using hsort h hh
  have hdue : ¬ (decide (d.evb.front < ((k * 2 ^ d.maskIvl test * 64 : Nat) : Int))
      || d.evb.sort.any fun h => decide (h.toa < k * 2 ^ d.maskIvl test * 64)) = true := by
    rw [hreleased, Bool.or_false, decide_eq_true_eq]
    omega
  simp only [Device.maskInterval, hk, hn]
  rw [if_neg hdue]
  simp only [Device.intervalTaken, hk]
  rfl

/-- An interval within the bounds ends the run of violations. -/
theorem Device.maskStep_quiet {test : Nat} : d.maskStep test ct false = d.setFld (Reg.TRG.MT_CONSEC_RUN test) 0 := rfl

/-- One outside them prolongs the run, as long as it stays below CONSEC. -/
theorem Device.maskStep_prolongs {test : Nat} (h : d.fld (Reg.TRG.MT_CONSEC_RUN test) + 1 < d.fld (Reg.TRG.MT_CONSEC_CONSEC test)) :
    d.maskStep test ct true = d.setFld (Reg.TRG.MT_CONSEC_RUN test) (d.fld (Reg.TRG.MT_CONSEC_RUN test) + 1) := by
  have hmax : d.fld (Reg.TRG.MT_CONSEC_CONSEC test) < 2 ^ 16 := Fld.of_lt (Reg.TRG.MT_CONSEC_CONSEC test) _
  have hrun : min (d.fld (Reg.TRG.MT_CONSEC_RUN test) + 1) 65535 = d.fld (Reg.TRG.MT_CONSEC_RUN test) + 1 := by omega
  have hconsec : (d.setFld (Reg.TRG.MT_CONSEC_RUN test) (d.fld (Reg.TRG.MT_CONSEC_RUN test) + 1)).fld (Reg.TRG.MT_CONSEC_CONSEC test)
      = d.fld (Reg.TRG.MT_CONSEC_CONSEC test) := Device.fld_setFld_other d _ _ _ (.inr ⟨show 0 + 16 ≤ 32 by decide, .inl (show 0 + 16 ≤ 16 by decide)⟩)
  simp only [Device.maskStep, Bool.not_true, Bool.false_eq_true, if_false, hrun, hconsec]
  exact if_neg (by omega)

theorem effect_maskTestInterval (hd : d = s.dev.advanceFront) (hp : d.pageOn .trg = true) (he : d.flag (Reg.TRG.MT_CTRL_EN test.val) = true)
    (hk : d.flag (Reg.TRG.MT_CTRL_KIND test.val) = false) : Effect (.maskTestInterval test) s (d.maskInterval test.val) :=
  Effect.of_run (show execMaskTestInterval test s = run _ s from rfl) (by simp only [← hd, hp, he, hk, Bool.not_false, Bool.and_self, if_true])

theorem effect_maskTestInterval_quiet (hd : d = s.dev.advanceFront) (hp : d.pageOn .trg = true) (he : d.flag (Reg.TRG.MT_CTRL_EN test.val) = true)
    (hkind : d.flag (Reg.TRG.MT_CTRL_KIND test.val) = false) (hk : SMap.get (fun _ => 0) d.trg.maskDone test.val = k)
    (hfront : ((k * 2 ^ d.maskIvl test.val * 64 : Nat) : Int) ≤ d.evb.front)
    (hsort : ∀ h ∈ d.evb.sort, k * 2 ^ d.maskIvl test.val * 64 ≤ h.toa)
    (hn : SMap.get (fun _ => 0) d.trg.maskHits ((k - 1) * 8 + test.val) = n)
    (hlow : d.fld (Reg.TRG.MT_LOW_LOW test.val) ≤ n) (hhigh : n ≤ d.fld (Reg.TRG.MT_HIGH_HIGH test.val)) :
    Effect (.maskTestInterval test) s (Device.setFld { d with trg := { d.trg with
      maskDone := SMap.set (fun _ => 0) d.trg.maskDone test.val (k + 1)
      maskHits := SMap.set (fun _ => 0) d.trg.maskHits ((k - 1) * 8 + test.val) 0 } } (Reg.TRG.MT_CONSEC_RUN test.val) 0) := by
  have hx := effect_maskTestInterval hd hp he hkind
  rw [Device.maskInterval_due hk hfront hsort hn, decide_eq_false (Nat.not_lt.mpr hlow), decide_eq_false (Nat.not_lt.mpr hhigh), Bool.or_self,
    Device.maskStep_quiet] at hx
  subst hk
  exact hx

theorem effect_maskTestInterval_prolongs (hd : d = s.dev.advanceFront) (hp : d.pageOn .trg = true) (he : d.flag (Reg.TRG.MT_CTRL_EN test.val) = true)
    (hkind : d.flag (Reg.TRG.MT_CTRL_KIND test.val) = false) (hk : SMap.get (fun _ => 0) d.trg.maskDone test.val = k)
    (hfront : ((k * 2 ^ d.maskIvl test.val * 64 : Nat) : Int) ≤ d.evb.front)
    (hsort : ∀ h ∈ d.evb.sort, k * 2 ^ d.maskIvl test.val * 64 ≤ h.toa)
    (hn : SMap.get (fun _ => 0) d.trg.maskHits ((k - 1) * 8 + test.val) = n)
    (hout : n < d.fld (Reg.TRG.MT_LOW_LOW test.val) ∨ d.fld (Reg.TRG.MT_HIGH_HIGH test.val) < n)
    (hrun : d.fld (Reg.TRG.MT_CONSEC_RUN test.val) + 1 < d.fld (Reg.TRG.MT_CONSEC_CONSEC test.val)) :
    Effect (.maskTestInterval test) s (Device.setFld { d with trg := { d.trg with
      maskDone := SMap.set (fun _ => 0) d.trg.maskDone test.val (k + 1)
      maskHits := SMap.set (fun _ => 0) d.trg.maskHits ((k - 1) * 8 + test.val) 0 } } (Reg.TRG.MT_CONSEC_RUN test.val)
        (d.fld (Reg.TRG.MT_CONSEC_RUN test.val) + 1)) := by
  have hx := effect_maskTestInterval hd hp he hkind
  have hviolates : (decide (n < d.fld (Reg.TRG.MT_LOW_LOW test.val)) || decide (d.fld (Reg.TRG.MT_HIGH_HIGH test.val) < n)) = true := by
    rwa [Bool.or_eq_true, decide_eq_true_eq, decide_eq_true_eq]
  rw [Device.maskInterval_due hk hfront hsort hn, hviolates, Device.maskStep_prolongs (d := d.intervalTaken test.val) hrun] at hx
  subst hk
  exact hx

/-! ### The release of the tests (R246) -/

/-- The tests of the list lose their runs of violations. -/
def Device.clearRuns (d : Device) (tests : List Nat) : Device := tests.foldl (fun d t => d.setFld (Reg.TRG.MT_CONSEC_RUN t) 0) d

/-- No test is violated, and no run of violations is left. -/
def Device.testsCleared (d : Device) : Device :=
  ((d.setFld Reg.TRG.MASK_STATUS_VIOLATED 0).setFld Reg.TRG.MASK_STATUS_FIRST 0).clearRuns (List.range 8)

theorem Frame.clearRuns (h : Frame bs rs ps d e) {tests : List Nat} (hr : ∀ x ∈ tests, rs (Reg.TRG.MT_CONSEC x) = true) :
    Frame bs rs ps d (e.clearRuns tests) := by
  induction tests generalizing e with
  | nil => exact h
  | cons x tests ih => exact ih (h.setFld (.inl (hr x (by simp)))) fun y hy => hr y (by simp [hy])

theorem Device.word_clearRuns {a : Nat} (tests : List Nat) (h : ∀ x, a ≠ Reg.TRG.MT_CONSEC x) : (d.clearRuns tests).word a = d.word a := by
  induction tests generalizing d with
  | nil => rfl
  | cons x tests ih => exact ih.trans (Device.word_setFld_ne (h x))

theorem mtConsec_inj {i j : Nat} (h : Reg.TRG.MT_CONSEC i = Reg.TRG.MT_CONSEC j) : i = j := by
  simp only [Reg.TRG.MT_CONSEC] at h
  omega

/-- A run that is cleared, or is 0 already, is 0 afterwards. -/
theorem Device.fld_run_clearRuns {tests : List Nat} (h : k ∈ tests ∨ d.fld (Reg.TRG.MT_CONSEC_RUN k) = 0) :
    (d.clearRuns tests).fld (Reg.TRG.MT_CONSEC_RUN k) = 0 := by
  induction tests generalizing d with
  | nil => exact h.resolve_left (by simp)
  | cons x tests ih =>
    by_cases hx : k = x
    · subst hx
      exact ih (.inr (Device.fld_setFld_self d _ 0 (show 16 + 16 ≤ 32 by decide)))
    · refine ih (h.imp (fun hm => (List.mem_cons.mp hm).resolve_left hx) fun h0 => ?_)
      exact (Device.fld_setFld_ne (fun ha => hx (mtConsec_inj ha))).trans h0

theorem maskStatus_ne_mtConsec (x : Nat) : Reg.TRG.MASK_STATUS ≠ Reg.TRG.MT_CONSEC x := by
  simp only [Reg.TRG.MASK_STATUS, Reg.TRG.MT_CONSEC]
  omega

theorem Device.fld_violated_testsCleared (d : Device) : d.testsCleared.fld Reg.TRG.MASK_STATUS_VIOLATED = 0 :=
  calc d.testsCleared.fld Reg.TRG.MASK_STATUS_VIOLATED
    _ = ((d.setFld Reg.TRG.MASK_STATUS_VIOLATED 0).setFld Reg.TRG.MASK_STATUS_FIRST 0).fld Reg.TRG.MASK_STATUS_VIOLATED :=
      congrArg (Fld.of _) (Device.word_clearRuns _ maskStatus_ne_mtConsec)
    _ = (d.setFld Reg.TRG.MASK_STATUS_VIOLATED 0).fld Reg.TRG.MASK_STATUS_VIOLATED := Device.fld_setFld_other _ _ _ _ (.inr (by decide))
    _ = 0 := Device.fld_setFld_self _ _ _ (by decide)

theorem Device.fld_first_testsCleared (d : Device) : d.testsCleared.fld Reg.TRG.MASK_STATUS_FIRST = 0 :=
  (congrArg (Fld.of _) (Device.word_clearRuns _ maskStatus_ne_mtConsec)).trans (Device.fld_setFld_self _ _ _ (by decide))

theorem Device.fld_run_testsCleared (d : Device) (k : Fin 8) : d.testsCleared.fld (Reg.TRG.MT_CONSEC_RUN k.val) = 0 :=
  Device.fld_run_clearRuns (.inl (List.mem_range.mpr k.isLt))

theorem Frame.testsCleared (h : Frame bs rs ps d e) (hs : rs Reg.TRG.MASK_STATUS = true) (hr : ∀ k < 8, rs (Reg.TRG.MT_CONSEC k) = true) :
    Frame bs rs ps d e.testsCleared :=
  ((h.setFld (.inl hs)).setFld (.inl hs)).clearRuns fun k hk => hr k (List.mem_range.mp hk)

theorem Device.frozen_testsCleared (d : Device) : d.testsCleared.his.frozen = d.his.frozen := by
  have hb : Block.his.same d d.testsCleared :=
    (Frame.testsCleared (bs := []) (rs := fun _ => true) (ps := []) Frame.refl rfl fun _ _ => rfl).blocks .his (by decide)
  simp only [Block.same] at hb
  rw [hb]

/-- The tests are cleared and a frozen ring resumes at the next frame start. -/
theorem Device.releaseMask_frozen (h : d.his.frozen = true) :
    d.releaseMask = { d.testsCleared with his := { d.testsCleared.his with resumeNext := true } } := if_pos (d.frozen_testsCleared.trans h)

theorem Device.releaseMask_running (h : d.his.frozen = false) : d.releaseMask = d.testsCleared :=
  if_neg (Bool.eq_false_iff.mp (d.frozen_testsCleared.trans h))

theorem effect_maskRelease (hp : s.dev.pageOn .trg = true) : Effect .maskRelease s s.dev.releaseMask :=
  Effect.of_run (show execMaskRelease s = run _ s from rfl) (if_pos hp)

theorem pageReg_mtConsec : ∀ k < 8, pageReg .trg (Reg.TRG.MT_CONSEC k) = true := by decide

theorem plainReg_mtConsec : ∀ k : Fin 8, plainReg (Reg.TRG.MT_CONSEC k.val) = true := by decide

/-- What the release leaves of the tests, in every device that its follow-up can make. -/
theorem Leaves.testsCleared {u : Device} (h : Leaves bs (fun _ => false) ps e u) (he : e.regs = d.testsCleared.regs) :
    u.fld Reg.TRG.MASK_STATUS_VIOLATED = 0 ∧ u.fld Reg.TRG.MASK_STATUS_FIRST = 0 ∧ ∀ k : Fin 8, u.fld (Reg.TRG.MT_CONSEC_RUN k.val) = 0 := by
  have keep : ∀ f : Fld, plainReg f.addr = true → u.fld f = d.testsCleared.fld f := fun f hf => (h.fld f rfl hf).trans (Device.fld_congr he f)
  exact ⟨(keep _ (by decide)).trans d.fld_violated_testsCleared, (keep _ (by decide)).trans d.fld_first_testsCleared,
    fun k => (keep (Reg.TRG.MT_CONSEC_RUN k.val) (plainReg_mtConsec k)).trans (d.fld_run_testsCleared k)⟩

theorem maskRelease_frozen_completes (hq : s.dev.serviceRun = none) (hp : s.dev.pageOn .trg = true) (hf : s.dev.his.frozen = true) :
    Completes .maskRelease s fun d => Leaves [.his] (pageReg .trg) [] s.dev d
      ∧ d.fld Reg.TRG.MASK_STATUS_VIOLATED = 0 ∧ d.fld Reg.TRG.MASK_STATUS_FIRST = 0
      ∧ (∀ k : Fin 8, d.fld (Reg.TRG.MT_CONSEC_RUN k.val) = 0) ∧ d.his.resumeNext = true := by
  have hx := effect_maskRelease hp
  rw [Device.releaseMask_frozen hf] at hx
  refine hx.completes [.his] (pageReg .trg) [] hq (by decide)
    ((Frame.refl.testsCleared (by decide) fun k hk => by simp [pageReg_mtConsec k hk]).his (by decide)) fun u hs hl => ?_
  obtain ⟨hviolated, hfirst, hruns⟩ := hs.testsCleared (d := s.dev) rfl
  have hhis := hs.block .his (by decide) (by decide)
  exact ⟨hl, hviolated, hfirst, hruns, congrArg HisSt.resumeNext hhis⟩

theorem maskRelease_running_completes (hq : s.dev.serviceRun = none) (hp : s.dev.pageOn .trg = true) (hf : s.dev.his.frozen = false) :
    Completes .maskRelease s fun d => Leaves [] (pageReg .trg) [] s.dev d
      ∧ d.fld Reg.TRG.MASK_STATUS_VIOLATED = 0 ∧ ∀ k : Fin 8, d.fld (Reg.TRG.MT_CONSEC_RUN k.val) = 0 := by
  have hx := effect_maskRelease hp
  rw [Device.releaseMask_running hf] at hx
  refine hx.completes [] (pageReg .trg) [] hq (by decide)
    (Frame.refl.testsCleared (by decide) fun k hk => by simp [pageReg_mtConsec k hk]) fun u hs hl => ?_
  obtain ⟨hviolated, -, hruns⟩ := hs.testsCleared (d := s.dev) rfl
  exact ⟨hl, hviolated, hruns⟩

/-- Settles O3: the effect of each command, with its frame where it completes. -/
theorem triggerWindowsAndMaskTests : Obligations.TriggerWindowsAndMaskTests := by
  unfold Obligations.TriggerWindowsAndMaskTests
  exact ⟨fun _ _ _ hd hf hc => Device.finishTrigger_uncaptured hc ▸ effect_triggerWindowClose hd hf,
    fun _ _ _ => effect_captureDone,
    fun _ _ _ _ _ => effect_maskTestInterval_quiet,
    fun _ _ _ _ _ => effect_maskTestInterval_prolongs,
    fun _ => maskRelease_frozen_completes,
    fun _ => maskRelease_running_completes⟩

end Sys2Proof.Machine
end

section
/-! PROOFS. A word of the history memory that is read back as it was written (O18). -/

namespace Sys2Proof.Machine

/-! ### Parity -/

theorem parityOf_eq (n v : Nat) : parityOf n v = ((List.range n).map fun i => (v.testBit i).toNat).sum % 2 := by
  simp only [parityOf, Nat.toNat_testBit]

/-- The parity of a number in two parts is that of its parts. -/
theorem parityOf_add {m n a b : Nat} (hb : b < 2 ^ m) : parityOf (m + n) (2 ^ m * a + b) = (parityOf m b + parityOf n a) % 2 := by
  have hlow : ((List.range m).map fun i => ((2 ^ m * a + b).testBit i).toNat) = (List.range m).map fun i => (b.testBit i).toNat :=
    List.map_congr_left fun i hi => by rw [Nat.testBit_two_pow_mul_add _ hb, if_pos (List.mem_range.mp hi)]
  have hhigh : (List.range n).map ((fun i => ((2 ^ m * a + b).testBit i).toNat) ∘ (m + ·)) = (List.range n).map fun i => (a.testBit i).toNat :=
    List.map_congr_left fun i _ => by
      rw [Function.comp_apply, Nat.testBit_two_pow_mul_add _ hb, if_neg (by omega), Nat.add_sub_cancel_left]
  rw [parityOf_eq, parityOf_eq, parityOf_eq, List.range_add, List.map_append, List.map_map, hlow, hhigh, List.sum_append, ← Nat.add_mod]

/-! ### The ECC bits (R262) -/

/-- The seven bits of the Hamming code. -/
def hamming (w : W64) : Nat := (dataPlaces.zipIdx.filter fun p => w.getLsbD p.2).foldl (fun c p => Nat.xor c p.1) 0

theorem foldl_xor_lt {n : Nat} {ps : List (Nat × Nat)} (h : ∀ p ∈ ps, p.1 < 2 ^ n) {c : Nat} (hc : c < 2 ^ n) :
    ps.foldl (fun c p => Nat.xor c p.1) c < 2 ^ n := by
  induction ps generalizing c with
  | nil => exact hc
  | cons p ps ih => exact ih (fun q hq => h q (by simp [hq])) (Nat.xor_lt_two_pow hc (h p (by simp)))

theorem hamming_lt (w : W64) : hamming w < 2 ^ 7 := by
  have hplaces : ∀ p ∈ dataPlaces.zipIdx, p.1 < 2 ^ 7 := by decide
  exact foldl_xor_lt (fun p hp => hplaces p (List.mem_filter.mp hp).1) (by decide)

theorem secded_toNat (w : W64) : (secded w).toNat = 2 ^ 7 * ((parityOf 64 w.toNat + parityOf 7 (hamming w)) % 2) + hamming w := by
  have hlt := hamming_lt w
  have hmod : (secded w).toNat = (hamming w + 128 * ((parityOf 64 w.toNat + parityOf 7 (hamming w)) % 2)) % 2 ^ 8 := BitVec.toNat_ofNat _ _
  rw [hmod]
  omega

theorem parityOf_one_mod (v : Nat) : parityOf 1 (v % 2) = v % 2 := by
  simp [parityOf]

/-- A word and its SECDED bits have an even number of ones. -/
theorem parityOf_secded (w : W64) : parityOf 72 (2 ^ 64 * (secded w).toNat + w.toNat) = 0 := by
  have hcheck : parityOf 8 (secded w).toNat = (parityOf 7 (hamming w) + (parityOf 64 w.toNat + parityOf 7 (hamming w)) % 2) % 2 := by
    rw [secded_toNat, parityOf_add (n := 1) (hamming_lt w), parityOf_one_mod]
  rw [parityOf_add (n := 8) w.isLt, hcheck]
  omega

/-- The check finds nothing in a word with the ECC bits of its own line (R262). -/
theorem checkWord_withEcc (line : W32) (index : Fin 8) (w : W64) : (checkWord line index (withEcc line index w)).error = none := by
  have hdata : (withEcc line index w).extractLsb' 0 64 = w := BitVec.extractLsb'_append_eq_right
  have hcheck : (withEcc line index w).extractLsb' 64 8 = secded w :=
    (BitVec.extractLsb'_append_eq_of_le (le_refl 64)).trans BitVec.extractLsb'_append_eq_right
  have hcrc : (withEcc line index w).extractLsb' 72 8 = lineCrc line index :=
    (BitVec.extractLsb'_append_eq_of_le (by decide)).trans BitVec.extractLsb'_append_eq_left
  have hlow : (withEcc line index w).toNat % 2 ^ 72 = 2 ^ 64 * (secded w).toNat + w.toNat := by
    have hword : (withEcc line index w).toNat = 2 ^ 64 * (2 ^ 8 * (lineCrc line index).toNat + (secded w).toNat) + w.toNat := by
      rw [withEcc, BitVec.toNat_append, BitVec.toNat_append, ← Nat.shiftLeft_add_eq_or_of_lt w.isLt, ← Nat.shiftLeft_add_eq_or_of_lt (secded w).isLt,
        Nat.shiftLeft_eq, Nat.shiftLeft_eq, Nat.mul_comm _ (2 ^ 8), Nat.mul_comm _ (2 ^ 64)]
    have hw := w.isLt
    have hs := (secded w).isLt
    omega
  simp only [checkWord, hdata, hcheck, hcrc, hlow, parityOf_secded, BitVec.xor_self, BitVec.toNat_zero, Nat.zero_mod, Nat.zero_ne_one, ne_eq,
    not_true_eq_false, if_true, if_false]

variable {d : Device} {f : LineFinding}

/-- A word read back as it was written shows no error. -/
theorem Device.readWord_sound (hl : f.line = f.source) (hf : f.flips = 0) : (d.readWord f).error = none := by
  rw [Device.readWord, hl, show f.flips = 0#80 from hf, BitVec.xor_zero]
  exact checkWord_withEcc _ _ _

/-- A word without an error changes nothing. -/
theorem Device.lineError_none (h : (d.readWord f).error = none) : d.lineError f = d := by
  unfold Device.lineError
  rw [h]

/-- A corrected error is counted and raises its event. -/
theorem Device.lineError_corrected (h : (d.readWord f).error = some .corrected) : d.lineError f = (d.count Reg.HIS.CNT_CE).raise .his 3 := by
  unfold Device.lineError
  rw [h]

end Sys2Proof.Machine
end

section
/-! PROOFS. Training, drift checks, refresh and the scrubber of the history memory (O18). -/

namespace Sys2Proof.Machine

variable {bs : List Block} {rs : Nat → Bool} {ps : List Page} {d e : Device} {s : State} {n : Nat} {findings : List LineFinding}

/-- A frame that leaves the history memory alone moves only what a readback still sends. -/
theorem Leaves.his (h : Leaves bs rs ps d e) (hb : Block.his ∉ bs) : e.his = { d.his with sending := e.his.sending, running := e.his.running } :=
  h.block .his hb (by decide)

theorem Device.his_raise (d : Device) (p : Page) (b x : Nat) :
    (d.raise p b x).his = { d.his with sending := (d.raise p b x).his.sending, running := (d.raise p b x).his.running } := Device.same_raise .his

/-! ### Training (R258, R259) -/

theorem effect_hisTrain (hp : s.dev.pageOn .his = true) : Effect .hisTrain s s.dev.train :=
  Effect.of_run (show execHisTrain s = run _ s from rfl) (if_pos hp)

/-- TRAIN outside training empties the ring, and takes GEOM or refuses it. -/
theorem Device.train_idle (hs : d.hisState ≠ 1) (hd : d.domOn 10 = true) : d.train =
    if d.emptyRing.geomOk then Device.setFld { d.emptyRing with his := { d.emptyRing.his with geom := d.emptyRing.word Reg.HIS.GEOM } } Reg.HIS.STATUS_STATE 1
    else (d.emptyRing.setFld Reg.HIS.STATUS_STATE 4).raise .his 12 := by
  rw [Device.train, if_neg (by simp [hs, hd])]

theorem effect_hisTrain_starts (hp : s.dev.pageOn .his = true) (hs : s.dev.hisState ≠ 1) (hd : s.dev.domOn 10 = true)
    (hg : s.dev.emptyRing.geomOk = true) :
    Effect .hisTrain s (Device.setFld { s.dev.emptyRing with his := { s.dev.emptyRing.his with geom := s.dev.emptyRing.word Reg.HIS.GEOM } }
      Reg.HIS.STATUS_STATE 1) := by
  have hx := effect_hisTrain hp
  rwa [Device.train_idle hs hd, if_pos hg] at hx

theorem effect_hisTrain_refused (hp : s.dev.pageOn .his = true) (hs : s.dev.hisState ≠ 1) (hd : s.dev.domOn 10 = true)
    (hg : s.dev.emptyRing.geomOk = false) : Effect .hisTrain s ((s.dev.emptyRing.setFld Reg.HIS.STATUS_STATE 4).raise .his 12) := by
  have hx := effect_hisTrain hp
  rwa [Device.train_idle hs hd, if_neg (Bool.eq_false_iff.mp hg)] at hx

theorem Effect.hisTrainingDone (step : Fin 8) : Effect (.hisTrainingDone step) s (s.dev.trained step.val) := rfl

/-- The memory is READY, and the next segment of the ring resumes it, before the event that says so. -/
def Device.memoryReady (d : Device) : Device :=
  let x := (d.setFld Reg.HIS.STATUS_STATE 2).setFld Reg.HIS.STATUS_TRAIN_FAIL 0
  { x with his := { x.his with
    writing := !x.his.frozen && x.enabled .his, resume := true, resumeNext := x.his.resumeNext && x.his.frozen } }

theorem Device.trained_passed (h : d.hisState = 1) : d.trained 0 = d.memoryReady.raise .his 0 := by
  rw [Device.trained, if_neg (not_not.mpr h), if_pos rfl]
  rfl

theorem Device.trained_failed (h : d.hisState = 1) (hn : n ≠ 0) :
    d.trained n = (((d.setFld Reg.HIS.STATUS_STATE 3).setFld Reg.HIS.STATUS_TRAIN_FAIL n).raise .his 1).logMemory := by
  rw [Device.trained, if_neg (not_not.mpr h), if_neg hn]

theorem Frame.memoryReady (h : Frame bs rs ps d e) (hb : Block.his ∈ bs) (hr : rs Reg.HIS.STATUS = true) : Frame bs rs ps d e.memoryReady :=
  ((h.setFld (.inl hr)).setFld (.inl hr)).his hb

theorem Device.state_memoryReady (d : Device) : d.memoryReady.fld Reg.HIS.STATUS_STATE = 2 := by
  unfold Device.memoryReady
  rw [Device.fld_his, Device.fld_setFld_other _ _ _ _ (.inr (by decide)), Device.fld_setFld_self _ _ _ (by decide)]
  rfl

theorem Device.trainFail_memoryReady (d : Device) : d.memoryReady.fld Reg.HIS.STATUS_TRAIN_FAIL = 0 := by
  unfold Device.memoryReady
  rw [Device.fld_his, Device.fld_setFld_self _ _ _ (by decide)]
  rfl

theorem hisTrainingDone_passed_completes (hq : s.dev.serviceRun = none) (hp : s.dev.pageOn .his = true) (h : s.dev.hisState = 1) :
    Completes (.hisTrainingDone 0) s fun d => Leaves [.his] (regs [Reg.HIS.STATUS]) [.his] s.dev d
      ∧ d.fld Reg.HIS.STATUS_STATE = 2 ∧ d.fld Reg.HIS.STATUS_TRAIN_FAIL = 0 ∧ (d.sticky .his).getLsbD 0 = true ∧ d.his.resume = true := by
  have hx : Effect (.hisTrainingDone 0) s (s.dev.memoryReady.raise .his 0) := Device.trained_passed h ▸ Effect.hisTrainingDone 0
  have hf : Frame (.alarms :: [.his]) (fun a => regs [Reg.HIS.STATUS] a || a == Reg.HLT.SERVICE_LEVEL || a == Reg.SEC.SUMMARY) [.his] s.dev
      s.dev.memoryReady := Frame.refl.memoryReady (by decide) (by decide)
  refine hx.completes [.his] (regs [Reg.HIS.STATUS]) [.his] hq (by decide) (hf.raise (.inl (by decide))) fun t hs hl => ⟨hl, ?_, ?_, ?_, ?_⟩
  · rw [hs.fld _ rfl (by decide), Device.fld_raise (by decide), Device.state_memoryReady]
  · rw [hs.fld _ rfl (by decide), Device.fld_raise (by decide), Device.trainFail_memoryReady]
  · exact hs.kept .his (by decide) 0 (hf.raised (by decide) (by decide) (by decide) hp (by decide))
  · rw [hs.his (by decide), Device.his_raise]
    rfl

theorem effect_hisTrainingDone_failed {step : Fin 8} (hn : step.val ≠ 0) (h : s.dev.hisState = 1) :
    Effect (.hisTrainingDone step) s
      ((((s.dev.setFld Reg.HIS.STATUS_STATE 3).setFld Reg.HIS.STATUS_TRAIN_FAIL step.val).raise .his 1).logMemory) :=
  Device.trained_failed h hn ▸ Effect.hisTrainingDone step

/-! ### Drift checks and refresh (R260, R261) -/

theorem dqsDriftCheck_retrained_completes (hq : s.dev.serviceRun = none) (h : s.dev.hisState = 2) :
    Completes (.dqsDriftCheck true true) s fun d => Leaves [] (regs [Reg.HIS.CNT_RETRAIN]) [] s.dev d
      ∧ d.word Reg.HIS.CNT_RETRAIN = counted (s.dev.word Reg.HIS.CNT_RETRAIN) 1 := by
  have hx : Effect (.dqsDriftCheck true true) s (s.dev.count Reg.HIS.CNT_RETRAIN) :=
    Effect.of_run (show execDqsDriftCheck true true s = run _ s from rfl) (if_pos (by simp [h]))
  refine hx.completes [] (regs [Reg.HIS.CNT_RETRAIN]) [] hq (by decide) (Frame.refl.count (.inl (by decide))) fun t hs hl => ⟨hl, ?_⟩
  rw [hs.plain rfl (by decide), Device.word_count, if_pos rfl]
  rfl

theorem effect_dqsDriftCheck_fails (h : s.dev.hisState = 2) :
    Effect (.dqsDriftCheck true false) s (((s.dev.count Reg.HIS.CNT_RETRAIN).setFld Reg.HIS.STATUS_STATE 3).memoryLost) :=
  Effect.of_run (show execDqsDriftCheck true false s = run _ s from rfl) (if_pos (by simp [h]))

theorem effect_ddrRefresh (h : s.dev.hisState = 2) : Effect .ddrRefresh s (s.dev.send (.ddr 0 s.dev.his.refreshFast.toNat)) :=
  Effect.of_run (show execDdrRefresh s = run _ s from rfl) (if_pos h)

/-- The devices are hot or not: the refresh rate follows, and STATUS shows it. -/
def Device.heated (d : Device) (hot : Bool) : Device := Device.setFlag { d with his := { d.his with refreshFast := hot } } Reg.HIS.STATUS_HOT hot

theorem effect_refreshRatePoll {hot : Bool} (h : s.dev.hisState = 2) : Effect (.refreshRatePoll hot) s
    (if hot && !s.dev.flag Reg.HIS.STATUS_HOT then (s.dev.heated hot).raise .his 10 else s.dev.heated hot) :=
  Effect.of_run (show execRefreshRatePoll hot s = run _ s from rfl) (if_pos h)

theorem Frame.heated (h : Frame bs rs ps d e) {hot : Bool} (hb : Block.his ∈ bs) (hr : rs Reg.HIS.STATUS = true) : Frame bs rs ps d (e.heated hot) :=
  (h.his hb).setFlag (.inl hr)

theorem Device.hot_heated (d : Device) (hot : Bool) : (d.heated hot).flag Reg.HIS.STATUS_HOT = hot :=
  Device.flag_setFlag_self _ _ _ (by decide) (by decide)

theorem refreshRatePoll_hot_completes (hq : s.dev.serviceRun = none) (hp : s.dev.pageOn .his = true) (h : s.dev.hisState = 2)
    (hcold : s.dev.flag Reg.HIS.STATUS_HOT = false) :
    Completes (.refreshRatePoll true) s fun d => Leaves [.his] (regs [Reg.HIS.STATUS]) [.his] s.dev d
      ∧ d.flag Reg.HIS.STATUS_HOT = true ∧ d.his.refreshFast = true ∧ (d.sticky .his).getLsbD 10 = true := by
  have hx := effect_refreshRatePoll (hot := true) h
  rw [hcold, Bool.not_false, Bool.and_self, if_pos rfl] at hx
  have hf : Frame (.alarms :: [.his]) (fun a => regs [Reg.HIS.STATUS] a || a == Reg.HLT.SERVICE_LEVEL || a == Reg.SEC.SUMMARY) [.his] s.dev
      (s.dev.heated true) := Frame.refl.heated (by decide) (by decide)
  refine hx.completes [.his] (regs [Reg.HIS.STATUS]) [.his] hq (by decide) (hf.raise (.inl (by decide))) fun t hs hl => ⟨hl, ?_, ?_, ?_⟩
  · rw [hs.flag _ rfl (by decide), Device.flag_raise (by decide), Device.hot_heated]
  · rw [hs.his (by decide), Device.his_raise]
    rfl
  · exact hs.kept .his (by decide) 10 (hf.raised (by decide) (by decide) (by decide) hp (by decide))

theorem refreshRatePoll_cool_completes (hq : s.dev.serviceRun = none) (h : s.dev.hisState = 2) :
    Completes (.refreshRatePoll false) s fun d => Leaves [.his] (regs [Reg.HIS.STATUS]) [] s.dev d
      ∧ d.flag Reg.HIS.STATUS_HOT = false ∧ d.his.refreshFast = false := by
  have hx := effect_refreshRatePoll (hot := false) h
  rw [Bool.false_and, if_neg Bool.false_ne_true] at hx
  refine hx.completes [.his] (regs [Reg.HIS.STATUS]) [] hq (by decide) (Frame.refl.heated (by decide) (by decide)) fun t hs hl => ⟨hl, ?_, ?_⟩
  · rw [hs.flag _ rfl (by decide), Device.hot_heated]
  · rw [hs.his (by decide)]
    rfl

/-! ### The scrubber (R262, R263) -/

/-- The findings of a burst, one after the other. -/
def Device.lineErrors (d : Device) (findings : List LineFinding) : Device := findings.foldl (fun (d : Device) f => d.lineError f) d

/-- The scrubber's line moves on by `n`; past the last line of the memory it goes back to the first, which ends a pass. -/
def Device.scrubMoves (d : Device) (n : Nat) : Device :=
  let total := 16384 * d.hisSegments
  let next := d.his.scrubLine + n
  if next < total || total = 0 then { d with his := { d.his with scrubLine := next } }
  else Device.raise { d.count Reg.HIS.CNT_SCRUB_PASSES with his := { d.his with scrubLine := next % total } } .his 11

/-- A burst outside start-up takes its findings, and the line moves. -/
theorem effect_scrubBurst (h : s.dev.hisState = 2) (he : s.dev.flag Reg.HIS.CTRL_SCRUB_EN = true) (hp : s.dev.pausing .scrub = false)
    (hstep : (s.dev.lineErrors findings).hlt.step = 0) : Effect (.scrubBurst n findings) s ((s.dev.lineErrors findings).scrubMoves n) := by
  refine Effect.of_run (show execScrubBurst n findings s = run _ s from rfl) ?_
  simp only [Device.scrubLines, h, he, hp, ne_eq, not_true_eq_false, decide_false, Bool.not_true, Bool.or_self, Bool.false_eq_true, if_false]
  rw [if_pos (show (findings.foldl (fun (d : Device) f => d.lineError f) s.dev).hlt.step = 0 from hstep)]
  rfl

theorem Device.scrubMoves_on (h : d.his.scrubLine + n < 16384 * d.hisSegments) :
    d.scrubMoves n = { d with his := { d.his with scrubLine := d.his.scrubLine + n } } :=
  if_pos (by simp [h])

theorem Device.scrubMoves_past (h : 16384 * d.hisSegments ≤ d.his.scrubLine + n) (hn : d.hisSegments ≠ 0) :
    d.scrubMoves n = Device.raise { d.count Reg.HIS.CNT_SCRUB_PASSES with
      his := { d.his with scrubLine := (d.his.scrubLine + n) % (16384 * d.hisSegments) } } .his 11 :=
  if_neg (by simp [h, hn])

theorem scrubBurst_completes (hq : s.dev.serviceRun = none) (h : s.dev.hisState = 2) (he : s.dev.flag Reg.HIS.CTRL_SCRUB_EN = true)
    (hp : s.dev.pausing .scrub = false) (hstep : s.dev.hlt.step = 0) (hn : s.dev.his.scrubLine + n < 16384 * s.dev.hisSegments) :
    Completes (.scrubBurst n []) s fun d => Leaves [.his] (regs []) [] s.dev d ∧ d.his.scrubLine = s.dev.his.scrubLine + n := by
  have hx : Effect (.scrubBurst n []) s (s.dev.scrubMoves n) := effect_scrubBurst h he hp hstep
  rw [Device.scrubMoves_on hn] at hx
  refine hx.completes [.his] (regs []) [] hq (by decide) (Frame.refl.his (by decide)) fun t hs hl => ⟨hl, ?_⟩
  rw [hs.his (by decide)]

theorem scrubBurst_past_completes (hq : s.dev.serviceRun = none) (h : s.dev.hisState = 2) (he : s.dev.flag Reg.HIS.CTRL_SCRUB_EN = true)
    (hp : s.dev.pausing .scrub = false) (hstep : s.dev.hlt.step = 0) (hon : s.dev.pageOn .his = true)
    (hn : 16384 * s.dev.hisSegments ≤ s.dev.his.scrubLine + n) (h0 : s.dev.hisSegments ≠ 0) :
    Completes (.scrubBurst n []) s fun d => Leaves [.his] (regs [Reg.HIS.CNT_SCRUB_PASSES]) [.his] s.dev d
      ∧ d.his.scrubLine = (s.dev.his.scrubLine + n) % (16384 * s.dev.hisSegments)
      ∧ d.word Reg.HIS.CNT_SCRUB_PASSES = counted (s.dev.word Reg.HIS.CNT_SCRUB_PASSES) 1 ∧ (d.sticky .his).getLsbD 11 = true := by
  have hx : Effect (.scrubBurst n []) s (s.dev.scrubMoves n) := effect_scrubBurst h he hp hstep
  rw [Device.scrubMoves_past hn h0] at hx
  have hf : Frame (.alarms :: [.his]) (fun a => regs [Reg.HIS.CNT_SCRUB_PASSES] a || a == Reg.HLT.SERVICE_LEVEL || a == Reg.SEC.SUMMARY) [.his] s.dev
      { s.dev.count Reg.HIS.CNT_SCRUB_PASSES with
        his := { s.dev.his with scrubLine := (s.dev.his.scrubLine + n) % (16384 * s.dev.hisSegments) } } :=
    (Frame.refl.count (.inl (by decide))).his (by decide)
  refine hx.completes [.his] (regs [Reg.HIS.CNT_SCRUB_PASSES]) [.his] hq (by decide) (hf.raise (.inl (by decide))) fun t hs hl => ⟨hl, ?_, ?_, ?_⟩
  · rw [hs.his (by decide), Device.his_raise]
  · rw [hs.plain rfl (by decide), Device.word_raise (by decide), Device.word_his, Device.word_count, if_pos rfl]
    rfl
  · exact hs.kept .his (by decide) 11 (hf.raised (by decide) (by decide) (by decide) hon (by decide))

theorem effect_scrubBurst_on (h : s.dev.hisState = 2) (he : s.dev.flag Reg.HIS.CTRL_SCRUB_EN = true) (hp : s.dev.pausing .scrub = false)
    (hn : (s.dev.lineErrors findings).his.scrubLine + n < 16384 * s.dev.hisSegments)
    (hsegs : (s.dev.lineErrors findings).hisSegments = s.dev.hisSegments) (hstep : (s.dev.lineErrors findings).hlt.step = 0) :
    Effect (.scrubBurst n findings) s
      (let d := s.dev.lineErrors findings
       { d with his := { d.his with scrubLine := d.his.scrubLine + n } }) := by
  have hx := effect_scrubBurst (n := n) h he hp hstep
  rwa [Device.scrubMoves_on (hsegs ▸ hn)] at hx

/-- Settles O18: the effect of each command, with its frame where it completes, and what a word read makes of its error. -/
theorem historyController : Obligations.HistoryController := by
  unfold Obligations.HistoryController
  exact ⟨fun _ => effect_hisTrain_starts,
    fun _ => effect_hisTrain_refused,
    fun _ => hisTrainingDone_passed_completes,
    fun _ _ => effect_hisTrainingDone_failed,
    fun _ => dqsDriftCheck_retrained_completes,
    fun _ => effect_dqsDriftCheck_fails,
    fun _ => effect_ddrRefresh,
    fun _ => refreshRatePoll_hot_completes,
    fun _ => refreshRatePoll_cool_completes,
    fun _ _ => scrubBurst_completes,
    fun _ _ => scrubBurst_past_completes,
    fun _ _ _ h he hp _ => effect_scrubBurst_on h he hp,
    fun _ _ => Device.lineError_corrected,
    fun _ _ hl hf => Device.lineError_none (Device.readWord_sound hl hf)⟩

end Sys2Proof.Machine
end

section
/-! PROOFS. Readbacks and capture sets of the history memory (O19). -/

namespace Sys2Proof.Machine

variable {d e : Device} {s : State} {n a b c : Nat} {number : BitVec 24} {set : CaptureSet} {r : Readback} {rest : List Readback}

/-! ### Requests (R278-R280) -/

theorem effect_readbackRequest (he : s.dev.enabled .his = true) : Effect .readbackRequest s s.dev.requestReadback :=
  Effect.of_run (show execReadbackRequest s = run _ s from rfl) (if_pos he)

/-- A request takes its number, and STATUS shows it. -/
def Device.numbered (d : Device) (n : Nat) : Device := Device.setFld { d with his := { d.his with number := n } } Reg.HIS.RB_STATUS_NUMBER n

/-- A readback joins the queue with the segments that it names already. -/
def Device.joinQueue (d : Device) (r : Readback) : Device := { d with his := { d.his with readbacks := d.his.readbacks ++ [r] } }

/-- A request while the memory is not READY is refused. -/
theorem Device.requestReadback_refused (hn : n = (d.his.number + 1) % 65536) (hs : (d.numbered n).hisState ≠ 2)
    (ha : a = d.fld Reg.HIS.RB_START_LO_FU + d.fld Reg.HIS.RB_START_HI_FU * 2 ^ 32)
    (hb : b = d.fld Reg.HIS.RB_END_LO_FU + d.fld Reg.HIS.RB_END_HI_FU * 2 ^ 32) :
    d.requestReadback = (d.numbered n).joinQueue { (d.numbered n).request 0 n a b none with status := 6 } := by
  subst hn ha hb
  exact if_pos hs

/-- A request that finds a context and room for its pins is cut to what the ring holds, and waits its turn. -/
theorem Device.requestReadback_accepted (hn : n = (d.his.number + 1) % 65536) (hs : (d.numbered n).hisState = 2)
    (ha : a = d.fld Reg.HIS.RB_START_LO_FU + d.fld Reg.HIS.RB_START_HI_FU * 2 ^ 32)
    (hb : b = d.fld Reg.HIS.RB_END_LO_FU + d.fld Reg.HIS.RB_END_HI_FU * 2 ^ 32)
    (hc : (d.numbered n).allocCtx 4 (BitVec.ofNat 24 n) = (e, some c))
    (hpins : (e.segmentsOf (max a (e.oldest.getD e.writePoint)) (min b e.writePoint)).length ≤ e.pinLimit) :
    d.requestReadback = e.queueReadback { (d.numbered n).request 0 n a b none with
      ctx := some c, start := max a (e.oldest.getD e.writePoint), stop := min b e.writePoint
      status := if max a (e.oldest.getD e.writePoint) ≠ a ∨ min b e.writePoint ≠ b then 1 else 0 } := by
  subst hn ha hb
  unfold Device.requestReadback
  refine (if_neg (not_not.mpr hs)).trans ?_
  dsimp only [Device.numbered] at hc
  rw [hc]
  exact if_neg (Nat.not_lt.mpr hpins)

theorem effect_readbackRequest_refused (he : s.dev.enabled .his = true) (hn : n = (s.dev.his.number + 1) % 65536) (hs : (s.dev.numbered n).hisState ≠ 2)
    (ha : a = s.dev.fld Reg.HIS.RB_START_LO_FU + s.dev.fld Reg.HIS.RB_START_HI_FU * 2 ^ 32)
    (hb : b = s.dev.fld Reg.HIS.RB_END_LO_FU + s.dev.fld Reg.HIS.RB_END_HI_FU * 2 ^ 32) :
    Effect .readbackRequest s ((s.dev.numbered n).joinQueue { (s.dev.numbered n).request 0 n a b none with status := 6 }) :=
  Device.requestReadback_refused hn hs ha hb ▸ effect_readbackRequest he

theorem effect_readbackRequest_accepted (he : s.dev.enabled .his = true) (hn : n = (s.dev.his.number + 1) % 65536) (hd : d = s.dev.numbered n)
    (hs : d.hisState = 2) (ha : a = s.dev.fld Reg.HIS.RB_START_LO_FU + s.dev.fld Reg.HIS.RB_START_HI_FU * 2 ^ 32)
    (hb : b = s.dev.fld Reg.HIS.RB_END_LO_FU + s.dev.fld Reg.HIS.RB_END_HI_FU * 2 ^ 32) (hc : d.allocCtx 4 (BitVec.ofNat 24 n) = (e, some c))
    (hpins : (e.segmentsOf (max a (e.oldest.getD e.writePoint)) (min b e.writePoint)).length ≤ e.pinLimit) :
    Effect .readbackRequest s (e.queueReadback { d.request 0 n a b none with
      ctx := some c, start := max a (e.oldest.getD e.writePoint), stop := min b e.writePoint
      status := if max a (e.oldest.getD e.writePoint) ≠ a ∨ min b e.writePoint ≠ b then 1 else 0 }) := by
  subst hd
  exact Device.requestReadback_accepted hn hs ha hb hc hpins ▸ effect_readbackRequest he

/-! ### Capture sets (R275, R278) -/

theorem effect_captureRead (hp : s.dev.pageOn .his = true) (hr : s.dev.retained number = some set) :
    Effect (.captureRead number) s (s.dev.queueCapture set) :=
  Effect.of_run (show execCaptureRead number s = run _ s from rfl) ((if_pos hp).trans (by rw [Device.readCapture, hr]))

/-- A capture set is read back from its own bounds. -/
theorem Device.queueCapture_bounds (h : set.moved = false) :
    d.queueCapture set = d.queueReadback (d.request 2 set.num.toNat set.start set.stop none) := by
  simp only [Device.queueCapture, h, Bool.false_eq_true, if_false]

/-- After a time-base load in its window it is read back from the segments it has pinned. -/
theorem Device.queueCapture_pinned (h : set.moved = true) :
    d.queueCapture set = d.joinQueue { d.request 2 set.num.toNat set.start set.stop none with segs := set.segs } := if_pos h

theorem effect_captureRead_bounds (hp : s.dev.pageOn .his = true) (hr : s.dev.retained number = some set) (hm : set.moved = false) :
    Effect (.captureRead number) s (s.dev.queueReadback (s.dev.request 2 set.num.toNat set.start set.stop none)) :=
  Device.queueCapture_bounds hm ▸ effect_captureRead hp hr

theorem effect_captureRead_pinned (hp : s.dev.pageOn .his = true) (hr : s.dev.retained number = some set) (hm : set.moved = true) :
    Effect (.captureRead number) s (s.dev.joinQueue { s.dev.request 2 set.num.toNat set.start set.stop none with segs := set.segs }) :=
  Device.queueCapture_pinned hm ▸ effect_captureRead hp hr

theorem effect_captureRelease (hp : s.dev.pageOn .his = true) (hr : s.dev.retained number = some set) :
    Effect (.captureRelease number) s
      (Device.ringGo (Device.updCtx { s.dev with his := { s.dev.his with captures := s.dev.his.captures.filter fun x => x.num != number || !x.done } }
        set.ctx fun _ => {})) :=
  Effect.of_run (show execCaptureRelease number s = run _ s from rfl) ((if_pos hp).trans (by rw [Device.releaseCapture, hr]; rfl))

/-! ### The start of a readback (R277, R279) -/

/-- A segment that is read without a finding is sent as it stands in memory. -/
theorem Segment.sent_clean (x : Segment) : x.sent [] [] = x.image := by
  simp [Segment.sent, List.zipIdx_map_fst]

theorem Effect.readbackStart (findings : List LineFinding) : Effect (.readbackStart findings) s (s.dev.startReadback findings) := rfl

theorem Device.startReadback_ended (hn : d.his.running = none) (hr : d.his.readbacks = r :: rest) (he : r.ended = true) (findings : List LineFinding) :
    d.startReadback findings = { d with his := { d.his with running := some r, readbacks := rest, sending := r.header [] 0 } } := by
  rw [Device.startReadback, hn, hr]
  exact if_pos he

/-- A readback whose reads find nothing sends its header line and the words of its segments. -/
theorem Device.startReadback_clean (hn : d.his.running = none) (hr : d.his.readbacks = r :: rest) (he : r.ended = false)
    (hon : d.enabled .his = true) :
    d.startReadback [] =
      (let segs := d.his.segs.filter fun x => r.segs.contains x.seq
       Device.setFlag { d with his := { d.his with running := some r, readbacks := rest, sending := r.header segs 0 ++ segs.flatMap fun x => x.image } }
         Reg.HIS.RB_STATUS_BUSY true) := by
  rw [Device.startReadback, hn, hr]
  refine (if_neg (Bool.eq_false_iff.mp he)).trans ((if_neg (by simp [hon])).trans ?_)
  simp only [List.filter_nil, List.map_nil, List.eraseDups_nil, List.isEmpty_nil, Bool.not_true, Bool.false_and, Bool.false_eq_true, if_false,
    List.length_nil, List.foldl_nil, Segment.sent_clean]

/-! ### The end of a readback (R275, R279) -/

/-- The words of a readback have left: none runs, and its readout descriptors end with it. -/
def Device.readbackSent (d : Device) : Device := Device.readbackOver { d with his := { d.his with running := none, sending := [] } }

/-- BUSY clears, and the status of the readback shows. -/
def Device.readbackShown (d : Device) (status : Nat) : Device := (d.readbackSent.setFlag Reg.HIS.RB_STATUS_BUSY false).setFld Reg.HIS.RB_STATUS_LAST status

theorem effect_readbackDone (hr : s.dev.his.running = some r) (hs : s.dev.his.sending = []) (he : r.ended = false) :
    Effect .readbackDone s (s.dev.endReadback r r.status).ringGo := by
  refine Effect.of_run (show execReadbackDone s = run _ s from rfl) ?_
  simp only [hr, hs, he, List.isEmpty_nil, Bool.not_true, Bool.false_eq_true, if_false]

/-- The context of a readback that has one becomes FREE. -/
def Device.freeReadbackCtx (d : Device) (r : Readback) : Device :=
  match r.ctx with
  | some c => d.freeCtxAt c
  | none => d

theorem Device.autoRelease_freeReadbackCtx (d : Device) (r : Readback) (n : Nat) :
    ((d.readbackShown n).freeReadbackCtx r).flag Reg.HIS.CTRL_AUTO_RELEASE = d.flag Reg.HIS.CTRL_AUTO_RELEASE := by
  have hctx : ((d.readbackShown n).freeReadbackCtx r).flag Reg.HIS.CTRL_AUTO_RELEASE = (d.readbackShown n).flag Reg.HIS.CTRL_AUTO_RELEASE := by
    unfold Device.freeReadbackCtx
    split <;> rfl
  rw [hctx, Device.readbackShown, Device.flag_setFld_ne (by decide), Device.flag_setFlag_ne (by decide)]
  rfl

/-- A readback that releases no capture set frees its own context, is counted and raises its event. -/
theorem Device.endReadback_plain (h : r.kind ≠ 2 ∨ d.flag Reg.HIS.CTRL_AUTO_RELEASE = false) :
    d.endReadback r n = ((((d.readbackShown n).freeReadbackCtx r).count Reg.HIS.CNT_RB_DONE).raise .his 6) := by
  have hkeeps : ¬ (r.kind = 2 && ((d.readbackShown n).freeReadbackCtx r).flag Reg.HIS.CTRL_AUTO_RELEASE) = true := by
    rw [Device.autoRelease_freeReadbackCtx]
    rcases h with h | h <;> simp [h]
  exact congrArg (fun x : Device => (x.count Reg.HIS.CNT_RB_DONE).raise .his 6) (if_neg hkeeps)

theorem Device.freeReadbackCtx_none (h : r.ctx = none) : d.freeReadbackCtx r = d := by
  simp only [Device.freeReadbackCtx, h]

theorem Device.freeReadbackCtx_some (h : r.ctx = some c) : d.freeReadbackCtx r = d.updCtx c fun _ => {} := by
  simp only [Device.freeReadbackCtx, h, Device.freeCtxAt]

theorem effect_readbackDone_plain (hr : s.dev.his.running = some r) (hs : s.dev.his.sending = []) (he : r.ended = false)
    (h : r.kind ≠ 2 ∨ s.dev.flag Reg.HIS.CTRL_AUTO_RELEASE = false) :
    Effect .readbackDone s (((((s.dev.readbackShown r.status).freeReadbackCtx r).count Reg.HIS.CNT_RB_DONE).raise .his 6).ringGo) :=
  Device.endReadback_plain h ▸ effect_readbackDone hr hs he

theorem effect_readbackDone_without (hr : s.dev.his.running = some r) (hs : s.dev.his.sending = []) (he : r.ended = false)
    (h : r.kind ≠ 2 ∨ s.dev.flag Reg.HIS.CTRL_AUTO_RELEASE = false) (hc : r.ctx = none) :
    Effect .readbackDone s ((((s.dev.readbackShown r.status).count Reg.HIS.CNT_RB_DONE).raise .his 6).ringGo) := by
  simpa only [Device.freeReadbackCtx_none hc] using effect_readbackDone_plain hr hs he h

theorem effect_readbackDone_frees (hr : s.dev.his.running = some r) (hs : s.dev.his.sending = []) (he : r.ended = false) (hk : r.kind ≠ 2)
    (hc : r.ctx = some c) :
    Effect .readbackDone s (((((s.dev.readbackShown r.status).updCtx c fun _ => {}).count Reg.HIS.CNT_RB_DONE).raise .his 6).ringGo) :=
  Device.freeReadbackCtx_some hc ▸ effect_readbackDone_plain hr hs he (.inl hk)

/-- Settles O19: the effect of each command where its hypotheses hold. -/
theorem historyReadbacks : Obligations.HistoryReadbacks := by
  unfold Obligations.HistoryReadbacks
  exact ⟨fun _ _ _ _ _ _ _ => effect_readbackRequest_accepted,
    fun _ he _ hs => effect_readbackRequest_refused he rfl hs rfl rfl,
    fun _ _ _ => effect_captureRead_bounds,
    fun _ _ _ => effect_captureRead_pinned,
    fun _ _ _ => effect_captureRelease,
    fun _ _ _ hn hr he hon => Device.startReadback_clean hn hr he hon ▸ Effect.readbackStart [],
    fun _ _ _ findings hn hr he => Device.startReadback_ended hn hr he findings ▸ Effect.readbackStart findings,
    fun _ _ => effect_readbackDone_without,
    fun _ _ _ => effect_readbackDone_frees⟩

end Sys2Proof.Machine
end

section
/-! PROOFS. A DSP core after updates of the device, and what it makes of an instruction that it meets. -/

namespace Sys2Proof.Machine

variable {α : Type} {d e : Device} {c a n : Nat} {op : DspOp} {k : DspCore}

/-! ### One key of a table written twice -/

theorem SMap.erase_erase_self (m : List (Nat × α)) (k : Nat) : SMap.erase (SMap.erase m k) k = SMap.erase m k := by
  induction m with
  | nil => rfl
  | cons p m ih =>
    obtain ⟨b, w⟩ := p
    by_cases hb : b = k
    · simp only [SMap.erase, if_pos hb, ih]
    · simp only [SMap.erase, if_neg hb, ih]

theorem SMap.erase_insert_self (k : Nat) (v : α) (m : List (Nat × α)) : SMap.erase (SMap.insert k v m) k = SMap.erase m k := by
  induction m with
  | nil => simp only [SMap.insert, SMap.erase, if_true]
  | cons p m ih =>
    obtain ⟨b, w⟩ := p
    by_cases hlt : k < b
    · simp only [SMap.insert, if_pos hlt, SMap.erase, if_true]
    · simp only [SMap.insert, if_neg hlt, SMap.erase, ih]

/-- Of two values written to one key the later one stays. -/
theorem SMap.set_set_self [DecidableEq α] (dflt : Nat → α) (m : List (Nat × α)) (k : Nat) (v w : α) :
    SMap.set dflt (SMap.set dflt m k v) k w = SMap.set dflt m k w := by
  have herase : SMap.erase (SMap.set dflt m k v) k = SMap.erase m k := by
    unfold SMap.set
    split
    · exact SMap.erase_erase_self m k
    · exact (SMap.erase_insert_self k v _).trans (SMap.erase_erase_self m k)
  calc SMap.set dflt (SMap.set dflt m k v) k w
      = if w = dflt k then SMap.erase (SMap.set dflt m k v) k else SMap.insert k w (SMap.erase (SMap.set dflt m k v) k) := rfl
    _ = SMap.set dflt m k w := by rw [herase]; rfl

/-! ### A core after an update -/

@[simp] theorem Device.core_updCore_self (d : Device) (c : Nat) (f : DspCore → DspCore) : (d.updCore c f).core c = f (d.core c) :=
  SMap.get_upd_self _ _ _ _

/-- Two changes of one core are one change. -/
theorem Device.updCore_updCore (d : Device) (c : Nat) (f g : DspCore → DspCore) : (d.updCore c f).updCore c g = d.updCore c fun k => g (f k) := by
  simp only [Device.updCore, SMap.upd, SMap.get_set_self, SMap.set_set_self]

/-- A change of a core is what it makes of the core as it stands. -/
theorem Device.updCore_congr {f g : DspCore → DspCore} (h : f (d.core c) = g (d.core c)) : d.updCore c f = d.updCore c g :=
  congrArg (fun k => { d with cores := SMap.set (fun _ => {}) d.cores c k }) h

@[simp] theorem Device.core_setWord (d : Device) (a : Nat) (w : W32) (c : Nat) : (d.setWord a w).core c = d.core c := rfl
@[simp] theorem Device.core_setFld (d : Device) (f : Fld) (v c : Nat) : (d.setFld f v).core c = d.core c := rfl
@[simp] theorem Device.core_setFlag (d : Device) (f : Fld) (b : Bool) (c : Nat) : (d.setFlag f b).core c = d.core c := rfl
@[simp] theorem Device.core_count (d : Device) (a n c : Nat) : (d.count a n).core c = d.core c := rfl
@[simp] theorem Device.core_waitUntil (d : Device) (t c : Nat) : (d.waitUntil t).core c = d.core c := rfl
@[simp] theorem Device.core_raise (d : Device) (p : Page) (b x c : Nat) : (d.raise p b x).core c = d.core c :=
  congrArg (fun m => SMap.get (fun _ => ({} : DspCore)) m c) (Device.same_raise (d := d) (p := p) (b := b) (x := x) .cores)
@[simp] theorem Device.core_countRun (d : Device) (c n i : Nat) : (d.countRun c n).core i = d.core i := by
  unfold Device.countRun; split <;> rfl
@[simp] theorem Device.clock_countRun (d : Device) (c n : Nat) : (d.countRun c n).clock = d.clock := by
  unfold Device.countRun; split <;> rfl
@[simp] theorem Device.clock_begins (d : Device) (c : Nat) : (d.begins c).clock = d.clock := Device.clock_countRun d c 1

/-- The core whose views of the register file have moved on by an instruction (R301). -/
@[simp] theorem Device.core_begins (d : Device) (c : Nat) :
    (d.begins c).core c = { d.core c with rf2 := (d.core c).rf1, rf1 := (d.core c).rf, loopOld := none, slot := none } :=
  Device.core_updCore_self _ _ _

theorem corePage_val (core : Core) : corePage core.val = .dsp core := congrArg Page.dsp (Fin.ofNat_val_eq_self core)

/-! ### Whether a core executes an instruction at all (R286, R316, R331) -/

/-- Only a core that waits can be woken. -/
theorem Device.wake_of_ne_waiting (h : (d.core c).run ≠ .waiting) : d.wake c = d :=
  if_neg (by simp [h])

/-- A core that neither waits nor executes does nothing with an instruction. -/
theorem Device.dspStep_idle (hw : (d.core c).run ≠ .waiting) (he : d.executes c = false) : d.dspStep c op = d := by
  simp only [Device.dspStep, Device.wake_of_ne_waiting hw, he, Bool.not_false, if_true]

theorem Device.executes_of (hp : d.pageOn (corePage c) = true) (hr : (d.core c).run = .running ∨ (d.core c).run = .draining)
    (hf : (d.core c).fab = none) : d.executes c = true := by
  rcases hr with hr | hr <;> simp only [Device.executes, hp, hr, hf] <;> rfl

theorem ne_waiting_of (hr : k.run = .running ∨ k.run = .draining) : k.run ≠ .waiting := by
  rcases hr with hr | hr <;> rw [hr] <;> decide

/-- A core that runs meets an instruction, unless the breakpoint stands at its PC. -/
theorem Device.dspStep_meets (hp : d.pageOn (corePage c) = true) (hr : (d.core c).run = .running ∨ (d.core c).run = .draining)
    (hf : (d.core c).fab = none) (hb : d.breaks c = false) : d.dspStep c op = d.dspMeet c op := by
  simp only [Device.dspStep, Device.wake_of_ne_waiting (ne_waiting_of hr), Device.executes_of hp hr hf, hb, Bool.not_true, Bool.false_eq_true, if_false]

theorem Device.dspStep_breaks (hp : d.pageOn (corePage c) = true) (hr : (d.core c).run = .running ∨ (d.core c).run = .draining)
    (hf : (d.core c).fab = none) (hb : d.breaks c = true) : d.dspStep c op = d.haltCore c 2 := by
  simp only [Device.dspStep, Device.wake_of_ne_waiting (ne_waiting_of hr), Device.executes_of hp hr hf, hb, Bool.not_true, Bool.false_eq_true, if_false, if_true]

theorem CoreExecutes.meets (h : CoreExecutes d c) : d.dspStep c op = d.dspMeet c op :=
  have ⟨hp, hr, hf, hb, _⟩ := h
  Device.dspStep_meets hp hr hf hb

/-! ### What a core makes of an instruction that it meets (R293, R304-R309, R312) -/

/-- The word at the PC is damaged. -/
theorem Device.dspMeet_damaged (h : (d.core c).bad.contains (pmemAt (d.core c).pc.toNat) = true) : d.dspMeet c op = d.faultCore c 5 12 := by
  simp only [Device.dspMeet, h, if_true]

theorem CoreExecutes.illegal (h : CoreExecutes d c) (hi : (d.core c).illegalHere op = true) :
    d.dspStep c op = d.exception c 1 (((d.core c).slot.map (·.branchPc)).getD (d.core c).pc) := by
  have ⟨_, _, _, _, hbad⟩ := h
  simp only [h.meets, Device.dspMeet, hbad, hi, Bool.false_eq_true, if_false, if_true]

theorem CoreExecutes.loopError (h : CoreExecutes d c) (hi : (d.core c).illegalHere op = false) (hl : (d.core c).loopError op = true) :
    d.dspStep c op = d.exception c 2 (d.core c).pc := by
  have ⟨_, _, _, _, hbad⟩ := h
  simp only [h.meets, Device.dspMeet, hbad, hi, hl, Bool.false_eq_true, if_false, if_true]

theorem CoreExecutes.badLoad (h : CoreExecutes d c) (hi : (d.core c).illegalHere op = false) (hl : (d.core c).loopError op = false)
    (hb : ((d.core c).loads op).any (d.core c).badAt = true) : d.dspStep c op = d.faultCore c 5 12 := by
  have ⟨_, _, _, _, hbad⟩ := h
  simp only [h.meets, Device.dspMeet, hbad, hi, hl, hb, Bool.false_eq_true, if_false, if_true]

theorem CoreExecutes.performs (h : CoreExecutes d c) (hi : (d.core c).illegalHere op = false) (hl : (d.core c).loopError op = false)
    (hb : ((d.core c).loads op).any (d.core c).badAt = false) (ht : ∀ n, op ≠ .trap n) : d.dspStep c op = d.dspPerform c op := by
  have ⟨_, _, _, _, hbad⟩ := h
  simp only [h.meets, Device.dspMeet, hbad, hi, hl, hb, Bool.false_eq_true, if_false]

/-- TRAP notes its number outside a handler (R312, R314). -/
theorem CoreExecutes.trap {n : Fin 16} (h : CoreExecutes d c) (hi : (d.core c).illegalHere (.trap n) = false) :
    d.dspStep c (.trap n) =
      if (d.core c).exc then d.exception c 3 ((d.core c).pc + 1)
      else (d.setFld (Reg.DSPIO.TRAPNO_N c) n.val).exception c 3 ((d.core c).pc + 1) := by
  have ⟨_, _, _, _, hbad⟩ := h
  have hl : (d.core c).loopError (.trap n) = false := by simp [DspCore.loopError, DspCore.loopCount]
  have hb : ((d.core c).loads (.trap n)).any (d.core c).badAt = false := rfl
  simp only [h.meets, Device.dspMeet, hbad, hi, hl, hb, Bool.false_eq_true, if_false]

/-! ### An instruction part by part: the loop decision, the effect, the end (R301-R308, R315) -/

/-- The views of the register file move on by an instruction (R301). -/
def DspCore.viewsMoved (k : DspCore) : DspCore := { k with rf2 := k.rf1, rf1 := k.rf, loopOld := none, slot := none }

/-- The core after the loop decision, and where it sends execution (R306). -/
def DspCore.looped (k : DspCore) : DspCore × Option (BitVec 14) := if k.atLoopEnd then k.viewsMoved.decide k.level else (k.viewsMoved, none)

/-- Where execution goes on, given what the loop decision said (R304-R306). -/
def DspCore.nextPc (k : DspCore) (back : Option (BitVec 14)) (op : DspOp) : BitVec 14 :=
  match k.slot, back, k.loopCount op with
  | some s, _, _ => s.target.getD (k.pc + 1)
  | none, some lb, _ => lb
  | none, none, some (count, length) => if count = 0 then k.pc + length.setWidth 14 + 1 else k.pc + 1
  | none, none, none => k.pc + 1

/-- RTI restores SR and EXC after its delay slot (R315). -/
def DspCore.restored (q : DspCore) (slot : Option DelaySlot) : DspCore :=
  match slot.bind (·.restore) with
  | some ssr => { q.now fun f => f.put 0x2C ((ssr.extractLsb' 0 8).setWidth 56) with exc := ssr.getLsbD 11 }
  | none => q

theorem Device.dspPerform_eq (d : Device) (c : Nat) (op : DspOp) :
    d.dspPerform c op =
      (((d.countRun c 1).updCore c fun _ => (d.core c).looped.1).dspEffect c (d.core c) op).updCore c fun q =>
        { q.restored (d.core c).slot with pc := (d.core c).nextPc (d.core c).looped.2 op, slot := (d.core c).transfer op } := rfl

theorem DspCore.looped_of_not_atLoopEnd (h : k.atLoopEnd = false) : k.looped = (k.viewsMoved, none) :=
  if_neg (by simp [h])

theorem DspCore.looped_of_atLoopEnd (h : k.atLoopEnd = true) : k.looped = k.viewsMoved.decide k.level := if_pos h

theorem DspCore.nextPc_slot {t : DelaySlot} {back : Option (BitVec 14)} (h : k.slot = some t) : k.nextPc back op = t.target.getD (k.pc + 1) := by
  simp only [DspCore.nextPc, h]

theorem DspCore.nextPc_back {lb : BitVec 14} (h : k.slot = none) : k.nextPc (some lb) op = lb := by
  simp only [DspCore.nextPc, h]

/-- A LOOP with a count of 0 skips its body. -/
theorem DspCore.nextPc_skip {length : BitVec 9} (h : k.slot = none) (hc : k.loopCount op = some (0, length)) :
    k.nextPc none op = k.pc + length.setWidth 14 + 1 := by
  simp only [DspCore.nextPc, h, hc, if_true]

theorem DspCore.nextPc_straight (h : k.slot = none) (hc : ∀ n, k.loopCount op ≠ some (0, n)) : k.nextPc none op = k.pc + 1 := by
  cases hcount : k.loopCount op with
  | none => simp only [DspCore.nextPc, h, hcount]
  | some p =>
    obtain ⟨count, length⟩ := p
    simp only [DspCore.nextPc, h, hcount]
    exact if_neg fun h0 : count = 0 => hc length (h0 ▸ hcount)

/-! ### Straight ahead: outside a delay slot and an active loop -/

theorem DspCore.atLoopEnd_of_not_detecting (h : k.detecting = false) : k.atLoopEnd = false := by
  simp only [DspCore.atLoopEnd, h, Bool.false_and]

/-- Outside a delay slot and a loop's end only what is no instruction at all is illegal. -/
theorem DspCore.illegalHere_straight (hs : k.slot = none) (hl : k.atLoopEnd = false) (ho : op ≠ .illegal) : k.illegalHere op = false := by
  simp [DspCore.illegalHere, hs, hl, ho]

/-- A loop error needs a LOOP or LPUSH (R305, R308). -/
theorem DspCore.loopError_of_ne (hp : op ≠ .lpush) (hc : k.loopCount op = none) : k.loopError op = false := by
  simp [DspCore.loopError, hp, hc]

/-- A loop error needs a full loop stack. -/
theorem DspCore.loopError_of_ld (h : k.ld ≠ 4) : k.loopError op = false := by
  simp [DspCore.loopError, h]

/-- An instruction outside a delay slot that opens no loop level and does not stand at a loop's end goes on to the next word. -/
theorem Device.dspPerform_next (hs : (d.core c).slot = none) (hl : (d.core c).atLoopEnd = false) (hc : ∀ n, (d.core c).loopCount op ≠ some (0, n)) :
    d.dspPerform c op = ((d.begins c).dspEffect c (d.core c) op).ends c ((d.core c).pc + 1) ((d.core c).transfer op) := by
  rw [Device.dspPerform_eq, DspCore.looped_of_not_atLoopEnd hl, hs]
  exact congrArg (fun pc => ((d.begins c).dspEffect c (d.core c) op).ends c pc ((d.core c).transfer op)) (DspCore.nextPc_straight hs hc)

/-- An instruction straight ahead that is legal, takes no exception and skips no loop body: its effect between the move of the views and that of
the PC. -/
theorem Straight.acts (h : Straight d c) (hi : op ≠ .illegal) (hl : (d.core c).loopError op = false)
    (hb : ((d.core c).loads op).any (d.core c).badAt = false) (ht : ∀ n, op ≠ .trap n) (hc : ∀ n, (d.core c).loopCount op ≠ some (0, n)) :
    d.dspStep c op = ((d.begins c).dspEffect c (d.core c) op).ends c ((d.core c).pc + 1) ((d.core c).transfer op) := by
  obtain ⟨hx, hs, hd⟩ := h
  have hend := DspCore.atLoopEnd_of_not_detecting hd
  rw [hx.performs (DspCore.illegalHere_straight hs hend hi) hl hb ht, Device.dspPerform_next hs hend hc]

/-- Outside TRAP, LPUSH and LOOP an instruction that stands straight ahead raises no exception of its own. -/
def DspOp.quiet : DspOp → Bool
  | .illegal | .lpush | .trap _ | .loopImm .. | .loopReg .. => false
  | _ => true

theorem DspOp.quiet_spec (h : op.quiet = true) : op ≠ .illegal ∧ op ≠ .lpush ∧ (∀ n, op ≠ .trap n) ∧ ∀ k : DspCore, k.loopCount op = none := by
  refine ⟨?_, ?_, ?_, fun k => ?_⟩
  · rintro rfl; cases h
  · rintro rfl; cases h
  · rintro n rfl; cases h
  · cases op <;> first | rfl | cases h

/-- A quiet instruction straight ahead whose loads are sound. -/
theorem Straight.step (h : Straight d c) (hq : op.quiet = true) (hb : ((d.core c).loads op).any (d.core c).badAt = false) :
    d.dspStep c op = ((d.begins c).dspEffect c (d.core c) op).ends c ((d.core c).pc + 1) ((d.core c).transfer op) := by
  obtain ⟨hi, hp, ht, hc⟩ := DspOp.quiet_spec hq
  exact h.acts hi (DspCore.loopError_of_ne hp (hc _)) hb ht fun n hn => by rw [hc] at hn; cases hn

/-- A command that carries an instruction: what the core makes of it is the command's effect. -/
theorem Effect.of_step {i : Instr} {core : Core} {s : State} (hx : exec i s = execOp core op s) (he : s.dev.dspStep core.val op = e) : Effect i s e :=
  Effect.of_run hx he

/-- A command whose instruction stands straight ahead and whose loads are sound. -/
theorem effect_straight {i : Instr} {core : Core} {s : State} (hx : exec i s = execOp core op s) (h : Straight s.dev core.val) (hq : op.quiet = true)
    (hb : ((s.dev.core core.val).loads op).any (s.dev.core core.val).badAt = false) :
    Effect i s (((s.dev.begins core.val).dspEffect core.val (s.dev.core core.val) op).ends core.val ((s.dev.core core.val).pc + 1)
      ((s.dev.core core.val).transfer op)) :=
  Effect.of_step hx (h.step hq hb)

/-- A command whose instruction stands straight ahead, loads nothing, does `g` and opens the delay slot `t`. -/
theorem effect_acts {i : Instr} {core : Core} {s : State} (g : Device → Device) {t : Option DelaySlot} (hx : exec i s = execOp core op s)
    (h : Straight s.dev core.val) (hq : op.quiet = true) (hb : (s.dev.core core.val).loads op = [])
    (hg : ∀ d : Device, d.dspEffect core.val (s.dev.core core.val) op = g d) (ht : (s.dev.core core.val).transfer op = t) :
    Effect i s ((g (s.dev.begins core.val)).ends core.val ((s.dev.core core.val).pc + 1) t) := by
  have he := effect_straight hx h hq (by rw [hb]; rfl)
  rwa [hg, ht] at he

end Sys2Proof.Machine
end

section
/-! PROOFS. The ALU and MAC classes of a DSP core, straight ahead (O43, O44, O45). -/

namespace Sys2Proof.Machine

variable {i : Instr} {s : State} {core : Core} {sat : Bool} {ac : Fin 4} {cnt : Nat} {k : DspCore}

/-! ### Sound slots -/

/-- The loads of a parallel slot. -/
def DspCore.slotLoads (k : DspCore) : DspSlot → List (BitVec 16)
  | .load _ p => [k.ptr p]
  | _ => []

theorem DspCore.loads_alu (k : DspCore) (o : AluOp) (sat : Bool) (ac : Fin 4) (src : DspSrc) (cnt : Nat) (slot : DspSlot) :
    k.loads (.alu o sat ac src cnt slot) = k.slotLoads slot := by cases slot <;> rfl
theorem DspCore.loads_extr (k : DspCore) (sat : Bool) (dst : Fin 8) (ac : Fin 4) (cnt : Nat) (slot : DspSlot) :
    k.loads (.extr sat dst ac cnt slot) = k.slotLoads slot := by cases slot <;> rfl
theorem DspCore.loads_exp (k : DspCore) (dst : Fin 8) (ac : Fin 4) (slot : DspSlot) : k.loads (.exp dst ac slot) = k.slotLoads slot := by
  cases slot <;> rfl
theorem DspCore.loads_mac (k : DspCore) (o : MacOp) (sat : Bool) (ac : Fin 4) (dx dy : Fin 8) (slot1 slot2 : DspSlot) :
    k.loads (.mac o sat ac dx dy slot1 slot2) = k.slotLoads slot1 ++ k.slotLoads slot2 := by
  cases slot1 <;> cases slot2 <;> rfl

/-- A sound slot meets no damaged word (R293). -/
theorem SlotSound.loads {slot : DspSlot} (h : SlotSound k slot) : (k.slotLoads slot).any k.badAt = false := by
  cases slot with
  | load r p => simp [DspCore.slotLoads, h r p rfl]
  | none => rfl
  | store r p => rfl

/-! ### One instruction of each form -/

theorem Device.dspEffect_alu (d : Device) (c : Nat) (k : DspCore) (o : AluOp) (sat : Bool) (ac : Fin 4) (src : DspSrc) (cnt : Nat) (slot : DspSlot) :
    d.dspEffect c k (.alu o sat ac src cnt slot) =
      (d.updCore c fun q => q.putAcc ac (aluResult o sat (k.acc ac) (k.aluSource src) cnt) (o != .cmp)).doSlot c k slot := rfl

theorem Device.dspEffect_mac (d : Device) (c : Nat) (k : DspCore) (o : MacOp) (sat : Bool) (ac : Fin 4) (dx dy : Fin 8) (slot1 slot2 : DspSlot) :
    d.dspEffect c k (.mac o sat ac dx dy slot1 slot2) =
      ((((d.updCore c fun q => q.putAcc ac (macResult o sat (k.acc ac) (k.data dx) (k.data dy)) true).bankStall c k slot1 slot2).doSlot c k slot1).doSlot
        c k slot2) := rfl

theorem Device.dspEffect_extr (d : Device) (c : Nat) (k : DspCore) (sat : Bool) (dst : Fin 8) (ac : Fin 4) (cnt : Nat) (slot : DspSlot) :
    d.dspEffect c k (.extr sat dst ac cnt slot) =
      (let x := (k.acc ac).toInt / 2 ^ cnt
       let v := BitVec.ofInt 24 (fitInt 24 sat x).1
       (d.updCore c fun q => q.late fun f => (f.write (.d dst) v).dataFlags v.toInt (fitInt 24 sat x).2 sat).doSlot c k slot) := rfl

theorem Device.dspEffect_exp (d : Device) (c : Nat) (k : DspCore) (dst : Fin 8) (ac : Fin 4) (slot : DspSlot) :
    d.dspEffect c k (.exp dst ac slot) =
      (let y : Int := (leadingSigns (k.acc ac) : Int) - 9
       (d.updCore c fun q => q.late fun f => (f.write (.d dst) (BitVec.ofInt 24 y)).dataFlags y false false).doSlot c k slot) := rfl

/-- An ALU instruction: the result of its operation goes to the accumulator, or to the flags alone, and its slot moves. -/
theorem effect_alu {o : AluOp} {src : DspSrc} {slot : DspSlot} {r : AluRes} (hx : exec i s = execOp core (.alu o sat ac src cnt slot) s)
    (hr : aluResult o sat ((s.dev.core core.val).acc ac) ((s.dev.core core.val).aluSource src) cnt = r)
    (h : Straight s.dev core.val) (hs : SlotSound (s.dev.core core.val) slot) : Effect i s (s.dev.accNext core.val ac r (o != .cmp) slot) := by
  have he := effect_straight hx h rfl (by rw [DspCore.loads_alu]; exact hs.loads)
  rwa [Device.dspEffect_alu, hr] at he

/-- A MAC instruction: the result of its operation goes to the accumulator, and its two slots move. -/
theorem effect_mac {o : MacOp} {dx dy : Fin 8} {slot1 slot2 : DspSlot} {r : AluRes} (hx : exec i s = execOp core (.mac o sat ac dx dy slot1 slot2) s)
    (hr : macResult o sat ((s.dev.core core.val).acc ac) ((s.dev.core core.val).data dx) ((s.dev.core core.val).data dy) = r)
    (h : Straight s.dev core.val) (h1 : SlotSound (s.dev.core core.val) slot1) (h2 : SlotSound (s.dev.core core.val) slot2) :
    Effect i s (s.dev.macNext core.val ac r slot1 slot2) := by
  have he := effect_straight hx h rfl (by rw [DspCore.loads_mac, List.any_append, h1.loads, h2.loads]; rfl)
  rwa [Device.dspEffect_mac, hr] at he

/-- SATA clamps to 48 bits, whatever S says, and sets SAT when it does (R311). -/
theorem aluResult_sata (sat : Bool) (a : BitVec 56) (x : Int) (cnt : Nat) :
    aluResult .sata sat a x cnt =
      if -(2 ^ 47 : Int) ≤ a.toInt ∧ a.toInt < 2 ^ 47 then bitsRes (BitVec.ofInt 56 a.toInt)
      else { value := BitVec.ofInt 56 (if a.toInt < 0 then -(2 ^ 47 : Int) else 2 ^ 47 - 1), v := false, ov := false, sat := true } := by
  by_cases h : -(2 ^ 47 : Int) ≤ a.toInt ∧ a.toInt < 2 ^ 47
  · have hfit : fitInt 48 true a.toInt = (a.toInt, false) := if_pos ⟨h.1, Int.le_sub_one_of_lt h.2⟩
    rw [if_pos h, aluResult, hfit]
    rfl
  · have hfit : fitInt 48 true a.toInt = (if a.toInt < 0 then -(2 ^ 47 : Int) else 2 ^ 47 - 1, true) :=
      if_neg fun hin => h ⟨hin.1, Int.lt_of_le_sub_one hin.2⟩
    rw [if_neg h, aluResult, hfit]

/-! ### The statements -/

/-- Settles O43: each is the ALU instruction of its operation. -/
theorem dspAluInstructions : Obligations.DspAluInstructions := by
  unfold Obligations.DspAluInstructions
  exact ⟨fun _ _ _ _ _ _ => effect_alu (o := .add) rfl rfl, fun _ _ _ _ _ _ => effect_alu (o := .sub) rfl rfl,
    fun _ _ _ _ _ _ => effect_alu (o := .neg) rfl rfl, fun _ _ _ _ _ _ => effect_alu (o := .abs) rfl rfl,
    fun _ _ _ _ _ _ => effect_alu (o := .mova) rfl rfl, fun _ _ _ _ _ _ => effect_alu (o := .band) rfl rfl,
    fun _ _ _ _ _ _ => effect_alu (o := .bor) rfl rfl, fun _ _ _ _ _ _ => effect_alu (o := .bxor) rfl rfl,
    fun _ _ _ _ _ _ => effect_alu (o := .max) rfl rfl, fun _ _ _ _ _ _ => effect_alu (o := .min) rfl rfl,
    fun _ _ _ _ _ => effect_alu (o := .clr) rfl rfl, fun _ _ _ _ _ => effect_alu (o := .rnd) rfl rfl⟩

/-- Settles O44: the shifts, the high-word forms and CMP are ALU instructions; SATA has its clamp, EXTR and EXP their own effect. -/
theorem dspShiftsAndExtracts : Obligations.DspShiftsAndExtracts := by
  unfold Obligations.DspShiftsAndExtracts
  refine ⟨fun _ _ _ _ _ _ => effect_alu (o := .asl) rfl rfl, fun _ _ _ _ _ _ => effect_alu (o := .asr) rfl rfl,
    fun _ _ _ _ _ _ => effect_alu (o := .lsr) rfl rfl, fun _ _ _ _ _ _ => effect_alu (o := .addh) rfl rfl,
    fun _ _ _ _ _ _ => effect_alu (o := .subh) rfl rfl, fun _ _ _ _ _ _ => effect_alu (o := .movh) rfl rfl,
    fun _ _ _ _ _ _ => effect_alu (o := .cmp) rfl rfl, ?sata, ?extr, ?exp⟩
  case sata => exact fun s core sat ac slot => effect_alu (o := .sata) rfl (aluResult_sata _ _ _ _)
  case extr =>
    intro s core sat dst ac count slot h hs
    have hx : Effect (.dspExtr core sat dst ac count slot) s _ := effect_straight rfl h rfl (by rw [DspCore.loads_extr]; exact hs.loads)
    rwa [Device.dspEffect_extr] at hx
  case exp =>
    intro s core dst ac slot h hs
    have hx : Effect (.dspExp core dst ac slot) s _ := effect_straight rfl h rfl (by rw [DspCore.loads_exp]; exact hs.loads)
    rwa [Device.dspEffect_exp] at hx

/-- Settles O45: each is the MAC instruction of its operation. -/
theorem dspMacInstructions : Obligations.DspMacInstructions := by
  unfold Obligations.DspMacInstructions
  exact ⟨fun _ _ _ _ _ _ _ _ => effect_mac (o := .mul) rfl rfl, fun _ _ _ _ _ _ _ _ => effect_mac (o := .mac) rfl rfl,
    fun _ _ _ _ _ _ _ _ => effect_mac (o := .macn) rfl rfl, fun _ _ _ _ _ _ _ _ => effect_mac (o := .macrn) rfl rfl,
    fun _ _ _ _ _ _ _ _ => effect_mac (o := .mulx) rfl rfl, fun _ _ _ _ _ _ _ _ => effect_mac (o := .macx) rfl rfl⟩

end Sys2Proof.Machine
end

section
/-! PROOFS. The register file of a DSP core and the views of its stream memory (O56, O57). -/

namespace Sys2Proof.Machine

variable {f : RegFile} {r q : DspReg} {v : BitVec 24} {j k : Nat} {n : Fin 4} {d : Device} {c i : Nat}

/-! ### One entry of a register file -/

@[simp] theorem RegFile.get_put_self (f : RegFile) (k : Nat) (x : BitVec 56) : (f.put k x).get k = x := SMap.get_set_self _ _ _ _

theorem RegFile.get_put_ne (f : RegFile) (x : BitVec 56) (h : j ≠ k) : (f.put k x).get j = f.get j := SMap.get_set_ne _ _ _ h

/-! ### Codes and entries (R294) -/

/-- The code of a register names it. -/
theorem regOfCode_regCode (r : DspReg) : regOfCode (regCode r) = some r := by
  cases r with
  | d n | p n | i n | b n | acT n | acM n | acB n => revert n; decide
  | sr | lc | lb | le | spc | ssr | lr => rfl

theorem regCode_inj (h : regCode q = regCode r) : q = r := by
  have hsome : some q = some r := by rw [← regOfCode_regCode q, ← regOfCode_regCode r, h]
  exact Option.some.inj hsome

/-- The accumulator that a register is a part of. -/
def regAcc : DspReg → Option (Fin 4)
  | .acT n | .acM n | .acB n => some n
  | _ => none

/-- The entry of a file that holds a register: the three parts of an accumulator share one. -/
def regEntry (r : DspReg) : Nat :=
  match regAcc r with
  | some n => 0x20 + n.val
  | none => regCode r

/-- What a register shows of its entry (R295). -/
def regShows (r : DspReg) (a : BitVec 56) : BitVec 24 :=
  match r with
  | .acT _ => a.extractLsb' 32 24
  | .acM _ => a.extractLsb' 8 24
  | .acB _ => (a.extractLsb' 0 8).setWidth 24
  | .i _ => (a.setWidth 16).signExtend 24
  | _ => a.setWidth 24

/-- What a write to a register makes of its entry (R295, R296). -/
def regTakes (r : DspReg) (v : BitVec 24) (a : BitVec 56) : BitVec 56 :=
  match r with
  | .acT _ => v ++ a.extractLsb' 0 32
  | .acM _ => (a.extractLsb' 32 24 ++ v) ++ a.extractLsb' 0 8
  | .acB _ => a.extractLsb' 8 48 ++ v.extractLsb' 0 8
  | .sr => (v.extractLsb' 0 8).setWidth 56
  | r => BitVec.ofNat 56 (v.toNat % 2 ^ regWidth r)

theorem RegFile.read_eq (f : RegFile) (r : DspReg) : f.read r = regShows r (f.get (regEntry r)) := by cases r <;> rfl

theorem RegFile.write_eq (f : RegFile) (r : DspReg) (v : BitVec 24) : f.write r v = f.put (regEntry r) (regTakes r v (f.get (regEntry r))) := by
  cases r <;> rfl

theorem RegFile.read_write_self (f : RegFile) (r : DspReg) (v : BitVec 24) :
    (f.write r v).read r = regShows r (regTakes r v (f.get (regEntry r))) := by
  rw [RegFile.read_eq, RegFile.write_eq, RegFile.get_put_self]

/-! ### Registers that share an entry -/

theorem regEntry_plain (h : regAcc r = none) : regEntry r = regCode r ∧ (regCode r < 0x20 ∨ 0x2C ≤ regCode r) := by
  refine ⟨by rw [regEntry, h], ?_⟩
  cases r with
  | d n | p n | i n | b n => exact .inl (by simp only [regCode]; omega)
  | sr | lc | lb | le | spc | ssr | lr => exact .inr (by decide)
  | acT n | acM n | acB n => cases h

theorem regEntry_acc (h : regAcc r = some n) : regEntry r = 0x20 + n.val := by rw [regEntry, h]

theorem eq_part_of_regAcc (h : regAcc r = some n) : r = .acT n ∨ r = .acM n ∨ r = .acB n := by
  cases r with
  | acT m | acM m | acB m => obtain rfl : m = n := Option.some.inj h; simp
  | d m | p m | i m | b m => cases h
  | sr | lc | lb | le | spc | ssr | lr => cases h

/-- Two registers in one entry are parts of one accumulator. -/
theorem regAcc_of_regEntry_eq (hne : q ≠ r) (h : regEntry q = regEntry r) : ∃ n, regAcc q = some n ∧ regAcc r = some n := by
  cases hq : regAcc q with
  | none =>
    obtain ⟨hqe, hqr⟩ := regEntry_plain hq
    cases hr : regAcc r with
    | none => exact absurd (regCode_inj (by rw [← hqe, h, (regEntry_plain hr).1])) hne
    | some m => have := regEntry_acc hr; omega
  | some n =>
    have hqe := regEntry_acc hq
    cases hr : regAcc r with
    | none => obtain ⟨hre, hrr⟩ := regEntry_plain hr; omega
    | some m => exact ⟨n, rfl, congrArg some (Fin.ext (by have := regEntry_acc hr; omega))⟩

/-- A write to a part of an accumulator leaves its other parts. -/
theorem regShows_regTakes_part (hq : regAcc q = some n) (hr : regAcc r = some n) (hne : q ≠ r) (v : BitVec 24) (a : BitVec 56) :
    regShows q (regTakes r v a) = regShows q a := by
  rcases eq_part_of_regAcc hq with rfl | rfl | rfl <;> rcases eq_part_of_regAcc hr with rfl | rfl | rfl
  all_goals
    apply BitVec.eq_of_getLsbD_eq
    intro b hb
    simp only [regShows, regTakes, BitVec.getLsbD_setWidth, BitVec.getLsbD_extractLsb', BitVec.getLsbD_append]
    grind

/-- A write changes the register it names and no other (R295). -/
theorem RegFile.read_write_ne (f : RegFile) (v : BitVec 24) (hne : q ≠ r) : (f.write r v).read q = f.read q := by
  rw [RegFile.read_eq, RegFile.read_eq, RegFile.write_eq]
  by_cases h : regEntry q = regEntry r
  · obtain ⟨n, hq, hr⟩ := regAcc_of_regEntry_eq hne h
    rw [h, RegFile.get_put_self, regShows_regTakes_part hq hr hne]
  · rw [RegFile.get_put_ne _ _ h]

/-! ### What a register shows after it was written -/

/-- The low bits of a word, as an entry keeps them. -/
theorem ofNat_mod_eq_setWidth (v : BitVec 24) (w : Nat) : BitVec.ofNat 56 (v.toNat % 2 ^ w) = (v.setWidth w).setWidth 56 := by
  apply BitVec.eq_of_toNat_eq
  simp only [BitVec.toNat_setWidth, BitVec.toNat_ofNat]

/-- An entry keeps every bit of a word of a narrower register. -/
theorem setWidth_entry {w m : Nat} (x : BitVec w) (h : w ≤ 56) : (x.setWidth 56).setWidth m = x.setWidth m := by
  apply BitVec.eq_of_getLsbD_eq
  intro b hb
  simp only [BitVec.getLsbD_setWidth]
  by_cases hx : b < w
  · simp [hb, Nat.lt_of_lt_of_le hx h]
  · simp [BitVec.getLsbD_of_ge x b (by omega)]

theorem RegFile.read_write_d (f : RegFile) (v : BitVec 24) (n : Fin 8) : (f.write (.d n) v).read (.d n) = v := by
  rw [RegFile.read_write_self]
  show (BitVec.ofNat 56 (v.toNat % 2 ^ 24)).setWidth 24 = v
  rw [ofNat_mod_eq_setWidth, setWidth_entry _ (by decide), BitVec.setWidth_eq, BitVec.setWidth_eq]

/-- A narrower register without a sign zero-extends the low bits of the word. -/
theorem RegFile.read_write_zero (f : RegFile) (v : BitVec 24) (w : Nat) (hw : w ≤ 56) (hs : ∀ a, regShows r a = a.setWidth 24)
    (ht : ∀ a, regTakes r v a = BitVec.ofNat 56 (v.toNat % 2 ^ w)) : (f.write r v).read r = (v.setWidth w).setWidth 24 := by
  rw [RegFile.read_write_self, hs, ht, ofNat_mod_eq_setWidth, setWidth_entry _ hw]

theorem RegFile.read_write_i (f : RegFile) (v : BitVec 24) (n : Fin 8) : (f.write (.i n) v).read (.i n) = (v.setWidth 16).signExtend 24 := by
  rw [RegFile.read_write_self]
  show ((BitVec.ofNat 56 (v.toNat % 2 ^ 16)).setWidth 16).signExtend 24 = (v.setWidth 16).signExtend 24
  rw [ofNat_mod_eq_setWidth, setWidth_entry _ (by decide), BitVec.setWidth_eq]

theorem RegFile.read_write_sr (f : RegFile) (v : BitVec 24) : (f.write .sr v).read .sr = (v.setWidth 8).setWidth 24 := by
  rw [RegFile.read_write_self]
  show ((v.extractLsb' 0 8).setWidth 56).setWidth 24 = (v.setWidth 8).setWidth 24
  rw [setWidth_entry _ (by decide), BitVec.setWidth_eq_extractLsb' (x := v) (by decide)]

theorem RegFile.read_write_acc (f : RegFile) (v : BitVec 24) (n : Fin 4) :
    (f.write (.acT n) v).read (.acT n) = v ∧ (f.write (.acM n) v).read (.acM n) = v
      ∧ (f.write (.acB n) v).read (.acB n) = (v.setWidth 8).setWidth 24 := by
  simp only [RegFile.read_write_self]
  refine ⟨?_, ?_, ?_⟩ <;>
  · apply BitVec.eq_of_getLsbD_eq
    intro b hb
    simp only [regShows, regTakes, BitVec.getLsbD_setWidth, BitVec.getLsbD_extractLsb', BitVec.getLsbD_append]
    grind

/-- At reset a source shows 0, SR with LD and EXC too (R295). -/
theorem source_reset (c : Nat) (r : DspReg) : (State.reset.dev.core c).source r = 0 := by
  have hcore : State.reset.dev.core c = {} := rfl
  rw [hcore]
  cases r with
  | sr => rfl
  | d n | p n | i n | b n | acT n | acM n | acB n => simp only [DspCore.source, read_nil]
  | lc | lb | le | spc | ssr | lr => simp only [DspCore.source, read_nil]

/-- Settles O56: each register shows what its entry took of the word, and only parts of one accumulator share an entry. -/
theorem coreRegisterFile : Obligations.CoreRegisterFile := by
  unfold Obligations.CoreRegisterFile
  refine ⟨fun f v n => f.read_write_d v n, fun f v n => ⟨?_, ?_⟩, fun f v n => f.read_write_i v n, fun f v n => f.read_write_acc v n,
    fun f v => ⟨?_, ?_, ?_, ?_, ?_, ?_, f.read_write_sr v⟩, fun f v r q hne => f.read_write_ne v hne, fun c r => ⟨read_nil r, source_reset c r⟩⟩
  all_goals exact f.read_write_zero v _ (by decide) (fun _ => rfl) fun _ => rfl

/-! ### The views of the stream memory (R289) -/

theorem toNat_viewAddr {base : Nat} (hb : base ≤ 0x8000) (hi : i < 0x4000) : (BitVec.ofNat 16 (base + i)).toNat = base + i :=
  Nat.mod_eq_of_lt (by omega)

/-- An address of the value view loads what the view makes of the sample word. -/
theorem dspLoad_value (d : Device) (c : Nat) (hi : i < 0x4000) : d.dspLoad c (BitVec.ofNat 16 (0x4000 + i)) = (d, valueView ((d.core c).smemWord i)) := by
  have ha := toNat_viewAddr (base := 0x4000) (by decide) hi
  simp only [Device.dspLoad, ha, Nat.add_sub_cancel_left]
  rw [if_neg (by omega), if_pos (by omega)]

/-- An address of the flag view loads what the view makes of the sample word. -/
theorem dspLoad_flag (d : Device) (c : Nat) (hi : i < 0x4000) : d.dspLoad c (BitVec.ofNat 16 (0x8000 + i)) = (d, flagView ((d.core c).smemWord i)) := by
  have ha := toNat_viewAddr (base := 0x8000) (by decide) hi
  simp only [Device.dspLoad, ha, Nat.add_sub_cancel_left]
  rw [if_neg (by omega), if_neg (by omega), if_pos (by omega)]

/-- The flag view shows the upper half of the sample word below eight zeros. -/
theorem flagView_parts (w : W32) : (flagView w).extractLsb' 0 16 = w.extractLsb' 16 16 ∧ (flagView w).extractLsb' 16 8 = 0 := by
  constructor <;>
  · apply BitVec.eq_of_getLsbD_eq
    intro b hb
    simp only [flagView, BitVec.getLsbD_setWidth, BitVec.getLsbD_extractLsb']
    grind

/-- Settles O57: the two views of a slot. -/
theorem streamMemoryViews : Obligations.StreamMemoryViews := by
  unfold Obligations.StreamMemoryViews
  refine ⟨fun d c i hi hv => ?_, fun d c i hi hv => ?_, fun d c i hi => ⟨_, dspLoad_flag d c hi, flagView_parts _⟩⟩
  · rw [dspLoad_value d c hi, valueView, if_pos hv]
  · rw [dspLoad_value d c hi, valueView, if_neg (Bool.eq_false_iff.mp hv)]
    rfl

end Sys2Proof.Machine
end

section
/-! PROOFS. The arithmetic of a DSP core: fitting, flags, rounding, EXP and pointer steps (O60). -/

namespace Sys2Proof.Machine

variable {f : RegFile} {r : AluRes} {j : Nat} {x : Int}

/-! ### Fitting an exact result (R298) -/

theorem fitAcc_within (s : Bool) (hlo : -(2 ^ 55 : Int) ≤ x) (hhi : x < 2 ^ 55) :
    fitAcc s x = { value := BitVec.ofInt 56 x, v := false, ov := false, sat := false } := by
  have hfit : fitInt 56 s x = (x, false) := if_pos ⟨hlo, Int.le_sub_one_of_lt hhi⟩
  rw [fitAcc, hfit]
  rfl

/-- A result outside the range of an accumulator. -/
def Overflows (x : Int) : Prop := x < -(2 ^ 55 : Int) ∨ (2 ^ 55 : Int) ≤ x

theorem Overflows.fitInt (h : Overflows x) (s : Bool) :
    fitInt 56 s x = if s then (if x < 0 then -(2 ^ 55 : Int) else 2 ^ 55 - 1, true) else (x, true) :=
  if_neg fun ⟨hlo, hhi⟩ => h.elim (not_lt.mpr hlo) fun hge => not_le.mpr (Int.lt_of_le_sub_one hhi) hge

theorem fitAcc_modulo (h : Overflows x) : fitAcc false x = { value := BitVec.ofInt 56 x, v := true, ov := true, sat := false } := by
  rw [fitAcc, h.fitInt]
  rfl

theorem fitAcc_clamped (h : Overflows x) :
    fitAcc true x = { value := BitVec.ofInt 56 (if x < 0 then -(2 ^ 55 : Int) else 2 ^ 55 - 1), v := true, ov := false, sat := true } := by
  rw [fitAcc, h.fitInt]
  rfl

/-- A result that fits is written as it is. -/
theorem toInt_fitAcc_within (s : Bool) (hlo : -(2 ^ 55 : Int) ≤ x) (hhi : x < 2 ^ 55) : (fitAcc s x).value.toInt = x := by
  rw [fitAcc_within s hlo hhi]
  exact BitVec.toInt_ofInt_eq_self (by decide) hlo hhi

/-! ### The flags of a result (R298) -/

/-- A bit of SR after one of them took a value. -/
theorem RegFile.srBit_setSrBit (f : RegFile) (a b : Nat) (v : Bool) (ha : a < 56) :
    (f.setSrBit a v).srBit b = if b = a then v else f.srBit b := by
  have hone : ∀ b, (BitVec.ofNat 56 (2 ^ a)).getLsbD b = decide (b = a) := fun b => by
    rw [BitVec.getLsbD_ofNat, Nat.testBit_two_pow]
    grind
  unfold RegFile.setSrBit RegFile.srBit
  rw [RegFile.get_put_self]
  cases v with
  | true => rw [if_pos rfl, BitVec.getLsbD_or, hone]; grind
  | false =>
    rw [if_neg Bool.false_ne_true, BitVec.getLsbD_and, BitVec.getLsbD_not, hone]
    by_cases hb : b < 56
    · grind
    · rw [BitVec.getLsbD_of_ge (f.get 0x2C) b (by omega)]; grind

/-- A bit of SR that takes a value moves no other register. -/
theorem RegFile.get_setSrBit (f : RegFile) (a : Nat) (v : Bool) (h : j ≠ 0x2C) : (f.setSrBit a v).get j = f.get j :=
  RegFile.get_put_ne _ _ h

/-- A sticky flag is set where its condition holds. -/
theorem RegFile.srBit_sticky (f : RegFile) (c : Bool) (a b : Nat) (ha : a < 56) :
    (if c then f.setSrBit a true else f).srBit b = if b = a then f.srBit b || c else f.srBit b := by
  cases c with
  | true => rw [if_pos rfl, RegFile.srBit_setSrBit f a b true ha, Bool.or_true]
  | false => rw [if_neg Bool.false_ne_true, Bool.or_false, ite_self]

theorem RegFile.get_sticky (f : RegFile) (c : Bool) (a : Nat) (h : j ≠ 0x2C) : (if c then f.setSrBit a true else f).get j = f.get j := by
  cases c with
  | true => exact RegFile.get_setSrBit f a true h
  | false => rfl

/-- Z, N, V and X are those of the result, OV and SAT stay set, and no other bit of SR moves. -/
theorem RegFile.srBit_accFlags (f : RegFile) (r : AluRes) (b : Nat) :
    (f.accFlags r).srBit b =
      if b = 5 then f.srBit b || r.sat
      else if b = 4 then f.srBit b || r.ov
      else if b = 3 then decide (r.value.toInt < -(2 ^ 47 : Int)) || decide ((2 ^ 47 : Int) ≤ r.value.toInt)
      else if b = 2 then r.v
      else if b = 1 then decide (r.value.toInt < 0)
      else if b = 0 then r.value == 0
      else f.srBit b := by
  simp only [RegFile.accFlags, RegFile.srBit_sticky _ _ 5 b (by decide), RegFile.srBit_sticky _ _ 4 b (by decide), RegFile.srBit_setSrBit _ _ b _ (show 3 < 56 by decide),
    RegFile.srBit_setSrBit _ _ b _ (show 2 < 56 by decide), RegFile.srBit_setSrBit _ _ b _ (show 1 < 56 by decide),
    RegFile.srBit_setSrBit _ _ b _ (show 0 < 56 by decide)]
  grind

/-- The flags move no register but SR. -/
theorem RegFile.get_accFlags (f : RegFile) (r : AluRes) (h : j ≠ 0x2C) : (f.accFlags r).get j = f.get j := by
  simp only [RegFile.accFlags, RegFile.get_sticky _ _ _ h, RegFile.get_setSrBit _ _ _ h]

/-! ### Rounding and EXP (R311) -/

theorem roundTo24_spec (x : Int) : roundTo24 x % 16777216 = 0 ∧ roundTo24 x - x ≤ 8388608 ∧ x - roundTo24 x < 8388608 := by
  unfold roundTo24
  omega

/-- Bit 55 counts itself, and there are 56 bits. -/
theorem leadingSigns_bounds (a : BitVec 56) : 1 ≤ leadingSigns a ∧ leadingSigns a ≤ 56 := by
  constructor
  · have hcons : List.range 56 = 0 :: (List.range 55).map Nat.succ := List.range_succ_eq_map
    simp [leadingSigns, hcons]
  · exact (List.takeWhile_sublist _).length_le.trans (by simp)

/-! ### Pointer steps (R300) -/

theorem stepPtr_linear {p b : BitVec 16} {s : Int} (h : b.toNat / 2 ^ 14 = 0 ∨ b.toNat / 2 ^ 14 = 3) : stepPtr p s b = p + BitVec.ofInt 16 s := by
  have hlinear : BitVec.ofInt 16 ((p.toNat : Int) + s) = p + BitVec.ofInt 16 s := by
    rw [BitVec.ofInt_add, BitVec.ofInt_natCast, BitVec.ofNat_toNat, BitVec.setWidth_eq]
  rcases h with h | h <;> simp only [stepPtr, h, hlinear]

/-- A buffer length of up to 2¹⁴ words fits the block of its circular buffer. -/
theorem le_two_pow_ceilLog2 {n : Nat} (h : n ≤ 2 ^ 14) : n ≤ 2 ^ ceilLog2 n ∧ ceilLog2 n ≤ 14 := by
  unfold ceilLog2
  cases hf : (List.range 15).find? (fun k => decide (n ≤ 2 ^ k)) with
  | none => exact ⟨h, le_refl 14⟩
  | some k =>
    have hk : k < 15 := List.mem_range.mp (List.mem_of_find?_eq_some hf)
    have hfit := List.find?_some hf
    exact ⟨of_decide_eq_true hfit, Nat.le_of_lt_succ hk⟩

/-- An offset within a block of `2 ^ k` words leaves the block, and the address below `2 ^ 16`. -/
theorem block_add_offset {p k o : Nat} (hp : p < 2 ^ 16) (hk : k ≤ 16) (ho : o < 2 ^ k) :
    p / 2 ^ k * 2 ^ k + o < 2 ^ 16 ∧ (p / 2 ^ k * 2 ^ k + o) / 2 ^ k = p / 2 ^ k ∧ (p / 2 ^ k * 2 ^ k + o) % 2 ^ k = o := by
  refine ⟨?_, ?_, ?_⟩
  · obtain ⟨m, hm⟩ := Nat.pow_dvd_pow 2 hk
    have hblock : p / 2 ^ k < m := Nat.div_lt_of_lt_mul (hm ▸ hp)
    calc p / 2 ^ k * 2 ^ k + o < (p / 2 ^ k + 1) * 2 ^ k := by rw [Nat.add_mul, Nat.one_mul]; exact Nat.add_lt_add_left ho _
      _ ≤ m * 2 ^ k := Nat.mul_le_mul_right _ hblock
      _ = 2 ^ 16 := by rw [hm, Nat.mul_comm]
  · rw [Nat.mul_comm, Nat.mul_add_div (Nat.two_pow_pos k), Nat.div_eq_of_lt ho, Nat.add_zero]
  · rw [Nat.mul_comm, Nat.mul_add_mod, Nat.mod_eq_of_lt ho]

/-- A circular step adds an offset below the buffer's length to the block that the pointer lies in. -/
theorem stepPtr_circular_eq {p b : BitVec 16} (s : Int) (h : b.toNat / 2 ^ 14 = 1) (hn : b.toNat % 2 ^ 14 ≠ 0) :
    ∃ o, o < b.toNat % 2 ^ 14 ∧ stepPtr p s b =
      BitVec.ofNat 16 (p.toNat / 2 ^ ceilLog2 (b.toNat % 2 ^ 14) * 2 ^ ceilLog2 (b.toNat % 2 ^ 14) + o) := by
  simp only [stepPtr, h, hn, if_false]
  refine ⟨_, ?_, rfl⟩
  have hpos : (0 : Int) < ((b.toNat % 2 ^ 14 : Nat) : Int) := by omega
  exact (Int.toNat_lt' (Nat.pos_of_ne_zero hn)).mpr (Int.emod_lt_of_pos _ hpos)

/-- A circular step stays in the block of its buffer, and there within the buffer's length. -/
theorem stepPtr_circular {p b : BitVec 16} {s : Int} (h : b.toNat / 2 ^ 14 = 1) (hn : b.toNat % 2 ^ 14 ≠ 0) :
    (stepPtr p s b).toNat / 2 ^ ceilLog2 (b.toNat % 2 ^ 14) = p.toNat / 2 ^ ceilLog2 (b.toNat % 2 ^ 14)
      ∧ (stepPtr p s b).toNat % 2 ^ ceilLog2 (b.toNat % 2 ^ 14) < b.toNat % 2 ^ 14 := by
  obtain ⟨hfit, hk⟩ := le_two_pow_ceilLog2 (Nat.le_of_lt (Nat.mod_lt b.toNat (Nat.two_pow_pos 14)))
  obtain ⟨o, ho, hptr⟩ := stepPtr_circular_eq (p := p) s h hn
  obtain ⟨hlt, hdiv, hmod⟩ := block_add_offset p.isLt (Nat.le_trans hk (by decide)) (Nat.lt_of_lt_of_le ho hfit)
  have htoNat := (congrArg BitVec.toNat hptr).trans (Nat.mod_eq_of_lt hlt)
  rw [htoNat]
  exact ⟨hdiv, hmod.trans_lt ho⟩

/-- Settles O60: fitting by its three cases, the flags bit by bit, and a circular step as a block and an offset. -/
theorem coreArithmetic : Obligations.CoreArithmetic := by
  unfold Obligations.CoreArithmetic
  refine ⟨?within, fun x h => fitAcc_modulo h, ?high, ?low, ?flags, by decide, by decide, roundTo24_spec, leadingSigns_bounds,
    fun p b s h => stepPtr_linear h, fun p b s h hn => stepPtr_circular h hn⟩
  case within =>
    intro s x hlo hhi
    refine ⟨toInt_fitAcc_within s hlo hhi, ?_⟩
    rw [fitAcc_within s hlo hhi]
    exact ⟨rfl, rfl, rfl⟩
  case high =>
    intro x h
    rw [fitAcc_clamped (.inr h), if_neg (by omega)]
    rfl
  case low =>
    intro x h
    rw [fitAcc_clamped (.inl h), if_pos (by omega)]
    rfl
  case flags =>
    intro f r
    simp only [RegFile.srBit_accFlags]
    refine ⟨rfl, rfl, rfl, ?_, rfl, rfl, rfl, rfl, fun k hk => f.get_accFlags r hk⟩
    simp

end Sys2Proof.Machine
end

section
/-! PROOFS. Moves, loads, stores and immediates of a DSP core (O46). -/

namespace Sys2Proof.Machine

variable {i : Instr} {s : State} {core : Core} {d : Device} {c : Nat} {op : DspOp} {k : DspCore} {dst src : DspReg} {ptr : Fin 8} {mode : DspMode}
  {disp : BitVec 16} {value : BitVec 24}

/-! ### Instructions that write registers late (R301) -/

/-- An instruction whose whole effect is a late write. -/
theorem effect_late {g : RegFile → RegFile} (hx : exec i s = execOp core op s) (h : Straight s.dev core.val) (hq : op.quiet = true)
    (hb : (s.dev.core core.val).loads op = []) (ht : (s.dev.core core.val).transfer op = none)
    (hg : ∀ d : Device, d.dspEffect core.val (s.dev.core core.val) op = d.updCore core.val fun q => q.late g) :
    Effect i s (s.dev.lateNext core.val g) :=
  effect_acts (fun d => d.updCore core.val fun q => q.late g) hx h hq hb hg ht

/-! ### Loads and stores (R299) -/

theorem loadOp_of_dispOk (h : dispOk mode disp = true) : loadOp dst ptr mode disp = .load dst ptr mode disp := if_pos h
theorem loadOp_of_not_dispOk (h : dispOk mode disp = false) : loadOp dst ptr mode disp = .illegal := if_neg (Bool.eq_false_iff.mp h)
theorem storeOp_of_dispOk (h : dispOk mode disp = true) : storeOp src ptr mode disp = .store src ptr mode disp := if_pos h
theorem storeOp_of_not_dispOk (h : dispOk mode disp = false) : storeOp src ptr mode disp = .illegal := if_neg (Bool.eq_false_iff.mp h)

theorem DspCore.loads_load (k : DspCore) (dst : DspReg) (ptr : Fin 8) (mode : DspMode) (disp : BitVec 16) :
    (k.loads (.load dst ptr mode disp)).any k.badAt = k.badAt (k.address ptr mode disp).1 :=
  Bool.or_false _

theorem Device.dspEffect_load (d : Device) (c : Nat) (k : DspCore) (dst : DspReg) (ptr : Fin 8) (mode : DspMode) (disp : BitVec 16) :
    d.dspEffect c k (.load dst ptr mode disp) =
      (let a := k.address ptr mode disp
       let x := d.dspLoad c a.1
       x.1.updCore c fun q => (q.stepTo ptr a.2).late fun f => f.write dst x.2) := rfl

theorem Device.dspEffect_store (d : Device) (c : Nat) (k : DspCore) (src : DspReg) (ptr : Fin 8) (mode : DspMode) (disp : BitVec 16) :
    d.dspEffect c k (.store src ptr mode disp) =
      (let a := k.address ptr mode disp
       (d.dspStore c a.1 (k.source src)).updCore c fun q => q.stepTo ptr a.2) := rfl

/-- A command that carries a load whose displacement is as its mode asks. -/
theorem exec_dspLoad (h : dispOk mode disp = true) : exec (.dspLoad core dst ptr mode disp) s = execOp core (.load dst ptr mode disp) s :=
  congrArg (fun op => execOp core op s) (loadOp_of_dispOk h)

theorem exec_dspStore (h : dispOk mode disp = true) : exec (.dspStore core src ptr mode disp) s = execOp core (.store src ptr mode disp) s :=
  congrArg (fun op => execOp core op s) (storeOp_of_dispOk h)

theorem effect_dspLoad (h : Straight s.dev core.val) (hd : dispOk mode disp = true)
    (hb : (s.dev.core core.val).badAt ((s.dev.core core.val).address ptr mode disp).1 = false) :
    Effect (.dspLoad core dst ptr mode disp) s
      (let a := (s.dev.core core.val).address ptr mode disp
       let x := (s.dev.begins core.val).dspLoad core.val a.1
       (x.1.updCore core.val fun q => (q.stepTo ptr a.2).late fun f => f.write dst x.2).ends core.val ((s.dev.core core.val).pc + 1) none) := by
  have he := effect_straight (exec_dspLoad hd) h rfl ((DspCore.loads_load _ dst ptr mode disp).trans hb)
  rwa [Device.dspEffect_load] at he

theorem effect_dspLoad_bad (h : Straight s.dev core.val) (hd : dispOk mode disp = true)
    (hb : (s.dev.core core.val).badAt ((s.dev.core core.val).address ptr mode disp).1 = true) :
    Effect (.dspLoad core dst ptr mode disp) s (s.dev.faultCore core.val 5 12) := by
  obtain ⟨hx, hs, hl⟩ := h
  have hi : (s.dev.core core.val).illegalHere (.load dst ptr mode disp) = false :=
    DspCore.illegalHere_straight hs (DspCore.atLoopEnd_of_not_detecting hl) (by simp)
  exact Effect.of_step (exec_dspLoad hd)
    (hx.badLoad hi (DspCore.loopError_of_ne (by simp) rfl) ((DspCore.loads_load _ dst ptr mode disp).trans hb))

theorem effect_dspStore (h : Straight s.dev core.val) (hd : dispOk mode disp = true) :
    Effect (.dspStore core src ptr mode disp) s
      (let a := (s.dev.core core.val).address ptr mode disp
       ((((s.dev.begins core.val).dspStore core.val a.1 ((s.dev.core core.val).source src)).updCore core.val fun q => q.stepTo ptr a.2).ends core.val
         ((s.dev.core core.val).pc + 1) none)) := by
  have he := effect_straight (exec_dspStore (src := src) (ptr := ptr) hd) h rfl rfl
  rwa [Device.dspEffect_store] at he

/-! ### What is no instruction (R311, R312) -/

/-- A command that carries an illegal instruction: vector 1 with the PC, or with the address of the branch whose delay slot it stands in. -/
theorem effect_illegal (hx : exec i s = execOp core .illegal s) (h : CoreExecutes s.dev core.val) :
    Effect i s (s.dev.exception core.val 1 (((s.dev.core core.val).slot.map (·.branchPc)).getD (s.dev.core core.val).pc)) :=
  Effect.of_step hx (h.illegal (by simp [DspCore.illegalHere]))

/-- The high bits of an immediate are 0 exactly when it fits 16 bits. -/
theorem highBits_zero_iff (v : BitVec 24) : (v.extractLsb' 16 8 == 0) = decide (v.toNat < 65536) := by
  rw [Bool.eq_iff_iff, beq_iff_eq, decide_eq_true_iff, ← BitVec.toNat_inj, BitVec.extractLsb'_toNat, Nat.shiftRight_eq_div_pow]
  have hv := v.isLt
  show v.toNat / 2 ^ 16 % 2 ^ 8 = 0 ↔ v.toNat < 65536
  omega

theorem ldiOp_legal (h : regCode dst < 8 ∨ regCode dst < 0x20 ∧ value.toNat < 65536) : ldiOp dst value = .ldi dst value := by
  unfold ldiOp
  rcases h with h | ⟨h, hv⟩
  · rw [if_pos h]
  · split
    · rfl
    · exact if_pos (by rw [highBits_zero_iff, decide_eq_true h, decide_eq_true hv]; rfl)

theorem ldiOp_illegal (h : 0x20 ≤ regCode dst ∨ 8 ≤ regCode dst ∧ 65536 ≤ value.toNat) : ldiOp dst value = .illegal := by
  unfold ldiOp
  rw [if_neg (by omega), if_neg]
  simp only [highBits_zero_iff, Bool.and_eq_true, decide_eq_true_eq, not_and, not_lt]
  omega

/-! ### A core that executes nothing (R327, R331) -/

theorem dspStep_of_not_executing (h : (d.core c).run = .halted ∨ (d.core c).run = .fault ∨ d.pageOn (corePage c) = false ∧ (d.core c).run ≠ .waiting
      ∨ (d.core c).run ≠ .waiting ∧ (d.core c).fab.isSome = true) : d.dspStep c op = d := by
  rcases h with h | h | ⟨hp, hw⟩ | ⟨hw, hf⟩
  · exact Device.dspStep_idle (by rw [h]; decide) (by simp [Device.executes, h])
  · exact Device.dspStep_idle (by rw [h]; decide) (by simp [Device.executes, h])
  · exact Device.dspStep_idle hw (by simp [Device.executes, hp])
  · exact Device.dspStep_idle hw (by simp [Device.executes, Option.isNone_eq_false_iff.mpr hf])

/-- Settles O46: late writes, loads and stores by their effects; illegal words and damaged loads by what the core makes of them. -/
theorem dspMovesAndAccesses : Obligations.DspMovesAndAccesses := by
  unfold Obligations.DspMovesAndAccesses
  refine ⟨fun s core h => effect_acts (op := .nop) id rfl h rfl rfl (fun _ => rfl) rfl, fun s core dst src h => effect_late rfl h rfl rfl rfl fun _ => rfl,
    fun s core h => effect_late (op := .setIe true) rfl h rfl rfl rfl fun _ => rfl,
    fun s core h => effect_late (op := .setIe false) rfl h rfl rfl rfl fun _ => rfl,
    fun s core sat ov h => effect_late (op := .clrs sat ov) rfl h rfl rfl rfl fun _ => rfl, fun s core dst ptr mode disp => effect_dspLoad,
    fun s core src ptr mode disp => effect_dspStore, ?ldi, ?ldiIllegal, ?dispIllegal, fun s core dst ptr mode disp => effect_dspLoad_bad,
    fun s core line ac h => effect_acts (op := .trig line ac) (fun d => d.dspTrigger core.val line.val _) rfl h rfl rfl (fun _ => rfl) rfl,
    fun s core h => Effect.of_step (op := .nop) rfl (dspStep_of_not_executing (.inl h)), fun d c op => dspStep_of_not_executing,
    ?breakpoint, ?damaged, fun d c op h hi hl hb ht => h.performs hi hl hb ht⟩
  case ldi =>
    intro s core dst value h hv
    exact effect_late (congrArg (fun op => execOp core op s) (ldiOp_legal hv)) h rfl rfl rfl fun _ => rfl
  case ldiIllegal => exact fun s core dst value h hv => effect_illegal (congrArg (fun op => execOp core op s) (ldiOp_illegal hv)) h
  case dispIllegal =>
    exact fun s core dst ptr mode disp h hd => ⟨effect_illegal (congrArg (fun op => execOp core op s) (loadOp_of_not_dispOk hd)) h,
      effect_illegal (congrArg (fun op => execOp core op s) (storeOp_of_not_dispOk hd)) h⟩
  case breakpoint =>
    exact fun s core hp hr hf hb => Effect.of_step (op := .nop) rfl (Device.dspStep_breaks (corePage_val core ▸ hp) hr hf hb)
  case damaged => exact fun d c op hp hr hf hb hbad => (Device.dspStep_meets hp hr hf hb).trans (Device.dspMeet_damaged hbad)

end Sys2Proof.Machine
end

section
/-! PROOFS. Control transfers, delay slots and loops of a DSP core (O47). -/

namespace Sys2Proof.Machine

variable {i : Instr} {s : State} {core : Core} {d : Device} {c : Nat} {op : DspOp} {k : DspCore} {count : BitVec 16} {length : BitVec 9}

/-! ### Where an instruction leaves the PC -/

theorem pc_dspPerform (d : Device) (c : Nat) (op : DspOp) :
    ((d.dspPerform c op).core c).pc = (d.core c).nextPc (d.core c).looped.2 op := by
  rw [Device.dspPerform_eq, Device.core_updCore_self]

/-- A level whose count is above 1 sends execution back to its body (R306). -/
theorem DspCore.decide_back {l : LoopLevel} (k : DspCore) (h : 1 < l.lc.toNat) :
    k.decide l = (k.now fun f => f.put 0x2D ((l.lc - 1).setWidth 56), some l.lb) := if_pos h

/-- A level whose count is 1 ends (R306). -/
theorem DspCore.decide_ends {l : LoopLevel} (k : DspCore) (h : l.lc = 1) : k.decide l = (k.popLevel, none) := by
  rw [DspCore.decide, if_neg (by rw [h]; decide), if_pos h]

/-- Execution goes back only at the end of an active loop whose count is above 1. -/
theorem DspCore.looped_falls (h : k.atLoopEnd = false ∨ k.level.lc.toNat ≤ 1) : k.looped.2 = none := by
  rcases h with h | h
  · rw [DspCore.looped_of_not_atLoopEnd h]
  · unfold DspCore.looped DspCore.decide
    rw [if_neg (Nat.not_lt.mpr h)]
    split
    · split <;> rfl
    · rfl

/-! ### LOOP (R305) -/

/-- What a LOOP is, whichever way it gives its count. -/
theorem DspOp.loop_spec (h : k.loopCount op = some (count, length)) :
    op ≠ .illegal ∧ op ≠ .lpush ∧ (∀ n, op ≠ .trap n) ∧ k.loads op = [] ∧ k.transfer op = none
      ∧ ∀ (d : Device) c, d.dspEffect c k op = d.updCore c fun q => q.loop k.level count length := by
  cases op with
  | loopImm n l =>
    obtain ⟨rfl, rfl⟩ := Prod.mk.inj (Option.some.inj h)
    exact ⟨nofun, nofun, nofun, rfl, rfl, fun _ _ => rfl⟩
  | loopReg r l =>
    obtain ⟨rfl, rfl⟩ := Prod.mk.inj (Option.some.inj h)
    exact ⟨nofun, nofun, nofun, rfl, rfl, fun _ _ => rfl⟩
  | _ => cases h

/-- A LOOP opens a level over its body. -/
theorem effect_loop (hx : exec i s = execOp core op s) (h : Straight s.dev core.val) (hop : (s.dev.core core.val).loopCount op = some (count, length))
    (hcount : count ≠ 0) (hld : (s.dev.core core.val).ld < 4) :
    Effect i s
      (((s.dev.begins core.val).updCore core.val fun q =>
        ((q.pushLevel (s.dev.core core.val).level).setLevel ⟨count, q.pc + 1, q.pc + length.setWidth 14⟩).now fun f => f.setSrBit 7 false).ends core.val
          ((s.dev.core core.val).pc + 1) none) := by
  obtain ⟨hi, _, ht, hb, hs, he⟩ := DspOp.loop_spec hop
  have hskip : ∀ n, (s.dev.core core.val).loopCount op ≠ some (0, n) := fun n hn =>
    hcount (Prod.mk.inj (Option.some.inj (hop.symm.trans hn))).1
  have hopen : ∀ q : DspCore, q.loop (s.dev.core core.val).level count length =
      ((q.pushLevel (s.dev.core core.val).level).setLevel ⟨count, q.pc + 1, q.pc + length.setWidth 14⟩).now fun f => f.setSrBit 7 false :=
    fun q => if_neg hcount
  refine Effect.of_step hx ((h.acts hi (DspCore.loopError_of_ld (Nat.ne_of_lt hld)) (by rw [hb]; rfl) ht hskip).trans ?_)
  rw [he, hs]
  simp only [hopen]

/-- A LOOP with a count of 0 skips its body. -/
theorem effect_loop_skips (hx : exec i s = execOp core op s) (h : Straight s.dev core.val)
    (hop : (s.dev.core core.val).loopCount op = some (0, length)) :
    Effect i s ((s.dev.begins core.val).ends core.val ((s.dev.core core.val).pc + length.setWidth 14 + 1) none) := by
  obtain ⟨hx', hslot, hd⟩ := h
  obtain ⟨hi, hp, ht, hb, hs, he⟩ := DspOp.loop_spec hop
  have hend := DspCore.atLoopEnd_of_not_detecting hd
  have herr : (s.dev.core core.val).loopError op = false := by simp [DspCore.loopError, hp, hop]
  refine Effect.of_step hx ((hx'.performs (DspCore.illegalHere_straight hslot hend hi) herr (by rw [hb]; rfl) ht).trans ?_)
  rw [Device.dspPerform_eq, DspCore.looped_of_not_atLoopEnd hend, DspCore.nextPc_skip hslot hop, hs, hslot, he]
  exact Device.updCore_updCore _ _ _ _

/-! ### NOP in a delay slot and at a loop's end (R304, R306, R315) -/

/-- A NOP leaves the loop decision and the end of the delay slot alone. -/
theorem effect_nop {p : DspCore × Option (BitVec 14)} (h : CoreExecutes s.dev core.val)
    (hend : (s.dev.core core.val).slot = none ∨ (s.dev.core core.val).atLoopEnd = false) (hp : (s.dev.core core.val).looped = p) :
    Effect (.dspNop core) s
      (((s.dev.countRun core.val 1).updCore core.val fun _ => p.1).updCore core.val fun q =>
        { q.restored (s.dev.core core.val).slot with pc := (s.dev.core core.val).nextPc p.2 .nop, slot := none }) := by
  have hi : (s.dev.core core.val).illegalHere .nop = false := by
    have hslot : DspOp.nop.notInSlot = false := rfl
    have hloop : DspOp.nop.notAtLoopEnd = false := rfl
    rcases hend with hend | hend <;> simp [DspCore.illegalHere, hend, hslot, hloop]
  refine Effect.of_step (op := .nop) rfl ((h.performs hi (DspCore.loopError_of_ne nofun rfl) rfl nofun).trans ?_)
  rw [Device.dspPerform_eq, hp]
  rfl

/-- A NOP in a delay slot goes to the target, where the branch is taken. -/
theorem effect_nop_slot {b : BitVec 14} {target : Option (BitVec 14)} (h : CoreExecutes s.dev core.val)
    (hs : (s.dev.core core.val).slot = some ⟨b, target, none⟩) (hd : (s.dev.core core.val).detecting = false) :
    Effect (.dspNop core) s ((s.dev.begins core.val).ends core.val (target.getD ((s.dev.core core.val).pc + 1)) none) := by
  have hend := DspCore.atLoopEnd_of_not_detecting hd
  have he := effect_nop h (.inr hend) (DspCore.looped_of_not_atLoopEnd hend)
  rwa [DspCore.nextPc_slot hs, hs] at he

/-- The slot of an RTI restores SR and EXC. -/
theorem effect_nop_rti {b target : BitVec 14} {ssr : BitVec 12} (h : CoreExecutes s.dev core.val)
    (hs : (s.dev.core core.val).slot = some ⟨b, some target, some ssr⟩) (hd : (s.dev.core core.val).detecting = false) :
    Effect (.dspNop core) s
      ((s.dev.begins core.val).updCore core.val fun q =>
        let r := q.now fun f => f.put 0x2C ((ssr.extractLsb' 0 8).setWidth 56)
        { r with exc := ssr.getLsbD 11, pc := target, slot := none }) := by
  have hend := DspCore.atLoopEnd_of_not_detecting hd
  have he := effect_nop h (.inr hend) (DspCore.looped_of_not_atLoopEnd hend)
  rwa [DspCore.nextPc_slot hs, hs] at he

/-- A NOP at the end of an active loop whose count is above 1. -/
theorem effect_nop_back (h : CoreExecutes s.dev core.val) (hs : (s.dev.core core.val).slot = none)
    (hend : (s.dev.core core.val).atLoopEnd = true) (hc : 1 < (s.dev.core core.val).level.lc.toNat) :
    Effect (.dspNop core) s
      (((s.dev.begins core.val).updCore core.val fun q => q.now fun f => f.put 0x2D (((s.dev.core core.val).level.lc - 1).setWidth 56)).ends core.val
        (s.dev.core core.val).level.lb none) := by
  have he := effect_nop h (.inl hs) ((DspCore.looped_of_atLoopEnd hend).trans (DspCore.decide_back _ hc))
  rw [DspCore.nextPc_back hs, hs] at he
  rwa [Device.begins, Device.updCore_updCore]

/-- A NOP at the end of an active loop whose count is 1. -/
theorem effect_nop_ends (h : CoreExecutes s.dev core.val) (hs : (s.dev.core core.val).slot = none)
    (hend : (s.dev.core core.val).atLoopEnd = true) (hc : (s.dev.core core.val).level.lc = 1) :
    Effect (.dspNop core) s
      (((s.dev.begins core.val).updCore core.val fun q => q.popLevel).ends core.val ((s.dev.core core.val).pc + 1) none) := by
  have he := effect_nop h (.inl hs) ((DspCore.looped_of_atLoopEnd hend).trans (DspCore.decide_ends _ hc))
  rw [DspCore.nextPc_straight (op := .nop) hs nofun, hs] at he
  rwa [Device.begins, Device.updCore_updCore]

/-! ### LPUSH (R308) -/

theorem effect_lpush (h : Straight s.dev core.val) (hld : (s.dev.core core.val).ld < 4) :
    Effect (.dspLpush core) s
      (((s.dev.begins core.val).dspEffect core.val (s.dev.core core.val) .lpush).ends core.val ((s.dev.core core.val).pc + 1) none) :=
  Effect.of_step (op := .lpush) rfl (h.acts nofun (DspCore.loopError_of_ld (Nat.ne_of_lt hld)) rfl nofun nofun)

/-- Settles O47: the transfers by the slot they open, the slots and loop ends by what a NOP leaves of them, LOOP by its count. -/
theorem dspControlAndLoops : Obligations.DspControlAndLoops := by
  unfold Obligations.DspControlAndLoops
  refine ⟨fun s core cc target h => effect_acts (op := .bra cc target) id rfl h rfl rfl (fun _ => rfl) rfl,
    fun s core target h => effect_acts (op := .call target) (fun d => d.updCore core.val fun q => q.now fun f =>
      f.put 0x32 (((s.dev.core core.val).pc + 2).setWidth 56)) rfl h rfl rfl (fun _ => rfl) rfl,
    fun s core ptr h => effect_acts (op := .jmp ptr) id rfl h rfl rfl (fun _ => rfl) rfl,
    fun s core h => effect_acts (op := .rts) id rfl h rfl rfl (fun _ => rfl) rfl,
    fun s core h => effect_acts (op := .rti) id rfl h rfl rfl (fun _ => rfl) rfl,
    fun s core b target h hs hd => effect_nop_slot h hs hd, fun s core b target ssr h hs hd => effect_nop_rti h hs hd,
    fun d c op t hs => (pc_dspPerform d c op).trans (DspCore.nextPc_slot hs), ?back, ?falls,
    fun s core count length h hc hld => effect_loop (op := .loopImm count length) rfl h rfl hc hld,
    fun s core length h => effect_loop_skips (op := .loopImm 0 length) rfl h rfl,
    fun s core r length h hc hld => effect_loop (op := .loopReg r length) rfl h rfl hc hld,
    fun s core h hs hend hc => effect_nop_back h hs hend hc, fun s core h hs hend hc => effect_nop_ends h hs hend hc,
    fun s core h hld => effect_lpush h hld, fun s core h => effect_straight (op := .lpop) rfl h rfl rfl⟩
  case back =>
    intro d c op hs hend hc
    rw [pc_dspPerform, DspCore.looped_of_atLoopEnd hend, DspCore.decide_back _ hc, DspCore.nextPc_back hs]
  case falls =>
    intro d c op hs hfalls hc
    rw [pc_dspPerform, DspCore.looped_falls hfalls, DspCore.nextPc_straight hs hc]

end Sys2Proof.Machine
end

section
/-! PROOFS. Exceptions, interrupts, waits and halts of a DSP core (O48). -/

namespace Sys2Proof.Machine

variable {s : State} {core : Core} {d : Device} {c n : Nat} {k : DspCore} {spc : BitVec 14} {op : DspOp}

/-! ### Exceptions (R312, R314) -/

/-- Outside a handler an exception enters its vector. -/
theorem Device.exception_enters (h : (d.core c).exc = false) : d.exception c n spc = (d.updCore c fun k => k.enter n spc true).raise (corePage c) n :=
  if_neg (by simp [h])

/-- Within a handler an exception is a fault. -/
theorem Device.exception_faults (h : (d.core c).exc = true) : d.exception c n spc = d.faultCore c 4 4 := if_pos h

theorem effect_illegal_enters (h : CoreExecutes s.dev core.val) (he : (s.dev.core core.val).exc = false) :
    Effect (.illegalInstruction core) s
      ((s.dev.updCore core.val fun k =>
        k.enter 1 (((s.dev.core core.val).slot.map (·.branchPc)).getD (s.dev.core core.val).pc) true).raise (.dsp core) 1) := by
  have hx : Effect (.illegalInstruction core) s _ := effect_illegal rfl h
  rwa [Device.exception_enters he, corePage_val] at hx

theorem effect_illegal_faults (h : CoreExecutes s.dev core.val) (he : (s.dev.core core.val).exc = true) :
    Effect (.illegalInstruction core) s (s.dev.faultCore core.val 4 4) := by
  have hx : Effect (.illegalInstruction core) s _ := effect_illegal rfl h
  rwa [Device.exception_faults he] at hx

/-- A fifth level, by LOOP or LPUSH, is a loop error. -/
theorem effect_loopError {i : Instr} (hx : exec i s = execOp core op s) (h : CoreExecutes s.dev core.val) (hs : (s.dev.core core.val).slot = none)
    (hd : (s.dev.core core.val).detecting = false) (hi : op ≠ .illegal) (hl : (s.dev.core core.val).loopError op = true)
    (he : (s.dev.core core.val).exc = false) :
    Effect i s ((s.dev.updCore core.val fun k => k.enter 2 (s.dev.core core.val).pc true).raise (.dsp core) 2) := by
  have herr := h.loopError (DspCore.illegalHere_straight hs (DspCore.atLoopEnd_of_not_detecting hd) hi) hl
  rw [Device.exception_enters he, corePage_val] at herr
  exact Effect.of_step hx herr

theorem DspCore.loopError_lpush (h : k.ld = 4) : k.loopError .lpush = true := by
  simp [DspCore.loopError, h]

theorem DspCore.loopError_loop {count : BitVec 16} {length : BitVec 9} (h : k.ld = 4) (hc : count ≠ 0) : k.loopError (.loopImm count length) = true := by
  simpa [DspCore.loopError, DspCore.loopCount, h] using hc

/-- TRAP straight ahead. -/
theorem Straight.trap {n : Fin 16} (h : Straight d c) :
    d.dspStep c (.trap n) =
      if (d.core c).exc then d.exception c 3 ((d.core c).pc + 1)
      else (d.setFld (Reg.DSPIO.TRAPNO_N c) n.val).exception c 3 ((d.core c).pc + 1) := by
  obtain ⟨hx, hs, hd⟩ := h
  exact hx.trap (DspCore.illegalHere_straight hs (DspCore.atLoopEnd_of_not_detecting hd) nofun)

theorem effect_trap_faults {n : Fin 16} (h : Straight s.dev core.val) (he : (s.dev.core core.val).exc = true) :
    Effect (.dspTrap core n) s (s.dev.faultCore core.val 4 4) :=
  Effect.of_step (op := .trap n) rfl (h.trap.trans ((if_pos he).trans (Device.exception_faults he)))

theorem effect_trap_enters {n : Fin 16} (h : Straight s.dev core.val) (he : (s.dev.core core.val).exc = false) :
    Effect (.dspTrap core n) s
      (((s.dev.setFld (Reg.DSPIO.TRAPNO_N core.val) n.val).updCore core.val fun k => k.enter 3 ((s.dev.core core.val).pc + 1) true).raise (.dsp core) 3) := by
  have hnoted : ((s.dev.setFld (Reg.DSPIO.TRAPNO_N core.val) n.val).core core.val).exc = false := he
  refine Effect.of_step (op := .trap n) rfl (h.trap.trans ?_)
  rw [if_neg (Bool.eq_false_iff.mp he), Device.exception_enters hnoted, corePage_val]

/-! ### The entry to a vector (R313) -/

/-- The register file at the entry: SPC, SSR, IE and LHOLD. -/
theorem DspCore.enter_rf (k : DspCore) (n : Nat) (spc : BitVec 14) (exc : Bool) :
    (k.enter n spc exc).rf = (((k.rf.put 0x30 (spc.setWidth 56)).put 0x31 ((k.srOf k.rf).setWidth 56)).setSrBit 6 false).setSrBit 7 true := rfl

/-- The entry moves no register but SR, SPC and SSR. -/
theorem DspCore.enter_get (k : DspCore) (n : Nat) (spc : BitVec 14) (exc : Bool) {j : Nat} (h1 : j ≠ 0x2C) (h2 : j ≠ 0x30) (h3 : j ≠ 0x31) :
    (k.enter n spc exc).rf.get j = k.rf.get j := by
  rw [DspCore.enter_rf, RegFile.get_setSrBit _ _ _ h1, RegFile.get_setSrBit _ _ _ h1, RegFile.get_put_ne _ _ h3, RegFile.get_put_ne _ _ h2]

theorem DspCore.enter_spc (k : DspCore) (n : Nat) (spc : BitVec 14) (exc : Bool) : (k.enter n spc exc).rf.get 0x30 = spc.setWidth 56 := by
  rw [DspCore.enter_rf, RegFile.get_setSrBit _ _ _ (by decide), RegFile.get_setSrBit _ _ _ (by decide), RegFile.get_put_ne _ _ (by decide),
    RegFile.get_put_self]

theorem DspCore.enter_ssr (k : DspCore) (n : Nat) (spc : BitVec 14) (exc : Bool) : (k.enter n spc exc).rf.get 0x31 = (k.srOf k.rf).setWidth 56 := by
  rw [DspCore.enter_rf, RegFile.get_setSrBit _ _ _ (by decide), RegFile.get_setSrBit _ _ _ (by decide), RegFile.get_put_self]

theorem DspCore.enter_ie (k : DspCore) (n : Nat) (spc : BitVec 14) (exc : Bool) : (k.enter n spc exc).rf.srBit 6 = false := by
  rw [DspCore.enter_rf, RegFile.srBit_setSrBit _ 7 6 _ (by decide), RegFile.srBit_setSrBit _ 6 6 _ (by decide)]
  rfl

theorem DspCore.enter_lhold (k : DspCore) (n : Nat) (spc : BitVec 14) (exc : Bool) : (k.enter n spc exc).rf.srBit 7 = true := by
  rw [DspCore.enter_rf, RegFile.srBit_setSrBit _ 7 7 _ (by decide)]
  rfl

theorem DspCore.enter_run (h : k.run = .running) (n : Nat) (spc : BitVec 14) (exc : Bool) : (k.enter n spc exc).run = .running := by
  show (if k.run == .waiting then CoreRun.running else k.run) = .running
  rw [h]
  rfl

/-! ### Interrupts (R312, R316) -/

theorem Effect.interruptEntry (hp : s.dev.pageOn (.dsp core) = true) : Effect (.interruptEntry core) s (s.dev.interrupt core.val) :=
  Effect.of_run (show execInterruptEntry core s = run _ s from rfl) (if_pos hp)

/-- The conditions on which a core takes an interrupt: no delay slot, no stall, IE. -/
structure Interruptible (k : DspCore) : Prop where
  slot : k.slot = none
  fab : k.fab = none
  ie : k.rf1.srBit 6 = true

/-- A waiting core takes the lowest wanted vector and ends its wait. -/
theorem Device.interrupt_waiting {rest : List Nat} (hw : d.wanted c = n :: rest) (hr : (d.core c).run = .waiting) (hi : Interruptible (d.core c)) :
    d.interrupt c = (d.endWait c).updCore c fun k => k.enter n k.pc false := by
  simp only [Device.interrupt, hw, hr, hi.slot, hi.fab, hi.ie]
  rfl

/-- A core at work takes the lowest wanted vector. -/
theorem Device.interrupt_running {rest : List Nat} (hw : d.wanted c = n :: rest) (hr : (d.core c).run = .running ∨ (d.core c).run = .draining)
    (hi : Interruptible (d.core c)) : d.interrupt c = d.updCore c fun k => k.enter n k.pc false := by
  rcases hr with hr | hr <;>
  · simp only [Device.interrupt, hw, hr, hi.slot, hi.fab, hi.ie]
    rfl

theorem Device.interrupt_unwanted (hw : d.wanted c = []) : d.interrupt c = d := by
  simp only [Device.interrupt, hw]

/-- A core in a delay slot or a stall, or with IE = 0, takes no interrupt. -/
theorem Device.interrupt_held (h : (d.core c).slot ≠ none ∨ (d.core c).fab ≠ none ∨ (d.core c).rf1.srBit 6 = false) : d.interrupt c = d := by
  cases hw : d.wanted c with
  | nil => exact Device.interrupt_unwanted hw
  | cons n rest =>
    simp only [Device.interrupt, hw]
    refine if_neg ?_
    rcases h with h | h | h
    · simp [h]
    · simp [h]
    · simp [h]

theorem effect_interruptEntry_unwanted (hw : s.dev.wanted core.val = []) : Effect (.interruptEntry core) s s.dev :=
  Effect.of_run (show execInterruptEntry core s = run _ s from rfl) (by simp only [Device.interrupt_unwanted hw, ite_self])

/-! ### WAIT and HALT (R316, R330, R331) -/

theorem Device.dspEffect_wait (d : Device) (c : Nat) (k : DspCore) :
    d.dspEffect c k .wait =
      if k.run == .draining then d.haltCore c 6
      else if (d.wanted c).isEmpty then d.updCore c fun q => { q with run := .waiting, waitSince := d.clock }
      else d := rfl

theorem Device.dspEffect_halt (d : Device) (c : Nat) (k : DspCore) : d.dspEffect c k .halt = d.haltCore c (if k.run == .draining then 6 else 1) := rfl

/-- A WAIT straight ahead. -/
theorem effect_wait (h : Straight s.dev core.val) :
    Effect (.dspWait core) s
      (((s.dev.begins core.val).dspEffect core.val (s.dev.core core.val) .wait).ends core.val ((s.dev.core core.val).pc + 1) none) :=
  effect_straight (op := .wait) rfl h rfl rfl

/-- A HALT straight ahead. -/
theorem effect_halt (h : Straight s.dev core.val) :
    Effect (.dspHalt core) s
      (((s.dev.begins core.val).haltCore core.val (if (s.dev.core core.val).run == .draining then 6 else 1)).ends core.val
        ((s.dev.core core.val).pc + 1) none) :=
  effect_straight (op := .halt) rfl h rfl rfl

/-- Settles O48: exceptions by the entry or the fault they make, interrupts by what holds them, WAIT and HALT by the state of the core. -/
theorem dspExceptionsAndHalts : Obligations.DspExceptionsAndHalts := by
  unfold Obligations.DspExceptionsAndHalts
  refine ⟨?illegal, fun s core count length h hs hd hc hld he => effect_loopError (op := .loopImm count length) rfl h hs hd nofun (DspCore.loopError_loop hld hc) he,
    ?illegalInSlot, ?lpush, fun s core n h he => effect_trap_faults h he, fun s core n h he => effect_trap_enters h he,
    fun s core h he => effect_illegal_faults h he, ?entry, ?interruptWaiting, ?interruptHeld, ?interruptRunning,
    fun s core hw => effect_interruptEntry_unwanted hw, ?waitWanted, ?drain, ?waits, ?halts, ?drainTimeout, ?noDrain⟩
  case illegal =>
    intro s core h hs he
    have hx := effect_illegal_enters h he
    rwa [hs] at hx
  case illegalInSlot =>
    intro s core t h hs he
    have hx := effect_illegal_enters h he
    rwa [hs] at hx
  case lpush =>
    intro s core ⟨h, hs, hd⟩ hld he
    exact effect_loopError (op := .lpush) rfl h hs hd nofun (DspCore.loopError_lpush hld) he
  case entry =>
    exact fun k n spc exc hr => ⟨rfl, k.enter_spc n spc exc, k.enter_ssr n spc exc, k.enter_ie n spc exc, k.enter_lhold n spc exc, rfl,
      DspCore.enter_run hr n spc exc, rfl, fun i hi => k.enter_get n spc exc (by omega) (by omega) (by omega)⟩
  case interruptWaiting => exact fun s core n rest hp hr hw hs hf hie => Device.interrupt_waiting hw hr ⟨hs, hf, hie⟩ ▸ Effect.interruptEntry hp
  case interruptHeld =>
    intro s core hp h
    have hx := Effect.interruptEntry hp
    rwa [Device.interrupt_held h] at hx
  case interruptRunning => exact fun s core n rest hp hr hw hs hf hie => Device.interrupt_running hw hr ⟨hs, hf, hie⟩ ▸ Effect.interruptEntry hp
  case waitWanted =>
    intro s core h hr hw
    have hx := effect_wait h
    rwa [Device.dspEffect_wait, hr, if_neg (by decide), if_neg (by simpa using hw)] at hx
  case drain =>
    intro s core h hr
    have hwait := effect_wait h
    have hhalt := effect_halt h
    rw [Device.dspEffect_wait, hr, if_pos (by decide)] at hwait
    rw [hr, if_pos (by decide)] at hhalt
    exact ⟨hwait, hhalt⟩
  case waits =>
    intro s core h hr hw
    have hx := effect_wait h
    rwa [Device.dspEffect_wait, hr, if_neg (by decide), if_pos (by simp [hw]), Device.clock_begins] at hx
  case halts =>
    intro s core h hr
    have hx := effect_halt h
    rwa [hr, if_neg (by decide)] at hx
  case drainTimeout =>
    exact fun s core t hr ht => Effect.of_run (show execDspDrainTimeout core s = run _ s from rfl) (by simp only [hr, ht])
  case noDrain =>
    intro s core hr
    refine Effect.of_run (show execDspDrainTimeout core s = run _ s from rfl) ?_
    cases hrun : (s.dev.core core.val).run with
    | draining => exact absurd hrun hr
    | halted | running | waiting | fault => simp only

end Sys2Proof.Machine
end

section
/-! PROOFS. The queues and ports of a DSP core, its timer and its waveform requests (O49). -/

namespace Sys2Proof.Machine

variable {s : State} {core : Core} {d : Device} {c i : Nat} {data v : BitVec 24} {w : WaveReq} {rest : List WaveReq}

/-! ### Results and the mailbox (R326) -/

theorem Device.pushRes_room (h : (d.core c).res.length < 256) :
    d.pushRes c v = d.updCore c fun k => { k with res := k.res ++ [(BitVec.ofNat 7 (d.fld (Reg.DSPIO.RES_TAG_TAG c)), v)] } :=
  if_neg (Nat.not_le.mpr h)

theorem Device.pushRes_full (h : 256 ≤ (d.core c).res.length) : d.pushRes c v = d.raise (corePage c) 5 := if_pos h

theorem Effect.resPush (hp : s.dev.pageOn (.dsp core) = true) : Effect (.resPush core data) s (s.dev.pushRes core.val data) :=
  Effect.of_run (show execResPush core data s = run _ s from rfl) (if_pos hp)

theorem Device.popMbx_cons {rest : List (BitVec 24)} (h : (d.core c).mbx = v :: rest) : d.popMbx c = (d.updCore c fun k => { k with mbx := rest }, v) := by
  have hpop : d.updCore c (fun k => { k with mbx := k.mbx.drop 1 }) = d.updCore c fun k => { k with mbx := rest } :=
    Device.updCore_congr (by rw [h]; rfl)
  simp only [Device.popMbx, h, hpop]

theorem Device.popMbx_nil (h : (d.core c).mbx = []) : d.popMbx c = (d, 0) := by
  simp only [Device.popMbx, h]

theorem Effect.mbxPop : Effect (.mbxPop core) s
    (let p := if s.dev.pageOn (.dsp core) then s.dev.popMbx core.val else (s.dev, 0)
     { p.1 with rdata := p.2.setWidth 32 }) := rfl

theorem effect_mbxPop_cons {rest : List (BitVec 24)} (hp : s.dev.pageOn (.dsp core) = true) (h : (s.dev.core core.val).mbx = v :: rest) :
    Effect (.mbxPop core) s { (s.dev.updCore core.val fun k => { k with mbx := rest }) with rdata := v.setWidth 32 } := by
  have hx := Effect.mbxPop (s := s) (core := core)
  rwa [if_pos hp, Device.popMbx_cons h] at hx

theorem effect_mbxPop_nil (h : (s.dev.core core.val).mbx = []) : Effect (.mbxPop core) s { s.dev with rdata := 0 } := by
  have hx := Effect.mbxPop (s := s) (core := core)
  rwa [Device.popMbx_nil h, ite_self] at hx

theorem Device.popRes_cons {tag : BitVec 7} {rest : List (BitVec 7 × BitVec 24)} (h : (d.core c).res = (tag, v) :: rest) :
    d.popRes c = (d.updCore c fun k => { k with res := rest }, (1#1 : BitVec 1) ++ tag ++ v) := by
  have hpop : d.updCore c (fun k => { k with res := k.res.drop 1 }) = d.updCore c fun k => { k with res := rest } :=
    Device.updCore_congr (by rw [h]; rfl)
  simp only [Device.popRes, h, hpop]
  rfl

theorem Device.popRes_nil (h : (d.core c).res = []) : d.popRes c = (d, 0) := by
  simp only [Device.popRes, h]

theorem Effect.resDataRead : Effect (.resDataRead core) s
    (let p := if s.dev.pageOn (.dsp core) then s.dev.popRes core.val else (s.dev, 0)
     { p.1 with rdata := p.2 }) := rfl

theorem effect_resDataRead_cons {tag : BitVec 7} {rest : List (BitVec 7 × BitVec 24)} (hp : s.dev.pageOn (.dsp core) = true)
    (h : (s.dev.core core.val).res = (tag, v) :: rest) :
    Effect (.resDataRead core) s { (s.dev.updCore core.val fun k => { k with res := rest }) with rdata := (1#1 : BitVec 1) ++ tag ++ v } := by
  have hx := Effect.resDataRead (s := s) (core := core)
  rwa [if_pos hp, Device.popRes_cons h] at hx

theorem effect_resDataRead_nil (h : (s.dev.core core.val).res = []) : Effect (.resDataRead core) s { s.dev with rdata := 0 } := by
  have hx := Effect.resDataRead (s := s) (core := core)
  rwa [Device.popRes_nil h, ite_self] at hx

theorem Device.pushMbx_room (h : (d.core c).mbx.length < 256) : d.pushMbx c v = (d.updCore c fun k => { k with mbx := k.mbx ++ [v] }).wake c :=
  if_neg (Nat.not_le.mpr h)

theorem Device.pushMbx_full (h : 256 ≤ (d.core c).mbx.length) : d.pushMbx c v = d.raise (corePage c) 6 := if_pos h

theorem Effect.mbxWrite (hp : s.dev.pageOn (.dsp core) = true) : Effect (.mbxWrite core data) s (s.dev.pushMbx core.val data) :=
  Effect.of_run (show execMbxWrite core data s = run _ s from rfl) (if_pos hp)

/-! ### Waking and the timer (R316, R329) -/

/-- A waiting core with IE = 0 whose source is pending goes on. -/
theorem Device.wake_wanted (hr : (d.core c).run = .waiting) (hie : (d.core c).rf1.srBit 6 = false) (hw : d.wanted c ≠ []) :
    d.wake c = (d.count (Reg.DSP.CNT_WAIT c) ((d.clock - (d.core c).waitSince) / 2)).updCore c fun k => { k with run := .running } :=
  if_pos (by simp [hr, hie, hw])

theorem Device.wake_otherwise (h : (d.core c).run ≠ .waiting ∨ (d.core c).rf1.srBit 6 = true ∨ d.wanted c = []) : d.wake c = d := by
  rcases h with h | h | h
  · exact Device.wake_of_ne_waiting h
  · exact if_neg (by simp [h])
  · exact if_neg (by simp [h])

/-- A timer that runs expires a period after it started. -/
theorem effect_dspTimerExpire (hp : s.dev.pageOn (.dsp core) = true) (hc : s.dev.tim.dspClock = true)
    (hn : s.dev.fld (Reg.DSPIO.TMR_PERIOD_CYCLES core.val) ≠ 0) :
    Effect (.dspTimerExpire core) s
      (let due := (s.dev.core core.val).tmrStart + 2 * s.dev.fld (Reg.DSPIO.TMR_PERIOD_CYCLES core.val)
       (((s.dev.waitUntil due).setFlag (Reg.DSPIO.IPEND_TIMER core.val) true).updCore core.val fun k => { k with tmrStart := due }).wake core.val) :=
  Effect.of_run (show execDspTimerExpire core s = run _ s from rfl) (if_pos (by simp [hp, hc, hn]))

theorem effect_dspTimerExpire_off (h : s.dev.tim.dspClock = false ∨ s.dev.fld (Reg.DSPIO.TMR_PERIOD_CYCLES core.val) = 0) :
    Effect (.dspTimerExpire core) s s.dev :=
  Effect.of_run (show execDspTimerExpire core s = run _ s from rfl) (if_neg (by rcases h with h | h <;> simp [h]))

/-! ### The start of a fabric access (R327) -/

theorem Device.fabStart_busy {write : Bool} (h : (d.core c).fab.isSome = true) : d.fabStart c write = d := if_pos h

theorem Device.fabStart_free {write : Bool} (h : (d.core c).fab = none) :
    d.fabStart c write = (d.setWord (Reg.DSPIO.FAB_STATUS c) 0).updCore c fun k => { k with fab := some write, fabSince := d.clock } :=
  if_neg (by simp [h])

theorem Effect.fabRead : Effect (.fabRead core) s (if s.dev.pageOn (.dsp core) then s.dev.fabStart core.val false else s.dev) := rfl
theorem Effect.fabWrite : Effect (.fabWrite core) s (if s.dev.pageOn (.dsp core) then s.dev.fabStart core.val true else s.dev) := rfl

theorem effect_fabRead (hp : s.dev.pageOn (.dsp core) = true) (h : (s.dev.core core.val).fab = none) :
    Effect (.fabRead core) s ((s.dev.setWord (Reg.DSPIO.FAB_STATUS core.val) 0).updCore core.val fun k => { k with fab := some false, fabSince := s.dev.clock }) := by
  have hx := Effect.fabRead (s := s) (core := core)
  rwa [if_pos hp, Device.fabStart_free h] at hx

theorem effect_fabWrite (hp : s.dev.pageOn (.dsp core) = true) (h : (s.dev.core core.val).fab = none) :
    Effect (.fabWrite core) s ((s.dev.setWord (Reg.DSPIO.FAB_STATUS core.val) 0).updCore core.val fun k => { k with fab := some true, fabSince := s.dev.clock }) := by
  have hx := Effect.fabWrite (s := s) (core := core)
  rwa [if_pos hp, Device.fabStart_free h] at hx

/-- An access in progress is the only one. -/
theorem effect_fab_busy (h : (s.dev.core core.val).fab.isSome = true) : Effect (.fabRead core) s s.dev ∧ Effect (.fabWrite core) s s.dev := by
  have hread := Effect.fabRead (s := s) (core := core)
  have hwrite := Effect.fabWrite (s := s) (core := core)
  rw [Device.fabStart_busy h, ite_self] at hread hwrite
  exact ⟨hread, hwrite⟩

/-! ### Waveform requests (R324) -/

theorem Effect.waveformRequest (hp : s.dev.pageOn (.dsp core) = true) : Effect (.waveformRequest core) s (s.dev.waveRequest core.val) :=
  Effect.of_run (show execWaveformRequest core s = run _ s from rfl) (if_pos hp)

theorem Device.waveRequest_full (h : 4 ≤ (d.core c).waves.length) :
    d.waveRequest c = (d.setFlag (Reg.DSPIO.WR_STATUS_OVERRUN c) true).raise (corePage c) 13 := if_pos h

/-- A request joins the queue with the context allocated for it, if the builder gives one. -/
theorem Device.waveRequest_room (h : (d.core c).waves.length < 4) :
    d.waveRequest c =
      (let i := d.fld (Reg.DSPIO.WR_STREAM_STREAM c)
       let st := (d.core c).stream i
       let back := (st.wptr - BitVec.ofNat 11 (d.fld (Reg.DSPIO.WR_INDEX_SLOT c))).toNat
       let p := if d.pageOn .evb then d.allocCtx 3 0 else (d, none)
       p.1.updCore c fun k =>
         { k with waves := k.waves ++ [⟨i, p.1.fld (Reg.DSP.SRC_ADC c i), st.total + 2048 - back, p.1.fld (Reg.DSPIO.WR_N_N c), p.2⟩] }) :=
  if_neg (Nat.not_le.mpr h)

/-! ### The oldest request ends (R325, R330) -/

theorem Effect.waveformRecordDone : Effect (.waveformRecordDone core) s (if s.dev.pageOn (.dsp core) then s.dev.waveNext core.val else s.dev) := rfl

theorem effect_waveformRecordDone (hp : s.dev.pageOn (.dsp core) = true) : Effect (.waveformRecordDone core) s (s.dev.waveNext core.val) :=
  if_pos (c := s.dev.pageOn (.dsp core) = true) (t := s.dev.waveNext core.val) (e := s.dev) hp ▸ Effect.waveformRecordDone

theorem Device.waveNext_nil (h : (d.core c).waves = []) : d.waveNext c = d := by
  simp only [Device.waveNext, h]

/-- A request waits for its samples while the core is enabled. -/
theorem Device.waveNext_waits (h : (d.core c).waves = w :: rest) (he : d.enabled (corePage c) = true)
    (hm : ((d.core c).stream w.stream).total + 2048 < w.first + w.n) : d.waveNext c = d := by
  simp only [Device.waveNext, h, hm, he, decide_true, Bool.and_self, if_true]

/-- The device with the context of a request free again, if it has one. -/
def Device.freeWaveCtx (d : Device) (w : WaveReq) : Device :=
  match w.ctx with
  | some i => d.freeCtxAt i
  | none => d

/-- In a drain a request whose samples are not written ends with GAP. -/
theorem Device.waveNext_drained (h : (d.core c).waves = w :: rest) (he : d.enabled (corePage c) = false)
    (hm : ((d.core c).stream w.stream).total + 2048 < w.first + w.n) :
    d.waveNext c = (d.freeWaveCtx w).waveDone c 3 := by
  simp only [Device.waveNext, h, hm, he, decide_true, Bool.and_false, Bool.false_eq_true, if_false, if_true]
  rfl

/-- A request with its samples written and another outcome than OK ends with that outcome. -/
theorem Device.waveNext_failed (h : (d.core c).waves = w :: rest) (hm : w.first + w.n ≤ ((d.core c).stream w.stream).total + 2048)
    (ho : d.waveOutcome c w ≠ 0) :
    d.waveNext c = (d.freeWaveCtx w).waveDone c (d.waveOutcome c w) := by
  have hwritten : decide (((d.core c).stream w.stream).total + 2048 < w.first + w.n) = false := decide_eq_false (Nat.not_lt.mpr hm)
  simp only [Device.waveNext, h, hwritten, Bool.false_and, Bool.false_eq_true, if_false, ho, decide_false]
  rfl

/-- A request with outcome OK ends with its record. -/
theorem Device.waveNext_recorded (h : (d.core c).waves = w :: rest) (hm : w.first + w.n ≤ ((d.core c).stream w.stream).total + 2048)
    (ho : d.waveOutcome c w = 0) (he : d.pageOn .evb = true) (hc : w.ctx = some i) :
    d.waveNext c = (let p := d.waveRecord c w; ((p.1.closeCtx i).emit p.2).waveDone c 0) := by
  have hwritten : decide (((d.core c).stream w.stream).total + 2048 < w.first + w.n) = false := decide_eq_false (Nat.not_lt.mpr hm)
  simp only [Device.waveNext, h, hwritten, Bool.false_and, Bool.false_eq_true, if_false, ho, he, hc, decide_true, Bool.and_self, if_true]

/-! ### Outcomes (R325) -/

/-- A length is refused when it is 0, or above 508 with every bit kept. -/
def badLength (d : Device) (w : WaveReq) : Bool :=
  w.n = 0 || (waveKeep (d.fmtEntry (d.fld Reg.EVB.OUT_FORMAT_ACTIVE)) = 0xFF && decide (508 < w.n))

theorem waveOutcome_eq (d : Device) (c : Nat) (w : WaveReq) :
    d.waveOutcome c w =
      if badLength d w then 5
      else if w.ctx.isNone then 2
      else if w.first + 2048 < ((d.core c).stream w.stream).total + 2048 then 1
      else if consecutive ((List.range w.n).map fun j => ((d.core c).sample w.stream (w.first + j)).2) then 0
      else 3 := rfl

theorem badLength_false (h0 : w.n ≠ 0) (hk : waveKeep (d.fmtEntry (d.fld Reg.EVB.OUT_FORMAT_ACTIVE)) = 0xFF → w.n ≤ 508) : badLength d w = false := by
  simp only [badLength, h0, decide_false, Bool.false_or, Bool.and_eq_false_iff, decide_eq_false_iff_not, not_lt]
  exact Decidable.not_or_of_imp hk

/-- Settles O49: each port by its queue's room and its head, a request by its samples and its outcome. -/
theorem dspQueuesAndPorts : Obligations.DspQueuesAndPorts := by
  unfold Obligations.DspQueuesAndPorts
  refine ⟨fun s core data hp h => Device.pushRes_room h ▸ Effect.resPush hp, ?resFull, fun s core v rest hp h => effect_mbxPop_cons hp h,
    fun s core h => effect_mbxPop_nil h, fun s core tag v rest hp h => effect_resDataRead_cons hp h, fun s core h => effect_resDataRead_nil h,
    fun s core data hp h => Device.pushMbx_room h ▸ Effect.mbxWrite hp, ?mbxFull, fun d c => Device.wake_wanted, fun d c => Device.wake_otherwise,
    fun s core => effect_dspTimerExpire, fun s core => effect_dspTimerExpire_off, fun s core => effect_fab_busy, fun s core => effect_fabRead,
    fun s core => effect_fabWrite, ?requestFull, fun s core hp h => Device.waveRequest_room h ▸ Effect.waveformRequest hp, ?noRequest, ?waits, ?drained,
    fun s core w rest hp h hm ho => Device.waveNext_failed h hm ho ▸ effect_waveformRecordDone hp,
    fun s core w rest i hp he h hm ho hc => Device.waveNext_recorded h hm ho he hc ▸ effect_waveformRecordDone hp, ?length, ?context, ?stale⟩
  case resFull =>
    intro s core data hp h
    have hx := Effect.resPush (data := data) hp
    rwa [Device.pushRes_full h, corePage_val] at hx
  case mbxFull =>
    intro s core data hp h
    have hx := Effect.mbxWrite (data := data) hp
    rwa [Device.pushMbx_full h, corePage_val] at hx
  case requestFull =>
    intro s core hp h
    have hx := Effect.waveformRequest hp
    rwa [Device.waveRequest_full h, corePage_val] at hx
  case noRequest =>
    intro s core h
    have hx := Effect.waveformRecordDone (s := s) (core := core)
    rwa [Device.waveNext_nil h, ite_self] at hx
  case waits =>
    intro s core w rest h he hm
    have hx := Effect.waveformRecordDone (s := s) (core := core)
    rwa [Device.waveNext_waits h (corePage_val core ▸ he) hm, ite_self] at hx
  case drained =>
    exact fun s core w rest hp h he hm => Device.waveNext_drained h (corePage_val core ▸ he) hm ▸ effect_waveformRecordDone hp
  case length =>
    intro d c w h0
    rw [waveOutcome_eq, if_pos (by simp [badLength, h0])]
  case context =>
    intro d c w h0 hk hc
    rw [waveOutcome_eq, badLength_false h0 hk, if_neg Bool.false_ne_true, hc]
    rfl
  case stale =>
    intro d c w i h0 hk hc hold
    rw [waveOutcome_eq, badLength_false h0 hk, if_neg Bool.false_ne_true, hc, if_neg (by simp), if_pos hold]

end Sys2Proof.Machine
end

section
/-! PROOFS. What the host does to a DSP core (O50). -/

namespace Sys2Proof.Machine

variable {s : State} {core : Core} {d : Device} {c i : Nat} {r : DspReg} {data : W32} {pc : Bool}

/-! ### The commands of the host on a core with power -/

theorem Effect.dspRun (hp : s.dev.pageOn (.dsp core) = true) : Effect (.dspRun core) s (s.dev.runCore core.val) :=
  Effect.of_run (show execDspRun core s = run _ s from rfl) (if_pos hp)
theorem Effect.dspHaltRequest (hp : s.dev.pageOn (.dsp core) = true) : Effect (.dspHaltRequest core) s (s.dev.stopCore core.val) :=
  Effect.of_run (show execDspHaltRequest core s = run _ s from rfl) (if_pos hp)
theorem Effect.dspStep (hp : s.dev.pageOn (.dsp core) = true) : Effect (.dspStep core) s (s.dev.stepCore core.val) :=
  Effect.of_run (show execDspStep core s = run _ s from rfl) (if_pos hp)
theorem Effect.dspResetPc (hp : s.dev.pageOn (.dsp core) = true) : Effect (.dspResetPc core) s (s.dev.resetPc core.val) :=
  Effect.of_run (show execDspResetPc core s = run _ s from rfl) (if_pos hp)
theorem Effect.dspPmemWrite {index : BitVec 14} (hp : s.dev.pageOn (.dsp core) = true) :
    Effect (.dspPmemWrite core index data) s (s.dev.writePmem core.val index.toNat data) :=
  Effect.of_run (show execDspPmemWrite core index data s = run _ s from rfl) (if_pos hp)
theorem Effect.dspRegDataWrite (hp : s.dev.pageOn (.dsp core) = true) :
    Effect (.dspRegDataWrite core pc data) s (s.dev.writeCoreReg core.val pc data) :=
  Effect.of_run (show execDspRegDataWrite core pc data s = run _ s from rfl) (if_pos hp)

theorem Device.refuseHost_core (d : Device) (core : Core) : d.refuseHost core.val = d.raise (.dsp core) 10 :=
  congrArg (fun p => d.raise p 10) (corePage_val core)

/-! ### RUN (R286, R331, R339) -/

/-- RUN is refused for a claimed core, and without its clock. -/
theorem Device.runCore_refused (h : (d.core c).claimed = true ∨ d.tim.dspClock = false) : d.runCore c = d.refuseHost c :=
  if_pos (by rcases h with h | h <;> simp [h])

/-- CTRL is neither PAGE_CTRL of a core nor a register of the power domains. -/
theorem ctrlRun_apart : ∀ core : Core,
    domReg (Reg.DSP.CTRL_RUN core.val).addr = false ∧ pageCtrl (corePage core.val) ≠ (Reg.DSP.CTRL_RUN core.val).addr := by
  decide

theorem Device.enabled_setRun (d : Device) (core : Core) (b : Bool) :
    (d.setFlag (Reg.DSP.CTRL_RUN core.val) b).enabled (.dsp core) = d.enabled (.dsp core) :=
  corePage_val core ▸ Device.enabled_setWord (ctrlRun_apart core).1 (ctrlRun_apart core).2

theorem Device.runCore_eq (hc : (d.core core.val).claimed = false) (hk : d.tim.dspClock = true) :
    d.runCore core.val =
      if (d.core core.val).run == .halted && d.enabled (.dsp core) then
        (d.setFlag (Reg.DSP.CTRL_RUN core.val) true).updCore core.val fun k => { k with run := .running }
      else d.setFlag (Reg.DSP.CTRL_RUN core.val) true := by
  simp only [Device.runCore, hc, hk, corePage_val]
  exact (if_neg Bool.false_ne_true).trans (by rw [Device.enabled_setRun])

/-! ### RUN = 0 (R331, R339) -/

theorem Device.stopCore_claimed (h : (d.core c).claimed = true) : d.stopCore c = d.refuseHost c := if_pos h

/-- A core that neither stalls nor stands still halts at once. -/
theorem Device.stopCore_halts (hc : (d.core c).claimed = false)
    (hr : (d.core c).run = .running ∨ (d.core c).run = .waiting ∨ (d.core c).run = .draining) (hf : (d.core c).fab = none) :
    d.stopCore c = (d.setFlag (Reg.DSP.CTRL_RUN c) false).haltCore c 0 := by
  rcases hr with hr | hr | hr <;>
  · simp only [Device.stopCore, hc, hr, hf]
    rfl

/-- A core in a fabric access halts after it. -/
theorem Device.stopCore_stalled (hc : (d.core c).claimed = false) (hr : (d.core c).run = .running) (hf : (d.core c).fab.isSome = true) :
    d.stopCore c = (d.setFlag (Reg.DSP.CTRL_RUN c) false).updCore c fun k => { k with stopAsked := true } := by
  simp only [Device.stopCore, hc, hr, hf]
  rfl

theorem Device.stopCore_still (hc : (d.core c).claimed = false) (hr : (d.core c).run = .halted ∨ (d.core c).run = .fault) :
    d.stopCore c = d.setFlag (Reg.DSP.CTRL_RUN c) false := by
  rcases hr with hr | hr <;>
  · simp only [Device.stopCore, hc, hr]
    rfl

/-! ### STEP and RESET_PC (R312, R331, R339) -/

theorem Device.stepCore_refused (h : (d.core c).claimed = true ∨ d.tim.dspClock = false) : d.stepCore c = d.refuseHost c :=
  if_pos (by rcases h with h | h <;> simp [h])

/-- A step meets the word at the PC and halts with cause 3, unless it faults. -/
theorem Device.stepCore_steps (hc : (d.core c).claimed = false) (hk : d.tim.dspClock = true) (hr : (d.core c).run = .halted)
    (hf : (d.core c).fab = none) :
    d.stepCore c =
      (let x := d.dspMeet c (decodeDsp ((d.core c).pmemWord (d.core c).pc.toNat))
       if (x.core c).run = .fault then x else x.haltCore c 3) := by
  simp only [Device.stepCore, hc, hk, hr, hf, beq_iff_eq]
  rfl

theorem Device.resetPc_claimed (h : (d.core c).claimed = true) : d.resetPc c = d.refuseHost c := if_pos h

theorem Device.resetPc_halted (hc : (d.core c).claimed = false) (hr : (d.core c).run = .halted) :
    d.resetPc c =
      d.updCore c fun k => { k with rf := [], rf1 := [], rf2 := [], ld := 0, exc := false, loops := [], loopOld := none, pc := 0, slot := none } := by
  simp only [Device.resetPc, hc, hr]
  rfl

/-! ### The breakpoint (R331) -/

theorem effect_dspBreakpoint (hp : s.dev.pageOn (.dsp core) = true) (hr : (s.dev.core core.val).run = .running)
    (hf : (s.dev.core core.val).fab = none) (hb : s.dev.breaks core.val = true) : Effect (.dspBreakpoint core) s (s.dev.haltCore core.val 2) :=
  Effect.of_run (show execDspBreakpoint core s = run _ s from rfl)
    (if_pos (by rw [Device.executes_of (corePage_val core ▸ hp) (.inl hr) hf, hb]; rfl))

/-! ### PMEM, the PC and the registers (R292, R295, R331) -/

theorem Device.writePmem_halted (hr : (d.core c).run = .halted) : d.writePmem c i data = d.updCore c fun k => k.setPmem i data :=
  if_pos (by rw [hr]; rfl)

theorem Device.writePmem_refused (hr : (d.core c).run ≠ .halted) : d.writePmem c i data = d.refuseHost c :=
  if_neg (by simpa using hr)

theorem Device.writeCoreReg_refused (h : (d.core c).claimed = true ∨ (d.core c).run ≠ .halted) : d.writeCoreReg c pc data = d.refuseHost c :=
  if_pos (by rcases h with h | h <;> simp [h])

/-- The host writes the PC or the register that REG_ADDR names. -/
theorem Device.writeCoreReg_eq (hc : (d.core c).claimed = false) (hr : (d.core c).run = .halted) :
    d.writeCoreReg c pc data =
      if pc then d.updCore c fun k => { k with pc := data.setWidth 14, slot := none }
      else match regOfCode (d.fld (Reg.DSP.REG_ADDR_CODE c)) with
        | some r => d.updCore c fun k => k.now fun f => f.write r (data.setWidth 24)
        | none => d := by
  simp only [Device.writeCoreReg, hc, hr]
  rfl

/-! ### The scrub (R293) -/

theorem Effect.dspMemScrub {corrected bad : List (BitVec 20)} (hp : s.dev.pageOn (.dsp core) = true) :
    Effect (.dspMemScrub core corrected bad) s
      ((if corrected.isEmpty then s.dev else (s.dev.count (Reg.DSP.CNT_MEM_CE core.val) corrected.length).raise (.dsp core) 11).updCore core.val
        fun k => { k with bad := k.bad ++ bad.filter fun b => !k.bad.contains b }) :=
  Effect.of_run (show execDspMemScrub core corrected bad s = run _ s from rfl) (if_pos hp)

/-- Settles O50: each command of the host by the core's claim, clock and state. -/
theorem dspHostAccess : Obligations.DspHostAccess := by
  unfold Obligations.DspHostAccess
  refine ⟨?run, ?runStays, ?noClock, ?claimed, fun s core hp hc hr hf => Device.stopCore_halts hc hr hf ▸ Effect.dspHaltRequest hp,
    fun s core hp hc hr hf => Device.stopCore_stalled hc hr hf ▸ Effect.dspHaltRequest hp,
    fun s core hp hc hr => Device.stopCore_still hc hr ▸ Effect.dspHaltRequest hp,
    fun s core hp hc hk hr hf => Device.stepCore_steps hc hk hr hf ▸ Effect.dspStep hp,
    fun s core hp hc hr => Device.resetPc_halted hc hr ▸ Effect.dspResetPc hp,
    fun s core hp hr hf hb => effect_dspBreakpoint hp hr hf hb,
    fun s core index data hp hr => Device.writePmem_halted hr ▸ Effect.dspPmemWrite hp, ?pmemRefused, ?pc, ?reg, ?noReg, ?regRefused,
    fun s core bad hp => Effect.dspMemScrub hp, fun s core a rest bad hp => Effect.dspMemScrub hp⟩
  case run =>
    intro s core hp he hc hk hr
    have hx := Effect.dspRun hp
    rwa [Device.runCore_eq hc hk, if_pos (by rw [hr, he]; rfl)] at hx
  case runStays =>
    intro s core hp hc hk h
    have hx := Effect.dspRun hp
    rwa [Device.runCore_eq hc hk, if_neg (by rcases h with h | h <;> simp [h])] at hx
  case noClock =>
    intro s core hp hk
    have hrun := Effect.dspRun hp
    have hstep := Effect.dspStep hp
    rw [Device.runCore_refused (.inr hk), Device.refuseHost_core] at hrun
    rw [Device.stepCore_refused (.inr hk), Device.refuseHost_core] at hstep
    exact ⟨hrun, hstep⟩
  case claimed =>
    intro s core hp hc
    have hrun := Effect.dspRun hp
    have hhalt := Effect.dspHaltRequest hp
    have hstep := Effect.dspStep hp
    have hreset := Effect.dspResetPc hp
    rw [Device.runCore_refused (.inl hc), Device.refuseHost_core] at hrun
    rw [Device.stopCore_claimed hc, Device.refuseHost_core] at hhalt
    rw [Device.stepCore_refused (.inl hc), Device.refuseHost_core] at hstep
    rw [Device.resetPc_claimed hc, Device.refuseHost_core] at hreset
    exact ⟨hrun, hhalt, hstep, hreset⟩
  case pmemRefused =>
    intro s core index data hp hr
    have hx := Effect.dspPmemWrite (index := index) (data := data) hp
    rwa [Device.writePmem_refused hr, Device.refuseHost_core] at hx
  case pc =>
    intro s core data hp hc hr
    have hx := Effect.dspRegDataWrite (pc := true) (data := data) hp
    rwa [Device.writeCoreReg_eq hc hr, if_pos rfl] at hx
  case reg =>
    intro s core data r hp hc hr hreg
    have hx := Effect.dspRegDataWrite (pc := false) (data := data) hp
    rwa [Device.writeCoreReg_eq hc hr, if_neg Bool.false_ne_true, hreg] at hx
  case noReg =>
    intro s core data hp hc hr hreg
    have hx := Effect.dspRegDataWrite (pc := false) (data := data) hp
    rwa [Device.writeCoreReg_eq hc hr, if_neg Bool.false_ne_true, hreg] at hx
  case regRefused =>
    intro s core pc data hp h
    have hx := Effect.dspRegDataWrite (pc := pc) (data := data) hp
    rwa [Device.writeCoreReg_refused h, Device.refuseHost_core] at hx

end Sys2Proof.Machine
end

section
/-! PROOFS. The accesses of cores, of sequence steps and of link commands (O27). -/

namespace Sys2Proof.Machine

variable {s : State} {core : Core} {d e : Device} {c a n op : Nat} {r r' : SeqRun} {w : W32} {b : BitVec 257} {rest : List (Option (BitVec 257))}
  {data : W32}

/-! ### A core's fabric access (R327, R328, R331) -/

/-- The device once a core's access is over: its wait is counted, and the core executes again. -/
def Device.fabOver (d : Device) (c n : Nat) : Device :=
  ((d.count (Reg.DSP.CNT_FAB_STALL c) n).countRun c n).updCore c fun k => { k with fab := none }

/-- The offset that a core's access names (R328). -/
def Device.fabAddr (d : Device) (c : Nat) : Nat := d.fld (Reg.DSPIO.FAB_ADDR_LO_ADDR c) + 65536 * d.fld (Reg.DSPIO.FAB_ADDR_HI_ADDR c)

/-- The word that a core's access writes (R328). -/
def Device.fabWord (d : Device) (c : Nat) : W32 :=
  BitVec.ofNat 32 (d.fld (Reg.DSPIO.FAB_WDATA_LO_DATA c) + 65536 * d.fld (Reg.DSPIO.FAB_WDATA_HI_DATA c))

@[simp] theorem Device.core_fabResult (d : Device) (c : Nat) (error refused : Bool) (i : Nat) : (d.fabResult c error refused).core i = d.core i := by
  unfold Device.fabResult
  split
  · rw [Device.core_setFlag, Device.core_raise, Device.core_setFlag, Device.core_setFlag]
  · rfl

/-- An access that is over leaves whether a halt was asked for. -/
theorem Device.fabOver_stopAsked (d : Device) (c n : Nat) : ((d.fabOver c n).core c).stopAsked = (d.core c).stopAsked := by
  rw [Device.fabOver, Device.core_updCore_self, Device.core_countRun, Device.core_count]

/-- A write that times out. -/
theorem Device.fabDone_timedOut (h : (d.core core.val).stopAsked = false) :
    d.fabDone core true true =
      ((d.waitUntil ((d.core core.val).fabSince + 10 * Config.usCt)).fabOver core.val
        (((d.waitUntil ((d.core core.val).fabSince + 10 * Config.usCt)).clock - (d.core core.val).fabSince) / 2)).fabResult core.val true false :=
  have hs (x : Device) (n : Nat) (hx : (x.core core.val).stopAsked = false) :
      (((x.fabOver core.val n).fabResult core.val true false).core core.val).stopAsked = false := by
    rw [Device.core_fabResult, Device.fabOver_stopAsked, hx]
  if_neg (ne_true_of_eq_false (hs (d.waitUntil ((d.core core.val).fabSince + 10 * Config.usCt)) _ h))

/-- A read of a register within the route's reach. -/
theorem Device.fabDone_reads (hr : dspReaches (d.fabAddr core.val) = true)
    (hd : (d.fabOver core.val ((d.clock - (d.core core.val).fabSince) / 2)).regRead (d.fabAddr core.val) = (e, w))
    (hs : (((e.fabData core.val w).fabResult core.val false false).core core.val).stopAsked = false) :
    d.fabDone core false false = (e.fabData core.val w).fabResult core.val false false := by
  unfold Device.fabOver Device.fabAddr at hd
  unfold Device.fabAddr at hr
  simp only [Device.fabDone, Bool.false_eq_true, if_false, hr, hd, hs, Bool.not_true, Bool.or_self]

/-- A write of a register within the route's reach. -/
theorem Device.fabDone_writes (hr : dspReaches (d.fabAddr core.val) = true)
    (hd : e = (d.fabOver core.val ((d.clock - (d.core core.val).fabSince) / 2)).regWrite (.dsp core) none (d.fabAddr core.val) (d.fabWord core.val))
    (hs : ((e.fabResult core.val false e.wrRefused).core core.val).stopAsked = false) :
    d.fabDone core false true = e.fabResult core.val false e.wrRefused := by
  unfold Device.fabOver Device.fabAddr Device.fabWord at hd
  unfold Device.fabAddr at hr
  simp only [Device.fabDone, Bool.false_eq_true, if_false, hr, ← hd, hs, Bool.not_true, Bool.or_self, if_true]

theorem Effect.fabAccessDone {timedOut write : Bool} (hf : (s.dev.core core.val).fab = some write) (hp : s.dev.pageOn (.dsp core) = true) :
    Effect (.fabAccessDone core timedOut) s (s.dev.fabDone core timedOut write) :=
  Effect.of_run (show execFabAccessDone core timedOut s = run _ s from rfl) (by simp only [hf, hp, if_true])

/-! ### Steps of a sequence (R340, R349) -/

/-- The sequence stands before a step with this OP. -/
theorem Device.atStep_ready {f : SeqRun → W64 → Device} (hr : d.sta.run = some r) (hp : d.pageOn .sta1 = true) (h : r.phase = .ready)
    (ho : ((d.seqStep r).extractLsb' 60 4).toNat = op) : d.atStep op f = f r (d.seqStep r) := by
  simp only [Device.atStep, hr, hp, h, ho, beq_self_eq_true, Bool.and_self, decide_true, if_true]

/-- The access of a step has left its sequence running. -/
theorem Device.seqGoesOn_same {f : Device → SeqRun → Device} (h : d.sta.run = some r') (hs : r'.seq = r.seq) : d.seqGoesOn r f = f d r' := by
  simp only [Device.seqGoesOn, h, hs, if_true]

theorem Device.seqWrite_beyond {x : W64} (h : dspReaches (stepOffset x) = false) : d.seqWrite r x = d.endSeq 2 :=
  if_pos (by rw [h]; rfl)

theorem Device.seqWrite_within {x : W64} (h : dspReaches (stepOffset x) = true)
    (he : e = d.regWrite (.dsp 0) none (stepOffset x) (x.extractLsb' 0 32)) (hr : e.sta.run = some r') (hs : r'.seq = r.seq) :
    d.seqWrite r x = if e.wrRefused then e.endSeq 2 else e.nextStep r' := by
  subst he
  exact (if_neg (by rw [h]; decide)).trans (Device.seqGoesOn_same hr hs)

theorem Device.pollRead_within {x : W64} {since : Nat} (h : dspReaches (stepOffset x) = true) (hd : d.regRead (stepOffset x) = (e, w))
    (hr : e.sta.run = some r') (hs : r'.seq = r.seq) :
    d.pollRead r x since =
      if w.getLsbD (x.extractLsb' 27 5).toNat = x.getLsbD 26 then e.nextStep r' else e.setPhase r' (.poll since) := by
  simp only [Device.pollRead, h, if_true, hd, Device.seqGoesOn_same hr hs, beq_iff_eq]

/-- The core of a DSP step reached HALT. -/
theorem Device.seqCore_halted {x : W64} {since : Nat} (hr : (d.core c).run = .halted) (hc : (d.core c).cause = 1) :
    d.seqCore r x c since = (d.updCore c fun k => { k with claimed := false }).nextStep r := by
  simp only [Device.seqCore, hr, hc]
  rfl

theorem Effect.seqWrite (hr : s.dev.sta.run = some r) (hp : s.dev.pageOn .sta1 = true) (h : r.phase = .ready)
    (ho : ((s.dev.seqStep r).extractLsb' 60 4).toNat = 1) : Effect .seqWrite s (s.dev.seqWrite r (s.dev.seqStep r)) :=
  Effect.of_run (show execSeqWrite s = run _ s from rfl) (Device.atStep_ready hr hp h ho)

theorem Effect.seqPoll_first (hr : s.dev.sta.run = some r) (hp : s.dev.pageOn .sta1 = true) (h : r.phase = .ready)
    (ho : ((s.dev.seqStep r).extractLsb' 60 4).toNat = 3) : Effect .seqPoll s (s.dev.pollRead r (s.dev.seqStep r) s.dev.clock) :=
  Effect.of_run (show execSeqPoll s = run _ s from rfl) (by simp only [hr, h, Device.atStep_ready hr hp h ho])

theorem Effect.seqPoll_again {since : Nat} (hr : s.dev.sta.run = some r) (h : r.phase = .poll since) :
    Effect .seqPoll s (s.dev.pollAgain r (s.dev.seqStep r) since) :=
  Effect.of_run (show execSeqPoll s = run _ s from rfl) (by simp only [hr, h])

theorem Effect.seqDsp_claims (hr : s.dev.sta.run = some r) (hp : s.dev.pageOn .sta1 = true) (h : r.phase = .ready)
    (ho : ((s.dev.seqStep r).extractLsb' 60 4).toNat = 5) :
    Effect .seqDsp s ((s.dev.setFld Reg.STA1.SVC_STATUS_STATE 2).setPhase r (.claim s.dev.clock)) :=
  Effect.of_run (show execSeqDsp s = run _ s from rfl) (by simp only [hr, h, Device.atStep_ready hr hp h ho])

theorem Effect.seqDsp_runs {since : Nat} (hr : s.dev.sta.run = some r) (h : r.phase = .dsp c since) :
    Effect .seqDsp s (s.dev.seqCore r (s.dev.seqStep r) c since) :=
  Effect.of_run (show execSeqDsp s = run _ s from rfl) (by simp only [hr, h])

/-! ### Data blocks (R437) -/

/-- The head of the stream is taken from it. -/
def Device.headTaken (d : Device) (rest : List (Option (BitVec 257))) : Device := { d with zvl := { d.zvl with queue := rest } }

/-- A frame once one more block of it has come. -/
def RxFrame.joined (f : RxFrame) (b : BitVec 257) : RxFrame :=
  { f with nblk := f.nblk - 1, got := f.got ++ [b.extractLsb' 192 64, b.extractLsb' 128 64, b.extractLsb' 64 64, b.extractLsb' 0 64] }

theorem Device.takeData_none (h : d.zvl.frame = none) : d.takeData b = d.count Reg.ZVL.CNT_ERR_BLOCK := by
  simp only [Device.takeData, h]

theorem Device.takeData_joins {f : RxFrame} (h : d.zvl.frame = some f) (hn : f.nblk - 1 ≠ 0) :
    d.takeData b = { d with zvl := { d.zvl with frame := some (f.joined b) } } := by
  simp only [Device.takeData, h, if_neg hn]
  rfl

/-- The last block completes its frame. -/
theorem Device.takeData_completes {f : RxFrame} (h : d.zvl.frame = some f) (hn : f.nblk = 1) :
    d.takeData b = d.frameDone { f.joined b with nblk := 0 } := by
  simp only [Device.takeData, h, hn, Nat.sub_self, if_true]
  rfl

theorem Effect.dataBlockReceive (hq : s.dev.zvl.queue = some b :: rest) (hb : b.getLsbD 256 = false) (hp : s.dev.pageOn .zvl = true)
    (hd : d = (s.dev.headTaken rest).takeData b) : Effect .dataBlockReceive s (d.skipBlocks d.zvl.queue.length) := by
  subst hd
  exact Effect.of_run (show execDataBlockReceive s = run _ s from rfl)
    (by simp only [hq, hb, hp, Bool.not_false, Bool.and_self, if_true]; rfl)

/-! ### Commands of the link (R443, R444) -/

/-- The bit of CTRL that lets in a command with this MSG (R444, R448). -/
def cmdGate (msg : Nat) : Fld := if msg = 0x12 then Reg.ZVL.CTRL_AUTH_EN else Reg.ZVL.CTRL_CMD_EN

theorem Device.takeCmd_eq (d : Device) (b : BitVec 257) :
    d.takeCmd b =
      if (d.enabled .zvl && d.flag (cmdGate (msgOf b))) = false then d.answer b 7
      else if 16 ≤ d.zvl.cmds.length then ((d.count Reg.ZVL.CNT_CMD_BUSY).raise .zvl 2).answer b 6
      else { d with zvl := { d.zvl with cmds := d.zvl.cmds ++ [⟨b.extractLsb' 0 256⟩] } } := by
  unfold Device.takeCmd cmdGate
  split <;> simp only [Bool.not_eq_true']

theorem Device.linkCommand_head (hp : d.pageOn .zvl = true) (hq : d.zvl.queue = some b :: rest) (hb : b.getLsbD 256 = true) {msg : Nat}
    (hm : msgOf b = msg) (he : e = (d.headTaken rest).takeCmd b) : d.linkCommand msg = (e.skipBlocks e.zvl.queue.length).runCmds 17 := by
  subst he
  simp only [Device.linkCommand, hp, Bool.not_true, Bool.false_eq_true, if_false, takeMessage_head hq hb hm]
  rfl

/-- A disabled link page answers DISABLED. -/
theorem Device.takeCmd_disabled (h : d.enabled .zvl = false) : d.takeCmd b = d.answer b 7 := by
  rw [Device.takeCmd_eq, h, Bool.false_and, if_pos rfl]

/-- An enabled one queues what its gate lets in. -/
theorem Device.takeCmd_queued (h : d.enabled .zvl = true) (hg : d.flag (cmdGate (msgOf b)) = true) (hl : d.zvl.cmds.length < 16) :
    d.takeCmd b = { d with zvl := { d.zvl with cmds := d.zvl.cmds ++ [⟨b.extractLsb' 0 256⟩] } } := by
  rw [Device.takeCmd_eq, h, hg, if_neg (by decide), if_neg (by omega)]

/-- A command that is let in joins the queue, and the queue is worked off. -/
theorem Device.linkCommand_queued {msg : Nat} (hq : d.zvl.queue = some b :: rest) (hb : b.getLsbD 256 = true) (hm : msgOf b = msg)
    (hp : d.pageOn .zvl = true) (he : d.enabled .zvl = true) (hg : d.flag (cmdGate msg) = true) (hl : d.zvl.cmds.length < 16) :
    d.linkCommand msg =
      (Device.skipBlocks { d with zvl := { d.zvl with queue := rest, cmds := d.zvl.cmds ++ [⟨b.extractLsb' 0 256⟩] } } rest.length).runCmds 17 :=
  have ht : (d.headTaken rest).takeCmd b = _ := Device.takeCmd_queued he (hm ▸ hg) hl
  Device.linkCommand_head hp hq hb hm ht.symm

theorem Effect.rdCommand : Effect .rdCommand s (s.dev.linkCommand 0x10) := rfl
theorem Effect.wrCommand : Effect .wrCommand s (s.dev.linkCommand 0x11) := rfl
theorem Effect.authWr : Effect .authWr s (s.dev.linkCommand 0x12) := rfl

/-- Settles O27: each access on behalf of a core, a sequence step or a link command, by the way it ends. -/
theorem accessesForOthers : Obligations.AccessesForOthers := by
  unfold Obligations.AccessesForOthers
  refine ⟨?timedOut, ?read, ?write,
    fun s r hr hp h ho hb => Device.seqWrite_beyond hb ▸ Effect.seqWrite hr hp h ho,
    fun s r d r' hr hp h ho hb he hr' hs => Device.seqWrite_within hb he hr' hs ▸ Effect.seqWrite hr hp h ho,
    fun s r d v r' hr hp h ho hb hd hr' hs => Device.pollRead_within hb hd hr' hs ▸ Effect.seqPoll_first hr hp h ho,
    fun s r since hr h => Effect.seqPoll_again hr h, fun s r hr hp h ho => Effect.seqDsp_claims hr hp h ho,
    fun s r c since hr h hk hc => Device.seqCore_halted hk hc ▸ Effect.seqDsp_runs hr h,
    ?errored, ?joins, ?completes, ?disabled,
    fun s w rest hq hb hm hp he hg hl => Device.linkCommand_queued hq hb hm hp he hg hl ▸ Effect.rdCommand,
    fun s w rest hq hb hm hp he hg hl => Device.linkCommand_queued hq hb hm hp he hg hl ▸ Effect.wrCommand,
    fun s w rest hq hb hm hp he hg hl => Device.linkCommand_queued hq hb hm hp he hg hl ▸ Effect.authWr⟩
  case timedOut =>
    intro s core hf hp hs
    have hx := Effect.fabAccessDone (timedOut := true) hf hp
    rwa [Device.fabDone_timedOut hs] at hx
  case read =>
    rintro s core _ _ _ e w hf hp rfl hr rfl rfl hd hs
    exact Device.fabDone_reads hr hd hs ▸ Effect.fabAccessDone hf hp
  case write =>
    rintro s core _ _ _ d hf hp rfl hr rfl rfl hd hs
    exact Device.fabDone_writes hr hd hs ▸ Effect.fabAccessDone hf hp
  case errored =>
    intro s w rest hq hb hp hf
    have ht : (s.dev.headTaken rest).takeData w = _ := Device.takeData_none hf
    exact Effect.dataBlockReceive hq hb hp ht.symm
  case joins =>
    intro s w rest f hq hb hp hf h1 h0
    have ht : (s.dev.headTaken rest).takeData w = _ := Device.takeData_joins hf (by omega)
    exact Effect.dataBlockReceive hq hb hp ht.symm
  case completes =>
    intro s w rest f d hq hb hp hf h1 hd
    have ht : (s.dev.headTaken rest).takeData w = _ := Device.takeData_completes hf h1
    exact Effect.dataBlockReceive hq hb hp (hd.trans ht.symm)
  case disabled =>
    intro s w rest d hq hb hm hp he hd
    have ht : (s.dev.headTaken rest).takeCmd w = _ := Device.takeCmd_disabled he
    exact Device.linkCommand_head hp hq hb hm (hd.trans ht.symm) ▸ Effect.rdCommand

end Sys2Proof.Machine
end

section
/-! PROOFS. What follows a command, and a service step that has lost its conditions (O53). -/

namespace Sys2Proof.Machine

variable {d e : Device} {r : SeqRun} {v : ServiceRun} {n code : Nat} {cause : BitVec 4}

/-- Raising an event touches neither the engine nor the sequencer. -/
@[simp] theorem Device.raise_sta (d : Device) (p : Page) (b x : Nat) : (d.raise p b x).sta = d.sta := Device.same_raise .sta

theorem Device.serviceRun_of_idle (h : d.sta.run = none) : d.serviceRun = none := by simp only [Device.serviceRun, h]

/-- A sequence begins before its first step, which no service has begun (R349). -/
theorem Device.serviceRun_beginSeq : (d.beginSeq n cause).serviceRun = none := rfl

theorem Device.serviceRun_nextSeq (h : d.serviceRun = none) : d.nextSeq.serviceRun = none := by
  unfold Device.nextSeq
  split
  · exact h
  · split
    · exact h
    · exact Device.serviceRun_beginSeq

/-- No service is under way after the end of a sequence, even if a pending one starts. -/
theorem Device.serviceRun_endSeq (hr : d.sta.run = some r) : (d.endSeq code).serviceRun = none := by
  simp only [Device.endSeq, hr]
  refine Device.serviceRun_nextSeq (Device.serviceRun_of_idle ?_)
  rw [Device.raise_sta]

/-- A service step without its conditions ends its sequence with COND (R349). -/
theorem Device.watchService_lost (hr : d.sta.run = some r) (hp : r.phase = .service v) (hc : d.serviceCond v.dies = false) :
    d.watchService = d.endSeq 6 := by
  simp only [Device.watchService, hr, hp, hc, Bool.false_eq_true, if_false]

/-- The follow-up sees only what its watch over the service step makes of the device. -/
theorem Device.settle_congr (h : d.watchService = e.watchService) : d.settle = e.settle := by
  rw [Device.settle_eq, Device.settle_eq, h]

/-- Settles O53: the follow-up keeps its own frame while no service step is under way, and what ends a service step leaves none. -/
theorem whatFollowsACommand : Obligations.WhatFollowsACommand := by
  unfold Obligations.WhatFollowsACommand
  refine ⟨fun c s e h hq => ⟨_, h, rfl, Device.settle_leaves hq⟩, fun d r v hr hp hc => Device.settle_congr ?_⟩
  have watched : (d.endSeq 6).watchService = d.endSeq 6 := Device.watchService_idle (Device.serviceRun_endSeq hr)
  exact (Device.watchService_lost hr hp hc).trans watched.symm

end Sys2Proof.Machine
end

section
/-! PROOFS. The statistics engine: its runs, its pushes and who holds it (O38). -/

namespace Sys2Proof.Machine

variable {d : Device} {s : State} {v : ServiceRun} {data : W32} {f : Device → Device}

/-! ### Who holds the engine (R339) -/

theorem Device.staWrite_unclaimed (hp : d.pageOn .sta0 = true) (hc : d.staClaimed = false) : d.staWrite f = f d := by
  simp only [Device.staWrite, hp, hc, Bool.not_true, Bool.false_eq_true, if_false]

theorem Device.staWrite_claimed (hp : d.pageOn .sta0 = true) (hc : d.staClaimed = true) : d.staWrite f = d.raise .sta0 2 := by
  simp only [Device.staWrite, hp, hc, Bool.not_true, Bool.false_eq_true, if_false, if_true]

/-- Every service claims the engine, the bump scan with RECORD = 1 only. -/
theorem Device.staClaimed_of_serviceRun (h : d.serviceRun = some v) (hv : v.svc ≠ .bumpScan ∨ v.params.getLsbD 42 = true) : d.staClaimed = true := by
  simp only [Device.staClaimed, h, Bool.or_eq_true, bne_iff_ne]
  exact hv

/-! ### Whether a run is in progress, and whether it is full (R336, R338) -/

theorem Device.staRuns_of_running (hp : d.pageOn .sta0 = true) (h : d.fld Reg.STA0.STATUS_STATE = 1) : d.staRuns = true := by
  simp only [Device.staRuns, hp, h, decide_true, Bool.and_self]

theorem Device.staRuns_of_not_running (h : d.fld Reg.STA0.STATUS_STATE ≠ 1) : d.staRuns = false := by
  simp only [Device.staRuns, h, decide_false, Bool.and_false]

/-- A run of moment cells is full when every bound cell is at N. -/
theorem Device.runFull_cells (hh : d.flag Reg.STA0.CFG_HIST = false) : d.runFull = true ↔ d.boundCells ≤ d.fld Reg.STA0.STATUS_AT_N := by
  simp only [Device.runFull, hh, Bool.false_eq_true, if_false, decide_eq_true_eq]

/-- A histogram run is full when every bound cluster that the part has is at N. -/
theorem Device.runFull_bins (hh : d.flag Reg.STA0.CFG_HIST = true) :
    d.runFull = true ↔ ∀ j, j < 8192 → d.fld Reg.STA0.BASE_INDEX + j < d.staUnits 1 → d.staN ≤ d.binSum j := by
  have bound (j : Nat) : j < min 8192 (d.staUnits 1 - d.fld Reg.STA0.BASE_INDEX) ↔ j < 8192 ∧ d.fld Reg.STA0.BASE_INDEX + j < d.staUnits 1 := by omega
  simp only [Device.runFull, hh, if_true, List.all_eq_true, List.mem_range, decide_eq_true_eq, bound, and_imp]

/-! ### The commands -/

theorem Effect.staRunStart : Effect .staRunStart s (s.dev.staWrite Device.startRun) := rfl
theorem Effect.staRunStop : Effect .staRunStop s (s.dev.staWrite fun d => if d.staRuns then d.completeRun else d) := rfl
theorem Effect.staRunDone : Effect .staRunDone s (if s.dev.staRuns && s.dev.runFull then s.dev.completeRun else s.dev) := rfl
theorem Effect.staPushValue : Effect (.staPushValue data) s (s.dev.staWrite fun d => d.pushValue data) := rfl

/-- What START makes of an enabled engine: the settings of the run are those before it. -/
theorem Device.startRun_enabled (he : d.enabled .sta0 = true) :
    d.startRun =
      (let e := ((d.setFld Reg.STA0.STATUS_STATE 1).setFlag Reg.STA0.STATUS_OVR false).setFld Reg.STA0.STATUS_AT_N 0
       if d.flag Reg.STA0.CFG_HIST = false then { e with sta := { e.sta with cells := [] } }
       else if d.fld Reg.STA0.CFG_SOURCE = 3 then { e with sta := { e.sta with bins := [] } }
       else (e.setFld Reg.STA0.STATUS_STATE 2).raise .sta0 0) := by
  have other {g : Fld} (h : g.addr ≠ Reg.STA0.STATUS) :
      (((d.setFld Reg.STA0.STATUS_STATE 1).setFlag Reg.STA0.STATUS_OVR false).setFld Reg.STA0.STATUS_AT_N 0).fld g = d.fld g :=
    ((Device.fld_setFld_ne h).trans (Device.fld_setFlag_ne h)).trans (Device.fld_setFld_ne h)
  have hist : (((d.setFld Reg.STA0.STATUS_STATE 1).setFlag Reg.STA0.STATUS_OVR false).setFld Reg.STA0.STATUS_AT_N 0).flag Reg.STA0.CFG_HIST
      = d.flag Reg.STA0.CFG_HIST := congrArg (· != 0) (other (by decide))
  simp only [Device.startRun, he, Bool.not_true, Bool.false_eq_true, if_false, hist, other (g := Reg.STA0.CFG_SOURCE) (by decide), Bool.not_eq_true',
    Device.completeRun]

theorem Device.startRun_disabled (he : d.enabled .sta0 = false) : d.startRun = d := by
  simp only [Device.startRun, he, Bool.not_false, if_true]

theorem effect_staRunStart (hp : s.dev.pageOn .sta0 = true) (hc : s.dev.staClaimed = false) : Effect .staRunStart s s.dev.startRun := by
  have hx := Effect.staRunStart (s := s)
  rwa [Device.staWrite_unclaimed hp hc] at hx

/-- STOP ends the run that is in progress. -/
theorem effect_staRunStop (hp : s.dev.pageOn .sta0 = true) (hc : s.dev.staClaimed = false) (h : s.dev.fld Reg.STA0.STATUS_STATE = 1) :
    Effect .staRunStop s ((s.dev.setFld Reg.STA0.STATUS_STATE 2).raise .sta0 0) := by
  have hx := Effect.staRunStop (s := s)
  rwa [Device.staWrite_unclaimed hp hc, Device.staRuns_of_running hp h, if_pos rfl] at hx

theorem effect_staRunStop_idle (hp : s.dev.pageOn .sta0 = true) (hc : s.dev.staClaimed = false) (h : s.dev.fld Reg.STA0.STATUS_STATE ≠ 1) :
    Effect .staRunStop s s.dev := by
  have hx := Effect.staRunStop (s := s)
  rwa [Device.staWrite_unclaimed hp hc, Device.staRuns_of_not_running h, if_neg Bool.false_ne_true] at hx

theorem staRunStop_completes (hc : s.dev.staClaimed = false) (hq : s.dev.serviceRun = none) (hp : s.dev.pageOn .sta0 = true)
    (h : s.dev.fld Reg.STA0.STATUS_STATE = 1) :
    Completes .staRunStop s fun d => Leaves [] (regs [Reg.STA0.STATUS]) [.sta0] s.dev d
      ∧ d.fld Reg.STA0.STATUS_STATE = 2 ∧ (d.sticky .sta0).getLsbD 0 = true := by
  refine (effect_staRunStop hp hc h).completes [] (regs [Reg.STA0.STATUS]) [.sta0] hq (by decide)
    ((Frame.refl.setFld (.inl (by decide))).raise (.inl (by decide))) fun t hs hl => ⟨hl, ?_, ?_⟩
  · rw [hs.fld _ rfl (by decide), Device.fld_raise (by decide), Device.fld_setFld_self _ _ _ (by decide)]
    decide
  · exact hs.kept .sta0 (by decide) 0 (Device.sticky_raise_self ((Device.pageOn_setFld (by decide) _).trans hp) (by decide))

/-- A full run is done. -/
theorem effect_staRunDone (hp : s.dev.pageOn .sta0 = true) (h : s.dev.fld Reg.STA0.STATUS_STATE = 1) (hf : s.dev.runFull = true) :
    Effect .staRunDone s ((s.dev.setFld Reg.STA0.STATUS_STATE 2).raise .sta0 0) := by
  have hx := Effect.staRunDone (s := s)
  rwa [Device.staRuns_of_running hp h, hf, Bool.and_self, if_pos rfl] at hx

/-- A run that is not full goes on. -/
theorem effect_staRunDone_goesOn (hf : ¬ s.dev.runFull = true) : Effect .staRunDone s s.dev := by
  have hx := Effect.staRunDone (s := s)
  rwa [Bool.eq_false_iff.mpr hf, Bool.and_false, if_neg Bool.false_ne_true] at hx

/-- A push while values are pushed into moment cells. -/
theorem Device.pushValue_taken (hr : d.staRuns = true) (hs : 5 ≤ d.fld Reg.STA0.CFG_SOURCE) (hh : d.flag Reg.STA0.CFG_HIST = false) :
    d.pushValue data = d.giveCell (d.fld Reg.STA0.PUSH_CELL_CELL) (data.setWidth 24).toInt := by
  simp only [Device.pushValue, Device.staSource, hr, Nat.min_eq_left hs, hh, decide_true, Bool.not_false, Bool.and_self, if_true]

/-- A push at any other time is ignored (R335). -/
theorem Device.pushValue_ignored (h : d.fld Reg.STA0.CFG_SOURCE < 5 ∨ d.flag Reg.STA0.CFG_HIST = true ∨ d.fld Reg.STA0.STATUS_STATE ≠ 1) :
    d.pushValue data = d := by
  refine if_neg fun taken => ?_
  simp only [Bool.and_eq_true, decide_eq_true_eq, Bool.not_eq_true'] at taken
  obtain ⟨⟨hruns, hsource⟩, hcells⟩ := taken
  rcases h with h | h | h
  · rw [Device.staSource] at hsource
    omega
  · exact Bool.false_ne_true (hcells.symm.trans h)
  · exact Bool.false_ne_true ((Device.staRuns_of_not_running h).symm.trans hruns)

theorem effect_staPushValue (hp : s.dev.pageOn .sta0 = true) (hc : s.dev.staClaimed = false) : Effect (.staPushValue data) s (s.dev.pushValue data) := by
  have hx := Effect.staPushValue (s := s) (data := data)
  rwa [Device.staWrite_unclaimed hp hc] at hx

/-- Settles O38: the effect of each write by whether a service holds the engine, and of a run's end by whether it is full. -/
theorem statisticsEngine : Obligations.StatisticsEngine := by
  unfold Obligations.StatisticsEngine
  refine ⟨fun s hc he => Device.startRun_enabled he ▸ effect_staRunStart (Device.pageOn_of_enabled he) hc, ?_,
    fun s => staRunStop_completes, fun s hc hp => effect_staRunStop hp hc, fun s => effect_staRunStop_idle, ?claimed,
    fun s hp h hh hn => effect_staRunDone hp h ((Device.runFull_cells hh).mpr hn),
    fun s hp h hh hn => effect_staRunDone hp h ((Device.runFull_bins hh).mpr hn),
    fun s hh hn => effect_staRunDone_goesOn fun hf => Nat.not_le.mpr hn ((Device.runFull_cells hh).mp hf),
    fun s j hh hj hu hn => effect_staRunDone_goesOn fun hf => Nat.not_le.mpr hn ((Device.runFull_bins hh).mp hf j hj hu), ?taken, ?ignored⟩
  · intro s hp hc he
    have hx := effect_staRunStart hp hc
    rwa [Device.startRun_disabled he] at hx
  case claimed =>
    intro s v hp hr hv
    have reported (f : Device → Device) : s.dev.staWrite f = s.dev.raise .sta0 2 :=
      Device.staWrite_claimed hp (Device.staClaimed_of_serviceRun hr hv)
    exact ⟨reported _ ▸ Effect.staRunStart, reported _ ▸ Effect.staRunStop, fun data => reported _ ▸ Effect.staPushValue⟩
  case taken =>
    intro s data hp hc h hs hh
    exact Device.pushValue_taken (Device.staRuns_of_running hp h) hs hh ▸ effect_staPushValue hp hc
  case ignored =>
    intro s data hp hc h
    have hx := effect_staPushValue (data := data) hp hc
    rwa [Device.pushValue_ignored h] at hx

end Sys2Proof.Machine
end

section
/-! PROOFS. What a value meets: the queue in front of the engine, the moment cells, the bins, and what a service takes of a hit (O39). -/

namespace Sys2Proof.Machine

variable {d : Device} {s : Cell} {n c k j b die cluster : Nat} {x : Int} {v : ServiceRun} {h : RawHit} {f : Device → Device}

/-! ### The queue (R337) -/

/-- The device once a value has joined a queue that has room for it. -/
def Device.queued (d : Device) : Device := { d with sta := { d.sta with backlog := d.valuesWaiting + 1, backlogAt := d.clock } }

theorem Device.queueValue_room (hw : d.valuesWaiting < 1024) : d.queueValue f = f d.queued := by
  simp only [Device.queueValue, Nat.not_le.mpr hw, decide_false, Bool.false_and, Bool.false_eq_true, if_false, Nat.min_eq_right hw]
  rfl

/-- Once 1,024 values can wait, a value is lost or let in by how far the engine is behind. -/
theorem Device.queueValue_crowded (hw : 1024 ≤ d.valuesWaiting) :
    d.queueValue f = if Config.engineBehind d.free then ((d.draw.count Reg.STA0.CNT_OVERRUN).setFlag Reg.STA0.STATUS_OVR true).raise .sta0 1
      else f { d.draw with sta := { d.sta with backlog := 1024, backlogAt := d.clock } } := by
  have full : min 1024 (d.valuesWaiting + 1) = 1024 := Nat.min_eq_left (Nat.le_succ_of_le hw)
  simp only [Device.queueValue, hw, decide_true, Bool.true_and, if_true, full]
  rfl

/-! ### Moment cells (R336) -/

/-- The first value of a cell is its minimum and its maximum. -/
theorem Cell.take_first (h0 : s.n = 0) : s.take x = { n := 1, s1 := s.s1 + x, s2 := s.s2 + (x * x).toNat, min := x, max := x } := by
  simp only [Cell.take, h0, if_true, Nat.zero_add]

theorem Cell.take_further (h0 : s.n ≠ 0) :
    s.take x = { n := s.n + 1, s1 := s.s1 + x, s2 := s.s2 + (x * x).toNat, min := Min.min x s.min, max := Max.max x s.max } := by
  have lower : (if x < s.min then x else s.min) = Min.min x s.min := by omega
  have upper : (if s.max < x then x else s.max) = Max.max x s.max := by omega
  simp only [Cell.take, h0, if_false, lower, upper]

theorem Cell.mean_empty (h0 : s.n = 0) : s.mean = 0 := if_pos h0

/-- The mean of one value is that value, in 1/256. -/
theorem Cell.mean_single (h1 : s.n = 1) : s.mean = 256 * s.s1 := by
  simp only [Cell.mean, h1, Nat.one_ne_zero, if_false]
  split <;> omega

theorem Cell.sd_of_lt_two (h2 : s.n < 2) : s.sd = 0 := if_pos h2

theorem Device.takeValue_full (hn : n ≤ (d.cell c).n) : d.takeValue n c x = d := if_pos hn

theorem Device.takeValue_below (hn : (d.cell c).n < n) :
    d.takeValue n c x =
      Device.count { d with sta := { d.sta with cells := SMap.set (fun _ => {}) d.sta.cells c ((d.cell c).take x) } } Reg.STA0.CNT_ACCEPTED :=
  if_neg (Nat.not_le.mpr hn)

theorem Device.cell_takeValue_self (hn : (d.cell c).n < n) : (d.takeValue n c x).cell c = (d.cell c).take x := by
  rw [Device.takeValue_below hn, Device.cell, Device.count_sta, SMap.get_set_self]

theorem Device.cell_takeValue_ne (hk : c ≠ k) : (d.takeValue n c x).cell k = d.cell k := by
  rcases Nat.lt_or_ge (d.cell c).n n with hn | hn
  · rw [Device.takeValue_below hn, Device.cell, Device.count_sta, SMap.get_set_ne _ _ _ hk.symm, Device.cell]
  · rw [Device.takeValue_full hn]

theorem Device.word_takeValue (hn : (d.cell c).n < n) :
    (d.takeValue n c x).word Reg.STA0.CNT_ACCEPTED = counted (d.word Reg.STA0.CNT_ACCEPTED) 1 := by
  rw [Device.takeValue_below hn, Device.word_count, if_pos rfl]
  rfl

/-- A value moves no register but the count of accepted ones. -/
theorem Device.fld_takeValue {g : Fld} (hg : g.addr ≠ Reg.STA0.CNT_ACCEPTED) : (d.takeValue n c x).fld g = d.fld g := by
  rcases Nat.lt_or_ge (d.cell c).n n with hn | hn
  · rw [Device.takeValue_below hn, Device.fld_count_ne hg, Device.fld_sta]
  · rw [Device.takeValue_full hn]

/-- A value for a cell of the host's run while the queue has room: the cell that reaches N is counted in AT_N. -/
theorem Device.giveCell_room (hw : d.valuesWaiting < 1024) :
    d.giveCell c x = if (d.cell c).n + 1 = d.staN then (d.queued.takeValue d.staN c x).setFld Reg.STA0.STATUS_AT_N (d.fld Reg.STA0.STATUS_AT_N + 1)
      else d.queued.takeValue d.staN c x := by
  have hat : (d.queued.takeValue d.staN c x).fld Reg.STA0.STATUS_AT_N = d.fld Reg.STA0.STATUS_AT_N := Device.fld_takeValue (by decide)
  rw [Device.giveCell, Device.queueValue_room hw, ← hat]
  rfl

/-! ### Bins (R338) -/

theorem Device.bin_bumpBin_self (d : Device) (b : Nat) : (d.bumpBin b).bin b = min 65535 (d.bin b + 1) := by
  have fits : min 65535 (d.bin b + 1) < 2 ^ 16 := by omega
  have stored : (d.bumpBin b).bin b = (BitVec.ofNat 16 (min 65535 (d.bin b + 1))).toNat := congrArg BitVec.toNat (SMap.get_set_self _ _ _ _)
  rw [stored, BitVec.toNat_ofNat, Nat.mod_eq_of_lt fits]

theorem Device.bin_bumpBin_ne (hb : k ≠ b) : (d.bumpBin b).bin k = d.bin k := congrArg BitVec.toNat (SMap.get_set_ne _ _ _ hb)

/-- A start code while the queue has room: the bins of a cluster stop at N. -/
theorem Device.countCode_room (hw : d.valuesWaiting < 1024) :
    d.countCode j k n = if n ≤ d.binSum j then d.queued else d.queued.bumpBin (81 * j + min k 80) :=
  Device.queueValue_room hw

/-! ### What a service takes of a hit (R351, R352) -/

/-- A hit of a pixel that no service injects into. -/
theorem Device.tapService_uninjected (hi : (d.pixel (die * 131072 + h.row.toNat * 512 + h.col.toNat)).entry.getLsbD 6 = false) :
    d.tapService v die cluster h = d := by
  simp only [Device.tapService, hi, Bool.not_false, if_true]

/-- A clean hit of the die whose histogram run is in progress. -/
theorem Device.tapService_codes (hi : (d.pixel (die * 131072 + h.row.toNat * 512 + h.col.toNat)).entry.getLsbD 6 = true) (hst : v.stage = .codes)
    (hd : v.todo.head? = some die) (hg : h.granted = true) (hc : h.contested = false) :
    d.tapService v die cluster h = d.countCode (cluster % 8192) h.s.toNat (calHits v.params) := by
  simp only [Device.tapService, hi, hst, hd, hg, hc, beq_self_eq_true, Bool.not_true, Bool.not_false, Bool.and_self, Bool.false_eq_true, if_false, if_true]

/-- A hit of threshold equalisation within 256 CT of the pulse. -/
theorem Device.tapService_trims {group round t : Nat} (hi : (d.pixel (die * 131072 + h.row.toNat * 512 + h.col.toNat)).entry.getLsbD 6 = true)
    (hst : v.stage = .trims group round) (hd : die ∈ v.dies) (hp : d.lastPulse die = some t) (hlo : t ≤ d.fullCount h.c1) (hhi : d.fullCount h.c1 < t + 256) :
    d.tapService v die cluster h = d.queueValue fun d => d.bumpBin (die * 131072 + h.row.toNat * 512 + h.col.toNat) := by
  simp only [Device.tapService, hi, hst, hp, hlo, hhi, List.contains_iff_mem.mpr hd, Option.filter_some, decide_true, Option.isSome_some, Bool.not_true,
    Bool.and_self, Bool.false_eq_true, if_false, if_true]

/-- Settles O39: a value by the room in the queue, a cell and a cluster by whether they are at N, a hit by the stage of the service. -/
theorem momentCells : Obligations.MomentCells := by
  unfold Obligations.MomentCells
  refine ⟨fun d f => Device.queueValue_room, fun d f => Device.queueValue_crowded, fun d n c v => Device.takeValue_full,
    fun d n c v hn h0 => (Device.cell_takeValue_self hn).trans (Cell.take_further h0),
    fun d n c v hn h0 => (Device.cell_takeValue_self hn).trans (Cell.take_first h0),
    fun d n c v => Device.word_takeValue, fun d n c k v => Device.cell_takeValue_ne, ?full, ?below, ?reaches,
    fun c h0 => ⟨Cell.mean_empty h0, Cell.sd_of_lt_two (by omega)⟩, fun c h1 => ⟨Cell.mean_single h1, Cell.sd_of_lt_two (by omega)⟩, ?binsFull, ?binCounts,
    fun d v die cluster h => Device.tapService_uninjected, fun d v die cluster h => Device.tapService_codes,
    fun d v die cluster h group round t => Device.tapService_trims⟩
  case full =>
    intro d c x hw hn
    rw [Device.giveCell_room hw, if_neg (by omega)]
    exact Device.takeValue_full hn
  case below =>
    intro d c x hw hn
    rw [Device.giveCell_room hw, if_neg (by omega)]
    rfl
  case reaches =>
    intro d c x hw hn
    rw [Device.giveCell_room hw, if_pos hn]
    rfl
  case binsFull =>
    intro d j k n hw hn
    rw [Device.countCode_room hw, if_pos hn]
    rfl
  case binCounts =>
    intro d j k n hw hn
    rw [Device.countCode_room hw, if_neg (Nat.not_le.mpr hn)]
    exact ⟨Device.bin_bumpBin_self d.queued _, fun b hb => Device.bin_bumpBin_ne (d := d.queued) hb⟩

end Sys2Proof.Machine
end

section
/-! PROOFS. Starts of sequences, their hold-off and periods, and the service table (O40). -/

namespace Sys2Proof.Machine

variable {d : Device} {s : State} {n limit : Nat} {cause : BitVec 4} {data : W32}

/-! ### Starts (R347, R348) -/

/-- A sequence whose descriptor has EN = 0 does not start. -/
theorem Device.startSeq_disabled (he : (d.seqDesc n).getLsbD 63 = false) : d.startSeq n cause = d := by
  simp only [Device.startSeq, he, Bool.not_false, Bool.or_true, if_true]

/-- Nothing starts while every pending sequence has EN = 0. -/
theorem Device.nextSeq_disabled (h : ∀ n, n < 16 → (d.word Reg.STA1.SVC_PENDING).getLsbD n = true → (d.seqDesc n).getLsbD 63 = false) : d.nextSeq = d := by
  have stays : ((List.range 16).find? fun n => (d.word Reg.STA1.SVC_PENDING).getLsbD n && (d.seqDesc n).getLsbD 63) = none := by
    refine List.find?_eq_none.mpr fun n hn starts => ?_
    obtain ⟨pends, enabled⟩ := Bool.and_eq_true_iff.mp starts
    exact Bool.false_ne_true ((h n (List.mem_range.mp hn) pends).symm.trans enabled)
  rw [Device.nextSeq, stays]
  exact ite_self d

theorem effect_svcStart (hp : s.dev.pageOn .sta1 = true) : Effect (.svcStart data) s (s.dev.writeSvcCtrl data) :=
  Effect.of_run (show execSvcStart data s = run _ s from rfl) (if_pos hp)

theorem Device.writeSvcCtrl_start (hs : data.getLsbD 8 = true) :
    d.writeSvcCtrl data = (d.setFld Reg.STA1.SVC_CTRL_SEQ (data.toNat % 16)).startSeq (data.toNat % 16) 0 := if_pos hs

theorem Device.writeSvcCtrl_noStart (hs : data.getLsbD 8 = false) : d.writeSvcCtrl data = d.setFld Reg.STA1.SVC_CTRL_SEQ (data.toNat % 16) :=
  if_neg (Bool.eq_false_iff.mp hs)

theorem svcStart_noStart_completes (hq : s.dev.serviceRun = none) (hp : s.dev.pageOn .sta1 = true) (hs : data.getLsbD 8 = false) :
    Completes (.svcStart data) s fun d => Leaves [] (regs [Reg.STA1.SVC_CTRL]) [] s.dev d ∧ d.fld Reg.STA1.SVC_CTRL_SEQ = data.toNat % 16 := by
  have hx := effect_svcStart (data := data) hp
  rw [Device.writeSvcCtrl_noStart hs] at hx
  refine hx.completes [] (regs [Reg.STA1.SVC_CTRL]) [] hq (by decide) (Frame.refl.setFld (.inl (by decide))) fun t hs hl => ⟨hl, ?_⟩
  rw [hs.fld _ rfl (by decide), Device.fld_setFld_self _ _ _ (by decide)]
  exact Nat.mod_mod _ _

/-! ### Drift and periods (R348) -/

theorem effect_svcDriftCheck (hp : s.dev.pageOn .sta1 = true) : Effect .svcDriftCheck s s.dev.driftCheck :=
  Effect.of_run (show execSvcDriftCheck s = run _ s from rfl) (if_pos hp)

/-- A die without a calibration temperature has not drifted. -/
theorem Device.drifted_uncalibrated (h : ∀ n, n < 4 → d.flag (Reg.STA1.CAL_TEMP_VALID n) = false) : d.drifted limit = [] := by
  refine List.filter_eq_nil_iff.mpr fun n hn => ?_
  simp only [h n (List.mem_range.mp hn), Bool.and_false, Bool.false_and, Bool.false_eq_true, not_false_eq_true]

theorem Device.driftCheck_uncalibrated (h : ∀ n, n < 4 → d.flag (Reg.STA1.CAL_TEMP_VALID n) = false) : d.driftCheck = d := by
  refine List.foldl_fixed' (fun n => ?_) _
  simp only [Device.drifted_uncalibrated h, List.isEmpty_nil, Bool.not_true, Bool.and_false, Bool.false_and, Bool.false_eq_true, if_false]

theorem effect_svcDriftCheck_uncalibrated (hp : s.dev.pageOn .sta1 = true) (h : ∀ n, n < 4 → s.dev.flag (Reg.STA1.CAL_TEMP_VALID n) = false) :
    Effect .svcDriftCheck s s.dev := by
  have hx := effect_svcDriftCheck hp
  rwa [Device.driftCheck_uncalibrated h] at hx

/-- The period of a sequence ends in its start. -/
theorem effect_svcPeriodicStart {seq : Fin 16} {t : Nat} (ht : s.dev.sta.s1Since = some t) (hp : s.dev.pageOn .sta1 = true)
    (hk : seqKind (s.dev.seqDesc seq.val) = 3) :
    Effect (.svcPeriodicStart seq) s
      (let k := SMap.get (fun _ => 0) s.dev.sta.periods seq.val + 1
       let d := s.dev.waitUntil (t + k * seqHold (s.dev.seqDesc seq.val) * Config.secondCt)
       Device.startSeq { d with sta := { d.sta with periods := SMap.set (fun _ => 0) d.sta.periods seq.val k } } seq.val 0) := by
  refine Effect.of_run (show execSvcPeriodicStart seq s = run _ s from rfl) ?_
  simp only [ht, hp, hk, decide_true, Bool.and_self, if_true]

/-! ### The table (R346) -/

theorem effect_seqCommit (hp : s.dev.pageOn .sta1 = true) : Effect .seqCommit s s.dev.commitSeq :=
  Effect.of_run (show execSeqCommit s = run _ s from rfl) (if_pos hp)

theorem effect_seqCommit_sound (hp : s.dev.pageOn .sta1 = true) (hok : s.dev.seqImageOk = true) :
    Effect .seqCommit s
      (let count := (s.dev.staged .sequence 0).toNat / 2 ^ 32 % 4096
       let words := (List.range 1024).map fun k => if k < 16 + count then s.dev.staged .sequence (1 + k) else 0
       ((Device.setFlag { s.dev with sta := { s.dev.sta with table := SMap.setAll seqReset [] 1 words } } Reg.STA1.SEQ_CTRL_REJECTED false).raise .sta1 2).nextSeq) := by
  have hx := effect_seqCommit hp
  rwa [Device.commitSeq, if_pos hok] at hx

theorem seqCommit_rejected_completes (hq : s.dev.serviceRun = none) (hp : s.dev.pageOn .sta1 = true) (hbad : s.dev.seqImageOk = false) :
    Completes .seqCommit s fun d => Leaves [] (regs [Reg.STA1.SEQ_CTRL]) [.sta1] s.dev d
      ∧ d.flag Reg.STA1.SEQ_CTRL_REJECTED = true ∧ (d.sticky .sta1).getLsbD 8 = true ∧ d.sta = s.dev.sta := by
  have hx := effect_seqCommit hp
  rw [Device.commitSeq, if_neg (Bool.eq_false_iff.mp hbad)] at hx
  refine hx.completes [] (regs [Reg.STA1.SEQ_CTRL]) [.sta1] hq (by decide)
    ((Frame.refl.setFlag (.inl (by decide))).raise (.inl (by decide))) fun t hs hl => ⟨hl, ?_, ?_, hl.block .sta (by decide) (by decide)⟩
  · rw [hs.flag _ rfl (by decide), Device.flag_raise (by decide), Device.flag_setFlag_self _ _ _ (by decide) (by decide)]
  · exact hs.kept .sta1 (by decide) 8 (Device.sticky_raise_self ((Device.pageOn_setFlag (by decide) _).trans hp) (by decide))

/-- Settles O40: starts by START and EN, the comparison by what has drifted, a commit by the checks of its table. -/
theorem serviceStartsAndTable : Obligations.ServiceStartsAndTable := by
  unfold Obligations.ServiceStartsAndTable
  exact ⟨fun s data hp hs => Device.writeSvcCtrl_start hs ▸ effect_svcStart hp,
    fun s data => svcStart_noStart_completes,
    fun d n cause _ => Device.startSeq_disabled,
    fun s => effect_svcDriftCheck_uncalibrated,
    fun s => effect_svcDriftCheck,
    fun s seq t => effect_svcPeriodicStart,
    fun s => seqCommit_rejected_completes,
    fun s => effect_seqCommit_sound,
    fun d => Device.nextSeq_disabled⟩

end Sys2Proof.Machine
end

section
/-! PROOFS. The steps of a sequence: what each does, and what its claims wait for (O41). -/

namespace Sys2Proof.Machine

variable {d e : Device} {s : State} {r : SeqRun} {c t op : Nat} {svc : Service} {w : W64}

/-! ### Steps that need no claim (R349) -/

/-- The sequence stands before a step with this OP. -/
structure StepsTo (d : Device) (r : SeqRun) (op : Nat) : Prop where
  run : d.sta.run = some r
  page : d.pageOn .sta1 = true
  phase : r.phase = .ready
  op : ((d.seqStep r).extractLsb' 60 4).toNat = op

theorem StepsTo.atStep {f : SeqRun → W64 → Device} (h : StepsTo d r op) : d.atStep op f = f r (d.seqStep r) :=
  Device.atStep_ready h.run h.page h.phase h.op

theorem effect_seqEnd (h : StepsTo s.dev r 0) : Effect .seqEnd s (s.dev.endSeq (if r.warned then 1 else 0)) :=
  Effect.of_run (show execSeqEnd s = run _ s from rfl) h.atStep

theorem effect_seqWait (h : StepsTo s.dev r 2) :
    Effect .seqWait s (s.dev.setPhase r (.wait (s.dev.clock + Config.usCt * ((s.dev.seqStep r).extractLsb' 0 32).toNat))) :=
  Effect.of_run (show execSeqWait s = run _ s from rfl) h.atStep

theorem effect_seqWaitExpire (hr : s.dev.sta.run = some r) (hp : r.phase = .wait t) : Effect .seqWaitExpire s ((s.dev.waitUntil t).nextStep r) :=
  Effect.of_run (show execSeqWaitExpire s = run _ s from rfl) (by simp only [hr, hp])

theorem Effect.seqBranch (h : StepsTo s.dev r 6) :
    Effect .seqBranch s (if (s.dev.seqStep r).getLsbD 59 && !r.lastWarn then s.dev.nextStep r
      else s.dev.gotoStep r ((s.dev.seqStep r).extractLsb' 0 10).toNat) :=
  Effect.of_run (show execSeqBranch s = run _ s from rfl) h.atStep

/-- A branch that asks for no warning, or for one that the last RUN gave. -/
theorem effect_seqBranch_taken (h : StepsTo s.dev r 6) (hb : (s.dev.seqStep r).getLsbD 59 = false ∨ r.lastWarn = true) :
    Effect .seqBranch s (s.dev.gotoStep r ((s.dev.seqStep r).extractLsb' 0 10).toNat) := by
  have taken : ((s.dev.seqStep r).getLsbD 59 && !r.lastWarn) = false := by
    rcases hb with hb | hb
    · rw [hb, Bool.false_and]
    · rw [hb, Bool.not_true, Bool.and_false]
  have hx := Effect.seqBranch h
  rwa [taken, if_neg Bool.false_ne_true] at hx

theorem effect_seqBranch_passed (h : StepsTo s.dev r 6) (hb : (s.dev.seqStep r).getLsbD 59 = true) (hl : r.lastWarn = false) :
    Effect .seqBranch s (s.dev.nextStep r) := by
  have hx := Effect.seqBranch h
  rwa [hb, hl, Bool.not_false, Bool.and_self, if_pos rfl] at hx

theorem effect_seqFail (h : StepsTo s.dev r 7) :
    Effect .seqFail s ((s.dev.setFld Reg.STA1.SVC_USER_USER_CODE ((s.dev.seqStep r).extractLsb' 0 8).toNat).endSeq 8) :=
  Effect.of_run (show execSeqFail s = run _ s from rfl) h.atStep

/-! ### RUN (R342, R349) -/

theorem effect_seqRun (h : StepsTo s.dev r 4) : Effect .seqRun s (s.dev.beginRun r (s.dev.seqStep r)) :=
  Effect.of_run (show execSeqRun s = run _ s from rfl) h.atStep

/-- What a RUN step of a defined service begins with: its conditions, then the seal, then its claims. -/
theorem Device.beginRun_defined (hs : stepService w = some svc) :
    d.beginRun r w =
      if d.serviceCond (d.stepDies r w) = false then d.endSeq 6
      else if d.sealSays svc (w.getLsbD 51) = 2 then (d.raise .sta1 6).endSeq 4
      else (d.setFld Reg.STA1.SVC_STATUS_STATE 2).setPhase r (.claim d.clock) := by
  simp only [Device.beginRun, hs, Bool.not_eq_true']

/-- A service that the manual leaves undefined completes, completes with a warning, or ends its sequence, by a free code. -/
theorem Device.beginRun_undefined (hs : stepService w = none) :
    d.beginRun r w = match Config.undefinedService d.free % 9 with
      | 0 => d.draw.nextStep { r with lastWarn := false }
      | 1 => d.draw.nextStep { r with warned := true, lastWarn := true }
      | code => d.draw.endSeq code := by
  simp only [Device.beginRun, hs]
  generalize Config.undefinedService d.free % 9 = code
  match code with
  | 0 => simp
  | 1 => simp
  | code + 2 => simp

theorem Device.sealSays_unsealed {commit : Bool} (hu : d.unsealed = true) : d.sealSays svc commit = 0 := by
  simp only [Device.sealSays, hu, if_true]

/-- Under seal threshold equalisation is refused, a bump scan runs, and the calibration runs in MEASURE mode, or as a service reseal where the policy allows it. -/
theorem Device.sealSays_sealed (hu : d.unsealed = false) (commit : Bool) :
    d.sealSays .threshold commit = 2 ∧ d.sealSays .bumpScan commit = 0 ∧ d.sealSays .delayLine false = 0
      ∧ d.sealSays .delayLine true = if d.flag Reg.SEA0.POLICY_SVC_RESEAL then 1 else 2 := by
  simp only [Device.sealSays, hu, Bool.false_eq_true, Bool.not_false, Bool.not_true, if_false, if_true, and_self]

/-! ### Claims (R339) -/

theorem effect_svcClaimTimeout (hr : s.dev.sta.run = some r) (hp : r.phase = .claim t) :
    Effect .svcClaimTimeout s ((s.dev.waitUntil (t + 100 * Config.msCt)).endSeq 5) :=
  Effect.of_run (show execSvcClaimTimeout s = run _ s from rfl) (by simp only [hr, hp])

theorem effect_svcClaimGranted_service (hr : s.dev.sta.run = some r) (hp : r.phase = .claim t) (ho : ((s.dev.seqStep r).extractLsb' 60 4).toNat = 4) :
    Effect .svcClaimGranted s (s.dev.grantService r (s.dev.seqStep r)) :=
  Effect.of_run (show execSvcClaimGranted s = run _ s from rfl) (by simp only [hr, hp, ho, if_true])

theorem effect_svcClaimGranted_core (hr : s.dev.sta.run = some r) (hp : r.phase = .claim t) (ho : ((s.dev.seqStep r).extractLsb' 60 4).toNat = 5) :
    Effect .svcClaimGranted s (s.dev.grantCore r (s.dev.seqStep r)) :=
  Effect.of_run (show execSvcClaimGranted s = run _ s from rfl) (by simp only [hr, hp, ho]; rfl)

/-- A free core starts at the PC of the step. -/
theorem Device.grantCore_free (hf : d.freeCore = some c) :
    d.grantCore r w =
      (let d := (d.setFld Reg.STA1.SVC_STATUS_STATE 1).setFlag (Reg.DSP.CTRL_RUN c) true
       let d := d.updCore c fun k => { k with claimed := true, pc := w.extractLsb' 46 14, run := .running, cause := 0, drainAt := none, stopAsked := false }
       { d with sta := { d.sta with run := some { r with phase := .dsp c d.clock } } }) := by
  simp only [Device.grantCore, hf]
  rfl

theorem Device.grantCore_none (hf : d.freeCore = none) : d.grantCore r w = d := by
  simp only [Device.grantCore, hf]

/-- An injection sequence on a die of the step stands in the way of its claims, and a run of the engine in that of a service that needs the engine. -/
theorem Device.claimable_eq_false {dies : List Nat} {params : BitVec 48}
    (h : (∃ n ∈ dies, d.flag (Reg.PIX.INJ_CTRL_BUSY n) = true) ∨ d.staRuns = true ∧ (svc ≠ .bumpScan ∨ params.getLsbD 42 = true)) :
    d.claimable svc dies params = false := by
  rcases h with ⟨n, hn, hb⟩ | ⟨hr, hv⟩
  · have busy : (dies.all fun n => !d.flag (Reg.PIX.INJ_CTRL_BUSY n)) = false :=
      List.all_eq_false.mpr ⟨n, hn, by rw [hb]; decide⟩
    rw [Device.claimable, busy, Bool.false_and]
  · have engine : (svc == .bumpScan && !params.getLsbD 42) = false := by
      rcases hv with hv | hv
      · rw [beq_eq_false_iff_ne.mpr hv, Bool.false_and]
      · rw [hv, Bool.not_true, Bool.and_false]
    rw [Device.claimable, engine, hr, Bool.not_true, Bool.or_self, Bool.and_false]

theorem Device.claimable_eq_true {dies : List Nat} {params : BitVec 48} (hi : ∀ n ∈ dies, d.flag (Reg.PIX.INJ_CTRL_BUSY n) = false)
    (he : d.staRuns = false ∨ svc = .bumpScan ∧ params.getLsbD 42 = false) : d.claimable svc dies params = true := by
  have idle : (dies.all fun n => !d.flag (Reg.PIX.INJ_CTRL_BUSY n)) = true :=
    List.all_eq_true.mpr fun n hn => by rw [hi n hn, Bool.not_false]
  rw [Device.claimable, idle, Bool.true_and]
  rcases he with he | ⟨rfl, hp⟩
  · rw [he, Bool.not_false, Bool.or_true]
  · rw [hp, Bool.not_false, Bool.and_true, beq_self_eq_true, Bool.true_or]

/-- COMMIT of a RUN step; a bump scan has none. -/
def stepCommits (svc : Service) (w : W64) : Bool := w.getLsbD 51 && svc != .bumpScan

/-- A service as it begins in its context, by the device that holds the context. -/
def Device.grantedRun (e : Device) (svc : Service) (dies : List Nat) (w : W64) (ctx : Nat) : ServiceRun :=
  { svc := svc, dies := dies, todo := dies, commit := stepCommits svc w, params := w.extractLsb' 0 48, reseals := e.sealSays svc (stepCommits svc w) = 1
    lowGain := e.lowRegions dies, ctx := ctx }

/-- A service begins in its context: SEAL_HOLD, the checks paused, and its first measurement. -/
def Device.beginService (e : Device) (r : SeqRun) (svc : Service) (v : ServiceRun) : Device :=
  let d := (e.setFld Reg.STA1.SVC_STATUS_STATE 1).setFlag Reg.STA1.SVC_STATUS_SEAL_HOLD (v.commit && e.unsealed)
  let d := v.dies.foldl (fun (d : Device) n => d.pauseCheck (Fin.ofNat 4 n)) d
  if v.dies.isEmpty then d.endRunStep r v false
  else match svc with
    | .delayLine => d.startDie r v
    | .threshold => d.startTrims r v 0 0
    | .bumpScan => { d with sta := { d.sta with run := some { r with phase := .service v } } }

/-- What a granted RUN step meets: its conditions, the seal, what stands in the way of its claims, and its context. -/
theorem Device.grantService_defined (hs : stepService w = some svc) :
    d.grantService r w =
      if d.serviceCond (d.stepDies r w) = false then d.endSeq 6
      else if d.sealSays svc (stepCommits svc w) = 2 then (d.raise .sta1 6).endSeq 4
      else if d.claimable svc (d.stepDies r w) (w.extractLsb' 0 48) = false then d
      else match (d.allocCtx 5 (BitVec.ofNat 24 r.seq)).2 with
        | none => (d.allocCtx 5 (BitVec.ofNat 24 r.seq)).1
        | some ctx =>
          let e := (d.allocCtx 5 (BitVec.ofNat 24 r.seq)).1
          e.beginService r svc (e.grantedRun svc (d.stepDies r w) w ctx) := by
  simp only [Device.grantService, hs, Bool.not_eq_true']
  rfl

theorem Device.grantService_unfit (hs : stepService w = some svc) (hc : d.serviceCond (d.stepDies r w) = false) : d.grantService r w = d.endSeq 6 := by
  rw [Device.grantService_defined hs, if_pos hc]

theorem Device.grantService_sealed (hs : stepService w = some svc) (hc : d.serviceCond (d.stepDies r w) = true)
    (hseal : d.sealSays svc (stepCommits svc w) = 2) : d.grantService r w = (d.raise .sta1 6).endSeq 4 := by
  rw [Device.grantService_defined hs, if_neg (ne_false_of_eq_true hc), if_pos hseal]

theorem Device.grantService_waits (hs : stepService w = some svc) (hc : d.serviceCond (d.stepDies r w) = true)
    (hseal : d.sealSays svc (stepCommits svc w) ≠ 2) (hw : d.claimable svc (d.stepDies r w) (w.extractLsb' 0 48) = false) : d.grantService r w = d := by
  rw [Device.grantService_defined hs, if_neg (ne_false_of_eq_true hc), if_neg hseal, if_pos hw]

/-- No context is free for the service. -/
theorem Device.grantService_noContext (hs : stepService w = some svc) (hc : d.serviceCond (d.stepDies r w) = true)
    (hseal : d.sealSays svc (stepCommits svc w) ≠ 2) (hcl : d.claimable svc (d.stepDies r w) (w.extractLsb' 0 48) = true)
    (ha : d.allocCtx 5 (BitVec.ofNat 24 r.seq) = (e, none)) : d.grantService r w = e := by
  rw [Device.grantService_defined hs, if_neg (ne_false_of_eq_true hc), if_neg hseal, if_neg (ne_false_of_eq_true hcl), ha]

theorem Device.grantService_begins (hs : stepService w = some svc) (hc : d.serviceCond (d.stepDies r w) = true)
    (hseal : d.sealSays svc (stepCommits svc w) ≠ 2) (hcl : d.claimable svc (d.stepDies r w) (w.extractLsb' 0 48) = true)
    (ha : d.allocCtx 5 (BitVec.ofNat 24 r.seq) = (e, some c)) :
    d.grantService r w = e.beginService r svc (e.grantedRun svc (d.stepDies r w) w c) := by
  rw [Device.grantService_defined hs, if_neg (ne_false_of_eq_true hc), if_neg hseal, if_neg (ne_false_of_eq_true hcl), ha]

/-- Settles O41: each step by its OP, RUN and its claims by conditions, seal, what they wait for and the context. -/
theorem sequenceSteps : Obligations.SequenceSteps := by
  unfold Obligations.SequenceSteps
  refine ⟨fun s r hr hp h ho => effect_seqEnd ⟨hr, hp, h, ho⟩, fun s r hr hp h ho => effect_seqWait ⟨hr, hp, h, ho⟩,
    fun s r t => effect_seqWaitExpire, fun s r hr hp h ho => effect_seqBranch_taken ⟨hr, hp, h, ho⟩,
    fun s r hr hp h ho => effect_seqBranch_passed ⟨hr, hp, h, ho⟩, fun s r hr hp h ho => effect_seqFail ⟨hr, hp, h, ho⟩,
    ?runUnfit, ?runSealed, ?runClaims, ?runUndefined,
    fun d svc commit => Device.sealSays_unsealed, fun d commit hu => Device.sealSays_sealed hu commit, fun s r t => effect_svcClaimTimeout,
    fun s r t c hr hp ho hf => Device.grantCore_free hf ▸ effect_svcClaimGranted_core hr hp ho,
    fun s r t hr hp ho hf => ?coreWaits, ?service⟩
  case runUnfit =>
    intro s r svc hr hp h ho hs hc
    have hx := effect_seqRun ⟨hr, hp, h, ho⟩
    rwa [Device.beginRun_defined hs, if_pos hc] at hx
  case runSealed =>
    intro s r svc hr hp h ho hs hc hseal
    have hx := effect_seqRun ⟨hr, hp, h, ho⟩
    rwa [Device.beginRun_defined hs, if_neg (ne_false_of_eq_true hc), if_pos hseal] at hx
  case runClaims =>
    intro s r svc hr hp h ho hs hc hseal
    have hx := effect_seqRun ⟨hr, hp, h, ho⟩
    rwa [Device.beginRun_defined hs, if_neg (ne_false_of_eq_true hc), if_neg hseal] at hx
  case runUndefined =>
    intro s r hr hp h ho hs
    have hx := effect_seqRun ⟨hr, hp, h, ho⟩
    rw [Device.beginRun_undefined hs] at hx
    exact hx
  case coreWaits =>
    have hx := effect_svcClaimGranted_core hr hp ho
    rwa [Device.grantCore_none hf] at hx
  case service =>
    intro s r t svc hr hp ho hs
    have hx := effect_svcClaimGranted_service hr hp ho
    refine ⟨fun hc => ?_, fun hc hseal => ?_, fun hc hseal hw => ?_, fun e c hc hseal hi he ha => ?_, fun e hc hseal hcl ha => ?_⟩
    · rwa [Device.grantService_unfit hs hc] at hx
    · rwa [Device.grantService_sealed hs hc hseal] at hx
    · rwa [Device.grantService_waits hs hc hseal (Device.claimable_eq_false hw)] at hx
    · rw [Device.grantService_begins hs hc hseal (Device.claimable_eq_true hi he) ha] at hx
      exact hx
    · rwa [Device.grantService_noContext hs hc hseal hcl ha] at hx

end Sys2Proof.Machine
end

section
/-! PROOFS. The queue of commands, and the order of those that arrive together (O51). -/

namespace Sys2Proof.Machine

theorem routeRank_lt (r : Route) : Route.rank r < 3 := by cases r <;> simp [Route.rank]

/-- Arrival loses no command and makes none. -/
theorem arrivalOrder_perm (cs : List Instr) : (arrivalOrder cs).Perm cs := by
  classical
  rw [List.perm_iff_count]
  intro c
  simp only [arrivalOrder, List.flatMap_cons, List.flatMap_nil, List.append_nil, List.count_append]
  have hcount : ∀ p : Instr → Bool, (cs.filter p).count c = if p c = true then cs.count c else 0 := fun p => by
    split
    · next h => exact List.count_filter h
    · next h => exact List.count_eq_zero_of_not_mem fun hm => h (List.mem_filter.mp hm).2
  simp only [hcount]
  cases accessRoute c with
  | none => simp
  | some r => cases r <;> simp [Route.rank]

/-- Accesses that arrive together stand in the order of their routes (R31). -/
theorem arrivalOrder_pairwise (cs : List Instr) :
    (arrivalOrder cs).Pairwise fun a b => ∀ r q, accessRoute a = some r → accessRoute b = some q → Route.rank r ≤ Route.rank q := by
  have hrank : ∀ {k : Nat} {c : Instr} {r : Route}, c ∈ cs.filter (fun c => (accessRoute c).map Route.rank == some k) → accessRoute c = some r →
      Route.rank r = k := fun hm hr => by
    have := (List.mem_filter.mp hm).2
    simpa [hr] using this
  refine List.pairwise_append.mpr ⟨List.pairwise_flatMap.mpr ⟨fun k _ => ?_, ?_⟩, ?_, ?_⟩
  · exact List.pairwise_iff_forall_sublist.mpr fun hs r q hr hq => by
      rw [hrank (hs.subset (by simp)) hr, hrank (hs.subset (by simp)) hq]
  · refine List.Pairwise.imp (R := (· < ·)) (fun hlt a ha b hb r q hr hq => ?_) (by decide)
    rw [hrank ha hr, hrank hb hq]
    exact Nat.le_of_lt hlt
  · refine List.pairwise_iff_forall_sublist.mpr fun hs r q hr _ => ?_
    have := (List.mem_filter.mp (hs.subset (List.mem_cons_self ..))).2
    simp [hr] at this
  · intro a _ b hb r q _ hq
    have := (List.mem_filter.mp hb).2
    simp [hq] at this

/-- The accesses of one route keep their order. -/
theorem arrivalOrder_filter (cs : List Instr) (n : Nat) :
    (arrivalOrder cs).filter (fun c => (accessRoute c).map Route.rank == some n) = cs.filter fun c => (accessRoute c).map Route.rank == some n := by
  have hsame : ∀ k : Nat, (cs.filter fun c => (accessRoute c).map Route.rank == some k).filter (fun c => (accessRoute c).map Route.rank == some n)
      = if k = n then cs.filter fun c => (accessRoute c).map Route.rank == some n else [] := fun k => by
    rw [List.filter_filter]
    split
    · next h => subst h; simp only [Bool.and_self]
    · next h =>
      refine List.filter_eq_nil_iff.mpr fun c _ hc => h ?_
      simp only [Bool.and_eq_true, beq_iff_eq] at hc
      simpa using hc.2.symm.trans hc.1
  have hnone : (cs.filter fun c => (accessRoute c).isNone).filter (fun c => (accessRoute c).map Route.rank == some n) = [] := by
    rw [List.filter_filter]
    refine List.filter_eq_nil_iff.mpr fun c _ hc => ?_
    cases h : accessRoute c <;> simp [h] at hc
  simp only [arrivalOrder, List.flatMap_cons, List.flatMap_nil, List.append_nil, List.filter_append, hsame, hnone]
  by_cases hn : n < 3
  · interval_cases n <;> simp
  · have hempty : (cs.filter fun c => (accessRoute c).map Route.rank == some n) = [] := by
      refine List.filter_eq_nil_iff.mpr fun c _ hc => ?_
      cases h : accessRoute c with
      | none => simp [h] at hc
      | some r =>
        have hlt := routeRank_lt r
        simp only [h, Option.map_some, beq_iff_eq, Option.some.injEq] at hc
        omega
    simp [hempty]

/-- Settles O51: a step by the head of the queue, and what arrives together by the routes of its accesses. -/
theorem stepTakesTheFrontCommand : Obligations.StepTakesTheFrontCommand := by
  unfold Obligations.StepTakesTheFrontCommand
  refine ⟨fun _ _ => rfl, fun c s rest h => ?_, fun s h => ?_, fun s cs => ?_⟩
  · rw [step, h]
  · simp only [step, h, run]
  · exact ⟨rfl, rfl, arrivalOrder_perm cs, arrivalOrder_pairwise cs, arrivalOrder_filter cs⟩

end Sys2Proof.Machine
end

section
/-! PROOFS. A register write field by field, and its refusal under seal (O59). -/

namespace Sys2Proof.Machine

/-- Two fields have no bit in common. -/
def FieldD.Apart (a b : FieldD) : Prop := a.lsb + a.width ≤ b.lsb ∨ b.lsb + b.width ≤ a.lsb

variable {f g : FieldD} {fields : List FieldD} {u : Bool}

theorem FieldD.of_put (f : FieldD) (w : W32) (v : Nat) (h : f.lsb + f.width ≤ 32) : f.of (f.put w v) = v % 2 ^ f.width :=
  Fld.of_put ⟨0, f.lsb, f.width⟩ w v h

theorem FieldD.of_put_apart (w : W32) (v : Nat) (h : f.lsb + f.width ≤ 32) (ha : FieldD.Apart f g) : f.of (g.put w v) = f.of w :=
  Fld.of_put_other ⟨0, g.lsb, g.width⟩ ⟨0, f.lsb, f.width⟩ w v h ha

theorem FieldD.of_mod (f : FieldD) (w : W32) : f.of w % 2 ^ f.width = f.of w := Nat.mod_mod _ _

/-- The write of one field leaves those apart from it. -/
theorem writeField_apart (data w : W32) (h : f.lsb + f.width ≤ 32) (ha : FieldD.Apart f g) : f.of (writeField u data w g) = f.of w := by
  unfold writeField
  cases g.acc with
  | rws =>
    cases u with
    | true => exact FieldD.of_put_apart w _ h ha
    | false => rfl
  | rw | w1c | w1s => exact FieldD.of_put_apart w _ h ha
  | ro | wo | rwa => rfl

theorem writeWord_apart (data old : W32) (h : f.lsb + f.width ≤ 32) (ha : ∀ g ∈ fields, FieldD.Apart f g) :
    f.of (writeWord u fields old data) = f.of old := by
  unfold writeWord
  induction fields generalizing old with
  | nil => rfl
  | cons g gs ih =>
    rw [List.foldl_cons, ih _ fun x hx => ha x (by simp [hx])]
    exact writeField_apart data old h (ha g (by simp))

/-- Of fields that do not overlap, each is what its own write makes of it. -/
theorem writeWord_of (data old : W32) (hp : fields.Pairwise FieldD.Apart) (h32 : ∀ g ∈ fields, g.lsb + g.width ≤ 32) (hf : f ∈ fields) :
    f.of (writeWord u fields old data) = f.of (writeField u data old f) := by
  induction fields generalizing old with
  | nil => cases hf
  | cons g gs ih =>
    obtain ⟨hg, hgs⟩ := List.pairwise_cons.mp hp
    have hstep : writeWord u (g :: gs) old data = writeWord u gs (writeField u data old g) data := rfl
    rw [hstep]
    rcases List.mem_cons.mp hf with rfl | hmem
    · exact writeWord_apart data _ (h32 f hf) hg
    · have hapart : FieldD.Apart f g := (hg f hmem).symm
      have hkeep : f.of (writeField u data old g) = f.of old := writeField_apart data old (h32 f hf) hapart
      rw [ih _ hgs (fun x hx => h32 x (by simp [hx])) hmem]
      have h1 : f.lsb + f.width ≤ 32 := h32 f hf
      unfold writeField at hkeep ⊢
      cases f.acc with
      | rw => simp only [FieldD.of_put _ _ _ h1]
      | rws =>
        cases u with
        | true => simp only [if_true, FieldD.of_put _ _ _ h1]
        | false => exact hkeep
      | w1c | w1s => simp only [FieldD.of_put _ _ _ h1]; rw [hkeep]
      | ro | wo | rwa => exact hkeep

/-- Under seal an RWS field keeps its value, an RW field takes what is written, an RO field stays (R9, R493). -/
theorem writeWord_sealed_of (data old : W32) (hp : fields.Pairwise FieldD.Apart) (h32 : ∀ g ∈ fields, g.lsb + g.width ≤ 32) (hf : f ∈ fields) :
    (f.acc = .rws → f.of (writeWord false fields old data) = f.of old) ∧ (f.acc = .rw → f.of (writeWord false fields old data) = f.of data)
      ∧ (f.acc = .ro → f.of (writeWord false fields old data) = f.of old) := by
  rw [writeWord_of data old hp h32 hf]
  refine ⟨fun ha => ?_, fun ha => ?_, fun ha => ?_⟩
  · simp only [writeField, ha, Bool.false_eq_true, if_false]
  · simp only [writeField, ha, FieldD.of_put _ _ _ (h32 f hf), FieldD.of_mod]
  · simp only [writeField, ha]

theorem rwsDiffers_iff (old data : W32) : rwsDiffers fields old data = true ↔ ∃ f ∈ fields, f.acc = .rws ∧ f.of data ≠ f.of old := by
  simp only [rwsDiffers, List.any_eq_true, Bool.and_eq_true, beq_iff_eq, bne_iff_ne]

variable {d : Device} {route addr : Nat} {data : W32}

/-- A write that no sealed field stands against. -/
theorem Device.writeReg_plain (h : (!d.unsealed && rwsDiffers fields (d.word addr) data) = false) :
    d.writeReg route addr fields data = d.setWord addr (writeWord d.unsealed fields (d.word addr) data) := by
  simp only [Device.writeReg, h, Bool.false_eq_true, if_false]

/-- A write that a sealed field stands against. -/
theorem Device.writeReg_refused (hu : d.unsealed = false) (h : rwsDiffers fields (d.word addr) data = true) :
    d.writeReg route addr fields data = (d.setWord addr (writeWord false fields (d.word addr) data)).refuseSealed route addr data := by
  simp only [Device.writeReg, hu, h, Bool.not_false, Bool.and_self, if_true]

/-- An alarm waits behind those that occurred before it. -/
theorem Device.alarms_alarm (d : Device) (b : Fin 5) : (d.alarm b).sec.alarms = d.sec.alarms ++ [b] :=
  congrArg (· ++ [b]) (Device.same_raise (d := d.count Reg.SEC.CNT_ALARMS) Block.alarms).1

theorem Device.alarms_refuseSealed (d : Device) : (d.refuseSealed route addr data).sec.alarms = d.sec.alarms ++ [0] :=
  (Device.alarms_alarm _ 0).trans (congrArg (· ++ [(0 : Fin 5)]) (Device.alarms_audit d _ _ _ _ _ _))

/-- Settles O59: each field by its own write, the refusal by whether an RWS field differs. -/
theorem sealedFieldsKeepTheirValues : Obligations.SealedFieldsKeepTheirValues := by
  unfold Obligations.SealedFieldsKeepTheirValues
  refine ⟨fun fields old data f hp h32 hf => writeWord_sealed_of data old hp h32 hf, fun d route addr fields data hu hsame => ?_,
    fun d route addr fields data f hu hf hacc hne ha => ?_, fun d route addr fields data hu => ?_⟩
  · have hno : rwsDiffers fields (d.word addr) data = false := by
      rw [Bool.eq_false_iff, ne_eq, rwsDiffers_iff]
      rintro ⟨f, hf, hacc, hne⟩
      exact hne (hsame f hf hacc)
    rw [Device.writeReg_plain (by rw [hno, Bool.and_false]), hu]
  · rw [Device.writeReg_refused hu ((rwsDiffers_iff _ _).mpr ⟨f, hf, hacc, hne⟩)]
    refine ⟨rfl, ?_, Device.alarms_refuseSealed _⟩
    rw [Device.word_refuseSealed (by decide), if_pos rfl, Device.word_setWord_ne _ _ (Ne.symm ha)]
  · rw [Device.writeReg_plain (by rw [hu]; rfl), hu]

end Sys2Proof.Machine
end

section
/-! PROOFS. The coders: controls, resets, restores, reads of contexts and loopback (O20). -/

namespace Sys2Proof.Machine

variable {bs : List Block} {rs : Nat → Bool} {ps : List Page} {d e : Device} {s : State} {c : Nat} {data : W32}

/-! ### Registers and contexts of the page -/

theorem plainReg_stream (ctx : Fin 16) :
    plainReg (Reg.CDR.STREAM_CTRL ctx.val) = true ∧ plainReg (Reg.CDR.STREAM_STATUS ctx.val) = true := by revert ctx; decide

theorem stream_ctrl_ne_status (c : Nat) : Reg.CDR.STREAM_CTRL c ≠ Reg.CDR.STREAM_STATUS c := by
  unfold Reg.CDR.STREAM_CTRL Reg.CDR.STREAM_STATUS; omega

/-- A change of a context is that of the state it holds. -/
theorem Device.updCoder_congr {f g : CoderCtx → CoderCtx} (h : f (d.coder c) = g (d.coder c)) : d.updCoder c f = d.updCoder c g := by
  simp only [Device.updCoder, SMap.upd]
  rw [show f (SMap.get (fun _ => {}) d.cdr.ctxs c) = _ from h]
  rfl

/-! ### STREAM_CTRL (R359, R360, R383) -/

/-- The bits of a STREAM_CTRL that a write leaves as they are: EN where the stream always codes, FRAME_RESET of context 1 (R359, R369). -/
def streamFixed (c : Nat) : W32 := (if c = 0 || 10 ≤ c then 1 else 0) ||| (if c = 1 then 2 else 0)

/-- STREAM_CTRL after a write. -/
def Device.streamWord (d : Device) (c : Nat) (data : W32) : W32 :=
  (data &&& 0xFF01FF03#32 &&& ~~~streamFixed c) ||| (d.word (Reg.CDR.STREAM_CTRL c) &&& streamFixed c)

theorem Device.writeStreamCtrl_eq (d : Device) (c : Nat) (data : W32) :
    d.writeStreamCtrl c data =
      if c = 0 || 10 ≤ c then d.setWord (Reg.CDR.STREAM_CTRL c) (d.streamWord c data)
      else (d.setWord (Reg.CDR.STREAM_CTRL c) (d.streamWord c data)).setFlag (Reg.CDR.STREAM_STATUS_EN_PENDING c) (data.getLsbD 0 != d.codes c) := rfl

theorem Effect.streamEnWrite {ctx : Fin 16} (hp : s.dev.pageOn .cdr = true) : Effect (.streamEnWrite ctx data) s (s.dev.writeStreamCtrl ctx.val data) :=
  Effect.of_run (show execStreamEnWrite ctx data s = run _ s from rfl) (if_pos hp)

/-- A write of STREAM_CTRL on a stream whose coding can be turned on and off. -/
theorem streamEnWrite_completes {ctx : Fin 16} (hq : s.dev.serviceRun = none) (hp : s.dev.pageOn .cdr = true) (h1 : 1 ≤ ctx.val) (h2 : ctx.val < 10) :
    Completes (.streamEnWrite ctx data) s fun d =>
      Leaves [] (regs [Reg.CDR.STREAM_CTRL ctx.val, Reg.CDR.STREAM_STATUS ctx.val]) [] s.dev d
        ∧ d.word (Reg.CDR.STREAM_CTRL ctx.val) = s.dev.streamWord ctx.val data
        ∧ d.flag (Reg.CDR.STREAM_STATUS_EN_PENDING ctx.val) = (data.getLsbD 0 != s.dev.codes ctx.val) := by
  have hno : ¬ (ctx.val = 0 || 10 ≤ ctx.val) = true := by simp only [Bool.or_eq_true, decide_eq_true_eq]; omega
  have hx := Effect.streamEnWrite (ctx := ctx) (data := data) hp
  rw [Device.writeStreamCtrl_eq, if_neg hno] at hx
  obtain ⟨hctrl, hstatus⟩ := plainReg_stream ctx
  refine hx.completes [] (regs [Reg.CDR.STREAM_CTRL ctx.val, Reg.CDR.STREAM_STATUS ctx.val]) [] hq (by decide)
    ((Frame.refl.setWord (.inl (by simp [regs]))).setFlag (.inl (by simp [regs, Reg.CDR.STREAM_STATUS_EN_PENDING]))) fun t hs hl => ⟨hl, ?_, ?_⟩
  · rw [hs.plain rfl hctrl, Device.word_setFlag_ne (stream_ctrl_ne_status ctx.val), Device.word_setWord_self]
  · rw [hs.flag (Reg.CDR.STREAM_STATUS_EN_PENDING ctx.val) rfl hstatus]
    exact Device.flag_setFlag_self _ _ _ (show 3 + 1 ≤ 32 by decide) (show 0 < 1 by decide)

/-- A write of STREAM_CTRL on a stream that always codes (R359). -/
theorem streamEnWrite_always_completes {ctx : Fin 16} (hq : s.dev.serviceRun = none) (hp : s.dev.pageOn .cdr = true) (h : ctx.val = 0 ∨ 10 ≤ ctx.val) :
    Completes (.streamEnWrite ctx data) s fun d => Leaves [] (regs [Reg.CDR.STREAM_CTRL ctx.val]) [] s.dev d
      ∧ d.word (Reg.CDR.STREAM_CTRL ctx.val) = s.dev.streamWord ctx.val data := by
  have hx := Effect.streamEnWrite (ctx := ctx) (data := data) hp
  rw [Device.writeStreamCtrl_eq, if_pos (by simpa using h)] at hx
  refine hx.completes [] (regs [Reg.CDR.STREAM_CTRL ctx.val]) [] hq (by decide) (Frame.refl.setWord (.inl (by simp [regs]))) fun t hs hl => ⟨hl, ?_⟩
  rw [hs.plain rfl (plainReg_stream ctx).1, Device.word_setWord_self]

/-- Contexts 2 to 9 keep no bit. -/
theorem Device.streamWord_free (h2 : 2 ≤ c) (h10 : c < 10) : d.streamWord c data = data &&& 0xFF01FF03#32 := by
  have hf : streamFixed c = 0#32 := by interval_cases c <;> rfl
  rw [Device.streamWord, hf, BitVec.and_zero, BitVec.or_zero, BitVec.and_assoc]
  rfl

/-- Context 1 keeps FRAME_RESET. -/
theorem Device.streamWord_lane :
    d.streamWord 1 data = (data &&& 0xFF01FF01#32) ||| (d.word (Reg.CDR.STREAM_CTRL 1) &&& 2#32) := by
  rw [Device.streamWord, BitVec.and_assoc]
  rfl

/-- The ring's and the loopback contexts keep EN. -/
theorem Device.streamWord_always (h : c = 0 ∨ 10 ≤ c) :
    d.streamWord c data = (data &&& 0xFF01FF02#32) ||| (d.word (Reg.CDR.STREAM_CTRL c) &&& 1#32) := by
  have hf : streamFixed c = 1 := by simp [streamFixed, h, show c ≠ 1 by omega]
  rw [Device.streamWord, hf, BitVec.and_assoc]
  rfl

/-! ### The end of a block's wait (R366), and context resets (R364) -/

theorem Effect.blockWaitExpire {ctx : Fin 16} (h : (s.dev.coder ctx.val).block.isEmpty = false) :
    Effect (.blockWaitExpire ctx) s
      (let d := s.dev.waitUntil ((s.dev.coder ctx.val).since + s.dev.blockWait ctx.val)
       if ctx.val = 0 then d.ringCloseBlock else (d.closeSoon ctx.val).loopPump) :=
  Effect.of_run (show execBlockWaitExpire ctx s = run _ s from rfl) (if_neg (by simp [h]))

theorem effect_blockWaitExpire {ctx : Fin 16} (h0 : ctx.val ≠ 0) (h : (s.dev.coder ctx.val).block.isEmpty = false) :
    Effect (.blockWaitExpire ctx) s ((s.dev.waitUntil ((s.dev.coder ctx.val).since + s.dev.blockWait ctx.val)).closeSoon ctx.val).loopPump := by
  have hx := Effect.blockWaitExpire h
  rwa [if_neg h0] at hx

/-- Between records the block closes. -/
theorem Device.closeSoon_between (h : (d.coder c).remain = 0) : d.closeSoon c = d.closeBlock c := if_pos h

/-- In the middle of a record it closes once the record is complete. -/
theorem Device.closeSoon_within (h : (d.coder c).remain ≠ 0) : d.closeSoon c = d.updCoder c fun s => { s with closeDue := true } := if_neg h

theorem effect_coderContextReset {ctxs : BitVec 16} (hp : s.dev.pageOn .cdr = true) :
    Effect (.coderContextReset ctxs) s (((List.range 16).filter fun c => ctxs.getLsbD c).foldl (fun (d : Device) c => d.resetCoder c) s.dev) :=
  Effect.of_run (show execCoderContextReset ctxs s = run _ s from rfl) (if_pos hp)

/-- The reset of context 1 alone. -/
theorem effect_resetContext1 (hp : s.dev.pageOn .cdr = true) : Effect (.coderContextReset 2) s (s.dev.resetCoder 1) :=
  effect_coderContextReset (ctxs := 2) hp

theorem Device.resetCoder_closed (h : (d.coder c).block = []) : d.resetCoder c = d.updCoder c fun s => s.reset :=
  Device.updCoder_congr (if_pos (by rw [h]; rfl))

theorem Device.resetCoder_open (h : (d.coder c).block ≠ []) : d.resetCoder c = d.updCoder c fun s => { s with askReset := true } :=
  Device.updCoder_congr (if_neg (by simpa using h))

/-! ### Saving and restoring (R372, R373) -/

theorem Effect.coderCtxDataWrite (hp : s.dev.pageOn .cdr = true) : Effect (.coderCtxDataWrite data) s (s.dev.writeCoderData data) :=
  Effect.of_run (show execCoderCtxDataWrite data s = run _ s from rfl) (if_pos hp)

/-- A context at rest takes the word. -/
theorem Device.writeCoderData_rest (h : 10 ≤ d.fld Reg.CDR.CTX_ADDR_CTX ∨ d.flag (fIdle .cdr) = true)
    (hb : (d.coder (d.fld Reg.CDR.CTX_ADDR_CTX)).block = []) (he : (d.coder (d.fld Reg.CDR.CTX_ADDR_CTX)).emit = []) :
    d.writeCoderData data
      = (d.updCoder (d.fld Reg.CDR.CTX_ADDR_CTX) fun c => c.restore (d.fld Reg.CDR.CTX_ADDR_WORD) data).stepCtxAddr := by
  have hr : (10 ≤ d.fld Reg.CDR.CTX_ADDR_CTX || d.flag (fIdle .cdr)) = true := by simpa using h
  simp only [Device.writeCoderData, hb, he, hr, List.isEmpty_nil, Bool.and_self, if_true]

/-- A context with an open block refuses it. -/
theorem Device.writeCoderData_open (hb : (d.coder (d.fld Reg.CDR.CTX_ADDR_CTX)).block ≠ []) :
    d.writeCoderData data = (d.raise .cdr 1).stepCtxAddr := by
  have he : (d.coder (d.fld Reg.CDR.CTX_ADDR_CTX)).block.isEmpty = false := by simpa using hb
  simp only [Device.writeCoderData, he, Bool.false_and, Bool.false_eq_true, if_false]

theorem Device.stepCtxAddr_still (h : d.flag Reg.CDR.CTX_ADDR_AUTOINC = false) : d.stepCtxAddr = d := by
  simp only [Device.stepCtxAddr, h, Bool.not_false, if_true]

theorem coderCtxDataWrite_refused_completes (hq : s.dev.serviceRun = none) (hp : s.dev.pageOn .cdr = true)
    (ha : s.dev.flag Reg.CDR.CTX_ADDR_AUTOINC = false) (hb : (s.dev.coder (s.dev.fld Reg.CDR.CTX_ADDR_CTX)).block ≠ []) :
    Completes (.coderCtxDataWrite data) s fun d => Leaves [] (regs []) [.cdr] s.dev d ∧ (d.sticky .cdr).getLsbD 1 = true := by
  have hx := Effect.coderCtxDataWrite (data := data) hp
  rw [Device.writeCoderData_open hb, Device.stepCtxAddr_still ((Device.flag_raise (by decide)).trans ha)] at hx
  exact hx.completes [] (regs []) [.cdr] hq (by decide) (Frame.refl.raise (.inl (by decide))) fun t hs hl =>
    ⟨hl, hs.kept .cdr (by decide) 1 (Device.sticky_raise_self hp (by decide))⟩

theorem Frame.stepCtxAddr (h : Frame bs rs ps d e) (hr : rs Reg.CDR.CTX_ADDR = true) : Frame bs rs ps d e.stepCtxAddr :=
  Frame.ite (fun _ => h) fun _ => Frame.ite (fun _ => (h.setFld (.inl hr)).setFld (.inl hr)) fun _ => h.setFld (.inl hr)

/-- From word 0 the address goes to word 1 if it steps (R383). -/
theorem Device.word_stepCtxAddr_zero (h : d.fld Reg.CDR.CTX_ADDR_WORD = 0) :
    d.stepCtxAddr.fld Reg.CDR.CTX_ADDR_WORD = (d.flag Reg.CDR.CTX_ADDR_AUTOINC).toNat := by
  cases ha : d.flag Reg.CDR.CTX_ADDR_AUTOINC with
  | false => rw [Device.stepCtxAddr_still ha, h]; rfl
  | true =>
    have hs : d.stepCtxAddr = d.setFld Reg.CDR.CTX_ADDR_WORD 1 := by
      simp only [Device.stepCtxAddr, ha, h, Bool.not_true, Bool.false_eq_true, if_false, Nat.zero_add]
      rfl
    rw [hs, Device.fld_setFld_self _ _ _ (by decide)]
    rfl

/-- The sampled words of a context are no part of what follows a command. -/
theorem Block.sample_same (h : Block.cdr.same d e) : e.cdr.sample = d.cdr.sample := by rw [h.1]

@[simp] theorem Device.cdr_stepCtxAddr (d : Device) : d.stepCtxAddr.cdr = d.cdr := by
  unfold Device.stepCtxAddr
  split
  · rfl
  · dsimp only; split <;> rfl

theorem Effect.coderCtxDataRead (hp : s.dev.pageOn .cdr = true) :
    Effect .coderCtxDataRead s { s.dev.readCoderData.1 with rdata := s.dev.readCoderData.2 } := by
  refine Effect.of_run (show execCoderCtxDataRead s = run _ s from rfl) ?_
  simp only [hp, if_true]

/-- A read of word 0 samples the context. -/
theorem coderCtxDataRead_first_completes (hq : s.dev.serviceRun = none) (hp : s.dev.pageOn .cdr = true) (h0 : s.dev.fld Reg.CDR.CTX_ADDR_WORD = 0) :
    Completes .coderCtxDataRead s fun d => Leaves [.rdata, .cdr] (regs [Reg.CDR.CTX_ADDR]) [] s.dev d
      ∧ d.cdr.sample = (s.dev.coder (s.dev.fld Reg.CDR.CTX_ADDR_CTX)).image
      ∧ some d.rdata = (s.dev.coder (s.dev.fld Reg.CDR.CTX_ADDR_CTX)).image.head?
      ∧ d.fld Reg.CDR.CTX_ADDR_WORD = (s.dev.flag Reg.CDR.CTX_ADDR_AUTOINC).toNat := by
  have hx := Effect.coderCtxDataRead hp
  simp only [Device.readCoderData, h0, if_true] at hx
  refine hx.completes [.rdata, .cdr] (regs [Reg.CDR.CTX_ADDR]) [] hq (by decide)
    (((Frame.refl.cdr (by decide)).stepCtxAddr (by decide)).rdata (by decide)) fun t hs hl => ⟨hl, ?_, ?_, ?_⟩
  · rw [Block.sample_same (hs.block .cdr (by decide) (by decide))]
    exact congrArg CdrSt.sample (Device.cdr_stepCtxAddr _)
  · rw [hs.rdata (by decide)]
    rfl
  · rw [hs.fld Reg.CDR.CTX_ADDR_WORD rfl (by decide)]
    exact Device.word_stepCtxAddr_zero (d := { s.dev with cdr := _ }) h0

/-- A read of another word gives the sampled one. -/
theorem coderCtxDataRead_later_completes (hq : s.dev.serviceRun = none) (hp : s.dev.pageOn .cdr = true) (h0 : s.dev.fld Reg.CDR.CTX_ADDR_WORD ≠ 0) :
    Completes .coderCtxDataRead s fun d => Leaves [.rdata] (regs [Reg.CDR.CTX_ADDR]) [] s.dev d
      ∧ d.rdata = s.dev.cdr.sample.getD (s.dev.fld Reg.CDR.CTX_ADDR_WORD) 0 := by
  have hx := Effect.coderCtxDataRead hp
  simp only [Device.readCoderData, h0, if_false] at hx
  exact hx.completes [.rdata] (regs [Reg.CDR.CTX_ADDR]) [] hq (by decide) ((Frame.refl.stepCtxAddr (by decide)).rdata (by decide))
    fun t hs hl => ⟨hl, hs.rdata (by decide)⟩

/-! ### Loopback (R366, R374) -/

theorem Effect.loopbackPush (hp : s.dev.pageOn .cdr = true) : Effect (.loopbackPush data) s (s.dev.pushLoop data) :=
  Effect.of_run (show execLoopbackPush data s = run _ s from rfl) (if_pos hp)

/-- A FIFO with room takes the word. -/
theorem Device.pushLoop_room (h : d.cdr.lbIn.length < 64) :
    d.pushLoop data = (let d := d.setWord Reg.CDR.LB_IN_HI data
      Device.loopPump { d with cdr := { d.cdr with lbIn := d.cdr.lbIn ++ [(d.loopCtx, data ++ d.word Reg.CDR.LB_IN_LO)] } }) :=
  if_neg (Nat.not_le.mpr h)

/-- A full FIFO overruns. -/
theorem Device.pushLoop_full (h : 64 ≤ d.cdr.lbIn.length) :
    d.pushLoop data = ((d.setWord Reg.CDR.LB_IN_HI data).setFlag Reg.CDR.LB_STATUS_OVERRUN true).raise .cdr 5 := if_pos h

theorem effect_loopbackPush_room (hp : s.dev.pageOn .cdr = true) (h : s.dev.cdr.lbIn.length < 64) :
    Effect (.loopbackPush data) s
      (let d := s.dev.setWord Reg.CDR.LB_IN_HI data
       Device.loopPump { d with cdr := { d.cdr with lbIn := d.cdr.lbIn ++ [(d.loopCtx, data ++ d.word Reg.CDR.LB_IN_LO)] } }) :=
  Device.pushLoop_room (data := data) h ▸ Effect.loopbackPush hp

theorem loopbackPush_full_completes (hq : s.dev.serviceRun = none) (hp : s.dev.pageOn .cdr = true) (h : 64 ≤ s.dev.cdr.lbIn.length) :
    Completes (.loopbackPush data) s fun d => Leaves [] (regs [Reg.CDR.LB_IN_HI, Reg.CDR.LB_STATUS]) [.cdr] s.dev d
      ∧ d.flag Reg.CDR.LB_STATUS_OVERRUN = true ∧ (d.sticky .cdr).getLsbD 5 = true := by
  have hx := Effect.loopbackPush (data := data) hp
  rw [Device.pushLoop_full h] at hx
  have F : Frame [.alarms] (fun a => regs [Reg.CDR.LB_IN_HI, Reg.CDR.LB_STATUS] a || a == Reg.HLT.SERVICE_LEVEL || a == Reg.SEC.SUMMARY) [.cdr]
      s.dev ((s.dev.setWord Reg.CDR.LB_IN_HI data).setFlag Reg.CDR.LB_STATUS_OVERRUN true) :=
    (Frame.refl.setWord (.inl (by decide))).setFlag (.inl (by decide))
  refine hx.completes [] (regs [Reg.CDR.LB_IN_HI, Reg.CDR.LB_STATUS]) [.cdr] hq (by decide) (F.raise (.inl (by decide)))
    fun t hs hl => ⟨hl, ?_, hs.kept .cdr (by decide) 5 (F.raised (by decide) (by decide) (by decide) hp (by decide))⟩
  rw [hs.flag Reg.CDR.LB_STATUS_OVERRUN rfl (by decide), Device.flag_raise (by decide)]
  exact Device.flag_setFlag_self _ _ _ (by decide) (by decide)

theorem Effect.loopbackPop (hp : s.dev.pageOn .cdr = true) : Effect .loopbackPop s { s.dev.popLoop.1 with rdata := s.dev.popLoop.2 } := by
  refine Effect.of_run (show execLoopbackPop s = run _ s from rfl) ?_
  simp only [hp, if_true]

theorem effect_loopbackPop {w : W64} {rest : List W64} (hp : s.dev.pageOn .cdr = true) (h : s.dev.cdr.lbOut = w :: rest) :
    Effect .loopbackPop s
      (let d := (s.dev.setWord Reg.CDR.LB_WORD_LO (w.extractLsb' 0 32)).setWord Reg.CDR.LB_WORD_HI (w.extractLsb' 32 32)
       { Device.loopPump { d with cdr := { d.cdr with lbOut := rest } } with rdata := 0x80000000#32 ||| BitVec.ofNat 32 rest.length }) := by
  have hx := Effect.loopbackPop hp
  simp only [Device.popLoop, h] at hx
  exact hx

theorem effect_loopbackPop_empty (hp : s.dev.pageOn .cdr = true) (h : s.dev.cdr.lbOut = []) : Effect .loopbackPop s { s.dev with rdata := 0 } := by
  have hx := Effect.loopbackPop hp
  simp only [Device.popLoop, h] at hx
  exact hx

theorem Effect.loopbackFlush (hp : s.dev.pageOn .cdr = true) : Effect .loopbackFlush s (s.dev.closeSoon s.dev.loopCtx).loopPump :=
  Effect.of_run (show execLoopbackFlush s = run _ s from rfl) (if_pos hp)

/-- Settles O20: each write, read and end of a wait by the state of the context or the FIFO that it meets. -/
theorem coderCommands : Obligations.CoderCommands := by
  unfold Obligations.CoderCommands
  refine ⟨fun s ctx data hq hp h2 h10 => Device.streamWord_free h2 h10 ▸ streamEnWrite_completes hq hp (by omega) h10,
    fun s data hq hp => Device.streamWord_lane ▸ streamEnWrite_completes hq hp (by decide) (by decide),
    fun s ctx data hq hp h => Device.streamWord_always h ▸ streamEnWrite_always_completes hq hp h,
    fun s ctx h0 hb hr => Device.closeSoon_between (show (Device.coder (s.dev.waitUntil _) _).remain = 0 from hr) ▸ effect_blockWaitExpire h0 hb,
    fun s ctx h0 hb hr => Device.closeSoon_within (show (Device.coder (s.dev.waitUntil _) _).remain ≠ 0 from hr) ▸ effect_blockWaitExpire h0 hb,
    fun _ hb => Effect.blockWaitExpire (ctx := 0) hb,
    fun s _ hp hb => Device.resetCoder_closed hb ▸ effect_resetContext1 hp,
    fun s hp hb => Device.resetCoder_open hb ▸ effect_resetContext1 hp,
    fun _ _ => effect_coderContextReset,
    fun s data hp hr hb he => Device.writeCoderData_rest hr hb he ▸ Effect.coderCtxDataWrite hp,
    fun _ _ => coderCtxDataWrite_refused_completes,
    fun _ => coderCtxDataRead_first_completes,
    fun _ => coderCtxDataRead_later_completes,
    fun _ _ => effect_loopbackPush_room,
    fun _ _ => loopbackPush_full_completes,
    fun _ _ _ => effect_loopbackPop,
    fun _ => effect_loopbackPop_empty,
    fun s hp hr => Device.closeSoon_between hr ▸ Effect.loopbackFlush hp,
    fun s hp hr => Device.closeSoon_within hr ▸ Effect.loopbackFlush hp⟩

end Sys2Proof.Machine
end

section
/-! PROOFS. Lanes after updates of the device, and their control and training (O21). -/

namespace Sys2Proof.Machine

variable {bs : List Block} {rs : Nat → Bool} {ps : List Page} {d e : Device} {s : State} {l j : Nat}

/-! ### Reading a lane after an update -/

@[simp] theorem Device.lane_updLane_self (d : Device) (l : Nat) (f : LaneSt → LaneSt) : (d.updLane l f).lane l = f (d.lane l) :=
  SMap.get_upd_self _ _ _ _
theorem Device.lane_updLane_ne {f : LaneSt → LaneSt} (h : j ≠ l) : (d.updLane l f).lane j = d.lane j := SMap.get_upd_ne _ _ _ h
@[simp] theorem Device.fld_updLane (d : Device) (l : Nat) (f : LaneSt → LaneSt) (g : Fld) : (d.updLane l f).fld g = d.fld g := rfl
@[simp] theorem Device.flag_updLane (d : Device) (l : Nat) (f : LaneSt → LaneSt) (g : Fld) : (d.updLane l f).flag g = d.flag g := rfl
theorem Device.lane_congr (h : e.lnk = d.lnk) (l : Nat) : e.lane l = d.lane l := by simp only [Device.lane, h]

/-- A change of a lane is that of the state it holds. -/
theorem Device.updLane_congr {f g : LaneSt → LaneSt} (h : f (d.lane l) = g (d.lane l)) : d.updLane l f = d.updLane l g := by
  simp only [Device.updLane, SMap.upd]
  rw [show f (SMap.get (fun _ => {}) d.lnk.lanes l) = _ from h]
  rfl

theorem Frame.updLane (h : Frame bs rs ps d e) {f : LaneSt → LaneSt} (hb : Block.lnk ∈ bs) : Frame bs rs ps d (e.updLane l f) := h.lnk hb
theorem Frame.reportChanged (h : Frame bs rs ps d e) (hb : Block.zvl ∈ bs) : Frame bs rs ps d e.reportChanged := h.zvl hb

theorem Leaves.lnk (h : Leaves bs rs ps d e) (hb : Block.lnk ∉ bs) : e.lnk = d.lnk := h.block .lnk hb (by decide)
theorem Leaves.lane (h : Leaves bs rs ps d e) (hb : Block.lnk ∉ bs) (l : Nat) : e.lane l = d.lane l := Device.lane_congr (h.lnk hb) l

/-! ### EN and RETRAIN (R404, R419) -/

theorem Device.refreshLane_attempt (ha : d.laneAllowed l = true) (h0 : d.laneState l = 0) : d.refreshLane l = d.startAttempt l := by
  rw [Device.refreshLane, if_pos ha, if_pos h0]

theorem Device.refreshLane_leaving (ha : d.laneAllowed l = true) (h0 : d.laneState l ≠ 0) (hl : (d.lane l).leaving.isSome = true) :
    d.refreshLane l = d.updLane l fun x => { x with leaving := some true } := by
  rw [Device.refreshLane, if_pos ha, if_neg h0, if_pos hl]

theorem Device.refreshLane_remove (ha : d.laneAllowed l = false) (h0 : d.laneState l ≠ 0) : d.refreshLane l = d.removeLane l false := by
  rw [Device.refreshLane, if_neg (by simp [ha]), if_neg h0]

theorem Device.refreshLane_off (ha : d.laneAllowed l = false) (h0 : d.laneState l = 0) : d.refreshLane l = d := by
  rw [Device.refreshLane, if_neg (by simp [ha]), if_pos h0]

/-- An ACTIVE transmit lane of a bundle with others first leaves the lane set. -/
theorem Device.removeLane_tx {b : Bool} (hl : l < 8) (h3 : d.laneState l = 3) (hw : (d.updLane l fun x => { x with leaving := some b }).wantSet ≠ 0) :
    d.removeLane l b = (d.updLane l fun x => { x with leaving := some b }).requestSet := by
  have hrx : ¬ isRx l = true := by simp only [isRx, decide_eq_true_eq]; omega
  rw [Device.removeLane, if_neg (not_not.mpr h3), if_neg hrx]
  exact if_neg hw

/-- An ACTIVE receive lane leaves its bundle at once. -/
theorem Device.removeLane_rx {b : Bool} (hl : 8 ≤ l) (h3 : d.laneState l = 3) :
    d.removeLane l b = ((d.setActive l false).restLane l b).rxBundle := by
  rw [Device.removeLane, if_neg (not_not.mpr h3), if_pos (show isRx l = true from decide_eq_true hl)]

/-- A lane that is not ACTIVE has no set to leave. -/
theorem Device.removeLane_idle {b : Bool} (h3 : d.laneState l ≠ 3) : d.removeLane l b = d.restLane l b := if_pos h3

theorem Device.retrainLane_on (h0 : d.laneState l ≠ 0) : d.retrainLane l = d.removeLane l true := if_neg h0

section
variable {lane : Lane}

theorem Effect.laneEnable (hp : s.dev.lanePowered lane.val = true) :
    Effect (.laneEnable lane) s ((s.dev.setFlag (Reg.LNK.LANE_CTRL_EN lane.val) true).refreshLane lane.val) :=
  Effect.of_run (show execLaneEnable lane s = run _ s from rfl) (if_pos hp)

theorem Effect.laneDisable (hp : s.dev.lanePowered lane.val = true) :
    Effect (.laneDisable lane) s ((s.dev.setFlag (Reg.LNK.LANE_CTRL_EN lane.val) false).refreshLane lane.val).nextRetrain :=
  Effect.of_run (show execLaneDisable lane s = run _ s from rfl) (if_pos hp)

/-- RETRAIN of a lane that is not OFF. -/
theorem Effect.laneRetrain (hp : s.dev.lanePowered lane.val = true) (h0 : s.dev.laneState lane.val ≠ 0) :
    Effect (.laneRetrain lane) s (s.dev.removeLane lane.val true) :=
  Effect.of_run (show execLaneRetrain lane s = run _ s from rfl) ((if_pos hp).trans (Device.retrainLane_on h0))

end

/-! ### Training control words (R402-R407) -/

theorem Device.reporting_of_due {f : Device → Device} (h : (f d).zvl.statusDue = true) : d.reporting f = f d := by
  have hsame : (f d).reportChanged = f d := by rw [Device.reportChanged, ← h]
  simp only [Device.reporting, hsame, ite_self]

theorem Device.reporting_of_same {f : Device → Device} (h : (f d).ownReport = d.ownReport) : d.reporting f = f d := if_pos h

/-- The fourth good control word in succession leads to TRAIN. -/
theorem Device.trainLane_fourth {w : BitVec 128} (h1 : d.laneState l = 1) (hw : controlWordOk w = true) (hg : (d.lane l).good = 3)
    (hseq : w.extractLsb' 32 16 = (d.lane l).seq + 1) :
    d.trainLane l w = (((d.setFld (Reg.LNK.LANE_STATUS_PARTNER l) (w.extractLsb' 120 4).toNat).updLane l fun x =>
      { x with good := 4, seq := w.extractLsb' 32 16, precode := w.getLsbD 115 }).enterTrain l).reportChanged := by
  simp only [Device.trainLane, h1, hw, hg, hseq, Bool.not_true, Bool.false_eq_true, if_false, if_true, ne_eq, OfNat.ofNat_ne_zero, not_false_eq_true,
    and_self, Nat.reduceAdd, Nat.lt_irrefl]

/-- A good control word in TRAIN under the precoding that was told before. -/
theorem Device.trainLane_train {w : BitVec 128} (h2 : d.laneState l = 2) (hw : controlWordOk w = true) (hp : w.getLsbD 115 = (d.lane l).precode) :
    d.trainLane l w = (d.setFlag (Reg.LNK.LANE_STATUS_PRECODED l) (w.getLsbD 115)).updLane l fun x =>
      { x with bad := 0, seq := w.extractLsb' 32 16, precode := w.getLsbD 115, final := x.final || (x.ready && w.getLsbD 114) } := by
  have h1 : ¬ d.laneState l = 1 := by omega
  simp only [Device.trainLane, h1, hw, Bool.not_true, Bool.false_eq_true, if_false]
  refine Device.updLane_congr ?_
  have hl : (d.setFlag (Reg.LNK.LANE_STATUS_PRECODED l) (w.getLsbD 115)).lane l = d.lane l := rfl
  rw [hl, if_pos hp.symm]

/-- What the device's own report is made of (R442). -/
theorem Device.ownReport_congr (hp : ∀ l, e.fld (Reg.LNK.LANE_STATUS_PARTNER l) = d.fld (Reg.LNK.LANE_STATUS_PARTNER l))
    (hs : ∀ l, e.laneState l = d.laneState l) (hc : ∀ l, e.flag (Reg.LNK.LANE_CTRL_PRECODE l) = d.flag (Reg.LNK.LANE_CTRL_PRECODE l))
    (hr : ∀ l, (e.lane l).ready = (d.lane l).ready) : e.ownReport = d.ownReport := by
  simp only [Device.ownReport, hp, hs, hc, hr]

theorem laneCtrl_ne_status (i j : Nat) : Reg.LNK.LANE_CTRL i ≠ Reg.LNK.LANE_STATUS j := by
  unfold Reg.LNK.LANE_CTRL Reg.LNK.LANE_STATUS; omega

/-- PRECODED is no part of it, nor is what a lane holds but for READY. -/
theorem Device.ownReport_precoded {f : LaneSt → LaneSt} {b : Bool} (hr : (f (d.lane l)).ready = (d.lane l).ready) :
    ((d.setFlag (Reg.LNK.LANE_STATUS_PRECODED l) b).updLane l f).ownReport = d.ownReport := by
  refine Device.ownReport_congr (fun j => ?_) (fun j => ?_) (fun j => ?_) (fun j => ?_)
  · exact Device.fld_setFld_other d _ (Reg.LNK.LANE_STATUS_PARTNER j) _ (.inr (show 16 + 4 ≤ 32 ∧ (16 + 4 ≤ 4 ∨ 4 + 1 ≤ 16) by decide))
  · exact Device.fld_setFld_other d _ (Reg.LNK.LANE_STATUS_STATE j) _ (.inr (show 0 + 3 ≤ 32 ∧ (0 + 3 ≤ 4 ∨ 4 + 1 ≤ 0) by decide))
  · rw [Device.flag_updLane, Device.flag_setFlag_ne (show (Reg.LNK.LANE_CTRL_PRECODE j).addr ≠ (Reg.LNK.LANE_STATUS_PRECODED l).addr from laneCtrl_ne_status j l)]
  · by_cases hj : j = l
    · rw [hj, Device.lane_updLane_self]; exact hr
    · rw [Device.lane_updLane_ne hj]; rfl

theorem Effect.trainingControlWord {lane : Fin 2} {w : BitVec 128} (h : s.dev.laneState (8 + lane.val) = 1 ∨ s.dev.laneState (8 + lane.val) = 2)
    (hw : controlWordOk w = true) :
    Effect (.trainingControlWord lane w) s
      ((s.dev.reporting fun d => d.trainLane (8 + lane.val) w).report (w.extractLsb' 80 16) (w.extractLsb' 64 16) (w.extractLsb' 48 16)) := by
  refine Effect.of_run (show execTrainingControlWord lane w s = run _ s from rfl) ?_
  simp only [Bool.or_eq_true, decide_eq_true_eq, h, hw, if_true]

/-! ### The ends of times in training (R405, R408-R410) -/

/-- A PRBS window is over (R405): its length has passed, and the next begins. -/
def Device.windowOver (d : Device) (l errors : Nat) : Device :=
  let d := d.waitUntil ((d.lane l).windowSince + d.windowTicks l)
  (d.updLane l fun s => { s with windowSince := d.clock }).setFld (Reg.LNK.LANE_SER_ERRORS l) (min errors 0x1FFFFF)

theorem Effect.prbsWindowEnd {lane : Fin 2} {errors : Nat} (h2 : s.dev.laneState (8 + lane.val) = 2) :
    Effect (.prbsWindowEnd lane errors) s
      (if errors ≤ 100 then ((s.dev.windowOver (8 + lane.val) errors).updLane (8 + lane.val) fun s => { s with ready := true }).reportChanged
       else s.dev.windowOver (8 + lane.val) errors) :=
  Effect.of_run (show execPrbsWindowEnd lane errors s = run _ s from rfl) (if_pos h2)

theorem Frame.windowOver (h : Frame bs rs ps d (e.waitUntil ((e.lane l).windowSince + e.windowTicks l))) {errors : Nat} (hb : Block.lnk ∈ bs)
    (hr : rs (Reg.LNK.LANE_SER l) = true) : Frame bs rs ps d (e.windowOver l errors) := (h.updLane hb).setFld (.inl hr)

theorem Device.clock_windowOver (d : Device) (l errors : Nat) :
    (d.windowOver l errors).clock = max d.clock ((d.lane l).windowSince + d.windowTicks l) := Device.waitUntil_clock _ _

theorem Device.lane_windowOver (d : Device) (l errors : Nat) :
    (d.windowOver l errors).lane l = { d.lane l with windowSince := (d.windowOver l errors).clock } :=
  Device.lane_updLane_self (d.waitUntil _) l _

theorem Device.errors_windowOver (d : Device) (l errors : Nat) : (d.windowOver l errors).fld (Reg.LNK.LANE_SER_ERRORS l) = min errors 0x1FFFFF :=
  (Device.fld_setFld_self _ _ _ (show 0 + 21 ≤ 32 by decide)).trans (Nat.mod_eq_of_lt (show min errors 0x1FFFFF < 2 ^ 21 by omega))

theorem plainReg_laneSer (lane : Fin 2) : plainReg (Reg.LNK.LANE_SER (8 + lane.val)) = true := by revert lane; decide

theorem prbsWindowEnd_good_completes {lane : Fin 2} {errors : Nat} (hq : s.dev.serviceRun = none) (h2 : s.dev.laneState (8 + lane.val) = 2)
    (he : errors ≤ 100) :
    Completes (.prbsWindowEnd lane errors) s fun d => Leaves [.clock, .tim, .lnk, .zvl] (regs [Reg.LNK.LANE_SER (8 + lane.val)]) [] s.dev d
      ∧ (d.lane (8 + lane.val)).ready = true ∧ d.zvl.statusDue = true ∧ d.fld (Reg.LNK.LANE_SER_ERRORS (8 + lane.val)) = errors
      ∧ d.clock = max s.dev.clock ((s.dev.lane (8 + lane.val)).windowSince + s.dev.windowTicks (8 + lane.val))
      ∧ (d.lane (8 + lane.val)).windowSince = d.clock := by
  have hx := Effect.prbsWindowEnd (errors := errors) h2
  rw [if_pos he] at hx
  refine hx.completes [.clock, .tim, .lnk, .zvl] (regs [Reg.LNK.LANE_SER (8 + lane.val)]) [] hq (by decide)
    ((((Frame.refl.waitUntil (by decide) (by decide)).windowOver (by decide) (by simp [regs])).updLane (by decide)).reportChanged (by decide))
    fun t hs hl => ?_
  have hclock := hs.clock (by decide)
  have hlane : t.lane (8 + lane.val) = { (s.dev.windowOver (8 + lane.val) errors).lane (8 + lane.val) with ready := true } :=
    (hs.lane (by decide) _).trans (Device.lane_updLane_self _ _ _)
  refine ⟨hl, by rw [hlane], by rw [hs.zvl (by decide)]; rfl, ?_, hclock.trans (Device.clock_windowOver s.dev _ errors), ?_⟩
  · exact (hs.fld (Reg.LNK.LANE_SER_ERRORS (8 + lane.val)) rfl (plainReg_laneSer lane)).trans
      ((Device.errors_windowOver s.dev _ errors).trans (min_eq_left (by omega)))
  · rw [hlane, Device.lane_windowOver, hclock]
    rfl

theorem prbsWindowEnd_bad_completes {lane : Fin 2} {errors : Nat} (hq : s.dev.serviceRun = none) (h2 : s.dev.laneState (8 + lane.val) = 2)
    (he : 100 < errors) :
    Completes (.prbsWindowEnd lane errors) s fun d => Leaves [.clock, .tim, .lnk] (regs [Reg.LNK.LANE_SER (8 + lane.val)]) [] s.dev d
      ∧ (d.lane (8 + lane.val)).ready = (s.dev.lane (8 + lane.val)).ready ∧ d.fld (Reg.LNK.LANE_SER_ERRORS (8 + lane.val)) = min errors 0x1FFFFF
      ∧ (d.lane (8 + lane.val)).windowSince = d.clock := by
  have hx := Effect.prbsWindowEnd (errors := errors) h2
  rw [if_neg (Nat.not_le.mpr he)] at hx
  refine hx.completes [.clock, .tim, .lnk] (regs [Reg.LNK.LANE_SER (8 + lane.val)]) [] hq (by decide)
    ((Frame.refl.waitUntil (by decide) (by decide)).windowOver (by decide) (by simp [regs])) fun t hs hl => ?_
  have hlane := (hs.lane (by decide) (8 + lane.val)).trans (Device.lane_windowOver _ _ _)
  refine ⟨hl, by rw [hlane], ?_, by rw [hlane, hs.clock (by decide)]⟩
  exact (hs.fld (Reg.LNK.LANE_SER_ERRORS (8 + lane.val)) rfl (plainReg_laneSer lane)).trans (Device.errors_windowOver _ _ _)

theorem effect_laneActive {lane : Lane} (h2 : s.dev.laneState lane.val = 2) (hf : (s.dev.lane lane.val).final = true) (hr : s.dev.tim.refclk = true) :
    Effect (.laneActive lane) s (s.dev.activate lane.val) :=
  Effect.of_run (show execLaneActive lane s = run _ s from rfl) (if_pos (by simp [h2, hf, hr]))

/-- A time of a lane that ends with a change of the lane alone. -/
theorem lane_timed_completes {c : Instr} {t : Nat} {f : LaneSt → LaneSt} (hx : Effect c s ((s.dev.waitUntil t).updLane l f))
    (hq : s.dev.serviceRun = none) :
    Completes c s fun d => Leaves [.clock, .tim, .lnk] (regs []) [] s.dev d ∧ d.clock = max s.dev.clock t ∧ d.lane l = f (s.dev.lane l)
      ∧ ∀ j, j ≠ l → d.lane j = s.dev.lane j :=
  hx.completes [.clock, .tim, .lnk] (regs []) [] hq (by decide) ((Frame.refl.waitUntil (by decide) (by decide)).updLane (by decide))
    fun _ hs hl => ⟨hl, (hs.clock (by decide)).trans (Device.waitUntil_clock _ _), (hs.lane (by decide) _).trans (Device.lane_updLane_self _ _ _),
      fun j hj => (hs.lane (by decide) j).trans (Device.lane_updLane_ne hj)⟩

theorem Effect.openLoopTrainingEnd {lane : Fin 8} (h2 : s.dev.laneState lane.val = 2)
    (ho : s.dev.flag (Reg.LNK.LANE_CTRL_OPEN_LOOP lane.val) = true) :
    Effect (.openLoopTrainingEnd lane) s
      ((s.dev.waitUntil ((s.dev.lane lane.val).trainSince + 100 * Config.usCt)).updLane lane.val fun s => { s with final := true }) :=
  Effect.of_run (show execOpenLoopTrainingEnd lane s = run _ s from rfl) (if_pos (by simp [h2, ho]))

theorem effect_trainingAttemptTimeout {lane : Lane} (h : s.dev.laneState lane.val = 1 ∨ s.dev.laneState lane.val = 2) :
    Effect (.trainingAttemptTimeout lane) s ((s.dev.waitUntil ((s.dev.lane lane.val).since + 10 * Config.msCt)).failAttempt lane.val) :=
  Effect.of_run (show execTrainingAttemptTimeout lane s = run _ s from rfl) (if_pos (by simpa using h))

theorem effect_backoffEnd {lane : Lane} (h4 : s.dev.laneState lane.val = 4) :
    Effect (.backoffEnd lane) s ((s.dev.waitUntil (s.dev.lane lane.val).retryAt).startAttempt lane.val) :=
  Effect.of_run (show execBackoffEnd lane s = run _ s from rfl) (if_pos h4)

theorem Effect.laneStable {lane : Lane} (h3 : s.dev.laneState lane.val = 3) :
    Effect (.laneStable lane) s
      ((s.dev.waitUntil ((s.dev.lane lane.val).activeSince + Config.secondCt)).updLane lane.val fun s => { s with fails := 0 }) :=
  Effect.of_run (show execLaneStable lane s = run _ s from rfl) (if_pos h3)

theorem effect_lanePermanent {lane : Lane} {t : Nat} (hd : (s.dev.lane lane.val).downSince = some t)
    (h1 : s.dev.flag (Reg.LNK.LANE_STATUS_DOWN lane.val) = true) (h2 : s.dev.flag (Reg.LNK.LANE_STATUS_PERMANENT lane.val) = false) :
    Effect (.lanePermanent lane) s
      (((s.dev.waitUntil (t + 3600 * Config.secondCt)).setFlag (Reg.LNK.LANE_STATUS_PERMANENT lane.val) true).raise .lnk 8 lane.val) := by
  refine Effect.of_run (show execLanePermanent lane s = run _ s from rfl) ?_
  simp only [hd, h1, h2, Bool.not_false, Bool.and_self, if_true]

/-- Settles O21: each control and each end of a time by the state of its lane. -/
theorem laneTraining : Obligations.LaneTraining := by
  unfold Obligations.LaneTraining
  refine ⟨fun s lane hp ha h0 => Device.refreshLane_attempt ha h0 ▸ Effect.laneEnable hp,
    fun s lane hp ha h0 hl => Device.refreshLane_leaving ha h0 hl ▸ Effect.laneEnable hp,
    fun s lane hp ha h0 => Device.refreshLane_remove ha h0 ▸ Effect.laneDisable hp,
    fun s lane hp ha h0 => Device.refreshLane_off ha h0 ▸ Effect.laneDisable hp,
    fun s lane hp h3 hw => Device.removeLane_tx lane.isLt h3 hw ▸ Effect.laneRetrain (lane := ⟨lane.val, by omega⟩) hp (by simp [h3]),
    fun s lane hp h3 => Device.removeLane_rx (Nat.le_add_right 8 _) h3 ▸ Effect.laneRetrain (lane := ⟨8 + lane.val, by omega⟩) hp (by simp [h3]),
    fun s lane hp h => ?_,
    fun s lane w h1 hw hg hseq => ?_,
    fun s lane w h2 hw hp => ?_,
    fun _ _ _ => prbsWindowEnd_good_completes,
    fun _ _ _ => prbsWindowEnd_bad_completes,
    fun _ _ => effect_laneActive,
    fun s lane hq h2 ho => lane_timed_completes (Effect.openLoopTrainingEnd h2 ho) hq,
    fun _ _ => effect_trainingAttemptTimeout,
    fun _ _ => effect_backoffEnd,
    fun s lane hq h3 => ?_,
    fun _ _ _ => effect_lanePermanent⟩
  · have h3 : s.dev.laneState lane.val ≠ 3 := by omega
    exact Device.removeLane_idle h3 ▸ Effect.laneRetrain hp (by omega)
  · have hx := Effect.trainingControlWord (.inl h1) hw
    rwa [Device.reporting_of_due (by rw [Device.trainLane_fourth h1 hw hg hseq]; rfl), Device.trainLane_fourth h1 hw hg hseq] at hx
  · have hx := Effect.trainingControlWord (.inr h2) hw
    rwa [Device.reporting_of_same (by rw [Device.trainLane_train h2 hw hp]; exact Device.ownReport_precoded rfl),
      Device.trainLane_train h2 hw hp] at hx
  · obtain ⟨t, hx, hp, hleaves, hclock, hlane, -⟩ := lane_timed_completes (Effect.laneStable h3) hq
    exact ⟨t, hx, hp, hleaves, hclock, hlane⟩

end Sys2Proof.Machine
end

section
/-! PROOFS. What the operations of the lane path change: lanes, bundles, resends, blocks sent and received. -/

namespace Sys2Proof.Machine

/-- The lane path and the message layer have moved from `d` to `e`: only their own parts, registers among `rs` and events of their pages; event bits that
were set stay, the shared block clock stands, the table in force is as it was, and no lane has joined those to retrain. -/
structure LaneMove (rs : Nat → Bool) (d e : Device) : Prop where
  frame : Frame [.alarms, .lnk, .zvl, .cdr, .free, .eventQ] rs [.lnk, .zvl] d e
  bits : ∀ p b, (d.sticky p).getLsbD b = true → (e.sticky p).getLsbD b = true
  slot : e.lnk.slot = d.lnk.slot
  eq : e.lnk.eq = d.lnk.eq
  retrain : e.lnk.retrain ⊆ d.lnk.retrain

namespace LaneMove

variable {rs : Nat → Bool} {d e : Device} {l : Nat}

/-! ### One update -/

theorem refl : LaneMove rs d d := ⟨Frame.refl, fun _ _ h => h, rfl, rfl, List.Subset.refl _⟩

/-- An update that raises no event and leaves the lane path's block as it was. -/
theorem step {e' : Device} (h : LaneMove rs d e) (F : Frame [.alarms, .lnk, .zvl, .cdr, .free, .eventQ] rs [.lnk, .zvl] d e')
    (hs : e'.evSticky = e.evSticky) (hl : e'.lnk = e.lnk) : LaneMove rs d e' :=
  ⟨F, fun p b hb => by rw [Device.sticky_congr hs]; exact h.bits p b hb, by rw [hl]; exact h.slot, by rw [hl]; exact h.eq, by rw [hl]; exact h.retrain⟩

theorem setWord (h : LaneMove rs d e) {a : Nat} {w : W32} (ha : rs a = true) : LaneMove rs d (e.setWord a w) := h.step (h.frame.setWord (.inl ha)) rfl rfl
theorem setFld (h : LaneMove rs d e) {f : Fld} {v : Nat} (ha : rs f.addr = true) : LaneMove rs d (e.setFld f v) := h.setWord ha
theorem setFlag (h : LaneMove rs d e) {f : Fld} {b : Bool} (ha : rs f.addr = true) : LaneMove rs d (e.setFlag f b) := h.setWord ha
theorem count (h : LaneMove rs d e) {a n : Nat} (ha : rs a = true) : LaneMove rs d (e.count a n) := h.setWord ha
theorem zvl (h : LaneMove rs d e) {x : ZvlSt} : LaneMove rs d { e with zvl := x } := h.step (h.frame.zvl (by decide)) rfl rfl
theorem send (h : LaneMove rs d e) {x : OutEvent} : LaneMove rs d (e.send x) := h.step h.frame.send rfl rfl
theorem draw (h : LaneMove rs d e) : LaneMove rs d e.draw := h.step (h.frame.draw (by decide)) rfl rfl
theorem eventsOut (h : LaneMove rs d e) {x : List EventMsg} {y : Bool} : LaneMove rs d { e with eventQ := x, eventLost := y } :=
  h.step ((h.frame.eventQ (x := x) (by decide)).eventLost (x := y)) rfl rfl
theorem updCoder (h : LaneMove rs d e) {c : Nat} {f : CoderCtx → CoderCtx} : LaneMove rs d (e.updCoder c f) := h.step (h.frame.cdr (by decide)) rfl rfl
theorem laneTodo (h : LaneMove rs d e) {x : List Nat} : LaneMove rs d { e with evb := { e.evb with laneTodo := x } } := h.step (h.frame.evbMove rfl) rfl rfl

theorem lnk (h : LaneMove rs d e) {x : LnkSt} (hs : x.slot = e.lnk.slot) (he : x.eq = e.lnk.eq) (hr : x.retrain ⊆ e.lnk.retrain) :
    LaneMove rs d { e with lnk := x } :=
  ⟨h.frame.lnk (by decide), h.bits, hs.trans h.slot, he.trans h.eq, List.Subset.trans hr h.retrain⟩

theorem updLane (h : LaneMove rs d e) {f : LaneSt → LaneSt} : LaneMove rs d (e.updLane l f) := h.lnk rfl rfl (List.Subset.refl _)

theorem raise (h : LaneMove rs d e) {p : Page} {b x : Nat} (hp : p ∈ [Page.lnk, .zvl]) : LaneMove rs d (e.raise p b x) := by
  have hl : (e.raise p b x).lnk = e.lnk := Device.same_raise .lnk
  exact ⟨h.frame.raise (.inl hp), fun q c hc => Device.sticky_raise_kept (h.bits q c hc), by rw [hl]; exact h.slot, by rw [hl]; exact h.eq,
    by rw [hl]; exact h.retrain⟩

theorem ite {c : Prop} [Decidable c] {x y : Device} (hx : c → LaneMove rs d x) (hy : ¬c → LaneMove rs d y) : LaneMove rs d (if c then x else y) := by
  by_cases hc : c
  · rw [if_pos hc]; exact hx hc
  · rw [if_neg hc]; exact hy hc

theorem foldl {α : Type} {f : Device → α → Device} (l : List α) (h : LaneMove rs d e) (hf : ∀ e x, LaneMove rs d e → LaneMove rs d (f e x)) :
    LaneMove rs d (l.foldl f e) := by
  induction l generalizing e with
  | nil => exact h
  | cons x l ih => exact ih (hf e x h)

/-- A command completes: what holds of every device that the follow-up can make of its effect. The move may begin at a later device than the command. -/
theorem completes {c : Instr} {s : State} {post : Device → Prop} (h : LaneMove rs d e) (hx : Effect c s e) (hq : d.serviceRun = none)
    (hp : ∀ t, Leaves [] (fun _ => false) [] e t → post t) : Completes c s post :=
  ⟨_, hx, rfl, hp _ (h.frame.settled hq (by decide))⟩

theorem word (h : LaneMove rs d e) {a : Nat} (ha : rs a = false) (hs : sharedReg a = false) : e.word a = d.word a := h.frame.words a ha hs

/-! ### Lanes and bundles -/

/-- The registers that a bundle moves. -/
def bundleReg (a : Nat) : Bool := a == Reg.LNK.SUMMARY || a == Reg.LNK.BUNDLE_STATUS || a == Reg.LNK.CNT_BUNDLE_DOWN

theorem reportChanged (h : LaneMove rs d e) : LaneMove rs d e.reportChanged := h.zvl

theorem startAttempt (h : LaneMove rs d e) (hr : rs (Reg.LNK.LANE_STATUS l) = true) : LaneMove rs d (e.startAttempt l) :=
  (((h.setFld hr).setFld hr).setFlag hr).updLane

theorem restLane (h : LaneMove rs d e) {b : Bool} (hr : rs (Reg.LNK.LANE_STATUS l) = true) : LaneMove rs d (e.restLane l b) := by
  have h1 : LaneMove rs d (if isRx l then e.reportChanged else e) := ite (fun _ => h.reportChanged) fun _ => h
  exact ite (fun _ => h1.startAttempt hr) fun _ => (h1.setFld hr).updLane

theorem requestSet (h : LaneMove rs d e) : LaneMove rs d e.requestSet := h.lnk rfl rfl (List.Subset.refl _)

theorem countDown (h : LaneMove rs d e) {b a : Bool} : LaneMove rs d (e.countDown b a) :=
  h.foldl _ fun _ _ h => ite (fun _ => h.updLane) fun _ => h

theorem startResend (h : LaneMove rs d e) : LaneMove rs d e.startResend := (h.updCoder.laneTodo).lnk rfl rfl (List.Subset.refl _)

variable (hb : ∀ a, bundleReg a = true → rs a = true)
include hb

theorem setActive (h : LaneMove rs d e) {b : Bool} : LaneMove rs d (e.setActive l b) :=
  h.setFlag (f := ⟨Reg.LNK.SUMMARY, l, 1⟩) (hb Reg.LNK.SUMMARY (by decide))

/-- A bundle's own flag goes down: it is counted and raises its event. -/
theorem bundleLost (h : LaneMove rs d e) {f : Fld} (hf : f.addr = Reg.LNK.SUMMARY) :
    LaneMove rs d (((e.setFlag f false).count Reg.LNK.CNT_BUNDLE_DOWN).raise .lnk 4) :=
  ((h.setFlag (hf ▸ hb Reg.LNK.SUMMARY (by decide))).count (hb Reg.LNK.CNT_BUNDLE_DOWN (by decide))).raise (by decide)

theorem txDown (h : LaneMove rs d e) : LaneMove rs d e.txDown := by
  have hB := hb Reg.LNK.BUNDLE_STATUS (by decide)
  unfold Device.txDown
  extract_lets x y
  have hx : LaneMove rs d x := (h.setFld (f := Reg.LNK.BUNDLE_STATUS_TX_SET) hB).setFlag (f := Reg.LNK.BUNDLE_STATUS_RESTRIPING) hB
  have hy : LaneMove rs d y := hx.bundleLost hb rfl
  exact (hy.lnk (x := { y.lnk with setNext := none, pair := false, made := [] }) rfl rfl (List.Subset.refl _)).countDown

theorem rxBundle (h : LaneMove rs d e) : LaneMove rs d e.rxBundle := by
  have hB := hb Reg.LNK.BUNDLE_STATUS (by decide)
  unfold Device.rxBundle
  extract_lets up was x _ y z
  have hy : LaneMove rs d y := (h.setFld (f := Reg.LNK.BUNDLE_STATUS_RX_SET) hB).zvl
  have hz : LaneMove rs d z := hy.bundleLost hb rfl
  refine ite (fun _ => ite (fun _ => ?_) fun _ => hy) fun _ => ite (fun _ => hy) fun _ => ?_
  · exact (hz.zvl (x := { z.zvl with epoch := none, queue := [], frame := none })).countDown
  · exact (hy.setFlag (f := Reg.LNK.SUMMARY_RX_BUNDLE_UP) (hb Reg.LNK.SUMMARY (by decide))).countDown

theorem restripe (h : LaneMove rs d e) : LaneMove rs d e.restripe := by
  unfold Device.restripe
  extract_lets left x _ y
  have hx : LaneMove rs d x := h.setFlag (f := Reg.LNK.BUNDLE_STATUS_RESTRIPING) (hb Reg.LNK.BUNDLE_STATUS (by decide))
  have hy : LaneMove rs d y := hx.lnk rfl rfl (List.Subset.refl _)
  exact ite (fun _ => h.txDown hb) fun _ => hy.startResend

/-- The bundle of a lane follows. -/
theorem dropLane (h : LaneMove rs d e) {b : Bool} (hr : rs (Reg.LNK.LANE_STATUS l) = true) : LaneMove rs d (e.dropLane l b) := by
  have h1 : LaneMove rs d ((e.setActive l false).restLane l b) := (h.setActive hb).restLane hr
  exact ite (fun _ => h1.rxBundle hb) fun _ => ite (fun _ => h1.restripe hb) fun _ => h1

theorem removeLane (h : LaneMove rs d e) {b : Bool} (hr : rs (Reg.LNK.LANE_STATUS l) = true) : LaneMove rs d (e.removeLane l b) :=
  ite (fun _ => h.restLane hr) fun _ => ite (fun _ => ((h.setActive hb).restLane hr).rxBundle hb) fun _ =>
    ite (fun _ => ((h.updLane.setActive hb).restLane hr).txDown hb) fun _ => h.updLane.requestSet

theorem refreshLane (h : LaneMove rs d e) (hr : rs (Reg.LNK.LANE_STATUS l) = true) : LaneMove rs d (e.refreshLane l) :=
  ite (fun _ => ite (fun _ => h.startAttempt hr) fun _ => ite (fun _ => h.updLane) fun _ => h) fun _ => ite (fun _ => h) fun _ => h.removeLane hb hr

theorem nextRetrain (h : LaneMove rs d e) (hr : ∀ l, rs (Reg.LNK.LANE_STATUS l) = true) : LaneMove rs d e.nextRetrain := by
  unfold Device.nextRetrain
  extract_lets left _ x
  have hx : LaneMove rs d x := h.lnk rfl rfl (List.dropWhile_sublist _).subset
  clear_value x left
  split
  · exact hx
  · exact ite (fun _ => hx.removeLane hb (hr _)) fun _ => hx

theorem loseLane (h : LaneMove rs d e) {k : Nat} (hr : rs (Reg.LNK.LANE_STATUS l) = true) (hc : rs (Reg.LNK.CNT_LOSS l) = true) :
    LaneMove rs d (e.loseLane l k) := by
  unfold Device.loseLane
  refine ite (fun _ => h) fun _ => ?_
  extract_lets x recent y z
  have hx : LaneMove rs d x := ((h.count hc).setFld hr).raise (by decide)
  exact (ite (fun _ => (hx.updLane.setFlag hr).raise (by decide)) fun _ => hx.updLane).dropLane hb hr

omit hb

/-! ### Blocks sent -/

variable (ht : ∀ a, rs a = true)
include ht

theorem countResent (h : LaneMove rs d e) {n : Nat} : LaneMove rs d (e.countResent n) :=
  (h.lnk (x := { e.lnk with resentBytes := e.lnk.resentBytes + n }) rfl rfl (List.Subset.refl _)).setWord (ht Reg.LNK.CNT_RESENT)

theorem frameSent (h : LaneMove rs d e) : LaneMove rs d e.frameSent := by
  unfold Device.frameSent
  split
  · exact h
  · extract_lets mine done mark again _ x
    have hx : LaneMove rs d x := h.lnk rfl rfl (List.Subset.refl _)
    exact ite (fun _ => hx) fun _ => hx.countResent ht

theorem makeBlock (h : LaneMove rs d e) : LaneMove rs d e.makeBlock.1 := by
  unfold Device.makeBlock
  split
  · exact h.zvl
  split
  · exact h.zvl
  split
  · exact h.zvl
  split
  · exact h.eventsOut.count (ht _)
  split
  · extract_lets x _ y
    have hx : LaneMove rs d x := ite (fun _ => h.count (ht _)) fun _ => h
    have hy : LaneMove rs d y := hx.lnk rfl rfl (List.Subset.refl _)
    exact ite (fun _ => hy.frameSent ht) fun _ => hy
  · exact h

theorem makeFor (n : Nat) (h : LaneMove rs d e) : LaneMove rs d (e.makeFor l n) := by
  induction n generalizing e with
  | zero => exact h
  | succ n ih =>
    unfold Device.makeFor
    refine ite (fun _ => h) fun _ => ite (fun _ => ih (h.lnk rfl rfl (List.Subset.refl _))) fun _ => ?_
    exact ih ((h.makeBlock ht).lnk rfl rfl (List.Subset.refl _))

theorem laneSlot (h : LaneMove rs d e) {pair : Nat} : LaneMove rs d (e.laneSlot pair l) := by
  unfold Device.laneSlot
  refine ite (fun _ => h) fun _ => ?_
  extract_lets i x align y
  have hx : LaneMove rs d x := h.updLane
  refine ite (fun _ => hx.send) fun _ => ite (fun _ => (hx.count (ht _)).send) fun _ => ite (fun _ => hx.send) fun _ => ?_
  have hy : LaneMove rs d y := hx.makeFor ht 8
  split
  · next m _ => exact (hy.lnk (x := { y.lnk with made := y.lnk.made.filter fun x => x.2.1 != m.2.1 }) rfl rfl (List.Subset.refl _)).send
  · exact hy

theorem waitSlot (h : LaneMove rs d e) {b : Bool} : LaneMove rs d (e.waitSlot b l) := by
  unfold Device.waitSlot
  extract_lets i mine x
  refine ite (fun _ => h) fun _ => ?_
  have hx : LaneMove rs d x := h.updLane
  clear_value x mine
  refine ite (fun _ => (hx.count (ht _)).send) fun _ => ite (fun _ => hx.send) fun _ => ?_
  split
  · next m => exact (hx.lnk (x := { x.lnk with made := x.lnk.made.filter fun x => x.2.1 != m.2.1 }) rfl rfl (List.Subset.refl _)).send
  · exact ite (fun _ => hx) fun _ => hx.draw.send

omit ht in
theorem trainSlot (h : LaneMove rs d e) : LaneMove rs d (e.trainSlot l) :=
  ite (fun _ => h) fun _ => ite (fun _ => h.send.updLane) fun _ => h.updLane

theorem leaveLanes (h : LaneMove rs d e) : LaneMove rs d e.leaveLanes := by
  refine nextRetrain (fun a _ => ht a) (foldl _ h fun e l h => ?_) fun _ => ht _
  split
  · exact ite (fun _ => (h.setActive fun a _ => ht a).restLane (ht _)) fun _ => h
  · exact h

omit ht

/-! ### Blocks received -/

/-- The counters of a lane's codewords (R388). -/
def codewordCount (a : Nat) : Bool :=
  decide (0x18200 ≤ a) && decide (a < 0x19000) && (decide (a % 0x40 = 0x10) || decide (a % 0x40 = 0x14) || decide (a % 0x40 = 0x18))

variable (hc : ∀ a, codewordCount a = false → rs a = true)
include hc

theorem rs_laneReg {o : Nat} (ho : o < 0x40) (h0 : o ≠ 0x10) (h4 : o ≠ 0x14) (h8 : o ≠ 0x18) : rs (0x18200 + o + 0x40 * l) = true := by
  refine hc _ ?_
  simp only [codewordCount, Bool.and_eq_false_iff, Bool.or_eq_false_iff, decide_eq_false_iff_not]
  omega

theorem lost (h : LaneMove rs d e) {k : Nat} : LaneMove rs d (e.loseLane l k) := by
  refine h.loseLane (fun a ha => hc a ?_) (rs_laneReg hc (o := 4) (by decide) (by decide) (by decide) (by decide))
    (rs_laneReg hc (o := 8) (by decide) (by decide) (by decide) (by decide))
  simp only [bundleReg, Bool.or_eq_true, beq_iff_eq] at ha
  rcases ha with (rfl | rfl) | rfl <;> decide

omit hc in
theorem setDeskew (h : LaneMove rs d e) {x : List RxBlock} : LaneMove rs d (e.setDeskew l x) := h.zvl

theorem destripe (n : Nat) (h : LaneMove rs d e) : LaneMove rs d (e.destripe n) := by
  have herr : rs Reg.ZVL.CNT_ERR_BLOCK = true := hc _ (by decide)
  induction n generalizing e with
  | zero => exact h
  | succ n ih =>
    unfold Device.destripe
    refine ite (fun _ => h) fun _ => ?_
    dsimp only
    split
    · exact ite (fun _ => ih (h.zvl.count herr)) fun _ => h
    · split
      · refine ite (fun _ => ih ?_) fun _ => ite (fun _ => ih h.setDeskew.zvl) fun _ => ih (h.zvl.count herr)
        exact (ite (fun _ => h.setDeskew.count herr) fun _ => h.setDeskew).zvl
      · exact h

theorem discardFrame (h : LaneMove rs d e) : LaneMove rs d e.discardFrame := by
  unfold Device.discardFrame
  split
  · exact h
  · exact ite (fun _ => (h.zvl.count (hc _ (by decide))).raise (by decide)) fun _ => h.zvl

theorem skipBlocks (n : Nat) (h : LaneMove rs d e) : LaneMove rs d (e.skipBlocks n) := by
  induction n generalizing e with
  | zero => exact h
  | succ n ih =>
    unfold Device.skipBlocks
    split
    · exact h
    · exact ih (discardFrame hc h.zvl)
    · exact ite (fun _ => h) fun _ => ite (fun _ => ih h.zvl) fun _ => ite (fun _ => h) fun _ =>
        ih ((h.zvl.count (hc _ (by decide))).raise (by decide))

theorem pumpRx (h : LaneMove rs d e) : LaneMove rs d e.pumpRx := (h.destripe hc _).skipBlocks hc _

theorem rxBlock (h : LaneMove rs d e) {w : BitVec 257} : LaneMove rs d (e.rxBlock l w) := by
  unfold Device.rxBlock
  refine ite (fun _ => h.setDeskew) fun _ => ?_
  split
  · exact h.setDeskew
  · exact h.setDeskew
  · exact ite (fun _ => h.updLane.count (rs_laneReg hc (o := 0x1C) (by decide) (by decide) (by decide) (by decide))) fun _ => h
  · exact ite (fun _ => h.setDeskew) fun _ => h
  · exact h.setDeskew

omit hc in
theorem rxErrored (h : LaneMove rs d e) {i : Nat} : LaneMove rs d (e.rxErrored l i) := ite (fun _ => h) fun _ => h.setDeskew

theorem insertFill (n : Nat) (h : LaneMove rs d e) : LaneMove rs d (e.insertFill l n) := by
  induction n generalizing e with
  | zero => exact h
  | succ n ih =>
    exact ite (fun _ => ih (h.updLane.count (rs_laneReg hc (o := 0x20) (by decide) (by decide) (by decide) (by decide)))) fun _ => h

theorem deskewFull (h : LaneMove rs d e) : LaneMove rs d (e.deskewFull l) := by
  unfold Device.deskewFull
  refine ite (fun _ => h) fun _ => ?_
  split
  · exact ite (fun _ => h) fun _ => h.lost hc
  · exact h

end LaneMove

end Sys2Proof.Machine
end

section
/-! PROOFS. The lane path: codewords, losses of lock, block times, the equalisation table, retention and data frames (O22). -/

namespace Sys2Proof.Machine

variable {d e : Device} {s : State} {l k : Nat}

/-! ### Codewords (R388, R393) -/

/-- What a receive lane makes of a codeword once it is counted and its blocks are taken (R392, R393, R411, R433). -/
def Device.afterCodeword (d : Device) (l cw : Nat) (level : Int) (decoded : Option (Nat × List (BitVec 257))) : Device :=
  let need := cw % 4096 = 0
  let there := alignThere decoded
  let d := if need then d.updLane l fun s => { s with missing := if there then 0 else s.missing + 1 } else d
  if level ≤ 0 ∨ 32 ≤ level then d.loseLane l 4
  else if 8 ≤ (d.lane l).uncorrectable.length then d.loseLane l 2
  else if need && !there && (cw = 0 || decide (2 ≤ (d.lane l).missing)) then d.loseLane l 3
  else
    let d := d.insertFill l 20
    (d.pumpRx).deskewFull l

/-- A codeword is counted, and the elastic buffer's level follows the clocks. -/
def Device.codewordCounted (d : Device) (l : Nat) (slip : Int) : Device :=
  (d.count (Reg.LNK.CNT_CW l)).updLane l fun s =>
    { s with codewords := (d.lane l).codewords + 1, level := (max 0 (min 32 ((d.lane l).level + slip))).toNat }

/-- An uncorrectable codeword is counted and raises event 10. -/
def Device.codewordFailed (d : Device) (l : Nat) (slip : Int) : Device :=
  ((d.codewordCounted l slip).count (Reg.LNK.CNT_UE_CW l)).raise .lnk 10 l

/-- The blocks of a codeword are taken; those of an uncorrectable one are errored. -/
def Device.codewordTaken (d : Device) (l : Nat) (decoded : Option (Nat × List (BitVec 257))) (slip : Int) : Device :=
  match decoded with
  | some (corrected, bs) => bs.foldl (fun d w => d.rxBlock l w) ((d.codewordCounted l slip).count (Reg.LNK.CNT_CORR_SYM l) corrected)
  | none =>
    let x := d.codewordFailed l slip
    let recent := ((x.lane l).uncorrectable.filter fun k => decide ((d.lane l).codewords < k + 1024)) ++ [(d.lane l).codewords]
    (List.range 20).foldl (fun e k => e.rxErrored l (20 * (d.lane l).codewords + k)) (x.updLane l fun s => { s with uncorrectable := recent })

theorem Device.rxCodeword_eq (d : Device) (l : Nat) (decoded : Option (Nat × List (BitVec 257))) (slip : Int) :
    d.rxCodeword l decoded slip = (d.codewordTaken l decoded slip).afterCodeword l (d.lane l).codewords ((d.lane l).level + slip) decoded := rfl

/-- Every register but the counters of codewords. -/
def codewordRest (a : Nat) : Bool := !LaneMove.codewordCount a

theorem codewordRest_of (a : Nat) (h : LaneMove.codewordCount a = false) : codewordRest a = true := by rw [codewordRest, h]; rfl

theorem LaneMove.afterCodeword {cw : Nat} {level : Int} {decoded : Option (Nat × List (BitVec 257))} (h : LaneMove codewordRest d e) :
    LaneMove codewordRest d (e.afterCodeword l cw level decoded) := by
  unfold Device.afterCodeword
  extract_lets need there x y
  have hx : LaneMove codewordRest d x := ite (fun _ => h.updLane) fun _ => h
  clear_value x
  exact ite (fun _ => hx.lost codewordRest_of) fun _ => ite (fun _ => hx.lost codewordRest_of) fun _ => ite (fun _ => hx.lost codewordRest_of) fun _ =>
    ((hx.insertFill codewordRest_of 20).pumpRx codewordRest_of).deskewFull codewordRest_of

/-- After the counts of a decoded codeword its counters stand. -/
theorem Device.rxCodeword_some_move (d : Device) (l n : Nat) (blocks : List (BitVec 257)) (slip : Int) :
    LaneMove codewordRest ((d.codewordCounted l slip).count (Reg.LNK.CNT_CORR_SYM l) n) (d.rxCodeword l (some (n, blocks)) slip) := by
  rw [Device.rxCodeword_eq]
  exact (LaneMove.refl.foldl blocks fun _ _ h => h.rxBlock codewordRest_of).afterCodeword

/-- After the counts of an uncorrectable codeword its counters stand. -/
theorem Device.rxCodeword_none_move (d : Device) (l : Nat) (slip : Int) :
    LaneMove codewordRest (d.codewordFailed l slip) (d.rxCodeword l none slip) := by
  rw [Device.rxCodeword_eq]
  refine LaneMove.afterCodeword ?_
  unfold Device.codewordTaken
  exact LaneMove.refl.updLane.foldl _ fun _ _ h => h.rxErrored

theorem Effect.codewordReceive {lane : Fin 2} {word : BitVec 5440} {slip : Int} (h3 : s.dev.laneState (8 + lane.val) = 3) :
    Effect (.codewordReceive lane word slip) s (s.dev.rxCodeword (8 + lane.val) (rsDecode word) slip) :=
  Effect.of_run (show execCodewordReceive lane word slip s = run _ s from rfl) (if_pos h3)

/-- A counter of codewords is moved by the codewords alone. -/
structure CodewordCounter (a : Nat) : Prop where
  own : LaneMove.codewordCount a = true
  plain : plainReg a = true

theorem CodewordCounter.rest {a : Nat} (h : CodewordCounter a) : codewordRest a = false := by rw [codewordRest, h.own]; rfl

theorem codewordCounter_cw (lane : Fin 2) : CodewordCounter (Reg.LNK.CNT_CW (8 + lane.val)) := by
  constructor <;> revert lane <;> decide
theorem codewordCounter_corr (lane : Fin 2) : CodewordCounter (Reg.LNK.CNT_CORR_SYM (8 + lane.val)) := by
  constructor <;> revert lane <;> decide
theorem codewordCounter_ue (lane : Fin 2) : CodewordCounter (Reg.LNK.CNT_UE_CW (8 + lane.val)) := by
  constructor <;> revert lane <;> decide

theorem codewordCounters_ne (l : Nat) : Reg.LNK.CNT_CW l ≠ Reg.LNK.CNT_CORR_SYM l ∧ Reg.LNK.CNT_UE_CW l ≠ Reg.LNK.CNT_CORR_SYM l
    ∧ Reg.LNK.CNT_CW l ≠ Reg.LNK.CNT_UE_CW l ∧ Reg.LNK.CNT_CORR_SYM l ≠ Reg.LNK.CNT_UE_CW l := by
  simp only [Reg.LNK.CNT_CW, Reg.LNK.CNT_CORR_SYM, Reg.LNK.CNT_UE_CW]
  omega

theorem Device.word_codewordCounted (d : Device) (l : Nat) (slip : Int) (a : Nat) :
    (d.codewordCounted l slip).word a = if a = Reg.LNK.CNT_CW l then counted (d.word (Reg.LNK.CNT_CW l)) 1 else d.word a :=
  Device.word_count d _ _ a

theorem codewordReceive_decoded_completes {lane : Fin 2} {word : BitVec 5440} {slip : Int} {n : Nat} {blocks : List (BitVec 257)}
    (hq : s.dev.serviceRun = none) (h3 : s.dev.laneState (8 + lane.val) = 3) (hd : rsDecode word = some (n, blocks)) :
    Completes (.codewordReceive lane word slip) s fun d =>
      d.word (Reg.LNK.CNT_CW (8 + lane.val)) = counted (s.dev.word (Reg.LNK.CNT_CW (8 + lane.val))) 1
      ∧ d.word (Reg.LNK.CNT_CORR_SYM (8 + lane.val)) = counted (s.dev.word (Reg.LNK.CNT_CORR_SYM (8 + lane.val))) n
      ∧ d.word (Reg.LNK.CNT_UE_CW (8 + lane.val)) = s.dev.word (Reg.LNK.CNT_UE_CW (8 + lane.val)) := by
  have hx := Effect.codewordReceive (word := word) (slip := slip) h3
  rw [hd] at hx
  have hm := s.dev.rxCodeword_some_move (8 + lane.val) n blocks slip
  obtain ⟨n1, n2, n3, n4⟩ := codewordCounters_ne (8 + lane.val)
  have hword : ∀ {a : Nat} {t : Device}, CodewordCounter a → Leaves [] (fun _ => false) [] _ t → t.word a = _ :=
    fun ha hl => (hl.plain rfl ha.plain).trans (hm.word ha.rest (sharedReg_of_plainReg ha.plain))
  refine hm.completes hx hq fun t hl => ⟨?_, ?_, ?_⟩
  · rw [hword (codewordCounter_cw lane) hl, Device.word_count, if_neg n1, Device.word_codewordCounted, if_pos rfl]
  · rw [hword (codewordCounter_corr lane) hl, Device.word_count, if_pos rfl, Device.word_codewordCounted, if_neg n1.symm]
    rfl
  · rw [hword (codewordCounter_ue lane) hl, Device.word_count, if_neg n2, Device.word_codewordCounted, if_neg n3.symm]

theorem codewordReceive_failed_completes {lane : Fin 2} {word : BitVec 5440} {slip : Int}
    (hq : s.dev.serviceRun = none) (h3 : s.dev.laneState (8 + lane.val) = 3) (hd : rsDecode word = none) (hp : s.dev.pageOn .lnk = true) :
    Completes (.codewordReceive lane word slip) s fun d =>
      d.word (Reg.LNK.CNT_CW (8 + lane.val)) = counted (s.dev.word (Reg.LNK.CNT_CW (8 + lane.val))) 1
      ∧ d.word (Reg.LNK.CNT_UE_CW (8 + lane.val)) = counted (s.dev.word (Reg.LNK.CNT_UE_CW (8 + lane.val))) 1
      ∧ (d.sticky .lnk).getLsbD 10 = true := by
  have hx := Effect.codewordReceive (word := word) (slip := slip) h3
  rw [hd] at hx
  have hm := s.dev.rxCodeword_none_move (8 + lane.val) slip
  obtain ⟨n1, n2, n3, n4⟩ := codewordCounters_ne (8 + lane.val)
  have hword : ∀ {a : Nat} {t : Device}, CodewordCounter a → Leaves [] (fun _ => false) [] _ t →
      t.word a = ((s.dev.codewordCounted (8 + lane.val) slip).count (Reg.LNK.CNT_UE_CW (8 + lane.val))).word a := fun ha hl =>
    (hl.plain rfl ha.plain).trans ((hm.word ha.rest (sharedReg_of_plainReg ha.plain)).trans (Device.word_raise (sharedReg_of_plainReg ha.plain)))
  have hf : LaneMove LaneMove.codewordCount s.dev ((s.dev.codewordCounted (8 + lane.val) slip).count (Reg.LNK.CNT_UE_CW (8 + lane.val))) :=
    (LaneMove.refl.count (codewordCounter_cw lane).own).updLane.count (codewordCounter_ue lane).own
  have hon : Device.pageOn _ .lnk = true := (hf.frame.pageOn (by decide) (by decide) (by decide) .lnk).trans hp
  have hq' : (s.dev.codewordFailed (8 + lane.val) slip).serviceRun = none :=
    (Device.serviceRun_congr ((hf.raise (by decide)).frame.blocks .sta (by decide))).trans hq
  refine hm.completes hx hq' fun t hl => ⟨?_, ?_, ?_⟩
  · rw [hword (codewordCounter_cw lane) hl, Device.word_count, if_neg n3, Device.word_codewordCounted, if_pos rfl]
  · rw [hword (codewordCounter_ue lane) hl, Device.word_count, if_pos rfl, Device.word_codewordCounted, if_neg n3.symm]
    rfl
  · exact hl.kept .lnk (by decide) 10 (hm.bits .lnk 10 (Device.sticky_raise_self hon (by decide)))

/-! ### Losses of lock (R411-R413) -/

/-- A loss is counted, keeps its cause and raises event 1. -/
def Device.lossNoted (d : Device) (l cause : Nat) : Device :=
  ((d.count (Reg.LNK.CNT_LOSS l)).setFld (Reg.LNK.LANE_STATUS_CAUSE l) cause).raise .lnk 1 l

/-- The losses of the last 24 h are kept; the third of them is REPEATED (R413). -/
def Device.lossKept (d : Device) (l : Nat) : Device :=
  let recent := ((d.lane l).losses.filter fun t => decide (d.clock < t + 86400 * Config.secondCt)) ++ [d.clock]
  let d := d.updLane l fun s => { s with losses := recent }
  if 3 ≤ recent.length then (d.setFlag (Reg.LNK.LANE_STATUS_REPEATED l) true).raise .lnk 9 l else d

theorem Device.loseLane_active {cause : Nat} (h3 : d.laneState l = 3) :
    d.loseLane l cause = ((d.lossNoted l cause).lossKept l).dropLane l true := if_neg (not_not.mpr h3)

theorem Device.lossKept_first (h : (d.lane l).losses = []) : d.lossKept l = d.updLane l fun x => { x with losses := [] ++ [d.clock] } := by
  simp only [Device.lossKept, h]
  rfl

theorem Device.lane_lossNoted (d : Device) (l cause j : Nat) : (d.lossNoted l cause).lane j = d.lane j :=
  Device.lane_congr (e := d.lossNoted l cause) (Device.same_raise .lnk) j

/-- The first loss of a lane in a day. -/
theorem Device.loseLane_first {cause : Nat} (h3 : d.laneState l = 3) (h : (d.lane l).losses = []) :
    d.loseLane l cause = ((d.lossNoted l cause).updLane l fun x => { x with losses := [] ++ [(d.lossNoted l cause).clock] }).dropLane l true := by
  have hn : ((d.lossNoted l cause).lane l).losses = [] := by rw [Device.lane_lossNoted, h]
  exact (Device.loseLane_active h3).trans (congrArg (fun x => x.dropLane l true) (Device.lossKept_first hn))

/-- An attempt begins in DETECT or TRAIN, at its rate, with or without precoding. -/
theorem Device.startAttempt_eq (d : Device) (l : Nat) : ∃ n rate precode f, n < 3 ∧ d.startAttempt l =
    (((d.setFld (Reg.LNK.LANE_STATUS_STATE l) n).setFld (Reg.LNK.LANE_STATUS_RATE_ACT l) rate).setFlag (Reg.LNK.LANE_STATUS_PRECODED l) precode).updLane l f := by
  refine ⟨if (!isRx l && d.flag (Reg.LNK.LANE_CTRL_OPEN_LOOP l)) = true then 2 else 1, _, _, _, ?_, rfl⟩
  split <;> decide

/-- A lane that rests is not ACTIVE, and its cause of loss stays. -/
theorem Device.startAttempt_fields (d : Device) (l : Nat) :
    (d.startAttempt l).laneState l ≠ 3 ∧ (d.startAttempt l).fld (Reg.LNK.LANE_STATUS_CAUSE l) = d.fld (Reg.LNK.LANE_STATUS_CAUSE l) := by
  obtain ⟨n, rate, precode, f, hn, he⟩ := d.startAttempt_eq l
  rw [he, Device.laneState, Device.fld_updLane, Device.fld_updLane]
  constructor
  · rw [Device.setFlag, Device.fld_setFld_other _ _ _ _ (.inr (show 0 + 3 ≤ 32 ∧ (0 + 3 ≤ 4 ∨ 4 + 1 ≤ 0) by decide)),
      Device.fld_setFld_other _ _ _ _ (.inr (show 0 + 3 ≤ 32 ∧ (0 + 3 ≤ 5 ∨ 5 + 2 ≤ 0) by decide)),
      Device.fld_setFld_self _ _ _ (show 0 + 3 ≤ 32 by decide)]
    show n % 2 ^ 3 ≠ 3
    omega
  · rw [Device.setFlag, Device.fld_setFld_other _ _ _ _ (.inr (show 12 + 3 ≤ 32 ∧ (12 + 3 ≤ 4 ∨ 4 + 1 ≤ 12) by decide)),
      Device.fld_setFld_other _ _ _ _ (.inr (show 12 + 3 ≤ 32 ∧ (12 + 3 ≤ 5 ∨ 5 + 2 ≤ 12) by decide)),
      Device.fld_setFld_other _ _ _ _ (.inr (show 12 + 3 ≤ 32 ∧ (12 + 3 ≤ 0 ∨ 0 + 3 ≤ 12) by decide))]

theorem Device.restLane_fields (d : Device) (l : Nat) (b : Bool) :
    (d.restLane l b).laneState l ≠ 3 ∧ (d.restLane l b).fld (Reg.LNK.LANE_STATUS_CAUSE l) = d.fld (Reg.LNK.LANE_STATUS_CAUSE l) := by
  unfold Device.restLane
  extract_lets x
  have hx : x.fld (Reg.LNK.LANE_STATUS_CAUSE l) = d.fld (Reg.LNK.LANE_STATUS_CAUSE l) := by
    show (if isRx l = true then d.reportChanged else d).fld _ = _
    split <;> rfl
  clear_value x
  split
  · exact ⟨(x.startAttempt_fields l).1, (x.startAttempt_fields l).2.trans hx⟩
  · constructor
    · have h0 : (x.setLaneState l 0).laneState l = 0 := Device.fld_setFld_self x (Reg.LNK.LANE_STATUS_STATE l) 0 (show 0 + 3 ≤ 32 by decide)
      exact fun h => absurd (h0.symm.trans h) (by decide)
    · exact (Device.fld_setFld_other x (Reg.LNK.LANE_STATUS_STATE l) (Reg.LNK.LANE_STATUS_CAUSE l) _ (.inr (show 12 + 3 ≤ 32 ∧ (12 + 3 ≤ 0 ∨ 0 + 3 ≤ 12) by decide))).trans hx

theorem laneRegs_not_bundle : ∀ l, l < 10 → LaneMove.bundleReg (Reg.LNK.LANE_STATUS l) = false ∧ LaneMove.bundleReg (Reg.LNK.CNT_LOSS l) = false
    ∧ plainReg (Reg.LNK.LANE_STATUS l) = true ∧ plainReg (Reg.LNK.CNT_LOSS l) = true := by decide

theorem laneStatus_ne_loss (l : Nat) : Reg.LNK.LANE_STATUS l ≠ Reg.LNK.CNT_LOSS l := by
  unfold Reg.LNK.LANE_STATUS Reg.LNK.CNT_LOSS; omega

theorem laneStatus_ne_summary (l : Nat) : Reg.LNK.LANE_STATUS l ≠ Reg.LNK.SUMMARY := by
  unfold Reg.LNK.LANE_STATUS Reg.LNK.SUMMARY; omega

/-- Where its bundle follows, the status of a lane stands. -/
theorem Device.dropLane_status (d : Device) (b : Bool) (hl : l < 10) {f : Fld} (hf : f.addr = Reg.LNK.LANE_STATUS l) :
    (d.dropLane l b).fld f = ((d.setActive l false).restLane l b).fld f := by
  have hm : LaneMove LaneMove.bundleReg ((d.setActive l false).restLane l b) (d.dropLane l b) :=
    LaneMove.ite (fun _ => LaneMove.refl.rxBundle fun _ h => h) fun _ => LaneMove.ite (fun _ => LaneMove.refl.restripe fun _ h => h) fun _ => LaneMove.refl
  simp only [Device.fld, hf, hm.word (laneRegs_not_bundle l hl).1 (sharedReg_of_plainReg (laneRegs_not_bundle l hl).2.2.1)]

theorem Device.cause_lossKept (d : Device) (hl : l < 10) : (d.lossKept l).fld (Reg.LNK.LANE_STATUS_CAUSE l) = d.fld (Reg.LNK.LANE_STATUS_CAUSE l) := by
  unfold Device.lossKept
  extract_lets recent x
  split
  · exact (Device.fld_raise (sharedReg_of_plainReg (laneRegs_not_bundle l hl).2.2.1)).trans
      (Device.fld_setFld_other x _ (Reg.LNK.LANE_STATUS_CAUSE l) _ (.inr (show 12 + 3 ≤ 32 ∧ (12 + 3 ≤ 9 ∨ 9 + 1 ≤ 12) by decide)))
  · rfl

/-- What the loss of an ACTIVE lane leaves (R411, R412): the lane is counted and not ACTIVE, with its cause and event 1. -/
theorem loseLane_completes {c : Instr} {cause : Nat} (hx : Effect c s (d.loseLane l cause)) (hq : d.serviceRun = none) (h3 : d.laneState l = 3)
    (hp : d.pageOn .lnk = true) (hl : l < 10) (hk : cause < 8) :
    Completes c s fun t => t.word (Reg.LNK.CNT_LOSS l) = counted (d.word (Reg.LNK.CNT_LOSS l)) 1 ∧ t.fld (Reg.LNK.LANE_STATUS_CAUSE l) = cause
      ∧ t.laneState l ≠ 3 ∧ (t.sticky .lnk).getLsbD 1 = true := by
  obtain ⟨hbs, hbl, hps, hpl⟩ := laneRegs_not_bundle l hl
  rw [Device.loseLane_active h3] at hx
  have hm : LaneMove (fun a => a != Reg.LNK.CNT_LOSS l) (d.lossNoted l cause) (((d.lossNoted l cause).lossKept l).dropLane l true) := by
    have hstatus : (Reg.LNK.LANE_STATUS l != Reg.LNK.CNT_LOSS l) = true := bne_iff_ne.mpr (laneStatus_ne_loss l)
    have hkept : LaneMove (fun a => a != Reg.LNK.CNT_LOSS l) (d.lossNoted l cause) ((d.lossNoted l cause).lossKept l) :=
      LaneMove.ite (fun _ => (LaneMove.refl.updLane.setFlag hstatus).raise (by decide)) fun _ => LaneMove.refl.updLane
    refine hkept.dropLane (fun a ha => bne_iff_ne.mpr ?_) hstatus
    rintro rfl
    rw [hbl] at ha
    cases ha
  have hn : Frame [] (fun a => a == Reg.LNK.CNT_LOSS l || a == Reg.LNK.LANE_STATUS l) [] d
      ((d.count (Reg.LNK.CNT_LOSS l)).setFld (Reg.LNK.LANE_STATUS_CAUSE l) cause) :=
    (Frame.refl.count (.inl (by simp))).setFld (.inl (by simp [Reg.LNK.LANE_STATUS_CAUSE]))
  have hdom : ∀ a, Reg.LNK.LANE_STATUS 10 < a ∨ a < 0x18000 → (a == Reg.LNK.CNT_LOSS l || a == Reg.LNK.LANE_STATUS l) = false := fun a ha => by
    simp only [Bool.or_eq_false_iff, beq_eq_false_iff_ne, ne_eq, Reg.LNK.CNT_LOSS, Reg.LNK.LANE_STATUS] at ha ⊢
    omega
  have hq' : (d.lossNoted l cause).serviceRun = none := (Device.serviceRun_congr (Device.same_raise (d := Device.setFld _ _ _) .sta)).trans hq
  refine hm.completes hx hq' fun t ht => ⟨?_, ?_, ?_, ?_⟩
  · rw [ht.plain rfl hpl, hm.word (by simp) (sharedReg_of_plainReg hpl)]
    refine (Device.word_raise (sharedReg_of_plainReg hpl)).trans ?_
    rw [Device.word_setFld_ne (f := Reg.LNK.LANE_STATUS_CAUSE l) (laneStatus_ne_loss l).symm, Device.word_count, if_pos rfl]
    rfl
  · rw [ht.fld (Reg.LNK.LANE_STATUS_CAUSE l) rfl hps, Device.dropLane_status _ _ hl (f := Reg.LNK.LANE_STATUS_CAUSE l) rfl, (Device.restLane_fields _ l _).2]
    have h1 : ((((d.lossNoted l cause).lossKept l).setActive l false).fld (Reg.LNK.LANE_STATUS_CAUSE l)) = _ :=
      Device.fld_setFlag_ne (g := Reg.LNK.LANE_STATUS_CAUSE l) (f := ⟨Reg.LNK.SUMMARY, l, 1⟩) (laneStatus_ne_summary l)
    rw [h1, Device.cause_lossKept _ hl]
    refine (Device.fld_raise (sharedReg_of_plainReg hps)).trans ?_
    exact (Device.fld_setFld_self _ _ _ (show 12 + 3 ≤ 32 by decide)).trans (Nat.mod_eq_of_lt hk)
  · have h1 : t.laneState l = _ := ht.fld (Reg.LNK.LANE_STATUS_STATE l) rfl hps
    rw [h1, Device.dropLane_status _ _ hl (f := Reg.LNK.LANE_STATUS_STATE l) rfl]
    exact (Device.restLane_fields _ l _).1
  · exact ht.kept .lnk (by decide) 1 (hm.bits .lnk 1 (Device.sticky_raise_self
      ((hn.pageOn (by decide) (hdom _ (by decide)) (hdom _ (by decide)) .lnk).trans hp) (by decide)))

theorem Effect.rxLossOfLock (lane : Fin 2) (cause : RxLoss) : Effect (.rxLossOfLock lane cause) s (s.dev.loseLane (8 + lane.val) (rxLossCode cause)) := rfl
theorem Effect.txLossOfLock (lane : Fin 8) (cause : TxLoss) : Effect (.txLossOfLock lane cause) s (s.dev.txLoss lane.val cause) := rfl

theorem rxLossCode_lt (cause : RxLoss) : rxLossCode cause < 8 := by cases cause <;> decide

/-- The code of a transmit lane's loss (R412). -/
def txLossCode : TxLoss → Nat
  | .pll => 5
  | .driver => 6
  | .remote => 7

theorem txLossOfLock_completes {lane : Fin 8} {cause : TxLoss} (hq : s.dev.serviceRun = none) (h3 : s.dev.laneState lane.val = 3)
    (hp : s.dev.pageOn .lnk = true) (ho : cause = .remote → s.dev.flag (Reg.LNK.LANE_CTRL_OPEN_LOOP lane.val) = false) :
    Completes (.txLossOfLock lane cause) s fun d => d.word (Reg.LNK.CNT_LOSS lane.val) = counted (s.dev.word (Reg.LNK.CNT_LOSS lane.val)) 1
      ∧ d.fld (Reg.LNK.LANE_STATUS_CAUSE lane.val) = txLossCode cause ∧ d.laneState lane.val ≠ 3 ∧ (d.sticky .lnk).getLsbD 1 = true := by
  have hl : lane.val < 10 := by omega
  cases cause with
  | pll => exact loseLane_completes (cause := 5) (Effect.txLossOfLock lane .pll) hq h3 hp hl (by decide)
  | driver => exact loseLane_completes (cause := 6) (Effect.txLossOfLock lane .driver) hq h3 hp hl (by decide)
  | remote =>
    have hx := Effect.txLossOfLock (s := s) lane .remote
    rw [Device.txLoss, ho rfl, if_neg Bool.false_ne_true] at hx
    exact loseLane_completes (d := s.dev.updLane lane.val _) (cause := 7) hx hq h3 hp hl (by decide)

/-! ### Set changes and block times (R417, R418, R427, R432) -/

theorem effect_restripeDone (h1 : s.dev.flag Reg.LNK.BUNDLE_STATUS_RESTRIPING = true) (h2 : s.dev.lnk.setNext = none) (h3 : s.dev.lnk.resend0 = [])
    (h4 : s.dev.lnk.resend1 ≤ s.dev.lnk.unit1) (h5 : s.dev.lnk.sending = []) :
    Effect .restripeDone s ((((s.dev.setFlag Reg.LNK.BUNDLE_STATUS_RESTRIPING false).count Reg.LNK.CNT_RESTRIPE).raise .lnk 3).requestSet) :=
  Effect.of_run (show execRestripeDone s = run _ s from rfl) (if_pos (by simp [h1, h2, h3, h4, h5]))

theorem Effect.codewordTransmit : Effect .codewordTransmit s s.dev.transmitSlot := rfl

/-- Within a codeword the set in force stays. -/
theorem Device.transmitSlot_within (h : d.lnk.slot % 20 ≠ 0) :
    d.transmitSlot =
      (let d := (setLanes d.txSet).foldl (fun (d : Device) (l : Nat) => d.laneSlot 0 l) d
       let d := (List.range 8).foldl (fun (d : Device) (l : Nat) => (d.waitSlot false l).trainSlot l) d
       Device.leaveLanes { d with lnk := { d.lnk with slot := d.lnk.slot + 1 } }) := by
  simp only [Device.transmitSlot, h, decide_false, Bool.not_false, if_true]

/-- A block time moves the shared block clock by one. -/
theorem Device.transmitSlot_move (d : Device) :
    ∃ x, LaneMove (fun _ => true) d x ∧ LaneMove (fun _ => true) { x with lnk := { x.lnk with slot := x.lnk.slot + 1 } } d.transmitSlot := by
  unfold Device.transmitSlot
  extract_lets boundary
  split
  next d1 pair hd =>
  have h1 : LaneMove (fun _ => true) d d1 := by
    split at hd
    · cases hd; exact LaneMove.refl
    · split at hd
      · cases hd
        exact (LaneMove.refl.setFld rfl).lnk rfl rfl (List.Subset.refl _)
      · split at hd
        · cases hd
          exact LaneMove.refl.lnk (x := { d.lnk with pair := false }) rfl rfl (List.Subset.refl _)
        · cases hd; exact LaneMove.refl
  have h2 := (h1.foldl (setLanes d1.txSet) fun e l h => h.laneSlot (l := l) (pair := pair) (fun _ => rfl)).foldl (List.range 8)
    fun e l h => (h.waitSlot (l := l) (b := decide boundary) (fun _ => rfl)).trainSlot (l := l)
  exact ⟨_, h2, LaneMove.refl.leaveLanes fun _ => rfl⟩

theorem codewordTransmit_completes (hq : s.dev.serviceRun = none) :
    Completes .codewordTransmit s fun d => d.lnk.slot = s.dev.lnk.slot + 1 ∧ d.clock = s.dev.clock := by
  obtain ⟨x, hx, hm⟩ := s.dev.transmitSlot_move
  have hq' : Device.serviceRun { x with lnk := { x.lnk with slot := x.lnk.slot + 1 } } = none :=
    (Device.serviceRun_congr (hx.frame.blocks .sta (by decide))).trans hq
  refine hm.completes Effect.codewordTransmit hq' fun t ht => ⟨?_, ?_⟩
  · rw [ht.lnk (by decide), hm.slot, ← hx.slot]
  · exact (ht.clock (by decide)).trans ((hm.frame.blocks .clock (by decide)).trans (hx.frame.blocks .clock (by decide)))

/-! ### The equalisation table (R398-R400) -/

theorem LaneMove.eqLoaded {rs : Nat → Bool} (h : LaneMove rs d e) (hr : rs Reg.LNK.SUMMARY = false) : e.eqLoaded = d.eqLoaded :=
  h.frame.flag Reg.LNK.SUMMARY_EQ_LOADED hr (by decide)

/-- EQ_LOADED is no bit that a lane or a bundle moves. -/
theorem Device.eqLoaded_setSummary (d : Device) {b : Bool} (h : l ≠ 18) : (d.setFlag ⟨Reg.LNK.SUMMARY, l, 1⟩ b).eqLoaded = d.eqLoaded :=
  Device.flag_setFlag_other d ⟨Reg.LNK.SUMMARY, l, 1⟩ Reg.LNK.SUMMARY_EQ_LOADED b
    (.inr ⟨by decide, show 18 + 1 ≤ l ∨ l + 1 ≤ 18 by omega⟩)

theorem Device.eqLoaded_bundleLost (d : Device) (h : l ≠ 18) :
    (((d.setFlag ⟨Reg.LNK.SUMMARY, l, 1⟩ false).count Reg.LNK.CNT_BUNDLE_DOWN).raise .lnk 4).eqLoaded = d.eqLoaded :=
  (Device.flag_raise (by decide)).trans ((Device.flag_count_ne (g := Reg.LNK.SUMMARY_EQ_LOADED) (by decide)).trans (d.eqLoaded_setSummary h))

/-- The registers of the lanes, and no lower ones. -/
def laneStatusReg (a : Nat) : Bool := decide (0x18200 ≤ a)

theorem laneStatusReg_status (l : Nat) : laneStatusReg (Reg.LNK.LANE_STATUS l) = true :=
  decide_eq_true (show 0x18200 ≤ 0x18204 + 0x40 * l by omega)

theorem Device.eqLoaded_restLane (d : Device) (l : Nat) (b : Bool) : (d.restLane l b).eqLoaded = d.eqLoaded :=
  (LaneMove.refl.restLane (laneStatusReg_status l)).eqLoaded (by decide)

theorem Device.eqLoaded_txDown (d : Device) : d.txDown.eqLoaded = d.eqLoaded := by
  unfold Device.txDown
  extract_lets x y
  have hx : x.eqLoaded = d.eqLoaded :=
    LaneMove.eqLoaded (rs := fun a => a == Reg.LNK.BUNDLE_STATUS) ((LaneMove.refl.setFld (by decide)).setFlag (by decide)) (by decide)
  have hy : y.eqLoaded = x.eqLoaded := x.eqLoaded_bundleLost (l := 16) (by decide)
  exact (LaneMove.eqLoaded (rs := fun _ => false) (LaneMove.refl.lnk (x := { y.lnk with setNext := none, pair := false, made := [] }) rfl rfl
    (List.Subset.refl _)).countDown rfl).trans (hy.trans hx)

theorem Device.eqLoaded_rxBundle (d : Device) : d.rxBundle.eqLoaded = d.eqLoaded := by
  unfold Device.rxBundle
  extract_lets up was x _ y z
  have hy : y.eqLoaded = d.eqLoaded :=
    LaneMove.eqLoaded (rs := fun a => a == Reg.LNK.BUNDLE_STATUS) ((LaneMove.refl.setFld (by decide)).zvl) (by decide)
  have hz : z.eqLoaded = y.eqLoaded := y.eqLoaded_bundleLost (l := 17) (by decide)
  have hw : (y.setFlag Reg.LNK.SUMMARY_RX_BUNDLE_UP true).eqLoaded = y.eqLoaded := y.eqLoaded_setSummary (l := 17) (by decide)
  have hdown : ∀ (w : Device) b a, (w.countDown b a).eqLoaded = w.eqLoaded := fun w b a =>
    LaneMove.eqLoaded (rs := fun _ => false) LaneMove.refl.countDown rfl
  clear_value y z
  split
  · split
    · exact (hdown _ _ _).trans (hz.trans hy)
    · exact hy
  · split
    · exact hy
    · exact (hdown _ _ _).trans (hw.trans hy)

theorem Device.eqLoaded_removeLane (d : Device) (b : Bool) (hl : l ≠ 18) : (d.removeLane l b).eqLoaded = d.eqLoaded := by
  have hrest : ∀ x : Device, ((x.setActive l false).restLane l b).eqLoaded = x.eqLoaded := fun x =>
    (Device.eqLoaded_restLane _ l b).trans (x.eqLoaded_setSummary hl)
  unfold Device.removeLane
  extract_lets x
  split
  · exact d.eqLoaded_restLane l b
  · split
    · exact (Device.eqLoaded_rxBundle _).trans (hrest d)
    · split
      · exact (Device.eqLoaded_txDown _).trans (hrest x)
      · rfl

theorem Device.eqLoaded_refreshLane (d : Device) (hl : l ≠ 18) : (d.refreshLane l).eqLoaded = d.eqLoaded := by
  unfold Device.refreshLane
  split
  · split
    · exact (LaneMove.refl.startAttempt (laneStatusReg_status l)).eqLoaded (by decide)
    · split <;> rfl
  · split
    · rfl
    · exact d.eqLoaded_removeLane false hl

theorem Device.eqLoaded_nextRetrain (d : Device) (h : ∀ l ∈ d.lnk.retrain, l ≠ 18) : d.nextRetrain.eqLoaded = d.eqLoaded := by
  unfold Device.nextRetrain
  extract_lets left _ x
  have hleft : ∀ l ∈ left, l ≠ 18 := fun l hl => h l ((List.dropWhile_sublist _).subset hl)
  have hx : x.eqLoaded = d.eqLoaded := rfl
  clear_value x left
  split
  · exact hx
  · split
    · exact (Device.eqLoaded_removeLane x true (hleft _ (by simp))).trans hx
    · exact hx

theorem Device.presentLanes_lt (d : Device) : ∀ l ∈ d.presentLanes, l < 10 := by
  intro l hl
  have ht : d.part.txLanes ≤ 8 := by cases d.part <;> decide
  simp only [Device.presentLanes, List.mem_append, List.mem_range, List.mem_cons, List.not_mem_nil, or_false] at hl
  omega

/-- The table takes its image, which is loaded and not rejected. -/
def Device.eqInForce (d : Device) (ws : List W64) : Device :=
  let d : Device := { d with lnk := { d.lnk with eq := SMap.setAll (fun _ => 0) [] 0 ws } }
  (d.setFlag Reg.LNK.SUMMARY_EQ_LOADED true).setFlag Reg.LNK.EQ_CTRL_REJECTED false

/-- The lanes take their entries from the table in force. -/
def Device.eqTaken (d : Device) (ws : List W64) : Device :=
  (d.eqInForce ws).presentLanes.foldl (fun (d : Device) l =>
    (d.setFld (Reg.LNK.LANE_CTRL_ENTRY l) ((ws.getD 17 0).toNat / 16 ^ l % 16)).setFlag (Reg.LNK.LANE_STATUS_BUILTIN l) false) (d.eqInForce ws)

theorem Device.eqTaken_move (d : Device) (ws : List W64) : LaneMove laneStatusReg (d.eqInForce ws) (d.eqTaken ws) :=
  LaneMove.refl.foldl _ fun _ l h =>
    (h.setFld (f := Reg.LNK.LANE_CTRL_ENTRY l) (decide_eq_true (show 0x18200 ≤ 0x18200 + 0x40 * l by omega))).setFlag (laneStatusReg_status l)

/-- The registers that lanes and bundles move. -/
def lanesReg (a : Nat) : Bool := laneStatusReg a || LaneMove.bundleReg a

/-- The lanes are evaluated anew, and those to retrain follow one another. -/
def Device.lanesRefreshed (d : Device) : Device := (d.presentLanes.foldl (fun (d : Device) l => d.refreshLane l) d).nextRetrain

theorem Device.lanesRefreshed_move (d : Device) : LaneMove lanesReg d d.lanesRefreshed := by
  have hb : ∀ a, LaneMove.bundleReg a = true → lanesReg a = true := fun a ha => by rw [lanesReg, ha, Bool.or_true]
  have hl : ∀ l, lanesReg (Reg.LNK.LANE_STATUS l) = true := fun l => by rw [lanesReg, laneStatusReg_status, Bool.true_or]
  exact (LaneMove.refl.foldl _ fun _ l h => h.refreshLane hb (hl l)).nextRetrain hb hl

theorem Device.eqLoaded_refreshLanes (ls : List Nat) (d : Device) (hls : ∀ l ∈ ls, l < 10) :
    (ls.foldl (fun (d : Device) l => d.refreshLane l) d).eqLoaded = d.eqLoaded := by
  induction ls generalizing d with
  | nil => rfl
  | cons l ls ih =>
    have hl : l ≠ 18 := (Nat.lt_trans (hls l List.mem_cons_self) (by decide)).ne
    exact (ih (d.refreshLane l) fun x hx => hls x (List.mem_cons_of_mem l hx)).trans (d.eqLoaded_refreshLane hl)

theorem Device.eqLoaded_lanesRefreshed (d : Device) (h : ∀ l ∈ d.lnk.retrain, l < 10) : d.lanesRefreshed.eqLoaded = d.eqLoaded := by
  have hm : LaneMove (fun _ => true) d (d.presentLanes.foldl (fun (d : Device) l => d.refreshLane l) d) :=
    LaneMove.refl.foldl _ fun _ l h => h.refreshLane (fun _ _ => rfl) rfl
  refine (Device.eqLoaded_nextRetrain _ fun l hl => ?_).trans (d.eqLoaded_refreshLanes _ d.presentLanes_lt)
  have := h l (hm.retrain hl)
  omega

/-- The lanes that a commit retrains (R398) are lanes of the part. -/
theorem Device.commitEq_ok {ws : List W64} (h : eqImageOk ws = true) :
    ∃ retrain : List Nat, (∀ l ∈ retrain, l < 10) ∧ d.commitEq ws =
      (let x := (d.eqTaken ws).raise .lnk 6
       Device.lanesRefreshed { x with lnk := { x.lnk with retrain := retrain } }) := by
  refine ⟨_, ?_, (if_pos h).trans rfl⟩
  intro l hl
  obtain ⟨b, hb, rfl⟩ := List.mem_map.mp hl
  obtain ⟨k, hk, rfl⟩ := List.mem_map.mp (List.mem_filter.mp hb).1
  exact d.presentLanes_lt k hk

theorem Effect.eqCommit : Effect .eqCommit s (s.dev.commitEq (s.dev.stagedImage .equalisation)) := rfl

theorem eqCommit_taken_completes (hq : s.dev.serviceRun = none) (hp : s.dev.pageOn .lnk = true)
    (hok : eqImageOk (s.dev.stagedImage .equalisation) = true) :
    Completes .eqCommit s fun d => d.flag Reg.LNK.SUMMARY_EQ_LOADED = true ∧ d.flag Reg.LNK.EQ_CTRL_REJECTED = false
      ∧ (d.sticky .lnk).getLsbD 6 = true ∧ d.lnk.eq = SMap.setAll (fun _ => 0) [] 0 (s.dev.stagedImage .equalisation) := by
  have hx := Effect.eqCommit (s := s)
  obtain ⟨retrain, hr, he⟩ := s.dev.commitEq_ok hok
  rw [he] at hx
  extract_lets x at hx
  have F : Frame [.lnk] (fun a => a == Reg.LNK.SUMMARY || a == Reg.LNK.EQ_CTRL) [] s.dev (s.dev.eqInForce (s.dev.stagedImage .equalisation)) :=
    ((Frame.refl.lnk (by decide)).setFlag (.inl (by decide))).setFlag (.inl (by decide))
  have ht := s.dev.eqTaken_move (s.dev.stagedImage .equalisation)
  have hxm : LaneMove laneStatusReg (s.dev.eqInForce (s.dev.stagedImage .equalisation)) x := ht.raise (by decide)
  have hon : (s.dev.eqTaken (s.dev.stagedImage .equalisation)).pageOn .lnk = true :=
    (ht.frame.pageOn (by decide) (by decide) (by decide) .lnk).trans ((F.pageOn (by decide) (by decide) (by decide) .lnk).trans hp)
  have hbit : (x.sticky .lnk).getLsbD 6 = true := Device.sticky_raise_self hon (by decide)
  have hq' : x.serviceRun = none :=
    (Device.serviceRun_congr ((hxm.frame.blocks .sta (by decide)).trans (F.blocks .sta (by decide)))).trans hq
  have hm := Device.lanesRefreshed_move { x with lnk := { x.lnk with retrain := retrain } }
  refine hm.completes hx hq' fun t hs => ⟨?_, ?_, ?_, ?_⟩
  · rw [hs.flag Reg.LNK.SUMMARY_EQ_LOADED rfl (by decide)]
    refine (Device.eqLoaded_lanesRefreshed _ hr).trans ((hxm.eqLoaded (by decide)).trans ?_)
    refine (Device.flag_setFlag_ne (by decide)).trans (Device.flag_setFlag_self _ _ _ (by decide) (by decide))
  · rw [hs.flag Reg.LNK.EQ_CTRL_REJECTED rfl (by decide), hm.frame.flag Reg.LNK.EQ_CTRL_REJECTED (by decide) (by decide)]
    exact (hxm.frame.flag Reg.LNK.EQ_CTRL_REJECTED (by decide) (by decide)).trans (Device.flag_setFlag_self _ _ _ (by decide) (by decide))
  · exact hs.kept .lnk (by decide) 6 (hm.bits .lnk 6 hbit)
  · rw [hs.lnk (by decide), hm.eq]
    exact hxm.eq

theorem eqCommit_rejected_completes (hq : s.dev.serviceRun = none) (hp : s.dev.pageOn .lnk = true)
    (hbad : eqImageOk (s.dev.stagedImage .equalisation) = false) :
    Completes .eqCommit s fun d => Leaves [] (regs [Reg.LNK.EQ_CTRL]) [.lnk] s.dev d ∧ d.flag Reg.LNK.EQ_CTRL_REJECTED = true
      ∧ (d.sticky .lnk).getLsbD 7 = true := by
  have hx := Effect.eqCommit (s := s)
  rw [Device.commitEq, if_neg (by simp [hbad])] at hx
  have F : Frame [.alarms] (fun a => regs [Reg.LNK.EQ_CTRL] a || a == Reg.HLT.SERVICE_LEVEL || a == Reg.SEC.SUMMARY) [.lnk]
      s.dev (s.dev.setFlag Reg.LNK.EQ_CTRL_REJECTED true) := Frame.refl.setFlag (.inl (by decide))
  refine hx.completes [] (regs [Reg.LNK.EQ_CTRL]) [.lnk] hq (by decide) (F.raise (.inl (by decide)))
    fun t hs hl => ⟨hl, ?_, hs.kept .lnk (by decide) 7 (F.raised (by decide) (by decide) (by decide) hp (by decide))⟩
  rw [hs.flag Reg.LNK.EQ_CTRL_REJECTED rfl (by decide), Device.flag_raise (by decide)]
  exact Device.flag_setFlag_self _ _ _ (by decide) (by decide)

theorem effect_eqSave (h1 : s.dev.flag Reg.LNK.EQ_CTRL_SAVE_BUSY = false) (h2 : s.dev.eqLoaded = true) :
    Effect .eqSave s ((s.dev.setFlag Reg.LNK.EQ_CTRL_SAVE_BUSY true).store
      { page := 48, words := (List.range 19).map fun k => (k, (s.dev.eqWord k).toNat), owner := .eqSave }) :=
  Effect.of_run (show execEqSave s = run _ s from rfl) (if_neg (by simp [h1, h2]))

/-! ### Retention and data frames (R415, R416, R437, R438) -/

theorem effect_ackTimeout (h1 : s.dev.flag Reg.LNK.CTRL_ACK_EN = true) (h2 : s.dev.lnk.frames ≠ []) (h3 : s.dev.flag Reg.LNK.SUMMARY_TX_BUNDLE_UP = true) :
    Effect .ackTimeout s (((s.dev.waitUntil (s.dev.lnk.advanced + s.dev.ackTimeout)).startResend.count Reg.LNK.CNT_ACK_TIMEOUT).raise .lnk 5) :=
  Effect.of_run (show execAckTimeout s = run _ s from rfl) (if_pos (by simp [h1, h2, h3]))

theorem effect_retainExpire {f : SentFrame} {rest : List SentFrame} {t : Nat} (hf : s.dev.lnk.frames = f :: rest) (ht : f.sentAt = some t)
    (ha : s.dev.flag Reg.LNK.CTRL_ACK_EN = false) :
    Effect .retainExpire s ((s.dev.waitUntil (t + Config.usCt * max 1 (s.dev.fld Reg.LNK.RETAIN_US))).releaseFrame f) := by
  refine Effect.of_run (show execRetainExpire s = run _ s from rfl) ?_
  simp only [hf, ht, ha, Bool.false_eq_true, if_false]

theorem effect_dataFrameSend {stream : Fin 2} (h1 : s.dev.flag Reg.LNK.SUMMARY_TX_BUNDLE_UP = true) (h2 : s.dev.lnk.sending = []) :
    Effect (.dataFrameSend stream) s (if stream.val = 0 then s.dev.sendRecords else s.dev.sendReadback) :=
  Effect.of_run (show execDataFrameSend stream s = run _ s from rfl) (if_pos (by simp [h1, h2]))

/-- Settles O22: each clause by the moves of the lane path after what its command does itself. -/
theorem lanePathAndRetention : Obligations.LanePathAndRetention := by
  unfold Obligations.LanePathAndRetention
  refine ⟨fun _ _ _ _ => Effect.codewordReceive,
    fun _ _ _ _ _ _ => codewordReceive_decoded_completes,
    fun _ _ _ _ => codewordReceive_failed_completes,
    fun s lane cause hq h3 hp => loseLane_completes (Effect.rxLossOfLock lane cause) hq h3 hp (by omega) (rxLossCode_lt cause),
    fun s lane cause hq h3 hp ho => ?_,
    fun s lane h3 hl => Device.loseLane_first h3 hl ▸ Effect.rxLossOfLock lane .pll,
    fun s lane h3 hl => Device.loseLane_first h3 hl ▸ Effect.txLossOfLock lane .driver,
    fun _ => effect_restripeDone,
    fun s h => Device.transmitSlot_within h ▸ Effect.codewordTransmit,
    fun _ => codewordTransmit_completes,
    fun _ => eqCommit_taken_completes,
    fun _ => eqCommit_rejected_completes,
    fun _ => effect_eqSave,
    fun _ => effect_ackTimeout,
    fun _ _ _ _ => effect_retainExpire,
    fun _ => effect_dataFrameSend,
    fun _ => effect_dataFrameSend⟩
  cases cause with
  | pll => exact txLossOfLock_completes hq h3 hp ho
  | driver => exact txLossOfLock_completes hq h3 hp ho
  | remote => exact txLossOfLock_completes hq h3 hp ho

end Sys2Proof.Machine
end

section
/-! PROOFS. The queues of the audit trail and of the health log, and the writes of their entries (O37). -/

namespace Sys2Proof.Machine

variable {d : Device} {s : State} {q q' : LogQ} {e : LogEntry} {rest : List LogEntry} {lost : Nat → LogEntry} {n : Nat}

/-! ### The queue of 16 (R512) -/

/-- With room and nothing lost before, the open entry joins the queue. -/
theorem LogQ.close_room (he : q.entry = some e) (h0 : q.lost = 0) (hr : q.queue.length < 16) :
    q.close lost = ({ q with entry := none, queue := q.queue ++ [e] }, 0) := by
  simp only [LogQ.close, he, LogQ.enqueue, h0, hr, Nat.lt_irrefl, decide_false, Bool.false_and, Bool.false_eq_true, if_false, if_true]

/-- With a full queue the open entry is lost. -/
theorem LogQ.close_full (he : q.entry = some e) (hr : 16 ≤ q.queue.length) : q.close lost = ({ q with entry := none, lost := q.lost + 1 }, 1) := by
  simp only [LogQ.close, he, LogQ.enqueue, Nat.not_lt.mpr hr, decide_false, Bool.and_false, Bool.false_eq_true, if_false]

theorem Effect.auditEntryClose (h : s.dev.sec.audit.close s.dev.auditLostEntry = (q, n)) :
    Effect .auditEntryClose s (Device.auditLost { s.dev with sec := { s.dev.sec with audit := q } } n) :=
  Effect.of_run (show execAuditEntryClose s = run _ s from rfl) (by simp only [h])

theorem Effect.auditEntryClose_kept (h : s.dev.sec.audit.close s.dev.auditLostEntry = (q, 0)) :
    Effect .auditEntryClose s { s.dev with sec := { s.dev.sec with audit := q } } := by
  have hx := Effect.auditEntryClose h
  rwa [Device.auditLost, if_pos rfl] at hx

theorem Effect.auditEntryClose_lost (h : s.dev.sec.audit.close s.dev.auditLostEntry = (q, n)) (hn : n ≠ 0) :
    Effect .auditEntryClose s ((Device.count { s.dev with sec := { s.dev.sec with audit := q } } Reg.SEC.CNT_AUDIT_LOST n).raise .sec 7) := by
  have hx := Effect.auditEntryClose h
  rwa [Device.auditLost, if_neg hn] at hx

theorem Effect.healthLogEntryClose_kept (h : s.dev.hlt.log.close s.dev.healthLost = (q, 0)) :
    Effect .healthLogEntryClose s { s.dev with hlt := { s.dev.hlt with log := q } } :=
  Effect.of_run (show execHealthLogEntryClose s = run _ s from rfl) (by simp only [h, if_true])

/-! ### The writes to the rings (R512, R569) -/

/-- The clock at which the next entry may be handed over: 10 ms after the last. -/
def Device.handTime (d : Device) (q : LogQ) : Device :=
  match q.last with
  | some t => d.waitUntil (t + 10 * Config.msCt)
  | none => d

theorem Device.handEntry_front {base size seq : Nat} {owner : StoreOwner} {put : Device → LogQ → Device} (hq : q.queue = e :: rest)
    (hw : q.writing = false) (hp : d.pageOn .nvs = true) :
    d.handEntry q base size seq owner put =
      (put (d.handTime q) { q with queue := rest, writing := true, last := some (d.handTime q).clock }).store
        { page := base + seq % size / 8, words := (e.finish seq).zipIdx.map fun x => (4 * (seq % 8) + x.2, x.1.toNat), owner := owner } := by
  simp only [Device.handEntry, hq, hw, hp, Bool.not_true, Bool.or_self, Bool.false_eq_true, if_false, logPlace]
  rfl

theorem Effect.auditWrite (hq : s.dev.sec.audit.queue = e :: rest) (hw : s.dev.sec.audit.writing = false) (hp : s.dev.pageOn .nvs = true) :
    Effect .auditWrite s
      (let d := s.dev.handTime s.dev.sec.audit
       let n := s.dev.fld Reg.SEC.AUDIT_HEAD_SEQ
       Device.store { d with sec := { d.sec with audit := { s.dev.sec.audit with queue := rest, writing := true, last := some d.clock } } }
         { page := 80 + n % 1024 / 8, words := (e.finish n).zipIdx.map fun x => (4 * (n % 8) + x.2, x.1.toNat), owner := .audit }) :=
  Effect.of_run (show execAuditWrite s = run _ s from rfl) (Device.handEntry_front hq hw hp)

theorem Effect.healthLogWrite (hq : s.dev.hlt.log.queue = e :: rest) (hw : s.dev.hlt.log.writing = false) (hp : s.dev.pageOn .nvs = true) :
    Effect .healthLogWrite s
      (let d := s.dev.handTime s.dev.hlt.log
       let n := s.dev.fld Reg.HLT.LOG_HEAD_SEQ
       Device.store { d with hlt := { d.hlt with log := { s.dev.hlt.log with queue := rest, writing := true, last := some d.clock } } }
         { page := 208 + n % 512 / 8, words := (e.finish n).zipIdx.map fun x => (4 * (n % 8) + x.2, x.1.toNat), owner := .healthLog }) :=
  Effect.of_run (show execHealthLogWrite s = run _ s from rfl) (Device.handEntry_front hq hw hp)

theorem Device.handTime_first (h : q.last = none) : d.handTime q = d := by rw [Device.handTime, h]
theorem Device.handTime_next {t : Nat} (h : q.last = some t) : d.handTime q = d.waitUntil (t + 10 * Config.msCt) := by rw [Device.handTime, h]

/-- Settles O37: the queue by its room, the writes by the time of the last. -/
theorem auditTrailAndHealthLog : Obligations.AuditTrailAndHealthLog := by
  unfold Obligations.AuditTrailAndHealthLog
  refine ⟨fun s e he h0 hr => Effect.auditEntryClose_kept (LogQ.close_room he h0 hr),
    fun s e he hr => Effect.auditEntryClose_lost (LogQ.close_full he hr) (by decide),
    fun s q n => Effect.auditEntryClose_lost,
    fun s e rest hq hw hp hl => ?_,
    fun s e rest t hq hw hp hl => ?_,
    fun s e he h0 hr => Effect.healthLogEntryClose_kept (LogQ.close_room he h0 hr),
    fun s e rest hq hw hp hl => ?_,
    fun s e rest t hq hw hp hl => ?_⟩
  · have hx := Effect.auditWrite hq hw hp
    rwa [Device.handTime_first hl] at hx
  · have hx := Effect.auditWrite hq hw hp
    rwa [Device.handTime_next hl] at hx
  · have hx := Effect.healthLogWrite hq hw hp
    rwa [Device.handTime_first hl] at hx
  · have hx := Effect.healthLogWrite hq hw hp
    rwa [Device.handTime_next hl] at hx

end Sys2Proof.Machine
end

section
/-! PROOFS. Authenticated writes, the lockout and the test port (O36). -/

namespace Sys2Proof.Machine

variable {bs : List Block} {rs : Nat → Bool} {ps : List Page} {d e : Device} {s : State} {route : AuthRoute} {reg : Route} {b : BitVec 256}

/-- The security block changes but for what the follow-up of a command may move. -/
theorem Frame.secOwn (h : Frame bs rs ps d e) {x : SecSt} (hb : Block.sec ∈ bs)
    (ha : x.alarms = e.sec.alarms ∧ x.erasing = e.sec.erasing ∧ x.lockedEntered = e.sec.lockedEntered) : Frame bs rs ps d { e with sec := x } :=
  h.silent rfl rfl rfl fun b h1 h2 => by
    cases b <;> first | exact h2 | exact absurd hb h1 | exact ⟨ha.1.trans h2.1, ha.2.1.trans h2.2.1, ha.2.2.trans h2.2.2⟩

/-- What of the security block nothing but its own commands moves. -/
theorem Device.sec_of_same (h : Block.sec.same d e) :
    e.sec.otp = d.sec.otp ∧ e.sec.failures = d.sec.failures ∧ e.sec.lockout = d.sec.lockout ∧ e.sec.keyProg = d.sec.keyProg := by
  have hs : e.sec = _ := h
  rw [hs]
  exact ⟨rfl, rfl, rfl, rfl⟩

theorem Device.flag_setFld_other (d : Device) (f g : Fld) (v : Nat)
    (h : g.addr ≠ f.addr ∨ (g.lsb + g.width ≤ 32 ∧ (g.lsb + g.width ≤ f.lsb ∨ f.lsb + f.width ≤ g.lsb))) : (d.setFld f v).flag g = d.flag g := by
  rw [Device.flag, Device.flag, Device.fld_setFld_other d f g v h]

/-! ### The checks and their outcomes (R448, R508) -/

/-- A route of a page that is disabled is answered before any other check. -/
theorem Device.authCheck_disabled (hr : route ≠ .link) (h : d.enabled .sec = false) : d.authCheck route b = some 7 := by
  cases route with
  | link => exact absurd rfl hr
  | register reg => simp only [Device.authCheck, h, Bool.not_false, if_true]
  | testPort => simp only [Device.authCheck, h, Bool.not_false, if_true]

theorem Device.authSubmit_disabled (h : d.authCheck route b = some 7) : d.authSubmit route b = d.authResult route (authTag b) 7 := by
  simp only [Device.authSubmit, h]

theorem Device.authSubmit_macFails (h : d.authCheck route b = some 4) :
    d.authSubmit route b = (d.authFailed route b false true).authResult route (authTag b) 4 := by
  simp only [Device.authSubmit, h]

/-- The authenticated write that a block asks for. -/
def authWorkOf (route : AuthRoute) (b : BitVec 256) : AuthWork :=
  { route := route, slot := authSlot b, ctr := authCtr b, addr := authAddr b, data := authData b, tag := authTag b }

/-- The commit of a block's counter. -/
def counterWrite (b : BitVec 256) : StoreWrite :=
  { page := 33 + authSlot b, words := [(Reg.ZVL.AUTH_CTR (authSlot b), (authCtr b).toNat)], owner := .authCounter (authSlot b) }

theorem Device.authSubmit_register (h : d.authCheck (.register reg) b = none) :
    d.authSubmit (.register reg) b =
      Device.store { (d.setFlag Reg.SEC.AW_CTRL_BUSY true) with
        sec := { (d.setFlag Reg.SEC.AW_CTRL_BUSY true).sec with auth := (d.setFlag Reg.SEC.AW_CTRL_BUSY true).sec.auth ++ [authWorkOf (.register reg) b] } }
        (counterWrite b) := by
  simp only [Device.authSubmit, h]
  rfl

theorem Device.authSubmit_testPort (h : d.authCheck .testPort b = none) :
    d.authSubmit .testPort b =
      Device.store { d with sec := { d.sec with portBusy := true, auth := d.sec.auth ++ [authWorkOf .testPort b] } } (counterWrite b) := by
  simp only [Device.authSubmit, h]
  rfl

/-! ### Failures and the lockout -/

/-- A MAC that fails is counted, audited and alarmed. -/
def Device.macFailed (d : Device) (route : AuthRoute) (b : BitVec 256) : Device :=
  let d := ((d.count Reg.SEC.CNT_AUTH_FAIL).count Reg.ZVL.CNT_AUTH_FAIL).raise .zvl 4
  (d.audit 0x02 route.code (d.alarmPolicy 1) (authSlot b) (authAddr b).toNat (authCtr b)).alarm 1

theorem Frame.macFailed : Frame [.alarms] (fun a => a == Reg.SEC.CNT_AUTH_FAIL || a == Reg.ZVL.CNT_AUTH_FAIL) [.zvl] d (d.macFailed route b) :=
  ((((Frame.refl.count (.inl (by decide))).count (.inl (by decide))).raise (.inl (by decide))).audit).alarm (by decide)

/-- The failures within the last second. -/
def Device.recentFailures (d : Device) : List Nat := d.sec.failures.filter fun t => d.clock < t + Config.secondCt

theorem Device.recentFailures_macFailed : (d.macFailed route b).recentFailures = d.recentFailures := by
  obtain ⟨-, hf, -, -⟩ := Device.sec_of_same (Frame.macFailed (d := d) (route := route) (b := b) |>.blocks .sec (by decide))
  have hc : (d.macFailed route b).clock = d.clock := Frame.macFailed.blocks .clock (by decide)
  rw [Device.recentFailures, Device.recentFailures, hf, hc]

/-- A failure with fewer than seven before it within a second is noted. -/
theorem Device.authFailed_noted (h : d.recentFailures.length < 7) :
    d.authFailed route b false true =
      (let d := d.macFailed route b
       { d with sec := { d.sec with failures := (d.sec.failures.filter fun t => d.clock < t + Config.secondCt) ++ [d.clock] } }) := by
  rw [← Device.recentFailures_macFailed (route := route) (b := b)] at h
  have hlen : ((d.macFailed route b).recentFailures ++ [(d.macFailed route b).clock]).length < 8 := by
    rw [List.length_append, List.length_singleton]; omega
  exact if_pos hlen

/-- The eighth failure within a second begins the lockout. -/
theorem Device.authFailed_lockout (h : 7 ≤ d.recentFailures.length) :
    d.authFailed route b false true =
      (let d := d.macFailed route b
       let d : Device := { d with sec := { d.sec with failures := [], lockout := some (d.clock + 10 * Config.secondCt) } }
       let d := (d.setFlag Reg.ZVL.SUMMARY_LOCKOUT true).raise .zvl 6
       (d.audit 0x0A route.code (d.alarmPolicy 2) 0 0 0).alarm 2) := by
  rw [← Device.recentFailures_macFailed (route := route) (b := b)] at h
  have hlen : ¬ ((d.macFailed route b).recentFailures ++ [(d.macFailed route b).clock]).length < 8 := by
    rw [List.length_append, List.length_singleton]; omega
  exact if_neg hlen

/-! ### The commands -/

theorem Effect.authWriteSubmit (hp : s.dev.pageOn .sec = true) (hb : s.dev.flag Reg.SEC.AW_CTRL_BUSY = false) :
    Effect (.authWriteSubmit reg) s (s.dev.authSubmit (.register reg) s.dev.awBlock) :=
  Effect.of_run (show execAuthWriteSubmit reg s = run _ s from rfl) (if_pos (by simp [hp, hb]))

theorem authWriteSubmit_disabled_completes (hq : s.dev.serviceRun = none) (hp : s.dev.pageOn .sec = true) (hb : s.dev.flag Reg.SEC.AW_CTRL_BUSY = false)
    (he : s.dev.enabled .sec = false) :
    Completes (.authWriteSubmit reg) s fun d => Leaves [] (regs [Reg.SEC.AW_CTRL]) [] s.dev d
      ∧ d.flag Reg.SEC.AW_CTRL_BUSY = false ∧ d.fld Reg.SEC.AW_CTRL_STATUS = 7 := by
  have hx := Effect.authWriteSubmit (reg := reg) hp hb
  rw [Device.authSubmit_disabled (Device.authCheck_disabled (fun h => by cases h) he)] at hx
  refine hx.completes [] (regs [Reg.SEC.AW_CTRL]) [] hq (by decide) ((Frame.refl.setFlag (.inl (by decide))).setFld (.inl (by decide)))
    fun t hs hl => ⟨hl, ?_, ?_⟩
  · rw [hs.flag Reg.SEC.AW_CTRL_BUSY rfl (by decide)]
    exact (Device.flag_setFld_other _ Reg.SEC.AW_CTRL_STATUS Reg.SEC.AW_CTRL_BUSY _ (.inr (by decide))).trans
      (Device.flag_setFlag_self _ _ _ (by decide) (by decide))
  · exact (hs.fld Reg.SEC.AW_CTRL_STATUS rfl (by decide)).trans (Device.fld_setFld_self _ _ _ (by decide))

theorem authLockoutEnd_completes {t : Nat} (hq : s.dev.serviceRun = none) (hl : s.dev.sec.lockout = some t) :
    Completes .authLockoutEnd s fun d => Leaves [.clock, .tim, .sec] (regs [Reg.ZVL.SUMMARY]) [] s.dev d
      ∧ d.clock = max s.dev.clock t ∧ d.flag Reg.ZVL.SUMMARY_LOCKOUT = false ∧ d.sec.lockout = none := by
  have hx : Effect .authLockoutEnd s
      (Device.setFlag { s.dev.waitUntil t with sec := { (s.dev.waitUntil t).sec with lockout := none } } Reg.ZVL.SUMMARY_LOCKOUT false) :=
    Effect.of_run (show execAuthLockoutEnd s = run _ s from rfl) (by simp only [hl])
  refine hx.completes [.clock, .tim, .sec] (regs [Reg.ZVL.SUMMARY]) [] hq (by decide)
    (((Frame.refl.waitUntil (by decide) (by decide)).secOwn (by decide) (by exact ⟨rfl, rfl, rfl⟩)).setFlag (.inl (by decide)))
    fun t hs hl => ?_
  obtain ⟨-, -, hlockout, -⟩ := Device.sec_of_same (hs.block .sec (by decide) (by decide))
  refine ⟨hl, (hs.clock (by decide)).trans (Device.waitUntil_clock _ _), ?_, hlockout⟩
  rw [hs.flag Reg.ZVL.SUMMARY_LOCKOUT rfl (by decide)]
  exact Device.flag_setFlag_self _ _ _ (by decide) (by decide)

theorem Effect.testPortAuthCmd (hp : s.dev.pageOn .sec = true) (hb : s.dev.sec.portBusy = false) :
    Effect (.testPortAuthCmd b) s (s.dev.authSubmit .testPort b) :=
  Effect.of_run (show execTestPortAuthCmd b s = run _ s from rfl) (if_pos (by simp [hp, hb]))

theorem effect_testPortAuthCmd_busy (hb : s.dev.sec.portBusy = true) : Effect (.testPortAuthCmd b) s s.dev :=
  Effect.of_run (show execTestPortAuthCmd b s = run _ s from rfl) (if_neg (by simp [hb]))

theorem effect_testPortLockedInstruction (hp : s.dev.pageOn .sec = true) (ho : s.dev.debugOpen = false) :
    Effect .testPortLockedInstruction s ((s.dev.audit 0x0E 3 (s.dev.alarmPolicy 4) 0 0 0).alarm 4) :=
  Effect.of_run (show execTestPortLockedInstruction s = run _ s from rfl) (if_neg (by simp [hp, ho]))

theorem effect_testPortInstruction_open (ho : s.dev.debugOpen = true) : Effect .testPortLockedInstruction s s.dev :=
  Effect.of_run (show execTestPortLockedInstruction s = run _ s from rfl) (if_pos (by simp [ho]))

/-- Settles O36: the submission by the outcome of its checks. -/
theorem authenticatedWrites : Obligations.AuthenticatedWrites := by
  unfold Obligations.AuthenticatedWrites
  refine ⟨fun _ _ => authWriteSubmit_disabled_completes, fun s route hp hb hc hf => ?_, fun s route hp hb hc => ?_,
    fun s route recent hp hb hc hr hf => ?_, fun _ _ => authLockoutEnd_completes, fun s block hp hb he => ?_,
    fun s block hp hb hc => ?_, fun _ _ => effect_testPortAuthCmd_busy, fun _ => effect_testPortLockedInstruction,
    fun _ => effect_testPortInstruction_open⟩
  · have hx := Effect.authWriteSubmit (reg := route) hp hb
    rwa [Device.authSubmit_macFails hc, Device.authFailed_noted hf] at hx
  · exact Device.authSubmit_register hc ▸ Effect.authWriteSubmit hp hb
  · subst hr
    have hx := Effect.authWriteSubmit (reg := route) hp hb
    rwa [Device.authSubmit_macFails hc, Device.authFailed_lockout hf] at hx
  · have hc : s.dev.authCheck .testPort block = some 7 := Device.authCheck_disabled (fun h => by cases h) he
    have hx := Effect.testPortAuthCmd (b := block) hp hb
    rwa [Device.authSubmit_disabled hc] at hx
  · exact Device.authSubmit_testPort hc ▸ Effect.testPortAuthCmd hp hb

end Sys2Proof.Machine
end

section
/-! PROOFS. Marked writes, and the commands of the sealed domain (O34). -/

namespace Sys2Proof.Machine

variable {d e : Device} {s : State} {route : Route} {slot : Fin 4} {data : W32} {w : SealWork} {reason : Nat}

/-- A loop over a list keeps a frame that each of its steps keeps. -/
theorem Frame.foldl_mem {α : Type} {bs : List Block} {rs : Nat → Bool} {ps : List Page} {f : Device → α → Device} (l : List α) (h : Frame bs rs ps d e)
    (hf : ∀ e, ∀ x ∈ l, Frame bs rs ps d e → Frame bs rs ps d (f e x)) : Frame bs rs ps d (l.foldl f e) := by
  induction l generalizing e with
  | nil => exact h
  | cons x l ih => exact ih (hf e x List.mem_cons_self h) fun e y hy => hf e y (List.mem_cons_of_mem x hy)

/-! ### Writes with the authenticated mark (R494) -/

theorem Device.writeRwa_unseal {r k : Nat} (hp : d.pageOn .sea0 = true) : d.writeRwa r (some k) Reg.SEA0.UNSEAL data = d.writeUnseal r k data :=
  (if_neg (by simp [show ¬ Reg.SEA0.UNSEAL < 0x1800000 by decide, hp])).trans (if_pos rfl)

theorem Device.writeRwa_keyRevoke {r k : Nat} (hp : d.pageOn .sec = true) : d.writeRwa r (some k) Reg.SEC.KEY_REVOKE data = d.revokeKeys r data :=
  (if_neg (by simp [show Reg.SEC.KEY_REVOKE < 0x1800000 by decide, hp])).trans rfl

theorem Device.writeRwa_debugUnlock {r k : Nat} (hp : d.pageOn .sec = true) : d.writeRwa r (some k) Reg.SEC.DEBUG_UNLOCK data = d.writeDebugUnlock k data :=
  (if_neg (by simp [show Reg.SEC.DEBUG_UNLOCK < 0x1800000 by decide, hp])).trans rfl

/-! ### Seals and saves (R495, R496, R502) -/

theorem Device.requestSeal_begins {r : Nat} {key : BitVec 256} (h0 : d.sealReason true = 0) (hk : d.sealKey = some key) :
    d.requestSeal r = (d.setSealState 1).beginSeal .seal key r := by
  simp only [Device.requestSeal, hk, h0, if_true]

/-- A refused seal, with a usable key or without one. -/
theorem Device.requestSeal_refused {r : Nat} (h : d.sealReason true = reason) (h0 : reason ≠ 0) :
    d.requestSeal r = (d.showRefusal reason).audit 0x08 r 0 0 Reg.SEA0.CMD (BitVec.ofNat 32 reason) := by
  unfold Device.requestSeal
  split
  · simp only [h, h0, if_false]
  · rw [h]

/-- The first reason of R495: the page is disabled. -/
theorem Device.sealReason_disabled {isSeal : Bool} (h : d.enabled .sea0 = false) : d.sealReason isSeal = 4 := by
  simp only [Device.sealReason, h, Bool.not_false, if_true]

/-- The second: the domain is not UNSEALED. -/
theorem Device.sealReason_sealed {isSeal : Bool} (he : d.enabled .sea0 = true) (hu : d.unsealed = false) : d.sealReason isSeal = 6 := by
  simp only [Device.sealReason, he, hu, Bool.not_true, Bool.not_false, Bool.false_eq_true, if_false, if_true]

theorem Effect.sealCommand (hp : s.dev.pageOn .sea0 = true) : Effect (.sealCommand route) s (s.dev.requestSeal (routeCode route)) :=
  Effect.of_run (show execSealCommand route s = run _ s from rfl) (if_pos hp)

theorem Effect.sealSave (hp : s.dev.pageOn .sea0 = true) : Effect .sealSave s s.dev.requestSave :=
  Effect.of_run (show execSealSave s = run _ s from rfl) (if_pos hp)

theorem sealSave_refused_completes (hq : s.dev.serviceRun = none) (hp : s.dev.pageOn .sea0 = true) (he : s.dev.enabled .sea0 = true)
    (hu : s.dev.unsealed = false) :
    Completes .sealSave s fun d => Leaves [] (regs [Reg.SEA0.STATUS]) [.sea0] s.dev d
      ∧ d.fld Reg.SEA0.STATUS_REFUSE_REASON = 6 ∧ (d.sticky .sea0).getLsbD 4 = true := by
  have hx := Effect.sealSave hp
  rw [Device.requestSave, Device.sealReason_sealed he hu, if_neg (by decide)] at hx
  have F : Frame [.alarms] (fun a => regs [Reg.SEA0.STATUS] a || a == Reg.HLT.SERVICE_LEVEL || a == Reg.SEC.SUMMARY) [.sea0]
      s.dev (s.dev.setFld Reg.SEA0.STATUS_REFUSE_REASON 6) := Frame.refl.setFld (.inl (by decide))
  refine hx.completes [] (regs [Reg.SEA0.STATUS]) [.sea0] hq (by decide) (F.raise (.inl (by decide)))
    fun t hs hl => ⟨hl, ?_, hs.kept .sea0 (by decide) 4 (F.raised (by decide) (by decide) (by decide) hp (by decide))⟩
  rw [hs.fld Reg.SEA0.STATUS_REFUSE_REASON rfl (by decide), Device.fld_raise (by decide)]
  exact Device.fld_setFld_self _ _ _ (by decide)

/-! ### A seal that is complete (R496) -/

/-- What a complete seal shows. -/
def Device.sealShown (d : Device) (w : SealWork) : Device :=
  ((((((d.endWork.setSealState 2).setWord Reg.SEA0.COUNTER w.counter).showMac w.mac).showAct w.frame).count Reg.SEA0.CNT_SEALS).raise .sea0 0)

/-- The registers that a complete seal shows. -/
def sealShownReg (a : Nat) : Bool :=
  regs [Reg.SEA0.STATUS, Reg.SEA0.SUMMARY, Reg.SEA0.COUNTER, Reg.SEA0.ACT_FRAME_LO, Reg.SEA0.CNT_SEALS] a
    || decide (Reg.SEA0.MAC 0 ≤ a) && decide (a ≤ Reg.SEA0.MAC 7)

theorem Frame.endWork {bs : List Block} {rs : Nat → Bool} {ps : List Page} (h : Frame bs rs ps d e) (hb : Block.sea ∈ bs)
    (hr : rs Reg.SEA0.STATUS = true) : Frame bs rs ps d e.endWork := (h.sea hb).setFlag (.inl hr)

theorem Frame.showMac {bs : List Block} {rs : Nat → Bool} {ps : List Page} (h : Frame bs rs ps d e) {mac : BitVec 256}
    (hr : ∀ k, k < 8 → rs (Reg.SEA0.MAC k) = true) : Frame bs rs ps d (e.showMac mac) :=
  h.foldl_mem (List.range 8) fun _ k hk hx => hx.setWord (.inl (hr k (List.mem_range.mp hk)))

theorem Device.sealShown_frame (d : Device) (w : SealWork) : Frame [.sea] sealShownReg [.sea0] d (d.sealShown w) := by
  have hm : ∀ k, k < 8 → sealShownReg (Reg.SEA0.MAC k) = true := by decide
  have h1 : Frame [.sea] sealShownReg [.sea0] d (d.endWork.setSealState 2) :=
    ((Frame.refl.endWork (by decide) (by decide)).setFld (.inl (by decide))).setFld (.inl (by decide))
  have h2 := (h1.setWord (a := Reg.SEA0.COUNTER) (w := w.counter) (.inl (by decide))).showMac (mac := w.mac) hm
  exact (((h2.sea (by decide)).setWord (.inl (by decide))).count (.inl (by decide))).raise (.inl (by decide))

theorem Device.sealComplete_seal (hw : w.kind = .seal) :
    d.sealComplete w = ((d.sealShown w).audit 0x05 w.route 0 (d.fld Reg.SEA0.POLICY_SEAL_KEY) 0 0).emitSeal (w.record 1) := by
  have hkey : (d.sealShown w).fld Reg.SEA0.POLICY_SEAL_KEY = d.fld Reg.SEA0.POLICY_SEAL_KEY :=
    (d.sealShown_frame w).fld Reg.SEA0.POLICY_SEAL_KEY (by decide) (by decide)
  rw [← hkey]
  exact congrArg (fun k => ((d.sealShown w).audit k w.route 0 ((d.sealShown w).fld Reg.SEA0.POLICY_SEAL_KEY) 0 0).emitSeal (w.record 1))
    (if_neg (by simp [hw]))

theorem Effect.sealComplete (hw : s.dev.sea.work = some w) (hk : w.kind = .seal) (hd : w.phase = .done) :
    Effect .sealComplete s (s.dev.sealComplete w) :=
  Effect.of_run (show execSealComplete s = run _ s from rfl) (by simp only [hw, hk, hd])

theorem effect_resealComplete (hw : s.dev.sea.work = some w) (hk : w.kind = .reseal) (hd : w.phase = .done) :
    Effect .sealComplete s (((s.dev.sealComplete w).raise .sta1 7).resealOver false) :=
  Effect.of_run (show execSealComplete s = run _ s from rfl) (by simp only [hw, hk, hd])

/-! ### Unseals (R500, R516) -/

/-- Nothing but the counter stands against an unseal. -/
structure UnsealReady (d : Device) : Prop where
  enabled : d.enabled .sea0 = true
  isSealed : d.fld Reg.SEA0.STATUS_STATE = 2
  idle : d.sea.work = none
  closed : d.sea.window = false
  stored : d.flag Reg.SEA0.STATUS_STORE_BUSY = false

theorem Device.writeUnseal_of_ready {r k : Nat} (h : UnsealReady d) :
    d.writeUnseal r k data = if data ≠ d.word Reg.SEA0.COUNTER then d.refuseUnseal r k 5 data else d.beginUnseal .unseal k r := by
  simp only [Device.writeUnseal, h.enabled, h.isSealed, h.idle, h.closed, h.stored, Bool.not_true, Bool.false_eq_true, if_false, ne_eq,
    not_true_eq_false, Option.isSome_none, Bool.or_self]

theorem Effect.unseal (hp : s.dev.pageOn .sea0 = true) :
    Effect (.unseal route slot data) s (Device.writeUnseal { s.dev with wrRefused := false } (routeCode route) slot.val data) :=
  Effect.of_run (show execUnseal route slot data s = run _ s from rfl) (Device.writeRwa_unseal (d := { s.dev with wrRefused := false }) hp)

theorem UnsealReady.notRefused (h : UnsealReady d) : UnsealReady { d with wrRefused := false } :=
  ⟨h.enabled, h.isSealed, h.idle, h.closed, h.stored⟩

theorem effect_unseal_begins (hp : s.dev.pageOn .sea0 = true) (h : UnsealReady s.dev) (hc : data = s.dev.word Reg.SEA0.COUNTER) :
    Effect (.unseal route slot data) s (Device.beginUnseal { s.dev with wrRefused := false } .unseal slot.val (routeCode route)) :=
  ((Device.writeUnseal_of_ready h.notRefused).trans (if_neg (not_not.mpr hc))) ▸ Effect.unseal hp

theorem effect_unseal_refused (hp : s.dev.pageOn .sea0 = true) (h : UnsealReady s.dev) (hc : data ≠ s.dev.word Reg.SEA0.COUNTER) :
    Effect (.unseal route slot data) s (Device.refuseUnseal { s.dev with wrRefused := false } (routeCode route) slot.val 5 data) :=
  ((Device.writeUnseal_of_ready h.notRefused).trans (if_pos hc)) ▸ Effect.unseal hp

theorem Effect.unsealComplete (hw : s.dev.sea.work = some w) (hk : w.kind = .unseal ∨ w.kind = .erase) (hd : w.phase = .done) :
    Effect .unsealComplete s (s.dev.unsealComplete w) := by
  refine Effect.of_run (show execUnsealComplete s = run _ s from rfl) ?_
  rcases hk with hk | hk <;> simp only [hw, hk, hd]

theorem Device.unsealComplete_unseal (hk : w.kind = .unseal) :
    d.unsealComplete w =
      ((((((d.endWork.setSealState 0).showAct w.frame).raise .sea0 1).audit 0x06 w.route 0 w.keySlot 0 0).emitSeal (w.record 2)).writeSlog (w.record 2)) :=
  if_neg (by simp [hk])

theorem Device.unsealComplete_erase (hk : w.kind = .erase) :
    d.unsealComplete w =
      ((((((d.endWork.setSealState 0).showAct w.frame).raise .sea0 1).audit 0x06 w.route 0 w.keySlot 0 0).emitSeal (w.record 2)).writeSlog
        (w.record 2)).erasureEnds :=
  if_pos hk

/-! ### Trims (R490) -/

theorem effect_trimRefresh {ups : List Pix} {cfg : Nat} (hp : s.dev.pageOn .sea1 = true) (h0 : s.dev.fld Reg.SEA1.TRIM_REFRESH_SECONDS ≠ 0) :
    Effect (.trimRefresh ups cfg) s (s.dev.refreshTrims (ups.map fun p => pixNo p) cfg) :=
  Effect.of_run (show execTrimRefresh ups cfg s = run _ s from rfl) (if_neg (by simp [hp, h0]))

/-- Settles O34: the seal by its reason, the unseal by its counter, the ends by the kind of work. -/
theorem sealCommands : Obligations.SealCommands := by
  unfold Obligations.SealCommands
  refine ⟨fun s route key hp h0 hk => Device.requestSeal_begins h0 hk ▸ Effect.sealCommand hp,
    fun s route reason hp hr h0 => Device.requestSeal_refused hr h0 ▸ Effect.sealCommand hp,
    fun s route hp he => Device.requestSeal_refused (Device.sealReason_disabled he) (by decide) ▸ Effect.sealCommand hp,
    fun s hp h0 => ?_,
    fun _ => sealSave_refused_completes,
    fun s w hw hk hd => Device.sealComplete_seal hk ▸ Effect.sealComplete hw hk hd,
    fun _ _ => effect_resealComplete,
    fun s route slot data hp he h2 hw hn hb hc => effect_unseal_begins hp ⟨he, h2, hw, hn, hb⟩ hc,
    fun s route slot data hp he h2 hw hn hb hc => effect_unseal_refused hp ⟨he, h2, hw, hn, hb⟩ hc,
    fun s w hw hk hd => Device.unsealComplete_unseal hk ▸ Effect.unsealComplete hw (.inl hk) hd,
    fun s w hw hk hd => Device.unsealComplete_erase hk ▸ Effect.unsealComplete hw (.inr hk) hd,
    fun _ _ _ => effect_trimRefresh⟩
  have hx := Effect.sealSave hp
  rwa [Device.requestSave, h0, if_pos rfl] at hx

end Sys2Proof.Machine
end

section
/-! PROOFS. Keys and erasure (O35). -/

namespace Sys2Proof.Machine

variable {d e : Device} {s : State} {route : Route} {slot : Fin 4} {data : W32} {k : Nat} {use : BitVec 3} {key : BitVec 256}

/-! ### Programming (R505) -/

/-- Nothing of R505 stands against the programming of the slot. -/
structure KeyFree (d : Device) : Prop where
  s0 : d.fld Reg.HLT.SERVICE_LEVEL_LEVEL = 0
  empty : (d.keySlot (d.fld Reg.SEC.KEY_PROG_SLOT)).programmed = false
  used : d.fld Reg.SEC.KEY_PROG_USAGE ≠ 0
  enabled : d.enabled .sec = true
  unlocked : d.flag Reg.SEC.SUMMARY_LOCKED = false
  kept : d.flag Reg.SEC.SUMMARY_ERASED = false

theorem Device.requestKey_begins (hn : d.sec.keyProg = none) (h : KeyFree d) :
    d.requestKey =
      (let e := (d.setFlag Reg.SEC.KEY_PROG_FAIL false).setFlag Reg.SEC.KEY_PROG_GO true
       { e with sec := { e.sec with keyProg := some (d.fld Reg.SEC.KEY_PROG_SLOT, BitVec.ofNat 3 (d.fld Reg.SEC.KEY_PROG_USAGE),
           BitVec.ofNat 256 (((List.range 8).map fun i => (d.word (Reg.SEC.KEY_DATA i)).toNat * 2 ^ (32 * i)).sum)) } }) := by
  simp only [Device.requestKey, hn, h.s0, h.empty, h.used, h.enabled, h.unlocked, h.kept, Option.isSome_none, bne_self_eq_false, decide_false,
    Bool.not_true, Bool.or_self, Bool.false_eq_true, if_false]

/-- Above S0 programming is refused. -/
theorem Device.requestKey_refused (hn : d.sec.keyProg = none) (h0 : d.fld Reg.HLT.SERVICE_LEVEL_LEVEL ≠ 0) :
    d.requestKey = d.setFlag Reg.SEC.KEY_PROG_FAIL true := by
  simp only [Device.requestKey, hn, Option.isSome_none, Bool.false_eq_true, if_false, bne_iff_ne.mpr h0, Bool.true_or, if_true]

theorem Effect.keyProgram (hp : s.dev.pageOn .sec = true) : Effect .keyProgram s s.dev.requestKey :=
  Effect.of_run (show execKeyProgram s = run _ s from rfl) (if_pos hp)

theorem keyProgram_refused_completes (hq : s.dev.serviceRun = none) (hp : s.dev.pageOn .sec = true) (hn : s.dev.sec.keyProg = none)
    (h0 : s.dev.fld Reg.HLT.SERVICE_LEVEL_LEVEL ≠ 0) :
    Completes .keyProgram s fun d => Leaves [] (regs [Reg.SEC.KEY_PROG]) [] s.dev d ∧ d.flag Reg.SEC.KEY_PROG_FAIL = true ∧ d.sec.keyProg = none := by
  have hx := Effect.keyProgram hp
  rw [Device.requestKey_refused hn h0] at hx
  refine hx.completes [] (regs [Reg.SEC.KEY_PROG]) [] hq (by decide) (Frame.refl.setFlag (.inl (by decide))) fun t hs hl => ?_
  obtain ⟨-, -, -, hprog⟩ := Device.sec_of_same (hl.block .sec (by decide) (by decide))
  refine ⟨hl, ?_, hprog.trans hn⟩
  rw [hs.flag Reg.SEC.KEY_PROG_FAIL rfl (by decide)]
  exact Device.flag_setFlag_self _ _ _ (by decide) (by decide)

theorem effect_keyProgramDone (h : s.dev.sec.keyProg = some (k, use, key)) :
    Effect (.keyProgramDone true) s
      (let d := (Device.setFlag { s.dev with sec := { s.dev.sec with keyProg := none } } Reg.SEC.KEY_PROG_GO false).setKey k
          { key := key, programmed := true, revoked := false, usage := use }
       ((d.setFlag Reg.SEC.SUMMARY_DEBUG_OPEN d.debugOpen).raise .sec 5 k).audit 0x0B 3 0 k 0 0) :=
  Effect.of_run (show execKeyProgramDone true s = run _ s from rfl) (by simp only [Device.keyProgrammed, h, if_true])

theorem keyProgramDone_failed_completes (hq : s.dev.serviceRun = none) (h : s.dev.sec.keyProg = some (k, use, key)) :
    Completes (.keyProgramDone false) s fun d => Leaves [.sec] (regs [Reg.SEC.KEY_PROG]) [.sec] s.dev d
      ∧ d.flag Reg.SEC.KEY_PROG_GO = false ∧ d.flag Reg.SEC.KEY_PROG_FAIL = true ∧ d.sec.keyProg = none ∧ d.sec.otp = s.dev.sec.otp := by
  have hx : Effect (.keyProgramDone false) s
      (((Device.setFlag { s.dev with sec := { s.dev.sec with keyProg := none } } Reg.SEC.KEY_PROG_GO false).setFlag Reg.SEC.KEY_PROG_FAIL true).raise .sec 5 k) :=
    Effect.of_run (show execKeyProgramDone false s = run _ s from rfl) (by simp only [Device.keyProgrammed, h, Bool.false_eq_true, if_false])
  refine hx.completes [.sec] (regs [Reg.SEC.KEY_PROG]) [.sec] hq (by decide)
    ((((Frame.refl.secOwn (by decide) (by exact ⟨rfl, rfl, rfl⟩)).setFlag (.inl (by decide))).setFlag (.inl (by decide))).raise (.inl (by decide)))
    fun t hs hl => ?_
  obtain ⟨hotp, -, -, hprog⟩ := Device.sec_of_same (hs.block .sec (by decide) (by decide))
  obtain ⟨rotp, -, -, rprog⟩ := Device.sec_of_same (Device.same_raise (d := Device.setFlag _ Reg.SEC.KEY_PROG_FAIL true) (p := .sec) (b := 5) (x := k) .sec)
  refine ⟨hl, ?_, ?_, hprog.trans rprog, hotp.trans rotp⟩
  · rw [hs.flag Reg.SEC.KEY_PROG_GO rfl (by decide), Device.flag_raise (by decide),
      Device.flag_setFlag_other _ Reg.SEC.KEY_PROG_FAIL Reg.SEC.KEY_PROG_GO _ (.inr (by decide))]
    exact Device.flag_setFlag_self _ _ _ (by decide) (by decide)
  · rw [hs.flag Reg.SEC.KEY_PROG_FAIL rfl (by decide), Device.flag_raise (by decide)]
    exact Device.flag_setFlag_self _ _ _ (by decide) (by decide)

/-! ### Revocation and DEBUG_UNLOCK (R506, R507, R520) -/

theorem Effect.keyRevoke (hp : s.dev.pageOn .sec = true) :
    Effect (.keyRevoke route slot data) s (Device.revokeKeys { s.dev with wrRefused := false } (routeCode route) data) :=
  Effect.of_run (show execKeyRevoke route slot data s = run _ s from rfl) (Device.writeRwa_keyRevoke (d := { s.dev with wrRefused := false }) hp)

/-- The mask 4 names slot 2 alone. -/
theorem Device.revokeKeys_four {r : Nat} :
    d.revokeKeys r 4 = ((d.setKey 2 { d.keySlot 2 with revoked := true }).raise .sec 5 2).audit 0x0B r 0 2 Reg.SEC.KEY_REVOKE 4 := by
  have hone : ((List.range 4).filter fun k => (4 : W32).getLsbD k) = [2] := by decide
  rw [Device.revokeKeys, hone]
  rfl

theorem Effect.debugUnlock (hp : s.dev.pageOn .sec = true) :
    Effect (.debugUnlock route slot data) s (Device.writeDebugUnlock { s.dev with wrRefused := false } slot.val data) :=
  Effect.of_run (show execDebugUnlock route slot data s = run _ s from rfl) (Device.writeRwa_debugUnlock (d := { s.dev with wrRefused := false }) hp)

theorem effect_debugUnlock_erases (hp : s.dev.pageOn .sec = true) (hk : (s.dev.keySlot slot.val).serves 2 = true)
    (hl : s.dev.flag Reg.SEC.SUMMARY_LOCKED = false) :
    Effect (.debugUnlock route slot 1) s { s.dev with wrRefused := false, sec := { s.dev.sec with erasing := true } } := by
  have hmay : (1 : W32) = 1 ∧ (s.dev.keySlot slot.val).serves 2 = true ∧ (!s.dev.flag Reg.SEC.SUMMARY_LOCKED) = true := ⟨rfl, hk, by rw [hl]; rfl⟩
  exact (show Device.writeDebugUnlock { s.dev with wrRefused := false } slot.val 1 = _ from if_pos hmay) ▸ Effect.debugUnlock hp

theorem effect_debugUnlock_refused (hp : s.dev.pageOn .sec = true)
    (h : data ≠ 1 ∨ (s.dev.keySlot slot.val).serves 2 = false ∨ s.dev.flag Reg.SEC.SUMMARY_LOCKED = true) :
    Effect (.debugUnlock route slot data) s { s.dev with wrRefused := true } := by
  have hnot : ¬ (data = 1 ∧ (s.dev.keySlot slot.val).serves 2 = true ∧ (!s.dev.flag Reg.SEC.SUMMARY_LOCKED) = true) := by
    rintro ⟨h1, h2, h3⟩
    simp_all
  exact (show Device.writeDebugUnlock { s.dev with wrRefused := false } slot.val data = _ from if_neg hnot) ▸ Effect.debugUnlock hp

/-! ### Erasure (R516) -/

/-- The keys are gone. -/
def Device.keysErased (d : Device) : Device :=
  (List.range 4).foldl (fun (d : Device) (k : Nat) => d.setKey k { d.keySlot k with key := BitVec.allOnes 256, revoked := true }) d

/-- And no service window is open. -/
def Device.keysGone (d : Device) : Device :=
  Device.setFlag { d.keysErased with sea := { d.keysErased.sea with window := false } } Reg.SEA0.STATUS_SVC_WINDOW false

theorem Frame.setKey {bs : List Block} {rs : Nat → Bool} {ps : List Page} (h : Frame bs rs ps d e) {x : KeySlot} (hb : Block.sec ∈ bs)
    (hr : rs (Reg.SEC.KEY_STATUS k) = true) : Frame bs rs ps d (e.setKey k x) :=
  Frame.setWord (h.secOwn (x := { e.sec with otp := { e.sec.otp with keys := SMap.set (fun _ => {}) e.sec.otp.keys k x } }) hb ⟨rfl, rfl, rfl⟩) (.inl hr)

theorem Frame.keysErased {bs : List Block} {rs : Nat → Bool} {ps : List Page} (h : Frame bs rs ps d e) (hb : Block.sec ∈ bs)
    (hr : ∀ k, k < 4 → rs (Reg.SEC.KEY_STATUS k) = true) : Frame bs rs ps d e.keysErased :=
  h.foldl_mem (List.range 4) fun _ k hk hx => hx.setKey hb (hr k (List.mem_range.mp hk))

/-- The registers that show the keys. -/
def keyStatusReg (a : Nat) : Bool := decide (Reg.SEC.KEY_STATUS 0 ≤ a) && decide (a < 0xC000)

theorem Device.keysErased_frame (d : Device) : Frame [.sec] keyStatusReg [] d d.keysErased := Frame.refl.keysErased (by decide) (by decide)

theorem Device.keysGone_frame (d : Device) : Frame [.sec, .sea] (fun a => keyStatusReg a || a == Reg.SEA0.STATUS) [] d d.keysGone :=
  ((Frame.refl.keysErased (by decide) (by decide)).sea (by decide)).setFlag (.inl (by decide))

/-- What shows the domain's power and its state is not among what an erasure moves. -/
theorem Device.keysGone_sealed (d : Device) :
    d.keysGone.domOn 2 = d.domOn 2 ∧ d.keysGone.fld Reg.SEA0.STATUS_STATE = d.fld Reg.SEA0.STATUS_STATE ∧ d.keysGone.sea.work = d.sea.work := by
  have hsea : d.keysErased.sea = d.sea := d.keysErased_frame.blocks .sea (by decide)
  refine ⟨d.keysGone_frame.domOn (by decide) (by decide) (by decide) 2, ?_, (congrArg SeaSt.work hsea :)⟩
  exact (Device.fld_setFld_other _ Reg.SEA0.STATUS_SVC_WINDOW Reg.SEA0.STATUS_STATE _ (.inr (by decide))).trans
    (d.keysErased_frame.fld Reg.SEA0.STATUS_STATE (by decide) (by decide))

/-- With no service and no work of the sealed domain the erasure ends, or first unseals. -/
theorem Device.erase_idle (hr : d.sta.run = none) (hw : d.sea.work = none) :
    d.erase = if d.domOn 2 && d.fld Reg.SEA0.STATUS_STATE = 2 then d.keysGone.beginUnseal .erase 0 3 else d.keysGone.erasureEnds := by
  have F := d.keysErased_frame
  have hrun : d.keysErased.sta.run = none := (congrArg StaSt.run (F.blocks .sta (by decide))).trans hr
  have hwork : d.keysErased.sea.work = none := (congrArg SeaSt.work (F.blocks .sea (by decide))).trans hw
  obtain ⟨hdom, hstate, hgone⟩ := d.keysGone_sealed
  rw [← hdom, ← hstate]
  unfold Device.erase
  extract_lets x reseal y _ z v
  have hreseal : reseal = false := by
    show (match d.keysErased.sta.run with | some r => _ | none => false) = false
    rw [hrun]
  have hy : y = d.keysErased := by
    show (match d.keysErased.sea.work with | some w => _ | none => d.keysErased) = d.keysErased
    rw [hwork]
  have hv : v = d.keysGone := by
    show (if reseal = true then z.endSeq 4 else z) = d.keysGone
    rw [hreseal, if_neg Bool.false_ne_true]
    exact congrArg (fun e : Device => Device.setFlag { e with sea := { e.sea with window := false } } Reg.SEA0.STATUS_SVC_WINDOW false) hy
  rw [hv, hgone, hw]

theorem Effect.erasureDone (h : s.dev.sec.erasing = true) : Effect .erasureDone s s.dev.erase :=
  Effect.of_run (show execErasureDone s = run _ s from rfl) (if_pos h)

/-- Settles O35: each command by what stands against it. -/
theorem keysAndErasure : Obligations.KeysAndErasure := by
  unfold Obligations.KeysAndErasure
  refine ⟨fun _ => keyProgram_refused_completes,
    fun s hp hn h0 he hu hen hl hk => Device.requestKey_begins hn ⟨h0, he, hu, hen, hl, hk⟩ ▸ Effect.keyProgram hp,
    fun _ _ _ _ => effect_keyProgramDone,
    fun _ _ _ _ => keyProgramDone_failed_completes,
    fun s route slot hp => Device.revokeKeys_four (d := { s.dev with wrRefused := false }) ▸ Effect.keyRevoke hp,
    fun _ _ _ _ => Effect.keyRevoke,
    fun _ _ _ => effect_debugUnlock_erases,
    fun _ _ _ _ => effect_debugUnlock_refused,
    fun s he hr hw h2 => ?_,
    fun s he hr hw h2 hs => ?_⟩
  · have hx := Effect.erasureDone he
    rwa [Device.erase_idle hr hw, h2, Bool.false_and, if_neg Bool.false_ne_true] at hx
  · have hx := Effect.erasureDone he
    rwa [Device.erase_idle hr hw, h2, hs, if_pos (by decide)] at hx

end Sys2Proof.Machine
end

section
/-! PROOFS. The page controls: ENABLE, drains, aborts and SOFT_RESET (O28). -/

namespace Sys2Proof.Machine

variable {bs : List Block} {rs : Nat → Bool} {ps : List Page} {d e : Device} {s : State} {p : Page} {a : Nat}

/-! ### Drains (R473, R421) -/

theorem Device.startDrain_of_work (h : ∀ n, p ≠ .conv n) : d.startDrain p = (d.onDisable p).showDrain p := by
  unfold Device.startDrain
  split
  case h_1 n => exact absurd rfl (h n)
  case h_2 => rfl

theorem Device.clearEnable_drains (hp : d.pageOn p = true) (he : d.flag (fEnable p) = true) (ha : (d.setFlag (fEnable p) false).flag (fAbort p) = false) :
    d.clearEnable p = (d.setFlag (fEnable p) false).startDrain p := by
  simp only [Device.clearEnable, hp, he, ha, Bool.not_true, Bool.or_self, Bool.false_eq_true, if_false]

theorem Effect.pageEnableClear (hp : s.dev.pageOn p = true) (he : s.dev.flag (fEnable p) = true)
    (ha : (s.dev.setFlag (fEnable p) false).flag (fAbort p) = false) :
    Effect (.pageEnableClear p) s (((s.dev.setFlag (fEnable p) false).startDrain p).kick) :=
  Effect.of_run (show execPageEnableClear p s = run _ s from rfl) (congrArg Device.kick (Device.clearEnable_drains hp he ha))

theorem effect_pageEnableSet (hp : s.dev.pageOn p = true) (he : s.dev.flag (fEnable p) = false) :
    Effect (.pageEnableSet p) s (((((s.dev.setFlag (fEnable p) true).setFlag (fIdle p) false).setFlag (fDraining p) false).onEnable p).kick) :=
  Effect.of_run (show execPageEnableSet p s = run _ s from rfl) (congrArg Device.kick (if_neg (by simp [hp, he])))

/-- The link's drain ends by its time, that of another page when its work is done. -/
theorem Effect.pageDrainDone (h : s.dev.flag (fDraining p) = true) :
    Effect (.pageDrainDone p) s
      ((match p with
        | .lnk => if s.dev.workLeft .lnk then s.dev.linkDrainEnds else s.dev
        | _ => s.dev).showDrain p) :=
  Effect.of_run (show execPageDrainDone p s = run _ s from rfl) ((if_neg (by simp [h])).trans rfl)

theorem effect_pageDrainDone (hl : p ≠ .lnk) (h : s.dev.flag (fDraining p) = true) :
    Effect (.pageDrainDone p) s ((s.dev.setFlag (fDraining p) (s.dev.workLeft p)).setFlag (fIdle p) (!s.dev.workLeft p)) := by
  have hx := Effect.pageDrainDone h
  split at hx
  · exact absurd rfl hl
  · exact hx

/-! ### Aborts (R474) -/

/-- The work of an aborted page is discarded, and it does not drain. -/
def Device.aborting (d : Device) (p : Page) : Device := ((d.discardWork p).setFlag (fAbort p) true).setFlag (fDraining p) false

theorem Device.setAbort_waits (hp : d.pageOn p = true) (h1 : p ≠ .hlt) (h2 : p ≠ .thm) (h3 : p ≠ .evc) : d.setAbort p = d.aborting p := by
  refine (if_neg (by simp [hp])).trans ?_
  split
  · exact absurd rfl h1
  · exact absurd rfl h2
  · exact absurd rfl h3
  · rfl

/-- A page that holds none of this kind of work has aborted at once. -/
theorem Device.setAbort_over (hp : d.pageOn p = true) (h : p = .hlt ∨ p = .thm ∨ p = .evc) : d.setAbort p = (d.aborting p).abortDone p := by
  refine (if_neg (by simp [hp])).trans ?_
  rcases h with rfl | rfl | rfl <;> rfl

theorem Effect.pageAbort (p : Page) : Effect (.pageAbort p) s (s.dev.setAbort p) := rfl

/-- What an abort's end does: the page takes work again or drains, and a SOFT_RESET that was held comes. -/
theorem Device.abortDone_over (ha : d.flag (fAbort p) = true) (hw : d.abortPending p = false) :
    d.abortDone p =
      (let x := (d.setFlag (fAbort p) false).setFlag (fSoft p) false
       let x := if x.flag (fEnable p) then x.takesAgain p else x.startDrain p
       if d.flag (fSoft p) then x.softReset p else x) :=
  if_neg (by simp [ha, hw])

theorem Effect.pageAbortDone (ha : s.dev.flag (fAbort p) = true) (hw : s.dev.abortPending p = false) :
    Effect (.pageAbortDone p) s
      (let x := (s.dev.setFlag (fAbort p) false).setFlag (fSoft p) false
       let x := if x.flag (fEnable p) then x.takesAgain p else x.startDrain p
       if s.dev.flag (fSoft p) then x.softReset p else x).kick :=
  Effect.of_run (show execPageAbortDone p s = run _ s from rfl) (congrArg Device.kick (Device.abortDone_over ha hw))

/-! ### SOFT_RESET (R475) -/

theorem Effect.pageSoftReset (hp : s.dev.pageOn p = true) :
    Effect (.pageSoftReset p) s (if s.dev.flag (fAbort p) then s.dev.setFlag (fSoft p) true else s.dev.softReset p) :=
  Effect.of_run (show execPageSoftReset p s = run _ s from rfl) (if_neg (by simp [hp]))

/-- A loop that clears registers leaves 0 in each of them, and in those that held it. -/
theorem Device.word_clearLoop {α : Type} {f : Device → α → Device} (l : List α) (hkeep : ∀ e x, e.word a = 0 → (f e x).word a = 0)
    (h : d.word a = 0 ∨ ∃ x ∈ l, ∀ e, (f e x).word a = 0) : (l.foldl f d).word a = 0 := by
  induction l generalizing d with
  | nil =>
    rcases h with h | ⟨_, hx, _⟩
    · exact h
    · cases hx
  | cons x l ih =>
    refine ih ?_
    rcases h with h | ⟨y, hy, hz⟩
    · exact .inl (hkeep d x h)
    · rcases List.mem_cons.mp hy with rfl | hy
      · exact .inl (hz d)
      · exact .inr ⟨y, hy, hz⟩

theorem Device.word_setWord_zero {b : Nat} (h : d.word a = 0) : (d.setWord b 0).word a = 0 := by
  by_cases hb : a = b
  · rw [hb, Device.word_setWord_self]
  · rw [Device.word_setWord_ne _ _ hb, h]

/-- A group of counters of a page is cleared: its first register, how many there are and how far apart. -/
def Device.clearGroup (p : Page) (d : Device) (c : Nat × Nat × Nat) : Device :=
  (List.range c.2.1).foldl (fun d k => d.setWord (pageBase p + c.1 + c.2.2 * k) 0) d

/-- The counters of a page are cleared. -/
def Device.countersCleared (d : Device) (p : Page) : Device := (pageCounters p).foldl (Device.clearGroup p) d

theorem Device.softReset_trg (d : Device) :
    d.softReset .trg =
      (let d := ((d.countersCleared .trg).setSticky .trg 0).setFlag (fFault .trg) false
       { d with trg := { d.trg with prescale := [], rearm := [] } }) := by
  simp only [Device.softReset, reduceCtorEq, if_false]
  rfl

theorem Device.word_countersCleared {c : Nat × Nat × Nat} {k : Nat} (d : Device) (hc : c ∈ pageCounters p) (hk : k < c.2.1) :
    (d.countersCleared p).word (pageBase p + c.1 + c.2.2 * k) = 0 := by
  refine Device.word_clearLoop _ (fun e x he => Device.word_clearLoop _ (fun _ _ h => Device.word_setWord_zero h) (.inl he)) (.inr ⟨c, hc, fun e => ?_⟩)
  exact Device.word_clearLoop _ (fun _ _ h => Device.word_setWord_zero h) (.inr ⟨k, List.mem_range.mpr hk, fun e => Device.word_setWord_self _ _ _⟩)

theorem Frame.countersCleared (h : Frame bs rs ps d e) (hr : ∀ c ∈ pageCounters p, ∀ k < c.2.1, rs (pageBase p + c.1 + c.2.2 * k) = true) :
    Frame bs rs ps d (e.countersCleared p) :=
  h.foldl_mem _ fun _ c hc hx => hx.foldl_mem _ fun _ k hk hy => hy.setWord (.inl (hr c hc k (List.mem_range.mp hk)))

/-- The counters of the trigger engine lie in its page, behind the common registers. -/
theorem trgCounters_in : ∀ c ∈ pageCounters .trg, ∀ k < c.2.1,
    (pageReg .trg (pageBase .trg + c.1 + c.2.2 * k) && (pageBase .trg + c.1 + c.2.2 * k) != pageCtrl .trg) = true := by decide

theorem softReset_trg_completes (hq : s.dev.serviceRun = none) (hp : s.dev.pageOn .trg = true) (ha : s.dev.flag (fAbort .trg) = false) :
    Completes (.pageSoftReset .trg) s fun d => Leaves [.trg] (pageReg .trg) [.trg] s.dev d
      ∧ d.sticky .trg = 0 ∧ d.flag (fFault .trg) = false ∧ d.word Reg.TRG.CNT_CAPTURES = 0 ∧ d.word Reg.TRG.CNT_ABORT = 0
      ∧ d.trg.prescale = [] ∧ d.trg.rearm = [] ∧ d.flag (fEnable .trg) = s.dev.flag (fEnable .trg) := by
  have hx := Effect.pageSoftReset hp
  rw [ha, if_neg Bool.false_ne_true, Device.softReset_trg] at hx
  have hin := fun c hc k hk => (Bool.and_eq_true_iff.mp (trgCounters_in c hc k hk)).1
  refine hx.completes [.trg] (pageReg .trg) [.trg] hq (by decide)
    ((((Frame.refl.countersCleared fun c hc k hk => by rw [hin c hc k hk]; rfl).setSticky (by decide)).setFlag (.inl (by decide))).trg (by decide))
    fun t hs hl => ?_
  have htrg := hs.trg (by decide)
  have hzero : ∀ a, plainReg a = true → a ≠ (fFault .trg).addr → (s.dev.countersCleared .trg).word a = 0 → t.word a = 0 := fun a hp hf h0 => by
    rw [hs.plain rfl hp, Device.word_trg, Device.setFlag, Device.word_setFld_ne hf, Device.word_setSticky, h0]
  have hgroup : (0x180, 13, 4) ∈ pageCounters .trg := List.mem_cons_self
  have hcaptures : Reg.TRG.CNT_CAPTURES = pageBase .trg + 0x180 + 4 * 12 := by decide
  have habort : Reg.TRG.CNT_ABORT = pageBase .trg + 0x180 + 4 * 11 := by decide
  refine ⟨hl, ?_, ?_, hzero Reg.TRG.CNT_CAPTURES (by decide) (by decide) ?_, hzero Reg.TRG.CNT_ABORT (by decide) (by decide) ?_,
    by rw [htrg], by rw [htrg], ?_⟩
  · rw [hs.events .trg (by decide) (by decide), Device.sticky_trg, Device.sticky_setFlag, Device.sticky_setSticky, if_pos rfl]
  · rw [hs.flag (fFault .trg) rfl (by decide), Device.flag_trg]
    exact Device.flag_setFlag_self _ _ _ (by decide) (by decide)
  · rw [hcaptures, s.dev.word_countersCleared hgroup (show 12 < 13 by decide)]
  · rw [habort, s.dev.word_countersCleared hgroup (show 11 < 13 by decide)]
  · rw [hs.flag (fEnable .trg) rfl (by decide), Device.flag_trg]
    have F : Frame [] (fun a => pageReg .trg a && a != pageCtrl .trg) [] s.dev (s.dev.countersCleared .trg) := Frame.refl.countersCleared trgCounters_in
    rw [Device.flag_setFlag_ne (by decide), ← F.flag (fEnable .trg) (by decide) (by decide), Device.flag, Device.fld, Device.word_setSticky]
    rfl

/-- Settles O28: each control by whether the page is powered, drains or aborts. -/
theorem pageControlCommands : Obligations.PageControlCommands := by
  unfold Obligations.PageControlCommands
  refine ⟨fun s p hn hp he ha => ?_,
    fun s n hp he ha => Effect.pageEnableClear hp he ha,
    fun _ _ => effect_pageEnableSet,
    fun _ _ => effect_pageDrainDone,
    fun s h => Effect.pageDrainDone (p := .lnk) h,
    fun s p hp h1 h2 h3 => ?_,
    fun s p hp h => Device.setAbort_over hp h ▸ Effect.pageAbort p,
    fun s p ha hw hs he => ?_,
    fun s p ha hw hs he => ?_,
    fun s p hp ha => ?_,
    fun _ => softReset_trg_completes,
    fun s p hp ha => ?_⟩
  · have hx := Effect.pageEnableClear hp he ha
    rwa [Device.startDrain_of_work hn] at hx
  · have hx := Effect.pageAbort (s := s) p
    rwa [Device.setAbort_waits hp h1 h2 h3] at hx
  · have hx := Effect.pageAbortDone ha hw
    extract_lets x y at hx
    rwa [hs, if_neg Bool.false_ne_true, show y = x.takesAgain p from if_pos he] at hx
  · have hx := Effect.pageAbortDone ha hw
    extract_lets x y at hx
    rwa [hs, if_pos rfl, show y = x.startDrain p from if_neg (by rw [he]; decide)] at hx
  · have hx := Effect.pageSoftReset hp
    rwa [ha, if_neg Bool.false_ne_true] at hx
  · have hx := Effect.pageSoftReset hp
    rwa [ha, if_pos rfl] at hx

end Sys2Proof.Machine
end

section
/-! PROOFS. The rings of the PCI Express endpoint (O25). -/

namespace Sys2Proof.Machine

variable {d e : Device} {s : State} {r : Nat} {tail : W32} {x : Desc} {rest : List Desc} {words : List W32}

/-! ### Posting and fetching (R462, R470) -/

theorem Device.writeTail_posts (h : (tail - d.word (Reg.RING.HEAD r)).toNat ≤ d.ringSize r)
    (hh : (d.word (Reg.RING.TAIL r) - d.word (Reg.RING.HEAD r)).toNat ≤ (tail - d.word (Reg.RING.HEAD r)).toNat) :
    d.writeTail r tail =
      if r < 8 ∧ (d.word (Reg.RING.TAIL r) - d.word (Reg.RING.HEAD r)).toNat < (tail - d.word (Reg.RING.HEAD r)).toNat then
        (d.setWord (Reg.RING.TAIL r) tail).setFlag (Reg.CDR.STREAM_STATUS_STARVED (2 + r)) false
      else d.setWord (Reg.RING.TAIL r) tail :=
  if_pos ⟨h, hh⟩

theorem Device.writeTail_tooFar (h : d.ringSize r < (tail - d.word (Reg.RING.HEAD r)).toNat) :
    d.writeTail r tail = (d.setFlag (Reg.RING.RING_STATUS_TAIL_ERR r) true).raise .pci 10 :=
  if_neg fun hfit => absurd hfit.1 (Nat.not_le.mpr h)

theorem Effect.ringTailWrite {ring : Ring} (hp : s.dev.pageOn .pci = true) : Effect (.ringTailWrite ring tail) s (s.dev.writeTail ring.val tail) :=
  Effect.of_run (show execRingTailWrite ring tail s = run _ s from rfl) (if_pos hp)

theorem Effect.descriptorFetch {ring : Ring} {desc : Option (W64 × W64)} (h : s.dev.mayFetch ring.val = true) :
    Effect (.descriptorFetch ring desc) s (s.dev.fetch ring.val desc) :=
  Effect.of_run (show execDescriptorFetch ring desc s = run _ s from rfl) (if_pos h)

/-! ### Readout descriptors and write requests (R463-R467) -/

section
variable {ring : ReadRing} {status : Nat}

theorem effect_readoutDescriptorComplete (hd : (s.dev.ring ring.val).descs = x :: rest) (hs : s.dev.readoutStatus ring.val x = some status)
    (hr : s.dev.dmaReady = true) : Effect (.readoutDescriptorComplete ring) s (s.dev.completeReadout ring.val x status) :=
  Effect.of_run (show execReadoutDescriptorComplete ring s = run _ s from rfl) (by simp only [Device.readoutDone, hd, hs, hr, if_true])

theorem effect_readoutTimeout (hd : (s.dev.ring ring.val).descs = x :: rest) (hs : s.dev.readoutStatus ring.val x = none) (hr : s.dev.dmaReady = true)
    (hu : x.used ≠ 0) (ht : s.dev.fld (Reg.RING.TIMEOUT_US ring.val) ≠ 0) :
    Effect (.readoutTimeout ring) s
      ((s.dev.waitUntil (x.since + s.dev.fld (Reg.RING.TIMEOUT_US ring.val) * Config.usCt)).completeReadout ring.val x 1) := by
  refine Effect.of_run (show execReadoutTimeout ring s = run _ s from rfl) ?_
  simp only [Device.readoutTimeout, hd, hs, hr, hu, ht, decide_false, Option.isSome_none, Bool.not_true, Bool.or_self, Bool.false_eq_true, if_false]

theorem Effect.dmaWriteRequest : Effect (.dmaWriteRequest ring) s (s.dev.writeRequest ring.val) := rfl

/-- A write request with words of a readback. -/
theorem Device.writeRequest_readback (hd : (d.ring r).descs = x :: rest) (hr : d.ringReady r = true) (hs : d.readoutStatus r x = none)
    (hb : d.readbackTo r = true) (hw : (d.takeReadback (d.requestWords x)).2 ≠ []) :
    d.writeRequest r =
      (let t := d.takeReadback (d.requestWords x)
       let y := { x with cont := !t.1.his.sending.isEmpty, used := x.used + 8 * t.2.length, readback := true, since := if x.used = 0 then t.1.clock else x.since,
                         coded := if x.used = 0 then false else x.coded }
       ((t.1.writeHost (x.buf + x.used) t.2).updRing r fun q => { q with descs := y :: rest }).countMoved r (8 * t.2.length)) := by
  have he : (d.takeReadback (d.requestWords x)).2.isEmpty = false := List.isEmpty_eq_false_iff.mpr hw
  simp only [Device.writeRequest, hd, hr, hs, hb, he, Option.isSome_none, Bool.not_true, Bool.or_self, Bool.false_and, Bool.false_eq_true, if_false,
    if_true, List.foldl_nil]

/-- A write request with words of the ring's records, which release those that it completes. -/
theorem Device.writeRequest_records {ws : List W64} {serials : List Nat} {y : Desc} (hd : (d.ring r).descs = x :: rest) (hr : d.ringReady r = true)
    (hs : d.readoutStatus r x = none) (hb : d.readbackTo r = false)
    (hg : d.gather r ((d.ring r).todo.length + 1) (d.requestWords x) x [] [] = (e, ws, serials, y)) (hw : ws ≠ []) :
    d.writeRequest r =
      (let z := { y with used := x.used + 8 * ws.length, readback := false, since := if x.used = 0 then e.clock else x.since,
                         coded := if x.used = 0 then d.codes (2 + r) || e.codes (2 + r) else x.coded }
       serials.foldl (fun d k => d.releaseRing r k)
         (((e.writeHost (x.buf + x.used) ws).updRing r fun q => { q with descs := z :: rest }).countMoved r (8 * ws.length))) := by
  have he : ws.isEmpty = false := List.isEmpty_eq_false_iff.mpr hw
  simp only [Device.writeRequest, hd, hr, hs, hb, hg, he, Option.isSome_none, Bool.not_true, Bool.not_false, Bool.or_self, Bool.true_and,
    Bool.false_eq_true, if_false]

end

/-! ### Ring controls (R461, R470, R471) -/

section
variable {ring : Ring}

theorem effect_ringEnable (hp : s.dev.pageOn .pci = true) : Effect (.ringEnable ring) s (s.dev.setFlag (Reg.RING.RING_CTRL_EN ring.val) true) :=
  Effect.of_run (show execRingEnable ring s = run _ s from rfl) (if_pos hp)

theorem effect_ringDisable (hp : s.dev.pageOn .pci = true) : Effect (.ringDisable ring) s (s.dev.setFlag (Reg.RING.RING_CTRL_EN ring.val) false) :=
  Effect.of_run (show execRingDisable ring s = run _ s from rfl) (if_pos hp)

theorem Effect.ringAbort (hp : s.dev.pageOn .pci = true) : Effect (.ringAbort ring) s (s.dev.abortRing ring.val) :=
  Effect.of_run (show execRingAbort ring s = run _ s from rfl) (if_pos hp)

theorem Device.showActive_idle (h : (d.ring r).descs = []) :
    d.showActive r = (d.setFlag (Reg.RING.RING_STATUS_ACTIVE r) false).setFlag (Reg.RING.RING_CTRL_ABORT r) false := by
  simp only [Device.showActive, h, List.isEmpty_nil, Bool.not_true, Bool.false_eq_true, if_false]

theorem Device.showActive_busy (h : (d.ring r).descs = x :: rest) : d.showActive r = d.setFlag (Reg.RING.RING_STATUS_ACTIVE r) true := by
  simp only [Device.showActive, h, List.isEmpty_cons, Bool.not_false, if_true]

theorem effect_ringReset (hp : s.dev.pageOn .pci = true) (he : s.dev.flag (Reg.RING.RING_CTRL_EN ring.val) = false)
    (ha : s.dev.flag (Reg.RING.RING_STATUS_ACTIVE ring.val) = false) :
    Effect (.ringReset ring) s (((((s.dev.setWord (Reg.RING.TAIL ring.val) 0).setWord (Reg.RING.HEAD ring.val) 0).setWord (Reg.RING.FETCH ring.val) 0)).setFlag
      (Reg.RING.RING_STATUS_ERROR ring.val) false) :=
  Effect.of_run (show execRingReset ring s = run _ s from rfl) ((if_pos hp).trans ((if_neg (by simp [he, ha])).trans rfl))

end

/-! ### Host-to-device descriptors (R468, R469, R471) -/

section
variable {ring : H2dRing} {n : Nat × Nat}

theorem Effect.h2dDescriptorComplete {failAt : Option Nat} : Effect (.h2dDescriptorComplete ring words failAt) s (s.dev.h2dDone (8 + ring.val) words failAt) := rfl

theorem Device.h2dDone_aborted {failAt : Option Nat} (hd : (d.ring r).descs = x :: rest) (hr : d.dmaReady = true)
    (ha : d.flag (Reg.RING.RING_CTRL_ABORT r) = true) : d.h2dDone r words failAt = d.completeDesc r x 3 (h2dWord (0, 0) 3) 0 := by
  simp only [Device.h2dDone, hd, hr, ha, Bool.not_true, Bool.false_eq_true, if_false, if_true]

/-- A sound descriptor names whole words. -/
theorem Desc.len_words (h : x.badH2d = false) : 4 * (x.len / 4) = x.len := by
  simp only [Desc.badH2d, Bool.or_eq_false_iff, bne_eq_false_iff_eq] at h
  obtain ⟨⟨⟨⟨⟨-, hlen⟩, -⟩, -⟩, -⟩, -⟩ := h
  split at hlen <;> omega

/-- The descriptor that began is still the oldest. -/
theorem Device.h2d_oldest (h : (e.ring r).descs = x :: rest) : ((e.ring r).descs.head?.any fun y => y.index == x.index) = true := by
  simp only [h, List.head?_cons, Option.any_some, beq_self_eq_true]

theorem Device.h2dDone_whole (hd : (d.ring r).descs = x :: rest) (hr : d.dmaReady = true) (ha : d.flag (Reg.RING.RING_CTRL_ABORT r) = false)
    (hb : x.badH2d = false) (hl : words.length = x.len / 4)
    (hw : ((d.readBuffer x.buf x.len).countMoved r x.len).h2dWrites (x.writes words 0) (0, 0) = (e, n)) (ho : (e.ring r).descs = x :: rest) :
    d.h2dDone r words none = e.completeDesc r x (if n.2 = 0 then 0 else 1) (h2dWord n (if n.2 = 0 then 0 else 1)) 0 := by
  have hgot : words.take (x.len / 4) = words := List.take_of_length_le hl.le
  have hstatus : (if n.2 ≠ 0 then 1 else 0) = if n.2 = 0 then 0 else 1 := ite_not _ _ _
  simp only [Device.h2dDone, hd, hr, ha, hb, hgot, hl, Desc.len_words hb, hw, Device.h2d_oldest ho, hstatus, Nat.lt_irrefl, decide_false, Bool.not_true,
    Bool.false_eq_true, if_false, if_true]

theorem Device.h2dDone_failed {k : Nat} (hd : (d.ring r).descs = x :: rest) (hr : d.dmaReady = true) (ha : d.flag (Reg.RING.RING_CTRL_ABORT r) = false)
    (hb : x.badH2d = false) (hl : words.length = x.len / 4) (hk : k < x.len / 4)
    (hw : ((d.readBuffer x.buf x.len).countMoved r (4 * k)).h2dWrites (x.writes (words.take k) 0) (0, 0) = (e, n)) (ho : (e.ring r).descs = x :: rest) :
    d.h2dDone r words (some k) = (e.count Reg.PCI.CNT_READ_ERR).completeDesc r x 2 (h2dWord n 2) 0 := by
  have hgot : words.take (x.len / 4) = words := List.take_of_length_le hl.le
  have hlen : (words.take k).length = k := by rw [List.length_take, hl]; omega
  have hold : ((e.count Reg.PCI.CNT_READ_ERR).ring r).descs = x :: rest := ho
  simp only [Device.h2dDone, hd, hr, ha, hb, hgot, hlen, hk, hw, Device.h2d_oldest hold, decide_true, Bool.not_true, Bool.false_eq_true, if_false, if_true]

end

/-- Settles O25: each clause by the state of its ring. -/
theorem pcieRings : Obligations.PcieRings := by
  unfold Obligations.PcieRings
  refine ⟨fun s ring tail hp h hh => Device.writeTail_posts h hh ▸ Effect.ringTailWrite hp,
    fun s ring tail hp h => Device.writeTail_tooFar h ▸ Effect.ringTailWrite hp,
    fun s ring w0 w1 h => Effect.descriptorFetch h,
    fun s ring h => Effect.descriptorFetch h,
    fun _ _ _ _ _ => effect_readoutDescriptorComplete,
    fun _ _ _ _ => effect_readoutTimeout,
    fun s ring x rest hd hr hs hb hw => Device.writeRequest_readback hd hr hs hb hw ▸ Effect.dmaWriteRequest,
    fun s ring x rest e words serials y hd hr hs hb hg hw => Device.writeRequest_records hd hr hs hb hg hw ▸ Effect.dmaWriteRequest,
    fun _ _ => effect_ringEnable,
    fun _ _ => effect_ringDisable,
    fun s ring hp hd => ?_,
    fun s ring x rest hp hd => ?_,
    fun _ _ => effect_ringReset,
    fun s ring words failAt x rest hd hr ha => Device.h2dDone_aborted hd hr ha ▸ Effect.h2dDescriptorComplete,
    fun s ring words x rest d n hd hr ha hb hl hw ho => Device.h2dDone_whole hd hr ha hb hl hw ho ▸ Effect.h2dDescriptorComplete,
    fun s ring words k x rest d n hd hr ha hb hl hk hw ho => Device.h2dDone_failed hd hr ha hb hl hk hw ho ▸ Effect.h2dDescriptorComplete⟩
  · have hx := Effect.ringAbort (ring := ring) hp
    rwa [Device.abortRing, Device.showActive_idle (d := s.dev.setFlag _ _) hd] at hx
  · have hx := Effect.ringAbort (ring := ring) hp
    rwa [Device.abortRing, Device.showActive_busy (d := s.dev.setFlag _ _) hd] at hx

end Sys2Proof.Machine
end

section
/-! PROOFS. With its link down the endpoint sends no message: what follows a command leaves the in-service bits as they were (R459, R482). -/

namespace Sys2Proof.Machine

/-- Between the two devices no message has been sent, and the link is as it was. -/
structure Unsent (d e : Device) : Prop where
  insvc : e.evc.insvc = d.evc.insvc
  up : e.pci.up = d.pci.up

namespace Unsent

variable {d e : Device}

theorem refl : Unsent d d := ⟨rfl, rfl⟩

theorem ite {c : Prop} [Decidable c] {x y : Device} (hx : c → Unsent d x) (hy : ¬c → Unsent d y) : Unsent d (if c then x else y) := by
  by_cases hc : c
  · rw [if_pos hc]; exact hx hc
  · rw [if_neg hc]; exact hy hc

theorem foldl {α : Type} {f : Device → α → Device} (l : List α) (h : Unsent d e) (hf : ∀ e x, Unsent d e → Unsent d (f e x)) : Unsent d (l.foldl f e) := by
  induction l generalizing e with
  | nil => exact h
  | cons x l ih => exact ih (hf e x h)

theorem setWord (h : Unsent d e) {a : Nat} {w : W32} : Unsent d (e.setWord a w) := ⟨h.insvc, h.up⟩
theorem setFld (h : Unsent d e) {f : Fld} {v : Nat} : Unsent d (e.setFld f v) := h.setWord
theorem setFlag (h : Unsent d e) {f : Fld} {b : Bool} : Unsent d (e.setFlag f b) := h.setWord
theorem count (h : Unsent d e) {a n : Nat} : Unsent d (e.count a n) := h.setWord
theorem setSticky (h : Unsent d e) {p : Page} {w : W32} : Unsent d (e.setSticky p w) := ⟨h.insvc, h.up⟩
theorem evb (h : Unsent d e) {x : EvbSt} : Unsent d { e with evb := x } := ⟨h.insvc, h.up⟩

/-! ### Events and logs -/

theorem enqueue (h : Unsent d e) {r : Rec} : Unsent d (e.enqueue r) := by
  unfold Device.enqueue
  split
  · exact h.evb
  · exact h.evb

theorem closePacked (h : Unsent d e) : Unsent d e.closePacked := by
  unfold Device.closePacked
  split
  · exact h
  · exact h.evb.enqueue

theorem statusOf (h : Unsent d e) {s c x : Nat} : Unsent d (e.statusOf s c x) := ite (fun _ => h.closePacked.enqueue) fun _ => h

theorem eventMessage (h : Unsent d e) {s c x : Nat} : Unsent d (e.eventMessage s c x) := by
  refine ite (fun _ => h) fun _ => ite (fun _ => h) fun _ => ite (fun _ => ⟨h.insvc, h.up⟩) fun _ => ?_
  have hl : Unsent d { e.count Reg.ZVL.CNT_EV_LOST with eventLost := true } := ⟨h.insvc, h.up⟩
  exact ite (fun _ => hl) fun _ => hl.setSticky.statusOf

theorem announce (h : Unsent d e) {p : Page} {b x : Nat} : Unsent d (e.announce p b x) := by
  unfold Device.announce
  split
  · exact h
  · exact ite (fun _ => h.statusOf.eventMessage) fun _ => h.statusOf

theorem raise (h : Unsent d e) {p : Page} {b x : Nat} : Unsent d (e.raise p b x) :=
  ite (fun _ => ite (fun _ => h) fun _ => h.setSticky.announce) fun _ => h

theorem healthLog (h : Unsent d e) {k : Nat} {w : W64} : Unsent d (e.healthLog k w) := by
  have hq : ∀ q, Unsent d { e with hlt := { e.hlt with log := q } } := fun q => ⟨h.insvc, h.up⟩
  exact ite (fun _ => hq _) fun _ => (hq _).count.raise

theorem audit (h : Unsent d e) {k r a y x : Nat} {w : W32} : Unsent d (e.audit k r a y x w) := by
  have hq : ∀ q, Unsent d { e with sec := { e.sec with audit := q } } := fun q => ⟨h.insvc, h.up⟩
  exact ite (fun _ => hq _) fun _ => (hq _).count.raise

/-! ### Before the delivery -/

theorem applyPolicies (h : Unsent d e) : Unsent d e.applyPolicies := by
  unfold Device.applyPolicies
  split
  · exact h
  · extract_lets strongest _ x y z
    have hx : Unsent d x := ⟨h.insvc, h.up⟩
    have hz : Unsent d z := hx.setFlag
    refine ite (fun _ => ⟨hx.insvc, hx.up⟩) fun _ => ite (fun _ => ite (fun _ => hz) fun _ => ?_) fun _ => hx
    exact ⟨hz.audit.insvc, hz.audit.up⟩

theorem setLevel (h : Unsent d e) {n : Nat} : Unsent d (e.setLevel n) := ite (fun _ => h) fun _ => h.setFld.raise.healthLog

theorem settleLevel (h : Unsent d e) : Unsent d e.settleLevel := ite (fun _ => h) fun _ => ite (fun _ => h.setLevel) fun _ => h.setLevel

theorem haltAdcs (h : Unsent d e) {which : Nat → Bool} {lost : Bool} : Unsent d (e.haltAdcs which lost) := ⟨h.insvc, h.up⟩

theorem trackFastOr (h : Unsent d e) : Unsent d e.trackFastOr := by
  unfold Device.trackFastOr
  extract_lets now rises falls x
  have hx : Unsent d x := h.foldl rises fun _ _ h => h.count
  exact ⟨hx.insvc, hx.up⟩

theorem oqLevel (h : Unsent d e) : Unsent d e.oqLevel := ite (fun _ => h) fun _ => h.setFlag.raise

theorem ctxRecord (h : Unsent d e) {r : Rec} {b : Bool} : Unsent d (e.ctxRecord r b) := by
  unfold Device.ctxRecord
  split
  · exact h
  · exact ite (fun _ => h.evb) fun _ => ite (fun _ => h.evb.evb) fun _ => h.evb.evb

theorem letIn (h : Unsent d e) {r : Rec} : Unsent d (e.letIn r) := by
  have h1 : Unsent d (e.recDelivered r) := by
    unfold Device.recDelivered
    split
    · exact h.evb
    · exact h
  unfold Device.letIn
  dsimp only
  generalize e.recDelivered r = x at h1
  refine ite (fun _ => h1.count.ctxRecord) fun _ => oqLevel (ctxRecord (foldl _ h1.evb ?_))
  exact fun e k h => ⟨h.insvc, h.up⟩

theorem pumpN (n : Nat) (h : Unsent d e) : Unsent d (e.pumpN n) := by
  induction n generalizing e with
  | zero => exact h
  | succ n ih =>
    unfold Device.pumpN
    split
    · exact h
    · exact ite (fun _ => ih h.evb.letIn) fun _ => h

theorem pump (h : Unsent d e) : Unsent d e.pump := h.pumpN _

theorem releaseRing (h : Unsent d e) {r n : Nat} : Unsent d (e.releaseRing r n) := h.evb.evb.oqLevel.pump

theorem advanceFront (h : Unsent d e) : Unsent d e.advanceFront := by
  refine ite (fun _ => h) fun _ => ?_
  split
  · exact h.evb
  · exact ite (fun _ => h.evb.setFlag.raise) fun _ => h.evb

theorem discardRing (h : Unsent d e) {r : Nat} : Unsent d (e.discardRing r) := by
  unfold Device.discardRing
  dsimp only
  have h1 : Unsent d (Device.updRing (e.takeWords (2 + r) (e.coder (2 + r)).emit.length).1 r fun q =>
    { q with todo := [], inside := if (e.takeWords (2 + r) (e.coder (2 + r)).emit.length).2.1.isEmpty = true then q.inside else false }) := ⟨h.insvc, h.up⟩
  refine foldl _ (count ?_) fun _ _ h => h.releaseRing
  generalize (Device.updRing _ r _) = x at h1 ⊢
  by_cases hc : x.readbackTo r = true
  · simp only [hc, if_true]; exact ⟨h1.insvc, h1.up⟩
  · simp only [hc]; exact ⟨h1.insvc, h1.up⟩

theorem discardRings (h : Unsent d e) : Unsent d e.discardRings :=
  ite (fun _ => h) fun _ => h.foldl _ fun _ _ h => ite (fun _ => h) fun _ => h.discardRing

/-! ### The delivery (R480-R487) -/

theorem pushLog (h : Unsent d e) {s : Nat} : Unsent d (e.pushLog s) :=
  ite (fun _ => h) fun _ => ite (fun _ => ⟨h.insvc, h.up⟩) fun _ => h.setFlag.raise

/-- With the link down no vector is sent. -/
theorem sendVector (h : Unsent d e) (hd : d.pci.up = false) {v : Nat} : Unsent d (e.sendVector v) := by
  have hoff : e.msixReady = false := by simp only [Device.msixReady, h.up, hd, Bool.and_false, Bool.false_and]
  rw [Device.sendVector, if_pos (by rw [hoff]; simp)]
  exact h

theorem deliver (h : Unsent d e) (hd : d.pci.up = false) : Unsent d e.deliver := by
  unfold Device.deliver
  extract_lets on x now _ y vs _ z w _ _
  have hx : Unsent d x := ite (fun _ => foldl _ h fun _ _ h => h.pushLog) fun _ => h
  have hy : Unsent d y := ⟨hx.insvc, hx.up⟩
  have hz : Unsent d z := ⟨hy.insvc, hy.up⟩
  clear_value z
  have hw : Unsent d w := hz.foldl _ fun _ _ h => h.sendVector hd
  exact ite (fun _ => ⟨hw.insvc, hw.up⟩) fun _ => ⟨hy.insvc, hy.up⟩

theorem settle (h : Unsent d e) (hd : d.pci.up = false) (hq : e.serviceRun = none) : Unsent d e.settle := by
  rw [Device.settle_eq, Device.watchService_idle hq]
  have hl : Unsent d (e.applyPolicies.settleLevel.haltAdcs (fun a => !e.applyPolicies.settleLevel.wadcRuns a) false) := h.applyPolicies.settleLevel.haltAdcs
  exact (foldl _ hl fun _ _ h => h.raise).trackFastOr.evb.pump.advanceFront.discardRings.deliver hd

end Unsent

end Sys2Proof.Machine
end

section
/-! PROOFS. The endpoint and the event controller (O26). -/

namespace Sys2Proof.Machine

variable {d e : Device} {s : State} {speed : BitVec 4} {width : BitVec 5}

/-! ### The reset of the endpoint (R456, R459) -/

theorem Device.word_resetRange {lo hi a : Nat} (d : Device) (h : a < lo ∨ hi ≤ a) : (d.resetRange lo hi).word a = d.word a := by
  simp only [Device.word, Device.resetRange, SMap.get_clear]
  exact if_neg (by omega)

theorem Device.word_resetEndpoint {a : Nat} (d : Device) (h1 : a < 0x1000 ∨ 0x2000 ≤ a) (h2 : a < 0x2000000) : d.resetEndpoint.word a = d.word a :=
  (Device.word_resetRange _ (.inl h2)).trans (Device.word_resetRange _ h1)

/-- What identifies the part: the part, and the device's number in the link page. -/
theorem Device.identity_congr (hp : e.part = d.part) (hh : e.word Reg.ZVL.DEV_ID_HI = d.word Reg.ZVL.DEV_ID_HI)
    (hl : e.word Reg.ZVL.DEV_ID_LO = d.word Reg.ZVL.DEV_ID_LO) : e.identity = d.identity := by
  simp only [Device.identity, hp, hh, hl, Device.readHeader]

theorem Effect.endpointReset (hp : s.dev.pageOn .pci = true) : Effect .endpointReset s s.dev.resetEndpoint :=
  Effect.of_run (show execEndpointReset s = run _ s from rfl) (if_pos hp)

theorem endpointReset_completes (hq : s.dev.serviceRun = none) (hp : s.dev.pageOn .pci = true) :
    Completes .endpointReset s fun d => d.identity = s.dev.identity ∧ d.pci.cfg = ({} : PciSt).cfg ∧ d.evc.insvc = 0
      ∧ d.identity.vendor = 0x1F47 ∧ d.identity.device = (match s.dev.part with | .ezn8640 => 0x8640#16 | .ezn8620 => 0x8620#16)
      ∧ d.identity.revision = 1 := by
  have hq' : s.dev.resetEndpoint.serviceRun = none := (Device.serviceRun_congr rfl).trans hq
  have hl : Leaves [] (fun _ => false) [] s.dev.resetEndpoint s.dev.resetEndpoint.settle := Frame.refl.leaves hq' (by decide)
  have hi : s.dev.resetEndpoint.settle.identity = s.dev.identity :=
    Device.identity_congr (hl.part.trans rfl)
      ((hl.plain rfl (by decide)).trans (s.dev.word_resetEndpoint (by decide) (by decide)))
      ((hl.plain rfl (by decide)).trans (s.dev.word_resetEndpoint (by decide) (by decide)))
  obtain ⟨hcfg, -, -⟩ := hl.block .pci (by decide) (by decide)
  have hsent : Unsent s.dev.resetEndpoint s.dev.resetEndpoint.settle := Unsent.refl.settle rfl hq'
  refine ⟨_, Effect.endpointReset hp, rfl, hi, hcfg, hsent.insvc, ?_, ?_, ?_⟩
  · rw [hi]; rfl
  · rw [hi, Device.identity]
    cases s.dev.part <;> rfl
  · rw [hi]
    exact (show (BitVec.setWidth 8 (pack [(0, 8, 1), (8, 8, pageInstance .pci), (16, 16, pageType .pci)])) = 1 by decide)

/-! ### The link (R459, R460, R488) -/

/-- The link has left L0 and L1. -/
def Device.linkLeft (d : Device) : Device :=
  ((Device.setFlag { d with pci := { d.pci with up := false } } Reg.PCI.SUMMARY_LINK_UP false).setFld Reg.PCI.LINK_STATUS_SPEED 0).setFld
    Reg.PCI.LINK_STATUS_WIDTH 0

theorem Frame.linkLeft {bs : List Block} {rs : Nat → Bool} {ps : List Page} (h : Frame bs rs ps d e) (hb : Block.pci ∈ bs)
    (h1 : rs Reg.PCI.SUMMARY = true) (h2 : rs Reg.PCI.LINK_STATUS = true) : Frame bs rs ps d e.linkLeft :=
  (((h.pci hb).setFlag (.inl h1)).setFld (.inl h2)).setFld (.inl h2)

theorem Device.linkLeft_shows (d : Device) : d.linkLeft.flag Reg.PCI.SUMMARY_LINK_UP = false ∧ d.linkLeft.fld Reg.PCI.LINK_STATUS_SPEED = 0
    ∧ d.linkLeft.fld Reg.PCI.LINK_STATUS_WIDTH = 0 := by
  refine ⟨?_, ?_, Device.fld_setFld_self _ _ _ (by decide)⟩
  · rw [Device.linkLeft, Device.flag_setFld_ne (by decide), Device.flag_setFld_ne (by decide)]
    exact Device.flag_setFlag_self _ _ _ (by decide) (by decide)
  · rw [Device.linkLeft, Device.fld_setFld_other _ Reg.PCI.LINK_STATUS_WIDTH Reg.PCI.LINK_STATUS_SPEED _ (.inr (by decide))]
    exact Device.fld_setFld_self _ _ _ (by decide)

theorem Effect.pcieLinkDown (hp : s.dev.pageOn .pci = true) (hu : s.dev.pci.up = true) :
    Effect .pcieLinkDown s ((s.dev.linkLeft.count Reg.PCI.CNT_LINK_DOWN).raise .pci 13) :=
  Effect.of_run (show execPcieLinkDown s = run _ s from rfl) ((if_pos hp).trans (if_neg (by simp [hu])))

theorem pcieLinkDown_completes (hq : s.dev.serviceRun = none) (hp : s.dev.pageOn .pci = true) (hu : s.dev.pci.up = true) :
    Completes .pcieLinkDown s fun d => Leaves [.pci] (regs [Reg.PCI.SUMMARY, Reg.PCI.LINK_STATUS, Reg.PCI.CNT_LINK_DOWN]) [.pci] s.dev d
      ∧ d.flag Reg.PCI.SUMMARY_LINK_UP = false ∧ d.fld Reg.PCI.LINK_STATUS_SPEED = 0 ∧ d.fld Reg.PCI.LINK_STATUS_WIDTH = 0
      ∧ d.word Reg.PCI.CNT_LINK_DOWN = counted (s.dev.word Reg.PCI.CNT_LINK_DOWN) 1 ∧ (d.sticky .pci).getLsbD 13 = true := by
  have F : Frame [.alarms, .pci] (fun a => regs [Reg.PCI.SUMMARY, Reg.PCI.LINK_STATUS, Reg.PCI.CNT_LINK_DOWN] a || a == Reg.HLT.SERVICE_LEVEL
      || a == Reg.SEC.SUMMARY) [.pci] s.dev (s.dev.linkLeft.count Reg.PCI.CNT_LINK_DOWN) :=
    (Frame.refl.linkLeft (by decide) (by decide) (by decide)).count (.inl (by decide))
  obtain ⟨hup, hspeed, hwidth⟩ := s.dev.linkLeft_shows
  refine (Effect.pcieLinkDown hp hu).completes [.pci] _ [.pci] hq (by decide) (F.raise (.inl (by decide)))
    fun t hs hl => ⟨hl, ?_, ?_, ?_, ?_, hs.kept .pci (by decide) 13 (F.raised (by decide) (by decide) (by decide) hp (by decide))⟩
  · rw [hs.flag Reg.PCI.SUMMARY_LINK_UP rfl (by decide), Device.flag_raise (by decide), Device.flag_count_ne (by decide), hup]
  · rw [hs.fld Reg.PCI.LINK_STATUS_SPEED rfl (by decide), Device.fld_raise (by decide), Device.fld_count_ne (by decide), hspeed]
  · rw [hs.fld Reg.PCI.LINK_STATUS_WIDTH rfl (by decide), Device.fld_raise (by decide), Device.fld_count_ne (by decide), hwidth]
  · have Fl : Frame [.pci] (regs [Reg.PCI.SUMMARY, Reg.PCI.LINK_STATUS]) [] s.dev s.dev.linkLeft :=
      Frame.refl.linkLeft (by decide) (by decide) (by decide)
    rw [hs.plain rfl (by decide), Device.word_raise (by decide), Device.word_count, if_pos rfl, Fl.words _ (by decide) (by decide)]
    rfl

theorem Frame.showLink {bs : List Block} {rs : Nat → Bool} {ps : List Page} (h : Frame bs rs ps d e) {v w : Nat} (hr : rs Reg.PCI.LINK_STATUS = true) :
    Frame bs rs ps d (e.showLink v w) := (h.setFld (.inl hr)).setFld (.inl hr)

theorem Device.showLink_shows (d : Device) (v w : Nat) :
    (d.showLink v w).fld Reg.PCI.LINK_STATUS_SPEED = v % 2 ^ Reg.PCI.LINK_STATUS_SPEED.width
      ∧ (d.showLink v w).fld Reg.PCI.LINK_STATUS_WIDTH = w % 2 ^ Reg.PCI.LINK_STATUS_WIDTH.width := by
  refine ⟨?_, Device.fld_setFld_self _ _ _ (by decide)⟩
  rw [Device.showLink, Device.fld_setFld_other _ Reg.PCI.LINK_STATUS_WIDTH Reg.PCI.LINK_STATUS_SPEED _ (.inr (by decide))]
  exact Device.fld_setFld_self _ _ _ (by decide)

theorem Effect.pcieLinkChange (hp : s.dev.pageOn .pci = true) (hu : s.dev.pci.up = true)
    (hc : s.dev.fld Reg.PCI.LINK_STATUS_SPEED ≠ speed.toNat ∨ s.dev.fld Reg.PCI.LINK_STATUS_WIDTH ≠ width.toNat)
    (hk : pciLinkOk speed.toNat width.toNat = true) :
    Effect (.pcieLinkChange speed width) s ((s.dev.showLink speed.toNat width.toNat).raise .pci 14) := by
  have hsame : decide (s.dev.fld Reg.PCI.LINK_STATUS_SPEED = speed.toNat ∧ s.dev.fld Reg.PCI.LINK_STATUS_WIDTH = width.toNat) = false :=
    decide_eq_false (by tauto)
  exact Effect.of_run (show execPcieLinkChange speed width s = run _ s from rfl) (if_neg (by simp [hp, hu, hsame, hk]))

theorem pcieLinkChange_completes (hq : s.dev.serviceRun = none) (hp : s.dev.pageOn .pci = true) (hu : s.dev.pci.up = true)
    (hc : s.dev.fld Reg.PCI.LINK_STATUS_SPEED ≠ speed.toNat ∨ s.dev.fld Reg.PCI.LINK_STATUS_WIDTH ≠ width.toNat)
    (hk : pciLinkOk speed.toNat width.toNat = true) :
    Completes (.pcieLinkChange speed width) s fun d => Leaves [] (regs [Reg.PCI.LINK_STATUS]) [.pci] s.dev d
      ∧ d.fld Reg.PCI.LINK_STATUS_SPEED = speed.toNat % 2 ^ Reg.PCI.LINK_STATUS_SPEED.width
      ∧ d.fld Reg.PCI.LINK_STATUS_WIDTH = width.toNat % 2 ^ Reg.PCI.LINK_STATUS_WIDTH.width ∧ (d.sticky .pci).getLsbD 14 = true := by
  have F : Frame [.alarms] (fun a => regs [Reg.PCI.LINK_STATUS] a || a == Reg.HLT.SERVICE_LEVEL || a == Reg.SEC.SUMMARY) [.pci] s.dev
      (s.dev.showLink speed.toNat width.toNat) := Frame.refl.showLink (by decide)
  obtain ⟨hspeed, hwidth⟩ := s.dev.showLink_shows speed.toNat width.toNat
  refine (Effect.pcieLinkChange hp hu hc hk).completes [] _ [.pci] hq (by decide) (F.raise (.inl (by decide)))
    fun t hs hl => ⟨hl, ?_, ?_, hs.kept .pci (by decide) 14 (F.raised (by decide) (by decide) (by decide) hp (by decide))⟩
  · rw [hs.fld Reg.PCI.LINK_STATUS_SPEED rfl (by decide), Device.fld_raise (by decide), hspeed]
  · rw [hs.fld Reg.PCI.LINK_STATUS_WIDTH rfl (by decide), Device.fld_raise (by decide), hwidth]

theorem Effect.pcieLinkUp (hp : s.dev.pageOn .pci = true) (hu : s.dev.pci.up = false) (hk : pciLinkOk speed.toNat width.toNat = true) :
    Effect (.pcieLinkUp speed width) s
      ((Device.setFlag { s.dev with pci := { s.dev.pci with up := true } } Reg.PCI.SUMMARY_LINK_UP true).showLink speed.toNat width.toNat) :=
  Effect.of_run (show execPcieLinkUp speed width s = run _ s from rfl) (if_neg (by simp [hp, hu, hk]))

theorem pcieLinkUp_completes (hq : s.dev.serviceRun = none) (hp : s.dev.pageOn .pci = true) (hu : s.dev.pci.up = false)
    (hk : pciLinkOk speed.toNat width.toNat = true) :
    Completes (.pcieLinkUp speed width) s fun d => Leaves [.pci] (regs [Reg.PCI.SUMMARY, Reg.PCI.LINK_STATUS]) [] s.dev d
      ∧ d.pci.up = true ∧ d.flag Reg.PCI.SUMMARY_LINK_UP = true
      ∧ d.fld Reg.PCI.LINK_STATUS_SPEED = speed.toNat % 2 ^ Reg.PCI.LINK_STATUS_SPEED.width := by
  refine (Effect.pcieLinkUp hp hu hk).completes [.pci] (regs [Reg.PCI.SUMMARY, Reg.PCI.LINK_STATUS]) [] hq (by decide)
    (((Frame.refl.pci (by decide)).setFlag (.inl (by decide))).showLink (by decide)) fun t hs hl => ?_
  obtain ⟨-, hup, -⟩ := hs.block .pci (by decide) (by decide)
  refine ⟨hl, hup, ?_, ?_⟩
  · rw [hs.flag Reg.PCI.SUMMARY_LINK_UP rfl (by decide), Device.showLink, Device.flag_setFld_ne (by decide), Device.flag_setFld_ne (by decide)]
    exact Device.flag_setFlag_self _ _ _ (by decide) (by decide)
  · rw [hs.fld Reg.PCI.LINK_STATUS_SPEED rfl (by decide), (Device.showLink_shows _ _ _).1]

/-! ### Configuration and errors (R455, R488) -/

theorem Effect.configSpaceWrite {cfg : PcieConfig} (hp : s.dev.pageOn .pci = true) (hu : s.dev.pci.up = true) :
    Effect (.configSpaceWrite cfg) s
      ((Device.setFlag { s.dev with pci := { s.dev.pci with cfg := PcieConfig.supported s.dev.pci.cfg cfg } } Reg.PCI.LINK_STATUS_D3HOT cfg.d3hot).setFlag
        Reg.PCI.LINK_STATUS_BME cfg.busMaster) :=
  Effect.of_run (show execConfigSpaceWrite cfg s = run _ s from rfl) (if_neg (by simp [hp, hu]))

theorem configSpaceWrite_completes {cfg : PcieConfig} (hq : s.dev.serviceRun = none) (hp : s.dev.pageOn .pci = true) (hu : s.dev.pci.up = true) :
    Completes (.configSpaceWrite cfg) s fun d => Leaves [.pci] (regs [Reg.PCI.LINK_STATUS]) [] s.dev d
      ∧ d.pci.cfg = PcieConfig.supported s.dev.pci.cfg cfg ∧ d.flag Reg.PCI.LINK_STATUS_BME = cfg.busMaster
      ∧ d.flag Reg.PCI.LINK_STATUS_D3HOT = cfg.d3hot := by
  refine (Effect.configSpaceWrite hp hu).completes [.pci] (regs [Reg.PCI.LINK_STATUS]) [] hq (by decide)
    (((Frame.refl.pci (by decide)).setFlag (.inl (by decide))).setFlag (.inl (by decide))) fun t hs hl => ?_
  obtain ⟨hcfg, -⟩ := hs.block .pci (by decide) (by decide)
  refine ⟨hl, hcfg, ?_, ?_⟩
  · rw [hs.flag Reg.PCI.LINK_STATUS_BME rfl (by decide)]
    exact Device.flag_setFlag_self _ _ _ (by decide) (by decide)
  · rw [hs.flag Reg.PCI.LINK_STATUS_D3HOT rfl (by decide),
      Device.flag_setFlag_other _ Reg.PCI.LINK_STATUS_BME Reg.PCI.LINK_STATUS_D3HOT _ (.inr (by decide))]
    exact Device.flag_setFlag_self _ _ _ (by decide) (by decide)

theorem Effect.aerError {correctable : Bool} (hp : s.dev.pageOn .pci = true) :
    Effect (.aerError correctable) s
      (if correctable then (s.dev.count Reg.PCI.CNT_CORR).raise .pci 11 else (s.dev.count Reg.PCI.CNT_UNCORR).raise .pci 12) :=
  Effect.of_run (show execAerError correctable s = run _ s from rfl) (if_neg (by simp [hp]))

/-- A command that counts in a register of the PCI page and raises an event. -/
theorem pciCounted_completes {c : Instr} {a b : Nat} (hx : Effect c s ((s.dev.count a).raise .pci b)) (hq : s.dev.serviceRun = none)
    (hp : s.dev.pageOn .pci = true) (ha : plainReg a = true) (hr : pageReg .pci a = true) (hb : b < 32) :
    Completes c s fun d => Leaves [] (regs [a]) [.pci] s.dev d ∧ d.word a = counted (s.dev.word a) 1 ∧ (d.sticky .pci).getLsbD b = true := by
  have F : Frame [.alarms] (fun x => regs [a] x || x == Reg.HLT.SERVICE_LEVEL || x == Reg.SEC.SUMMARY) [.pci] s.dev (s.dev.count a) :=
    Frame.refl.count (.inl (by simp [regs]))
  have hdom : ∀ x, pageReg .pci x = false → (x == Reg.HLT.SERVICE_LEVEL || x == Reg.SEC.SUMMARY) = false →
      (regs [a] x || x == Reg.HLT.SERVICE_LEVEL || x == Reg.SEC.SUMMARY) = false := fun x hout hy => by
    have hne : x ≠ a := by rintro rfl; rw [hr] at hout; cases hout
    rw [Bool.or_assoc, hy, Bool.or_false]
    simp [regs, hne]
  refine hx.completes [] (regs [a]) [.pci] hq (by decide) (F.raise (.inl (by decide)))
    fun t hs hl => ⟨hl, ?_, hs.kept .pci (by decide) b (F.raised (by decide) (hdom _ (by decide) (by decide)) (hdom _ (by decide) (by decide)) hp hb)⟩
  rw [hs.plain rfl ha, Device.word_raise (sharedReg_of_plainReg ha), Device.word_count, if_pos rfl]
  rfl

/-! ### The event controller (R476-R487) -/

theorem effect_vecEoi {vector : BitVec 6} :
    Effect (.vecEoi vector) s { s.dev with evc := { s.dev.evc with insvc := s.dev.evc.insvc &&& ~~~BitVec.ofNat 64 (2 ^ vector.toNat) } } := rfl

theorem Effect.msixUnmask {vector : BitVec 6} (hp : s.dev.pageOn .pci = true) :
    Effect (.msixUnmask vector) s (s.dev.setMsix vector.toNat { s.dev.msixEntry vector.toNat with mask := false }) :=
  Effect.of_run (show execMsixUnmask vector s = run _ s from rfl) (if_pos hp)

theorem msixUnmask_completes {vector : BitVec 6} (hq : s.dev.serviceRun = none) (hp : s.dev.pageOn .pci = true) :
    Completes (.msixUnmask vector) s fun d => Leaves [.pci] (regs []) [] s.dev d
      ∧ d.msixEntry vector.toNat = { s.dev.msixEntry vector.toNat with mask := false } ∧ ∀ v, v ≠ vector.toNat → d.msixEntry v = s.dev.msixEntry v := by
  refine (Effect.msixUnmask hp).completes [.pci] (regs []) [] hq (by decide) (Frame.refl.pci (by decide)) fun t hs hl => ?_
  obtain ⟨-, -, hmsix, -⟩ := hs.block .pci (by decide) (by decide)
  refine ⟨hl, ?_, fun v hv => ?_⟩
  · rw [Device.msixEntry, hmsix]
    exact SMap.get_set_self _ _ _ _
  · rw [Device.msixEntry, hmsix]
    exact SMap.get_set_ne _ _ _ hv

theorem Effect.eventLogRead : Effect .eventLogRead s { s.dev.popLog.1 with rdata := s.dev.popLog.2 } := rfl

theorem eventLogRead_pops_completes {source : BitVec 8} {frame : BitVec 16} {rest : List (BitVec 8 × BitVec 16)} (hq : s.dev.serviceRun = none)
    (hl : s.dev.evc.log = (source, frame) :: rest) :
    Completes .eventLogRead s fun d => Leaves [.rdata, .evc] (regs []) [] s.dev d
      ∧ d.rdata = (1#1 : BitVec 1) ++ (0 : BitVec 7) ++ frame ++ source ∧ rest <+: d.evc.log := by
  have hx := Effect.eventLogRead (s := s)
  have hpop : s.dev.popLog = ({ s.dev with evc := { s.dev.evc with log := rest } }, (1#1 : BitVec 1) ++ (0 : BitVec 7) ++ frame ++ source) := by
    simp only [Device.popLog, hl]
  rw [hpop] at hx
  refine hx.completes [.rdata, .evc] (regs []) [] hq (by decide) ((Frame.refl.evc (by decide)).rdata (by decide)) fun t hs hl => ?_
  obtain ⟨hlog, -⟩ := hs.block .evc (by decide) (by decide)
  exact ⟨hl, hs.rdata (by decide), hlog⟩

theorem eventLogRead_empty_completes (hq : s.dev.serviceRun = none) (hl : s.dev.evc.log = []) :
    Completes .eventLogRead s fun d => Leaves [.rdata] (regs []) [] s.dev d ∧ d.rdata = 0 := by
  have hx := Effect.eventLogRead (s := s)
  have hpop : s.dev.popLog = (s.dev, 0) := by simp only [Device.popLog, hl]
  rw [hpop] at hx
  exact hx.completes [.rdata] (regs []) [] hq (by decide) (Frame.refl.rdata (by decide)) fun t hs hl => ⟨hl, hs.rdata (by decide)⟩

theorem Effect.srcTestWrite {word : Fin 8} {bits : W32} :
    Effect (.srcTestWrite word bits) s ((bitsOf bits).foldl (fun d b => d.testSource (32 * word.val + b)) s.dev) := rfl

theorem bitsOf_one : bitsOf 1 = [0] := by decide

/-- Settles O26: the endpoint by the frames of its commands; after its reset no message is sent, since the link is down. -/
theorem endpointAndEventController : Obligations.EndpointAndEventController := by
  unfold Obligations.EndpointAndEventController
  refine ⟨fun _ => Effect.endpointReset,
    fun _ => endpointReset_completes,
    fun _ => pcieLinkDown_completes,
    fun _ _ _ => pcieLinkChange_completes,
    fun _ _ _ => pcieLinkUp_completes,
    fun _ _ => configSpaceWrite_completes,
    fun s hq hp => pciCounted_completes (Effect.aerError hp) hq hp (by decide) (by decide) (by decide),
    fun s hq hp => pciCounted_completes (Effect.aerError hp) hq hp (by decide) (by decide) (by decide),
    fun _ _ => effect_vecEoi,
    fun _ _ => msixUnmask_completes,
    fun _ _ _ _ => eventLogRead_pops_completes,
    fun _ => eventLogRead_empty_completes,
    fun s word => ?_,
    fun _ _ _ => Effect.srcTestWrite,
    fun s page bits => rfl⟩
  have hx := Effect.srcTestWrite (s := s) (word := word) (bits := 1)
  rwa [bitsOf_one] at hx

end Sys2Proof.Machine
end

section
/-! PROOFS. Rails, the switches of the power domains and the control outputs (O29). -/

namespace Sys2Proof.Machine

variable {d : Device} {s : State} {rail : Rail} {w : Switch} {r : Nat}

/-! ### Rails (R527-R529) -/

theorem railGood_completes (hq : s.dev.serviceRun = none) :
    Completes (.railGood rail) s fun d => Leaves [] (regs [Reg.PWRD.RAIL_STATUS]) [] s.dev d ∧ d.flag ⟨Reg.PWRD.RAIL_STATUS, rail.val, 1⟩ = true := by
  have hx : Effect (.railGood rail) s (s.dev.setFlag ⟨Reg.PWRD.RAIL_STATUS, rail.val, 1⟩ true) := rfl
  refine hx.completes [] (regs [Reg.PWRD.RAIL_STATUS]) [] hq (by decide)
    (Frame.refl.setFlag (.inl (show regs [Reg.PWRD.RAIL_STATUS] Reg.PWRD.RAIL_STATUS = true by decide)))
    fun t hs hl => ⟨hl, ?_⟩
  rw [hs.flag ⟨Reg.PWRD.RAIL_STATUS, rail.val, 1⟩ rfl (show plainReg Reg.PWRD.RAIL_STATUS = true by decide)]
  exact Device.flag_setFlag_self _ _ _ (show rail.val + 1 ≤ 32 by omega) (show 0 < 1 by decide)

/-- The rail is seen to be bad. -/
def Device.railLost (d : Device) (r : Nat) : Device := d.setFlag ⟨Reg.PWRD.RAIL_STATUS, r, 1⟩ false

theorem Device.railFault_inReset (hg : d.railGood r = true) (hp : d.pwr.por = true) : d.railFault r = d.railLost r :=
  (if_neg (by simp [hg])).trans (if_pos hp)

/-- Rails 0 and 6 carry the always-on domain. -/
theorem Device.railFault_alwaysOn (hg : d.railGood r = true) (hr : r = 0 ∨ r = 6) (hp : d.pwr.por = false) :
    d.railFault r = (d.railLost r).powerOnReset 1 :=
  (if_neg (by simp [hg])).trans ((if_neg (by rw [show (d.setFlag ⟨Reg.PWRD.RAIL_STATUS, r, 1⟩ false).pwr = d.pwr from rfl, hp]; decide)).trans (if_pos hr))

theorem Device.railFault_cuts (hg : d.railGood r = true) (hp : d.pwr.por = false) (h0 : r ≠ 0) (h6 : r ≠ 6) :
    d.railFault r =
      (let d := d.railLost r
       let all := (d.withDependents (d.domains.filter fun i => d.domOn i && (domRails i).contains r) 4).mergeSort (fun a b => decide (b ≤ a))
       let d := d.cutDomains all
       let d := { d with pwr := { d.pwr with faultOff := d.pwr.faultOff ++ all.filter fun i => !d.pwr.faultOff.contains i } }
       ((d.count Reg.PWRD.CNT_RAIL_FAULT).raise .pwrDom 4 r).kick) :=
  (if_neg (by simp [hg])).trans
    ((if_neg (by rw [show (d.setFlag ⟨Reg.PWRD.RAIL_STATUS, r, 1⟩ false).pwr = d.pwr from rfl, hp]; decide)).trans (if_neg (by omega)))

theorem Effect.railFault : Effect (.railFault rail) s (s.dev.railFault rail.val) := rfl

theorem effect_railOk (hg : s.dev.railGood rail.val = true) (h0 : rail.val ≠ 0) (h6 : rail.val ≠ 6) (hp : s.dev.pwr.por = false) :
    Effect (.railOk rail) s
      (let d := s.dev.raise .pwrDom 5 rail.val
       Device.kick ((d.domains.filter fun i => !d.domOn i && d.requested i && d.railsGood i).foldl (fun (d : Device) (i : Nat) => d.queueSwitch i true) d)) :=
  Effect.of_run (show execRailOk rail s = run _ s from rfl) (if_neg (by simp [hg, h0, h6, hp]))

/-! ### Requests and switches (R530-R533) -/

theorem effect_domainRequestWrite {high : Bool} {data : W32} (hp : s.dev.pageOn .pwrDom = true) :
    Effect (.domainRequestWrite high data) s
      (let lo := if high then 32 else 0
       let n := if high then 28 else 32
       Device.kick (((List.range n).filter fun k => s.dev.requested (lo + k) != data.getLsbD k).foldl
         (fun (d : Device) (k : Nat) => d.queueSwitch (lo + k) (data.getLsbD k)) s.dev)) :=
  Effect.of_run (show execDomainRequestWrite high data s = run _ s from rfl) (if_neg (by simp [hp]))

theorem effect_domainSwitchOnDone (hw : s.dev.pwr.sw = some w) (ho : w.on = true) (hr : s.dev.railsGood w.dom = true)
    (hn : (domNeeds w.dom).all (fun n => s.dev.domOn n) = true) : Effect .domainSwitchOnDone s ((s.dev.powerOn w.dom).endSwitch.kick) :=
  Effect.of_run (show execDomainSwitchOnDone s = run _ s from rfl) (by simp only [hw, ho, hr, hn, Bool.and_self, if_true])

theorem effect_domainSwitchTimeout (hw : s.dev.pwr.sw = some w) (ho : w.on = true) : Effect .domainSwitchTimeout s (s.dev.switchFails w.dom) :=
  Effect.of_run (show execDomainSwitchTimeout s = run _ s from rfl) (by simp only [hw, ho, if_true])

theorem effect_domainSwitchOff (hw : s.dev.pwr.sw = some w) (ho : w.on = false) (hi : s.dev.domainIdle w.dom = true) :
    Effect .domainSwitchOff s (((((s.dev.powerOff w.dom).count Reg.PWRD.CNT_SWITCH).raise .pwrDom 1 w.dom).endSwitch).kick) :=
  Effect.of_run (show execDomainSwitchOff s = run _ s from rfl) (by simp only [hw, ho, hi, Bool.not_false, Bool.and_self, if_true])

theorem Effect.domainDrainTimeout (hw : s.dev.pwr.sw = some w) (ho : w.on = false) : Effect .domainDrainTimeout s (s.dev.drainTimeout w) :=
  Effect.of_run (show execDomainDrainTimeout s = run _ s from rfl) (by simp only [hw, ho, Bool.false_eq_true, if_false])

theorem Device.drainTimeout_late (h : (domPages w.dom).filter (fun p => d.flag (fDraining p)) ≠ []) :
    d.drainTimeout w =
      (let e := d.waitUntil (w.since + max 1 (d.fld Reg.PWRD.DRAIN_TIMEOUT_MS) * Config.msCt)
       ((((domPages w.dom).filter fun p => d.flag (fDraining p)).foldl (fun (d : Device) (p : Page) => d.setAbort p) e).count
         Reg.PWRD.CNT_DRAIN_ABORT).raise .pwrDom 3 w.dom) :=
  if_neg (by rwa [List.isEmpty_iff])

/-! ### The control outputs (R593) -/

theorem Device.controlPins_unpowered (h : d.railGood 6 = false) : d.controlPins = ⟨.highZ, .highZ, .highZ, .highZ, .highZ⟩ := if_pos (by rw [h]; rfl)

theorem Device.controlPins_inReset (h : d.railGood 6 = true) (hp : d.pwr.por = true) : d.controlPins = ⟨.low, .low, .highZ, .highZ, .low⟩ :=
  (if_neg (by rw [h]; decide)).trans (if_pos hp)

theorem Device.controlPins_driven (h : d.railGood 6 = true) (hp : d.pwr.por = false) :
    d.controlPins = ⟨d.flowPin d.arr.busy, d.flowPin d.arr.warn, openDrain d.evc.irqLow, openDrain d.replaceLow, if d.trigPin then .high else .low⟩ :=
  (if_neg (by rw [h]; decide)).trans (if_neg (by rw [hp]; decide))

theorem Device.replaceLow_of_running (hp : d.pwr.por = false) : d.replaceLow = d.flag Reg.HLT.REPLACE_REQ := by rw [Device.replaceLow, hp]; rfl

theorem openDrain_low {b : Bool} : openDrain b = .low ↔ b = true := by cases b <;> decide

/-- In S0 the flow-control pins are low. -/
theorem Device.flowPin_s0 {b : Bool} (h : d.fld Reg.HLT.SERVICE_LEVEL_LEVEL = 0) : d.flowPin b = .low := if_pos (by rw [h]; rfl)

/-- Settles O29: the fault of a rail by what it carries, the switches by their ends, the outputs by the power state. -/
theorem railsAndDomains : Obligations.RailsAndDomains := by
  unfold Obligations.RailsAndDomains
  refine ⟨fun _ _ => railGood_completes,
    fun s rail hg hr hp => Device.railFault_alwaysOn hg hr hp ▸ Effect.railFault,
    fun s rail hg hp => ?_,
    fun s rail hg hp h0 h6 => Device.railFault_cuts hg hp h0 h6 ▸ Effect.railFault,
    fun _ _ => effect_railOk,
    fun _ _ _ => effect_domainRequestWrite,
    fun _ _ => effect_domainSwitchOnDone,
    fun _ _ => effect_domainSwitchTimeout,
    fun _ _ => effect_domainSwitchOff,
    fun s w hw ho hd => Device.drainTimeout_late hd ▸ Effect.domainDrainTimeout hw ho,
    fun _ => Device.controlPins_unpowered,
    fun _ => Device.controlPins_inReset,
    fun d h hp h0 => ?_⟩
  · have hx := Effect.railFault (s := s) (rail := rail)
    rwa [Device.railFault_inReset hg hp] at hx
  rw [Device.controlPins_driven h hp, Device.replaceLow_of_running hp]
  exact ⟨Device.flowPin_s0 h0, Device.flowPin_s0 h0, openDrain_low, openDrain_low⟩

end Sys2Proof.Machine
end

section
/-! PROOFS. The steps of start-up, the level request and the resets (O30). -/

namespace Sys2Proof.Machine

variable {d : Device} {s : State} {doses : List Nat} {data : W32} {k : Nat}

/-! ### The steps of start-up (R558) -/

theorem effect_powerOnResetEnd (hp : s.dev.pwr.por = true) (h0 : s.dev.railGood 0 = true) (h6 : s.dev.railGood 6 = true) :
    Effect .powerOnResetEnd s
      (Device.enterStep { s.dev with pwr := { s.dev.pwr with por := false }, mon := { s.dev.mon with leadUntil := s.dev.clock + 500 * Config.usCt } } 2) :=
  Effect.of_run (show execPowerOnResetEnd s = run _ s from rfl) (if_pos (by simp [hp, h0, h6]))

theorem Effect.startupStepDone (hp : s.dev.pwr.por = false) : Effect (.startupStepDone doses) s (s.dev.startupStep doses) :=
  Effect.of_run (show execStartupStepDone doses s = run _ s from rfl) (if_neg (by simp [hp]))

theorem Device.startupStep_two (h : d.hlt.step = 2) : d.startupStep doses = d.recoverStore.enterStep 3 := by simp only [Device.startupStep, h]

theorem Device.startupStep_three (h : d.hlt.step = 3) : d.startupStep doses = (d.startStep3 doses).enterStep 4 := by simp only [Device.startupStep, h]

theorem Device.startupStep_four (h : d.hlt.step = 4) :
    d.startupStep doses = ((d.commitEq (d.storedImage 48 19)).commitCurve (d.storedImage 49 10)).enterStep 5 := by simp only [Device.startupStep, h]

theorem Device.startupStep_five (h : d.hlt.step = 5) (ht : d.hlt.todo = []) : d.startupStep doses = d.enterStep 6 := by
  simp only [Device.startupStep, h, ht, List.isEmpty_nil, if_true]

theorem Device.startupStep_ten (h : d.hlt.step = 10) : d.startupStep doses = d.startStep10 := by simp only [Device.startupStep, h]

/-- While a level above S0 is asked for, start-up goes on. -/
theorem Device.nextStepOr_requested (hl : d.fld Reg.HLT.CTRL_LEVEL_REQ ≠ 0) (n : Nat) : d.nextStepOr n = (d.enterStep n).kick := if_neg hl

theorem Device.startupStep_six (h : d.hlt.step = 6) (ht : d.hlt.todo = []) (h1 : d.domOn 1 = true) (hk : d.flag Reg.TIM0.STATUS_LOCK = true)
    (hl : d.fld Reg.HLT.CTRL_LEVEL_REQ ≠ 0) : d.startupStep doses = (d.enterStep 7).kick := by
  simp only [Device.startupStep, h, ht, h1, hk, List.isEmpty_nil, Bool.and_self, if_true, Device.nextStepOr_requested hl]

theorem Device.startupStep_switched (h : d.hlt.step = k) (h7 : 7 ≤ k) (h9 : k ≤ 9) (ht : d.hlt.todo = []) (hl : d.fld Reg.HLT.CTRL_LEVEL_REQ ≠ 0) :
    d.startupStep doses = (d.enterStep (k + 1)).kick := by
  obtain rfl | rfl | rfl : k = 7 ∨ k = 8 ∨ k = 9 := by omega
  all_goals simp only [Device.startupStep, h, ht, List.isEmpty_nil, if_true, Device.nextStepOr_requested hl]

/-! ### The stall of step 6 (R559) -/

/-- The stall is noted a second after the step began. -/
def Device.stallNoted (d : Device) : Device :=
  let d := d.waitUntil (d.hlt.stepSince + Config.secondCt)
  { d with hlt := { d.hlt with stallRaised := true } }

theorem effect_startStall (h6 : s.dev.hlt.step = 6) (h1 : s.dev.domOn 1 = true) (hk : s.dev.flag Reg.TIM0.STATUS_LOCK = false)
    (hr : s.dev.hlt.stallRaised = false) : Effect .startStall s (s.dev.stallNoted.raise .hlt 6) :=
  Effect.of_run (show execStartStall s = run _ s from rfl) (if_pos (by simp [h6, h1, hk, hr]))

theorem startStall_completes (hq : s.dev.serviceRun = none) (hp : s.dev.pageOn .hlt = true) (h6 : s.dev.hlt.step = 6) (h1 : s.dev.domOn 1 = true)
    (hk : s.dev.flag Reg.TIM0.STATUS_LOCK = false) (hr : s.dev.hlt.stallRaised = false) :
    Completes .startStall s fun d => Leaves [.clock, .tim, .hlt] (regs []) [] s.dev d
      ∧ d.clock = max s.dev.clock (s.dev.hlt.stepSince + Config.secondCt) ∧ d.hlt.stallRaised = true ∧ (d.sticky .hlt).getLsbD 6 = true := by
  have F : Frame [.alarms, .clock, .tim, .hlt] (fun a => regs [] a || a == Reg.HLT.SERVICE_LEVEL || a == Reg.SEC.SUMMARY) [] s.dev s.dev.stallNoted :=
    (Frame.refl.waitUntil (by decide) (by decide)).hlt (by decide)
  refine (effect_startStall h6 h1 hk hr).completes [.clock, .tim, .hlt] (regs []) [] hq (by decide) (F.raise (.inr rfl)) fun t hs hl =>
    ⟨hl, ?_, ?_, hs.kept .hlt (by decide) 6 (F.raised (by decide) (by decide) (by decide) hp (by decide))⟩
  · calc t.clock = (s.dev.stallNoted.raise .hlt 6).clock := hs.clock (by decide)
      _ = s.dev.stallNoted.clock := Device.same_raise .clock
      _ = _ := Device.waitUntil_clock _ _
  · have ht : t.hlt = _ := hs.block .hlt (by decide) (by decide)
    have hx : (s.dev.stallNoted.raise .hlt 6).hlt = _ := Device.same_raise .hlt
    rw [ht, hx]; rfl

/-! ### Level requests (R557, R561) -/

/-- LEVEL_REQ as it is written and stored. -/
def Device.levelAsked (d : Device) (data : W32) : Device := (d.setFld Reg.HLT.CTRL_LEVEL_REQ data.toNat).storeReg Reg.HLT.CTRL

theorem Effect.levelRequestWrite : Effect (.levelRequestWrite data) s (s.dev.writeLevelReq data) := rfl

theorem Device.writeLevelReq_above (hp : d.pageOn .hlt = true) (hl : (d.levelAsked data).fld Reg.HLT.CTRL_LEVEL_REQ ≠ 0) :
    d.writeLevelReq data = (d.levelAsked data).resumeStart.kick :=
  (if_neg (by simp [hp])).trans (if_pos hl)

theorem Device.writeLevelReq_zero (hp : d.pageOn .hlt = true) (hl : (d.levelAsked data).fld Reg.HLT.CTRL_LEVEL_REQ = 0)
    (h0 : (d.levelAsked data).hlt.step = 0) (hs : (d.levelAsked data).hlt.stopping = false)
    (hv : (d.levelAsked data).fld Reg.HLT.SERVICE_LEVEL_LEVEL ≠ 0) : d.writeLevelReq data = (d.levelAsked data).stepDown.kick :=
  (if_neg (by simp [hp])).trans ((if_neg (not_not.mpr hl)).trans (if_pos (by
    rw [Device.levelAsked] at h0 hs hv
    simp [h0, hs, hv])))

/-! ### The resets (R528, R556) -/

theorem Effect.deviceSoftReset : Effect (.deviceSoftReset data) s (s.dev.writeDeviceReset data) := rfl

theorem Device.writeDeviceReset_key (hp : d.pageOn .hlt = true) :
    d.writeDeviceReset 0x5A5A0F0F#32 = (Device.restart { d.cutAll with thm := { d.cutAll.thm with shutdown := false } } 3).kick :=
  if_pos (by simp [hp])

theorem Device.writeDeviceReset_other (h : data ≠ 0x5A5A0F0F#32) : d.writeDeviceReset data = d := if_neg (by simp [h])

theorem effect_resetPin (hp : s.dev.pwr.por = false) : Effect .resetPin s (s.dev.powerOnReset 2) :=
  Effect.of_run (show execResetPin s = run _ s from rfl) (if_neg (by simp [hp]))

theorem Device.powerOnReset_cause : (d.powerOnReset 2).fld Reg.HLT.RESET_CAUSE_CAUSE = 2 := Device.fld_setFld_self _ _ _ (by decide)

theorem Device.powerOnReset_rails {cause : Nat} : (d.powerOnReset cause).word Reg.PWRD.RAIL_STATUS = d.word Reg.PWRD.RAIL_STATUS :=
  (Device.word_setFld_ne (by decide)).trans (Device.word_setWord_self _ _ _)

theorem resetPin_completes (hp : s.dev.pwr.por = false) :
    Completes .resetPin s fun d => d.fld Reg.HLT.RESET_CAUSE_CAUSE = 2 ∧ d.word Reg.PWRD.RAIL_STATUS = s.dev.word Reg.PWRD.RAIL_STATUS
      ∧ d.nvs.pages = (if s.dev.domOn 3 then s.dev.cutStore else s.dev).nvs.pages ∧ d.sec.otp = s.dev.sec.otp ∧ d.clock = s.dev.clock := by
  obtain ⟨t, ht, hpend, hs⟩ := whatFollowsACommand.1 _ _ _ (effect_resetPin hp) rfl
  have hnvs : t.dev.nvs = _ := hs.block .nvs (by decide) (by decide)
  exact ⟨t, ht, hpend, (hs.fld _ rfl (by decide)).trans Device.powerOnReset_cause, (hs.plain rfl (by decide)).trans Device.powerOnReset_rails,
    by rw [hnvs]; rfl, (Device.sec_of_same (hs.block .sec (by decide) (by decide))).1, hs.clock (by decide)⟩

/-- Settles O30: start-up by the step it stands at, a level request by what it asks for, the resets by their cause. -/
theorem startUpAndResets : Obligations.StartUpAndResets := by
  unfold Obligations.StartUpAndResets
  exact ⟨fun _ => effect_powerOnResetEnd,
    fun _ _ hp h => Device.startupStep_two h ▸ Effect.startupStepDone hp,
    fun _ _ hp h => Device.startupStep_three h ▸ Effect.startupStepDone hp,
    fun _ _ hp h => Device.startupStep_four h ▸ Effect.startupStepDone hp,
    fun _ _ hp h ht => Device.startupStep_five h ht ▸ Effect.startupStepDone hp,
    fun _ _ _ hp h h7 h9 ht hl => Device.startupStep_switched h h7 h9 ht hl ▸ Effect.startupStepDone hp,
    fun _ _ hp h => Device.startupStep_ten h ▸ Effect.startupStepDone hp,
    fun _ _ hp h ht h1 hk hl => Device.startupStep_six h ht h1 hk hl ▸ Effect.startupStepDone hp,
    fun _ => startStall_completes,
    fun _ _ hp hl => Device.writeLevelReq_above hp hl ▸ Effect.levelRequestWrite,
    fun _ _ hp hl h0 hs hv => Device.writeLevelReq_zero hp hl h0 hs hv ▸ Effect.levelRequestWrite,
    fun _ hp => Device.writeDeviceReset_key hp ▸ Effect.deviceSoftReset,
    fun s _ h => Device.writeDeviceReset_other (d := s.dev) h ▸ Effect.deviceSoftReset,
    fun _ => effect_resetPin,
    fun _ => resetPin_completes⟩

end Sys2Proof.Machine
end

section
/-! PROOFS. The temperature sensors and the diode (O32). -/

namespace Sys2Proof.Machine

variable {d : Device} {s : State} {sensor : Sensor} {n : Nat} {raw : BitVec 16} {low high : Nat}

/-! ### Readings (R539, R541, R550) -/

/-- Updates of a sensor agree when they agree on what it holds. -/
theorem Device.updSensor_congr {f g : SensorSt → SensorSt} (h : f (d.sensorSt n) = g (d.sensorSt n)) : d.updSensor n f = d.updSensor n g := by
  have hu : SMap.upd (fun _ => {}) d.thm.sensors n f = SMap.upd (fun _ => {}) d.thm.sensors n g := congrArg (SMap.set (fun _ => ({} : SensorSt)) d.thm.sensors n) h
  rw [Device.updSensor, hu]; rfl

theorem Device.sensorLost_updSensor {f : SensorSt → SensorSt} (hf : (f (d.sensorSt n)).failed = (d.sensorSt n).failed) :
    (d.updSensor n f).sensorLost n = d.sensorLost n :=
  congrArg (· || d.sensorOff n) ((congrArg SensorSt.failed (SMap.get_upd_self _ _ _ _)).trans hf)

/-- What a working sensor keeps of a reading. -/
def Device.sensorRead (d : Device) (n : Nat) (raw : BitVec 16) (hot : Nat) : Device :=
  d.updSensor n fun x => { x with raw := raw, valid := true, own := d.sensorTemp n raw, hot := hot, goodSince := none }

/-- A reading passes the tests of R541: the range, and the change since the reading before. -/
def Device.readingOk (d : Device) (n : Nat) (raw : BitVec 16) : Bool :=
  sensorInRange (d.sensorTemp n raw) && (!(d.sensorSt n).valid || decide ((d.sensorTemp n raw - (d.sensorSt n).own).natAbs ≤ 16))

/-- The hot readings in a row, this one included (R550). -/
def Device.hotReadings (d : Device) (n : Nat) (raw : BitVec 16) : Nat := if d.sensorTemp n raw < d.quenchLimit then 0 else (d.sensorSt n).hot + 1

theorem Device.readingOk_of (hr : sensorInRange (d.sensorTemp n raw) = true)
    (hc : (d.sensorSt n).valid = true → (d.sensorTemp n raw - (d.sensorSt n).own).natAbs ≤ 16) : d.readingOk n raw = true := by
  rw [Device.readingOk, hr, Bool.true_and, Bool.or_eq_true, Bool.not_eq_true', decide_eq_true_eq]
  cases hv : (d.sensorSt n).valid with
  | false => exact .inl rfl
  | true => exact .inr (hc hv)

theorem Device.readingOk_outside (hr : sensorInRange (d.sensorTemp n raw) = false) : d.readingOk n raw = false := by rw [Device.readingOk, hr, Bool.false_and]

/-- A reading of a working sensor: it is kept; failing the tests fails the sensor, a second hot one trips the shutdown. -/
theorem Device.readSensor_working (hs : d.hasSensor n = true) (hp : d.pwr.por = false) (hl : d.sensorLost n = false) :
    d.readSensor n raw =
      (let e := d.sensorRead n raw (d.hotReadings n raw)
       let e := if d.readingOk n raw then e else e.failSensor n
       let e := if d.readingOk n raw && decide (2 ≤ d.hotReadings n raw) then e.quench n else e
       e.followCool) := by
  have hf : (d.sensorSt n).failed = false := (Bool.or_eq_false_iff.mp hl).1
  refine (if_neg (by simp [hs, hp])).trans ?_
  change (let hot := if d.sensorLost n then 0 else d.hotReadings n raw
          let good := if (d.sensorSt n).failed && d.readingOk n raw then some ((d.sensorSt n).goodSince.getD d.clock) else none
          let e := d.updSensor n fun x => { x with raw := raw, valid := true, own := d.sensorTemp n raw, hot := hot, goodSince := good }
          let e := if !d.sensorLost n && !d.readingOk n raw then e.failSensor n else e
          let e := if !d.sensorLost n && d.readingOk n raw && decide (2 ≤ d.hotReadings n raw) then e.quench n else e
          e.followCool) = _
  simp only [hl, hf, Bool.false_and, Bool.not_false, Bool.true_and, Bool.false_eq_true, if_false]
  cases d.readingOk n raw <;> rfl

theorem Device.hotReadings_cool (ht : d.sensorTemp n raw < d.quenchLimit) : d.hotReadings n raw = 0 := if_pos ht

theorem Device.hotReadings_hot (ht : d.quenchLimit ≤ d.sensorTemp n raw) : d.hotReadings n raw = (d.sensorSt n).hot + 1 := if_neg (by omega)

theorem Device.readSensor_good (hs : d.hasSensor n = true) (hp : d.pwr.por = false) (hl : d.sensorLost n = false) (hok : d.readingOk n raw = true)
    (ht : d.sensorTemp n raw < d.quenchLimit) : d.readSensor n raw = (d.sensorRead n raw 0).followCool := by
  rw [Device.readSensor_working hs hp hl, hok, Device.hotReadings_cool ht]; rfl

theorem Device.readSensor_bad (hs : d.hasSensor n = true) (hp : d.pwr.por = false) (hl : d.sensorLost n = false) (hok : d.readingOk n raw = false)
    (ht : d.sensorTemp n raw < d.quenchLimit) : d.readSensor n raw = ((d.sensorRead n raw 0).failSensor n).followCool := by
  rw [Device.readSensor_working hs hp hl, hok, Device.hotReadings_cool ht]; rfl

theorem Device.readSensor_hotAgain (hs : d.hasSensor n = true) (hp : d.pwr.por = false) (hl : d.sensorLost n = false) (hok : d.readingOk n raw = true)
    (ht : d.quenchLimit ≤ d.sensorTemp n raw) (hh : (d.sensorSt n).hot ≠ 0) :
    d.readSensor n raw = ((d.sensorRead n raw ((d.sensorSt n).hot + 1)).quench n).followCool := by
  rw [Device.readSensor_working hs hp hl, hok, Device.hotReadings_hot ht, decide_eq_true (show 2 ≤ (d.sensorSt n).hot + 1 by omega)]; rfl

theorem Effect.sensorReading : Effect (.sensorReading sensor raw) s (s.dev.readSensor sensor.val raw) := rfl

/-! ### Sensors that fail and are cleared (R541, R542) -/

theorem Device.failSensor_working (hl : d.sensorLost n = false) :
    d.failSensor n = Device.followSensors (((d.updSensor n fun x => { x with failed := true, goodSince := none, hot := 0 }).count Reg.THM.CNT_SENSOR_FAIL).raise .thm 2 n) :=
  if_neg (by simp [hl])

theorem effect_sensorNoReading (hs : s.dev.hasSensor sensor.val = true) (hp : s.dev.pwr.por = false) :
    Effect (.sensorNoReading sensor) s (s.dev.failSensor sensor.val).followCool :=
  Effect.of_run (show execSensorNoReading sensor s = run _ s from rfl) (if_pos (by simp [hs, hp]))

theorem effect_sensorAutoClear {t : Nat} (hg : (s.dev.sensorSt sensor.val).goodSince = some t) (hf : (s.dev.sensorSt sensor.val).failed = true)
    (ho : s.dev.sensorOff sensor.val = false) :
    Effect (.sensorAutoClear sensor) s ((s.dev.waitUntil (t + 10 * Config.secondCt)).clearSensor sensor.val).followCool :=
  Effect.of_run (show execSensorAutoClear sensor s = run _ s from rfl) (by simp only [hg, hf, ho, Bool.not_false, Bool.and_self, if_true])

/-- A word with one bit set names that bit alone. -/
theorem bitsOf_single (i : Fin 32) : ((List.range 32).filter fun b => (BitVec.ofNat 32 (2 ^ i.val)).getLsbD b) = [i.val] := by decide +revert

theorem Device.writeSensClear_single (hs : d.hasSensor n = true) (hf : (d.sensorSt n).failed = true) (ho : d.sensorOff n = false)
    (hv : (d.sensorSt n).valid = true) (hr : sensorInRange (d.sensorSt n).own = true) :
    d.writeSensClear (n / 32) (BitVec.ofNat 32 (2 ^ (n % 32))) = (d.clearSensor n).followCool := by
  rw [Device.writeSensClear, bitsOf_single ⟨n % 32, Nat.mod_lt _ (by decide)⟩, List.foldl_cons, List.foldl_nil]
  simp only [Nat.div_add_mod, hs, hf, ho, hv, hr, Bool.not_false, Bool.and_self, if_true]

theorem effect_sensorClearWrite {word : Fin 3} {bits : W32} (hp : s.dev.pageOn .thm = true) :
    Effect (.sensorClearWrite word bits) s (s.dev.writeSensClear word.val bits) :=
  Effect.of_run (show execSensorClearWrite word bits s = run _ s from rfl) (if_pos hp)

/-! ### The diode (R540) -/

/-- DIODE shows a temperature. -/
def Device.diodeShown (d : Device) (t : Int) : Device := (d.setFld Reg.THM.DIODE_TEMP (BitVec.ofInt 12 t).toNat).setFlag Reg.THM.DIODE_VALID true

theorem Device.flag_diodeShown {t : Int} : (d.diodeShown t).flag Reg.THM.DIODE_VALID = true := Device.flag_setFlag_self _ _ _ (by decide) (by decide)

theorem Device.fld_diodeShown {t : Int} : (d.diodeShown t).fld Reg.THM.DIODE_TEMP = (BitVec.ofInt 12 t).toNat :=
  calc (d.diodeShown t).fld Reg.THM.DIODE_TEMP
      _ = (d.setFld Reg.THM.DIODE_TEMP (BitVec.ofInt 12 t).toNat).fld Reg.THM.DIODE_TEMP := Device.fld_setFld_other _ Reg.THM.DIODE_VALID _ _ (.inr (by decide))
      _ = (BitVec.ofInt 12 t).toNat % 2 ^ 12 := Device.fld_setFld_self _ _ _ (by decide)
      _ = _ := Nat.mod_eq_of_lt (BitVec.isLt _)

theorem Device.sensorOff_diodeShown (t : Int) (n : Nat) : (d.diodeShown t).sensorOff n = d.sensorOff n := by
  have ha : Reg.THM.SENS_DISABLE (n / 32) ≠ Reg.THM.DIODE := by simp only [Reg.THM.SENS_DISABLE, Reg.THM.DIODE]; omega
  have hw : (d.diodeShown t).word (Reg.THM.SENS_DISABLE (n / 32)) = d.word (Reg.THM.SENS_DISABLE (n / 32)) :=
    (Device.word_setFlag_ne (f := Reg.THM.DIODE_VALID) ha).trans (Device.word_setFld_ne (f := Reg.THM.DIODE_TEMP) ha)
  rw [Device.sensorOff, hw]; rfl

theorem Device.groupLost_diodeShown (t : Int) (g : Nat) : (d.diodeShown t).groupLost g = d.groupLost g := by
  have hl : ∀ n, (d.diodeShown t).sensorLost n = d.sensorLost n := fun n => congrArg ((d.sensorSt n).failed || ·) (Device.sensorOff_diodeShown t n)
  simp only [Device.groupLost, hl]; rfl

/-- No sensor of a lost group works. -/
theorem Device.noneWorks_of_groupLost {g : Nat} (h : d.groupLost g = true) : (d.allSensors.filter fun n => sensorGroup n = g && d.sensorWorks n) = [] := by
  refine List.filter_eq_nil_iff.mpr fun n hn hw => ?_
  obtain ⟨hg, hworks⟩ := Bool.and_eq_true_iff.mp hw
  have hlost : d.sensorLost n = true := List.all_eq_true.mp h n (List.mem_filter.mpr ⟨hn, hg⟩)
  simp only [Device.sensorWorks, Bool.and_eq_true, Bool.not_eq_true'] at hworks
  simp [Device.sensorLost, hworks] at hlost

/-- The diode against the mean of the working sensors of the concentrator. -/
def Device.diodeChecked (d : Device) (t : Int) : Device :=
  let works := d.allSensors.filter fun n => sensorGroup n = 4 && d.sensorWorks n
  let sum := (works.map fun n => (d.sensorSt n).own).sum
  if !works.isEmpty && decide (40 * works.length < ((works.length : Int) * t - sum).natAbs) then d.raise .thm 8 else d

/-- With the concentrator's sensors lost there is nothing to compare with. -/
theorem Device.diodeChecked_lost {t : Int} (hg : d.groupLost 4 = true) : d.diodeChecked t = d :=
  if_neg (by rw [Device.noneWorks_of_groupLost hg]; exact Bool.false_ne_true)

/-- The diode's hot measurements in a row, this one included (R540). -/
def Device.diodeHotReadings (d : Device) (t : Int) : Nat := if d.groupLost 4 && decide (d.quenchLimit ≤ t) then d.thm.diodeHot + 1 else 0

/-- A measurement of the diode is kept. -/
def Device.diodeKept (d : Device) (t : Int) (hot : Nat) : Device := { d with thm := { d.thm with diode := t, diodeHot := hot } }

theorem Device.measureDiode_eq {e : Device} {t : Int} {hot : Nat} (ht : diodeTemp low high = t) (he : (d.diodeShown t).diodeChecked t = e)
    (hh : e.diodeHotReadings t = hot) :
    d.measureDiode low high =
      if 2 ≤ hot then (e.diodeKept t hot).draw.quench (Config.diodeTripSensor (e.diodeKept t hot).free).toNat else e.diodeKept t hot := by
  subst ht he hh; rfl

theorem Device.measureDiode_cool (hg : d.groupLost 4 = true) (ht : diodeTemp low high < d.quenchLimit) :
    d.measureDiode low high = (d.diodeShown (diodeTemp low high)).diodeKept (diodeTemp low high) 0 := by
  have hlost : (d.diodeShown (diodeTemp low high)).groupLost 4 = true := (Device.groupLost_diodeShown _ _).trans hg
  have hlimit : (d.diodeShown (diodeTemp low high)).quenchLimit = d.quenchLimit :=
    congrArg (fun k : Nat => (8 * k : Int)) ((Device.fld_setFlag_ne (by decide)).trans (Device.fld_setFld_ne (by decide)))
  have hhot : (d.diodeShown (diodeTemp low high)).diodeHotReadings (diodeTemp low high) = 0 := if_neg (by rw [hlimit]; simp [ht])
  exact (Device.measureDiode_eq rfl (Device.diodeChecked_lost hlost) hhot).trans (if_neg (by decide))

theorem diodeMeasure_completes (hq : s.dev.serviceRun = none) (hp : s.dev.pwr.por = false) (hg : s.dev.groupLost 4 = true)
    (ht : diodeTemp low high < s.dev.quenchLimit) :
    Completes (.diodeMeasure low high) s fun d => Leaves [.thm] (regs [Reg.THM.DIODE]) [] s.dev d
      ∧ d.fld Reg.THM.DIODE_TEMP = (BitVec.ofInt 12 (diodeTemp low high)).toNat ∧ d.flag Reg.THM.DIODE_VALID = true
      ∧ d.thm = { s.dev.thm with diode := diodeTemp low high, diodeHot := 0 } := by
  have hx : Effect (.diodeMeasure low high) s (s.dev.measureDiode low high) :=
    Effect.of_run (show execDiodeMeasure low high s = run _ s from rfl) (if_neg (by simp [hp]))
  rw [Device.measureDiode_cool hg ht] at hx
  refine hx.completes [.thm] (regs [Reg.THM.DIODE]) [] hq (by decide) (((Frame.refl.setFld (.inl (by decide))).setFlag (.inl (by decide))).thm (by decide))
    fun t hs hl => ⟨hl, (hs.fld _ rfl (by decide)).trans (Device.fld_diodeShown (d := s.dev)),
      (hs.flag _ rfl (by decide)).trans (Device.flag_diodeShown (d := s.dev)), hs.block .thm (by decide) (by decide)⟩

/-- Settles O32: a reading by its tests and its temperature, a sensor by what clears it, the diode in place of a lost group. -/
theorem sensorsAndDiode : Obligations.SensorsAndDiode := by
  unfold Obligations.SensorsAndDiode
  refine ⟨fun s sensor raw hs hp hl hr hc ht => Device.readSensor_good hs hp hl (Device.readingOk_of hr hc) ht ▸ Effect.sensorReading,
    fun s sensor raw hs hp hl hr ht => Device.readSensor_bad hs hp hl (Device.readingOk_outside hr) ht ▸ Effect.sensorReading,
    fun s sensor raw hs hp hl hr hc ht hh => ?_,
    fun s sensor hs hp hl => Device.failSensor_working hl ▸ effect_sensorNoReading hs hp,
    fun _ _ _ => effect_sensorAutoClear,
    fun s sensor word hp hs hf ho hv hr hw => ?_,
    fun _ _ _ => diodeMeasure_completes⟩
  · have hx := Effect.sensorReading (s := s) (sensor := sensor) (raw := raw)
    rwa [Device.readSensor_hotAgain hs hp hl (Device.readingOk_of hr hc) ht hh, Device.sensorRead, Device.updSensor_congr
      (g := fun x => { x with raw := raw, valid := true, own := s.dev.sensorTemp sensor.val raw, hot := x.hot + 1, goodSince := none }) rfl] at hx
  · have hx := effect_sensorClearWrite (word := word) (bits := BitVec.ofNat 32 (2 ^ (sensor.val % 32))) hp
    rwa [hw, Device.writeSensClear_single hs hf ho hv hr] at hx

end Sys2Proof.Machine
end

section
/-! PROOFS. Throttling, pauses, the curve table, the limits and the restart after a shutdown (O33). -/

namespace Sys2Proof.Machine

variable {d e : Device} {s : State} {t : Int} {n duty : Nat} {data : W32}

/-! ### The update of the duty (R544, R545) -/

theorem Effect.throttleUpdate (hp : s.dev.pwr.por = false) : Effect .throttleUpdate s s.dev.throttle :=
  Effect.of_run (show execThrottleUpdate s = run _ s from rfl) (if_neg (by simp [hp]))

/-- The duty that the curve asks for at a temperature, before HOLD: up to the curve, down to the curve shifted by the hysteresis. -/
def Device.curveDuty (d : Device) (t : Int) : Nat :=
  let was := d.fld Reg.THM.STATUS_DUTY
  if was ≤ d.curveNow.at t then d.curveNow.at t else if d.curveNow.at (t + d.curveNow.hyst) < was then d.curveNow.at (t + d.curveNow.hyst) else was

/-- The next duty: HOLD keeps it from falling. -/
def Device.nextDuty (d : Device) (t : Int) : Nat :=
  if d.flag Reg.THM.STATUS_HOLD && decide (d.curveDuty t < d.fld Reg.THM.STATUS_DUTY) then d.fld Reg.THM.STATUS_DUTY else d.curveDuty t

theorem Device.throttle_reading (hd : e = d.applyCurve) (ht : e.throttleTemp = some (t, n)) : d.throttle = e.showThrottle t n (e.nextDuty t) := by
  subst hd
  simp only [Device.throttle, ht]; rfl

theorem Device.nextDuty_rising (h : d.fld Reg.THM.STATUS_DUTY ≤ d.curveNow.at t) : d.nextDuty t = d.curveNow.at t := by
  have hc : d.curveDuty t = d.curveNow.at t := if_pos h
  rw [Device.nextDuty, hc, decide_eq_false (not_lt.mpr h), Bool.and_false]; rfl

theorem Device.curveDuty_between (hr : d.curveNow.at t ≤ d.fld Reg.THM.STATUS_DUTY) (hf : d.fld Reg.THM.STATUS_DUTY ≤ d.curveNow.at (t + d.curveNow.hyst)) :
    d.curveDuty t = d.fld Reg.THM.STATUS_DUTY := by
  simp only [Device.curveDuty, not_lt.mpr hf, if_false]
  split
  case isTrue h => exact Nat.le_antisymm hr h
  case isFalse => rfl

theorem Device.nextDuty_between (hr : d.curveNow.at t ≤ d.fld Reg.THM.STATUS_DUTY) (hf : d.fld Reg.THM.STATUS_DUTY ≤ d.curveNow.at (t + d.curveNow.hyst)) :
    d.nextDuty t = d.fld Reg.THM.STATUS_DUTY := by
  rw [Device.nextDuty, Device.curveDuty_between hr hf, ite_self]

theorem Device.curveDuty_falling (hr : d.curveNow.at t < d.fld Reg.THM.STATUS_DUTY) (hf : d.curveNow.at (t + d.curveNow.hyst) < d.fld Reg.THM.STATUS_DUTY) :
    d.curveDuty t = d.curveNow.at (t + d.curveNow.hyst) := (if_neg (not_le.mpr hr)).trans (if_pos hf)

theorem Device.nextDuty_falling (hr : d.curveNow.at t < d.fld Reg.THM.STATUS_DUTY) (hf : d.curveNow.at (t + d.curveNow.hyst) < d.fld Reg.THM.STATUS_DUTY)
    (hh : d.flag Reg.THM.STATUS_HOLD = false) : d.nextDuty t = d.curveNow.at (t + d.curveNow.hyst) := by
  rw [Device.nextDuty, hh, Device.curveDuty_falling hr hf]; rfl

theorem Device.nextDuty_held (hr : d.curveNow.at t < d.fld Reg.THM.STATUS_DUTY) (hf : d.curveNow.at (t + d.curveNow.hyst) < d.fld Reg.THM.STATUS_DUTY)
    (hh : d.flag Reg.THM.STATUS_HOLD = true) : d.nextDuty t = d.fld Reg.THM.STATUS_DUTY := by
  rw [Device.nextDuty, hh, Device.curveDuty_falling hr hf, decide_eq_true hf]; rfl

/-- An update whose next duty is known. -/
theorem effect_throttleUpdate (hp : s.dev.pwr.por = false) (hd : d = s.dev.applyCurve) (ht : d.throttleTemp = some (t, n)) (hn : d.nextDuty t = duty) :
    Effect .throttleUpdate s (d.showThrottle t n duty) := by
  have hx := Effect.throttleUpdate hp
  rwa [Device.throttle_reading hd ht, hn] at hx

/-! ### Pauses (R549) -/

theorem effect_pauseEnd {kind : PacedKind} {start stop : Nat} (h : s.dev.thm.pauses.find? (fun p => p.1 == kind) = some (kind, start, stop)) :
    Effect (.pauseEnd kind) s
      (let d := s.dev.waitUntil stop
       let d := { d with thm := { d.thm with pauses := d.thm.pauses.filter (fun q => q.1 != kind), pauseTicks := (d.thm.pauseTicks + (stop - start)) % Config.msCt } }
       (d.count Reg.THM.CNT_PAUSE_MS ((s.dev.thm.pauseTicks + (stop - start)) / Config.msCt)).kickStore) :=
  Effect.of_run (show execPauseEnd kind s = run _ s from rfl) (by simp only [h]; rfl)

/-! ### The curve table (R547) -/

theorem Effect.curveCommit (hp : s.dev.pageOn .thm = true) : Effect .curveCommit s (s.dev.commitCurve (s.dev.stagedImage .curve)) :=
  Effect.of_run (show execCurveCommit s = run _ s from rfl) (if_pos hp)

theorem Device.commitCurve_bad {ws : List W64} (h : curveImageOk ws = false) :
    d.commitCurve ws = (d.setFlag Reg.THM.CURVE_CTRL_REJECTED true).raise .thm 11 := if_neg (by simp [h])

/-- The curve that an image asks for, with the image's words. -/
def imageCurve (ws : List W64) : Curve × List (Nat × W64) :=
  (curveOf ws ((ws.getD 0 0).toNat / 2 ^ 32 % 256), ws.zipIdx.map fun x => (x.2, x.1))

theorem Device.commitCurve_ok {ws : List W64} (h : curveImageOk ws = true) :
    d.commitCurve ws = Device.setFlag { d with thm := { d.thm with next := some (imageCurve ws) } } Reg.THM.CURVE_CTRL_REJECTED false := if_pos h

theorem curveCommit_rejects (hq : s.dev.serviceRun = none) (hp : s.dev.pageOn .thm = true) (h : curveImageOk (s.dev.stagedImage .curve) = false) :
    Completes .curveCommit s fun d => Leaves [] (regs [Reg.THM.CURVE_CTRL]) [.thm] s.dev d
      ∧ d.flag Reg.THM.CURVE_CTRL_REJECTED = true ∧ (d.sticky .thm).getLsbD 11 = true ∧ d.thm = s.dev.thm := by
  have F : Frame [.alarms] (fun a => regs [Reg.THM.CURVE_CTRL] a || a == Reg.HLT.SERVICE_LEVEL || a == Reg.SEC.SUMMARY) [.thm] s.dev
      (s.dev.setFlag Reg.THM.CURVE_CTRL_REJECTED true) := Frame.refl.setFlag (.inl (by decide))
  have hx := Effect.curveCommit hp
  rw [Device.commitCurve_bad h] at hx
  refine hx.completes [] (regs [Reg.THM.CURVE_CTRL]) [.thm] hq (by decide) (F.raise (.inl (by decide))) fun t hs hl =>
    ⟨hl, ?_, hs.kept .thm (by decide) 11 (F.raised (by decide) (by decide) (by decide) hp (by decide)), hl.block .thm (by decide) (by decide)⟩
  rw [hs.flag _ rfl (by decide), Device.flag_raise (by decide)]
  exact Device.flag_setFlag_self _ _ _ (by decide) (by decide)

theorem curveCommit_takes (hq : s.dev.serviceRun = none) (hp : s.dev.pageOn .thm = true) (h : curveImageOk (s.dev.stagedImage .curve) = true) :
    Completes .curveCommit s fun d => Leaves [.thm] (regs [Reg.THM.CURVE_CTRL]) [] s.dev d
      ∧ d.flag Reg.THM.CURVE_CTRL_REJECTED = false ∧ d.thm.curve = s.dev.thm.curve ∧ d.thm.next = some (imageCurve (s.dev.stagedImage .curve)) := by
  have hx := Effect.curveCommit hp
  rw [Device.commitCurve_ok h] at hx
  refine hx.completes [.thm] (regs [Reg.THM.CURVE_CTRL]) [] hq (by decide) ((Frame.refl.thm (by decide)).setFlag (.inl (by decide))) fun t hs hl => ?_
  have ht : t.thm = _ := hs.block .thm (by decide) (by decide)
  refine ⟨hl, ?_, by rw [ht]; rfl, by rw [ht]; rfl⟩
  rw [hs.flag _ rfl (by decide)]
  exact Device.flag_setFlag_self _ _ _ (by decide) (by decide)

theorem Effect.curveSave (hp : s.dev.pageOn .thm = true) : Effect .curveSave s s.dev.saveCurve :=
  Effect.of_run (show execCurveSave s = run _ s from rfl) (if_pos hp)

/-- The words that SAVE stores: the image of the curve in force, or of the built-in one. -/
def Device.curveStored (d : Device) : List (Nat × Nat) :=
  if d.thm.curve.isSome then d.thm.curveWords.map fun w => (w.1, w.2.toNat) else builtinImage.zipIdx.map fun w => (w.2, w.1.toNat)

theorem Device.saveCurve_asks (hn : d.pageOn .nvs = true) (hb : d.flag Reg.THM.CURVE_CTRL_SAVE_BUSY = false) :
    d.saveCurve = (d.setFlag Reg.THM.CURVE_CTRL_SAVE_BUSY true).store { page := 49, words := d.curveStored, owner := .curveSave } := if_neg (by simp [hn, hb])

theorem Device.curveStored_committed {c : Curve} (h : d.thm.curve = some c) : d.curveStored = d.thm.curveWords.map fun w => (w.1, w.2.toNat) :=
  if_pos (by rw [h]; rfl)

theorem Device.curveStored_builtin (h : d.thm.curve = none) : d.curveStored = builtinImage.zipIdx.map fun w => (w.2, w.1.toNat) :=
  if_neg (by rw [h]; decide)

/-! ### The limits and the restart (R551, R552) -/

theorem Device.thm_kickStore : d.kickStore.thm = d.thm := by
  rw [Device.kickStore]
  split
  · split <;> rfl
  · rfl

theorem Device.thm_store {w : StoreWrite} : (d.store w).thm = d.thm := by
  rw [Device.store]
  split
  · exact Device.thm_kickStore
  · rfl

/-- Without a shutdown nothing waits for the sensors to cool. -/
theorem Device.followCool_running (h : d.thm.shutdown = false) : d.followCool = d := if_pos (by rw [h]; rfl)

theorem effect_quenchLimitWrite (hp : s.dev.pageOn .thm = true) (h : s.dev.thm.shutdown = false) :
    Effect (.quenchLimitWrite data) s (s.dev.writeQuench data) :=
  Effect.of_run (show execQuenchLimitWrite data s = run _ s from rfl)
    ((if_pos hp).trans (Device.followCool_running ((congrArg ThmSt.shutdown Device.thm_store).trans h)))

theorem effect_quenchRestart {t : Nat} (hc : s.dev.thm.coolSince = some t) (h : s.dev.thm.shutdown = true) :
    Effect .quenchRestart s
      (let d := s.dev.waitUntil (t + Config.secondCt)
       let d := (Device.count { d with thm := { d.thm with shutdown := false, coolSince := none } } Reg.THM.CNT_QUENCH).raise .thm 1
       let w : StoreWrite := { page := 37, words := [(Reg.THM.CNT_QUENCH, (d.word Reg.THM.CNT_QUENCH).toNat)], owner := .counter Reg.THM.CNT_QUENCH }
       Device.restart { d with nvs := { d.nvs with again := d.nvs.again ++ [w] } } 4) :=
  Effect.of_run (show execQuenchRestart s = run _ s from rfl) (by simp only [hc, h, if_true])

/-- Settles O33: the next duty by where the present one lies, and each command by the state it finds. -/
theorem throttlingAndRestart : Obligations.ThrottlingAndRestart := by
  unfold Obligations.ThrottlingAndRestart
  exact ⟨fun s t n d duty hp hd ht hw hr => effect_throttleUpdate hp hd ht ((Device.nextDuty_rising (hw.trans_eq hr.symm)).trans hr),
    fun s t n d duty hp hd ht hw hr hf => effect_throttleUpdate hp hd ht
      ((Device.nextDuty_between (hr.trans_eq hw.symm) (hw.trans_le hf)).trans hw),
    fun s t n d duty hp hd ht hw hr hf hh => effect_throttleUpdate hp hd ht ((Device.nextDuty_falling hr (hf.trans_lt hw) hh).trans hf),
    fun s t n d duty hp hd ht hw hr hf hh => effect_throttleUpdate hp hd ht
      ((Device.nextDuty_held (hr.trans_eq hw.symm) (hf.trans_eq hw.symm) hh).trans hw),
    fun _ _ _ _ => effect_pauseEnd,
    fun _ => curveCommit_rejects,
    fun _ => curveCommit_takes,
    fun s c hp hn hb hc => Device.curveStored_committed hc ▸ Device.saveCurve_asks hn hb ▸ Effect.curveSave hp,
    fun s hp hn hb hc => Device.curveStored_builtin hc ▸ Device.saveCurve_asks hn hb ▸ Effect.curveSave hp,
    fun _ _ => effect_quenchLimitWrite,
    fun _ _ => effect_quenchRestart⟩

end Sys2Proof.Machine
end

section
/-! PROOFS. Health, the replace request, upsets, the loss of REFCLK and the writes of the store (O31). -/

namespace Sys2Proof.Machine

variable {d e : Device} {s : State} {w : StoreWrite} {doses : List Nat} {n : Nat}

/-! ### Failed clusters and the replace request (R570, R572) -/

theorem Effect.failedClustersUpdate (hp : s.dev.pwr.por = false) :
    Effect .failedClustersUpdate s
      (let d := s.dev.setFld Reg.HLT.FAILED_CLUSTERS_COUNT s.dev.failedClusters
       (if s.dev.failedClusters = s.dev.fld Reg.HLT.FAILED_CLUSTERS_COUNT then d else d.raise .hlt 2).evalCriteria) :=
  Effect.of_run (show execFailedClustersUpdate s = run _ s from rfl) (if_neg (by simp [hp]))

theorem effect_failedClustersUpdate_same (hp : s.dev.pwr.por = false) (h : s.dev.failedClusters = s.dev.fld Reg.HLT.FAILED_CLUSTERS_COUNT) :
    Effect .failedClustersUpdate s ((s.dev.setFld Reg.HLT.FAILED_CLUSTERS_COUNT s.dev.failedClusters).evalCriteria) := by
  have hx := Effect.failedClustersUpdate hp
  simpa only [if_pos h] using hx

theorem effect_failedClustersUpdate_changed (hp : s.dev.pwr.por = false) (h : s.dev.failedClusters ≠ s.dev.fld Reg.HLT.FAILED_CLUSTERS_COUNT) :
    Effect .failedClustersUpdate s (((s.dev.setFld Reg.HLT.FAILED_CLUSTERS_COUNT s.dev.failedClusters).raise .hlt 2).evalCriteria) := by
  have hx := Effect.failedClustersUpdate hp
  simpa only [if_neg h] using hx

theorem effect_replaceCauseClear {bits : W32} (hp : s.dev.pageOn .hlt = true)
    (h : s.dev.fld Reg.HLT.REPLACE_CAUSE &&& (bits.toNat % 64 &&& (63 ^^^ s.dev.fld Reg.HLT.REPLACE_NOW)) ≠ 0) :
    Effect (.replaceCauseClear bits) s
      (((s.dev.setFld Reg.HLT.REPLACE_CAUSE (s.dev.fld Reg.HLT.REPLACE_CAUSE &&& (63 ^^^ (bits.toNat % 64 &&& (63 ^^^ s.dev.fld Reg.HLT.REPLACE_NOW))))).followCause).storeReg
        Reg.HLT.REPLACE) :=
  Effect.of_run (show execReplaceCauseClear bits s = run _ s from rfl) ((if_pos hp).trans (if_neg h))

theorem effect_replaceEventRepeat (h : s.dev.flag Reg.HLT.REPLACE_REQ = true) : Effect .replaceEventRepeat s (s.dev.eventMessage 249 1 0) :=
  Effect.of_run (show execReplaceEventRepeat s = run _ s from rfl) (if_pos h)

theorem effect_doseRead (hp : s.dev.pwr.por = false) : Effect (.doseRead doses) s (s.dev.readDoses doses) :=
  Effect.of_run (show execDoseRead doses s = run _ s from rfl) (if_neg (by simp [hp]))

/-! ### Upsets (R566, R567) -/

/-- The hour's sum begins anew, and shows what it came to. -/
def Device.hourShown (d : Device) (n : Nat) : Device := Device.setFld { d with hlt := { d.hlt with hourUpsets := 0 } } Reg.HLT.UPS_HOUR_COUNT n

/-- The entry of the hour in the health log: the highest dose and the upsets. -/
def Device.hourEntry (d : Device) (n : Nat) : W64 := BitVec.ofNat 64 (((List.range 5).map fun k => d.fld (Reg.HLT.DOSE_KGY k)).foldl max 0 + n * 2 ^ 32)

/-- The hour is shown and entered in the health log. -/
def Device.hourLogged (d : Device) (n : Nat) : Device := (d.hourShown n).healthLog 0x07 ((d.hourShown n).hourEntry n)

theorem Frame.hourLogged (h : Frame bs rs ps d e) (hb : Block.hlt ∈ bs) (hr : rs Reg.HLT.UPS_HOUR = true) : Frame bs rs ps d (e.hourLogged n) :=
  ((h.hlt hb).setFld (f := Reg.HLT.UPS_HOUR_COUNT) (.inl hr)).healthLog

theorem Device.hourUpsets_hourLogged : (d.hourLogged n).hlt.hourUpsets = 0 := by
  have hh : (d.hourLogged n).hlt = _ := Frame.healthLog (Frame.refl (bs := []) (rs := fun _ => false) (ps := [])) |>.blocks .hlt (by decide)
  rw [hh]; rfl

theorem Device.shown_hourLogged : (d.hourLogged n).fld Reg.HLT.UPS_HOUR_COUNT = n % 2 ^ Reg.HLT.UPS_HOUR_COUNT.width := by
  have hw : (d.hourLogged n).word Reg.HLT.UPS_HOUR = (d.hourShown n).word Reg.HLT.UPS_HOUR :=
    Frame.healthLog (Frame.refl (bs := []) (rs := fun _ => false) (ps := [])) |>.words _ rfl rfl
  exact (congrArg Reg.HLT.UPS_HOUR_COUNT.of hw).trans (Device.fld_setFld_self _ Reg.HLT.UPS_HOUR_COUNT n (by decide))

theorem limit_hourLogged : (d.hourLogged n).fld Reg.HLT.UPSET_LIMIT_COUNT = d.fld Reg.HLT.UPSET_LIMIT_COUNT := by
  have hf : (d.hourLogged n).word Reg.HLT.UPSET_LIMIT = d.word Reg.HLT.UPSET_LIMIT :=
    (Frame.hourLogged (bs := [.hlt]) (rs := regs [Reg.HLT.UPS_HOUR]) (ps := []) Frame.refl (by decide) (by decide)).words _ rfl rfl
  exact congrArg Reg.HLT.UPSET_LIMIT_COUNT.of hf

theorem Effect.upsetHour (hp : s.dev.pwr.por = false) (hn : min s.dev.hlt.hourUpsets 0xFFFFFFFF = n) :
    Effect .upsetHour s (if s.dev.fld Reg.HLT.UPSET_LIMIT_COUNT < n then (s.dev.hourLogged n).raise .hlt 3 else s.dev.hourLogged n) := by
  have hx : Effect .upsetHour s
      (if (s.dev.hourLogged n).fld Reg.HLT.UPSET_LIMIT_COUNT < n then (s.dev.hourLogged n).raise .hlt 3 else s.dev.hourLogged n) := by
    subst hn
    exact Effect.of_run (show execUpsetHour s = run _ s from rfl) (if_neg (by simp [hp]))
  rwa [limit_hourLogged] at hx

theorem upsetHour_within (hq : s.dev.serviceRun = none) (hp : s.dev.pwr.por = false) (hu : s.dev.hlt.hourUpsets ≤ s.dev.fld Reg.HLT.UPSET_LIMIT_COUNT)
    (hm : s.dev.hlt.hourUpsets ≤ 0xFFFFFFFF) :
    Completes .upsetHour s fun d => Leaves [.hlt] (regs [Reg.HLT.UPS_HOUR]) [] s.dev d
      ∧ d.fld Reg.HLT.UPS_HOUR_COUNT = s.dev.hlt.hourUpsets % 2 ^ Reg.HLT.UPS_HOUR_COUNT.width ∧ d.hlt.hourUpsets = 0 := by
  have hx := Effect.upsetHour hp (Nat.min_eq_left hm)
  rw [if_neg (not_lt.mpr hu)] at hx
  refine hx.completes [.hlt] (regs [Reg.HLT.UPS_HOUR]) [] hq (by decide) (Frame.refl.hourLogged (by decide) (by decide)) fun t hs hl =>
    ⟨hl, (hs.fld _ rfl (by decide)).trans Device.shown_hourLogged, ?_⟩
  have ht : t.hlt = _ := hs.block .hlt (by decide) (by decide)
  rw [ht]; exact Device.hourUpsets_hourLogged

theorem upsetHour_beyond (hq : s.dev.serviceRun = none) (hp : s.dev.pwr.por = false) (hon : s.dev.pageOn .hlt = true)
    (hu : s.dev.fld Reg.HLT.UPSET_LIMIT_COUNT < min s.dev.hlt.hourUpsets 0xFFFFFFFF) :
    Completes .upsetHour s fun d => Leaves [.hlt] (regs [Reg.HLT.UPS_HOUR]) [.hlt] s.dev d ∧ d.hlt.hourUpsets = 0 ∧ (d.sticky .hlt).getLsbD 3 = true := by
  have F : Frame [.alarms, .hlt] (fun a => regs [Reg.HLT.UPS_HOUR] a || a == Reg.HLT.SERVICE_LEVEL || a == Reg.SEC.SUMMARY) [.hlt] s.dev
      (s.dev.hourLogged (min s.dev.hlt.hourUpsets 0xFFFFFFFF)) := Frame.refl.hourLogged (by decide) (by decide)
  have hx := Effect.upsetHour hp rfl
  rw [if_pos hu] at hx
  refine hx.completes [.hlt] (regs [Reg.HLT.UPS_HOUR]) [.hlt] hq (by decide) (F.raise (.inl (by decide))) fun t hs hl =>
    ⟨hl, ?_, hs.kept .hlt (by decide) 3 (F.raised (by decide) (by decide) (by decide) hon (by decide))⟩
  have ht : t.hlt = _ := hs.block .hlt (by decide) (by decide)
  have hr : ((s.dev.hourLogged (min s.dev.hlt.hourUpsets 0xFFFFFFFF)).raise .hlt 3).hlt = _ := Device.same_raise .hlt
  rw [ht, hr]; exact Device.hourUpsets_hourLogged

/-- An upset is counted in its register and in the hour's sum. -/
theorem Effect.upset_completes {c : Instr} {a : Nat} (hx : Effect c s (s.dev.upset a)) (hq : s.dev.serviceRun = none) (ha : plainReg a = true) :
    Completes c s fun d => Leaves [.hlt] (regs [a]) [] s.dev d ∧ d.word a = counted (s.dev.word a) 1 ∧ d.hlt.hourUpsets = s.dev.hlt.hourUpsets + 1 := by
  refine hx.completes [.hlt] (regs [a]) [] hq (by decide) (Frame.refl.upset (by decide) (by simp [regs])) fun t hs hl => ?_
  have ht : t.hlt = _ := hs.block .hlt (by decide) (by decide)
  refine ⟨hl, ?_, by rw [ht]; rfl⟩
  rw [hs.plain rfl ha]
  exact Device.word_setWord_self _ _ _

theorem effect_sramScrub {findings : List ScrubFinding} (hp : s.dev.pwr.por = false) :
    Effect (.sramScrub findings) s (findings.foldl (fun (d : Device) (f : ScrubFinding) => d.scrubFound f) s.dev) :=
  Effect.of_run (show execSramScrub findings s = run _ s from rfl) (if_neg (by simp [hp]))

/-- A corrected word outside the coders is an upset. -/
theorem Device.scrubFound_corrected : d.scrubFound ⟨.other, false⟩ = d.upset Reg.HLT.UPS_MEM_CE := rfl

theorem effect_tmrVoteCorrection {page : Page} (hp : s.dev.pageOn page = true) : Effect (.tmrVoteCorrection page) s (s.dev.upset Reg.HLT.UPS_TMR) :=
  Effect.of_run (show execTmrVoteCorrection page s = run _ s from rfl) (if_pos hp)

/-! ### The loss of REFCLK (R598) -/

/-- Without REFCLK the frequency test of TREF stands still. -/
def Device.refclkGone (d : Device) : Device := { d with tim := { d.tim with refclk := false, freqLost := false } }

/-- What the registers of TREF show once its frequency is no longer tested; a TREF that the test had failed counts as present. -/
def Device.trefUntested (d : Device) (lost : Bool) : Device :=
  if d.domOn 1 then
    if lost then ((d.setFld Reg.TIM0.TREF_FREQ_KHZ 0).setFlag Reg.TIM0.STATUS_TREF_PRESENT true).evalLock else d.setFld Reg.TIM0.TREF_FREQ_KHZ 0
  else d

theorem Device.trefUntested_off {lost : Bool} (h : d.domOn 1 = false) : d.trefUntested lost = d := if_neg (by simp [h])

theorem Device.trefUntested_good {lost : Bool} (h : d.domOn 1 = true) (hl : lost = false) : d.trefUntested lost = d.setFld Reg.TIM0.TREF_FREQ_KHZ 0 :=
  (if_pos h).trans (if_neg (by simp [hl]))

theorem Device.trefUntested_lost {lost : Bool} (h : d.domOn 1 = true) (hl : lost = true) :
    d.trefUntested lost = ((d.setFld Reg.TIM0.TREF_FREQ_KHZ 0).setFlag Reg.TIM0.STATUS_TREF_PRESENT true).evalLock := (if_pos h).trans (if_pos hl)

theorem part_evalLock : d.evalLock.part = d.part :=
  (Frame.evalLock (bs := [.tim, .trg]) (rs := regs [Reg.TIM0.STATUS]) (ps := [.tim0]) Frame.refl (by decide) (by decide) (by decide) (by decide)).part

theorem Device.part_trefUntested {lost : Bool} : (d.trefUntested lost).part = d.part := by
  rw [Device.trefUntested]
  split
  · split
    · exact part_evalLock
    · rfl
  · rfl

theorem Device.presentLanes_congr (h : e.part = d.part) : e.presentLanes = d.presentLanes := by rw [Device.presentLanes, h]; rfl

/-- The lanes lose lock with cause 5, and the history memory fails where it was in use. -/
theorem effect_refclkLoss (he : s.dev.refclkGone.trefUntested s.dev.tim.freqLost = e)
    (hd : d = s.dev.presentLanes.foldl (fun (d : Device) l => d.loseLane l 5) e) :
    Effect .refclkLoss s (if d.hisState = 1 ∨ d.hisState = 2 then d.memoryFails else d) := by
  have hx : ∀ f, e.presentLanes.foldl (fun (d : Device) l => d.loseLane l 5) e = f →
      Effect .refclkLoss s (if f.hisState = 1 ∨ f.hisState = 2 then f.memoryFails else f) := by
    subst he
    rintro _ rfl
    rfl
  have hl : e.presentLanes = s.dev.presentLanes := Device.presentLanes_congr ((congrArg Device.part he).symm.trans Device.part_trefUntested)
  exact hx d (by rw [hl, hd])

/-! ### The writes of the store (R563, R565) -/

theorem Effect.journalCommit (hw : s.dev.nvs.prog = some w) (hp : s.dev.pageOn .nvs = true) (hc : s.dev.nvs.committed = false) :
    Effect .journalCommit s (s.dev.commitWrite w) :=
  Effect.of_run (show execJournalCommit s = run _ s from rfl) (by simp only [hw, hp, hc, Bool.not_false, Bool.and_self, if_true])

theorem Device.commitWrite_plain (h : (d.markCommitted.ownerDone w).authOf w = none) : d.commitWrite w = d.markCommitted.ownerDone w := by
  simp only [Device.commitWrite, h]

theorem Device.commitWrite_auth {a : AuthWork} (h : (d.markCommitted.ownerDone w).authOf w = some a) :
    d.commitWrite w = (d.markCommitted.ownerDone w).authCarryOut a := by
  simp only [Device.commitWrite, h]

theorem Effect.journalWriteDone {ok : Bool} (hw : s.dev.nvs.prog = some w) (hp : s.dev.pageOn .nvs = true) :
    Effect (.journalWriteDone ok) s (s.dev.writeDone w ok) :=
  Effect.of_run (show execJournalWriteDone ok s = run _ s from rfl) (by simp only [hw, hp, if_true])

theorem Device.writeDone_committed (hw : d.nvs.prog = some w) (hc : d.nvs.committed = true) : d.writeDone w true = (d.copyHome w).endWrite := by
  simp only [Device.writeDone, hc, hw, Bool.not_true, Bool.false_eq_true, if_false, if_true]

theorem effect_nvsPatrolRead {page : BitVec 11} {finding : ReadFinding} (hp : s.dev.pageOn .nvs = true) :
    Effect (.nvsPatrolRead page finding) s (s.dev.patrolRead page.toNat finding) :=
  Effect.of_run (show execNvsPatrolRead page finding s = run _ s from rfl) (if_pos hp)

/-- Settles O31: each command by the register, the event or the store write that it leaves. -/
theorem healthAndStore : Obligations.HealthAndStore := by
  unfold Obligations.HealthAndStore
  refine ⟨fun _ => effect_failedClustersUpdate_same,
    fun _ => effect_failedClustersUpdate_changed,
    fun _ _ => effect_replaceCauseClear,
    fun _ => effect_replaceEventRepeat,
    fun _ _ => effect_doseRead,
    fun _ => upsetHour_within,
    fun _ => upsetHour_beyond,
    fun s d h1 hd => effect_refclkLoss (Device.trefUntested_off (d := s.dev.refclkGone) h1) hd,
    fun s d h1 hf hd => effect_refclkLoss (Device.trefUntested_good (d := s.dev.refclkGone) h1 hf) hd,
    fun s d h1 hf hd => effect_refclkLoss (Device.trefUntested_lost (d := s.dev.refclkGone) h1 hf) hd,
    fun s hq hp => Effect.upset_completes (effect_sramScrub (findings := [⟨.other, false⟩]) hp) hq (by decide),
    fun _ _ => effect_sramScrub,
    fun s page hq hp => Effect.upset_completes (effect_tmrVoteCorrection hp) hq (by decide),
    fun s w hw hp hc ha => Device.commitWrite_plain ha ▸ Effect.journalCommit hw hp hc,
    fun s w a hw hp hc ha => Device.commitWrite_auth ha ▸ Effect.journalCommit hw hp hc,
    fun s w hw hp hc => Device.writeDone_committed hw hc ▸ Effect.journalWriteDone hw hp,
    fun _ _ hw hp => Effect.journalWriteDone hw hp,
    fun _ _ _ => effect_nvsPatrolRead⟩

end Sys2Proof.Machine
end
